-- ==== Sys2Proof/Syntax.lean ====
section
/-! DEFINITION. Syntax.lean: the commands and events that the block takes, one constructor per row of the opcode table, in its order, with
the operands that each row's rule needs. -/

namespace Sys2Proof

/-- The images of the drive library (R212). -/
inductive LibImage where
  | focPm | focIm | spd | tq | ct | gpll | afeI | afeV | fly | obs | lto | vent | hvp | hvc
  deriving DecidableEq, Repr

/-- The estimate that a FLY context holds (R229): whether it is valid, its attempt, whether T_VALID has passed since its end, the
estimated speed and the limits N_STILL, N_OVER and N_REV of its bank, all in 2^-23. -/
structure FlyEstimate where
  valid   : Bool
  attempt : Nat
  expired : Bool
  n       : Int
  nStill  : Int
  nOver   : Int
  nRev    : Int
  deriving DecidableEq, Repr

/-- The supplies that a monitor watches (R20, R21, R506) and VGD_IN. -/
inductive Supply where
  | vddCore | vddSaf | vddSrd | vdda18 | vddio18 | vddio33 | vddqDdr | v24si
  deriving DecidableEq, Repr

/-- The rows of the opcode table. -/
inductive Instr where
  /-- REGISTER_WRITE (R7): A supervisor write to a register field that has no row of its own, applied per field under its access code. -/
  | registerWrite (core a size v : Nat)
  /-- IRQ_CLAIM (R36): A read of IRQ_CLAIM returns and claims the highest-priority pending enabled source for that core. -/
  | irqClaim (core : Nat)
  /-- IRQ_DONE (R36): A write to IRQ_DONE completes a claimed source so that it can be offered again. -/
  | irqDone (core src : Nat)
  /-- D2D_FRAME_RECEIVED (R16): A supervisor die-link frame arrives; a bad frame is discarded and counted. -/
  | d2dFrameReceived (ok : Bool)
  /-- SYS_D2D_LOST (R17): After 4 consecutive bad or missing frames the HV die drives all half-bridges low and latches LINK. -/
  | sysD2dLost (dir : Nat)
  /-- SAFETY_LINK_FRAME (R364): A safety-link frame carries safe-input samples and read-back to its core; a bad frame repeats the
      previous sample. -/
  | safetyLinkFrame (link si rb : Nat) (ok : Bool)
  /-- SAFETY_LINK_LOST (R18): After 5 bad frames the HV die opens that link's safe-output switches and the island records the loss. -/
  | safetyLinkLost (link : Nat)
  /-- SUPPLY_LOSS (R20): A supply falls below its monitor threshold and resets the device, the ring domain or the supervisor domain. -/
  | supplyLoss (x : Supply)
  /-- V24_SI_LOSS (R21): Loss of V24_SI makes every safe input read safe and opens every safe-output switch. -/
  | v24SiLoss
  /-- PORST_N_ASSERTED (R491): A qualified low on PORST_N resets the device domain. -/
  | porstNAsserted
  /-- RST_N_ASSERTED (R491): A qualified low on RST_N resets the warm domain. -/
  | rstNAsserted
  /-- RESET_RELEASE (R491): The first rising edge of PORST_N or RST_N after qualification releases reset and samples BOOT_MODE. -/
  | resetRelease (porst : Bool) (bootMode : Nat)
  /-- WARM_RESET_REQUEST (R494): SYS_RST_REQ with key 0xA5 and domain 0x00 requests a warm reset. -/
  | warmResetRequest (key : Nat)
  /-- SUPERVISOR_RESET_REQUEST (R445): A supervisor domain reset from request, lockstep or watchdog clears SV_READY and answers
      outstanding commands with HST_SV_RESTART. -/
  | supervisorResetRequest (key : Nat)
  /-- RING_RESET_REQUEST (R19): A ring domain reset closes the bypass within 1 us. -/
  | ringResetRequest (key : Nat)
  /-- HOST_PORT_RESET_REQUEST (R27): A host port reset discards its queued commands without replies and counts the reset. -/
  | hostPortResetRequest (p : Nat)
  /-- ISLAND_RESET_REQUEST (R24): A supervisor request to reset the safety island is carried out only with every channel safe and every
      GDEN low. -/
  | islandResetRequest (key : Nat)
  /-- RT_LO_READ (R33): A read of RT_LO returns RT64[31:0] and snapshots RT_HI. -/
  | rtLoRead
  /-- PTP_SRC_WRITE (R48): Writing PTP_SRC nonzero on the master captures RT_PTP_OFS and makes RT64 slew toward PTP time. -/
  | ptpSrcWrite (v : Nat)
  /-- RT_LOCKED_ENTRY (R46): After 16 consecutive ring cycles with time error within 1 ns the discipline enters LOCKED. -/
  | rtLockedEntry
  /-- TB_RT_HOLDOVER (R46): After 4 ring cycles without a valid Crier the discipline enters HOLDOVER and holds its rate correction. -/
  | tbRtHoldover
  /-- TB_DEBUG_HALT (R49): A debug halt of the time base stops Bell launches and wheel extrapolation and forces all channels safe. -/
  | tbDebugHalt
  /-- TB_DEBUG_RELEASE (R49): Release of the time base halt launches passed time Bells as LATE and resumes wheels from their next
      update. -/
  | tbDebugRelease
  /-- TIME_BELL_LAUNCH (R62): A time Bell launches in the first tick with RT64 at or past WHEN, at most 8 per tick in action order. -/
  | timeBellLaunch
  /-- ANGLE_BELL_LAUNCH (R62): An angle Bell launches in the tick in which its wheel crosses the angle in its direction. -/
  | angleBellLaunch
  /-- BELL_POST (R66): A write of 1 to BELL_POST submits the staged entry unless a decision is under way. -/
  | bellPost (core v : Nat)
  /-- BELL_POST_DECISION (R66): Within 8 ticks the scheduler checks the entry, accepts it into the lowest free entry or refuses it. -/
  | bellPostDecision (core : Nat)
  /-- BELL_CANCEL (R68): A write of a handle to BELL_CANCEL requests removal of the Bell. -/
  | bellCancel (core handle : Nat)
  /-- BELL_CANCEL_DECISION (R68): The scheduler removes the Bell or answers TB_BELL_GONE. -/
  | bellCancelDecision (core : Nat)
  /-- RING_BELL_RECEIVED (R69): A Bell frame arrives; each target node accepts or refuses the ring Bell and answers. -/
  | ringBellReceived (org h w0 w1 w2 w3 w4 : Nat)
  /-- GO_CTL_WRITE (R65): A write to GO_CTL sets and clears general outputs. -/
  | goCtlWrite (v : Nat)
  /-- LG_MAP_WRITE (R72): A write to LG_MAP changes lock-group membership only while every affected channel is safe, else is refused
      whole. -/
  | lgMapWrite (v : Nat)
  /-- WHEEL_START (R523): A write setting WHL_n_CFG.EN starts the wheel with its offset and AGE cleared. -/
  | wheelStart (n v : Nat)
  /-- WHEEL_SOURCE_UPDATE (R52): A source sample places the wheel position, extrapolated to the current tick, and derives or takes the
      speed. -/
  | wheelSourceUpdate (n : Nat)
  /-- TB_WHEEL_STALE (R56): When AGE exceeds the stale limit the wheel stops advancing and its angle Bells do not launch. -/
  | tbWheelStale (n : Nat)
  /-- WHEEL_PRESET (R58): Writing PRESET sets the position to WHL_SET at the next tick and moves the source origin, without a crossing. -/
  | wheelPreset (n v : Nat)
  /-- WHEEL_SPEED_SET (R55): A write to WHL_SPD_SET moves the ring-time wheel's anchor and applies the new speed from the next tick. -/
  | wheelSpeedSet (n : Nat) (hi : Bool) (v : Nat)
  /-- WHEEL_POS_READ (R50): A read of WHL_n_POS_LO snapshots POS_HI and the speed. -/
  | wheelPosRead (n : Nat)
  /-- CONTEXT_TRIGGER (R79): A trigger to a context is accepted or dropped by T_MIN, advances DIV_CNT and, when it runs, snapshots
      inputs and fixes X6 and X7. -/
  | contextTrigger (c : Nat)
  /-- PROGRAM_START (R81): The head of an engine queue starts at the later of t0 + 4 and the previous end + 2 ticks. -/
  | programStart (e : Nat)
  /-- RESULT_LANDS (R111): An instruction's results land after its fixed latency and become visible to later instructions. -/
  | resultLands (e : Nat)
  /-- PROGRAM_END (R132): A program ends at cycle e + 3, its OUT values pass to the latch, sticky flags merge and the cycle-count
      monitor checks N. -/
  | programEnd (e : Nat)
  /-- OUTPUT_WRITE (R82): At t0 + OUTPHASE the output latch is written to its bound targets. -/
  | outputWrite (c : Nat)
  /-- CE_CTX_LATE (R83): In tick t0 + OUTPHASE − N + 1 a run that has not started is declared LATE, writes nothing and is counted. -/
  | ceCtxLate (c delay : Nat)
  /-- CE_LOAD (R86): LOAD checks fields, counts the image and runs admission on the candidate engines. -/
  | ceLoad (c eng : Nat)
  /-- CE_LOAD_COMPLETE (R86): The image walk and copy end and the context stands STOPPED on its engine. -/
  | ceLoadComplete
  /-- CE_START (R85): START puts a STOPPED context into RUN from its next trigger. -/
  | ceStart (c : Nat)
  /-- CE_STOP (R85): STOP puts a running or shadowing context into STOPPED after its current output write. -/
  | ceStop (c : Nat)
  /-- CE_UNLOAD (R85): UNLOAD returns a STOPPED or FAULT context to EMPTY and frees its memory. -/
  | ceUnload (c : Nat)
  /-- CE_SHADOW (R89): SHADOW runs a STOPPED context as the shadow of a live context from the next trigger. -/
  | ceShadow (c : Nat)
  /-- CE_HANDOVER (R91): The HANDOVER command arms a handover to the named shadow context. -/
  | ceHandover (c : Nat)
  /-- CE_BANK (R87): BANK makes a bank active for triggers after the tick in which it is decided. -/
  | ceBank (c arg : Nat)
  /-- CE_CLEAR (R84): CLEAR returns a FAULT context to STOPPED with CONSEC_LATE at 0. -/
  | ceClear (c : Nat)
  /-- DIVSYNC (R79): DIVSYNC sets DIV_CNT so that the next accepted trigger runs. -/
  | divsync (c : Nat)
  /-- EVACUATE (R98): EVACUATE moves every context of an engine to the spare without losing a write, or is refused. -/
  | evacuate (eng : Nat)
  /-- EVACUATE_COMPLETE (R98): The last context's state copy ends and its next run takes place on the spare. -/
  | evacuateComplete
  /-- RESET_ENG (R23): RESET_ENG puts the engine's bound channels safe and resets the engine domain. -/
  | resetEng (eng : Nat)
  /-- RESET_ENG_COMPLETE (R97): The engine reset and its closing signature test end, clearing FAULT when the test passes. -/
  | resetEngComplete (pass : Bool)
  /-- ENGINE_MEMORY_WRITE (R88): A supervisor write to engine memory is stored or discarded by the per-context guard. -/
  | engineMemoryWrite (a v : Nat)
  /-- CE_ENG_FAULT (R93): An engine failure is detected, its outputs are suppressed and its contexts fault or migrate; `src` 0 is an
      error in the engine's memory at `a` that is corrected in place. -/
  | ceEngFault (e src a : Nat)
  /-- SIGNATURE_TEST (R93): Once per SIG_PERIOD the engine runs its signature test in idle time. -/
  | signatureTest (e : Nat) (pass : Bool)
  /-- CE_SIG_STARVED (R93): A signature test not completed within 10 periods raises a WARN. -/
  | ceSigStarved (e : Nat)
  /-- MIGRATION_PROCEED (R94): Migration proceeds: the spare drops foreign contents, warm copies prepare to take over and cold copies
      start. -/
  | migrationProceed (e : Nat)
  /-- COLD_COPY_COMPLETE (R96): A context's cold copy completes and it resumes RUN on the spare at its next trigger. -/
  | coldCopyComplete (c : Nat) (ok : Bool)
  /-- CE_MIG_DONE (R97): When the copies finish the failed engine is reset, ABSORBED is set and the migration is recorded. -/
  | ceMigDone
  /-- ENGINE_HALT (R100): A debug halt takes effect at the end of the engine cycle, bound channels go safe. -/
  | engineHalt (e : Nat)
  /-- ENGINE_RESUME (R100): On resume an interrupted run is abandoned and queued runs are dropped. -/
  | engineResume (e : Nat)
  /-- ENGINE_SINGLE_STEP (R99): In single-step the halted engine executes one cycle. -/
  | engineSingleStep (e : Nat)
  /-- SPC_UPDATE (R103): Every 10 us each setpoint conditioner scales, dead-bands and rate-limits its source into OUT. -/
  | spcUpdate
  /-- NOP (R121): No operation; occupies one cycle. -/
  | nop (e p : Nat)
  /-- END (R132): Ends the program; results drain for two cycles. -/
  | endProgram (e : Nat)
  /-- BR (R130): Branches after two delay slots. -/
  | br (e : Nat) (ofs : Int)
  /-- CALL (R130): Pushes the return address and branches after two delay slots. -/
  | call (e : Nat) (ofs : Int)
  /-- RET (R130): Pops the return address and branches after two delay slots. -/
  | ret (e : Nat)
  /-- LOOP (R131): Repeats the following body COUNT times without overhead. -/
  | loop (e count : Nat) (ofs : Int)
  /-- CLRF (R115): Clears the named sticky flags. -/
  | clrf (e p m : Nat)
  /-- RDF (R121): Reads the flags into a G register. -/
  | rdf (e p gd : Nat)
  /-- MOV (R121): Copies a G register. -/
  | mov (e p gd ga : Nat)
  /-- MOVK (R121): Loads an immediate into a G register. -/
  | movk (e p gd imm : Nat)
  /-- SEL (R121): Selects one of two G registers by condition. -/
  | sel (e p cc gd ga gb : Nat)
  /-- MOVS (R118): Shifts, rounds and saturates an accumulator into a G register. -/
  | movs (e p gd ad : Nat) (sh : Int) (trunc : Bool)
  /-- LDA (R121): Loads a G register exactly into an accumulator. -/
  | lda (e p ad ga : Nat)
  /-- CLRA (R121): Clears an accumulator. -/
  | clra (e p ad : Nat)
  /-- ADDA (R121): Adds two accumulators with saturation. -/
  | adda (e p ad aa ab : Nat)
  /-- SUBA (R121): Subtracts two accumulators with saturation. -/
  | suba (e p ad aa ab : Nat)
  /-- ADD (R117): Saturating fractional addition. -/
  | add (e p gd ga gb : Nat)
  /-- SUB (R117): Saturating fractional subtraction. -/
  | sub (e p gd ga gb : Nat)
  /-- NEG (R117): Saturating negation. -/
  | neg (e p gd ga : Nat)
  /-- ABS (R117): Saturating absolute value. -/
  | abs (e p gd ga : Nat)
  /-- MIN (R121): Minimum of two G registers. -/
  | min (e p gd ga gb : Nat)
  /-- MAX (R121): Maximum of two G registers. -/
  | max (e p gd ga gb : Nat)
  /-- CLMP (R117): Clamps a value between two bounds. -/
  | clmp (e p gd ga gb gc : Nat)
  /-- ADDK (R117): Saturating addition of an immediate. -/
  | addk (e p gd ga imm : Nat)
  /-- CMP (R121): Sets flags from the exact difference of two registers. -/
  | cmp (e p ga gb : Nat)
  /-- CMPK (R121): Sets flags from the difference of a register and an immediate. -/
  | cmpk (e p ga imm : Nat)
  /-- ASH (R117): Arithmetic shift with saturating left shift. -/
  | ash (e p gd ga : Nat) (sh : Int)
  /-- HYST (R124): Hysteretic comparator writing full-on, full-off or its previous value. -/
  | hyst (e p gd ga gb : Nat)
  /-- SHA (R121): Shifts an accumulator with saturating left shift. -/
  | sha (e p ad aa : Nat) (sh : Int)
  /-- IADD (R117): Wrapping integer addition. -/
  | iadd (e p gd ga gb : Nat)
  /-- ISUB (R117): Wrapping integer subtraction. -/
  | isub (e p gd ga gb : Nat)
  /-- IADDK (R117): Wrapping integer addition of an immediate. -/
  | iaddk (e p gd ga imm : Nat)
  /-- AND (R121): Bitwise AND. -/
  | andBits (e p gd ga gb : Nat)
  /-- OR (R121): Bitwise OR. -/
  | orBits (e p gd ga gb : Nat)
  /-- XOR (R121): Bitwise exclusive OR. -/
  | xorBits (e p gd ga gb : Nat)
  /-- ANDK (R121): Bitwise AND with an immediate. -/
  | andk (e p gd ga imm : Nat)
  /-- LSH (R121): Logical shift with zero fill. -/
  | lsh (e p gd ga : Nat) (sh : Int)
  /-- MPY (R121): Multiplies two G registers into an accumulator. -/
  | mpy (e p ad ga gb : Nat) (q : Bool)
  /-- MAC (R112): Multiplies and accumulates with saturation. -/
  | mac (e p ad ga gb : Nat) (q : Bool)
  /-- MSU (R121): Multiplies and subtracts with saturation. -/
  | msu (e p ad ga gb : Nat) (q : Bool)
  /-- DMAC (R121): Two multiply-accumulates into two accumulators. -/
  | dmac (e p ad ga gb ae gc gf : Nat) (q : Bool)
  /-- MPYX (R121): Multiplies a G register by a memory operand. -/
  | mpyx (e p ad ga xn : Nat) (pm : Bool) (disp : Int) (q : Bool)
  /-- MACX (R121): Multiply-accumulates a memory operand. -/
  | macx (e p ad ga xn : Nat) (pm : Bool) (disp : Int) (q : Bool)
  /-- MSUX (R121): Multiply-subtracts a memory operand. -/
  | msux (e p ad ga xn : Nat) (pm : Bool) (disp : Int) (q : Bool)
  /-- DMACX (R121): Two multiply-accumulates with post-modified memory operands. -/
  | dmacx (e p ad ga x1 : Nat) (s1 : Int) (ae gb x2 : Nat) (s2 : Int) (q : Bool)
  /-- MULI (R118): Integer multiply keeping the low 24 bits. -/
  | muli (e p gd ga gb : Nat)
  /-- SINCOS (R123): Computes sine and cosine of an angle into a register pair. -/
  | sincos (e p gd ga : Nat)
  /-- ROT (R123): Rotates a vector by an angle into a register pair. -/
  | rot (e p gd ga gb gc : Nat) (inv : Bool)
  /-- RECIP (R123): Scaled reciprocal with saturation and divide flag. -/
  | recip (e p gd ga k : Nat)
  /-- RSQRT (R123): Scaled reciprocal square root with saturation and divide flag. -/
  | rsqrt (e p gd ga k : Nat)
  /-- LD (R125): Loads a data-memory word into a G register. -/
  | ld (e p gd xn : Nat) (pm : Bool) (disp : Int)
  /-- ST (R126): Stores a G register to data memory. -/
  | st (e p ga xn : Nat) (pm : Bool) (disp : Int)
  /-- LDX (R121): Loads an immediate into an address register. -/
  | ldx (e p xd imm : Nat)
  /-- MOVX (R121): Copies a G register into an address register. -/
  | movx (e p xd ga : Nat)
  /-- ADDX (R121): Adds an immediate to an address register. -/
  | addx (e p xd xa imm : Nat)
  /-- MOVM (R121): Loads a modulo length register. -/
  | movm (e p mn imm : Nat)
  /-- IN (R128): Reads a port into a G register. -/
  | inPort (e p gd port : Nat)
  /-- OUT (R129): Writes a value and written mark to an OUT port. -/
  | outPort (e p port ga : Nat)
  /-- RDSH (R128): Reads a ring share word from the last completed buffer. -/
  | rdsh (e p gd node word : Nat)
  /-- DMPYX (R121): Two multiplies with post-modified memory operands. -/
  | dmpyx (e p ad ga x1 : Nat) (s1 : Int) (ae gb x2 : Nat) (s2 : Int) (q : Bool)
  /-- PERIOD_BOUNDARY (R149): The channel counter returns to 0; pending commits transfer the shadows and arming requests are decided. -/
  | periodBoundary (n : Nat)
  /-- CH_COMMIT (R158): A write of COMMIT sets the channel's transfer request for the next boundary. -/
  | chCommit (n : Nat)
  /-- CH_ARM (R169): A write of ARM requests arming at the next boundary, checked at the write and at the boundary. -/
  | chArm (n : Nat)
  /-- TRIGGER_COMPARE_FIRE (R161): A trigger compare fires when the counter equals its value and drives the trigger network. -/
  | triggerCompareFire (n k : Nat)
  /-- COMPARE_MATCH (R150): The counter reaches a leg compare and the leg's requested state changes. -/
  | compareMatch (n m : Nat) (low : Bool)
  /-- DEAD_TIME_ELAPSED (R152): An output turns on after its dead time has elapsed. -/
  | deadTimeElapsed (n m : Nat) (high : Bool)
  /-- HR_CALIBRATION (R151): Every 1 ms a replica delay line is measured and the trim applied; a trim at range end sets HR_FAIL. -/
  | hrCalibration (n trim : Nat) (atEnd : Bool)
  /-- PATTERN_CHECK (R164): Writing CHECK starts validation of a pattern table. -/
  | patternCheck (n tbl : Nat)
  /-- PATTERN_CHECK_DONE (R164): Validation ends and sets or clears the table's VALID bit and CHK_ERR. -/
  | patternCheckDone (n : Nat)
  /-- PATTERN_MEMORY_WRITE (R164): A write to a pattern table clears its VALID bit, or is refused for the table in use. -/
  | patternMemoryWrite (n i v : Nat)
  /-- PATTERN_ENTRY (R165): The pattern angle reaches an entry and the pattern-mode legs take its state. -/
  | patternEntry (n : Nat)
  /-- MODE_SWITCH (R166): An armed mode change takes place in the first tick in the sync window with matching requests. -/
  | modeSwitch (n : Nat)
  /-- SYNC_WINDOW_EXIT (R166): The pattern angle leaves the sync window without a switch and MISS increments. -/
  | syncWindowExit (n : Nat)
  /-- TRIP_SOURCE_QUALIFIED (R170): A trip source qualifies and sets the latch of its groups, taking their legs Hi-Z. -/
  | tripSourceQualified (src : Nat) (active : Bool)
  /-- NPC_STAGE_EXPIRY (R172): STAGE ticks after a trip the inner NPC switches go Hi-Z. -/
  | npcStageExpiry (n p : Nat)
  /-- FCLK_LOSS (R174): The clock monitor removes every non-chopper output without FCLK. -/
  | fclkLoss
  /-- FCLK_RETURN (R490): FCLK returns, the held state continues with channels safe and TRP_CLK_LOSS is recorded. -/
  | fclkReturn (ns : Nat)
  /-- TRP_CLR (R175): A write to TRP_CLR clears the latches of quiet groups and refuses the others. -/
  | trpClr (v : Nat)
  /-- SD_COMPARATOR_ACTIVE (R185): A fast comparator goes active or inactive after CMP_CNT consecutive edges. -/
  | sdComparatorActive (i : Nat) (active : Bool)
  /-- MEA_SD_STUCK (R186): An input unchanged for 256 sampling edges sets STUCK and INVALID. -/
  | meaSdStuck (i : Nat)
  /-- SD_STUCK_CLEAR (R186): STUCK and INVALID clear 3 × CTL_OSR − 2 edges after the data changes. -/
  | sdStuckClear (i : Nat)
  /-- SEQUENCE_TRIGGER (R188): A trigger compare starts a SAR sequence, or is dropped if it is still pending. -/
  | sequenceTrigger (q : Nat)
  /-- BACKGROUND_SCAN_START (R192): Every SCAN_PER us each scan channel is queued once. -/
  | backgroundScanStart
  /-- SAR_SLOT_START (R188): A converter starts a slot for its highest-precedence work. -/
  | sarSlotStart (adc t : Nat)
  /-- SAR_CONVERSION_DONE (R190): A conversion completes with its result and sample instant. -/
  | sarConversionDone (adc code : Nat)
  /-- RESOLVER_CONVERSION (R197): A resolver pair is converted after each excitation peak and the angle computed. -/
  | resolverConversion (r sn cs : Nat) (neg : Bool) (t : Nat)
  /-- ENCODER_EDGE (R195): A qualified encoder edge changes the count and stores its tick. -/
  | encoderEdge (n : Nat) (a b : Bool) (rt : Nat)
  /-- ENCODER_INDEX (R196): A Z edge captures the count and tick and may reset the count or check CPT. -/
  | encoderIndex (n rt : Nat)
  /-- ENCODER_CLR (R196): Writing CLR sets the count to 0 at the next tick. -/
  | encoderClr (n v : Nat)
  /-- SSI_FRAME_START (R199): An SSI frame starts on its timer or trigger, or is skipped within MONO. -/
  | ssiFrameStart (p rt : Nat)
  /-- SSI_FRAME_DONE (R200): An SSI frame completes and updates the position or is discarded as an error. -/
  | ssiFrameDone (p word : Nat) (high low : Bool)
  /-- SSI_CFG_WRITE (R199): A write enabling an SSI port is stored only with a consistent frame layout, else refused whole. -/
  | ssiCfgWrite (p v : Nat)
  /-- PULSE_INPUT_EDGE (R201): A rising edge on a pulse input updates its frequency or duty value. -/
  | pulseInputEdge (q t high : Nat)
  /-- POS_PLS_TIMEOUT (R201): No rising edge for TO ms sets INVALID. -/
  | posPlsTimeout (q : Nat)
  /-- CAPTURE_EDGE (R202): A selected edge stores its RT64 in the capture FIFO or overruns. -/
  | captureEdge (c : Nat) (rising : Bool) (rt : Nat)
  /-- CAPTURE_POP (R202): A read of CAP_c_LO pops the oldest entry and snapshots its upper half. -/
  | capturePop (c : Nat)
  /-- LIB_START (R215): The library START command starts the function. -/
  | libStart (k : LibImage) (c j arg : Nat)
  /-- LIB_STOP (R215): The library STOP command stops the function. -/
  | libStop (k : LibImage) (c j arg : Nat)
  /-- LIB_DECIDE (R230): The library DECIDE command applies a host decision code. -/
  | libDecide (k : LibImage) (c j code : Nat) (e : FlyEstimate)
  /-- LIB_CLEAR (R215): The library CLEAR command leaves the function's FAULT state. -/
  | libClear (k : LibImage) (c j arg : Nat)
  /-- LIB_STATUS_POLL (R216): Every millisecond firmware reads library status words and records STATE or REASON changes. -/
  | libStatusPoll (k : LibImage) (c : Nat)
  /-- GETHOME_HANDOVER_POST (R233): On an encoder error with get-home enabled firmware posts HANDOVER Bells for the pair. -/
  | gethomeHandoverPost (n when_ : Nat)
  /-- AUX_CARRIER_BOUNDARY (R241): An auxiliary carrier boundary transfers duties and runs refresh and axis coil updates. -/
  | auxCarrierBoundary (c : Nat)
  /-- AUX_GD_UV (R243): VDRV undervoltage drives every gate low and latches GD_UV. -/
  | auxGdUv (mv : Nat)
  /-- BOOTSTRAP_UVLO (R244): A bootstrap below 7.0 V forces HO low. -/
  | bootstrapUvlo (n : Nat)
  /-- BOOTSTRAP_UV_RELEASE (R244): A bootstrap qualified above 7.6 V releases HO. -/
  | bootstrapUvRelease (n : Nat)
  /-- CURRENT_LIMIT_HIT (R247): An ILIM comparator takes the HO outputs of its limit set low until the next commanded rise. -/
  | currentLimitHit (n : Nat)
  /-- AUX_OC (R247): An IOC comparator drives both outputs low and latches OC. -/
  | auxOc (n : Nat)
  /-- AUX_VBR_UV (R248): Bridge supply undervoltage holds all gates low while set. -/
  | auxVbrUv (mv : Nat)
  /-- VBR_UV_RELEASE (R248): Bridge supply above 10.8 V releases the gates. -/
  | vbrUvRelease (mv : Nat)
  /-- AUX_VBR_OV (R248): Bridge supply overvoltage drives all gates low and latches VBR_OV. -/
  | auxVbrOv (mv : Nat)
  /-- AUX_EN_LOW (R250): AUX_EN qualified low holds every half-bridge low. -/
  | auxEnLow
  /-- AUX_EN_CLEAR (R250): A qualified AUX_EN rise after 10 us low clears the latches whose causes have ended. -/
  | auxEnClear
  /-- LEAK_TEST_START (R251): Writing START begins a gate-leakage test, or refuses it. -/
  | leakTestStart (n side tTest : Nat)
  /-- LEAK_TEST_DONE (R251): The leakage test ends with CODE and may latch LEAK. -/
  | leakTestDone (n rise : Nat) (opened : Bool)
  /-- ZERO_CROSSING (R255): A back-EMF zero crossing is recognised and reported to the commutator. -/
  | zeroCrossing (k t code : Nat)
  /-- COMMUTATION (R256): At crossing + D the commutator advances its sector. -/
  | commutation (k : Nat)
  /-- SECTOR_MISS (R256): A sector without crossing commutates on time and counts a miss; six lose lock. -/
  | sectorMiss (k : Nat)
  /-- CMU_START (R257): START takes the commutator from IDLE to SENSE. -/
  | cmuStart (k : Nat)
  /-- CMU_STOP (R264): STOP ends the commutator at once or through BRAKE. -/
  | cmuStop (k : Nat) (brk : Bool)
  /-- CMU_DECIDE (R259): DECIDE applies a permitted host decision code. -/
  | cmuDecide (k code iovr : Nat)
  /-- CMU_CLEAR (R264): CLEAR returns the commutator from FAULT to IDLE. -/
  | cmuClear (k : Nat)
  /-- SENSE_END (R258): After T_SENSE the estimate is decided or proposed. -/
  | senseEnd (k : Nat)
  /-- BRAKE_END (R260): BRAKE ends after 50 ms of low current, or times out after 10 s. -/
  | brakeEnd (k : Nat) (late : Bool) (peak : Nat)
  /-- ALIGN_END (R261): T_ALIGN ends and the commutator enters RAMP. -/
  | alignEnd (k : Nat)
  /-- RAMP_END (R261): T_RAMP ends and the commutator waits for lock at T_SYNC. -/
  | rampEnd (k : Nat)
  /-- LOCK_ACHIEVED (R261): LOCK_N consecutive crossings move the commutator to RUN. -/
  | lockAchieved (k : Nat)
  /-- CMU_START_FAIL (R262): An attempt fails after 36 sectors without lock and the decision function follows. -/
  | cmuStartFail (k : Nat)
  /-- CMU_WAIT_END (R262): After T_RETRY the commutator re-enters SENSE. -/
  | cmuWaitEnd (k : Nat)
  /-- STP_ENABLE (R275): ENABLE drives the coils and enters HOLD. -/
  | stpEnable (n : Nat)
  /-- STP_DISABLE (R275): DISABLE releases the half-bridges and enters DISABLED. -/
  | stpDisable (n : Nat)
  /-- STP_START (R275): START enters RUN in POSITION or GEAR mode. -/
  | stpStart (n : Nat)
  /-- STP_STOP (R275): STOP decelerates the axis to HOLD. -/
  | stpStop (n : Nat)
  /-- STP_HOME (R285): HOME starts the homing phases. -/
  | stpHome (n : Nat)
  /-- STP_CLEAR (R275): CLEAR returns a FAULT axis to DISABLED. -/
  | stpClear (n : Nat)
  /-- SET_POS (R275): SET_POS sets the position to TARGET and marks the axis homed. -/
  | setPos (n : Nat)
  /-- STP_HW_LIMIT (R281): A qualified limit switch decelerates the axis at AEMG and holds its target. -/
  | stpHwLimit (n : Nat) (hi : Bool)
  /-- HOMING_PHASE_END (R285): A homing phase ends on its home-input condition and the next begins. -/
  | homingPhaseEnd (n : Nat)
  /-- HOLD_STANDBY (R275): After T_STBY at rest the coil current falls to IHOLD. -/
  | holdStandby (n : Nat)
  /-- STP_LAG (R284): A geared lag beyond LAG_MAX sets LAG. -/
  | stpLag (n : Nat)
  /-- DCL_UPDATE (R302): Every 10 us DCL compares OVC, computes LIM_REG, runs overrides and writes the delivered words. -/
  | dclUpdate
  /-- DL_ENABLE_WRITE (R295): A write of EN to a DC-link monitor is stored only with ordered thresholds. -/
  | dlEnableWrite (m v : Nat)
  /-- CHOPPER_COMMAND_CHANGE (R294): Udc at CH_ON or CH_OFF for 2 edges turns the chopper command on or off. -/
  | chopperCommandChange (m : Nat)
  /-- DCL_WARN (R294): Udc above WARN for WARN_T sets WARN and starts suspended-load holds. -/
  | dclWarn (m : Nat)
  /-- DC_LINK_WARN_CLEAR (R294): Udc below WARN − WARN_HYS for 1 ms clears WARN. -/
  | dcLinkWarnClear (m : Nat)
  /-- DCL_TRIP (R296): Udc at TRIP for TRIP_CNT edges latches the trip and trips the members. -/
  | dclTrip (m : Nat)
  /-- DCL_MEAS_LOST (R297): An invalid link measurement turns the chopper off and latches the trip with cause 4. -/
  | dclMeasLost (m : Nat)
  /-- DCL_CHOP_FAIL (R299): A chopper without current for 50 us, or a TG7 latch, latches CHOP_FAIL. -/
  | dclChopFail (m src : Nat)
  /-- CHOPPER_FALLBACK_EXPIRY (R300): After FB_ON on clock loss a chopper leg goes Hi-Z. -/
  | chopperFallbackExpiry (m : Nat)
  /-- CLEAR_DL (R296): CLEAR_DL clears a trip latch and CHOP_FAIL when allowed. -/
  | clearDl (m : Nat)
  /-- DECIDE_CHOP (R301): DECIDE_CHOP applies a chopper-failure reaction. -/
  | decideChop (m code : Nat)
  /-- ACCEPT_PB (R311): ACCEPT_PB applies pending higher grants. -/
  | acceptPb (mask : Nat)
  /-- DCL_DECIDE_SHARE (R315): DECIDE_SHARE redistributes or keeps a share group after a drop-out. -/
  | dclDecideShare (g code : Nat)
  /-- DCL_HOLD (R304): HOLD takes a suspended-load channel to BRAKING. -/
  | dclHold (c : Nat)
  /-- CLEAR_CH (R307): CLEAR_CH ends a suspended-load hold when conditions allow. -/
  | clearCh (c : Nat)
  /-- BRAKE_TIME_EXPIRY (R304): T_BRK after braking begins the channel goes safe and reaches HELD. -/
  | brakeTimeExpiry (c : Nat)
  /-- TRIP_LEAD_EXPIRY (R305): TRIP_LEAD ticks after a DC-link trip torque is removed from a suspended-load channel. -/
  | tripLeadExpiry (c : Nat)
  /-- POWER_BUDGET_PASS (R310): Every 100 us the arbiter divides the budget among classes and updates s_budget. -/
  | powerBudgetPass
  /-- DCL_FLR (R313): FLR_N qualified low reduces the budget. -/
  | dclFlr
  /-- FLR_RELEASE (R313): FLR_N released restores the budget. -/
  | flrRelease
  /-- SHARE_SPLIT (R314): In the tick after the leader's T write DCL writes t to members and the echo to the leader. -/
  | shareSplit (g : Nat)
  /-- RING_CYCLE_START (R329): At start(k) the master sends Criers and every node freezes its share words, wheel blocks and status. -/
  | ringCycleStart
  /-- CRIER_RECEIVED (R339): A Crier arrives; the node corrects CORR, disciplines RT64 and acts on ADMIT and HANDOFF. -/
  | crierReceived (dirB wrap ok : Bool) (fine residence : Nat) (payload : List Nat)
  /-- SHARE_FRAME_RECEIVED (R332): A share frame arrives and is held for the buffer of its cycle. -/
  | shareFrameReceived (src cyc16 : Nat) (ok : Bool) (stat : List Nat) (whls : List (List Nat)) (words : List Nat)
  /-- SHARE_BUFFER_COMPLETE (R331): At c(k) the received words replace the previous buffer and load-share and remote wheels update. -/
  | shareBufferComplete
  /-- TELLTALE_FRAME_RECEIVED (R350): A Telltale frame from the ring is handed to the island. -/
  | telltaleFrameReceived (src : Nat) (ok : Bool) (f : List Nat)
  /-- BULK_FRAME_RECEIVED (R334): A bulk frame is taken, forwarded or reassembled into a message. -/
  | bulkFrameReceived (dirB : Bool) (src : Nat) (ok : Bool) (pl : List Nat)
  /-- BULK_MESSAGE_TIMEOUT (R335): A message incomplete 64 cycles after its first fragment is discarded. -/
  | bulkMessageTimeout (src chan : Nat)
  /-- BULK_FRAME_SEND (R333): A node sends its own bulk frame when the buffer is empty and time remains before the Crier. -/
  | bulkFrameSend
  /-- DELAY_REQUEST (R338): Every 64 cycles a node sends a Delay request downstream. -/
  | delayRequest (fine : Nat)
  /-- DELAY_FRAME_RECEIVED (R338): A Delay request is answered, or an answer updates the filtered hop delay. -/
  | delayFrameReceived (answer ok : Bool) (t1 t2 t3 fine val : Nat)
  /-- APPLY_PLAN (R336): APPLY_PLAN checks the master's plan and schedules a new version or refuses. -/
  | applyPlan
  /-- DRG_DECIDE_SHARE (R353): DECIDE_SHARE redistributes or keeps after a ring load-share drop-out. -/
  | drgDecideShare (code : Nat)
  /-- DRG_CNT_CLEAR (R355): The clear command zeroes DRG_CNT. -/
  | drgCntClear
  /-- JOIN (R340): Writing JOIN lets the node listen for admission. -/
  | join (v : Nat)
  /-- LEAVE (R342): LEAVE marks the node leaving and closes its bypass before start(k + 2). -/
  | leave
  /-- RING_START (R341): A master or backup hearing no Crier for its wait time starts the ring. -/
  | ringStart
  /-- DRG_MASTER_LOST (R343): The backup declares the master lost after 2 missing Criers and sends as acting master. -/
  | drgMasterLost
  /-- DRG_MASTER_CHANGE (R344): After 256 locked cycles of a returned master the acting master hands off. -/
  | drgMasterChange (new : Nat)
  /-- DRG_WRAP (R346): A hop declared down sends the fault ordered set and the node loops its traffic back. -/
  | drgWrap (up : Bool) (cause : Nat)
  /-- DRG_UNWRAP (R347): After 16 cycles of valid Criers both ways the node unwraps. -/
  | drgUnwrap (up : Bool)
  /-- SAFETY_TICK (R359): Every 250 us each core takes its inputs, evaluates every function, decides and exchanges decisions. -/
  | safetyTick (diff : Nat) (tap0 tap1 : Int) (tapErr : Nat) (sd : List (List (Nat × Int))) (fclkA fclkB gden : Nat)
  /-- ISLAND_SELF_TEST_DONE (R361): The island's self-tests pass and it enters WAIT_CFG, or fail into FAULT. -/
  | islandSelfTestDone (ok : Bool)
  /-- ISLAND_WATCHDOG_EXPIRY (R362): A missed window-watchdog service resets the island. -/
  | islandWatchdogExpiry
  /-- SAF_DISC (R366): A second input channel not following within T_DISC latches DISC. -/
  | safDisc (i : Nat)
  /-- OUTPUT_TEST_END (R370): A dark or light test of a safe-output switch ends and is judged. -/
  | outputTestEnd (i : Nat)
  /-- SS1_TIMER_EXPIRY (R378): T_SS1 after an SS1 demand STO follows, or a ramp function that has not completed violates. -/
  | ss1TimerExpiry (n : Nat)
  /-- SLS_GRACE_EXPIRY (R380): SLS_T after a lower limit is selected the new limit takes force. -/
  | slsGraceExpiry (n : Nat)
  /-- SHH_BRAKE_TIME_EXPIRY (R383): At T_SHH Safe Hoist Hold tests movement and decides STO or slip. -/
  | shhBrakeTimeExpiry (n : Nat)
  /-- SHH_MAX_EXPIRY (R383): At T_SHH_MAX Safe Hoist Hold decides STO. -/
  | shhMaxExpiry (n : Nat)
  /-- SBT_PHASE_END (R384): A brake-test phase ends; after SBT_T the result is judged. -/
  | sbtPhaseEnd (n : Nat)
  /-- SAF_SBT_DUE (R384): SBT_PER hours after the last pass the brake test becomes due. -/
  | safSbtDue (n : Nat)
  /-- TELLTALE_TRANSMIT (R397): A transmit connection sends a frame every TT_PERIOD or after a content change. -/
  | telltaleTransmit (c : Nat)
  /-- SAF_TT_LOST (R400): TT_WD without an accepted frame puts a receive connection in LOST. -/
  | safTtLost (c : Nat)
  /-- PASSWORD_SESSION_TIMEOUT (R392): An entry session ends after 10 minutes without an accepted command. -/
  | passwordSessionTimeout
  /-- PASSWORD_LOCK_END (R392): The 10-minute entry lock ends and FAILS returns to 0. -/
  | passwordLockEnd
  /-- SAF_CMD_DATA_WRITE (R401): A write to SAF_CMD_DATA pushes a word into the command FIFO or sets OVR. -/
  | safCmdDataWrite (v : Nat)
  /-- GO (R401): GO closes the words written since the last GO as one message. -/
  | go
  /-- FLUSH (R401): FLUSH discards unclosed words and clears OVR. -/
  | flush
  /-- ENTER (R392): ENTER opens an entry session with the password, or counts a failure. -/
  | enter
  /-- EXIT (R392): EXIT ends the entry session. -/
  | exit
  /-- SET_PW (R392): SET_PW programs a new salt and password hash and logs it. -/
  | setPw
  /-- CFG_LOAD (R403): CFG_LOAD stages configuration words at an offset. -/
  | cfgLoad
  /-- CFG_CHECK (R390): CFG_CHECK validates the staged block and writes its hash, or refuses it. -/
  | cfgCheck
  /-- CFG_START (R391): CFG_START enters RUN when the staged hash equals the tally hash. -/
  | cfgStart
  /-- ACTIVATE (R393): ACTIVATE programs the new configuration hash, logs it and puts the configuration in force. -/
  | activate
  /-- LOG_ACK (R394): LOG_ACK releases the pending log record. -/
  | logAck
  /-- REQ_STO (R403): REQ_STO adds a host STO demand on the named channels. -/
  | reqSto
  /-- REL_STO (R386): REL_STO ends the host's own STO demand. -/
  | relSto
  /-- ISLAND_ACK (R385): The ACK command acknowledges the named channels. -/
  | islandAck
  /-- SBT_START (R384): SBT_START begins a safe brake test, or is refused. -/
  | sbtStart
  /-- TT_RX (R399): TT_RX hands a received Telltale frame to the island for checking. -/
  | ttRx
  /-- CAN_INIT_SET (R408): Setting INIT takes the controller off the bus at the end of the frame. -/
  | canInitSet (n : Nat)
  /-- CAN_INIT_CLEAR (R409): Clearing INIT checks bit timing and starts integration or recovery. -/
  | canInitClear (n : Nat)
  /-- CAN_BUS_JOIN (R408): After 11 recessive bits the controller joins the bus. -/
  | canBusJoin (n : Nat)
  /-- CAN_BUS_OFF_RECOVERY (R408): After 128 occurrences of 11 recessive bits the counters clear and the node is error active. -/
  | canBusOffRecovery (n : Nat)
  /-- CAN_MESSAGE_RAM_WRITE (R412): A write to a transmit element while TXREQ is set is discarded and recorded. -/
  | canMessageRamWrite (n ofs v : Nat)
  /-- CAN_TX_REQUEST (R412): Writing TXREQ requests transmission of an object. -/
  | canTxRequest (n k : Nat)
  /-- CAN_TX_ABORT (R413): Writing ABORT ends or lets finish an object's request. -/
  | canTxAbort (n k : Nat)
  /-- CAN_TX_COMPLETE (R412): A transmission ends, TXREQ clears and RESULT is set. -/
  | canTxComplete (n sof tdcv : Nat)
  /-- CAN_FRAME_RECEIVED (R414): A valid frame is matched and stored in an entry, the FIFO or an object. -/
  | canFrameReceived (n w0 w1 sof : Nat) (data : List Nat)
  /-- CAN_PROTOCOL_ERROR (R416): A protocol error updates the counters, LEC and possibly the error state. -/
  | canProtocolError (n kind step : Nat) (tx dataPhase body : Bool)
  /-- CAN_FIFO_ACK (R415): A write of ACK releases receive FIFO elements. -/
  | canFifoAck (n k : Nat)
  /-- HP_ACK (R415): A write of HP_e_CFG.ACK releases high-priority entry elements. -/
  | hpAck (n e k : Nat)
  /-- HSPI_WRITE_FRAME (R425): An HSPI write transaction delivers a frame at CS_N rise. -/
  | hspiWriteFrame (b : List Nat)
  /-- HSPI_READ_FRAME (R425): An HSPI read transaction returns and, if complete, removes the oldest outbound frame. -/
  | hspiReadFrame (n : Nat)
  /-- HSPI_STATUS (R424): An HSPI status transaction returns the status bytes only. -/
  | hspiStatus (op : Nat)
  /-- ETH_FRAME_RECEIVED (R426): An Ethernet frame is timestamped and dispatched or discarded. -/
  | ethFrameReceived (p kind addr id ofs : Nat) (more : Bool) (data : List Nat)
  /-- ETH_FRAGMENT_TIMEOUT (R426): An IPv4 datagram incomplete after 100 ms is discarded. -/
  | ethFragmentTimeout (p id : Nat)
  /-- HST_LINK_DOWN (R431): An Ethernet link goes down and that port's events and replies are discarded. -/
  | hstLinkDown (p : Nat)
  /-- PTP_STEP (R427): A write to PTP_m_STEP steps the PTP clock. -/
  | ptpStep (m v : Nat)
  /-- PTP_SEC_READ (R427): A read of PTP_m_SEC_LO snapshots SEC_HI and NS. -/
  | ptpSecRead (m : Nat)
  /-- HOST_FRAME_RECEIVED (R428): A host frame is checked, queued, answered by the port hardware or forwarded over the ring. -/
  | hostFrameReceived (p addr : Nat) (b : List Nat)
  /-- PING (R430): PING returns node, stepping, firmware version and RT64. -/
  | ping (o tag : Nat)
  /-- HOST_READ (R430): READ returns words from an address. -/
  | hostRead (o tag : Nat)
  /-- HOST_WRITE (R430): WRITE writes words with firmware's rights and reports the first refusal. -/
  | hostWrite (o tag : Nat)
  /-- SUBSCRIBE (R431): SUBSCRIBE sets the port's event severity and subsystem mask. -/
  | subscribe (o tag : Nat)
  /-- HOST_BELL (R430): The BELL command posts a Bell and returns its result. -/
  | hostBell (o tag : Nat)
  /-- HOST_BELL_CANCEL (R430): The BELL_CANCEL command cancels a Bell. -/
  | hostBellCancel (o tag : Nat)
  /-- HOST_CE (R430): The CE command issues a CE command and returns its result. -/
  | hostCe (o tag : Nat)
  /-- DECIDE (R434): DECIDE passes a host decision to the unit as its own command. -/
  | hostDecide (o tag : Nat) (e : FlyEstimate)
  /-- ASSIST_SET (R432): ASSIST_SET sets a decision function's mode and deadline. -/
  | assistSet (o tag : Nat)
  /-- TUNE (R439): TUNE starts an identification run of a context with a generator. -/
  | tune (o tag : Nat)
  /-- TUNE_RUN_END (R439): At the end of the run firmware writes gains to the inactive bank and proposes them. -/
  | tuneRunEnd (o tag : Nat) (gains : List (Nat × Nat))
  /-- GETHOME (R233): GETHOME enables or disables get-home operation for a channel. -/
  | gethome (o tag : Nat)
  /-- SAFETY (R430): SAFETY passes one island message with the port number and returns SAF_RESP. -/
  | safety (o tag : Nat)
  /-- ERR_LOG (R430): ERR_LOG returns retained error records. -/
  | errLog (o tag : Nat)
  /-- HOST_RESET (R430): RESET requests a domain reset. -/
  | hostReset (o tag : Nat)
  /-- HOST_REC_START (R456): The host REC_START command starts recorder streams. -/
  | hostRecStart (o tag : Nat)
  /-- EVENT_SEND (R431): After a record's handling firmware sends it as an event to each subscribed port. -/
  | eventSend
  /-- DECISION_DEADLINE (R433): A decision deadline expires and the function's deadline code is applied. -/
  | decisionDeadline (f unit : Nat)
  /-- FAULT_RESTART (R438): In AUTO firmware restarts a non-safety fault 1 s after it, up to 3 times in 10 minutes. -/
  | faultRestart (kind inst : Nat)
  /-- ERR_RECORDS_STORED (R440): At the end of a tick ERR numbers and stores the tick's records in its domain queues. -/
  | errRecordsStored
  /-- ERR_CLAIM (R442): A read of ERR_d_CLAIM claims the oldest record of the highest qualifying severity. -/
  | errClaim (k : Nat)
  /-- ERR_DONE (R442): A write to ERR_d_DONE ends the top record in handling. -/
  | errDone (k v : Nat)
  /-- ERR_RAISE_GO (R444): A write of GO raises the staged firmware record. -/
  | errRaiseGo (core v : Nat)
  /-- SV_READY_SET (R446): Firmware sets SV_READY, raises HST_SV_RESTART and forwards accumulated records. -/
  | svReadySet
  /-- SCRUB_READ (R450): Every SCRUB_DIV ticks the scrubber reads and corrects one word of each region. -/
  | scrubRead (outcomes : List Nat)
  /-- DDR_TRAIN (R451): Writing TRAIN initialises and trains the LPDDR4 part. -/
  | ddrTrain
  /-- DDR_TRAIN_DONE (R451): Training ends with TRAINED set or MEM_DDR_TRAIN_FAIL. -/
  | ddrTrainDone (ok : Bool) (size step : Nat)
  /-- OSPI_ERASE_4K (R453): OSPI_CMD op 0x1 erases a 4 KB sector, or is refused. -/
  | ospiErase4k
  /-- OSPI_ERASE_64K (R453): OSPI_CMD op 0x2 erases a 64 KB sector, or is refused. -/
  | ospiErase64k
  /-- OSPI_PROGRAM (R453): OSPI_CMD op 0x3 programs 256 bytes from OSPI_SRC, or is refused. -/
  | ospiProgram
  /-- OSPI_OPERATION_DONE (R453): A flash erase or program completes, or fails with MEM_FLASH_ERR. -/
  | ospiOperationDone (ok : Bool)
  /-- REC_START (R457): A write to REC_START admits or refuses streams against the bandwidth budget. -/
  | recStart (mask : Nat)
  /-- REC_STOP (R456): A write to REC_STOP stops linear streams and starts POST counts of ring streams. -/
  | recStop (mask : Nat)
  /-- REC_RECORD_TAKEN (R454): A stream takes a record at its trigger, or drops it within MIN_INT. -/
  | recRecordTaken (n : Nat)
  /-- UPD_OPEN (R463): UPD_OPEN opens an update session or is refused IMG_BUSY. -/
  | updOpen (o tag : Nat)
  /-- UPD_BLOCK (R464): UPD_BLOCK checks and writes one block of STAGING. -/
  | updBlock (o tag : Nat)
  /-- UPD_STATUS (R462): UPD_STATUS returns blocks received and the lowest missing offset. -/
  | updStatus (o tag : Nat)
  /-- UPD_VERIFY (R461): UPD_VERIFY verifies STAGING and returns the result. -/
  | updVerify (o tag : Nat)
  /-- UPD_ACTIVATE (R465): UPD_ACTIVATE sets ACT_PEND and ends the session when verified. -/
  | updActivate (o tag : Nat)
  /-- UPD_ABORT (R465): UPD_ABORT ends the session at once. -/
  | updAbort (o tag : Nat)
  /-- IMG_INFO (R462): IMG_INFO returns image, key-slot and session information. -/
  | imgInfo (o tag : Nat)
  /-- IMG_LAPSED (R465): A session lapses 60 s after its last accepted command. -/
  | imgLapsed
  /-- BOOT_DECISION (R466): The boot ROM reads the boot state, verifies images and chooses the slot or recovery. -/
  | bootDecision
  /-- IMAGE_COPY_DONE (R466): A slot copy completes and the boot phase advances. -/
  | imageCopyDone (ok : Bool)
  /-- CONFIRM (R468): CONFIRM ends the trial, raises the anti-rollback counter and updates key slots. -/
  | confirm
  /-- REJECT (R468): REJECT marks the trial image rejected and requests a warm reset. -/
  | reject
  /-- TALLY_WRITE (R474): A TW write to a tally entry is checked and programmed, or refused. -/
  | tallyWrite (e v : Nat)
  /-- TLY_KEY_PROGRAM (R474): TLY_KEY op 0x1 programs a key slot from the staged hash. -/
  | tlyKeyProgram (slot : Nat)
  /-- TLY_KEY_REVOKE (R474): TLY_KEY op 0x2 revokes a key slot. -/
  | tlyKeyRevoke (slot : Nat)
  /-- TALLY_PROGRAM_DONE (R476): Programming ends, a log record is appended or TLY_PROG_FAIL raised. -/
  | tallyProgramDone (ok : Bool)
  /-- TEMPERATURE_READING (R483): Every 250 us each sensor converts and is cross-checked against its neighbours. -/
  | temperatureReading (raws : List Int) (lost : Nat)
  /-- THM_TIN_INVALID (R482): A TIN input open, shorted, invalid or without conversion for 100 ms becomes INVALID. -/
  | thmTinInvalid (n : Nat)
  /-- DERATING_UPDATE (R484): Every 10 us THM computes F_CALC and moves F_APP per the mode. -/
  | deratingUpdate
  /-- CLEAR_BROKEN (R483): THM_CMD CLEAR_BROKEN clears BROKEN and the counts of the named sensors. -/
  | clearBroken (mask : Nat)
  /-- RESTORE (R485): THM_CMD RESTORE lets F_APP rise toward F_CALC. -/
  | restore (mask : Nat)
  /-- SYS_XTAL_LOST (R489): A missing or off-frequency crystal holds the PLLs in reset. -/
  | sysXtalLost
  /-- SYS_PLL_UNLOCK (R489): A PLL reports loss of lock. -/
  | sysPllUnlock (pll : Nat)
  /-- SYS_FCLK_FREQ (R489): FCLK out of frequency in 2 windows is treated as FCLK loss. -/
  | sysFclkFreq (count : Nat)
  /-- CLOCK_CHECK_GOOD (R489): A clock check becomes good again after its good-cycle count. -/
  | clockCheckGood (check : Nat)
  /-- WDT_ENABLE (R493): Setting EN starts the supervisor watchdog, which cannot then be disabled. -/
  | wdtEnable
  /-- WDT_SERVICE (R493): A write to SYS_WDT_SVC serves the watchdog or counts an early service. -/
  | wdtService (v : Nat)
  /-- SYS_WDT (R493): Watchdog expiry resets the supervisor domain, or on a second expiry the warm domain. -/
  | sysWdt
  /-- SYS_LOCKSTEP (R493): A lockstep mismatch resets the supervisor domain. -/
  | sysLockstep (core : Nat)
  /-- SYS_SV_HOLD_EXPIRED (R497): SV_HOLD into a supervisor absence every running context applies its fallback. -/
  | sysSvHoldExpired
  /-- SUPPLY_RESTORED (R506): A monitored supply rises back over its rising threshold for its filter time and its domain or unit leaves
      reset or off. -/
  | supplyRestored (x : Supply)
  /-- SD_SAMPLING_EDGE (R183): At each sampling edge of an enabled sigma-delta input both SINC3 filters take the new bit and their
      results reach the sample fabric 3 ticks later. -/
  | sdSamplingEdge (i : Nat) (b : Bool)
  /-- AUX_COMPARE_MATCH (R242): An auxiliary carrier counter reaches a half-bridge's compare and its high request turns off. -/
  | auxCompareMatch (n : Nat)
  /-- AXIS_STOPPED (R275): A moving step axis comes to rest, and a STOPPING axis enters HOLD with TARGET set to p. -/
  | axisStopped (n : Nat)
  /-- HOME_INPUT_EDGE (R285): The home input qualifies active or releases during homing without ending a phase; the axis records p,
      counts BOUNCE or restarts the HREL timer. -/
  | homeInputEdge (n : Nat) (active : Bool)
  /-- LIMIT_INPUT_RELEASE (R281): A hardware limit input qualifies inactive and clears LIM_LO_ACT or LIM_HI_ACT, which frees motion in
      that direction. -/
  | limitInputRelease (n : Nat) (hi : Bool)
  /-- OPEN_LOOP_COMMUTATION (R261): In RAMP and in the lock phase the commutator advances its sector at the timed open-loop sector
      instant, without a crossing. -/
  | openLoopCommutation (k : Nat)
  /-- ETH_LINK_UP (R431): An Ethernet link comes up again and that port's events and replies are sent instead of discarded. -/
  | ethLinkUp (p : Nat)
  deriving DecidableEq, Repr

end Sys2Proof
end

