-- ==== Sys2Proof/WellFormed.lean ====
section
/-! DEFINITION. WellFormed.lean: the operands that a command may carry: every unsigned operand within its range, every signed field of an
engine instruction within its width, the pairings that R122 forbids, and lists of bytes and of words. -/

namespace Sys2Proof

/-- The kinds of unsigned operands. -/
inductive Operand where
  /-- a supervisor core (R29) -/
  | core
  /-- a 32-bit word -/
  | word
  /-- an access size in bytes: 1, 2 or 4 -/
  | size
  /-- an interrupt source (R35) -/
  | irq
  /-- one of two: a direction, side, line, link, MAC or PLL -/
  | two
  /-- a mask of channels -/
  | mask6
  /-- BOOT_MODE (R491) -/
  | bootMode
  /-- a byte -/
  | byte
  /-- a host port (R423) -/
  | port
  /-- a 16-bit value -/
  | half
  /-- a ring node (R318) -/
  | node
  /-- a wheel (R50) -/
  | wheel
  /-- the number of a context (R80) -/
  | context
  /-- an engine (R77) -/
  | engine
  /-- a mask of sticky flags (R115) -/
  | flags3
  /-- a predicate (R116, R119) -/
  | pred
  /-- an iteration count (R131) -/
  | count
  /-- a G register (R113) -/
  | gReg
  /-- a 24-bit immediate -/
  | imm24
  /-- a condition of SEL (R116) -/
  | cond
  /-- an accumulator -/
  | aReg
  /-- an address register -/
  | xReg
  /-- an exponent k (R121) -/
  | exp
  /-- a 15-bit immediate -/
  | imm15
  /-- a modulo register -/
  | mReg
  /-- a port address (R128) -/
  | portAddr
  /-- a word of a share frame (R128) -/
  | shareWord
  /-- a PWM channel (R152) -/
  | channel
  /-- a trigger compare of a channel (R155) -/
  | trigger
  /-- a leg of a channel -/
  | leg
  /-- a pattern table -/
  | table
  /-- a word of a pattern memory -/
  | patWord
  /-- a trip source -/
  | tripSource
  /-- an NPC phase of a channel (R163) -/
  | phase
  /-- a 64-bit value -/
  | dword
  /-- a ΣΔ input (R182) -/
  | sdInput
  /-- a conversion sequence -/
  | sequence
  /-- an ADC (R188) -/
  | adc
  /-- a resolver input -/
  | resolver
  /-- an encoder input -/
  | encoder
  /-- an SSI port -/
  | ssi
  /-- a pulse input -/
  | pulse
  /-- a capture unit -/
  | capture
  /-- a setpoint conditioner -/
  | conditioner
  /-- the ARG of a library command -/
  | libArg
  /-- an auxiliary carrier -/
  | carrier
  /-- a half bridge (R239) -/
  | bridge
  /-- a commutator (R253) -/
  | commutator
  /-- a step axis (R275) -/
  | axis
  /-- a DC-link monitor -/
  | monitor
  /-- a mask -/
  | mask4
  /-- a load-share group -/
  | group
  /-- an input or output pair of the safety island -/
  | island
  /-- a Telltale connection -/
  | connection
  /-- a CAN node -/
  | canNode
  /-- a message object or buffer -/
  | canObject
  /-- a high-priority entry of a CAN node -/
  | hpEntry
  /-- where a host command came from: 0 to 2 a port, 3 + n ring node n -/
  | origin
  /-- a decision function (R432) -/
  | func
  /-- a unit of a decision function -/
  | unit
  /-- a handling domain of the error manager (R441) -/
  | domain
  /-- a recorder stream -/
  | stream
  /-- a key slot -/
  | slot
  /-- a mask -/
  | mask40
  /-- a temperature input -/
  | sensor
  deriving DecidableEq, Repr

/-- The number of values of a kind of operand, counted from 0. -/
def Operand.limit : Operand → Nat
  | .core => 2
  | .word => 2 ^ 32
  | .size => 5
  | .irq => 216
  | .two => 2
  | .mask6 => 64
  | .bootMode => 4
  | .byte => 256
  | .port => 3
  | .half => 2 ^ 16
  | .node => 16
  | .wheel => 16
  | .context => 256
  | .engine => 12
  | .flags3 => 8
  | .pred => 8
  | .count => 2 ^ 16
  | .gReg => 16
  | .imm24 => 2 ^ 24
  | .cond => 8
  | .aReg => 4
  | .xReg => 8
  | .exp => 24
  | .imm15 => 2 ^ 15
  | .mReg => 4
  | .portAddr => 256
  | .shareWord => 64
  | .channel => 6
  | .trigger => 4
  | .leg => 6
  | .table => 16
  | .patWord => 4096
  | .tripSource => 256
  | .phase => 3
  | .dword => 2 ^ 64
  | .sdInput => 48
  | .sequence => 8
  | .adc => 2
  | .resolver => 3
  | .encoder => 6
  | .ssi => 4
  | .pulse => 4
  | .capture => 8
  | .conditioner => 16
  | .libArg => 2 ^ 16
  | .carrier => 4
  | .bridge => 16
  | .commutator => 2
  | .axis => 4
  | .monitor => 4
  | .mask4 => 16
  | .group => 4
  | .island => 32
  | .connection => 8
  | .canNode => 4
  | .canObject => 64
  | .hpEntry => 8
  | .origin => 19
  | .func => 10
  | .unit => 0x400
  | .domain => 2
  | .stream => 32
  | .slot => 4
  | .mask40 => 2 ^ 40
  | .sensor => 8

/-- Whether a value is one of its kind. Contexts count from 1, and an access has 1, 2 or 4 bytes. -/
def Operand.ok (k : Operand) (v : Nat) : Bool :=
  match k with
  | .context => Decidable.decide (1 ≤ v) && Decidable.decide (v < 256)
  | .size => v == 1 || v == 2 || v == 4
  | k => Decidable.decide (v < k.limit)

/-- The unsigned operands of a command with their kinds. -/
def Instr.operands : Instr → List (Operand × Nat)
  | .registerWrite core a size v => [(.core, core), (.word, a), (.size, size), (.word, v)]
  | .irqClaim core => [(.core, core)]
  | .irqDone core src => [(.core, core), (.irq, src)]
  | .d2dFrameReceived _ => []
  | .sysD2dLost dir => [(.two, dir)]
  | .safetyLinkFrame link si rb _ => [(.two, link), (.word, si), (.mask6, rb)]
  | .safetyLinkLost link => [(.two, link)]
  | .supplyLoss _ => []
  | .v24SiLoss  => []
  | .porstNAsserted  => []
  | .rstNAsserted  => []
  | .resetRelease _ bootMode => [(.bootMode, bootMode)]
  | .warmResetRequest key => [(.byte, key)]
  | .supervisorResetRequest key => [(.byte, key)]
  | .ringResetRequest key => [(.byte, key)]
  | .hostPortResetRequest p => [(.port, p)]
  | .islandResetRequest key => [(.byte, key)]
  | .rtLoRead  => []
  | .ptpSrcWrite v => [(.word, v)]
  | .rtLockedEntry  => []
  | .tbRtHoldover  => []
  | .tbDebugHalt  => []
  | .tbDebugRelease  => []
  | .timeBellLaunch  => []
  | .angleBellLaunch  => []
  | .bellPost core v => [(.core, core), (.word, v)]
  | .bellPostDecision core => [(.core, core)]
  | .bellCancel core handle => [(.core, core), (.half, handle)]
  | .bellCancelDecision core => [(.core, core)]
  | .ringBellReceived org h w0 w1 w2 w3 w4 => [(.node, org), (.half, h), (.word, w0), (.word, w1), (.word, w2), (.word, w3), (.word, w4)]
  | .goCtlWrite v => [(.word, v)]
  | .lgMapWrite v => [(.word, v)]
  | .wheelStart n v => [(.wheel, n), (.word, v)]
  | .wheelSourceUpdate n => [(.wheel, n)]
  | .tbWheelStale n => [(.wheel, n)]
  | .wheelPreset n v => [(.wheel, n), (.word, v)]
  | .wheelSpeedSet n _ v => [(.wheel, n), (.word, v)]
  | .wheelPosRead n => [(.wheel, n)]
  | .contextTrigger c => [(.context, c)]
  | .programStart e => [(.engine, e)]
  | .resultLands e => [(.engine, e)]
  | .programEnd e => [(.engine, e)]
  | .outputWrite c => [(.context, c)]
  | .ceCtxLate c delay => [(.context, c), (.word, delay)]
  | .ceLoad c eng => [(.context, c), (.engine, eng)]
  | .ceLoadComplete  => []
  | .ceStart c => [(.context, c)]
  | .ceStop c => [(.context, c)]
  | .ceUnload c => [(.context, c)]
  | .ceShadow c => [(.context, c)]
  | .ceHandover c => [(.context, c)]
  | .ceBank c arg => [(.context, c), (.two, arg)]
  | .ceClear c => [(.context, c)]
  | .divsync c => [(.context, c)]
  | .evacuate eng => [(.engine, eng)]
  | .evacuateComplete  => []
  | .resetEng eng => [(.engine, eng)]
  | .resetEngComplete _ => []
  | .engineMemoryWrite a v => [(.word, a), (.word, v)]
  | .ceEngFault e src a => [(.engine, e), (.flags3, src), (.word, a)]
  | .signatureTest e _ => [(.engine, e)]
  | .ceSigStarved e => [(.engine, e)]
  | .migrationProceed e => [(.engine, e)]
  | .coldCopyComplete c _ => [(.context, c)]
  | .ceMigDone  => []
  | .engineHalt e => [(.engine, e)]
  | .engineResume e => [(.engine, e)]
  | .engineSingleStep e => [(.engine, e)]
  | .spcUpdate  => []
  | .nop e p => [(.engine, e), (.pred, p)]
  | .endProgram e => [(.engine, e)]
  | .br e _ => [(.engine, e)]
  | .call e _ => [(.engine, e)]
  | .ret e => [(.engine, e)]
  | .loop e count _ => [(.engine, e), (.count, count)]
  | .clrf e p m => [(.engine, e), (.pred, p), (.flags3, m)]
  | .rdf e p gd => [(.engine, e), (.pred, p), (.gReg, gd)]
  | .mov e p gd ga => [(.engine, e), (.pred, p), (.gReg, gd), (.gReg, ga)]
  | .movk e p gd imm => [(.engine, e), (.pred, p), (.gReg, gd), (.imm24, imm)]
  | .sel e p cc gd ga gb => [(.engine, e), (.pred, p), (.cond, cc), (.gReg, gd), (.gReg, ga), (.gReg, gb)]
  | .movs e p gd ad _ _ => [(.engine, e), (.pred, p), (.gReg, gd), (.aReg, ad)]
  | .lda e p ad ga => [(.engine, e), (.pred, p), (.aReg, ad), (.gReg, ga)]
  | .clra e p ad => [(.engine, e), (.pred, p), (.aReg, ad)]
  | .adda e p ad aa ab => [(.engine, e), (.pred, p), (.aReg, ad), (.aReg, aa), (.aReg, ab)]
  | .suba e p ad aa ab => [(.engine, e), (.pred, p), (.aReg, ad), (.aReg, aa), (.aReg, ab)]
  | .add e p gd ga gb => [(.engine, e), (.pred, p), (.gReg, gd), (.gReg, ga), (.gReg, gb)]
  | .sub e p gd ga gb => [(.engine, e), (.pred, p), (.gReg, gd), (.gReg, ga), (.gReg, gb)]
  | .neg e p gd ga => [(.engine, e), (.pred, p), (.gReg, gd), (.gReg, ga)]
  | .abs e p gd ga => [(.engine, e), (.pred, p), (.gReg, gd), (.gReg, ga)]
  | .min e p gd ga gb => [(.engine, e), (.pred, p), (.gReg, gd), (.gReg, ga), (.gReg, gb)]
  | .max e p gd ga gb => [(.engine, e), (.pred, p), (.gReg, gd), (.gReg, ga), (.gReg, gb)]
  | .clmp e p gd ga gb gc => [(.engine, e), (.pred, p), (.gReg, gd), (.gReg, ga), (.gReg, gb), (.gReg, gc)]
  | .addk e p gd ga imm => [(.engine, e), (.pred, p), (.gReg, gd), (.gReg, ga), (.imm24, imm)]
  | .cmp e p ga gb => [(.engine, e), (.pred, p), (.gReg, ga), (.gReg, gb)]
  | .cmpk e p ga imm => [(.engine, e), (.pred, p), (.gReg, ga), (.imm24, imm)]
  | .ash e p gd ga _ => [(.engine, e), (.pred, p), (.gReg, gd), (.gReg, ga)]
  | .hyst e p gd ga gb => [(.engine, e), (.pred, p), (.gReg, gd), (.gReg, ga), (.gReg, gb)]
  | .sha e p ad aa _ => [(.engine, e), (.pred, p), (.aReg, ad), (.aReg, aa)]
  | .iadd e p gd ga gb => [(.engine, e), (.pred, p), (.gReg, gd), (.gReg, ga), (.gReg, gb)]
  | .isub e p gd ga gb => [(.engine, e), (.pred, p), (.gReg, gd), (.gReg, ga), (.gReg, gb)]
  | .iaddk e p gd ga imm => [(.engine, e), (.pred, p), (.gReg, gd), (.gReg, ga), (.imm24, imm)]
  | .andBits e p gd ga gb => [(.engine, e), (.pred, p), (.gReg, gd), (.gReg, ga), (.gReg, gb)]
  | .orBits e p gd ga gb => [(.engine, e), (.pred, p), (.gReg, gd), (.gReg, ga), (.gReg, gb)]
  | .xorBits e p gd ga gb => [(.engine, e), (.pred, p), (.gReg, gd), (.gReg, ga), (.gReg, gb)]
  | .andk e p gd ga imm => [(.engine, e), (.pred, p), (.gReg, gd), (.gReg, ga), (.imm24, imm)]
  | .lsh e p gd ga _ => [(.engine, e), (.pred, p), (.gReg, gd), (.gReg, ga)]
  | .mpy e p ad ga gb _ => [(.engine, e), (.pred, p), (.aReg, ad), (.gReg, ga), (.gReg, gb)]
  | .mac e p ad ga gb _ => [(.engine, e), (.pred, p), (.aReg, ad), (.gReg, ga), (.gReg, gb)]
  | .msu e p ad ga gb _ => [(.engine, e), (.pred, p), (.aReg, ad), (.gReg, ga), (.gReg, gb)]
  | .dmac e p ad ga gb ae gc gf _ => [(.engine, e), (.pred, p), (.aReg, ad), (.gReg, ga), (.gReg, gb), (.aReg, ae), (.gReg, gc), (.gReg, gf)]
  | .mpyx e p ad ga xn _ _ _ => [(.engine, e), (.pred, p), (.aReg, ad), (.gReg, ga), (.xReg, xn)]
  | .macx e p ad ga xn _ _ _ => [(.engine, e), (.pred, p), (.aReg, ad), (.gReg, ga), (.xReg, xn)]
  | .msux e p ad ga xn _ _ _ => [(.engine, e), (.pred, p), (.aReg, ad), (.gReg, ga), (.xReg, xn)]
  | .dmacx e p ad ga x1 _ ae gb x2 _ _ => [(.engine, e), (.pred, p), (.aReg, ad), (.gReg, ga), (.xReg, x1), (.aReg, ae), (.gReg, gb), (.xReg, x2)]
  | .muli e p gd ga gb => [(.engine, e), (.pred, p), (.gReg, gd), (.gReg, ga), (.gReg, gb)]
  | .sincos e p gd ga => [(.engine, e), (.pred, p), (.gReg, gd), (.gReg, ga)]
  | .rot e p gd ga gb gc _ => [(.engine, e), (.pred, p), (.gReg, gd), (.gReg, ga), (.gReg, gb), (.gReg, gc)]
  | .recip e p gd ga k => [(.engine, e), (.pred, p), (.gReg, gd), (.gReg, ga), (.exp, k)]
  | .rsqrt e p gd ga k => [(.engine, e), (.pred, p), (.gReg, gd), (.gReg, ga), (.exp, k)]
  | .ld e p gd xn _ _ => [(.engine, e), (.pred, p), (.gReg, gd), (.xReg, xn)]
  | .st e p ga xn _ _ => [(.engine, e), (.pred, p), (.gReg, ga), (.xReg, xn)]
  | .ldx e p xd imm => [(.engine, e), (.pred, p), (.xReg, xd), (.imm15, imm)]
  | .movx e p xd ga => [(.engine, e), (.pred, p), (.xReg, xd), (.gReg, ga)]
  | .addx e p xd xa imm => [(.engine, e), (.pred, p), (.xReg, xd), (.xReg, xa), (.imm15, imm)]
  | .movm e p mn imm => [(.engine, e), (.pred, p), (.mReg, mn), (.imm15, imm)]
  | .inPort e p gd port => [(.engine, e), (.pred, p), (.gReg, gd), (.portAddr, port)]
  | .outPort e p port ga => [(.engine, e), (.pred, p), (.portAddr, port), (.gReg, ga)]
  | .rdsh e p gd node word => [(.engine, e), (.pred, p), (.gReg, gd), (.node, node), (.shareWord, word)]
  | .dmpyx e p ad ga x1 _ ae gb x2 _ _ => [(.engine, e), (.pred, p), (.aReg, ad), (.gReg, ga), (.xReg, x1), (.aReg, ae), (.gReg, gb), (.xReg, x2)]
  | .periodBoundary n => [(.channel, n)]
  | .chCommit n => [(.channel, n)]
  | .chArm n => [(.channel, n)]
  | .triggerCompareFire n k => [(.channel, n), (.trigger, k)]
  | .compareMatch n m _ => [(.channel, n), (.leg, m)]
  | .deadTimeElapsed n m _ => [(.channel, n), (.leg, m)]
  | .hrCalibration n trim _ => [(.channel, n), (.byte, trim)]
  | .patternCheck n tbl => [(.channel, n), (.table, tbl)]
  | .patternCheckDone n => [(.channel, n)]
  | .patternMemoryWrite n i v => [(.channel, n), (.patWord, i), (.word, v)]
  | .patternEntry n => [(.channel, n)]
  | .modeSwitch n => [(.channel, n)]
  | .syncWindowExit n => [(.channel, n)]
  | .tripSourceQualified src _ => [(.tripSource, src)]
  | .npcStageExpiry n p => [(.channel, n), (.phase, p)]
  | .fclkLoss  => []
  | .fclkReturn ns => [(.dword, ns)]
  | .trpClr v => [(.word, v)]
  | .sdComparatorActive i _ => [(.sdInput, i)]
  | .meaSdStuck i => [(.sdInput, i)]
  | .sdStuckClear i => [(.sdInput, i)]
  | .sequenceTrigger q => [(.sequence, q)]
  | .backgroundScanStart  => []
  | .sarSlotStart adc t => [(.adc, adc), (.dword, t)]
  | .sarConversionDone adc code => [(.adc, adc), (.half, code)]
  | .resolverConversion r sn cs _ t => [(.resolver, r), (.half, sn), (.half, cs), (.dword, t)]
  | .encoderEdge n _ _ rt => [(.encoder, n), (.dword, rt)]
  | .encoderIndex n rt => [(.encoder, n), (.dword, rt)]
  | .encoderClr n v => [(.encoder, n), (.word, v)]
  | .ssiFrameStart p rt => [(.ssi, p), (.dword, rt)]
  | .ssiFrameDone p word _ _ => [(.ssi, p), (.dword, word)]
  | .ssiCfgWrite p v => [(.ssi, p), (.word, v)]
  | .pulseInputEdge q t high => [(.pulse, q), (.dword, t), (.dword, high)]
  | .posPlsTimeout q => [(.pulse, q)]
  | .captureEdge c _ rt => [(.capture, c), (.dword, rt)]
  | .capturePop c => [(.capture, c)]
  | .libStart _ c j arg => [(.context, c), (.conditioner, j), (.libArg, arg)]
  | .libStop _ c j arg => [(.context, c), (.conditioner, j), (.libArg, arg)]
  | .libDecide _ c j code _ => [(.context, c), (.conditioner, j), (.flags3, code)]
  | .libClear _ c j arg => [(.context, c), (.conditioner, j), (.libArg, arg)]
  | .libStatusPoll _ c => [(.context, c)]
  | .gethomeHandoverPost n when_ => [(.channel, n), (.dword, when_)]
  | .auxCarrierBoundary c => [(.carrier, c)]
  | .auxGdUv mv => [(.half, mv)]
  | .bootstrapUvlo n => [(.bridge, n)]
  | .bootstrapUvRelease n => [(.bridge, n)]
  | .currentLimitHit n => [(.bridge, n)]
  | .auxOc n => [(.bridge, n)]
  | .auxVbrUv mv => [(.half, mv)]
  | .vbrUvRelease mv => [(.half, mv)]
  | .auxVbrOv mv => [(.half, mv)]
  | .auxEnLow  => []
  | .auxEnClear  => []
  | .leakTestStart n side tTest => [(.bridge, n), (.two, side), (.byte, tTest)]
  | .leakTestDone n rise _ => [(.bridge, n), (.half, rise)]
  | .zeroCrossing k t code => [(.commutator, k), (.dword, t), (.flags3, code)]
  | .commutation k => [(.commutator, k)]
  | .sectorMiss k => [(.commutator, k)]
  | .cmuStart k => [(.commutator, k)]
  | .cmuStop k _ => [(.commutator, k)]
  | .cmuDecide k code iovr => [(.commutator, k), (.flags3, code), (.byte, iovr)]
  | .cmuClear k => [(.commutator, k)]
  | .senseEnd k => [(.commutator, k)]
  | .brakeEnd k _ peak => [(.commutator, k), (.half, peak)]
  | .alignEnd k => [(.commutator, k)]
  | .rampEnd k => [(.commutator, k)]
  | .lockAchieved k => [(.commutator, k)]
  | .cmuStartFail k => [(.commutator, k)]
  | .cmuWaitEnd k => [(.commutator, k)]
  | .stpEnable n => [(.axis, n)]
  | .stpDisable n => [(.axis, n)]
  | .stpStart n => [(.axis, n)]
  | .stpStop n => [(.axis, n)]
  | .stpHome n => [(.axis, n)]
  | .stpClear n => [(.axis, n)]
  | .setPos n => [(.axis, n)]
  | .stpHwLimit n _ => [(.axis, n)]
  | .homingPhaseEnd n => [(.axis, n)]
  | .holdStandby n => [(.axis, n)]
  | .stpLag n => [(.axis, n)]
  | .dclUpdate  => []
  | .dlEnableWrite m v => [(.monitor, m), (.word, v)]
  | .chopperCommandChange m => [(.monitor, m)]
  | .dclWarn m => [(.monitor, m)]
  | .dcLinkWarnClear m => [(.monitor, m)]
  | .dclTrip m => [(.monitor, m)]
  | .dclMeasLost m => [(.monitor, m)]
  | .dclChopFail m src => [(.monitor, m), (.two, src)]
  | .chopperFallbackExpiry m => [(.monitor, m)]
  | .clearDl m => [(.monitor, m)]
  | .decideChop m code => [(.monitor, m), (.mask4, code)]
  | .acceptPb mask => [(.mask6, mask)]
  | .dclDecideShare g code => [(.group, g), (.mask4, code)]
  | .dclHold c => [(.channel, c)]
  | .clearCh c => [(.channel, c)]
  | .brakeTimeExpiry c => [(.channel, c)]
  | .tripLeadExpiry c => [(.channel, c)]
  | .powerBudgetPass  => []
  | .dclFlr  => []
  | .flrRelease  => []
  | .shareSplit g => [(.group, g)]
  | .ringCycleStart  => []
  | .crierReceived _ _ _ fine residence _ => [(.dword, fine), (.word, residence)]
  | .shareFrameReceived src cyc16 _ _ _ _ => [(.node, src), (.half, cyc16)]
  | .shareBufferComplete  => []
  | .telltaleFrameReceived src _ _ => [(.node, src)]
  | .bulkFrameReceived _ src _ _ => [(.node, src)]
  | .bulkMessageTimeout src chan => [(.node, src), (.two, chan)]
  | .bulkFrameSend  => []
  | .delayRequest fine => [(.half, fine)]
  | .delayFrameReceived _ _ t1 t2 t3 fine val => [(.dword, t1), (.dword, t2), (.dword, t3), (.half, fine), (.half, val)]
  | .applyPlan  => []
  | .drgDecideShare code => [(.mask4, code)]
  | .drgCntClear  => []
  | .join v => [(.word, v)]
  | .leave  => []
  | .ringStart  => []
  | .drgMasterLost  => []
  | .drgMasterChange new => [(.node, new)]
  | .drgWrap _ cause => [(.mask4, cause)]
  | .drgUnwrap _ => []
  | .safetyTick diff _ _ tapErr _ fclkA fclkB gden => [(.byte, diff), (.mask4, tapErr), (.half, fclkA), (.half, fclkB), (.mask6, gden)]
  | .islandSelfTestDone _ => []
  | .islandWatchdogExpiry  => []
  | .safDisc i => [(.island, i)]
  | .outputTestEnd i => [(.island, i)]
  | .ss1TimerExpiry n => [(.channel, n)]
  | .slsGraceExpiry n => [(.channel, n)]
  | .shhBrakeTimeExpiry n => [(.channel, n)]
  | .shhMaxExpiry n => [(.channel, n)]
  | .sbtPhaseEnd n => [(.channel, n)]
  | .safSbtDue n => [(.channel, n)]
  | .telltaleTransmit c => [(.connection, c)]
  | .safTtLost c => [(.connection, c)]
  | .passwordSessionTimeout  => []
  | .passwordLockEnd  => []
  | .safCmdDataWrite v => [(.word, v)]
  | .go  => []
  | .flush  => []
  | .enter  => []
  | .exit  => []
  | .setPw  => []
  | .cfgLoad  => []
  | .cfgCheck  => []
  | .cfgStart  => []
  | .activate  => []
  | .logAck  => []
  | .reqSto  => []
  | .relSto  => []
  | .islandAck  => []
  | .sbtStart  => []
  | .ttRx  => []
  | .canInitSet n => [(.canNode, n)]
  | .canInitClear n => [(.canNode, n)]
  | .canBusJoin n => [(.canNode, n)]
  | .canBusOffRecovery n => [(.canNode, n)]
  | .canMessageRamWrite n ofs v => [(.canNode, n), (.half, ofs), (.word, v)]
  | .canTxRequest n k => [(.canNode, n), (.canObject, k)]
  | .canTxAbort n k => [(.canNode, n), (.canObject, k)]
  | .canTxComplete n sof tdcv => [(.canNode, n), (.dword, sof), (.byte, tdcv)]
  | .canFrameReceived n w0 w1 sof _ => [(.canNode, n), (.word, w0), (.word, w1), (.dword, sof)]
  | .canProtocolError n kind step _ _ _ => [(.canNode, n), (.flags3, kind), (.mask4, step)]
  | .canFifoAck n k => [(.canNode, n), (.canObject, k)]
  | .hpAck n e k => [(.canNode, n), (.hpEntry, e), (.mask4, k)]
  | .hspiWriteFrame _ => []
  | .hspiReadFrame n => [(.half, n)]
  | .hspiStatus op => [(.byte, op)]
  | .ethFrameReceived p kind addr id ofs _ _ => [(.port, p), (.mask4, kind), (.dword, addr), (.half, id), (.half, ofs)]
  | .ethFragmentTimeout p id => [(.port, p), (.half, id)]
  | .hstLinkDown p => [(.port, p)]
  | .ptpStep m v => [(.two, m), (.word, v)]
  | .ptpSecRead m => [(.two, m)]
  | .hostFrameReceived p addr _ => [(.port, p), (.dword, addr)]
  | .ping o tag => [(.origin, o), (.half, tag)]
  | .hostRead o tag => [(.origin, o), (.half, tag)]
  | .hostWrite o tag => [(.origin, o), (.half, tag)]
  | .subscribe o tag => [(.origin, o), (.half, tag)]
  | .hostBell o tag => [(.origin, o), (.half, tag)]
  | .hostBellCancel o tag => [(.origin, o), (.half, tag)]
  | .hostCe o tag => [(.origin, o), (.half, tag)]
  | .hostDecide o tag _ => [(.origin, o), (.half, tag)]
  | .assistSet o tag => [(.origin, o), (.half, tag)]
  | .tune o tag => [(.origin, o), (.half, tag)]
  | .tuneRunEnd o tag _ => [(.origin, o), (.half, tag)]
  | .gethome o tag => [(.origin, o), (.half, tag)]
  | .safety o tag => [(.origin, o), (.half, tag)]
  | .errLog o tag => [(.origin, o), (.half, tag)]
  | .hostReset o tag => [(.origin, o), (.half, tag)]
  | .hostRecStart o tag => [(.origin, o), (.half, tag)]
  | .eventSend  => []
  | .decisionDeadline f unit => [(.func, f), (.unit, unit)]
  | .faultRestart kind inst => [(.mask4, kind), (.byte, inst)]
  | .errRecordsStored  => []
  | .errClaim k => [(.domain, k)]
  | .errDone k v => [(.domain, k), (.word, v)]
  | .errRaiseGo core v => [(.core, core), (.word, v)]
  | .svReadySet  => []
  | .scrubRead _ => []
  | .ddrTrain  => []
  | .ddrTrainDone _ size step => [(.flags3, size), (.byte, step)]
  | .ospiErase4k  => []
  | .ospiErase64k  => []
  | .ospiProgram  => []
  | .ospiOperationDone _ => []
  | .recStart mask => [(.word, mask)]
  | .recStop mask => [(.word, mask)]
  | .recRecordTaken n => [(.stream, n)]
  | .updOpen o tag => [(.origin, o), (.half, tag)]
  | .updBlock o tag => [(.origin, o), (.half, tag)]
  | .updStatus o tag => [(.origin, o), (.half, tag)]
  | .updVerify o tag => [(.origin, o), (.half, tag)]
  | .updActivate o tag => [(.origin, o), (.half, tag)]
  | .updAbort o tag => [(.origin, o), (.half, tag)]
  | .imgInfo o tag => [(.origin, o), (.half, tag)]
  | .imgLapsed  => []
  | .bootDecision  => []
  | .imageCopyDone _ => []
  | .confirm  => []
  | .reject  => []
  | .tallyWrite e v => [(.mask4, e), (.word, v)]
  | .tlyKeyProgram slot => [(.slot, slot)]
  | .tlyKeyRevoke slot => [(.slot, slot)]
  | .tallyProgramDone _ => []
  | .temperatureReading _ lost => [(.mask40, lost)]
  | .thmTinInvalid n => [(.sensor, n)]
  | .deratingUpdate  => []
  | .clearBroken mask => [(.word, mask)]
  | .restore mask => [(.mask6, mask)]
  | .sysXtalLost  => []
  | .sysPllUnlock pll => [(.two, pll)]
  | .sysFclkFreq count => [(.word, count)]
  | .clockCheckGood check => [(.mask4, check)]
  | .wdtEnable  => []
  | .wdtService v => [(.word, v)]
  | .sysWdt  => []
  | .sysLockstep core => [(.core, core)]
  | .sysSvHoldExpired  => []
  | .supplyRestored _ => []
  | .sdSamplingEdge i _ => [(.sdInput, i)]
  | .auxCompareMatch n => [(.bridge, n)]
  | .axisStopped n => [(.axis, n)]
  | .homeInputEdge n _ => [(.axis, n)]
  | .limitInputRelease n _ => [(.axis, n)]
  | .openLoopCommutation k => [(.commutator, k)]
  | .ethLinkUp p => [(.port, p)]

/-- The signed fields of an engine instruction with their widths (R119). -/
def Instr.fields : Instr → List (Nat × Int)
  | .br _ ofs => [(13, ofs)]
  | .call _ ofs => [(13, ofs)]
  | .loop _ _ ofs => [(13, ofs)]
  | .movs _ _ _ _ sh _ => [(6, sh)]
  | .ash _ _ _ _ sh => [(6, sh)]
  | .sha _ _ _ _ sh => [(6, sh)]
  | .lsh _ _ _ _ sh => [(6, sh)]
  | .mpyx _ _ _ _ _ _ disp _ => [(12, disp)]
  | .macx _ _ _ _ _ _ disp _ => [(12, disp)]
  | .msux _ _ _ _ _ _ disp _ => [(12, disp)]
  | .dmacx _ _ _ _ _ s1 _ _ _ s2 _ => [(6, s1), (6, s2)]
  | .ld _ _ _ _ _ disp => [(12, disp)]
  | .st _ _ _ _ _ disp => [(12, disp)]
  | .dmpyx _ _ _ _ _ s1 _ _ _ s2 _ => [(6, s1), (6, s2)]
  | _ => []

/-- Whether a signed value fits a width. -/
def signedFits (width : Nat) (v : Int) : Bool := Decidable.decide (-(2 ^ (width - 1) : Int) ≤ v) && Decidable.decide (v < (2 ^ (width - 1) : Int))

/-- The ranges of shifts narrower than their field, the pairings that R122 forbids, and an iteration count of at least 1. -/
def Instr.pairing : Instr → Bool
  | .movs _ _ _ _ sh _ => Decidable.decide (-16 ≤ sh) && Decidable.decide (sh ≤ 15)
  | .ash _ _ _ _ sh => Decidable.decide (-23 ≤ sh) && Decidable.decide (sh ≤ 23)
  | .lsh _ _ _ _ sh => Decidable.decide (-23 ≤ sh) && Decidable.decide (sh ≤ 23)
  | .loop _ count _ => count != 0
  | .sincos _ _ gd _ => gd % 2 == 0
  | .rot _ _ gd _ _ _ _ => gd % 2 == 0
  | .dmac _ _ ad _ _ ae _ _ _ => ad != ae
  | .dmacx _ _ ad _ x1 _ ae _ x2 _ _ => ad != ae && x1 != x2
  | .dmpyx _ _ ad _ x1 _ ae _ x2 _ _ => ad != ae && x1 != x2
  | .inPort _ _ _ port => Decidable.decide (port ≤ 0x92)
  | .outPort _ _ port _ => Decidable.decide (0x40 ≤ port) && Decidable.decide (port < 0x60)
  | _ => true

/-- A list of bytes. -/
def bytesOk (l : List Nat) : Bool := l.all (fun v => Decidable.decide (v < 256))

/-- A list of words. -/
def wordsOk (l : List Nat) : Bool := l.all (fun v => Decidable.decide (v < 2 ^ 32))

/-- The lists of a command: bytes of frames, words, readings. -/
def Instr.lists : Instr → Bool
  | .crierReceived _ _ _ _ _ payload => bytesOk payload
  | .shareFrameReceived _ _ _ stat whls words => bytesOk stat && whls.all wordsOk && wordsOk words
  | .telltaleFrameReceived _ _ f => bytesOk f
  | .bulkFrameReceived _ _ _ pl => bytesOk pl
  | .canFrameReceived _ _ _ _ data => bytesOk data
  | .hspiWriteFrame b => bytesOk b
  | .ethFrameReceived _ _ _ _ _ _ data => bytesOk data
  | .hostFrameReceived _ _ b => bytesOk b
  | .tuneRunEnd _ _ gains => gains.all (fun g => Decidable.decide (g.1 < 2 ^ 12) && Decidable.decide (g.2 < 2 ^ 24))
  | .scrubRead outcomes => outcomes.all (fun v => Decidable.decide (v < 4))
  | _ => true

/-- A well-formed command. -/
def Instr.wf (i : Instr) : Bool :=
  i.operands.all (fun x => x.1.ok x.2) && i.fields.all (fun x => signedFits x.1 x.2) && i.pairing && i.lists

end Sys2Proof
end

