-- ==== Sys2Proof/Config.lean ====
section
/-! DEFINITION. Config.lean: what an implementation fixes, and the free values. A constant without a body stands for a value
that the spec leaves open: nothing in Lean can evaluate it, so a claim about it holds for every value. -/

namespace Sys2Proof.Config

/-- The free values, one for each number: what the spec leaves open at the n-th such point of a run. -/
opaque freeValue : Nat → Nat

/-- The firmware version that PING returns (R430): the spec gives no value. -/
opaque firmwareVersion : Nat

/-- The number with which PING names the stepping (R430): the spec gives no value. -/
opaque stepping : Nat

/-- The contents of the boot ROM, by byte address (R30): the spec does not give them. -/
opaque bootRom : Nat → Nat

/-- The number by which a record of an error code names a thing of a list that the spec gives without numbers: a cause, a failed
condition, a comparison, a source, a hop, a switch, a test, an operation. The model's own numbering of the list is its second
argument (log 33). -/
opaque recordNumber : Nat → Nat → Nat

end Sys2Proof.Config
end

