-- ==== Sys2Proof/Machine/Bits.lean ====
section
/-! DEFINITION. Machine/Bits.lean: bit fields, signed values, byte order and small list operations. -/

namespace Sys2Proof.Machine

/-- The two's-complement value of the low `w` bits of `n`. -/
def toInt (w n : Nat) : Int :=
  let m := n % 2 ^ w
  if m < 2 ^ (w - 1) then (m : Int) else (m : Int) - 2 ^ w

/-- The low `w` bits of an integer, as a natural number. -/
def ofInt (w : Nat) (z : Int) : Nat := (z % (2 ^ w : Int)).toNat

/-- An integer clamped between two bounds. -/
def clampInt (lo hi z : Int) : Int := if z < lo then lo else if hi < z then hi else z

/-- An integer clamped to the range of a signed value of `w` bits. -/
def satInt (w : Nat) (z : Int) : Int := clampInt (-(2 ^ (w - 1))) (2 ^ (w - 1) - 1) z

/-- Bits `hi` to `lo` of `n` (R4). -/
def bits (n hi lo : Nat) : Nat := n / 2 ^ lo % 2 ^ (hi - lo + 1)

/-- `n` with bits `hi` to `lo` replaced by the low bits of `v`. -/
def setBits (n hi lo v : Nat) : Nat :=
  n / 2 ^ (hi + 1) * 2 ^ (hi + 1) + v % 2 ^ (hi - lo + 1) * 2 ^ lo + n % 2 ^ lo

/-- 1 for true, 0 for false. -/
def b2n (b : Bool) : Nat := if b then 1 else 0

/-- The list with its entry `n` changed by `f`; unchanged past the end. -/
def updAt {α : Type} (l : List α) (n : Nat) (f : α → α) : List α :=
  match l, n with
  | [], _ => []
  | a :: t, 0 => f a :: t
  | a :: t, k + 1 => a :: updAt t k f

/-- A bank of `n` like units: a list that is too short is filled up with units at their defaults. -/
def bank {α : Type} (n : Nat) (x : α) (l : List α) : List α := l ++ List.replicate (n - l.length) x

/-- A bank of `n` units with unit `k` changed by `f`. -/
def updBank {α : Type} (n : Nat) (x : α) (l : List α) (k : Nat) (f : α → α) : List α := updAt (bank n x l) k f

/-- The indices below `n` whose bit is set in a mask. -/
def maskBits (n m : Nat) : List Nat := (List.range n).filter (fun i => m.testBit i)

/-- The little-endian bytes of a value, `k` of them (R4). -/
def leBytes (k v : Nat) : List Nat := (List.range k).map (fun i => v / 256 ^ i % 256)

/-- The value of little-endian bytes (R4). -/
def leVal : List Nat → Nat
  | [] => 0
  | b :: t => b % 256 + 256 * leVal t

/-- The value of big-endian bytes. -/
def beVal (l : List Nat) : Nat := leVal l.reverse

/-- A saturating count: one more, at most `m`. -/
def satInc (m v : Nat) : Nat := if v < m then v + 1 else m

/-- The smallest element that satisfies a test, among the numbers below `n`. -/
def firstWhere (n : Nat) (p : Nat → Bool) : Option Nat := (List.range n).find? p

/-- One step of a reflected CRC-32C over a bit (polynomial 0x82F63B78 reflected; PRESUMED, log 10). -/
def crc32cBit (c : Nat) : Nat := if c % 2 = 1 then c / 2 ^^^ 0x82F63B78 else c / 2

/-- One byte of CRC-32C. -/
def crc32cByte (c b : Nat) : Nat :=
  crc32cBit (crc32cBit (crc32cBit (crc32cBit (crc32cBit (crc32cBit (crc32cBit (crc32cBit (c ^^^ b % 256))))))))

/-- CRC-32C of a byte string (R428, R459, R464). -/
def crc32c (l : List Nat) : Nat := l.foldl crc32cByte 0xFFFFFFFF ^^^ 0xFFFFFFFF

/-- One byte into a most-significant-bit-first CRC register of `w` bits. -/
def crcMsbByte (w poly c b : Nat) : Nat :=
  (List.range 8).foldl
    (fun c i =>
      let top := c.testBit (w - 1) != (b % 256).testBit (7 - i)
      let s := c * 2 % 2 ^ w
      if top then s ^^^ poly else s) c

/-- A most-significant-bit-first CRC of a byte string with a given start value. -/
def crcMsb (w poly init : Nat) (l : List Nat) : Nat := l.foldl (crcMsbByte w poly) init

end Sys2Proof.Machine
end

