-- ==== Sys2Proof/Machine/ErrCodes.lean ====
section
/-! DEFINITION. Machine/ErrCodes.lean: the error codes of the spec's code tables (R38, R39 and the table of each chapter)
with their severities (R441): 0 NOTE, 1 WARN, 2 FAULT, 3 TRIP. -/

namespace Sys2Proof.Machine

namespace Err

/-- NOTE; raised when: R34; context: Address, master. -/
def SYS_BUS_ERR : Nat := 0x0101
/-- FAULT; raised when: R493; context: Stage. -/
def SYS_WDT : Nat := 0x0102
/-- FAULT; raised when: R493; context: Core. -/
def SYS_LOCKSTEP : Nat := 0x0103
/-- NOTE; raised when: R16; context: Frame-error count. -/
def SYS_D2D_CRC : Nat := 0x0110
/-- FAULT; raised when: R17; context: Direction of loss. -/
def SYS_D2D_LOST : Nat := 0x0111
/-- NOTE; raised when: R24; context: Domain number. -/
def SYS_RST_REFUSED : Nat := 0x0120
/-- TRIP; raised when: R489; context: Duration. -/
def SYS_XTAL_LOST : Nat := 0x0130
/-- TRIP; raised when: R489; context: PLL. -/
def SYS_PLL_UNLOCK : Nat := 0x0131
/-- TRIP; raised when: R489; context: Measured count. -/
def SYS_FCLK_FREQ : Nat := 0x0132
/-- FAULT; raised when: R497; context: FALLBACKS, SV_HOLD. -/
def SYS_SV_HOLD_EXPIRED : Nat := 0x0140
/-- WARN; raised when: F_APP of a channel first falls below 1.0; context: Channel, F_APP, source. -/
def THM_DERATE : Nat := 0x0201
/-- FAULT; raised when: R486; context: Channel or die, temperature. -/
def THM_HARD : Nat := 0x0202
/-- TRIP; raised when: R487; context: Sensor, reading. -/
def THM_LATCH : Nat := 0x0203
/-- WARN; raised when: R483; context: Sensor, raw, m. -/
def THM_SENSOR_BROKEN : Nat := 0x0204
/-- WARN; raised when: R482; context: Input, cause. -/
def THM_TIN_INVALID : Nat := 0x0205
/-- NOTE; raised when: R498; context: Channel. -/
def THM_CFG_BAD : Nat := 0x0206
/-- NOTE; raised when: R498; context: Register offset. -/
def THM_RWL_REFUSED : Nat := 0x0207
/-- WARN; raised when: R66 check 4; received ring Bell refused; context: Core or origin node, TAG, OCC. -/
def TB_BELL_FULL : Nat := 0x0301
/-- NOTE; raised when: R66 check 2; context: Core, TAG, WHEN, RT64 or position. -/
def TB_BELL_PAST : Nat := 0x0302
/-- NOTE; raised when: R66 check 1; context: Core, TAG, word in error. -/
def TB_BELL_BAD : Nat := 0x0303
/-- WARN; raised when: R62, R63; context: Handle, TAG, delay in ticks. -/
def TB_BELL_LATE : Nat := 0x0304
/-- NOTE; raised when: R66 check 3; context: Core, TAG, lead in ticks. -/
def TB_RING_LEAD : Nat := 0x0305
/-- WARN; raised when: R70; context: Origin node, TAG. -/
def TB_RING_LATE : Nat := 0x0306
/-- WARN; raised when: R69; context: Handle, NAK mask. -/
def TB_RING_REFUSED : Nat := 0x0307
/-- WARN; raised when: R64; context: Handle, TAG, action. -/
def TB_ACTION_FAIL : Nat := 0x0308
/-- NOTE; raised when: R68; context: Core, handle. -/
def TB_BELL_GONE : Nat := 0x0309
/-- WARN; raised when: R56; context: Wheel, AGE. -/
def TB_WHEEL_STALE : Nat := 0x030A
/-- WARN; raised when: R56; context: Wheel, correction. -/
def TB_WHEEL_JUMP : Nat := 0x030B
/-- WARN; raised when: R73; context: Group, error in fine ticks. -/
def TB_ALIGN_LOST : Nat := 0x030C
/-- WARN; raised when: R46, entry into HOLDOVER; context: Cycles without Crier. -/
def TB_RT_HOLDOVER : Nat := 0x030D
/-- NOTE; raised when: R8, R72; context: Register offset. -/
def TB_RWL_REFUSED : Nat := 0x030E
/-- NOTE; raised when: Field, address or OP invalid; context: Context, word. -/
def CE_ADM_PARAM : Nat := 0x0401
/-- WARN; raised when: R86; context: Engine, context, words missing. -/
def CE_ADM_MEM : Nat := 0x0402
/-- WARN; raised when: R86; context: Engine, context, excess. -/
def CE_ADM_UTIL : Nat := 0x0403
/-- WARN; raised when: R86; context: Engine, failing context, shortfall. -/
def CE_ADM_CYCLES : Nat := 0x0404
/-- WARN; raised when: R86, R98; context: Engine, context, shortfall. -/
def CE_ADM_MIG : Nat := 0x0405
/-- NOTE; raised when: Malformed image; context: Context, image offset. -/
def CE_IMG_BAD : Nat := 0x0406
/-- NOTE; raised when: R85; context: Context, state, OP. -/
def CE_CTX_STATE : Nat := 0x0407
/-- NOTE; raised when: R95; context: Context. -/
def CE_WARM_DENIED : Nat := 0x0408
/-- WARN; raised when: R83; context: Context, engine, t0 as RT64 (two words), delay in ticks. -/
def CE_CTX_LATE : Nat := 0x0409
/-- FAULT; raised when: R84, R96, R102, R127, R522; context: Context, cause (R522), BIND. -/
def CE_CTX_FAULT : Nat := 0x040A
/-- WARN; raised when: R79; context: Context, interval in ticks. -/
def CE_TRIG_FAST : Nat := 0x040B
/-- WARN; raised when: R85, R91, R92; context: Outgoing, incoming. -/
def CE_HO_BAD : Nat := 0x040C
/-- NOTE; raised when: R88; context: Address. -/
def CE_WR_GUARD : Nat := 0x040D
/-- FAULT; raised when: R93; context: Engine, FAULT_SRC. -/
def CE_ENG_FAULT : Nat := 0x040E
/-- NOTE; raised when: R93; context: Engine, address. -/
def CE_ECC_CORR : Nat := 0x040F
/-- NOTE; raised when: R94, R97; context: Source engine, MOVED, LOST, U, unloaded contexts (R97). -/
def CE_MIG_DONE : Nat := 0x0410
/-- FAULT; raised when: R94, R97; context: Engine, reason (R97). -/
def CE_MIG_FAIL : Nat := 0x0411
/-- WARN; raised when: R93; context: Engine. -/
def CE_SIG_STARVED : Nat := 0x0412
/-- WARN; raised when: R102; context: Checker, MAXR. -/
def CE_RES_EXCEED : Nat := 0x0413
/-- WARN; raised when: R103; context: Conditioner. -/
def CE_SPC_INVALID : Nat := 0x0414
/-- NOTE; raised when: R8, R77, R78; context: Register offset. -/
def CE_RWL_REFUSED : Nat := 0x0415
/-- NOTE; raised when: R85; context: Context, armed channels. -/
def CE_CTX_BOUND : Nat := 0x0416
/-- WARN; raised when: R160; context: Clamped legs. -/
def PWM_PAIR_STALE : Nat := 0x0501
/-- WARN; raised when: R155; context: Leg. -/
def PWM_LEG_CONFLICT : Nat := 0x0502
/-- WARN; raised when: R157; context: Phase. -/
def PWM_NPC_ILLEGAL : Nat := 0x0503
/-- WARN; raised when: R151; context: Line. -/
def PWM_HR_FAIL : Nat := 0x0504
/-- WARN; raised when: R154; context: Leg. -/
def PWM_DT_RANGE : Nat := 0x0505
/-- NOTE; raised when: R161; context: Compare. -/
def PWM_TRIG_RANGE : Nat := 0x0506
/-- NOTE; raised when: R169; context: ARM_WHY. -/
def PWM_ARM_REFUSED : Nat := 0x0507
/-- NOTE; raised when: R166; context: Table, MISS. -/
def PWM_SYNC_WAIT : Nat := 0x0508
/-- NOTE; raised when: R166; context: Mode, table. -/
def PWM_MODE_DONE : Nat := 0x0509
/-- WARN; raised when: R166; context: Table, CHK_ERR. -/
def PWM_PAT_BAD : Nat := 0x050A
/-- FAULT; raised when: R167; context: Wheel. -/
def PWM_PAT_STALE : Nat := 0x050B
/-- NOTE; raised when: R8, R164, R178; context: Register offset. -/
def PWM_RWL_REFUSED : Nat := 0x050C
/-- TRIP; raised when: R170; context: Group, first source. -/
def TRP_LATCH : Nat := 0x0601
/-- NOTE; raised when: R175; context: Group, source. -/
def TRP_CLR_ACTIVE : Nat := 0x0602
/-- NOTE; raised when: R175; context: Group, quiet time in µs. -/
def TRP_CLR_EARLY : Nat := 0x0603
/-- TRIP; raised when: R174; context: Clock-loss duration in ns. -/
def TRP_CLK_LOSS : Nat := 0x0604
/-- TRIP; raised when: R173; context: Channel, cause, armed legs forced. -/
def TRP_FORCED : Nat := 0x0605
/-- NOTE; raised when: R171; context: Group, leg. -/
def TRP_CHOP_EXCL : Nat := 0x0606
/-- NOTE; raised when: R178; context: Register offset. -/
def TRP_RWL_REFUSED : Nat := 0x0607
/-- WARN; raised when: R186; context: Input i. -/
def MEA_SD_STUCK : Nat := 0x0701
/-- WARN; raised when: R189; context: Sequence, OVR. -/
def MEA_SEQ_OVR : Nat := 0x0702
/-- WARN; raised when: R194; context: Channel c. -/
def MEA_PRED_INVALID : Nat := 0x0703
/-- WARN; raised when: R191; context: Channel c, code. -/
def MEA_LIMIT : Nat := 0x0704
/-- NOTE; raised when: R208; context: Register offset. -/
def MEA_RWL_REFUSED : Nat := 0x0705
/-- WARN; raised when: R196; context: Encoder. -/
def POS_ENC_ILLEGAL : Nat := 0x0801
/-- WARN; raised when: R196; context: Encoder, counts between Z edges. -/
def POS_ENC_ZERR : Nat := 0x0802
/-- WARN; raised when: R198; context: Resolver, AMP. -/
def POS_RSV_LOS : Nat := 0x0803
/-- NOTE; raised when: R199, R200; context: Port, cause. -/
def POS_SSI_ERR : Nat := 0x0804
/-- WARN; raised when: R200; context: Port. -/
def POS_SSI_INVALID : Nat := 0x0805
/-- NOTE; raised when: R202; context: Unit. -/
def POS_CAP_OVR : Nat := 0x0806
/-- WARN; raised when: R201; context: Input. -/
def POS_PLS_TIMEOUT : Nat := 0x0807
/-- NOTE; raised when: R208; context: Register offset. -/
def POS_RWL_REFUSED : Nat := 0x0808
/-- NOTE; raised when: R199; context: Port, LEN, TURN_BITS, ST_BITS, PAR. -/
def POS_CFG_BAD : Nat := 0x0809
/-- NOTE; raised when: R275; context: OP, STATE. -/
def STP_CMD_REFUSED : Nat := 0x0901
/-- NOTE; raised when: R275, R285; context: Failed condition. -/
def STP_CFG_BAD : Nat := 0x0902
/-- WARN; raised when: R281; context: Limit, POS. -/
def STP_HW_LIMIT : Nat := 0x0903
/-- NOTE; raised when: R280; context: Target, limit. -/
def STP_TGT_CLAMPED : Nat := 0x0904
/-- WARN; raised when: R284; context: LAG. -/
def STP_LAG : Nat := 0x0905
/-- FAULT; raised when: R290; context: LAGF, I, POS. -/
def STP_STALL : Nat := 0x0906
/-- NOTE; raised when: R285; context: p_edge, BOUNCE. -/
def STP_HOME_DONE : Nat := 0x0907
/-- WARN; raised when: R286; context: REASON, HSTEP. -/
def STP_HOME_FAIL : Nat := 0x0908
/-- WARN; raised when: R277; context: REASON. -/
def STP_HALTED : Nat := 0x0909
/-- NOTE; raised when: R274; context: Clamped speed. -/
def STP_VCLAMP : Nat := 0x090A
/-- NOTE; raised when: R291; context: Register offset. -/
def STP_RWL_REFUSED : Nat := 0x090B
/-- WARN; raised when: R262; context: ATTEMPT, REASON. -/
def CMU_START_FAIL : Nat := 0x0A01
/-- WARN; raised when: R256; context: T_S, sector. -/
def CMU_LOST : Nat := 0x0A02
/-- FAULT; raised when: R263; context: Phase, state. -/
def CMU_MISSING_PHASE : Nat := 0x0A03
/-- WARN; raised when: R264; context: REASON. -/
def CMU_HALTED : Nat := 0x0A04
/-- WARN; raised when: R260; context: Peak current. -/
def CMU_BRAKE_TIMEOUT : Nat := 0x0A05
/-- NOTE; raised when: R265; context: REASON. -/
def CMU_CFG_BAD : Nat := 0x0A06
/-- NOTE; raised when: R264; context: OP, STATE. -/
def CMU_CMD_REFUSED : Nat := 0x0A07
/-- NOTE; raised when: R259, R262; context: CODE, proposal. -/
def CMU_DECIDE_REFUSED : Nat := 0x0A08
/-- NOTE; raised when: R259, R262; context: Proposal, T_est. -/
def CMU_PROPOSE : Nat := 0x0A09
/-- NOTE; raised when: R268; context: Register offset. -/
def CMU_RWL_REFUSED : Nat := 0x0A0A
/-- FAULT; raised when: R243; context: VDRV. -/
def AUX_GD_UV : Nat := 0x0B01
/-- NOTE; raised when: R245; context: Boundary tick. -/
def AUX_BS_REFRESH : Nat := 0x0B02
/-- FAULT; raised when: R246; context: Cause. -/
def AUX_BS_FAIL : Nat := 0x0B03
/-- FAULT; raised when: R247; context: Threshold. -/
def AUX_OC : Nat := 0x0B04
/-- WARN; raised when: R248; context: VBR. -/
def AUX_VBR_UV : Nat := 0x0B05
/-- FAULT; raised when: R248; context: VBR. -/
def AUX_VBR_OV : Nat := 0x0B06
/-- FAULT; raised when: R251; context: SIDE, CODE, OPEN. -/
def AUX_LEAK : Nat := 0x0B07
/-- NOTE; raised when: R251; context: Failed condition. -/
def AUX_LEAK_REFUSED : Nat := 0x0B08
/-- NOTE; raised when: R250; context: Latches cleared, latches kept. -/
def AUX_EN_CLEAR : Nat := 0x0B09
/-- NOTE; raised when: R268; context: Register offset. -/
def AUX_RWL_REFUSED : Nat := 0x0B0A
/-- NOTE; raised when: Udc first exceeds OVC; context: Monitor, VDC. -/
def DCL_OVC : Nat := 0x0C01
/-- WARN; raised when: R294; context: Monitor, VDC. -/
def DCL_WARN : Nat := 0x0C02
/-- TRIP; raised when: R294, R296; context: Monitor, VDC. -/
def DCL_TRIP : Nat := 0x0C03
/-- FAULT; raised when: R299; context: Monitor, FAIL_SRC. -/
def DCL_CHOP_FAIL : Nat := 0x0C04
/-- TRIP; raised when: R297; context: Monitor. -/
def DCL_MEAS_LOST : Nat := 0x0C05
/-- FAULT; raised when: R304; context: Channel, CAUSE. -/
def DCL_SL_HOLD : Nat := 0x0C06
/-- NOTE; raised when: R310; context: Channel, REASON, BY. -/
def DCL_PB_SHORT : Nat := 0x0C07
/-- WARN; raised when: R313; context: Effective budget. -/
def DCL_FLR : Nat := 0x0C08
/-- WARN; raised when: R315; context: Group, channel. -/
def DCL_SHARE_DROP : Nat := 0x0C09
/-- NOTE; raised when: R301, R311, R315; context: Function, unit, proposal. -/
def DCL_PROPOSE : Nat := 0x0C0A
/-- NOTE; raised when: R296, R307, R316; context: OP, UNIT, condition. -/
def DCL_CMD_REFUSED : Nat := 0x0C0B
/-- NOTE; raised when: R319; context: Register offset. -/
def DCL_RWL_REFUSED : Nat := 0x0C0C
/-- NOTE; raised when: R295; context: Monitor, comparison. -/
def DCL_CFG_BAD : Nat := 0x0C0D
/-- FAULT; raised when: R416; context: TEC, LEC. -/
def CAN_BUS_OFF : Nat := 0x0D01
/-- WARN; raised when: R416; context: TEC, REC. -/
def CAN_ERR_PASSIVE : Nat := 0x0D02
/-- NOTE; raised when: R416; context: —. -/
def CAN_ERR_ACTIVE : Nat := 0x0D03
/-- WARN; raised when: R417; context: Identifier, XTD, object. -/
def CAN_ID_CLASH : Nat := 0x0D04
/-- WARN; raised when: R418; context: Object. -/
def CAN_NO_PEER : Nat := 0x0D05
/-- WARN; raised when: R415; context: Entry, OVR. -/
def CAN_HP_OVR : Nat := 0x0D06
/-- NOTE; raised when: R415; context: OVR. -/
def CAN_FIFO_OVR : Nat := 0x0D07
/-- NOTE; raised when: R415; context: Object. -/
def CAN_RX_LOST : Nat := 0x0D08
/-- WARN; raised when: R410; context: TDCV. -/
def CAN_TDC_SAT : Nat := 0x0D09
/-- NOTE; raised when: R409; context: Field. -/
def CAN_CFG_BAD : Nat := 0x0D0A
/-- NOTE; raised when: R412; context: Offset. -/
def CAN_WR_GUARD : Nat := 0x0D0B
/-- NOTE; raised when: R420; context: Register offset. -/
def CAN_RWL_REFUSED : Nat := 0x0D0C
/-- WARN; raised when: R346; context: Hop, cause. -/
def DRG_WRAP : Nat := 0x0E01
/-- NOTE; raised when: R347; context: Hop. -/
def DRG_UNWRAP : Nat := 0x0E02
/-- WARN; raised when: R343; context: Cycles without Crier. -/
def DRG_CRIER_MISS : Nat := 0x0E03
/-- WARN; raised when: R343; context: Former master. -/
def DRG_MASTER_LOST : Nat := 0x0E04
/-- NOTE; raised when: R344; context: New master. -/
def DRG_MASTER_CHANGE : Nat := 0x0E05
/-- WARN; raised when: R345; context: Other master. -/
def DRG_ROLE_CLASH : Nat := 0x0E06
/-- WARN; raised when: R340; context: Node number. -/
def DRG_ID_CLASH : Nat := 0x0E07
/-- NOTE; raised when: R336; context: NODE, EXCESS. -/
def DRG_PLAN_REFUSED : Nat := 0x0E08
/-- WARN; raised when: R337; context: Requested, admitted. -/
def DRG_SLOT_SHORT : Nat := 0x0E09
/-- WARN; raised when: R338; context: Hop, delay. -/
def DRG_HOP_LONG : Nat := 0x0E0A
/-- WARN; raised when: R339; context: AB. -/
def DRG_TIME_SPLIT : Nat := 0x0E0B
/-- NOTE; raised when: R333, R335; context: Channel, source. -/
def DRG_BULK_DROP : Nat := 0x0E0C
/-- WARN; raised when: R353; context: Member, cause. -/
def DRG_LS_DROP : Nat := 0x0E0D
/-- FAULT; raised when: R354; context: Leader. -/
def DRG_LS_LEADER_LOST : Nat := 0x0E0E
/-- NOTE; raised when: R353; context: Member, proposal. -/
def DRG_PROPOSE : Nat := 0x0E0F
/-- NOTE; raised when: Command invalid or not allowed; context: OP, condition. -/
def DRG_CMD_REFUSED : Nat := 0x0E10
/-- NOTE; raised when: R355; context: Register offset. -/
def DRG_RWL_REFUSED : Nat := 0x0E11
/-- NOTE; raised when: R425, R428; context: Port, cause: 1 sync or version, 2 length, 3 CRC, 4 HSPI OP. -/
def HST_FRAME_BAD : Nat := 0x0F01
/-- WARN; raised when: R428; context: Port, TAG, IN_LEVEL. -/
def HST_BUSY : Nat := 0x0F02
/-- NOTE; raised when: R428; context: Port, TAG. -/
def HST_TAG_DUP : Nat := 0x0F03
/-- NOTE; raised when: R430; context: Port, CODE. -/
def HST_CMD_UNKNOWN : Nat := 0x0F04
/-- NOTE; raised when: R429, R430; context: Port, TAG, byte offset. -/
def HST_ARG_BAD : Nat := 0x0F05
/-- NOTE; raised when: R445; context: a reply status only, never a record. -/
def HST_SV_ABSENT : Nat := 0x0F06
/-- WARN; raised when: R445, R446; context: Duration, cause, fallbacks. -/
def HST_SV_RESTART : Nat := 0x0F07
/-- WARN; raised when: R431; context: Port, count. -/
def HST_EVT_LOST : Nat := 0x0F08
/-- WARN; raised when: R431; context: Port. -/
def HST_LINK_DOWN : Nat := 0x0F09
/-- NOTE; raised when: R432, R435; context: FUNC, UNIT, proposal, deadline. -/
def HST_PROPOSE : Nat := 0x0F0A
/-- NOTE; raised when: R432; context: FUNC, UNIT, code applied. -/
def HST_DEADLINE : Nat := 0x0F0B
/-- NOTE; raised when: R434; context: FUNC, UNIT, code applied. -/
def HST_DECIDE_LATE : Nat := 0x0F0C
/-- NOTE; raised when: R434; context: FUNC, UNIT, deciding port. -/
def HST_DECIDE_NONE : Nat := 0x0F0D
/-- WARN; raised when: R438; context: Kind, instance, restarts. -/
def HST_RESTART_LIMIT : Nat := 0x0F0E
/-- NOTE; raised when: R449; context: Address. -/
def MEM_ECC_CORR : Nat := 0x1001
/-- FAULT; raised when: R449; context: Address, region, master. -/
def MEM_ECC_UNCORR : Nat := 0x1002
/-- WARN; raised when: R453, R464, R468, R472; context: Temperature, operation. -/
def MEM_FLASH_TEMP : Nat := 0x1003
/-- NOTE; raised when: R453; context: Offset. -/
def MEM_FLASH_PROT : Nat := 0x1004
/-- FAULT; raised when: R452; context: Offset, operation. -/
def MEM_FLASH_ERR : Nat := 0x1005
/-- FAULT; raised when: R451; context: Step. -/
def MEM_DDR_TRAIN_FAIL : Nat := 0x1006
/-- NOTE; raised when: R477; context: Register offset. -/
def MEM_RWL_REFUSED : Nat := 0x1007
/-- WARN; raised when: R457; context: Stream, rate, BW_USED. -/
def REC_BW_REFUSED : Nat := 0x1101
/-- NOTE; raised when: R457; context: Stream. -/
def REC_MEM_BAD : Nat := 0x1102
/-- NOTE; raised when: R454; context: Stream, interval. -/
def REC_FAST : Nat := 0x1103
/-- NOTE; raised when: R456; context: Stream, PUT. -/
def REC_DONE : Nat := 0x1104
/-- NOTE; raised when: R477; context: Register offset. -/
def REC_RWL_REFUSED : Nat := 0x1105
/-- NOTE; raised when: R463; context: Requester, holder, session. -/
def IMG_BUSY : Nat := 0x1201
/-- NOTE; raised when: R462; context: Session named. -/
def IMG_SESSION : Nat := 0x1202
/-- NOTE; raised when: R465; context: Session, holder. -/
def IMG_LAPSED : Nat := 0x1203
/-- NOTE; raised when: R464; context: Offset. -/
def IMG_BLOCK_CRC : Nat := 0x1204
/-- NOTE; raised when: R464; context: Offset, length. -/
def IMG_OFFSET_BAD : Nat := 0x1205
/-- NOTE; raised when: R464; context: Offset. -/
def IMG_BLOCK_CONFLICT : Nat := 0x1206
/-- WARN; raised when: R461; context: Slot, byte offset. -/
def IMG_MANIFEST_BAD : Nat := 0x1207
/-- WARN; raised when: R461; context: Slot, KEY_SLOT. -/
def IMG_KEY_BAD : Nat := 0x1208
/-- WARN; raised when: R461; context: Slot. -/
def IMG_SIG_BAD : Nat := 0x1209
/-- WARN; raised when: R461; context: Slot, SVN, counter. -/
def IMG_ROLLBACK : Nat := 0x120A
/-- WARN; raised when: R461; context: Slot, part. -/
def IMG_PART_BAD : Nat := 0x120B
/-- NOTE; raised when: R465; context: Session. -/
def IMG_NOT_VERIFIED : Nat := 0x120C
/-- WARN; raised when: R466; context: PHASE, temperature. -/
def IMG_UPD_DEFERRED_TEMP : Nat := 0x120D
/-- FAULT; raised when: R466; context: Cause: 1 trial resets, 2 REJECT, 3 ACTIVE invalid. -/
def IMG_FALLBACK : Nat := 0x120E
/-- NOTE; raised when: R466; context: TRIAL_CNT, IMG_VER. -/
def IMG_TRIAL : Nat := 0x120F
/-- FAULT; raised when: R471; context: Format found, format expected. -/
def IMG_PARAM_UNREADABLE : Nat := 0x1210
/-- NOTE; raised when: R468; context: Command. -/
def IMG_NOT_TRIAL : Nat := 0x1211
/-- WARN; raised when: R466; context: BOOT_MODE, VCODE. -/
def IMG_RECOVERY : Nat := 0x1212
/-- WARN; raised when: R474; context: Entry. -/
def TLY_EXHAUSTED : Nat := 0x1301
/-- NOTE; raised when: R468, R474; context: Entry, temperature. -/
def TLY_TEMP : Nat := 0x1302
/-- NOTE; raised when: R474, R475; context: Entry, lock. -/
def TLY_LOCKED : Nat := 0x1303
/-- NOTE; raised when: R474; context: Entry. -/
def TLY_ONE_WAY : Nat := 0x1304
/-- NOTE; raised when: R474; context: Entry. -/
def TLY_BUSY : Nat := 0x1305
/-- NOTE; raised when: R476; context: INDEX, entry, SRC. -/
def TLY_CHANGED : Nat := 0x1306
/-- NOTE; raised when: R474; context: Slot. -/
def TLY_LAST_KEY : Nat := 0x1307
/-- FAULT; raised when: R474; context: Entry, slot. -/
def TLY_PROG_FAIL : Nat := 0x1308
/-- TRIP; raised when: R359; context: Differing decisions. -/
def SAF_CORE_MISMATCH : Nat := 0x1401
/-- TRIP; raised when: R362; context: FCLK count. -/
def SAF_CLK_FAULT : Nat := 0x1402
/-- TRIP; raised when: R362; context: Channel, line. -/
def SAF_GDEN_FAULT : Nat := 0x1403
/-- TRIP; raised when: R18; context: Link. -/
def SAF_LINK_LOST : Nat := 0x1404
/-- FAULT; raised when: R362; context: —. -/
def SAF_V24_LOST : Nat := 0x1405
/-- FAULT; raised when: R366, R367; context: Input, lagging channel. -/
def SAF_DISC : Nat := 0x1406
/-- FAULT; raised when: R369; context: Pair, switch. -/
def SAF_OUT_FAULT : Nat := 0x1407
/-- FAULT; raised when: R371; context: Pair, switch, test. -/
def SAF_TEST_FAIL : Nat := 0x1408
/-- FAULT; raised when: R376; context: Channel, n_enc, n_sd. -/
def SAF_SPEED_DISC : Nat := 0x1409
/-- FAULT; raised when: R378 to R381; context: Channel, function, n_safe or p. -/
def SAF_LIMIT : Nat := 0x140A
/-- WARN; raised when: R383; context: Channel, movement. -/
def SAF_SHH_SLIP : Nat := 0x140B
/-- FAULT; raised when: R384; context: Channel, result. -/
def SAF_SBT_FAIL : Nat := 0x140C
/-- NOTE; raised when: R384; context: Channel. -/
def SAF_SBT_DUE : Nat := 0x140D
/-- FAULT; raised when: R400; context: Connection. -/
def SAF_TT_LOST : Nat := 0x140E
/-- NOTE; raised when: R392; context: FAILS. -/
def SAF_PW_FAIL : Nat := 0x140F
/-- WARN; raised when: R392; context: LOCK_S. -/
def SAF_PW_LOCK : Nat := 0x1410
/-- NOTE; raised when: R390, R391; context: RECORD, REASON. -/
def SAF_CFG_REFUSED : Nat := 0x1411
/-- NOTE; raised when: R393; context: INDEX. -/
def SAF_CFG_ACTIVE : Nat := 0x1412
/-- NOTE; raised when: R384, R385, R402; context: OP, SEQ. -/
def SAF_CMD_REFUSED : Nat := 0x1413
/-- NOTE; raised when: R443; context: as R443. -/
def ERR_OVERFLOW : Nat := 0x1501
/-- NOTE; raised when: EVENT Bell (R61); context: Event code, handle, TAG. -/
def ERR_EVENT : Nat := 0x1502
/-- NOTE; raised when: Library STATE or REASON change (R216); context: Context, old status, new status. -/
def ERR_LIB_STATUS : Nat := 0x1503

end Err

def codesWarn0 : List Nat :=
  [0x0201, 0x0204, 0x0205, 0x0301, 0x0304, 0x0306, 0x0307, 0x0308, 0x030A, 0x030B, 0x030C, 0x030D,
   0x0402, 0x0403, 0x0404, 0x0405, 0x0409, 0x040B, 0x040C, 0x0412, 0x0413, 0x0414, 0x0501, 0x0502,
   0x0503, 0x0504, 0x0505, 0x050A, 0x0701, 0x0702, 0x0703, 0x0704, 0x0801, 0x0802, 0x0803, 0x0805,
   0x0807, 0x0903, 0x0905, 0x0908, 0x0909, 0x0A01, 0x0A02, 0x0A04, 0x0A05, 0x0B05, 0x0C02, 0x0C08]

def codesWarn1 : List Nat :=
  [0x0909, 0x0A01, 0x0A02, 0x0A04, 0x0A05, 0x0B05, 0x0C02, 0x0C08, 0x0C09, 0x0D02, 0x0D04, 0x0D05,
   0x0D06, 0x0D09, 0x0E01, 0x0E03, 0x0E04, 0x0E06, 0x0E07, 0x0E09, 0x0E0A, 0x0E0B, 0x0E0D, 0x0F02,
   0x0F07, 0x0F08, 0x0F09, 0x0F0E, 0x1003, 0x1101, 0x1207, 0x1208, 0x1209, 0x120A, 0x120B, 0x120D,
   0x1212, 0x1301, 0x140B, 0x1410]

/-- The codes of severity WARN. -/
def codesWarn : List Nat := codesWarn0 ++ codesWarn1

def codesFault0 : List Nat :=
  [0x0102, 0x0103, 0x0111, 0x0140, 0x0202, 0x040A, 0x040E, 0x0411, 0x050B, 0x0906, 0x0A03, 0x0B01,
   0x0B03, 0x0B04, 0x0B06, 0x0B07, 0x0C04, 0x0C06, 0x0D01, 0x0E0E, 0x1002, 0x1005, 0x1006, 0x120E,
   0x1210, 0x1308, 0x1405, 0x1406, 0x1407, 0x1408, 0x1409, 0x140A, 0x140C, 0x140E]

/-- The codes of severity FAULT. -/
def codesFault : List Nat := codesFault0

def codesTrip0 : List Nat :=
  [0x0130, 0x0131, 0x0132, 0x0203, 0x0601, 0x0604, 0x0605, 0x0C03, 0x0C05, 0x1401, 0x1402, 0x1403,
   0x1404]

/-- The codes of severity TRIP. -/
def codesTrip : List Nat := codesTrip0

/-- The severity that the code tables give a code (R441). -/
def errSev (code : Nat) : Nat :=
  if codesTrip.contains code then 3
  else if codesFault.contains code then 2
  else if codesWarn.contains code then 1
  else 0

end Sys2Proof.Machine
end

