-- ==== Sys2Proof/Machine/RegMap.lean ====
section
/-! DEFINITION. Machine/RegMap.lean: the bus address of every register of the spec's map tables (a function of its
indices) and the place of every field of its field tables. A register that the spec keeps per supervisor core has its key at
0x2_0000_0000 + 0x1000 × core, one that it keeps per context (reached through CTX_SEL) at 0x1_0000_0000 + 0x1000 × context. -/

namespace Sys2Proof.Machine

/-- A register field: the key of its register and its highest and lowest bit (R4). -/
structure RF where
  key : Nat
  hi  : Nat
  lo  : Nat
  deriving DecidableEq, Repr

namespace Reg

/-! SYSIRQ -/
/-- Enable, target and priority of source s (reset 0x0000_0000). -/
def IRQ_CFG (s : Nat) : Nat := 0x30000400 + 0x4 * s
/-- Claim for core 0 (reset 0x0000_0FFF). -/
def IRQ_CLAIM_C0 : Nat := 0x30000800
/-- Completion for core 0 (reset 0x0000_0000). -/
def IRQ_DONE_C0 : Nat := 0x30000804
/-- Claim for core 1 (reset 0x0000_0FFF). -/
def IRQ_CLAIM_C1 : Nat := 0x30000808
/-- Completion for core 1 (reset 0x0000_0000). -/
def IRQ_DONE_C1 : Nat := 0x3000080c

/-! TB -/
/-- RT64[31:0]; the read snapshots RT_HI (reset 0x0000_0000). -/
def RT_LO : Nat := 0x30020000
/-- RT64[63:32] at the last RT_LO read (reset 0x0000_0000). -/
def RT_HI : Nat := 0x30020004
/-- Discipline state (reset 0x0000_0000). -/
def RT_STAT : Nat := 0x30020008
/-- PTP source (reset 0x0000_0000). -/
def RT_CFG : Nat := 0x3002000c
/-- Captured PTP offset [31:0] (reset 0x0000_0000). -/
def RT_PTP_OFS_LO : Nat := 0x30020010
/-- Captured PTP offset [63:32] (reset 0x0000_0000). -/
def RT_PTP_OFS_HI : Nat := 0x30020014
/-- Staged Bell entry, per core (reset 0x0000_0000). -/
def BELL_W (core w : Nat) : Nat := 0x200000040 + 0x1000 * core + 0x4 * w
/-- Submit the staged entry (reset 0x0000_0000). -/
def BELL_POST (core : Nat) : Nat := 0x200000054 + 0x1000 * core
/-- Outcome of post or cancel (reset 0x0000_0000). -/
def BELL_RESULT (core : Nat) : Nat := 0x200000058 + 0x1000 * core
/-- Handle of the last accepted post (reset 0x0000_0000). -/
def BELL_HANDLE (core : Nat) : Nat := 0x20000005c + 0x1000 * core
/-- Cancel by handle (reset 0x0000_0000). -/
def BELL_CANCEL (core : Nat) : Nat := 0x200000060 + 0x1000 * core
/-- Occupancy (reset 0x0000_0000). -/
def SCHED_STAT : Nat := 0x30020064
/-- Ring reserve (reset 0x0000_0010). -/
def SCHED_CFG : Nat := 0x30020068
/-- LATE launches, saturating at 0xFFFF_FFFF (reset 0x0000_0000). -/
def LATE_CNT : Nat := 0x3002006c
/-- Latest ring Bell posted here (reset 0x0000_0000). -/
def RBELL_HANDLE : Nat := 0x30020070
/-- Its answers (reset 0x0000_0000). -/
def RBELL_ACK : Nat := 0x30020074
/-- General output levels (R65) (reset 0x0000_0000). -/
def GO_OUT : Nat := 0x30020078
/-- Set and clear general outputs (R65) (reset 0x0000_0000). -/
def GO_CTL : Nat := 0x3002007c
/-- Lock-group membership (reset 0x0000_0000). -/
def LG_MAP : Nat := 0x30020080
/-- Alignment grid in ticks (reset 0x0000_0000). -/
def LG_GRID (g : Nat) : Nat := 0x30020080 + 0x10 * g
/-- Alignment offset in fine ticks (reset 0x0000_0000). -/
def LG_OFS (g : Nat) : Nat := 0x30020084 + 0x10 * g
/-- Alignment control (reset 0x0000_1000). -/
def LG_CTL (g : Nat) : Nat := 0x30020088 + 0x10 * g
/-- Wheel source (reset 0x0000_0000). -/
def WHL_CFG (n : Nat) : Nat := 0x30020100 + 0x40 * n
/-- Stale and jump limits (reset 0x0100_03E8). -/
def WHL_LIM (n : Nat) : Nat := 0x30020104 + 0x40 * n
/-- Preset and origin, fraction (reset 0x0000_0000). -/
def WHL_SET_LO (n : Nat) : Nat := 0x30020108 + 0x40 * n
/-- Preset and origin, turns (reset 0x0000_0000). -/
def WHL_SET_HI (n : Nat) : Nat := 0x3002010c + 0x40 * n
/-- Speed for source 0x7, [31:0] (reset 0x0000_0000). -/
def WHL_SPD_SET_LO (n : Nat) : Nat := 0x30020110 + 0x40 * n
/-- Speed for source 0x7, [47:32] (reset 0x0000_0000). -/
def WHL_SPD_SET_HI (n : Nat) : Nat := 0x30020114 + 0x40 * n
/-- Turns per microstep, Q0.32 (reset 0x0000_0000). -/
def WHL_SCALE (n : Nat) : Nat := 0x30020118 + 0x40 * n
/-- Preset (reset 0x0000_0000). -/
def WHL_CTL (n : Nat) : Nat := 0x3002011c + 0x40 * n
/-- Position fraction; the read snapshots POS_HI and SPD (reset 0x0000_0000). -/
def WHL_POS_LO (n : Nat) : Nat := 0x30020120 + 0x40 * n
/-- Position turns (reset 0x0000_0000). -/
def WHL_POS_HI (n : Nat) : Nat := 0x30020124 + 0x40 * n
/-- Speed [31:0] (reset 0x0000_0000). -/
def WHL_SPD_LO (n : Nat) : Nat := 0x30020128 + 0x40 * n
/-- Speed [47:32], sign-extended (reset 0x0000_0000). -/
def WHL_SPD_HI (n : Nat) : Nat := 0x3002012c + 0x40 * n
/-- Wheel status (reset 0x0000_0000). -/
def WHL_STAT (n : Nat) : Nat := 0x30020130 + 0x40 * n
/-- Source updates, wrapping (reset 0x0000_0000). -/
def WHL_UPD_CNT (n : Nat) : Nat := 0x30020134 + 0x40 * n

/-! CE -/
/-- Spare, migration, limits (reset 0x039A_0A1B). -/
def CE_CFG : Nat := 0x30030000
/-- Command (reset 0x0000_0000). -/
def CE_CMD : Nat := 0x30030004
/-- Image address in shared SRAM, 8-byte aligned (reset 0x0000_0000). -/
def CE_IMG_ADDR : Nat := 0x30030008
/-- Command outcome (reset 0x0000_0000). -/
def CE_CMD_RESULT : Nat := 0x3003000c
/-- Admission refusal detail (reset 0x0000_0000). -/
def CE_ADM_INFO : Nat := 0x30030010
/-- Migration status (reset 0x0000_0000). -/
def CE_MIG_STAT : Nat := 0x30030014
/-- Engine status (reset 0x0000_0000). -/
def ENG_STAT (n : Nat) : Nat := 0x30030040 + 0x4 * n
/-- Selected context (reset 0x0000_0000). -/
def CTX_SEL : Nat := 0x30030100
/-- Counters of the selected context (reset 0x0000_0000). -/
def CTX_STAT (ctx : Nat) : Nat := 0x100000104 + 0x1000 * ctx
/-- LATE cycles, saturating (reset 0x0000_0000). -/
def CTX_LATE_CNT (ctx : Nat) : Nat := 0x100000108 + 0x1000 * ctx
/-- Dropped or missed triggers, saturating (reset 0x0000_0000). -/
def CTX_MISS_CNT (ctx : Nat) : Nat := 0x10000010c + 0x1000 * ctx
/-- Saved sticky flags (reset 0x0000_0000). -/
def CTX_FLAGS (ctx : Nat) : Nat := 0x100000110 + 0x1000 * ctx
/-- Shadow tolerance (reset 0x0000_0000). -/
def CTX_SHD_TOL (ctx : Nat) : Nat := 0x100000114 + 0x1000 * ctx
/-- Compared OUT ports (reset 0x0000_0000). -/
def CTX_SHD_MASK (ctx : Nat) : Nat := 0x100000118 + 0x1000 * ctx
/-- Latest comparison (reset 0x0000_0000). -/
def CTX_SHD_DIFF (ctx : Nat) : Nat := 0x10000011c + 0x1000 * ctx
/-- Input binding (R78) (reset 0x0000_0000). -/
def CTX_IN (ctx i : Nat) : Nat := 0x100000200 + 0x1000 * ctx + 0x4 * i
/-- Output binding (R78) (reset 0x0000_0000). -/
def CTX_OUT (ctx o : Nat) : Nat := 0x100000300 + 0x1000 * ctx + 0x4 * o
/-- Generator g (reset 0x0000_0000). -/
def GEN_CFG (g : Nat) : Nat := 0x30034000 + 0x20 * g
/-- Generator g (reset 0x0000_0000). -/
def GEN_AMP (g : Nat) : Nat := 0x30034004 + 0x20 * g
/-- Generator g (reset 0x0000_0000). -/
def GEN_F0 (g : Nat) : Nat := 0x30034008 + 0x20 * g
/-- Generator g (reset 0x0000_0000). -/
def GEN_F1 (g : Nat) : Nat := 0x3003400c + 0x20 * g
/-- Generator g (reset 0x0000_0000). -/
def GEN_LEN (g : Nat) : Nat := 0x30034010 + 0x20 * g
/-- Generator g (reset 0x0000_0000). -/
def GEN_OUT (g : Nat) : Nat := 0x30034014 + 0x20 * g
/-- Residual checker k (reset 0x0000_0000). -/
def RES_CFG (k : Nat) : Nat := 0x30034100 + 0x10 * k
/-- Residual checker k (reset 0x0000_0000). -/
def RES_MEAS (k : Nat) : Nat := 0x30034104 + 0x10 * k
/-- Residual checker k (reset 0x0000_0000). -/
def RES_LIM (k : Nat) : Nat := 0x30034108 + 0x10 * k
/-- Residual checker k (reset 0x0000_0000). -/
def RES_STAT (k : Nat) : Nat := 0x3003410c + 0x10 * k
/-- Conditioner j (reset 0x0000_0000). -/
def SPC_CFG (j : Nat) : Nat := 0x30034400 + 0x20 * j
/-- Conditioner j (reset 0x0000_0000). -/
def SPC_SCALE (j : Nat) : Nat := 0x30034404 + 0x20 * j
/-- Conditioner j (reset 0x0000_0000). -/
def SPC_OFS (j : Nat) : Nat := 0x30034408 + 0x20 * j
/-- Conditioner j (reset 0x0000_0000). -/
def SPC_DB (j : Nat) : Nat := 0x3003440c + 0x20 * j
/-- Conditioner j (reset 0x0000_0000). -/
def SPC_RATE (j : Nat) : Nat := 0x30034410 + 0x20 * j
/-- Conditioner j (reset 0x0000_0000). -/
def SPC_HOST (j : Nat) : Nat := 0x30034414 + 0x20 * j
/-- Conditioner j (reset 0x0000_0000). -/
def SPC_OUT (j : Nat) : Nat := 0x30034418 + 0x20 * j
/-- Conditioner j (reset 0x0000_0000). -/
def SPC_STAT (j : Nat) : Nat := 0x3003441c + 0x20 * j
/-- Context table entry word 0 (reset 0). -/
def CTX_W0 (c : Nat) : Nat := 0x30032000 + 0x20 * c
/-- Context table entry word 1 (reset 0x30). -/
def CTX_W1 (c : Nat) : Nat := 0x30032004 + 0x20 * c
/-- Context table entry word 2 (reset 0). -/
def CTX_W2 (c : Nat) : Nat := 0x30032008 + 0x20 * c
/-- Context table entry word 3 (reset 0). -/
def CTX_W3 (c : Nat) : Nat := 0x3003200c + 0x20 * c
/-- Context table entry word 4 (reset 0). -/
def CTX_W4 (c : Nat) : Nat := 0x30032010 + 0x20 * c
/-- Context table entry word 5 (reset 0). -/
def CTX_W5 (c : Nat) : Nat := 0x30032014 + 0x20 * c
/-- Context table entry word 6 (reset 0). -/
def CTX_W6 (c : Nat) : Nat := 0x30032018 + 0x20 * c
/-- Context table entry word 7 (reset 0). -/
def CTX_W7 (c : Nat) : Nat := 0x3003201c + 0x20 * c

/-! PWM -/
/-- Arm, commit, pair guard (reset 0x0000_0100). -/
def PWM_CH_CTL (n : Nat) : Nat := 0x30040000 + 0x1000 * n
/-- Channel status (reset 0x0001_0000). -/
def PWM_CH_STAT (n : Nat) : Nat := 0x30040004 + 0x1000 * n
/-- NPC, stage, masks, pattern wheel (reset 0x0000_0000). -/
def PWM_CH_CFG (n : Nat) : Nat := 0x30040008 + 0x1000 * n
/-- Period shadow (reset 0x0000_0100). -/
def PWM_PER_SH (n : Nat) : Nat := 0x3004000c + 0x1000 * n
/-- Active period (reset 0x0000_0100). -/
def PWM_PER_ACT (n : Nat) : Nat := 0x30040010 + 0x1000 * n
/-- Counter (reset 0x0000_0000). -/
def PWM_CNT (n : Nat) : Nat := 0x30040014 + 0x1000 * n
/-- MINOFF (reset 0x0000_0000). -/
def PWM_CH_LIM (n : Nat) : Nat := 0x30040018 + 0x1000 * n
/-- H compare shadow (reset 0x0000_0000). -/
def PWM_CMP_SH (n m : Nat) : Nat := 0x30040020 + 0x1000 * n + 0x4 * m
/-- L compare shadow, INDEP (reset 0x0000_0000). -/
def PWM_CMPL_SH (n m : Nat) : Nat := 0x30040040 + 0x1000 * n + 0x4 * m
/-- Active H compare, fine ticks (reset 0x0000_0000). -/
def PWM_CMP_ACT (n m : Nat) : Nat := 0x30040060 + 0x1000 * n + 0x4 * m
/-- Active L compare, fine ticks (reset 0x0000_0000). -/
def PWM_CMPL_ACT (n m : Nat) : Nat := 0x30040080 + 0x1000 * n + 0x4 * m
/-- Mode, polarity, policy, MINON (reset 0x0000_0000). -/
def PWM_LEG_CFG (n m : Nat) : Nat := 0x300400a0 + 0x1000 * n + 0x4 * m
/-- Dead times (reset 0x0000_0000). -/
def PWM_LEG_DT (n m : Nat) : Nat := 0x300400c0 + 0x1000 * n + 0x4 * m
/-- Trigger compare shadow (reset 0x0000_0000). -/
def PWM_TRIG_SH (n k : Nat) : Nat := 0x300400e0 + 0x1000 * n + 0x4 * k
/-- Active trigger compare (reset 0x0000_0000). -/
def PWM_TRIG_ACT (n k : Nat) : Nat := 0x300400f0 + 0x1000 * n + 0x4 * k
/-- Mask shadow (reset 0x0000_0000). -/
def PWM_MASK_SH (n : Nat) : Nat := 0x30040100 + 0x1000 * n
/-- Effective masks (reset 0x0000_0000). -/
def PWM_MASK_ACT (n : Nat) : Nat := 0x30040104 + 0x1000 * n
/-- Table check (reset 0x0000_0000). -/
def PWM_PAT_CTL (n : Nat) : Nat := 0x30040110 + 0x1000 * n
/-- Pattern angle offset (reset 0x0000_0000). -/
def PWM_PAT_OFS (n : Nat) : Nat := 0x30040114 + 0x1000 * n
/-- Tables, misses, check result (reset 0x0000_0000). -/
def PWM_PAT_STAT (n : Nat) : Nat := 0x30040118 + 0x1000 * n
/-- Armed legs, interlock flags (reset 0x0000_0000). -/
def PWM_LEG_STAT (n : Nat) : Nat := 0x30040120 + 0x1000 * n

/-! TRP -/
/-- Latches, clock loss (reset 0x0000_0000). -/
def TRP_STAT : Nat := 0x30130000
/-- Clear groups (reset 0x0000_0000). -/
def TRP_CLR : Nat := 0x30130004
/-- Clear outcome (reset 0x0000_0000). -/
def TRP_CLR_RESULT : Nat := 0x30130008
/-- Legs 0 to 31 (reset 0x0000_0000). -/
def TRP_GRP_LEGS_LO (g : Nat) : Nat := 0x30130020 + 0x10 * g
/-- Legs 32 to 35 (reset 0x0000_0000). -/
def TRP_GRP_LEGS_HI (g : Nat) : Nat := 0x30130024 + 0x10 * g
/-- Quiet time for clear (reset 0x0000_0064). -/
def TRP_GRP_REARM (g : Nat) : Nat := 0x30130028 + 0x10 * g
/-- First source of the latch (reset 0x0000_0000). -/
def TRP_GRP_FIRST (g : Nat) : Nat := 0x3013002c + 0x10 * g
/-- Qualified sources 32i to 32i + 31 (reset 0x0000_0000). -/
def TRP_SRC_ACT (i : Nat) : Nat := 0x301300a0 + 0x4 * i
/-- Source s (reset 0x0000_0000). -/
def TRP_SRC_CFG (s : Nat) : Nat := 0x30130100 + 0x4 * s

/-! MEA -/
/-- Clock and sampling delay (reset 0x0000_000A). -/
def SD_CLK (n : Nat) : Nat := 0x30070000 + 0x4 * n
/-- Converter run, scan period (reset 0x000A_0000). -/
def ADC_CTL : Nat := 0x30070020
/-- Scan overruns (reset 0x0000_0000). -/
def MEA_STAT : Nat := 0x30070024
/-- Filters, comparator (reset 0x0080_1004). -/
def SD_CFG (i : Nat) : Nat := 0x30070100 + 0x10 * i
/-- Comparator thresholds (reset 0x7FFF_8000). -/
def SD_THR (i : Nat) : Nat := 0x30070104 + 0x10 * i
/-- Comparator hysteresis (reset 0x0000_0000). -/
def SD_HYS (i : Nat) : Nat := 0x30070108 + 0x10 * i
/-- Control result, status (reset 0x0000_0000). -/
def SD_RES (i : Nat) : Nat := 0x3007010c + 0x10 * i
/-- Trigger, length (reset 0x0000_0000). -/
def SEQ_CFG (s : Nat) : Nat := 0x30070400 + 0x10 * s
/-- Entries (reset 0x0000_0000). -/
def SEQ_LIST (s : Nat) : Nat := 0x30070404 + 0x10 * s
/-- Dropped triggers, saturating (reset 0x0000_0000). -/
def SEQ_OVR (s : Nat) : Nat := 0x30070408 + 0x10 * s
/-- Scan, range, window, gain (reset 0x012C_0000). -/
def SAR_CFG (c : Nat) : Nat := 0x30070500 + 0x10 * c
/-- Code limits (reset 0x0000_3FFF). -/
def SAR_LIM (c : Nat) : Nat := 0x30070504 + 0x10 * c
/-- Value, status (reset 0x0000_0000). -/
def SAR_RES (c : Nat) : Nat := 0x30070508 + 0x10 * c
/-- RT64[36:5] of the value's instant (reset 0x0000_0000). -/
def SAR_TIME (c : Nat) : Nat := 0x3007050c + 0x10 * c

/-! POS -/
/-- Mode, index, filter, counts per turn (reset 0x0000_0000). -/
def ENC_CFG (n : Nat) : Nat := 0x30080000 + 0x20 * n
/-- Q0.32 turns per count (reset 0x0000_0000). -/
def ENC_SCALE (n : Nat) : Nat := 0x30080004 + 0x20 * n
/-- Count [31:0] (reset 0x0000_0000). -/
def ENC_CNT (n : Nat) : Nat := 0x30080008 + 0x20 * n
/-- Count at the last Z (reset 0x0000_0000). -/
def ENC_ZCNT (n : Nat) : Nat := 0x3008000c + 0x20 * n
/-- RT64[36:5] at the last Z (reset 0x0000_0000). -/
def ENC_ZTIME (n : Nat) : Nat := 0x30080010 + 0x20 * n
/-- Errors (reset 0x0000_0000). -/
def ENC_STAT (n : Nat) : Nat := 0x30080014 + 0x20 * n
/-- Clear (reset 0x0000_0000). -/
def ENC_CTL (n : Nat) : Nat := 0x30080018 + 0x20 * n
/-- Excitation (reset 0x0064_8000). -/
def RSV_CFG (r : Nat) : Nat := 0x30080100 + 0x20 * r
/-- Amplitude limits (reset 0x4000_F000). -/
def RSV_LIM (r : Nat) : Nat := 0x30080104 + 0x20 * r
/-- Angle (reset 0x0000_0000). -/
def RSV_ANG (r : Nat) : Nat := 0x30080108 + 0x20 * r
/-- Amplitude (reset 0x0000_0000). -/
def RSV_AMP (r : Nat) : Nat := 0x3008010c + 0x20 * r
/-- Signal loss (reset 0x0000_0000). -/
def RSV_STAT (r : Nat) : Nat := 0x30080110 + 0x20 * r
/-- Frame (reset 0x0018_0012). -/
def SSI_CFG (p : Nat) : Nat := 0x30080200 + 0x20 * p
/-- Period, clock (reset 0x0032_007D). -/
def SSI_TIM (p : Nat) : Nat := 0x30080204 + 0x20 * p
/-- Status mask, delay, errors, monoflop (reset 0x0000_3014). -/
def SSI_TRG (p : Nat) : Nat := 0x30080208 + 0x20 * p
/-- Fraction (reset 0x0000_0000). -/
def SSI_POS_LO (p : Nat) : Nat := 0x3008020c + 0x20 * p
/-- Turns (reset 0x0000_0000). -/
def SSI_POS_HI (p : Nat) : Nat := 0x30080210 + 0x20 * p
/-- Errors (reset 0x0000_0000). -/
def SSI_STAT (p : Nat) : Nat := 0x30080214 + 0x20 * p
/-- Pin, edge, filter (reset 0x0000_0000). -/
def CAP_CFG (c : Nat) : Nat := 0x30080300 + 0x10 * c
/-- Oldest entry [31:0]; the read pops (reset 0x0000_0000). -/
def CAP_LO (c : Nat) : Nat := 0x30080304 + 0x10 * c
/-- Popped entry [63:32] (reset 0x0000_0000). -/
def CAP_HI (c : Nat) : Nat := 0x30080308 + 0x10 * c
/-- FIFO level, overruns (reset 0x0000_0000). -/
def CAP_STAT (c : Nat) : Nat := 0x3008030c + 0x10 * c
/-- Mode, filter, timeout (reset 0x0000_0A00). -/
def PLS_CFG (q : Nat) : Nat := 0x30080400 + 0x10 * q
/-- Full-scale frequency (reset 0x0000_2710). -/
def PLS_FS (q : Nat) : Nat := 0x30080404 + 0x10 * q
/-- Value (reset 0x0000_0000). -/
def PLS_RES (q : Nat) : Nat := 0x30080408 + 0x10 * q

/-! AUX -/
/-- Supplies, AUX_EN, global latches (reset 0x0000_0000). -/
def AUX_STAT : Nat := 0x300b0000
/-- Bridge supply (reset 0x0000_0000). -/
def AUX_VBR : Nat := 0x300b0004
/-- Gate-drive supply (reset 0x0000_0000). -/
def AUX_VDRV : Nat := 0x300b0008
/-- Carrier (reset 0x0000_0100). -/
def ACAR_CFG (a : Nat) : Nat := 0x300b0010 + 0x4 * a
/-- Carrier counter (reset 0x0000_0000). -/
def ACAR_CNT (a : Nat) : Nat := 0x300b0020 + 0x4 * a
/-- Owner, carrier, mode (reset 0x0000_0000). -/
def HB_CFG (n : Nat) : Nat := 0x300b0100 + 0x20 * n
/-- Refresh, dead time (reset 0x00FA_0032). -/
def HB_DT (n : Nat) : Nat := 0x300b0104 + 0x20 * n
/-- Duty shadow (reset 0x0000_0000). -/
def HB_DUTY (n : Nat) : Nat := 0x300b0108 + 0x20 * n
/-- Comparator thresholds (reset 0x0000_0000). -/
def HB_ILIM (n : Nat) : Nat := 0x300b010c + 0x20 * n
/-- Leakage test (reset 0x000A_0000). -/
def HB_LEAK (n : Nat) : Nat := 0x300b0110 + 0x20 * n
/-- Leakage windows (reset 0xFF00_FF00). -/
def HB_LKWIN (n : Nat) : Nat := 0x300b0114 + 0x20 * n
/-- Status, latches (reset 0x0000_0000). -/
def HB_STAT (n : Nat) : Nat := 0x300b0118 + 0x20 * n

/-! CMU -/
/-- Phases, direction, chopping (reset 0x0000_5014). -/
def CMU_CFG (n : Nat) : Nat := 0x300a0000 + 0x40 * n
/-- Command (reset 0x0000_0000). -/
def CMU_CTL (n : Nat) : Nat := 0x300a0004 + 0x40 * n
/-- Start currents and times (reset 0x4014_0A40). -/
def CMU_START (n : Nat) : Nat := 0x300a0008 + 0x40 * n
/-- Sync and ramp sector times (reset 0x07D0_4E20). -/
def CMU_SPD (n : Nat) : Nat := 0x300a000c + 0x40 * n
/-- Lock, settle, crossing count (reset 0x0C64_0300). -/
def CMU_ZC (n : Nat) : Nat := 0x300a0010 + 0x40 * n
/-- Sensing and braking (reset 0x2710_0A40). -/
def CMU_CATCH (n : Nat) : Nat := 0x300a0014 + 0x40 * n
/-- Run duty (reset 0x0000_0000). -/
def CMU_DUTY (n : Nat) : Nat := 0x300a0018 + 0x40 * n
/-- Run current limit (reset 0x0000_0080). -/
def CMU_ILIM (n : Nat) : Nat := 0x300a001c + 0x40 * n
/-- Missing-phase detection (reset 0x4004_1000). -/
def CMU_MP (n : Nat) : Nat := 0x300a0020 + 0x40 * n
/-- MAIN voltage inputs (reset 0x0000_0000). -/
def CMU_VSRC (n : Nat) : Nat := 0x300a0024 + 0x40 * n
/-- MAIN current inputs (reset 0x0000_0000). -/
def CMU_ISRC (n : Nat) : Nat := 0x300a0028 + 0x40 * n
/-- State (reset 0x0000_0000). -/
def CMU_STAT (n : Nat) : Nat := 0x300a002c + 0x40 * n
/-- Sector time (reset 0x0000_0000). -/
def CMU_TSEC (n : Nat) : Nat := 0x300a0030 + 0x40 * n
/-- Commutations, wrapping (reset 0x0000_0000). -/
def CMU_CNT (n : Nat) : Nat := 0x300a0034 + 0x40 * n

/-! STP -/
/-- Mode, output, carrier (reset 0x0000_0000). -/
def STP_CFG (n : Nat) : Nat := 0x30090000 + 0x100 * n
/-- Command (reset 0x0000_0000). -/
def STP_CTL (n : Nat) : Nat := 0x30090004 + 0x100 * n
/-- State, flags (reset 0x0000_0000). -/
def STP_STAT (n : Nat) : Nat := 0x30090008 + 0x100 * n
/-- Position (reset 0x0000_0000). -/
def STP_POS (n : Nat) : Nat := 0x3009000c + 0x100 * n
/-- Target (reset 0x0000_0000). -/
def STP_TARGET (n : Nat) : Nat := 0x30090010 + 0x100 * n
/-- Base of engine targets (reset 0x0000_0000). -/
def STP_TBASE (n : Nat) : Nat := 0x30090014 + 0x100 * n
/-- Speed limit (reset 0x0000_0000). -/
def STP_VMAX (n : Nat) : Nat := 0x30090018 + 0x100 * n
/-- Start and stop speed (reset 0x0000_0000). -/
def STP_VSTART (n : Nat) : Nat := 0x3009001c + 0x100 * n
/-- Acceleration (reset 0x0000_0000). -/
def STP_AMAX (n : Nat) : Nat := 0x30090020 + 0x100 * n
/-- Limit-switch deceleration (reset 0x0000_0000). -/
def STP_AEMG (n : Nat) : Nat := 0x30090024 + 0x100 * n
/-- Current speed (reset 0x0000_0000). -/
def STP_SPD (n : Nat) : Nat := 0x30090028 + 0x100 * n
/-- Virtual limit (reset 0x0000_0000). -/
def STP_VLIM_LO (n : Nat) : Nat := 0x3009002c + 0x100 * n
/-- Virtual limit (reset 0x0000_0000). -/
def STP_VLIM_HI (n : Nat) : Nat := 0x30090030 + 0x100 * n
/-- Gear ratio (reset 0x0000_0000). -/
def STP_RATIO (n : Nat) : Nat := 0x30090034 + 0x100 * n
/-- Wheel, lag limit (reset 0x0000_0000). -/
def STP_GEAR (n : Nat) : Nat := 0x30090038 + 0x100 * n
/-- Geared lag (reset 0x0000_0000). -/
def STP_LAG (n : Nat) : Nat := 0x3009003c + 0x100 * n
/-- Step and direction timing (reset 0x007D_00FA). -/
def STP_OUT (n : Nat) : Nat := 0x30090040 + 0x100 * n
/-- Coil R and L (reset 0x0000_0000). -/
def STP_COIL (n : Nat) : Nat := 0x30090044 + 0x100 * n
/-- Duty limit, adaptation speed, KE (reset 0xF30A_0000). -/
def STP_DRV (n : Nat) : Nat := 0x30090048 + 0x100 * n
/-- Run and hold current (reset 0x0000_0000). -/
def STP_CUR (n : Nat) : Nat := 0x3009004c + 0x100 * n
/-- Adaptation (reset 0x0432_0000). -/
def STP_ADAPT (n : Nat) : Nat := 0x30090050 + 0x100 * n
/-- Load thresholds (reset 0x08C0_6020). -/
def STP_LOAD (n : Nat) : Nat := 0x30090054 + 0x100 * n
/-- Switch inputs (reset 0x0000_0000). -/
def STP_LIMSRC (n : Nat) : Nat := 0x30090058 + 0x100 * n
/-- Homing (reset 0x0014_3200). -/
def STP_HOME (n : Nat) : Nat := 0x3009005c + 0x100 * n
/-- Slow homing speed (reset 0x0000_0000). -/
def STP_HV_SLOW (n : Nat) : Nat := 0x30090060 + 0x100 * n
/-- Homing travel limit (reset 0x0000_0000). -/
def STP_HDMAX (n : Nat) : Nat := 0x30090064 + 0x100 * n
/-- Home position value (reset 0x0000_0000). -/
def STP_HOFS (n : Nat) : Nat := 0x30090068 + 0x100 * n
/-- Current and load (reset 0x0000_0000). -/
def STP_IEFF (n : Nat) : Nat := 0x3009006c + 0x100 * n

/-! DCL -/
/-- Sources, chopper leg, members (reset 0x0000_0000). -/
def DL_CFG (d : Nat) : Nat := 0x300c0000 + 0x40 * d
/-- Full-scale voltage (reset 0x0000_0000). -/
def DL_VFS (d : Nat) : Nat := 0x300c0004 + 0x40 * d
/-- OVC, CH_ON (reset 0x0000_0000). -/
def DL_THR0 (d : Nat) : Nat := 0x300c0008 + 0x40 * d
/-- WARN, TRIP (reset 0x0000_0000). -/
def DL_THR1 (d : Nat) : Nat := 0x300c000c + 0x40 * d
/-- CH_OFF, WARN_HYS (reset 0x0000_0000). -/
def DL_HYS (d : Nat) : Nat := 0x300c0010 + 0x40 * d
/-- Filters and times (reset 0x0402_320A). -/
def DL_TIM (d : Nat) : Nat := 0x300c0014 + 0x40 * d
/-- Chopper current threshold (reset 0x0000_0000). -/
def DL_CHI (d : Nat) : Nat := 0x300c0018 + 0x40 * d
/-- Voltage, state (reset 0x0000_0000). -/
def DL_STAT (d : Nat) : Nat := 0x300c001c + 0x40 * d
/-- Budget source, FLR (reset 0x4000_0A10). -/
def PB_CFG : Nat := 0x300c0100
/-- Budget, kW (reset 0x0000_0000). -/
def PB_BUDGET : Nat := 0x300c0104
/-- Ring share word (reset 0x0000_0000). -/
def PB_RING : Nat := 0x300c0108
/-- Effective budget (reset 0x0000_0000). -/
def PB_STAT : Nat := 0x300c010c
/-- Command (R316) (reset 0x0000_0000). -/
def DCL_CMD : Nat := 0x300c0110
/-- Outcome (R317) (reset 0x0000_0000). -/
def DCL_CMD_RESULT : Nat := 0x300c0114
/-- Echo port, weights (reset 0x0000_0000). -/
def SG_CFG (g : Nat) : Nat := 0x300c0120 + 0x4 * g
/-- Attribute, brake, class (reset 0x0000_0000). -/
def DCL_CH_CFG (c : Nat) : Nat := 0x300c0200 + 0x40 * c
/-- Brake time, trip lead (reset 0x00C8_0001). -/
def DCL_CH_BRK (c : Nat) : Nat := 0x300c0204 + 0x40 * c
/-- Override port (reset 0x0000_0000). -/
def DCL_CH_SREF (c : Nat) : Nat := 0x300c0208 + 0x40 * c
/-- Override rate (reset 0x0000_0000). -/
def DCL_CH_RAMP (c : Nat) : Nat := 0x300c020c + 0x40 * c
/-- Delivered words (R303) (reset 0x0000_0000). -/
def DCL_CH_DLV (c k : Nat) : Nat := 0x300c0210 + 0x40 * c + 0x4 * k
/-- Request (reset 0x0000_0000). -/
def DCL_CH_PREQ (c : Nat) : Nat := 0x300c0220 + 0x40 * c
/-- Drawn power (reset 0x0000_0000). -/
def DCL_CH_PACT (c : Nat) : Nat := 0x300c0224 + 0x40 * c
/-- Grant (reset 0x0000_0000). -/
def DCL_CH_GRANT (c : Nat) : Nat := 0x300c0228 + 0x40 * c
/-- Sequence state, s (reset 0x007F_FFFF). -/
def DCL_CH_STAT (c : Nat) : Nat := 0x300c022c + 0x40 * c
/-- Share weight (reset 0x0000_0000). -/
def DCL_CH_SHW (c : Nat) : Nat := 0x300c0230 + 0x40 * c

/-! DRG -/
/-- Join, leave (reset 0x0000_0000). -/
def DRG_CTL : Nat := 0x300e0000
/-- Node number, role (reset Tally value). -/
def DRG_NODE : Nat := 0x300e0004
/-- Admission, hops, master (reset 0x0000_0000). -/
def DRG_STAT : Nat := 0x300e0008
/-- Nodes present and planned (reset 0x0000_0000). -/
def DRG_PRESENT : Nat := 0x300e000c
/-- Cycle length, bulk minimum (reset 0x01F4_186A). -/
def DRG_CYC : Nat := 0x300e0010
/-- Hop delay limits (reset 0x0000_2830). -/
def DRG_DLY : Nat := 0x300e0014
/-- Plan in force (reset 0x0000_0000). -/
def DRG_TIMING : Nat := 0x300e0018
/-- Measured hop delays (reset 0x0000_0000). -/
def DRG_HOP : Nat := 0x300e001c
/-- Time error (reset 0x0000_0000). -/
def DRG_TERR : Nat := 0x300e0020
/-- Own slot request (reset 0x0000_0000). -/
def DRG_SLOT : Nat := 0x300e0024
/-- Own slot admitted (reset 0x0000_0000). -/
def DRG_SLOT_ADM : Nat := 0x300e0028
/-- Command (reset 0x0000_0000). -/
def DRG_CMD : Nat := 0x300e002c
/-- Outcome (reset 0x0000_0000). -/
def DRG_CMD_RESULT : Nat := 0x300e0030
/-- Error counts (reset 0x0000_0000). -/
def DRG_CNT : Nat := 0x300e0034
/-- Load-share membership (reset 0x0000_0000). -/
def LS_CFG : Nat := 0x300e0040
/-- Target port of t (reset 0x0000_0000). -/
def LS_TGT : Nat := 0x300e0044
/-- Leader's echo port (reset 0x0000_0000). -/
def LS_ECHO : Nat := 0x300e0048
/-- Leader's member mask (reset 0x0000_0000). -/
def LS_MEMBERS : Nat := 0x300e004c
/-- Inclusion, pending (reset 0x0000_0000). -/
def LS_STAT : Nat := 0x300e0050
/-- SCALE in force (reset 0x0000_0000). -/
def LS_SCALE : Nat := 0x300e0054
/-- Master's slot plan (reset 0x0000_0000). -/
def PLAN (n : Nat) : Nat := 0x300e0080 + 0x4 * n
/-- Node n as last received (reset 0x0000_0000). -/
def NODE_STAT (n : Nat) : Nat := 0x300e00c0 + 0x4 * n
/-- Message address (reset 0x0000_0000). -/
def RTX_ADDR (d : Nat) : Nat := 0x300e0100 + 0x8 * d
/-- Message destination, length (reset 0x0000_0000). -/
def RTX_CFG (d : Nat) : Nat := 0x300e0104 + 0x8 * d
/-- Ring-message buffer base (R335) (reset 0x0000_0000). -/
def RRX_ADDR : Nat := 0x300e0140
/-- Enable, size (reset 0x0000_0000). -/
def RRX_CFG : Nat := 0x300e0144
/-- Next record offset (reset 0x0000_0000). -/
def RRX_PUT : Nat := 0x300e0148
/-- Oldest unreleased record (reset 0x0000_0000). -/
def RRX_GET : Nat := 0x300e014c

/-! SYSSAF -/
/-- Pushes one word (reset 0x0000_0000). -/
def SAF_CMD_DATA : Nat := 0x30000c00
/-- Closes or flushes a message (reset 0x0000_0000). -/
def SAF_CMD_CTL : Nat := 0x30000c04
/-- FIFO state (reset 0x0000_0000). -/
def SAF_CMD_STAT : Nat := 0x30000c08

/-! SAF -/
/-- Island state (reset 0x0000_0000). -/
def SAF_STAT : Nat := 0x30200000
/-- Tick count (reset 0x0000_0000). -/
def SAF_TICK : Nat := 0x30200004
/-- Latest command answer (reset 0x0000_0000). -/
def SAF_RESP : Nat := 0x30200008
/-- Password state (reset 0x0000_0000). -/
def SAF_PW : Nat := 0x3020000c
/-- Validation failure (reset 0x0000_0000). -/
def SAF_CFGERR : Nat := 0x30200010
/-- Filtered inputs (reset 0x0000_0000). -/
def SAF_IN : Nat := 0x30200014
/-- Discrepancy (reset 0x0000_0000). -/
def SAF_DISC : Nat := 0x30200018
/-- Safe outputs (reset 0x0000_0000). -/
def SAF_OUT : Nat := 0x3020001c
/-- Bad safety-link frames (reset 0x0000_0000). -/
def SAF_LINK : Nat := 0x30200020
/-- Log state (reset 0x0000_0000). -/
def SAF_LOG : Nat := 0x30200024
/-- Tap count (reset 0x0000_0000). -/
def SAF_TAP (c : Nat) : Nat := 0x30200028 + 0x4 * c
/-- Channel functions (reset 0x1080_0000). -/
def SAF_CH (n : Nat) : Nat := 0x30200040 + 0x4 * n
/-- Safe speeds (reset 0x0000_0000). -/
def SAF_SPD (n : Nat) : Nat := 0x30200060 + 0x4 * n
/-- Active configuration hash (reset 0x0000_0000). -/
def SAF_HASH (w : Nat) : Nat := 0x30200080 + 0x4 * w
/-- Staged configuration hash (reset 0x0000_0000). -/
def SAF_SHASH (w : Nat) : Nat := 0x302000a0 + 0x4 * w
/-- Latest log record (reset 0x0000_0000). -/
def SAF_LOGREC (i : Nat) : Nat := 0x302000c0 + 0x4 * i
/-- Connection status (reset 0x0000_0000). -/
def SAF_TT (c : Nat) : Nat := 0x30200120 + 0x4 * c
/-- Latest frame of connection c (reset 0x0000_0000). -/
def SAF_TTBUF (c j : Nat) : Nat := 0x30200200 + 0x40 * c + 0x4 * j

/-! CAN -/
/-- Init, modes (reset 0x0000_0001). -/
def CAN_CTL (n : Nat) : Nat := 0x300d0000 + 0x1000 * n
/-- State, last error (reset 0x0000_0000). -/
def CAN_STAT (n : Nat) : Nat := 0x300d0004 + 0x1000 * n
/-- Error counters (reset 0x0000_0000). -/
def CAN_ECNT (n : Nat) : Nat := 0x300d0008 + 0x1000 * n
/-- Nominal bit timing (reset 0x1E01_3E0F). -/
def CAN_NBT (n : Nat) : Nat := 0x300d000c + 0x1000 * n
/-- Data bit timing (reset 0x0001_0D44). -/
def CAN_DBT (n : Nat) : Nat := 0x300d0010 + 0x1000 * n
/-- Delay compensation (reset 0x001E_0000). -/
def CAN_TDC (n : Nat) : Nat := 0x300d0014 + 0x1000 * n
/-- Collision and no-peer limits (reset 0x0000_0410). -/
def CAN_LIM (n : Nat) : Nat := 0x300d0018 + 0x1000 * n
/-- Last collision (reset 0x0000_0000). -/
def CAN_CLASH (n : Nat) : Nat := 0x300d001c + 0x1000 * n
/-- General events (reset 0x0000_0000). -/
def CAN_IR (n : Nat) : Nat := 0x300d0020 + 0x1000 * n
/-- Event enables, general line (reset 0xE000_0000). -/
def CAN_IE (n : Nat) : Nat := 0x300d0024 + 0x1000 * n
/-- FIFO indices (reset 0x0000_0000). -/
def CAN_FIFO (n : Nat) : Nat := 0x300d0028 + 0x1000 * n
/-- Release FIFO elements (reset 0x0000_0000). -/
def CAN_FIFO_ACK (n : Nat) : Nat := 0x300d002c + 0x1000 * n
/-- Unmatched frames (reset 0x0000_0000). -/
def CAN_CNT (n : Nat) : Nat := 0x300d0030 + 0x1000 * n
/-- Object enable, direction (reset 0x0000_0000). -/
def CAN_OBJ_CFG (n k : Nat) : Nat := 0x300d0100 + 0x1000 * n + 0x10 * k
/-- Filter identifier (reset 0x0000_0000). -/
def CAN_OBJ_ID (n k : Nat) : Nat := 0x300d0104 + 0x1000 * n + 0x10 * k
/-- Filter mask (reset 0x0000_0000). -/
def CAN_OBJ_MASK (n k : Nat) : Nat := 0x300d0108 + 0x1000 * n + 0x10 * k
/-- Request and result (reset 0x0000_0000). -/
def CAN_OBJ_STAT (n k : Nat) : Nat := 0x300d010c + 0x1000 * n + 0x10 * k
/-- Entry identifier (reset 0x0000_0000). -/
def CAN_HP_ID (n e : Nat) : Nat := 0x300d0600 + 0x1000 * n + 0x10 * e
/-- Entry mask (reset 0x0000_0000). -/
def CAN_HP_MASK (n e : Nat) : Nat := 0x300d0604 + 0x1000 * n + 0x10 * e
/-- Enable, release (reset 0x0000_0000). -/
def CAN_HP_CFG (n e : Nat) : Nat := 0x300d0608 + 0x1000 * n + 0x10 * e
/-- Ring indices (reset 0x0000_0000). -/
def CAN_HP_STAT (n e : Nat) : Nat := 0x300d060c + 0x1000 * n + 0x10 * e

/-! HST -/
/-- Port enables, SV_READY (reset 0x0000_0000). -/
def HST_CTL : Nat := 0x300f0000
/-- Restarts (reset 0x0000_0000). -/
def HST_STAT : Nat := 0x300f0004
/-- Queues, resets (reset 0x0000_0000). -/
def PORT_STAT (p : Nat) : Nat := 0x300f0010 + 0x10 * p
/-- Error counts (reset 0x0000_0000). -/
def PORT_CNT (p : Nat) : Nat := 0x300f0014 + 0x10 * p
/-- Event subscription (reset 0x401F_FFFF). -/
def PORT_SUB (p : Nat) : Nat := 0x300f0018 + 0x10 * p
/-- Mode, deadline (reset R432). -/
def ASSIST_CFG (f : Nat) : Nat := 0x300f0100 + 0x4 * f
/-- Seconds [31:0]; the read snapshots SEC_HI and NS (reset 0x0000_0000). -/
def PTP_SEC_LO (m : Nat) : Nat := 0x300f0200 + 0x20 * m
/-- Seconds [47:32] (reset 0x0000_0000). -/
def PTP_SEC_HI (m : Nat) : Nat := 0x300f0204 + 0x20 * m
/-- Nanoseconds (reset 0x0000_0000). -/
def PTP_NS (m : Nat) : Nat := 0x300f0208 + 0x20 * m
/-- Rate adjustment (reset 0x0000_0000). -/
def PTP_RATE (m : Nat) : Nat := 0x300f020c + 0x20 * m
/-- Offset step (reset 0x0000_0000). -/
def PTP_STEP (m : Nat) : Nat := 0x300f0210 + 0x20 * m
/-- PHY latencies (reset 0x0000_0000). -/
def PTP_LAT (m : Nat) : Nat := 0x300f0214 + 0x20 * m

/-! ERR -/
/-- Domain per subsystem (reset 0x0000_0000). -/
def ERR_ROUTE : Nat := 0x30120000
/-- Next SEQ (reset 0x0000_0000). -/
def ERR_SEQ : Nat := 0x30120004
/-- The read claims (R442) (reset 0x0000_0000). -/
def ERR_CLAIM (d : Nat) : Nat := 0x30120040 + 0x40 * d
/-- Ends the top record (reset 0x0000_0000). -/
def ERR_DONE (d : Nat) : Nat := 0x30120044 + 0x40 * d
/-- Queue state (reset 0x0000_0000). -/
def ERR_STAT (d : Nat) : Nat := 0x30120048 + 0x40 * d
/-- Top record in handling (reset 0x0000_0000). -/
def ERR_REC (d w : Nat) : Nat := 0x30120050 + 0x40 * d + 0x4 * w
/-- Firmware record, per core (reset 0x0000_0000). -/
def ERR_RAISE_CODE (core : Nat) : Nat := 0x200000100 + 0x1000 * core
/-- Context words W4 to W11 (reset 0x0000_0000). -/
def ERR_RAISE_CTX (core i : Nat) : Nat := 0x200000104 + 0x1000 * core + 0x4 * i
/-- Raises the staged record (reset 0x0000_0000). -/
def ERR_RAISE_GO (core : Nat) : Nat := 0x200000124 + 0x1000 * core

/-! MEM -/
/-- Error counts (reset 0x0000_0000). -/
def MEM_ECC : Nat := 0x30100000
/-- Latest uncorrectable address (reset 0x0000_0000). -/
def MEM_ECC_ADDR : Nat := 0x30100004
/-- Scrub rate (reset 0x0000_0100). -/
def MEM_SCRUB : Nat := 0x30100008
/-- Training, window, size (reset 0x0000_0000). -/
def DDR_CTL : Nat := 0x30100010
/-- Erase or program (reset 0x0000_0000). -/
def OSPI_CMD : Nat := 0x30100020
/-- Flash offset (reset 0x0000_0000). -/
def OSPI_ADDR : Nat := 0x30100024
/-- Page source address (reset 0x0000_0000). -/
def OSPI_SRC : Nat := 0x30100028
/-- Outcome (reset 0x0000_0000). -/
def OSPI_RESULT : Nat := 0x3010002c
/-- Start streams (reset 0x0000_0000). -/
def REC_START : Nat := 0x30100100
/-- Stop streams (reset 0x0000_0000). -/
def REC_STOP : Nat := 0x30100104
/-- Admitted bandwidth (reset 0x0000_0000). -/
def REC_BW_USED : Nat := 0x30100108
/-- Stopping trip groups (reset 0x0000_0000). -/
def REC_TRIPSTOP : Nat := 0x3010010c
/-- Latest start outcome (reset 0x0000_0000). -/
def REC_RESULT : Nat := 0x30100110
/-- Refused streams (reset 0x0000_0000). -/
def REC_REFUSED : Nat := 0x30100114
/-- Source (R454) (reset 0x0000_0000). -/
def REC_SRC (s : Nat) : Nat := 0x30100200 + 0x20 * s
/-- Trigger, mode, memory (reset 0x0000_0000). -/
def REC_CFG (s : Nat) : Nat := 0x30100204 + 0x20 * s
/-- Least interval (reset 0x0000_000A). -/
def REC_MINT (s : Nat) : Nat := 0x30100208 + 0x20 * s
/-- Buffer base (reset 0x0000_0000). -/
def REC_BASE (s : Nat) : Nat := 0x3010020c + 0x20 * s
/-- Buffer bytes (reset 0x0000_0000). -/
def REC_SIZE (s : Nat) : Nat := 0x30100210 + 0x20 * s
/-- Records after stop (reset 0x0000_0000). -/
def REC_POST (s : Nat) : Nat := 0x30100214 + 0x20 * s
/-- Next record offset (reset 0x0000_0000). -/
def REC_PUT (s : Nat) : Nat := 0x30100218 + 0x20 * s
/-- State, drops (reset 0x0000_0000). -/
def REC_STAT (s : Nat) : Nat := 0x3010021c + 0x20 * s

/-! IMG -/
/-- Boot decision (reset Boot outcome). -/
def IMG_STAT : Nat := 0x30110000
/-- Confirm, reject (reset 0x0000_0000). -/
def IMG_CTL : Nat := 0x30110004
/-- IMG_VER (reset Running image). -/
def IMG_VER : Nat := 0x30110008
/-- SVN and counter (reset Running image). -/
def IMG_SVN : Nat := 0x3011000c
/-- Update session (reset 0x0000_0000). -/
def IMG_SESS : Nat := 0x30110010
/-- Settings formats (reset Running image). -/
def IMG_FMT : Nat := 0x30110014
/-- Write source (reset 0x0000_0003). -/
def TLY_CTL : Nat := 0x30110100
/-- Busy, result (reset 0x0000_0000). -/
def TLY_STAT : Nat := 0x30110104
/-- Log record index (reset 0x0000_0000). -/
def TLY_LOG_SEL : Nat := 0x30110108
/-- Records in the log (reset Tally). -/
def TLY_LOG_CNT : Nat := 0x3011010c
/-- Selected record, bytes 4w to 4w + 3 (reset —). -/
def TLY_LOG (w : Nat) : Nat := 0x30110110 + 0x4 * w
/-- Current ceiling (reset Tally). -/
def TLY_CEIL (c : Nat) : Nat := 0x30110140 + 0x4 * c
/-- HV pin-function map (reset Tally). -/
def TLY_PINMAP : Nat := 0x30110158
/-- Changes left (reset Tally). -/
def TLY_LEFT : Nat := 0x3011015c
/-- Debug lock (reset Tally). -/
def TLY_DEBUG : Nat := 0x30110160
/-- Key slots (reset Tally). -/
def TLY_KEY : Nat := 0x30110164
/-- Read: hash of slot SEL. Write: staged hash (reset 0x0000_0000). -/
def TLY_KEYH (w : Nat) : Nat := 0x30110170 + 0x4 * w

/-! SYS -/
/-- Reset causes (R492) (reset 0x0000_0001 at power-on). -/
def SYS_RST_CAUSE : Nat := 0x30000000
/-- Domain reset request (reset 0x0000_0000). -/
def SYS_RST_REQ : Nat := 0x30000004
/-- Watchdog (reset 0x0000_0064). -/
def SYS_WDT_CFG : Nat := 0x30000008
/-- Watchdog service (reset 0x0000_0000). -/
def SYS_WDT_SVC : Nat := 0x3000000c
/-- Clock checks (reset 0x0000_0000). -/
def SYS_CLK_STAT : Nat := 0x30000010
/-- SV_HOLD (reset 0x0000_00FA). -/
def SYS_SVH : Nat := 0x30000014
/-- Last expiry (reset 0x0000_0000). -/
def SYS_SVH_STAT : Nat := 0x30000018

/-! THM -/
/-- Filtered die temperatures (reset 0x0000_0000). -/
def THM_TJ : Nat := 0x30010000
/-- Latch, limits, broken sensors (reset 0x0000_0000). -/
def THM_STAT : Nat := 0x30010004
/-- Commands (reset 0x0000_0000). -/
def THM_CMD : Nat := 0x30010008
/-- Rise rate (reset 0x0000_0008). -/
def THM_CFG : Nat := 0x3001000c
/-- Reported temperature (reset 0x0000_0000). -/
def TS_VAL (s : Nat) : Nat := 0x30010040 + 0x4 * s
/-- Substitution offset (reset Trim). -/
def TS_OFS (s : Nat) : Nat := 0x30010080 + 0x4 * s
/-- Raw reading (reset 0x0000_0000). -/
def TS_RAW (s : Nat) : Nat := 0x300100c0 + 0x4 * s
/-- Type, excitation (reset 0x0000_0000). -/
def TIN_CFG (n : Nat) : Nat := 0x30010100 + 0x10 * n
/-- NTC constants (reset 0x0D6B_03E8). -/
def TIN_NTC (n : Nat) : Nat := 0x30010104 + 0x10 * n
/-- Temperature (reset 0x0000_0000). -/
def TIN_VAL (n : Nat) : Nat := 0x30010108 + 0x10 * n
/-- External source, F_SL (reset 0x0000_4000). -/
def THM_CH_TCFG (c : Nat) : Nat := 0x30010200 + 0x10 * c
/-- External limits (reset 0x0000_0000). -/
def THM_CH_TTHR (c : Nat) : Nat := 0x30010204 + 0x10 * c
/-- Factors (reset 0x8000_8000). -/
def THM_CH_DER (c : Nat) : Nat := 0x30010208 + 0x10 * c

/-! Fields. -/

def IRQ_CFG_PEND (s : Nat) : RF := ⟨IRQ_CFG s, 16, 16⟩
def IRQ_CFG_PRIO (s : Nat) : RF := ⟨IRQ_CFG s, 10, 8⟩
def IRQ_CFG_TARGET (s : Nat) : RF := ⟨IRQ_CFG s, 5, 4⟩
def IRQ_CFG_EN (s : Nat) : RF := ⟨IRQ_CFG s, 0, 0⟩
def IRQ_CLAIM_C0_SRC : RF := ⟨IRQ_CLAIM_C0, 11, 0⟩
def IRQ_DONE_C0_SRC : RF := ⟨IRQ_DONE_C0, 11, 0⟩
def IRQ_CLAIM_C1_SRC : RF := ⟨IRQ_CLAIM_C1, 11, 0⟩
def IRQ_DONE_C1_SRC : RF := ⟨IRQ_DONE_C1, 11, 0⟩
def RT_LO_VALUE : RF := ⟨RT_LO, 31, 0⟩
def RT_HI_VALUE : RF := ⟨RT_HI, 31, 0⟩
def RT_STAT_STEPPED : RF := ⟨RT_STAT, 4, 4⟩
def RT_STAT_PTP_LOCK : RF := ⟨RT_STAT, 3, 3⟩
def RT_STAT_MASTER : RF := ⟨RT_STAT, 2, 2⟩
def RT_STAT_STATE : RF := ⟨RT_STAT, 1, 0⟩
def RT_CFG_PTP_SRC : RF := ⟨RT_CFG, 1, 0⟩
def RT_PTP_OFS_LO_VALUE : RF := ⟨RT_PTP_OFS_LO, 31, 0⟩
def RT_PTP_OFS_HI_VALUE : RF := ⟨RT_PTP_OFS_HI, 31, 0⟩
def BELL_W_WORD (core w : Nat) : RF := ⟨BELL_W core w, 31, 0⟩
def BELL_POST_POST (core : Nat) : RF := ⟨BELL_POST core, 0, 0⟩
def BELL_RESULT_BUSY (core : Nat) : RF := ⟨BELL_RESULT core, 31, 31⟩
def BELL_RESULT_OCC (core : Nat) : RF := ⟨BELL_RESULT core, 24, 16⟩
def BELL_RESULT_RESULT (core : Nat) : RF := ⟨BELL_RESULT core, 15, 0⟩
def BELL_HANDLE_GEN (core : Nat) : RF := ⟨BELL_HANDLE core, 15, 8⟩
def BELL_HANDLE_INDEX (core : Nat) : RF := ⟨BELL_HANDLE core, 7, 0⟩
def BELL_CANCEL_HANDLE (core : Nat) : RF := ⟨BELL_CANCEL core, 15, 0⟩
def SCHED_STAT_RING_OCC : RF := ⟨SCHED_STAT, 24, 16⟩
def SCHED_STAT_OCC : RF := ⟨SCHED_STAT, 8, 0⟩
def SCHED_CFG_RING_RES : RF := ⟨SCHED_CFG, 6, 0⟩
def LATE_CNT_COUNT : RF := ⟨LATE_CNT, 31, 0⟩
def RBELL_HANDLE_GEN : RF := ⟨RBELL_HANDLE, 15, 8⟩
def RBELL_HANDLE_INDEX : RF := ⟨RBELL_HANDLE, 7, 0⟩
def RBELL_ACK_NAK : RF := ⟨RBELL_ACK, 31, 16⟩
def RBELL_ACK_ACK : RF := ⟨RBELL_ACK, 15, 0⟩
def GO_OUT_LEVEL : RF := ⟨GO_OUT, 15, 0⟩
def GO_CTL_CLR : RF := ⟨GO_CTL, 31, 16⟩
def GO_CTL_SET : RF := ⟨GO_CTL, 15, 0⟩
def LG_MAP_GRP (c' : Nat) : RF := ⟨LG_MAP, 3 * c' + 2, 3 * c'⟩
def LG_GRID_GRID (g : Nat) : RF := ⟨LG_GRID g, 31, 0⟩
def LG_OFS_OFS (g : Nat) : RF := ⟨LG_OFS g, 31, 0⟩
def LG_CTL_SLEW (g : Nat) : RF := ⟨LG_CTL g, 15, 8⟩
def LG_CTL_ALIGN_ERR (g : Nat) : RF := ⟨LG_CTL g, 2, 2⟩
def LG_CTL_ALIGNED (g : Nat) : RF := ⟨LG_CTL g, 1, 1⟩
def LG_CTL_ALIGN_EN (g : Nat) : RF := ⟨LG_CTL g, 0, 0⟩
def WHL_CFG_SPD_SHIFT (n : Nat) : RF := ⟨WHL_CFG n, 27, 24⟩
def WHL_CFG_SPD_AVG (n : Nat) : RF := ⟨WHL_CFG n, 23, 21⟩
def WHL_CFG_PORT (n : Nat) : RF := ⟨WHL_CFG n, 20, 16⟩
def WHL_CFG_SEL (n : Nat) : RF := ⟨WHL_CFG n, 15, 8⟩
def WHL_CFG_SRC (n : Nat) : RF := ⟨WHL_CFG n, 7, 4⟩
def WHL_CFG_EN (n : Nat) : RF := ⟨WHL_CFG n, 0, 0⟩
def WHL_LIM_JUMP (n : Nat) : RF := ⟨WHL_LIM n, 31, 16⟩
def WHL_LIM_STALE (n : Nat) : RF := ⟨WHL_LIM n, 15, 0⟩
def WHL_SET_LO_SET (n : Nat) : RF := ⟨WHL_SET_LO n, 31, 0⟩
def WHL_SET_HI_SET (n : Nat) : RF := ⟨WHL_SET_HI n, 31, 0⟩
def WHL_SPD_SET_LO_SPD (n : Nat) : RF := ⟨WHL_SPD_SET_LO n, 31, 0⟩
def WHL_SPD_SET_HI_SPD (n : Nat) : RF := ⟨WHL_SPD_SET_HI n, 15, 0⟩
def WHL_SCALE_SCALE (n : Nat) : RF := ⟨WHL_SCALE n, 31, 0⟩
def WHL_CTL_PRESET (n : Nat) : RF := ⟨WHL_CTL n, 0, 0⟩
def WHL_POS_LO_VALUE (n : Nat) : RF := ⟨WHL_POS_LO n, 31, 0⟩
def WHL_POS_HI_VALUE (n : Nat) : RF := ⟨WHL_POS_HI n, 31, 0⟩
def WHL_SPD_LO_VALUE (n : Nat) : RF := ⟨WHL_SPD_LO n, 31, 0⟩
def WHL_STAT_AGE (n : Nat) : RF := ⟨WHL_STAT n, 31, 16⟩
def WHL_STAT_JUMP (n : Nat) : RF := ⟨WHL_STAT n, 1, 1⟩
def WHL_STAT_STALE (n : Nat) : RF := ⟨WHL_STAT n, 0, 0⟩
def WHL_UPD_CNT_COUNT (n : Nat) : RF := ⟨WHL_UPD_CNT n, 31, 0⟩
def CE_CFG_UTIL_MAX : RF := ⟨CE_CFG, 25, 16⟩
def CE_CFG_SIG_PERIOD : RF := ⟨CE_CFG, 15, 8⟩
def CE_CFG_MIG_EN : RF := ⟨CE_CFG, 4, 4⟩
def CE_CFG_SPARE : RF := ⟨CE_CFG, 3, 0⟩
def CE_CMD_OP : RF := ⟨CE_CMD, 31, 28⟩
def CE_CMD_ENG : RF := ⟨CE_CMD, 27, 24⟩
def CE_CMD_ARG : RF := ⟨CE_CMD, 15, 8⟩
def CE_CMD_CTX : RF := ⟨CE_CMD, 7, 0⟩
def CE_IMG_ADDR_ADDR : RF := ⟨CE_IMG_ADDR, 31, 0⟩
def CE_CMD_RESULT_BUSY : RF := ⟨CE_CMD_RESULT, 31, 31⟩
def CE_CMD_RESULT_RESULT : RF := ⟨CE_CMD_RESULT, 15, 0⟩
def CE_ADM_INFO_ENG : RF := ⟨CE_ADM_INFO, 31, 28⟩
def CE_ADM_INFO_CTX : RF := ⟨CE_ADM_INFO, 27, 20⟩
def CE_ADM_INFO_SHORT : RF := ⟨CE_ADM_INFO, 19, 0⟩
def CE_MIG_STAT_SRC_ENG : RF := ⟨CE_MIG_STAT, 31, 28⟩
def CE_MIG_STAT_MOVED : RF := ⟨CE_MIG_STAT, 19, 12⟩
def CE_MIG_STAT_LOST : RF := ⟨CE_MIG_STAT, 11, 4⟩
def CE_MIG_STAT_ACTIVE : RF := ⟨CE_MIG_STAT, 3, 3⟩
def CE_MIG_STAT_ABSORBED : RF := ⟨CE_MIG_STAT, 2, 2⟩
def ENG_STAT_UTIL (n : Nat) : RF := ⟨ENG_STAT n, 25, 16⟩
def ENG_STAT_CTX_CNT (n : Nat) : RF := ⟨ENG_STAT n, 15, 8⟩
def ENG_STAT_FAULT_SRC (n : Nat) : RF := ⟨ENG_STAT n, 7, 4⟩
def ENG_STAT_HALT (n : Nat) : RF := ⟨ENG_STAT n, 3, 3⟩
def ENG_STAT_SPARE (n : Nat) : RF := ⟨ENG_STAT n, 2, 2⟩
def ENG_STAT_FAULT (n : Nat) : RF := ⟨ENG_STAT n, 1, 1⟩
def CTX_SEL_CTX : RF := ⟨CTX_SEL, 7, 0⟩
def CTX_STAT_SHD_MATCH (ctx : Nat) : RF := ⟨CTX_STAT ctx, 23, 16⟩
def CTX_STAT_DIV_CNT (ctx : Nat) : RF := ⟨CTX_STAT ctx, 15, 8⟩
def CTX_STAT_CONSEC_LATE (ctx : Nat) : RF := ⟨CTX_STAT ctx, 7, 0⟩
def CTX_LATE_CNT_COUNT (ctx : Nat) : RF := ⟨CTX_LATE_CNT ctx, 31, 0⟩
def CTX_MISS_CNT_COUNT (ctx : Nat) : RF := ⟨CTX_MISS_CNT ctx, 31, 0⟩
def CTX_FLAGS_DZ (ctx : Nat) : RF := ⟨CTX_FLAGS ctx, 2, 2⟩
def CTX_FLAGS_OVF (ctx : Nat) : RF := ⟨CTX_FLAGS ctx, 1, 1⟩
def CTX_FLAGS_SAT (ctx : Nat) : RF := ⟨CTX_FLAGS ctx, 0, 0⟩
def CTX_SHD_TOL_TOL (ctx : Nat) : RF := ⟨CTX_SHD_TOL ctx, 23, 0⟩
def CTX_SHD_MASK_MASK (ctx : Nat) : RF := ⟨CTX_SHD_MASK ctx, 31, 0⟩
def CTX_SHD_DIFF_PORT (ctx : Nat) : RF := ⟨CTX_SHD_DIFF ctx, 28, 24⟩
def CTX_SHD_DIFF_DIFF (ctx : Nat) : RF := ⟨CTX_SHD_DIFF ctx, 23, 0⟩
def GEN_CFG_CTX (g : Nat) : RF := ⟨GEN_CFG g, 31, 24⟩
def GEN_CFG_PRBS_N (g : Nat) : RF := ⟨GEN_CFG g, 20, 16⟩
def GEN_CFG_RUN (g : Nat) : RF := ⟨GEN_CFG g, 3, 3⟩
def GEN_CFG_TYPE (g : Nat) : RF := ⟨GEN_CFG g, 2, 0⟩
def GEN_AMP_VALUE (g : Nat) : RF := ⟨GEN_AMP g, 23, 0⟩
def GEN_F0_INC (g : Nat) : RF := ⟨GEN_F0 g, 23, 0⟩
def GEN_F1_INC (g : Nat) : RF := ⟨GEN_F1 g, 23, 0⟩
def GEN_LEN_LEN (g : Nat) : RF := ⟨GEN_LEN g, 23, 0⟩
def GEN_OUT_VALUE (g : Nat) : RF := ⟨GEN_OUT g, 23, 0⟩
def RES_CFG_EN (k : Nat) : RF := ⟨RES_CFG k, 31, 31⟩
def RES_CFG_ACT (k : Nat) : RF := ⟨RES_CFG k, 30, 30⟩
def RES_CFG_TGT (k : Nat) : RF := ⟨RES_CFG k, 23, 16⟩
def RES_CFG_CTX (k : Nat) : RF := ⟨RES_CFG k, 15, 8⟩
def RES_CFG_PORT (k : Nat) : RF := ⟨RES_CFG k, 4, 0⟩
def RES_MEAS_SRC (k : Nat) : RF := ⟨RES_MEAS k, 31, 0⟩
def RES_LIM_CNT (k : Nat) : RF := ⟨RES_LIM k, 31, 24⟩
def RES_LIM_THR (k : Nat) : RF := ⟨RES_LIM k, 23, 0⟩
def RES_STAT_EXCEED (k : Nat) : RF := ⟨RES_STAT k, 31, 31⟩
def RES_STAT_MAXR (k : Nat) : RF := ⟨RES_STAT k, 23, 0⟩
def SPC_CFG_KIND (j : Nat) : RF := ⟨SPC_CFG j, 31, 28⟩
def SPC_CFG_INDEX (j : Nat) : RF := ⟨SPC_CFG j, 15, 0⟩
def SPC_SCALE_SCALE (j : Nat) : RF := ⟨SPC_SCALE j, 31, 0⟩
def SPC_OFS_VALUE (j : Nat) : RF := ⟨SPC_OFS j, 23, 0⟩
def SPC_DB_DB (j : Nat) : RF := ⟨SPC_DB j, 22, 0⟩
def SPC_RATE_VALUE (j : Nat) : RF := ⟨SPC_RATE j, 23, 0⟩
def SPC_HOST_VALUE (j : Nat) : RF := ⟨SPC_HOST j, 23, 0⟩
def SPC_OUT_VALUE (j : Nat) : RF := ⟨SPC_OUT j, 23, 0⟩
def SPC_STAT_INVALID (j : Nat) : RF := ⟨SPC_STAT j, 2, 2⟩
def SPC_STAT_LIMITING (j : Nat) : RF := ⟨SPC_STAT j, 1, 1⟩
def SPC_STAT_IN_DB (j : Nat) : RF := ⟨SPC_STAT j, 0, 0⟩
def CTX_W0_STATE (c : Nat) : RF := ⟨CTX_W0 c, 31, 29⟩
def CTX_W0_ENG (c : Nat) : RF := ⟨CTX_W0 c, 28, 25⟩
def CTX_W0_BANK (c : Nat) : RF := ⟨CTX_W0 c, 24, 24⟩
def CTX_W0_PRIO (c : Nat) : RF := ⟨CTX_W0 c, 23, 20⟩
def CTX_W0_MIG (c : Nat) : RF := ⟨CTX_W0 c, 19, 18⟩
def CTX_W0_FBK (c : Nat) : RF := ⟨CTX_W0 c, 17, 16⟩
def CTX_W0_SHADOW_OF (c : Nat) : RF := ⟨CTX_W0 c, 15, 8⟩
def CTX_W0_FBK_CTX (c : Nat) : RF := ⟨CTX_W0 c, 7, 0⟩
def CTX_W1_TRIG_SRC (c : Nat) : RF := ⟨CTX_W1 c, 31, 30⟩
def CTX_W1_TRIG_CH (c : Nat) : RF := ⟨CTX_W1 c, 29, 27⟩
def CTX_W1_TRIG_CMP (c : Nat) : RF := ⟨CTX_W1 c, 26, 25⟩
def CTX_W1_DIV (c : Nat) : RF := ⟨CTX_W1 c, 23, 16⟩
def CTX_W1_BIND (c : Nat) : RF := ⟨CTX_W1 c, 15, 10⟩
def CTX_W1_LATE_MAX (c : Nat) : RF := ⟨CTX_W1 c, 7, 4⟩
def CTX_W2_T_MIN (c : Nat) : RF := ⟨CTX_W2 c, 23, 0⟩
def CTX_W3_OUTPHASE (c : Nat) : RF := ⟨CTX_W3 c, 23, 0⟩
def CTX_W4_BANK_LEN (c : Nat) : RF := ⟨CTX_W4 c, 31, 20⟩
def CTX_W4_N (c : Nat) : RF := ⟨CTX_W4 c, 19, 0⟩
def CTX_W5_PROG_LEN (c : Nat) : RF := ⟨CTX_W5 c, 29, 16⟩
def CTX_W5_PROG_BASE (c : Nat) : RF := ⟨CTX_W5 c, 12, 0⟩
def CTX_W6_STATE_LEN (c : Nat) : RF := ⟨CTX_W6 c, 31, 16⟩
def CTX_W6_STATE_BASE (c : Nat) : RF := ⟨CTX_W6 c, 14, 0⟩
def CTX_W7_BANK1_BASE (c : Nat) : RF := ⟨CTX_W7 c, 30, 16⟩
def CTX_W7_BANK0_BASE (c : Nat) : RF := ⟨CTX_W7 c, 14, 0⟩
def PWM_CH_CTL_PG_EN (n : Nat) : RF := ⟨PWM_CH_CTL n, 8, 8⟩
def PWM_CH_CTL_COMMIT (n : Nat) : RF := ⟨PWM_CH_CTL n, 4, 4⟩
def PWM_CH_CTL_ARM (n : Nat) : RF := ⟨PWM_CH_CTL n, 0, 0⟩
def PWM_CH_STAT_HOLD_CNT (n : Nat) : RF := ⟨PWM_CH_STAT n, 31, 24⟩
def PWM_CH_STAT_PAT_TBL (n : Nat) : RF := ⟨PWM_CH_STAT n, 23, 20⟩
def PWM_CH_STAT_MODE_PEND (n : Nat) : RF := ⟨PWM_CH_STAT n, 19, 19⟩
def PWM_CH_STAT_MODE (n : Nat) : RF := ⟨PWM_CH_STAT n, 18, 18⟩
def PWM_CH_STAT_PAIR_HOLD (n : Nat) : RF := ⟨PWM_CH_STAT n, 17, 17⟩
def PWM_CH_STAT_SAFE (n : Nat) : RF := ⟨PWM_CH_STAT n, 16, 16⟩
def PWM_CH_STAT_HR_FAIL (n : Nat) : RF := ⟨PWM_CH_STAT n, 9, 9⟩
def PWM_CH_STAT_ARM_REF (n : Nat) : RF := ⟨PWM_CH_STAT n, 7, 7⟩
def PWM_CH_STAT_ARM_WHY (n : Nat) : RF := ⟨PWM_CH_STAT n, 6, 4⟩
def PWM_CH_STAT_TRIG_RANGE (n : Nat) : RF := ⟨PWM_CH_STAT n, 3, 3⟩
def PWM_CH_STAT_DT_RANGE (n : Nat) : RF := ⟨PWM_CH_STAT n, 2, 2⟩
def PWM_CH_STAT_PAIR_STALE (n : Nat) : RF := ⟨PWM_CH_STAT n, 1, 1⟩
def PWM_CH_CFG_MASK_SRC (n : Nat) : RF := ⟨PWM_CH_CFG n, 31, 30⟩
def PWM_CH_CFG_PAT_WHEEL (n : Nat) : RF := ⟨PWM_CH_CFG n, 27, 24⟩
def PWM_CH_CFG_STAGE (n : Nat) : RF := ⟨PWM_CH_CFG n, 23, 12⟩
def PWM_CH_CFG_NPC (n : Nat) : RF := ⟨PWM_CH_CFG n, 2, 0⟩
def PWM_PER_SH_PER (n : Nat) : RF := ⟨PWM_PER_SH n, 24, 0⟩
def PWM_PER_ACT_PER (n : Nat) : RF := ⟨PWM_PER_ACT n, 24, 0⟩
def PWM_CNT_COUNT (n : Nat) : RF := ⟨PWM_CNT n, 23, 0⟩
def PWM_CH_LIM_MINOFF (n : Nat) : RF := ⟨PWM_CH_LIM n, 11, 0⟩
def PWM_CMP_SH_FMT (n m : Nat) : RF := ⟨PWM_CMP_SH n m, 31, 31⟩
def PWM_CMP_SH_CMP (n m : Nat) : RF := ⟨PWM_CMP_SH n m, 29, 0⟩
def PWM_CMPL_SH_FMT (n m : Nat) : RF := ⟨PWM_CMPL_SH n m, 31, 31⟩
def PWM_CMPL_SH_CMP (n m : Nat) : RF := ⟨PWM_CMPL_SH n m, 29, 0⟩
def PWM_CMP_ACT_CMP (n m : Nat) : RF := ⟨PWM_CMP_ACT n m, 29, 0⟩
def PWM_CMPL_ACT_CMP (n m : Nat) : RF := ⟨PWM_CMPL_ACT n m, 29, 0⟩
def PWM_LEG_CFG_MINON (n m : Nat) : RF := ⟨PWM_LEG_CFG n m, 27, 16⟩
def PWM_LEG_CFG_POLICY (n m : Nat) : RF := ⟨PWM_LEG_CFG n m, 5, 4⟩
def PWM_LEG_CFG_POL_L (n m : Nat) : RF := ⟨PWM_LEG_CFG n m, 3, 3⟩
def PWM_LEG_CFG_POL_H (n m : Nat) : RF := ⟨PWM_LEG_CFG n m, 2, 2⟩
def PWM_LEG_CFG_MODE (n m : Nat) : RF := ⟨PWM_LEG_CFG n m, 0, 0⟩
def PWM_LEG_DT_DTH (n m : Nat) : RF := ⟨PWM_LEG_DT n m, 27, 16⟩
def PWM_LEG_DT_DTL (n m : Nat) : RF := ⟨PWM_LEG_DT n m, 11, 0⟩
def PWM_TRIG_SH_EN (n k : Nat) : RF := ⟨PWM_TRIG_SH n k, 31, 31⟩
def PWM_TRIG_SH_VAL (n k : Nat) : RF := ⟨PWM_TRIG_SH n k, 23, 0⟩
def PWM_TRIG_ACT_EN (n k : Nat) : RF := ⟨PWM_TRIG_ACT n k, 31, 31⟩
def PWM_TRIG_ACT_VAL (n k : Nat) : RF := ⟨PWM_TRIG_ACT n k, 23, 0⟩
def PWM_MASK_SH_MASK (n m' : Nat) : RF := ⟨PWM_MASK_SH n, 2 * m' + 1, 2 * m'⟩
def PWM_MASK_ACT_MASK (n m' : Nat) : RF := ⟨PWM_MASK_ACT n, 2 * m' + 1, 2 * m'⟩
def PWM_PAT_CTL_CHECK (n : Nat) : RF := ⟨PWM_PAT_CTL n, 16, 16⟩
def PWM_PAT_CTL_TBL (n : Nat) : RF := ⟨PWM_PAT_CTL n, 11, 8⟩
def PWM_PAT_OFS_OFS (n : Nat) : RF := ⟨PWM_PAT_OFS n, 23, 0⟩
def PWM_PAT_STAT_VALID (n : Nat) : RF := ⟨PWM_PAT_STAT n, 31, 16⟩
def PWM_PAT_STAT_MISS (n : Nat) : RF := ⟨PWM_PAT_STAT n, 11, 8⟩
def PWM_PAT_STAT_CHK_ERR (n : Nat) : RF := ⟨PWM_PAT_STAT n, 7, 4⟩
def PWM_LEG_STAT_ARMED (n : Nat) : RF := ⟨PWM_LEG_STAT n, 17, 12⟩
def PWM_LEG_STAT_NPC_ILL (n : Nat) : RF := ⟨PWM_LEG_STAT n, 8, 6⟩
def PWM_LEG_STAT_CONFLICT (n : Nat) : RF := ⟨PWM_LEG_STAT n, 5, 0⟩
def TRP_STAT_CLK_LOSS : RF := ⟨TRP_STAT, 8, 8⟩
def TRP_STAT_LATCH : RF := ⟨TRP_STAT, 7, 0⟩
def TRP_CLR_GRP : RF := ⟨TRP_CLR, 7, 0⟩
def TRP_CLR_RESULT_REFUSED : RF := ⟨TRP_CLR_RESULT, 23, 16⟩
def TRP_CLR_RESULT_RESULT : RF := ⟨TRP_CLR_RESULT, 15, 0⟩
def TRP_GRP_LEGS_LO_LEGS (g : Nat) : RF := ⟨TRP_GRP_LEGS_LO g, 31, 0⟩
def TRP_GRP_LEGS_HI_LEGS (g : Nat) : RF := ⟨TRP_GRP_LEGS_HI g, 3, 0⟩
def TRP_GRP_REARM_REARM (g : Nat) : RF := ⟨TRP_GRP_REARM g, 15, 0⟩
def TRP_GRP_FIRST_VALID (g : Nat) : RF := ⟨TRP_GRP_FIRST g, 31, 31⟩
def TRP_GRP_FIRST_SRC (g : Nat) : RF := ⟨TRP_GRP_FIRST g, 6, 0⟩
def TRP_SRC_ACT_ACT (i : Nat) : RF := ⟨TRP_SRC_ACT i, 31, 0⟩
def TRP_SRC_CFG_EN (s : Nat) : RF := ⟨TRP_SRC_CFG s, 31, 31⟩
def TRP_SRC_CFG_POL (s : Nat) : RF := ⟨TRP_SRC_CFG s, 30, 30⟩
def TRP_SRC_CFG_FILT (s : Nat) : RF := ⟨TRP_SRC_CFG s, 23, 16⟩
def TRP_SRC_CFG_GRP (s : Nat) : RF := ⟨TRP_SRC_CFG s, 7, 0⟩
def SD_CLK_EN (n : Nat) : RF := ⟨SD_CLK n, 31, 31⟩
def SD_CLK_DLY (n : Nat) : RF := ⟨SD_CLK n, 10, 8⟩
def SD_CLK_DIV (n : Nat) : RF := ⟨SD_CLK n, 5, 0⟩
def ADC_CTL_SCAN_PER : RF := ⟨ADC_CTL, 31, 16⟩
def ADC_CTL_RUN : RF := ⟨ADC_CTL, 1, 0⟩
def MEA_STAT_SCAN_LATE : RF := ⟨MEA_STAT, 31, 16⟩
def SD_CFG_EN (i : Nat) : RF := ⟨SD_CFG i, 31, 31⟩
def SD_CFG_CMP_EN (i : Nat) : RF := ⟨SD_CFG i, 30, 30⟩
def SD_CFG_CTL_OSR (i : Nat) : RF := ⟨SD_CFG i, 24, 16⟩
def SD_CFG_PROT_OSR (i : Nat) : RF := ⟨SD_CFG i, 13, 8⟩
def SD_CFG_CMP_CNT (i : Nat) : RF := ⟨SD_CFG i, 7, 0⟩
def SD_THR_HI (i : Nat) : RF := ⟨SD_THR i, 31, 16⟩
def SD_THR_LO (i : Nat) : RF := ⟨SD_THR i, 15, 0⟩
def SD_HYS_HYS (i : Nat) : RF := ⟨SD_HYS i, 14, 0⟩
def SD_RES_INVALID (i : Nat) : RF := ⟨SD_RES i, 31, 31⟩
def SD_RES_STUCK (i : Nat) : RF := ⟨SD_RES i, 30, 30⟩
def SD_RES_CMP (i : Nat) : RF := ⟨SD_RES i, 29, 29⟩
def SD_RES_RESULT (i : Nat) : RF := ⟨SD_RES i, 23, 0⟩
def SEQ_CFG_EN (s : Nat) : RF := ⟨SEQ_CFG s, 31, 31⟩
def SEQ_CFG_TCH (s : Nat) : RF := ⟨SEQ_CFG s, 26, 24⟩
def SEQ_CFG_TCMP (s : Nat) : RF := ⟨SEQ_CFG s, 23, 22⟩
def SEQ_CFG_LEN (s : Nat) : RF := ⟨SEQ_CFG s, 18, 16⟩
def SEQ_LIST_ENTRY (s e' : Nat) : RF := ⟨SEQ_LIST s, 5 * e' + 4, 5 * e'⟩
def SEQ_OVR_COUNT (s : Nat) : RF := ⟨SEQ_OVR s, 31, 0⟩
def SAR_CFG_SCAN (c : Nat) : RF := ⟨SAR_CFG c, 31, 31⟩
def SAR_CFG_UNI (c : Nat) : RF := ⟨SAR_CFG c, 30, 30⟩
def SAR_CFG_MIN_WIN (c : Nat) : RF := ⟨SAR_CFG c, 27, 16⟩
def SAR_CFG_GAIN (c : Nat) : RF := ⟨SAR_CFG c, 1, 0⟩
def SAR_LIM_LO (c : Nat) : RF := ⟨SAR_LIM c, 29, 16⟩
def SAR_LIM_HI (c : Nat) : RF := ⟨SAR_LIM c, 13, 0⟩
def SAR_RES_INVALID (c : Nat) : RF := ⟨SAR_RES c, 31, 31⟩
def SAR_RES_PRED (c : Nat) : RF := ⟨SAR_RES c, 30, 30⟩
def SAR_RES_PRED_CNT (c : Nat) : RF := ⟨SAR_RES c, 29, 26⟩
def SAR_RES_LIMIT (c : Nat) : RF := ⟨SAR_RES c, 25, 25⟩
def SAR_RES_VALUE (c : Nat) : RF := ⟨SAR_RES c, 23, 0⟩
def SAR_TIME_TICK (c : Nat) : RF := ⟨SAR_TIME c, 31, 0⟩
def ENC_CFG_EN (n : Nat) : RF := ⟨ENC_CFG n, 31, 31⟩
def ENC_CFG_MODE (n : Nat) : RF := ⟨ENC_CFG n, 30, 30⟩
def ENC_CFG_Z_MODE (n : Nat) : RF := ⟨ENC_CFG n, 29, 28⟩
def ENC_CFG_FILT (n : Nat) : RF := ⟨ENC_CFG n, 26, 24⟩
def ENC_CFG_CPT (n : Nat) : RF := ⟨ENC_CFG n, 23, 0⟩
def ENC_SCALE_VALUE (n : Nat) : RF := ⟨ENC_SCALE n, 31, 0⟩
def ENC_CNT_VALUE (n : Nat) : RF := ⟨ENC_CNT n, 31, 0⟩
def ENC_ZCNT_VALUE (n : Nat) : RF := ⟨ENC_ZCNT n, 31, 0⟩
def ENC_ZTIME_VALUE (n : Nat) : RF := ⟨ENC_ZTIME n, 31, 0⟩
def ENC_STAT_ILL_CNT (n : Nat) : RF := ⟨ENC_STAT n, 31, 16⟩
def ENC_STAT_ZERR (n : Nat) : RF := ⟨ENC_STAT n, 2, 2⟩
def ENC_STAT_ILLEGAL (n : Nat) : RF := ⟨ENC_STAT n, 1, 1⟩
def ENC_STAT_ZSEEN (n : Nat) : RF := ⟨ENC_STAT n, 0, 0⟩
def ENC_CTL_CLR (n : Nat) : RF := ⟨ENC_CTL n, 0, 0⟩
def RSV_CFG_EN (r : Nat) : RF := ⟨RSV_CFG r, 31, 31⟩
def RSV_CFG_FEXC (r : Nat) : RF := ⟨RSV_CFG r, 23, 16⟩
def RSV_CFG_AMP (r : Nat) : RF := ⟨RSV_CFG r, 15, 8⟩
def RSV_CFG_PHASE (r : Nat) : RF := ⟨RSV_CFG r, 7, 0⟩
def RSV_LIM_LO (r : Nat) : RF := ⟨RSV_LIM r, 31, 16⟩
def RSV_LIM_HI (r : Nat) : RF := ⟨RSV_LIM r, 15, 0⟩
def RSV_ANG_INVALID (r : Nat) : RF := ⟨RSV_ANG r, 31, 31⟩
def RSV_ANG_ANGLE (r : Nat) : RF := ⟨RSV_ANG r, 23, 0⟩
def RSV_AMP_AMP (r : Nat) : RF := ⟨RSV_AMP r, 15, 0⟩
def RSV_STAT_LOS (r : Nat) : RF := ⟨RSV_STAT r, 0, 0⟩
def SSI_CFG_EN (p : Nat) : RF := ⟨SSI_CFG p, 31, 31⟩
def SSI_CFG_GRAY (p : Nat) : RF := ⟨SSI_CFG p, 30, 30⟩
def SSI_CFG_PAR (p : Nat) : RF := ⟨SSI_CFG p, 29, 29⟩
def SSI_CFG_TRIG (p : Nat) : RF := ⟨SSI_CFG p, 28, 28⟩
def SSI_CFG_TCH (p : Nat) : RF := ⟨SSI_CFG p, 27, 25⟩
def SSI_CFG_TCMP (p : Nat) : RF := ⟨SSI_CFG p, 24, 23⟩
def SSI_CFG_LEN (p : Nat) : RF := ⟨SSI_CFG p, 21, 16⟩
def SSI_CFG_TURN_BITS (p : Nat) : RF := ⟨SSI_CFG p, 12, 8⟩
def SSI_CFG_ST_BITS (p : Nat) : RF := ⟨SSI_CFG p, 4, 0⟩
def SSI_TIM_PERIOD (p : Nat) : RF := ⟨SSI_TIM p, 31, 16⟩
def SSI_TIM_HALF (p : Nat) : RF := ⟨SSI_TIM p, 10, 0⟩
def SSI_TRG_STAT_MASK (p : Nat) : RF := ⟨SSI_TRG p, 31, 24⟩
def SSI_TRG_DELAY (p : Nat) : RF := ⟨SSI_TRG p, 23, 16⟩
def SSI_TRG_ERRMAX (p : Nat) : RF := ⟨SSI_TRG p, 15, 12⟩
def SSI_TRG_MONO (p : Nat) : RF := ⟨SSI_TRG p, 7, 0⟩
def SSI_POS_LO_FRAC (p : Nat) : RF := ⟨SSI_POS_LO p, 31, 8⟩
def SSI_POS_HI_TURNS (p : Nat) : RF := ⟨SSI_POS_HI p, 31, 0⟩
def SSI_STAT_ERR_CNT (p : Nat) : RF := ⟨SSI_STAT p, 31, 16⟩
def SSI_STAT_INVALID (p : Nat) : RF := ⟨SSI_STAT p, 1, 1⟩
def SSI_STAT_ERR (p : Nat) : RF := ⟨SSI_STAT p, 0, 0⟩
def CAP_CFG_EN (c : Nat) : RF := ⟨CAP_CFG c, 31, 31⟩
def CAP_CFG_EDGE (c : Nat) : RF := ⟨CAP_CFG c, 29, 28⟩
def CAP_CFG_FILT (c : Nat) : RF := ⟨CAP_CFG c, 26, 24⟩
def CAP_CFG_PIN (c : Nat) : RF := ⟨CAP_CFG c, 7, 0⟩
def CAP_LO_RT (c : Nat) : RF := ⟨CAP_LO c, 31, 0⟩
def CAP_HI_RT (c : Nat) : RF := ⟨CAP_HI c, 31, 0⟩
def CAP_STAT_OVR (c : Nat) : RF := ⟨CAP_STAT c, 31, 16⟩
def CAP_STAT_LEVEL (c : Nat) : RF := ⟨CAP_STAT c, 2, 0⟩
def PLS_CFG_EN (q : Nat) : RF := ⟨PLS_CFG q, 31, 31⟩
def PLS_CFG_MODE (q : Nat) : RF := ⟨PLS_CFG q, 30, 30⟩
def PLS_CFG_FILT (q : Nat) : RF := ⟨PLS_CFG q, 29, 27⟩
def PLS_CFG_TO (q : Nat) : RF := ⟨PLS_CFG q, 15, 8⟩
def PLS_FS_FS (q : Nat) : RF := ⟨PLS_FS q, 23, 0⟩
def PLS_RES_INVALID (q : Nat) : RF := ⟨PLS_RES q, 31, 31⟩
def PLS_RES_VALUE (q : Nat) : RF := ⟨PLS_RES q, 23, 0⟩
def AUX_STAT_CLR_CNT : RF := ⟨AUX_STAT, 31, 24⟩
def AUX_STAT_EN : RF := ⟨AUX_STAT, 6, 6⟩
def AUX_STAT_VDRV_OK : RF := ⟨AUX_STAT, 5, 5⟩
def AUX_STAT_VBR_UV : RF := ⟨AUX_STAT, 4, 4⟩
def AUX_STAT_VBR_OV : RF := ⟨AUX_STAT, 3, 3⟩
def AUX_STAT_GD_UV : RF := ⟨AUX_STAT, 2, 2⟩
def AUX_STAT_LINK : RF := ⟨AUX_STAT, 1, 1⟩
def AUX_VBR_MV : RF := ⟨AUX_VBR, 15, 0⟩
def AUX_VDRV_MV : RF := ⟨AUX_VDRV, 15, 0⟩
def ACAR_CFG_EN (a : Nat) : RF := ⟨ACAR_CFG a, 31, 31⟩
def ACAR_CFG_PER (a : Nat) : RF := ⟨ACAR_CFG a, 15, 0⟩
def ACAR_CNT_COUNT (a : Nat) : RF := ⟨ACAR_CNT a, 15, 0⟩
def HB_CFG_RUN (n : Nat) : RF := ⟨HB_CFG n, 31, 31⟩
def HB_CFG_OWNER (n : Nat) : RF := ⟨HB_CFG n, 30, 28⟩
def HB_CFG_CAR (n : Nat) : RF := ⟨HB_CFG n, 25, 24⟩
def HB_CFG_MODE (n : Nat) : RF := ⟨HB_CFG n, 21, 20⟩
def HB_DT_REFRESH (n : Nat) : RF := ⟨HB_DT n, 27, 16⟩
def HB_DT_DT (n : Nat) : RF := ⟨HB_DT n, 7, 0⟩
def HB_DUTY_DUTY (n : Nat) : RF := ⟨HB_DUTY n, 23, 0⟩
def HB_ILIM_IOC (n : Nat) : RF := ⟨HB_ILIM n, 15, 8⟩
def HB_ILIM_ILIM (n : Nat) : RF := ⟨HB_ILIM n, 7, 0⟩
def HB_LEAK_START (n : Nat) : RF := ⟨HB_LEAK n, 31, 31⟩
def HB_LEAK_SIDE (n : Nat) : RF := ⟨HB_LEAK n, 30, 30⟩
def HB_LEAK_T_TEST (n : Nat) : RF := ⟨HB_LEAK n, 23, 16⟩
def HB_LEAK_DONE (n : Nat) : RF := ⟨HB_LEAK n, 15, 15⟩
def HB_LEAK_OPEN (n : Nat) : RF := ⟨HB_LEAK n, 14, 14⟩
def HB_LEAK_CODE (n : Nat) : RF := ⟨HB_LEAK n, 7, 0⟩
def HB_LKWIN_L_MAX (n : Nat) : RF := ⟨HB_LKWIN n, 31, 24⟩
def HB_LKWIN_L_MIN (n : Nat) : RF := ⟨HB_LKWIN n, 23, 16⟩
def HB_LKWIN_H_MAX (n : Nat) : RF := ⟨HB_LKWIN n, 15, 8⟩
def HB_LKWIN_H_MIN (n : Nat) : RF := ⟨HB_LKWIN n, 7, 0⟩
def HB_STAT_ACTIVE (n : Nat) : RF := ⟨HB_STAT n, 15, 15⟩
def HB_STAT_BS_OK (n : Nat) : RF := ⟨HB_STAT n, 14, 14⟩
def HB_STAT_BS_REFRESH (n : Nat) : RF := ⟨HB_STAT n, 8, 8⟩
def HB_STAT_ILIM_ACT (n : Nat) : RF := ⟨HB_STAT n, 7, 7⟩
def HB_STAT_LEAK (n : Nat) : RF := ⟨HB_STAT n, 3, 3⟩
def HB_STAT_OC (n : Nat) : RF := ⟨HB_STAT n, 2, 2⟩
def HB_STAT_BS_FAIL (n : Nat) : RF := ⟨HB_STAT n, 1, 1⟩
def HB_STAT_HELD (n : Nat) : RF := ⟨HB_STAT n, 0, 0⟩
def CMU_CFG_MAIN (n : Nat) : RF := ⟨CMU_CFG n, 31, 31⟩
def CMU_CFG_DIR (n : Nat) : RF := ⟨CMU_CFG n, 30, 30⟩
def CMU_CFG_CAR (n : Nat) : RF := ⟨CMU_CFG n, 29, 28⟩
def CMU_CFG_CHOP (n : Nat) : RF := ⟨CMU_CFG n, 27, 27⟩
def CMU_CFG_CH (n : Nat) : RF := ⟨CMU_CFG n, 26, 24⟩
def CMU_CFG_HB_W (n : Nat) : RF := ⟨CMU_CFG n, 23, 20⟩
def CMU_CFG_HB_V (n : Nat) : RF := ⟨CMU_CFG n, 19, 16⟩
def CMU_CFG_HB_U (n : Nat) : RF := ⟨CMU_CFG n, 15, 12⟩
def CMU_CFG_ADV (n : Nat) : RF := ⟨CMU_CFG n, 11, 8⟩
def CMU_CFG_ALIGN (n : Nat) : RF := ⟨CMU_CFG n, 7, 5⟩
def CMU_CFG_BLANK (n : Nat) : RF := ⟨CMU_CFG n, 4, 0⟩
def CMU_CTL_OP (n : Nat) : RF := ⟨CMU_CTL n, 31, 28⟩
def CMU_CTL_IOVR (n : Nat) : RF := ⟨CMU_CTL n, 23, 16⟩
def CMU_CTL_CODE (n : Nat) : RF := ⟨CMU_CTL n, 10, 8⟩
def CMU_CTL_BRK (n : Nat) : RF := ⟨CMU_CTL n, 0, 0⟩
def CMU_START_I_START (n : Nat) : RF := ⟨CMU_START n, 31, 24⟩
def CMU_START_T_ALIGN (n : Nat) : RF := ⟨CMU_START n, 23, 16⟩
def CMU_START_T_RAMP (n : Nat) : RF := ⟨CMU_START n, 15, 8⟩
def CMU_START_DUTY_OL (n : Nat) : RF := ⟨CMU_START n, 7, 0⟩
def CMU_SPD_T_SYNC (n : Nat) : RF := ⟨CMU_SPD n, 31, 16⟩
def CMU_SPD_T_R0 (n : Nat) : RF := ⟨CMU_SPD n, 15, 0⟩
def CMU_ZC_LOCK_N (n : Nat) : RF := ⟨CMU_ZC n, 31, 24⟩
def CMU_ZC_SETTLE (n : Nat) : RF := ⟨CMU_ZC n, 23, 16⟩
def CMU_ZC_ZC_CNT (n : Nat) : RF := ⟨CMU_ZC n, 15, 8⟩
def CMU_CATCH_T_STILL (n : Nat) : RF := ⟨CMU_CATCH n, 31, 16⟩
def CMU_CATCH_T_SENSE (n : Nat) : RF := ⟨CMU_CATCH n, 15, 8⟩
def CMU_CATCH_I_BRAKE (n : Nat) : RF := ⟨CMU_CATCH n, 7, 0⟩
def CMU_DUTY_DUTY (n : Nat) : RF := ⟨CMU_DUTY n, 23, 0⟩
def CMU_ILIM_ILIM (n : Nat) : RF := ⟨CMU_ILIM n, 7, 0⟩
def CMU_MP_MP_RATIO (n : Nat) : RF := ⟨CMU_MP n, 31, 24⟩
def CMU_MP_MP_TURNS (n : Nat) : RF := ⟨CMU_MP n, 23, 16⟩
def CMU_MP_MP_IMIN (n : Nat) : RF := ⟨CMU_MP n, 15, 8⟩
def CMU_VSRC_DC (n : Nat) : RF := ⟨CMU_VSRC n, 29, 24⟩
def CMU_VSRC_W (n : Nat) : RF := ⟨CMU_VSRC n, 21, 16⟩
def CMU_VSRC_V (n : Nat) : RF := ⟨CMU_VSRC n, 13, 8⟩
def CMU_VSRC_U (n : Nat) : RF := ⟨CMU_VSRC n, 5, 0⟩
def CMU_ISRC_W (n : Nat) : RF := ⟨CMU_ISRC n, 21, 16⟩
def CMU_ISRC_V (n : Nat) : RF := ⟨CMU_ISRC n, 13, 8⟩
def CMU_ISRC_U (n : Nat) : RF := ⟨CMU_ISRC n, 5, 0⟩
def CMU_STAT_STATE (n : Nat) : RF := ⟨CMU_STAT n, 31, 28⟩
def CMU_STAT_REASON (n : Nat) : RF := ⟨CMU_STAT n, 27, 24⟩
def CMU_STAT_SECTOR (n : Nat) : RF := ⟨CMU_STAT n, 23, 21⟩
def CMU_STAT_PROPOSE (n : Nat) : RF := ⟨CMU_STAT n, 20, 20⟩
def CMU_STAT_PROPOSAL (n : Nat) : RF := ⟨CMU_STAT n, 19, 17⟩
def CMU_STAT_EST_REV (n : Nat) : RF := ⟨CMU_STAT n, 16, 16⟩
def CMU_STAT_ATTEMPT (n : Nat) : RF := ⟨CMU_STAT n, 15, 14⟩
def CMU_STAT_MISS (n : Nat) : RF := ⟨CMU_STAT n, 13, 11⟩
def CMU_TSEC_TICKS (n : Nat) : RF := ⟨CMU_TSEC n, 23, 0⟩
def CMU_CNT_COUNT (n : Nat) : RF := ⟨CMU_CNT n, 31, 0⟩
def STP_CFG_CAR (n : Nat) : RF := ⟨STP_CFG n, 5, 4⟩
def STP_CFG_OUTM (n : Nat) : RF := ⟨STP_CFG n, 2, 2⟩
def STP_CFG_ADAPT_EN (n : Nat) : RF := ⟨STP_CFG n, 1, 1⟩
def STP_CFG_MODE (n : Nat) : RF := ⟨STP_CFG n, 0, 0⟩
def STP_CTL_OP (n : Nat) : RF := ⟨STP_CTL n, 31, 28⟩
def STP_STAT_STATE (n : Nat) : RF := ⟨STP_STAT n, 31, 28⟩
def STP_STAT_REASON (n : Nat) : RF := ⟨STP_STAT n, 27, 24⟩
def STP_STAT_HSTEP (n : Nat) : RF := ⟨STP_STAT n, 23, 20⟩
def STP_STAT_BOUNCE (n : Nat) : RF := ⟨STP_STAT n, 19, 16⟩
def STP_STAT_DIR (n : Nat) : RF := ⟨STP_STAT n, 15, 15⟩
def STP_STAT_HOMED (n : Nat) : RF := ⟨STP_STAT n, 14, 14⟩
def STP_STAT_AT_TARGET (n : Nat) : RF := ⟨STP_STAT n, 13, 13⟩
def STP_STAT_LIM_HI_ACT (n : Nat) : RF := ⟨STP_STAT n, 12, 12⟩
def STP_STAT_LIM_LO_ACT (n : Nat) : RF := ⟨STP_STAT n, 11, 11⟩
def STP_STAT_STALL (n : Nat) : RF := ⟨STP_STAT n, 7, 7⟩
def STP_STAT_LAG (n : Nat) : RF := ⟨STP_STAT n, 6, 6⟩
def STP_STAT_VSAT (n : Nat) : RF := ⟨STP_STAT n, 5, 5⟩
def STP_STAT_VCLAMP (n : Nat) : RF := ⟨STP_STAT n, 4, 4⟩
def STP_STAT_TCLAMP (n : Nat) : RF := ⟨STP_STAT n, 3, 3⟩
def STP_POS_VALUE (n : Nat) : RF := ⟨STP_POS n, 31, 0⟩
def STP_TARGET_VALUE (n : Nat) : RF := ⟨STP_TARGET n, 31, 0⟩
def STP_TBASE_VALUE (n : Nat) : RF := ⟨STP_TBASE n, 31, 0⟩
def STP_VMAX_SPEED (n : Nat) : RF := ⟨STP_VMAX n, 31, 0⟩
def STP_VSTART_SPEED (n : Nat) : RF := ⟨STP_VSTART n, 31, 0⟩
def STP_AMAX_ACC (n : Nat) : RF := ⟨STP_AMAX n, 31, 0⟩
def STP_AEMG_ACC (n : Nat) : RF := ⟨STP_AEMG n, 31, 0⟩
def STP_SPD_SPEED (n : Nat) : RF := ⟨STP_SPD n, 31, 0⟩
def STP_VLIM_LO_VALUE (n : Nat) : RF := ⟨STP_VLIM_LO n, 31, 0⟩
def STP_VLIM_HI_VALUE (n : Nat) : RF := ⟨STP_VLIM_HI n, 31, 0⟩
def STP_RATIO_RATIO (n : Nat) : RF := ⟨STP_RATIO n, 31, 0⟩
def STP_GEAR_WHEEL (n : Nat) : RF := ⟨STP_GEAR n, 31, 28⟩
def STP_GEAR_SIGN (n : Nat) : RF := ⟨STP_GEAR n, 27, 27⟩
def STP_GEAR_LAG_MAX (n : Nat) : RF := ⟨STP_GEAR n, 23, 0⟩
def STP_LAG_LAG (n : Nat) : RF := ⟨STP_LAG n, 31, 0⟩
def STP_OUT_STEP_W (n : Nat) : RF := ⟨STP_OUT n, 27, 16⟩
def STP_OUT_SDIV (n : Nat) : RF := ⟨STP_OUT n, 15, 12⟩
def STP_OUT_DSETUP (n : Nat) : RF := ⟨STP_OUT n, 11, 0⟩
def STP_COIL_L_COIL (n : Nat) : RF := ⟨STP_COIL n, 31, 16⟩
def STP_COIL_R_COIL (n : Nat) : RF := ⟨STP_COIL n, 15, 0⟩
def STP_DRV_DMAX (n : Nat) : RF := ⟨STP_DRV n, 31, 24⟩
def STP_DRV_VLD_MIN (n : Nat) : RF := ⟨STP_DRV n, 23, 16⟩
def STP_DRV_KE (n : Nat) : RF := ⟨STP_DRV n, 15, 0⟩
def STP_CUR_IHOLD (n : Nat) : RF := ⟨STP_CUR n, 31, 16⟩
def STP_CUR_IRUN (n : Nat) : RF := ⟨STP_CUR n, 15, 0⟩
def STP_ADAPT_ISTEP (n : Nat) : RF := ⟨STP_ADAPT n, 31, 24⟩
def STP_ADAPT_T_STBY (n : Nat) : RF := ⟨STP_ADAPT n, 23, 16⟩
def STP_ADAPT_IMIN (n : Nat) : RF := ⟨STP_ADAPT n, 15, 0⟩
def STP_LOAD_STALL_N (n : Nat) : RF := ⟨STP_LOAD n, 31, 24⟩
def STP_LOAD_LD_STALL (n : Nat) : RF := ⟨STP_LOAD n, 23, 16⟩
def STP_LOAD_LD_HI (n : Nat) : RF := ⟨STP_LOAD n, 15, 8⟩
def STP_LOAD_LD_LO (n : Nat) : RF := ⟨STP_LOAD n, 7, 0⟩
def STP_LIMSRC_HOME_SRC (n : Nat) : RF := ⟨STP_LIMSRC n, 31, 24⟩
def STP_LIMSRC_LIM_HI_SRC (n : Nat) : RF := ⟨STP_LIMSRC n, 23, 16⟩
def STP_LIMSRC_LIM_LO_SRC (n : Nat) : RF := ⟨STP_LIMSRC n, 15, 8⟩
def STP_LIMSRC_LFILT (n : Nat) : RF := ⟨STP_LIMSRC n, 7, 0⟩
def STP_HOME_HDIR (n : Nat) : RF := ⟨STP_HOME n, 31, 31⟩
def STP_HOME_HFILT (n : Nat) : RF := ⟨STP_HOME n, 23, 16⟩
def STP_HOME_HREL (n : Nat) : RF := ⟨STP_HOME n, 15, 8⟩
def STP_HV_SLOW_SPEED (n : Nat) : RF := ⟨STP_HV_SLOW n, 31, 0⟩
def STP_HDMAX_DIST (n : Nat) : RF := ⟨STP_HDMAX n, 31, 0⟩
def STP_HOFS_VALUE (n : Nat) : RF := ⟨STP_HOFS n, 31, 0⟩
def STP_IEFF_LAGF (n : Nat) : RF := ⟨STP_IEFF n, 31, 16⟩
def STP_IEFF_I (n : Nat) : RF := ⟨STP_IEFF n, 15, 0⟩
def DL_CFG_EN (d : Nat) : RF := ⟨DL_CFG d, 31, 31⟩
def DL_CFG_CHOP_EN (d : Nat) : RF := ⟨DL_CFG d, 30, 30⟩
def DL_CFG_VSRC (d : Nat) : RF := ⟨DL_CFG d, 29, 24⟩
def DL_CFG_AFE_REGEN (d : Nat) : RF := ⟨DL_CFG d, 23, 23⟩
def DL_CFG_ISRC (d : Nat) : RF := ⟨DL_CFG d, 21, 16⟩
def DL_CFG_CHLEG (d : Nat) : RF := ⟨DL_CFG d, 13, 8⟩
def DL_CFG_MEMBERS (d : Nat) : RF := ⟨DL_CFG d, 5, 0⟩
def DL_VFS_VFS (d : Nat) : RF := ⟨DL_VFS d, 15, 0⟩
def DL_THR0_OVC (d : Nat) : RF := ⟨DL_THR0 d, 31, 16⟩
def DL_THR0_CH_ON (d : Nat) : RF := ⟨DL_THR0 d, 15, 0⟩
def DL_THR1_WARN (d : Nat) : RF := ⟨DL_THR1 d, 31, 16⟩
def DL_THR1_TRIP (d : Nat) : RF := ⟨DL_THR1 d, 15, 0⟩
def DL_HYS_CH_OFF (d : Nat) : RF := ⟨DL_HYS d, 31, 16⟩
def DL_HYS_WARN_HYS (d : Nat) : RF := ⟨DL_HYS d, 15, 0⟩
def DL_TIM_TRIP_CNT (d : Nat) : RF := ⟨DL_TIM d, 31, 24⟩
def DL_TIM_WARN_T (d : Nat) : RF := ⟨DL_TIM d, 23, 16⟩
def DL_TIM_CH_MIN (d : Nat) : RF := ⟨DL_TIM d, 15, 8⟩
def DL_TIM_FB_ON (d : Nat) : RF := ⟨DL_TIM d, 7, 0⟩
def DL_CHI_CH_IMIN (d : Nat) : RF := ⟨DL_CHI d, 15, 0⟩
def DL_STAT_VDC (d : Nat) : RF := ⟨DL_STAT d, 31, 16⟩
def DL_STAT_INVALID (d : Nat) : RF := ⟨DL_STAT d, 15, 15⟩
def DL_STAT_TRIP (d : Nat) : RF := ⟨DL_STAT d, 14, 14⟩
def DL_STAT_WARN (d : Nat) : RF := ⟨DL_STAT d, 13, 13⟩
def DL_STAT_OVC (d : Nat) : RF := ⟨DL_STAT d, 12, 12⟩
def DL_STAT_CHOP_ON (d : Nat) : RF := ⟨DL_STAT d, 11, 11⟩
def DL_STAT_CHOP_FAIL (d : Nat) : RF := ⟨DL_STAT d, 10, 10⟩
def DL_STAT_FAIL_SRC (d : Nat) : RF := ⟨DL_STAT d, 9, 8⟩
def DL_STAT_PROPOSE (d : Nat) : RF := ⟨DL_STAT d, 7, 7⟩
def DL_STAT_REACT (d : Nat) : RF := ⟨DL_STAT d, 6, 5⟩
def PB_CFG_EN : RF := ⟨PB_CFG, 31, 31⟩
def PB_CFG_SRC : RF := ⟨PB_CFG, 30, 30⟩
def PB_CFG_FLR_FRAC : RF := ⟨PB_CFG, 23, 16⟩
def PB_CFG_FLR_FILT : RF := ⟨PB_CFG, 15, 8⟩
def PB_CFG_S_RISE : RF := ⟨PB_CFG, 7, 0⟩
def PB_BUDGET_KW : RF := ⟨PB_BUDGET, 23, 0⟩
def PB_RING_NODE : RF := ⟨PB_RING, 9, 6⟩
def PB_RING_WORD : RF := ⟨PB_RING, 5, 0⟩
def PB_STAT_FLR : RF := ⟨PB_STAT, 31, 31⟩
def PB_STAT_B : RF := ⟨PB_STAT, 23, 0⟩
def DCL_CMD_OP : RF := ⟨DCL_CMD, 31, 28⟩
def DCL_CMD_UNIT : RF := ⟨DCL_CMD, 27, 24⟩
def DCL_CMD_ARG : RF := ⟨DCL_CMD, 5, 0⟩
def DCL_CMD_RESULT_RESULT : RF := ⟨DCL_CMD_RESULT, 15, 0⟩
def SG_CFG_EN (g : Nat) : RF := ⟨SG_CFG g, 31, 31⟩
def SG_CFG_PEND (g : Nat) : RF := ⟨SG_CFG g, 30, 30⟩
def SG_CFG_CTX (g : Nat) : RF := ⟨SG_CFG g, 13, 6⟩
def SG_CFG_PORT (g : Nat) : RF := ⟨SG_CFG g, 5, 0⟩
def DCL_CH_CFG_SL (c : Nat) : RF := ⟨DCL_CH_CFG c, 31, 31⟩
def DCL_CH_CFG_BRK_EN (c : Nat) : RF := ⟨DCL_CH_CFG c, 30, 30⟩
def DCL_CH_CFG_CLASS (c : Nat) : RF := ⟨DCL_CH_CFG c, 29, 28⟩
def DCL_CH_CFG_ON_SHORT (c : Nat) : RF := ⟨DCL_CH_CFG c, 27, 27⟩
def DCL_CH_CFG_PB_EN (c : Nat) : RF := ⟨DCL_CH_CFG c, 26, 26⟩
def DCL_CH_CFG_SG (c : Nat) : RF := ⟨DCL_CH_CFG c, 25, 24⟩
def DCL_CH_CFG_BRK_HB (c : Nat) : RF := ⟨DCL_CH_CFG c, 23, 20⟩
def DCL_CH_BRK_T_BRK (c : Nat) : RF := ⟨DCL_CH_BRK c, 31, 16⟩
def DCL_CH_BRK_TRIP_LEAD (c : Nat) : RF := ⟨DCL_CH_BRK c, 11, 0⟩
def DCL_CH_SREF_EN (c : Nat) : RF := ⟨DCL_CH_SREF c, 31, 31⟩
def DCL_CH_SREF_CTX (c : Nat) : RF := ⟨DCL_CH_SREF c, 13, 6⟩
def DCL_CH_SREF_PORT (c : Nat) : RF := ⟨DCL_CH_SREF c, 5, 0⟩
def DCL_CH_RAMP_RAMP (c : Nat) : RF := ⟨DCL_CH_RAMP c, 23, 0⟩
def DCL_CH_DLV_EN (c k : Nat) : RF := ⟨DCL_CH_DLV c k, 31, 31⟩
def DCL_CH_DLV_CTX (c k : Nat) : RF := ⟨DCL_CH_DLV c k, 13, 6⟩
def DCL_CH_DLV_PORT (c k : Nat) : RF := ⟨DCL_CH_DLV c k, 5, 0⟩
def DCL_CH_PREQ_KW (c : Nat) : RF := ⟨DCL_CH_PREQ c, 23, 0⟩
def DCL_CH_PACT_KW (c : Nat) : RF := ⟨DCL_CH_PACT c, 23, 0⟩
def DCL_CH_GRANT_REASON (c : Nat) : RF := ⟨DCL_CH_GRANT c, 31, 30⟩
def DCL_CH_GRANT_BY (c : Nat) : RF := ⟨DCL_CH_GRANT c, 29, 28⟩
def DCL_CH_GRANT_FLR (c : Nat) : RF := ⟨DCL_CH_GRANT c, 27, 27⟩
def DCL_CH_GRANT_PEND (c : Nat) : RF := ⟨DCL_CH_GRANT c, 26, 26⟩
def DCL_CH_GRANT_GRANT (c : Nat) : RF := ⟨DCL_CH_GRANT c, 23, 0⟩
def DCL_CH_STAT_SLSTATE (c : Nat) : RF := ⟨DCL_CH_STAT c, 31, 30⟩
def DCL_CH_STAT_CAUSE (c : Nat) : RF := ⟨DCL_CH_STAT c, 29, 27⟩
def DCL_CH_STAT_BRK (c : Nat) : RF := ⟨DCL_CH_STAT c, 26, 26⟩
def DCL_CH_STAT_S (c : Nat) : RF := ⟨DCL_CH_STAT c, 23, 0⟩
def DCL_CH_SHW_W (c : Nat) : RF := ⟨DCL_CH_SHW c, 7, 0⟩
def DRG_CTL_LEAVE : RF := ⟨DRG_CTL, 1, 1⟩
def DRG_CTL_JOIN : RF := ⟨DRG_CTL, 0, 0⟩
def DRG_NODE_ROLE : RF := ⟨DRG_NODE, 5, 4⟩
def DRG_NODE_NODE : RF := ⟨DRG_NODE, 3, 0⟩
def DRG_STAT_PLAN_VER : RF := ⟨DRG_STAT, 31, 24⟩
def DRG_STAT_MASTER : RF := ⟨DRG_STAT, 23, 20⟩
def DRG_STAT_ACTING : RF := ⟨DRG_STAT, 18, 18⟩
def DRG_STAT_ID_CLASH : RF := ⟨DRG_STAT, 17, 17⟩
def DRG_STAT_ADMITTED : RF := ⟨DRG_STAT, 16, 16⟩
def DRG_STAT_SPLIT : RF := ⟨DRG_STAT, 5, 5⟩
def DRG_STAT_HOP_LONG : RF := ⟨DRG_STAT, 4, 4⟩
def DRG_STAT_WRAP_UP : RF := ⟨DRG_STAT, 3, 3⟩
def DRG_STAT_WRAP_DN : RF := ⟨DRG_STAT, 2, 2⟩
def DRG_STAT_UP_DOWN : RF := ⟨DRG_STAT, 1, 1⟩
def DRG_STAT_DN_DOWN : RF := ⟨DRG_STAT, 0, 0⟩
def DRG_PRESENT_PLANNED : RF := ⟨DRG_PRESENT, 31, 16⟩
def DRG_PRESENT_PRESENT : RF := ⟨DRG_PRESENT, 15, 0⟩
def DRG_CYC_BULK_MIN : RF := ⟨DRG_CYC, 31, 16⟩
def DRG_CYC_CYC : RF := ⟨DRG_CYC, 15, 0⟩
def DRG_DLY_D_EST : RF := ⟨DRG_DLY, 15, 8⟩
def DRG_DLY_D_MAX : RF := ⟨DRG_DLY, 7, 0⟩
def DRG_TIMING_SHR_DONE : RF := ⟨DRG_TIMING, 31, 16⟩
def DRG_TIMING_L : RF := ⟨DRG_TIMING, 15, 0⟩
def DRG_HOP_DN : RF := ⟨DRG_HOP, 31, 16⟩
def DRG_HOP_UP : RF := ⟨DRG_HOP, 15, 0⟩
def DRG_TERR_AB : RF := ⟨DRG_TERR, 31, 16⟩
def DRG_TERR_ERR : RF := ⟨DRG_TERR, 15, 0⟩
def DRG_SLOT_WHEELS : RF := ⟨DRG_SLOT, 31, 16⟩
def DRG_SLOT_TT : RF := ⟨DRG_SLOT, 10, 9⟩
def DRG_SLOT_BELL : RF := ⟨DRG_SLOT, 8, 8⟩
def DRG_SLOT_NW : RF := ⟨DRG_SLOT, 6, 0⟩
def DRG_SLOT_ADM_WHEELS : RF := ⟨DRG_SLOT_ADM, 31, 16⟩
def DRG_SLOT_ADM_TT : RF := ⟨DRG_SLOT_ADM, 10, 9⟩
def DRG_SLOT_ADM_BELL : RF := ⟨DRG_SLOT_ADM, 8, 8⟩
def DRG_SLOT_ADM_NW : RF := ⟨DRG_SLOT_ADM, 6, 0⟩
def DRG_CMD_OP : RF := ⟨DRG_CMD, 31, 28⟩
def DRG_CMD_ARG : RF := ⟨DRG_CMD, 1, 0⟩
def DRG_CMD_RESULT_EXCESS : RF := ⟨DRG_CMD_RESULT, 31, 20⟩
def DRG_CMD_RESULT_NODE : RF := ⟨DRG_CMD_RESULT, 19, 16⟩
def DRG_CMD_RESULT_RESULT : RF := ⟨DRG_CMD_RESULT, 15, 0⟩
def DRG_CNT_BULK_DROP : RF := ⟨DRG_CNT, 31, 16⟩
def DRG_CNT_CRC_ERR : RF := ⟨DRG_CNT, 15, 0⟩
def LS_CFG_EN : RF := ⟨LS_CFG, 31, 31⟩
def LS_CFG_LEADER : RF := ⟨LS_CFG, 27, 24⟩
def LS_CFG_TWORD : RF := ⟨LS_CFG, 21, 16⟩
def LS_CFG_W : RF := ⟨LS_CFG, 15, 8⟩
def LS_CFG_CH : RF := ⟨LS_CFG, 2, 0⟩
def LS_TGT_EN : RF := ⟨LS_TGT, 31, 31⟩
def LS_TGT_CTX : RF := ⟨LS_TGT, 13, 6⟩
def LS_TGT_PORT : RF := ⟨LS_TGT, 5, 0⟩
def LS_ECHO_EN : RF := ⟨LS_ECHO, 31, 31⟩
def LS_ECHO_CTX : RF := ⟨LS_ECHO, 13, 6⟩
def LS_ECHO_PORT : RF := ⟨LS_ECHO, 5, 0⟩
def LS_MEMBERS_MASK : RF := ⟨LS_MEMBERS, 15, 0⟩
def LS_STAT_INCL : RF := ⟨LS_STAT, 31, 16⟩
def LS_STAT_PEND : RF := ⟨LS_STAT, 15, 15⟩
def LS_STAT_LEADER_LOST : RF := ⟨LS_STAT, 14, 14⟩
def LS_SCALE_SCALE : RF := ⟨LS_SCALE, 23, 0⟩
def PLAN_WHEELS (n : Nat) : RF := ⟨PLAN n, 14, 11⟩
def PLAN_TT (n : Nat) : RF := ⟨PLAN n, 10, 9⟩
def PLAN_BELL (n : Nat) : RF := ⟨PLAN n, 8, 8⟩
def PLAN_NW (n : Nat) : RF := ⟨PLAN n, 7, 1⟩
def PLAN_EN (n : Nat) : RF := ⟨PLAN n, 0, 0⟩
def NODE_STAT_MISS (n : Nat) : RF := ⟨NODE_STAT n, 31, 16⟩
def NODE_STAT_PRESENT (n : Nat) : RF := ⟨NODE_STAT n, 15, 15⟩
def NODE_STAT_AVAIL (n : Nat) : RF := ⟨NODE_STAT n, 14, 14⟩
def NODE_STAT_STATE (n : Nat) : RF := ⟨NODE_STAT n, 13, 12⟩
def NODE_STAT_NEXT (n : Nat) : RF := ⟨NODE_STAT n, 11, 8⟩
def NODE_STAT_W (n : Nat) : RF := ⟨NODE_STAT n, 7, 0⟩
def RTX_ADDR_ADDR (d : Nat) : RF := ⟨RTX_ADDR d, 31, 0⟩
def RTX_CFG_EN (d : Nat) : RF := ⟨RTX_CFG d, 31, 31⟩
def RTX_CFG_BCAST (d : Nat) : RF := ⟨RTX_CFG d, 30, 30⟩
def RTX_CFG_DEST (d : Nat) : RF := ⟨RTX_CFG d, 27, 24⟩
def RTX_CFG_LEN (d : Nat) : RF := ⟨RTX_CFG d, 10, 0⟩
def RRX_ADDR_ADDR : RF := ⟨RRX_ADDR, 31, 0⟩
def RRX_CFG_EN : RF := ⟨RRX_CFG, 31, 31⟩
def RRX_CFG_SIZE : RF := ⟨RRX_CFG, 15, 0⟩
def RRX_PUT_PUT : RF := ⟨RRX_PUT, 15, 0⟩
def RRX_GET_GET : RF := ⟨RRX_GET, 15, 0⟩
def SAF_CMD_DATA_WORD : RF := ⟨SAF_CMD_DATA, 31, 0⟩
def SAF_CMD_CTL_FLUSH : RF := ⟨SAF_CMD_CTL, 1, 1⟩
def SAF_CMD_CTL_GO : RF := ⟨SAF_CMD_CTL, 0, 0⟩
def SAF_CMD_STAT_OVR : RF := ⟨SAF_CMD_STAT, 17, 17⟩
def SAF_CMD_STAT_BUSY : RF := ⟨SAF_CMD_STAT, 16, 16⟩
def SAF_CMD_STAT_LEVEL : RF := ⟨SAF_CMD_STAT, 8, 0⟩
def SAF_STAT_STATE : RF := ⟨SAF_STAT, 31, 28⟩
def SAF_STAT_FCAUSE : RF := ⟨SAF_STAT, 27, 24⟩
def SAF_STAT_V24_OK : RF := ⟨SAF_STAT, 23, 23⟩
def SAF_STAT_STAGED_OK : RF := ⟨SAF_STAT, 22, 22⟩
def SAF_STAT_ACT_LEFT : RF := ⟨SAF_STAT, 8, 0⟩
def SAF_TICK_COUNT : RF := ⟨SAF_TICK, 31, 0⟩
def SAF_RESP_OP : RF := ⟨SAF_RESP, 31, 24⟩
def SAF_RESP_SEQ : RF := ⟨SAF_RESP, 23, 16⟩
def SAF_RESP_RESULT : RF := ⟨SAF_RESP, 15, 0⟩
def SAF_PW_SET : RF := ⟨SAF_PW, 31, 31⟩
def SAF_PW_ENTERED : RF := ⟨SAF_PW, 30, 30⟩
def SAF_PW_LOCKED : RF := ⟨SAF_PW, 29, 29⟩
def SAF_PW_FAILS : RF := ⟨SAF_PW, 19, 16⟩
def SAF_PW_LOCK_S : RF := ⟨SAF_PW, 15, 0⟩
def SAF_CFGERR_RECORD : RF := ⟨SAF_CFGERR, 31, 16⟩
def SAF_CFGERR_REASON : RF := ⟨SAF_CFGERR, 7, 0⟩
def SAF_IN_B : RF := ⟨SAF_IN, 27, 16⟩
def SAF_IN_A : RF := ⟨SAF_IN, 11, 0⟩
def SAF_DISC_COMMON : RF := ⟨SAF_DISC, 27, 16⟩
def SAF_DISC_DISC : RF := ⟨SAF_DISC, 11, 0⟩
def SAF_OUT_M_CLOSED : RF := ⟨SAF_OUT, 29, 24⟩
def SAF_OUT_P_CLOSED : RF := ⟨SAF_OUT, 21, 16⟩
def SAF_OUT_FAULT : RF := ⟨SAF_OUT, 13, 8⟩
def SAF_OUT_ON : RF := ⟨SAF_OUT, 5, 0⟩
def SAF_LINK_B_ERR : RF := ⟨SAF_LINK, 31, 16⟩
def SAF_LINK_A_ERR : RF := ⟨SAF_LINK, 15, 0⟩
def SAF_LOG_PEND : RF := ⟨SAF_LOG, 31, 31⟩
def SAF_LOG_INDEX : RF := ⟨SAF_LOG, 15, 0⟩
def SAF_TAP_COUNT (c : Nat) : RF := ⟨SAF_TAP c, 31, 0⟩
def SAF_CH_STATE (n : Nat) : RF := ⟨SAF_CH n, 31, 28⟩
def SAF_CH_SLS (n : Nat) : RF := ⟨SAF_CH n, 27, 27⟩
def SAF_CH_SDI (n : Nat) : RF := ⟨SAF_CH n, 26, 26⟩
def SAF_CH_SLS_IDX (n : Nat) : RF := ⟨SAF_CH n, 25, 24⟩
def SAF_CH_ACK_PEND (n : Nat) : RF := ⟨SAF_CH n, 23, 23⟩
def SAF_CH_HOST_STO (n : Nat) : RF := ⟨SAF_CH n, 22, 22⟩
def SAF_CH_SPD_VALID (n : Nat) : RF := ⟨SAF_CH n, 21, 21⟩
def SAF_CH_SBT_OK (n : Nat) : RF := ⟨SAF_CH n, 20, 20⟩
def SAF_CH_SBT_DUE (n : Nat) : RF := ⟨SAF_CH n, 19, 19⟩
def SAF_CH_SLIP (n : Nat) : RF := ⟨SAF_CH n, 18, 18⟩
def SAF_CH_PAIR_ON (n : Nat) : RF := ⟨SAF_CH n, 17, 17⟩
def SAF_CH_GDEN (n : Nat) : RF := ⟨SAF_CH n, 16, 16⟩
def SAF_CH_CAUSE (n : Nat) : RF := ⟨SAF_CH n, 15, 8⟩
def SAF_SPD_NSD (n : Nat) : RF := ⟨SAF_SPD n, 31, 16⟩
def SAF_SPD_NENC (n : Nat) : RF := ⟨SAF_SPD n, 15, 0⟩
def SAF_HASH_HASH (w : Nat) : RF := ⟨SAF_HASH w, 31, 0⟩
def SAF_SHASH_HASH (w : Nat) : RF := ⟨SAF_SHASH w, 31, 0⟩
def SAF_LOGREC_BYTES (i : Nat) : RF := ⟨SAF_LOGREC i, 31, 0⟩
def SAF_TT_STATE (c : Nat) : RF := ⟨SAF_TT c, 31, 30⟩
def SAF_TT_ERR (c : Nat) : RF := ⟨SAF_TT c, 23, 16⟩
def SAF_TT_SEQ (c : Nat) : RF := ⟨SAF_TT c, 15, 0⟩
def SAF_TTBUF_BYTES (c j : Nat) : RF := ⟨SAF_TTBUF c j, 23, 16⟩
def SAF_TTBUF_SEQ (c j : Nat) : RF := ⟨SAF_TTBUF c j, 15, 0⟩
def SAF_TTBUF_FRAME (c j : Nat) : RF := ⟨SAF_TTBUF c j, 31, 0⟩
def CAN_CTL_NOACK_ABORT (n : Nat) : RF := ⟨CAN_CTL n, 6, 6⟩
def CAN_CTL_AUTO_REC (n : Nat) : RF := ⟨CAN_CTL n, 5, 5⟩
def CAN_CTL_FD_EN (n : Nat) : RF := ⟨CAN_CTL n, 4, 4⟩
def CAN_CTL_REST (n : Nat) : RF := ⟨CAN_CTL n, 3, 3⟩
def CAN_CTL_MON (n : Nat) : RF := ⟨CAN_CTL n, 2, 2⟩
def CAN_CTL_INIT (n : Nat) : RF := ⟨CAN_CTL n, 0, 0⟩
def CAN_STAT_NO_PEER (n : Nat) : RF := ⟨CAN_STAT n, 9, 9⟩
def CAN_STAT_LEC_DATA (n : Nat) : RF := ⟨CAN_STAT n, 8, 8⟩
def CAN_STAT_LEC (n : Nat) : RF := ⟨CAN_STAT n, 7, 4⟩
def CAN_STAT_ON_BUS (n : Nat) : RF := ⟨CAN_STAT n, 2, 2⟩
def CAN_STAT_STATE (n : Nat) : RF := ⟨CAN_STAT n, 1, 0⟩
def CAN_ECNT_TEC (n : Nat) : RF := ⟨CAN_ECNT n, 24, 16⟩
def CAN_ECNT_REC (n : Nat) : RF := ⟨CAN_ECNT n, 7, 0⟩
def CAN_NBT_NSJW (n : Nat) : RF := ⟨CAN_NBT n, 31, 25⟩
def CAN_NBT_NBRP (n : Nat) : RF := ⟨CAN_NBT n, 24, 16⟩
def CAN_NBT_NTSEG1 (n : Nat) : RF := ⟨CAN_NBT n, 15, 8⟩
def CAN_NBT_NTSEG2 (n : Nat) : RF := ⟨CAN_NBT n, 6, 0⟩
def CAN_DBT_TDC_EN (n : Nat) : RF := ⟨CAN_DBT n, 23, 23⟩
def CAN_DBT_DBRP (n : Nat) : RF := ⟨CAN_DBT n, 20, 16⟩
def CAN_DBT_DTSEG1 (n : Nat) : RF := ⟨CAN_DBT n, 12, 8⟩
def CAN_DBT_DTSEG2 (n : Nat) : RF := ⟨CAN_DBT n, 7, 4⟩
def CAN_DBT_DSJW (n : Nat) : RF := ⟨CAN_DBT n, 3, 0⟩
def CAN_TDC_TDCO (n : Nat) : RF := ⟨CAN_TDC n, 22, 16⟩
def CAN_TDC_TDC_SAT (n : Nat) : RF := ⟨CAN_TDC n, 7, 7⟩
def CAN_TDC_TDCV (n : Nat) : RF := ⟨CAN_TDC n, 6, 0⟩
def CAN_LIM_ID_CLASH_LIMIT (n : Nat) : RF := ⟨CAN_LIM n, 15, 8⟩
def CAN_LIM_NOACK_LIMIT (n : Nat) : RF := ⟨CAN_LIM n, 7, 0⟩
def CAN_CLASH_XTD (n : Nat) : RF := ⟨CAN_CLASH n, 29, 29⟩
def CAN_CLASH_ID (n : Nat) : RF := ⟨CAN_CLASH n, 28, 0⟩
def CAN_IR_EVENTS (n : Nat) : RF := ⟨CAN_IR n, 9, 0⟩
def CAN_IE_EVENTS (n : Nat) : RF := ⟨CAN_IE n, 9, 0⟩
def CAN_IE_GEN_LINE (n : Nat) : RF := ⟨CAN_IE n, 31, 29⟩
def CAN_FIFO_OVR (n : Nat) : RF := ⟨CAN_FIFO n, 31, 24⟩
def CAN_FIFO_LEVEL (n : Nat) : RF := ⟨CAN_FIFO n, 23, 16⟩
def CAN_FIFO_PUT (n : Nat) : RF := ⟨CAN_FIFO n, 14, 8⟩
def CAN_FIFO_GET (n : Nat) : RF := ⟨CAN_FIFO n, 6, 0⟩
def CAN_FIFO_ACK_ACK (n : Nat) : RF := ⟨CAN_FIFO_ACK n, 7, 0⟩
def CAN_CNT_NOMATCH (n : Nat) : RF := ⟨CAN_CNT n, 31, 0⟩
def CAN_OBJ_CFG_EN (n k : Nat) : RF := ⟨CAN_OBJ_CFG n k, 31, 31⟩
def CAN_OBJ_CFG_DIR (n k : Nat) : RF := ⟨CAN_OBJ_CFG n k, 30, 30⟩
def CAN_OBJ_CFG_FIFO (n k : Nat) : RF := ⟨CAN_OBJ_CFG n k, 29, 29⟩
def CAN_OBJ_ID_XTD (n k : Nat) : RF := ⟨CAN_OBJ_ID n k, 29, 29⟩
def CAN_OBJ_ID_ID (n k : Nat) : RF := ⟨CAN_OBJ_ID n k, 28, 0⟩
def CAN_OBJ_MASK_XTD (n k : Nat) : RF := ⟨CAN_OBJ_MASK n k, 29, 29⟩
def CAN_OBJ_MASK_MASK (n k : Nat) : RF := ⟨CAN_OBJ_MASK n k, 28, 0⟩
def CAN_OBJ_STAT_TXREQ (n k : Nat) : RF := ⟨CAN_OBJ_STAT n k, 31, 31⟩
def CAN_OBJ_STAT_ABORT (n k : Nat) : RF := ⟨CAN_OBJ_STAT n k, 30, 30⟩
def CAN_OBJ_STAT_NEW (n k : Nat) : RF := ⟨CAN_OBJ_STAT n k, 29, 29⟩
def CAN_OBJ_STAT_LOST (n k : Nat) : RF := ⟨CAN_OBJ_STAT n k, 28, 28⟩
def CAN_OBJ_STAT_RESULT (n k : Nat) : RF := ⟨CAN_OBJ_STAT n k, 26, 24⟩
def CAN_HP_ID_XTD (n e : Nat) : RF := ⟨CAN_HP_ID n e, 29, 29⟩
def CAN_HP_ID_ID (n e : Nat) : RF := ⟨CAN_HP_ID n e, 28, 0⟩
def CAN_HP_MASK_XTD (n e : Nat) : RF := ⟨CAN_HP_MASK n e, 29, 29⟩
def CAN_HP_MASK_MASK (n e : Nat) : RF := ⟨CAN_HP_MASK n e, 28, 0⟩
def CAN_HP_CFG_EN (n e : Nat) : RF := ⟨CAN_HP_CFG n e, 31, 31⟩
def CAN_HP_CFG_ACK (n e : Nat) : RF := ⟨CAN_HP_CFG n e, 3, 0⟩
def CAN_HP_STAT_OVR (n e : Nat) : RF := ⟨CAN_HP_STAT n e, 31, 24⟩
def CAN_HP_STAT_LEVEL (n e : Nat) : RF := ⟨CAN_HP_STAT n e, 19, 16⟩
def CAN_HP_STAT_PUT (n e : Nat) : RF := ⟨CAN_HP_STAT n e, 10, 8⟩
def CAN_HP_STAT_GET (n e : Nat) : RF := ⟨CAN_HP_STAT n e, 2, 0⟩
def HST_CTL_SV_READY : RF := ⟨HST_CTL, 3, 3⟩
def HST_CTL_EN : RF := ⟨HST_CTL, 2, 0⟩
def HST_STAT_RESTARTS : RF := ⟨HST_STAT, 31, 16⟩
def HST_STAT_ABSENT_MS : RF := ⟨HST_STAT, 15, 0⟩
def PORT_STAT_RST_CNT (p : Nat) : RF := ⟨PORT_STAT p, 31, 24⟩
def PORT_STAT_OUT_LEVEL (p : Nat) : RF := ⟨PORT_STAT p, 23, 16⟩
def PORT_STAT_OUTSTANDING (p : Nat) : RF := ⟨PORT_STAT p, 15, 11⟩
def PORT_STAT_IN_LEVEL (p : Nat) : RF := ⟨PORT_STAT p, 4, 0⟩
def PORT_CNT_BAD (p : Nat) : RF := ⟨PORT_CNT p, 31, 24⟩
def PORT_CNT_BUSY (p : Nat) : RF := ⟨PORT_CNT p, 23, 16⟩
def PORT_CNT_EVT_LOST (p : Nat) : RF := ⟨PORT_CNT p, 15, 0⟩
def PORT_SUB_MIN_SEV (p : Nat) : RF := ⟨PORT_SUB p, 31, 30⟩
def PORT_SUB_SUBSYS (p : Nat) : RF := ⟨PORT_SUB p, 20, 0⟩
def ASSIST_CFG_MODE (f : Nat) : RF := ⟨ASSIST_CFG f, 31, 30⟩
def ASSIST_CFG_PEND (f : Nat) : RF := ⟨ASSIST_CFG f, 29, 29⟩
def ASSIST_CFG_DEADLINE (f : Nat) : RF := ⟨ASSIST_CFG f, 15, 0⟩
def PTP_SEC_LO_VALUE (m : Nat) : RF := ⟨PTP_SEC_LO m, 31, 0⟩
def PTP_SEC_HI_VALUE (m : Nat) : RF := ⟨PTP_SEC_HI m, 15, 0⟩
def PTP_NS_VALUE (m : Nat) : RF := ⟨PTP_NS m, 29, 0⟩
def PTP_RATE_RATE (m : Nat) : RF := ⟨PTP_RATE m, 31, 0⟩
def PTP_STEP_NS (m : Nat) : RF := ⟨PTP_STEP m, 31, 0⟩
def PTP_LAT_TX (m : Nat) : RF := ⟨PTP_LAT m, 31, 16⟩
def PTP_LAT_RX (m : Nat) : RF := ⟨PTP_LAT m, 15, 0⟩
def ERR_ROUTE_DOM1 : RF := ⟨ERR_ROUTE, 20, 0⟩
def ERR_SEQ_SEQ : RF := ⟨ERR_SEQ, 31, 0⟩
def ERR_CLAIM_VALID (d : Nat) : RF := ⟨ERR_CLAIM d, 31, 31⟩
def ERR_CLAIM_SEV (d : Nat) : RF := ⟨ERR_CLAIM d, 17, 16⟩
def ERR_CLAIM_CODE (d : Nat) : RF := ⟨ERR_CLAIM d, 15, 0⟩
def ERR_DONE_DONE (d : Nat) : RF := ⟨ERR_DONE d, 0, 0⟩
def ERR_STAT_LEVEL (d : Nat) : RF := ⟨ERR_STAT d, 31, 24⟩
def ERR_STAT_HANDLING (d : Nat) : RF := ⟨ERR_STAT d, 23, 20⟩
def ERR_STAT_QUEUED (d : Nat) : RF := ⟨ERR_STAT d, 19, 16⟩
def ERR_STAT_OVF (d : Nat) : RF := ⟨ERR_STAT d, 15, 15⟩
def ERR_STAT_LOST (d : Nat) : RF := ⟨ERR_STAT d, 14, 0⟩
def ERR_REC_WORD (d w : Nat) : RF := ⟨ERR_REC d w, 31, 0⟩
def ERR_RAISE_CODE_CODE (core : Nat) : RF := ⟨ERR_RAISE_CODE core, 31, 16⟩
def ERR_RAISE_CODE_SEV (core : Nat) : RF := ⟨ERR_RAISE_CODE core, 15, 14⟩
def ERR_RAISE_CTX_WORD (core i : Nat) : RF := ⟨ERR_RAISE_CTX core i, 31, 0⟩
def ERR_RAISE_GO_GO (core : Nat) : RF := ⟨ERR_RAISE_GO core, 0, 0⟩
def MEM_ECC_UNCORR : RF := ⟨MEM_ECC, 31, 16⟩
def MEM_ECC_CORR : RF := ⟨MEM_ECC, 15, 0⟩
def MEM_ECC_ADDR_ADDR : RF := ⟨MEM_ECC_ADDR, 31, 0⟩
def MEM_SCRUB_SCRUB_DIV : RF := ⟨MEM_SCRUB, 15, 0⟩
def DDR_CTL_TRAINED : RF := ⟨DDR_CTL, 31, 31⟩
def DDR_CTL_TRAIN : RF := ⟨DDR_CTL, 30, 30⟩
def DDR_CTL_DDR_WIN_SEL : RF := ⟨DDR_CTL, 8, 8⟩
def DDR_CTL_SIZE : RF := ⟨DDR_CTL, 2, 0⟩
def OSPI_CMD_OP : RF := ⟨OSPI_CMD, 31, 28⟩
def OSPI_ADDR_OFS : RF := ⟨OSPI_ADDR, 27, 0⟩
def OSPI_SRC_ADDR : RF := ⟨OSPI_SRC, 31, 0⟩
def OSPI_RESULT_BUSY : RF := ⟨OSPI_RESULT, 31, 31⟩
def OSPI_RESULT_RESULT : RF := ⟨OSPI_RESULT, 15, 0⟩
def REC_START_MASK : RF := ⟨REC_START, 31, 0⟩
def REC_STOP_MASK : RF := ⟨REC_STOP, 31, 0⟩
def REC_BW_USED_BPS : RF := ⟨REC_BW_USED, 31, 0⟩
def REC_TRIPSTOP_GRP : RF := ⟨REC_TRIPSTOP, 7, 0⟩
def REC_RESULT_BUSY : RF := ⟨REC_RESULT, 31, 31⟩
def REC_RESULT_STREAM : RF := ⟨REC_RESULT, 20, 16⟩
def REC_RESULT_RESULT : RF := ⟨REC_RESULT, 15, 0⟩
def REC_REFUSED_MASK : RF := ⟨REC_REFUSED, 31, 0⟩
def REC_SRC_SRC (s : Nat) : RF := ⟨REC_SRC s, 31, 0⟩
def REC_CFG_TSTOP (s : Nat) : RF := ⟨REC_CFG s, 31, 31⟩
def REC_CFG_RING (s : Nat) : RF := ⟨REC_CFG s, 30, 30⟩
def REC_CFG_DDR (s : Nat) : RF := ⟨REC_CFG s, 29, 29⟩
def REC_CFG_TRIG (s : Nat) : RF := ⟨REC_CFG s, 25, 24⟩
def REC_CFG_TCH (s : Nat) : RF := ⟨REC_CFG s, 22, 20⟩
def REC_CFG_TCMP (s : Nat) : RF := ⟨REC_CFG s, 19, 18⟩
def REC_MINT_MIN_INT (s : Nat) : RF := ⟨REC_MINT s, 23, 0⟩
def REC_BASE_BASE (s : Nat) : RF := ⟨REC_BASE s, 31, 0⟩
def REC_SIZE_SIZE (s : Nat) : RF := ⟨REC_SIZE s, 31, 0⟩
def REC_POST_VALUE (s : Nat) : RF := ⟨REC_POST s, 31, 0⟩
def REC_PUT_VALUE (s : Nat) : RF := ⟨REC_PUT s, 31, 0⟩
def REC_STAT_DROP (s : Nat) : RF := ⟨REC_STAT s, 31, 16⟩
def REC_STAT_DONE (s : Nat) : RF := ⟨REC_STAT s, 2, 2⟩
def REC_STAT_STOPPING (s : Nat) : RF := ⟨REC_STAT s, 1, 1⟩
def REC_STAT_RUN (s : Nat) : RF := ⟨REC_STAT s, 0, 0⟩
def IMG_STAT_BOOTED : RF := ⟨IMG_STAT, 31, 30⟩
def IMG_STAT_TRIAL : RF := ⟨IMG_STAT, 29, 29⟩
def IMG_STAT_TRIAL_CNT : RF := ⟨IMG_STAT, 28, 27⟩
def IMG_STAT_PHASE : RF := ⟨IMG_STAT, 26, 24⟩
def IMG_STAT_DEFERRED : RF := ⟨IMG_STAT, 23, 23⟩
def IMG_STAT_RESTORED : RF := ⟨IMG_STAT, 22, 22⟩
def IMG_STAT_STAGING_BAD : RF := ⟨IMG_STAT, 21, 21⟩
def IMG_STAT_VCODE : RF := ⟨IMG_STAT, 15, 0⟩
def IMG_CTL_REJECT : RF := ⟨IMG_CTL, 1, 1⟩
def IMG_CTL_CONFIRM : RF := ⟨IMG_CTL, 0, 0⟩
def IMG_VER_VER : RF := ⟨IMG_VER, 31, 0⟩
def IMG_SVN_COUNTER : RF := ⟨IMG_SVN, 23, 16⟩
def IMG_SVN_SVN : RF := ⟨IMG_SVN, 7, 0⟩
def IMG_SESS_OPEN : RF := ⟨IMG_SESS, 31, 31⟩
def IMG_SESS_SRC : RF := ⟨IMG_SESS, 30, 28⟩
def IMG_SESS_NODE : RF := ⟨IMG_SESS, 27, 24⟩
def IMG_SESS_IDLE_S : RF := ⟨IMG_SESS, 23, 16⟩
def IMG_SESS_SESSION : RF := ⟨IMG_SESS, 15, 0⟩
def IMG_FMT_DRIVE : RF := ⟨IMG_FMT, 31, 16⟩
def IMG_FMT_SAFETY : RF := ⟨IMG_FMT, 15, 0⟩
def TLY_CTL_SRC : RF := ⟨TLY_CTL, 2, 0⟩
def TLY_STAT_BUSY : RF := ⟨TLY_STAT, 31, 31⟩
def TLY_STAT_RESULT : RF := ⟨TLY_STAT, 15, 0⟩
def TLY_LOG_SEL_INDEX : RF := ⟨TLY_LOG_SEL, 9, 0⟩
def TLY_LOG_CNT_COUNT : RF := ⟨TLY_LOG_CNT, 9, 0⟩
def TLY_CEIL_LEFT (c : Nat) : RF := ⟨TLY_CEIL c, 31, 27⟩
def TLY_CEIL_CEIL (c : Nat) : RF := ⟨TLY_CEIL c, 15, 0⟩
def TLY_PINMAP_LEFT : RF := ⟨TLY_PINMAP, 31, 28⟩
def TLY_PINMAP_MAP : RF := ⟨TLY_PINMAP, 23, 0⟩
def TLY_LEFT_NODE : RF := ⟨TLY_LEFT, 31, 26⟩
def TLY_LEFT_ACT : RF := ⟨TLY_LEFT, 24, 16⟩
def TLY_LEFT_PW : RF := ⟨TLY_LEFT, 12, 8⟩
def TLY_LEFT_RB : RF := ⟨TLY_LEFT, 6, 0⟩
def TLY_DEBUG_LEFT : RF := ⟨TLY_DEBUG, 3, 2⟩
def TLY_DEBUG_LOCK : RF := ⟨TLY_DEBUG, 1, 0⟩
def TLY_KEY_OP : RF := ⟨TLY_KEY, 31, 28⟩
def TLY_KEY_SEL : RF := ⟨TLY_KEY, 9, 8⟩
def TLY_KEY_STATE : RF := ⟨TLY_KEY, 7, 0⟩
def SYS_RST_CAUSE_JTAG : RF := ⟨SYS_RST_CAUSE, 8, 8⟩
def SYS_RST_CAUSE_SV_SW : RF := ⟨SYS_RST_CAUSE, 7, 7⟩
def SYS_RST_CAUSE_LOCKSTEP : RF := ⟨SYS_RST_CAUSE, 6, 6⟩
def SYS_RST_CAUSE_SV_WDT : RF := ⟨SYS_RST_CAUSE, 5, 5⟩
def SYS_RST_CAUSE_DEV_WDT : RF := ⟨SYS_RST_CAUSE, 4, 4⟩
def SYS_RST_CAUSE_SW_WARM : RF := ⟨SYS_RST_CAUSE, 3, 3⟩
def SYS_RST_CAUSE_RST_N : RF := ⟨SYS_RST_CAUSE, 2, 2⟩
def SYS_RST_CAUSE_SUPPLY : RF := ⟨SYS_RST_CAUSE, 1, 1⟩
def SYS_RST_CAUSE_PORST : RF := ⟨SYS_RST_CAUSE, 0, 0⟩
def SYS_RST_REQ_KEY : RF := ⟨SYS_RST_REQ, 31, 24⟩
def SYS_RST_REQ_DOMAIN : RF := ⟨SYS_RST_REQ, 7, 0⟩
def SYS_WDT_CFG_EN : RF := ⟨SYS_WDT_CFG, 31, 31⟩
def SYS_WDT_CFG_WIN_MIN : RF := ⟨SYS_WDT_CFG, 23, 16⟩
def SYS_WDT_CFG_TIMEOUT : RF := ⟨SYS_WDT_CFG, 15, 0⟩
def SYS_WDT_SVC_SVC : RF := ⟨SYS_WDT_SVC, 7, 0⟩
def SYS_CLK_STAT_FREQ : RF := ⟨SYS_CLK_STAT, 7, 7⟩
def SYS_CLK_STAT_FEDGE : RF := ⟨SYS_CLK_STAT, 6, 6⟩
def SYS_CLK_STAT_PLL : RF := ⟨SYS_CLK_STAT, 5, 5⟩
def SYS_CLK_STAT_XTAL : RF := ⟨SYS_CLK_STAT, 4, 4⟩
def SYS_CLK_STAT_DDR_LOCK : RF := ⟨SYS_CLK_STAT, 3, 3⟩
def SYS_CLK_STAT_SYS_LOCK : RF := ⟨SYS_CLK_STAT, 2, 2⟩
def SYS_CLK_STAT_XTAL_OK : RF := ⟨SYS_CLK_STAT, 1, 1⟩
def SYS_CLK_STAT_MCLK_OK : RF := ⟨SYS_CLK_STAT, 0, 0⟩
def SYS_SVH_SV_HOLD : RF := ⟨SYS_SVH, 15, 0⟩
def SYS_SVH_STAT_EXPIRED : RF := ⟨SYS_SVH_STAT, 31, 31⟩
def SYS_SVH_STAT_FALLBACKS : RF := ⟨SYS_SVH_STAT, 7, 0⟩
def THM_TJ_T_HV : RF := ⟨THM_TJ, 31, 16⟩
def THM_TJ_T_CD : RF := ⟨THM_TJ, 15, 0⟩
def THM_STAT_LATCH : RF := ⟨THM_STAT, 31, 31⟩
def THM_STAT_DIE_HARD : RF := ⟨THM_STAT, 30, 30⟩
def THM_STAT_HV_STALE : RF := ⟨THM_STAT, 29, 29⟩
def THM_STAT_CH_HARD : RF := ⟨THM_STAT, 23, 18⟩
def THM_STAT_PEND : RF := ⟨THM_STAT, 17, 12⟩
def THM_STAT_BROKEN : RF := ⟨THM_STAT, 11, 0⟩
def THM_CMD_OP : RF := ⟨THM_CMD, 31, 28⟩
def THM_CMD_MASK : RF := ⟨THM_CMD, 11, 0⟩
def THM_CFG_RISE : RF := ⟨THM_CFG, 15, 0⟩
def TS_VAL_BROKEN (s : Nat) : RF := ⟨TS_VAL s, 31, 31⟩
def TS_VAL_STALE (s : Nat) : RF := ⟨TS_VAL s, 30, 30⟩
def TS_VAL_NOCHK (s : Nat) : RF := ⟨TS_VAL s, 29, 29⟩
def TS_VAL_TEMP (s : Nat) : RF := ⟨TS_VAL s, 15, 0⟩
def TS_OFS_TEMP (s : Nat) : RF := ⟨TS_OFS s, 15, 0⟩
def TS_RAW_TEMP (s : Nat) : RF := ⟨TS_RAW s, 15, 0⟩
def TIN_CFG_EN (n : Nat) : RF := ⟨TIN_CFG n, 31, 31⟩
def TIN_CFG_TYPE (n : Nat) : RF := ⟨TIN_CFG n, 30, 30⟩
def TIN_CFG_IEXC (n : Nat) : RF := ⟨TIN_CFG n, 29, 28⟩
def TIN_NTC_B (n : Nat) : RF := ⟨TIN_NTC n, 31, 16⟩
def TIN_NTC_R25 (n : Nat) : RF := ⟨TIN_NTC n, 15, 0⟩
def TIN_VAL_INVALID (n : Nat) : RF := ⟨TIN_VAL n, 31, 31⟩
def TIN_VAL_TEMP (n : Nat) : RF := ⟨TIN_VAL n, 15, 0⟩
def THM_CH_TCFG_EXT_EN (c : Nat) : RF := ⟨THM_CH_TCFG c, 31, 31⟩
def THM_CH_TCFG_TIN (c : Nat) : RF := ⟨THM_CH_TCFG c, 18, 16⟩
def THM_CH_TCFG_F_SL (c : Nat) : RF := ⟨THM_CH_TCFG c, 15, 0⟩
def THM_CH_TTHR_EXT_MAX (c : Nat) : RF := ⟨THM_CH_TTHR c, 31, 16⟩
def THM_CH_TTHR_EXT_DR (c : Nat) : RF := ⟨THM_CH_TTHR c, 15, 0⟩
def THM_CH_DER_F_APP (c : Nat) : RF := ⟨THM_CH_DER c, 31, 16⟩
def THM_CH_DER_F_CALC (c : Nat) : RF := ⟨THM_CH_DER c, 15, 0⟩

end Reg
end Sys2Proof.Machine
end

