-- ==== Sys2Proof/Machine/RegTable.lean ====
section
/-! DEFINITION. Machine/RegTable.lean: the register tables of the spec as data. Each row gives a register's offset in its
block, its index ranges, its reset value and its fields with their access codes (R7) and the values that a write stores
instead of the value written. -/

namespace Sys2Proof.Machine

/-- The access codes of R7. -/
inductive Acc where
  | ro | rw | wo | w1c | w1s | sc | rwl | tw
  deriving DecidableEq, Repr

/-- What a field stores for a value below `lo` or above `hi`: the value named, or nothing (`none` leaves the field). -/
structure San where
  lo  : Nat
  loV : Option Nat
  hi  : Nat
  hiV : Option Nat
  deriving DecidableEq, Repr

/-- One field of a register: its bits, its access code and, where the spec gives one, its range rule. -/
structure FieldSpec where
  hi  : Nat
  lo  : Nat
  acc : Acc
  san : Option San
  deriving DecidableEq, Repr

/-- One index of a register: its stride and its first and last value. -/
structure Dim where
  stride : Nat
  first  : Nat
  last   : Nat
  deriving DecidableEq, Repr

/-- One row of a map table. -/
structure RegRow where
  off    : Nat
  dims   : List Dim
  rst    : Nat
  fields : List FieldSpec
  deriving DecidableEq, Repr

/-- One register block: its base, the stride and number of its instances, and its rows (R33). -/
structure RegBlock where
  base   : Nat
  stride : Nat
  count  : Nat
  rows   : List RegRow
  deriving DecidableEq, Repr

/-- A field without a range rule. -/
def fd (hi lo : Nat) (a : Acc) : FieldSpec := ⟨hi, lo, a, none⟩
/-- A field that a value above `m` leaves unchanged. -/
def fk (hi lo : Nat) (a : Acc) (m : Nat) : FieldSpec := ⟨hi, lo, a, some ⟨0, none, m, none⟩⟩
/-- A field clamped into `x` to `y`. -/
def fc (hi lo : Nat) (a : Acc) (x y : Nat) : FieldSpec := ⟨hi, lo, a, some ⟨x, some x, y, some y⟩⟩
/-- A field in which a value above `m` stores `v`. -/
def fo (hi lo : Nat) (a : Acc) (m v : Nat) : FieldSpec := ⟨hi, lo, a, some ⟨0, none, m, some v⟩⟩
/-- A field in which 0 stores `v`. -/
def fz (hi lo : Nat) (a : Acc) (v : Nat) : FieldSpec := ⟨hi, lo, a, some ⟨1, some v, 2 ^ (hi - lo + 1) - 1, none⟩⟩

def rowsSYSIRQ0 : List RegRow := [
  ⟨0x400, [⟨0x4, 0, 215⟩], 0x0, [fd 16 16 .ro, fd 10 8 .rw, fk 5 4 .rw 2, fd 0 0 .rw]⟩,
  ⟨0x800, [], 0xfff, [fd 11 0 .ro]⟩,
  ⟨0x804, [], 0x0, [fd 11 0 .wo]⟩,
  ⟨0x808, [], 0xfff, [fd 11 0 .ro]⟩,
  ⟨0x80c, [], 0x0, [fd 11 0 .wo]⟩]

/-- The SYSIRQ registers. -/
def blockSYSIRQ : RegBlock := ⟨0x30000000, 0x0, 1, rowsSYSIRQ0⟩

def rowsTB0 : List RegRow := [
  ⟨0x0, [], 0x0, [fd 31 0 .ro]⟩,
  ⟨0x4, [], 0x0, [fd 31 0 .ro]⟩,
  ⟨0x8, [], 0x0, [fd 4 4 .w1c, fd 3 3 .ro, fd 2 2 .ro, fd 1 0 .ro]⟩,
  ⟨0xc, [], 0x0, [fk 1 0 .rw 2]⟩,
  ⟨0x10, [], 0x0, [fd 31 0 .ro]⟩,
  ⟨0x14, [], 0x0, [fd 31 0 .ro]⟩,
  ⟨0x40, [⟨0x4, 0, 4⟩], 0x0, [fd 31 0 .rw]⟩,
  ⟨0x54, [], 0x0, [fd 0 0 .wo]⟩,
  ⟨0x58, [], 0x0, [fd 31 31 .ro, fd 24 16 .ro, fd 15 0 .ro]⟩,
  ⟨0x5c, [], 0x0, [fd 15 8 .ro, fd 7 0 .ro]⟩,
  ⟨0x60, [], 0x0, [fd 15 0 .wo]⟩,
  ⟨0x64, [], 0x0, [fd 24 16 .ro, fd 8 0 .ro]⟩]

def rowsTB1 : List RegRow := [
  ⟨0x68, [], 0x10, [fc 6 0 .rw 0 64]⟩,
  ⟨0x6c, [], 0x0, [fd 31 0 .ro]⟩,
  ⟨0x70, [], 0x0, [fd 15 8 .ro, fd 7 0 .ro]⟩,
  ⟨0x74, [], 0x0, [fd 31 16 .ro, fd 15 0 .ro]⟩,
  ⟨0x78, [], 0x0, [fd 15 0 .ro]⟩,
  ⟨0x7c, [], 0x0, [fd 31 16 .wo, fd 15 0 .wo]⟩,
  ⟨0x80, [], 0x0, [fk 2 0 .rwl 3, fk 5 3 .rwl 3, fk 8 6 .rwl 3, fk 11 9 .rwl 3, fk 14 12 .rwl 3, fk 17 15 .rwl 3]⟩,
  ⟨0x80, [⟨0x10, 1, 3⟩], 0x0, [fd 31 0 .rw]⟩,
  ⟨0x84, [⟨0x10, 1, 3⟩], 0x0, [fd 31 0 .rw]⟩,
  ⟨0x88, [⟨0x10, 1, 3⟩], 0x1000, [fc 15 8 .rw 1 255, fd 2 2 .ro, fd 1 1 .ro, fd 0 0 .rw]⟩,
  ⟨0x100, [⟨0x40, 0, 15⟩], 0x0, [fd 27 24 .rwl, fc 23 21 .rwl 0 6, fd 20 16 .rwl, fd 15 8 .rwl, fk 7 4 .rwl 7, fd 0 0 .rw]⟩,
  ⟨0x104, [⟨0x40, 0, 15⟩], 0x10003e8, [fd 31 16 .rw, fc 15 0 .rw 1 65535]⟩]

def rowsTB2 : List RegRow := [
  ⟨0x108, [⟨0x40, 0, 15⟩], 0x0, [fd 31 0 .rw]⟩,
  ⟨0x10c, [⟨0x40, 0, 15⟩], 0x0, [fd 31 0 .rw]⟩,
  ⟨0x110, [⟨0x40, 0, 15⟩], 0x0, [fd 31 0 .rw]⟩,
  ⟨0x114, [⟨0x40, 0, 15⟩], 0x0, [fd 15 0 .rw]⟩,
  ⟨0x118, [⟨0x40, 0, 15⟩], 0x0, [fd 31 0 .rw]⟩,
  ⟨0x11c, [⟨0x40, 0, 15⟩], 0x0, [fd 0 0 .sc]⟩,
  ⟨0x120, [⟨0x40, 0, 15⟩], 0x0, [fd 31 0 .ro]⟩,
  ⟨0x124, [⟨0x40, 0, 15⟩], 0x0, [fd 31 0 .ro]⟩,
  ⟨0x128, [⟨0x40, 0, 15⟩], 0x0, [fd 31 0 .ro]⟩,
  ⟨0x12c, [⟨0x40, 0, 15⟩], 0x0, [fd 31 0 .ro]⟩,
  ⟨0x130, [⟨0x40, 0, 15⟩], 0x0, [fd 31 16 .ro, fd 1 1 .w1c, fd 0 0 .ro]⟩,
  ⟨0x134, [⟨0x40, 0, 15⟩], 0x0, [fd 31 0 .ro]⟩]

/-- The TB registers. -/
def blockTB : RegBlock := ⟨0x30020000, 0x0, 1, rowsTB0 ++ rowsTB1 ++ rowsTB2⟩

def rowsCE0 : List RegRow := [
  ⟨0x0, [], 0x39a0a1b, [fd 25 16 .rw, fc 15 8 .rw 1 255, fd 4 4 .rw, fd 3 0 .rwl]⟩,
  ⟨0x4, [], 0x0, [fd 31 28 .wo, fd 27 24 .wo, fd 15 8 .wo, fd 7 0 .wo]⟩,
  ⟨0x8, [], 0x0, [fd 31 0 .rw]⟩,
  ⟨0xc, [], 0x0, [fd 31 31 .ro, fd 15 0 .ro]⟩,
  ⟨0x10, [], 0x0, [fd 31 28 .ro, fd 27 20 .ro, fd 19 0 .ro]⟩,
  ⟨0x14, [], 0x0, [fd 31 28 .ro, fd 19 12 .ro, fd 11 4 .ro, fd 3 3 .ro, fd 2 2 .ro]⟩,
  ⟨0x40, [⟨0x4, 0, 11⟩], 0x0, [fd 25 16 .ro, fd 15 8 .ro, fd 7 4 .ro, fd 3 3 .ro, fd 2 2 .ro, fd 1 1 .ro]⟩,
  ⟨0x100, [], 0x0, [fd 7 0 .rw]⟩,
  ⟨0x104, [], 0x0, [fd 23 16 .ro, fd 15 8 .ro, fd 7 0 .ro]⟩,
  ⟨0x108, [], 0x0, [fd 31 0 .ro]⟩,
  ⟨0x10c, [], 0x0, [fd 31 0 .ro]⟩,
  ⟨0x110, [], 0x0, [fd 2 2 .w1c, fd 1 1 .w1c, fd 0 0 .w1c]⟩]

def rowsCE1 : List RegRow := [
  ⟨0x114, [], 0x0, [fd 23 0 .rw]⟩,
  ⟨0x118, [], 0x0, [fd 31 0 .rw]⟩,
  ⟨0x11c, [], 0x0, [fd 28 24 .ro, fd 23 0 .ro]⟩,
  ⟨0x200, [⟨0x4, 0, 63⟩], 0x0, [fd 31 0 .rwl]⟩,
  ⟨0x300, [⟨0x4, 0, 31⟩], 0x0, [fd 31 0 .rwl]⟩,
  ⟨0x4000, [⟨0x20, 0, 3⟩], 0x0, [fd 31 24 .rw, fc 20 16 .rw 7 31, fd 3 3 .rw, fo 2 0 .rw 4 0]⟩,
  ⟨0x4004, [⟨0x20, 0, 3⟩], 0x0, [fd 23 0 .rw]⟩,
  ⟨0x4008, [⟨0x20, 0, 3⟩], 0x0, [fd 23 0 .rw]⟩,
  ⟨0x400c, [⟨0x20, 0, 3⟩], 0x0, [fd 23 0 .rw]⟩,
  ⟨0x4010, [⟨0x20, 0, 3⟩], 0x0, [fd 23 0 .rw]⟩,
  ⟨0x4014, [⟨0x20, 0, 3⟩], 0x0, [fd 23 0 .ro]⟩,
  ⟨0x4100, [⟨0x10, 0, 31⟩], 0x0, [fd 31 31 .rw, fd 30 30 .rw, fd 23 16 .rw, fd 15 8 .rw, fd 4 0 .rw]⟩]

def rowsCE2 : List RegRow := [
  ⟨0x4104, [⟨0x10, 0, 31⟩], 0x0, [fd 31 0 .rw]⟩,
  ⟨0x4108, [⟨0x10, 0, 31⟩], 0x0, [fd 31 24 .rw, fd 23 0 .rw]⟩,
  ⟨0x410c, [⟨0x10, 0, 31⟩], 0x0, [fd 31 31 .w1c, fd 23 0 .ro]⟩,
  ⟨0x4400, [⟨0x20, 0, 15⟩], 0x0, [fo 31 28 .rw 4 0, fd 15 0 .rw]⟩,
  ⟨0x4404, [⟨0x20, 0, 15⟩], 0x0, [fd 31 0 .rw]⟩,
  ⟨0x4408, [⟨0x20, 0, 15⟩], 0x0, [fd 23 0 .rw]⟩,
  ⟨0x440c, [⟨0x20, 0, 15⟩], 0x0, [fd 22 0 .rw]⟩,
  ⟨0x4410, [⟨0x20, 0, 15⟩], 0x0, [fd 23 0 .rw]⟩,
  ⟨0x4414, [⟨0x20, 0, 15⟩], 0x0, [fd 23 0 .rw]⟩,
  ⟨0x4418, [⟨0x20, 0, 15⟩], 0x0, [fd 23 0 .ro]⟩,
  ⟨0x441c, [⟨0x20, 0, 15⟩], 0x0, [fd 2 2 .ro, fd 1 1 .ro, fd 0 0 .ro]⟩,
  ⟨0x2000, [⟨0x20, 0, 255⟩], 0x0, [fd 31 29 .ro, fd 28 25 .ro, fd 24 24 .ro, fd 23 20 .rwl, fd 19 18 .rwl, fd 17 16 .rwl, fd 15 8 .rwl, fd 7 0 .rwl]⟩]

def rowsCE3 : List RegRow := [
  ⟨0x2004, [⟨0x20, 0, 255⟩], 0x30, [fd 31 30 .rwl, fd 29 27 .rwl, fd 26 25 .rwl, fd 23 16 .rwl, fd 15 10 .rwl, fc 7 4 .rwl 1 15]⟩,
  ⟨0x2008, [⟨0x20, 0, 255⟩], 0x0, [fd 23 0 .rwl]⟩,
  ⟨0x200c, [⟨0x20, 0, 255⟩], 0x0, [fd 23 0 .rwl]⟩,
  ⟨0x2010, [⟨0x20, 0, 255⟩], 0x0, [fd 31 20 .ro, fd 19 0 .ro]⟩,
  ⟨0x2014, [⟨0x20, 0, 255⟩], 0x0, [fd 29 16 .ro, fd 12 0 .ro]⟩,
  ⟨0x2018, [⟨0x20, 0, 255⟩], 0x0, [fd 31 16 .ro, fd 14 0 .ro]⟩,
  ⟨0x201c, [⟨0x20, 0, 255⟩], 0x0, [fd 30 16 .ro, fd 14 0 .ro]⟩]

/-- The CE registers. -/
def blockCE : RegBlock := ⟨0x30030000, 0x0, 1, rowsCE0 ++ rowsCE1 ++ rowsCE2 ++ rowsCE3⟩

def rowsPWM0 : List RegRow := [
  ⟨0x0, [], 0x100, [fd 8 8 .rw, fd 4 4 .w1s, fd 0 0 .sc]⟩,
  ⟨0x4, [], 0x10000, [fd 31 24 .ro, fd 23 20 .ro, fd 19 19 .ro, fd 18 18 .ro, fd 17 17 .ro, fd 16 16 .ro, fd 9 9 .ro, fd 7 7 .w1c, fd 6 4 .ro, fd 3 3 .w1c, fd 2 2 .w1c, fd 1 1 .w1c]⟩,
  ⟨0x8, [], 0x0, [fk 31 30 .rwl 2, fd 27 24 .rwl, fc 23 12 .rwl 0 2500, fd 2 0 .rwl]⟩,
  ⟨0xc, [], 0x100, [fc 24 0 .rw 256 16777216]⟩,
  ⟨0x10, [], 0x100, [fd 24 0 .ro]⟩,
  ⟨0x14, [], 0x0, [fd 23 0 .ro]⟩,
  ⟨0x18, [], 0x0, [fd 11 0 .rw]⟩,
  ⟨0x20, [⟨0x4, 0, 5⟩], 0x0, [fd 31 31 .rw, fd 29 0 .rw]⟩,
  ⟨0x40, [⟨0x4, 0, 5⟩], 0x0, [fd 31 31 .rw, fd 29 0 .rw]⟩,
  ⟨0x60, [⟨0x4, 0, 5⟩], 0x0, [fd 29 0 .ro]⟩,
  ⟨0x80, [⟨0x4, 0, 5⟩], 0x0, [fd 29 0 .ro]⟩,
  ⟨0xa0, [⟨0x4, 0, 5⟩], 0x0, [fd 27 16 .rwl, fk 5 4 .rwl 2, fd 3 3 .rwl, fd 2 2 .rwl, fd 0 0 .rwl]⟩]

def rowsPWM1 : List RegRow := [
  ⟨0xc0, [⟨0x4, 0, 5⟩], 0x0, [fd 27 16 .rwl, fd 11 0 .rwl]⟩,
  ⟨0xe0, [⟨0x4, 0, 3⟩], 0x0, [fd 31 31 .rw, fd 23 0 .rw]⟩,
  ⟨0xf0, [⟨0x4, 0, 3⟩], 0x0, [fd 31 31 .ro, fd 23 0 .ro]⟩,
  ⟨0x100, [], 0x0, [fd 1 0 .rw, fd 3 2 .rw, fd 5 4 .rw, fd 7 6 .rw, fd 9 8 .rw, fd 11 10 .rw]⟩,
  ⟨0x104, [], 0x0, [fd 1 0 .ro, fd 3 2 .ro, fd 5 4 .ro, fd 7 6 .ro, fd 9 8 .ro, fd 11 10 .ro]⟩,
  ⟨0x110, [], 0x0, [fd 16 16 .sc, fd 11 8 .rw]⟩,
  ⟨0x114, [], 0x0, [fd 23 0 .rw]⟩,
  ⟨0x118, [], 0x0, [fd 31 16 .ro, fd 11 8 .ro, fd 7 4 .ro]⟩,
  ⟨0x120, [], 0x0, [fd 17 12 .ro, fd 8 6 .w1c, fd 5 0 .w1c]⟩]

/-- The PWM registers. -/
def blockPWM : RegBlock := ⟨0x30040000, 0x1000, 6, rowsPWM0 ++ rowsPWM1⟩

def rowsTRP0 : List RegRow := [
  ⟨0x0, [], 0x0, [fd 8 8 .ro, fd 7 0 .ro]⟩,
  ⟨0x4, [], 0x0, [fd 7 0 .wo]⟩,
  ⟨0x8, [], 0x0, [fd 23 16 .ro, fd 15 0 .ro]⟩,
  ⟨0x20, [⟨0x10, 0, 7⟩], 0x0, [fd 31 0 .rwl]⟩,
  ⟨0x24, [⟨0x10, 0, 7⟩], 0x0, [fd 3 0 .rwl]⟩,
  ⟨0x28, [⟨0x10, 0, 7⟩], 0x64, [fc 15 0 .rw 1 65535]⟩,
  ⟨0x2c, [⟨0x10, 0, 7⟩], 0x0, [fd 31 31 .ro, fd 6 0 .ro]⟩,
  ⟨0xa0, [⟨0x4, 0, 2⟩], 0x0, [fd 31 0 .ro]⟩,
  ⟨0x100, [⟨0x4, 0, 95⟩], 0x0, [fd 31 31 .rwl, fd 30 30 .rwl, fd 23 16 .rwl, fd 7 0 .rwl]⟩]

/-- The TRP registers. -/
def blockTRP : RegBlock := ⟨0x30130000, 0x0, 1, rowsTRP0⟩

def rowsMEA0 : List RegRow := [
  ⟨0x0, [⟨0x4, 0, 5⟩], 0xa, [fd 31 31 .rwl, fd 10 8 .rwl, fc 5 0 .rwl 10 50]⟩,
  ⟨0x20, [], 0xa0000, [fc 31 16 .rw 1 65535, fd 1 0 .rw]⟩,
  ⟨0x24, [], 0x0, [fd 31 16 .ro]⟩,
  ⟨0x100, [⟨0x10, 0, 47⟩], 0x801004, [fd 31 31 .rw, fd 30 30 .rwl, fc 24 16 .rwl 64 256, fc 13 8 .rwl 16 32, fd 7 0 .rwl]⟩,
  ⟨0x104, [⟨0x10, 0, 47⟩], 0x7fff8000, [fd 31 16 .rw, fd 15 0 .rw]⟩,
  ⟨0x108, [⟨0x10, 0, 47⟩], 0x0, [fd 14 0 .rw]⟩,
  ⟨0x10c, [⟨0x10, 0, 47⟩], 0x0, [fd 31 31 .ro, fd 30 30 .ro, fd 29 29 .ro, fd 23 0 .ro]⟩,
  ⟨0x400, [⟨0x10, 0, 7⟩], 0x0, [fd 31 31 .rwl, fo 26 24 .rwl 5 0, fd 23 22 .rwl, fc 18 16 .rwl 0 6]⟩,
  ⟨0x404, [⟨0x10, 0, 7⟩], 0x0, [fd 4 0 .rwl, fd 9 5 .rwl, fd 14 10 .rwl, fd 19 15 .rwl, fd 24 20 .rwl, fd 29 25 .rwl]⟩,
  ⟨0x408, [⟨0x10, 0, 7⟩], 0x0, [fd 31 0 .ro]⟩,
  ⟨0x500, [⟨0x10, 0, 39⟩], 0x12c0000, [fd 31 31 .rwl, fd 30 30 .rwl, fd 27 16 .rwl, fk 1 0 .rwl 2]⟩,
  ⟨0x504, [⟨0x10, 0, 39⟩], 0x3fff, [fd 29 16 .rw, fd 13 0 .rw]⟩]

def rowsMEA1 : List RegRow := [
  ⟨0x508, [⟨0x10, 0, 39⟩], 0x0, [fd 31 31 .ro, fd 30 30 .ro, fd 29 26 .ro, fd 25 25 .ro, fd 23 0 .ro]⟩,
  ⟨0x50c, [⟨0x10, 0, 39⟩], 0x0, [fd 31 0 .ro]⟩]

/-- The MEA registers. -/
def blockMEA : RegBlock := ⟨0x30070000, 0x0, 1, rowsMEA0 ++ rowsMEA1⟩

def rowsPOS0 : List RegRow := [
  ⟨0x0, [⟨0x20, 0, 5⟩], 0x0, [fd 31 31 .rw, fd 30 30 .rwl, fk 29 28 .rwl 2, fd 26 24 .rwl, fd 23 0 .rwl]⟩,
  ⟨0x4, [⟨0x20, 0, 5⟩], 0x0, [fd 31 0 .rwl]⟩,
  ⟨0x8, [⟨0x20, 0, 5⟩], 0x0, [fd 31 0 .ro]⟩,
  ⟨0xc, [⟨0x20, 0, 5⟩], 0x0, [fd 31 0 .ro]⟩,
  ⟨0x10, [⟨0x20, 0, 5⟩], 0x0, [fd 31 0 .ro]⟩,
  ⟨0x14, [⟨0x20, 0, 5⟩], 0x0, [fd 31 16 .ro, fd 2 2 .w1c, fd 1 1 .w1c, fd 0 0 .ro]⟩,
  ⟨0x18, [⟨0x20, 0, 5⟩], 0x0, [fd 0 0 .sc]⟩,
  ⟨0x100, [⟨0x20, 0, 2⟩], 0x648000, [fd 31 31 .rw, fc 23 16 .rwl 20 200, fd 15 8 .rwl, fd 7 0 .rwl]⟩,
  ⟨0x104, [⟨0x20, 0, 2⟩], 0x4000f000, [fd 31 16 .rw, fd 15 0 .rw]⟩,
  ⟨0x108, [⟨0x20, 0, 2⟩], 0x0, [fd 31 31 .ro, fd 23 0 .ro]⟩,
  ⟨0x10c, [⟨0x20, 0, 2⟩], 0x0, [fd 15 0 .ro]⟩,
  ⟨0x110, [⟨0x20, 0, 2⟩], 0x0, [fd 0 0 .w1c]⟩]

def rowsPOS1 : List RegRow := [
  ⟨0x200, [⟨0x20, 0, 3⟩], 0x180012, [fd 31 31 .rw, fd 30 30 .rwl, fd 29 29 .rwl, fd 28 28 .rwl, fd 27 25 .rwl, fd 24 23 .rwl, fc 21 16 .rwl 8 48, fd 12 8 .rwl, fd 4 0 .rwl]⟩,
  ⟨0x204, [⟨0x20, 0, 3⟩], 0x32007d, [fd 31 16 .rwl, fc 10 0 .rwl 13 1250]⟩,
  ⟨0x208, [⟨0x20, 0, 3⟩], 0x3014, [fd 31 24 .rwl, fd 23 16 .rwl, fd 15 12 .rwl, fd 7 0 .rwl]⟩,
  ⟨0x20c, [⟨0x20, 0, 3⟩], 0x0, [fd 31 8 .ro]⟩,
  ⟨0x210, [⟨0x20, 0, 3⟩], 0x0, [fd 31 0 .ro]⟩,
  ⟨0x214, [⟨0x20, 0, 3⟩], 0x0, [fd 31 16 .ro, fd 1 1 .ro, fd 0 0 .w1c]⟩,
  ⟨0x300, [⟨0x10, 0, 7⟩], 0x0, [fd 31 31 .rw, fd 29 28 .rwl, fd 26 24 .rwl, fd 7 0 .rwl]⟩,
  ⟨0x304, [⟨0x10, 0, 7⟩], 0x0, [fd 31 0 .ro]⟩,
  ⟨0x308, [⟨0x10, 0, 7⟩], 0x0, [fd 31 0 .ro]⟩,
  ⟨0x30c, [⟨0x10, 0, 7⟩], 0x0, [fd 31 16 .ro, fd 2 0 .ro]⟩,
  ⟨0x400, [⟨0x10, 0, 3⟩], 0xa00, [fd 31 31 .rw, fd 30 30 .rwl, fd 29 27 .rwl, fd 15 8 .rwl]⟩,
  ⟨0x404, [⟨0x10, 0, 3⟩], 0x2710, [fc 23 0 .rwl 1 1000000]⟩]

def rowsPOS2 : List RegRow := [
  ⟨0x408, [⟨0x10, 0, 3⟩], 0x0, [fd 31 31 .ro, fd 23 0 .ro]⟩]

/-- The POS registers. -/
def blockPOS : RegBlock := ⟨0x30080000, 0x0, 1, rowsPOS0 ++ rowsPOS1 ++ rowsPOS2⟩

def rowsAUX0 : List RegRow := [
  ⟨0x0, [], 0x0, [fd 31 24 .ro, fd 6 6 .ro, fd 5 5 .ro, fd 4 4 .ro, fd 3 3 .ro, fd 2 2 .ro, fd 1 1 .ro]⟩,
  ⟨0x4, [], 0x0, [fd 15 0 .ro]⟩,
  ⟨0x8, [], 0x0, [fd 15 0 .ro]⟩,
  ⟨0x10, [⟨0x4, 0, 3⟩], 0x100, [fd 31 31 .rw, fc 15 0 .rwl 256 65535]⟩,
  ⟨0x20, [⟨0x4, 0, 3⟩], 0x0, [fd 15 0 .ro]⟩,
  ⟨0x100, [⟨0x20, 0, 15⟩], 0x0, [fd 31 31 .rw, fk 30 28 .rwl 4, fd 25 24 .rwl, fk 21 20 .rwl 2]⟩,
  ⟨0x104, [⟨0x20, 0, 15⟩], 0xfa0032, [fc 27 16 .rwl 125 2500, fd 7 0 .rwl]⟩,
  ⟨0x108, [⟨0x20, 0, 15⟩], 0x0, [fd 23 0 .rw]⟩,
  ⟨0x10c, [⟨0x20, 0, 15⟩], 0x0, [fd 15 8 .rw, fd 7 0 .rw]⟩,
  ⟨0x110, [⟨0x20, 0, 15⟩], 0xa0000, [fd 31 31 .sc, fd 30 30 .rw, fc 23 16 .rw 2 40, fd 15 15 .w1c, fd 14 14 .ro, fd 7 0 .ro]⟩,
  ⟨0x114, [⟨0x20, 0, 15⟩], 0xff00ff00, [fd 31 24 .rw, fd 23 16 .rw, fd 15 8 .rw, fd 7 0 .rw]⟩,
  ⟨0x118, [⟨0x20, 0, 15⟩], 0x0, [fd 15 15 .ro, fd 14 14 .ro, fd 8 8 .w1c, fd 7 7 .w1c, fd 3 3 .ro, fd 2 2 .ro, fd 1 1 .ro, fd 0 0 .ro]⟩]

/-- The AUX registers. -/
def blockAUX : RegBlock := ⟨0x300b0000, 0x0, 1, rowsAUX0⟩

def rowsCMU0 : List RegRow := [
  ⟨0x0, [], 0x5014, [fd 31 31 .rwl, fd 30 30 .rwl, fd 29 28 .rwl, fd 27 27 .rwl, fo 26 24 .rwl 5 0, fd 23 20 .rwl, fd 19 16 .rwl, fd 15 12 .rwl, fc 11 8 .rwl 0 15, fo 7 5 .rwl 5 0, fd 4 0 .rwl]⟩,
  ⟨0x4, [], 0x0, [fd 31 28 .wo, fd 23 16 .wo, fd 10 8 .wo, fd 0 0 .wo]⟩,
  ⟨0x8, [], 0x40140a40, [fd 31 24 .rwl, fd 23 16 .rwl, fd 15 8 .rwl, fd 7 0 .rwl]⟩,
  ⟨0xc, [], 0x7d04e20, [fd 31 16 .rwl, fd 15 0 .rwl]⟩,
  ⟨0x10, [], 0xc640300, [fd 31 24 .rwl, fd 23 16 .rwl, fd 15 8 .rwl]⟩,
  ⟨0x14, [], 0x27100a40, [fd 31 16 .rwl, fd 15 8 .rwl, fd 7 0 .rwl]⟩,
  ⟨0x18, [], 0x0, [fd 23 0 .rw]⟩,
  ⟨0x1c, [], 0x80, [fc 7 0 .rw 1 255]⟩,
  ⟨0x20, [], 0x40041000, [fd 31 24 .rwl, fd 23 16 .rwl, fd 15 8 .rwl]⟩,
  ⟨0x24, [], 0x0, [fd 29 24 .rwl, fd 21 16 .rwl, fd 13 8 .rwl, fd 5 0 .rwl]⟩,
  ⟨0x28, [], 0x0, [fd 21 16 .rwl, fd 13 8 .rwl, fd 5 0 .rwl]⟩,
  ⟨0x2c, [], 0x0, [fd 31 28 .ro, fd 27 24 .ro, fd 23 21 .ro, fd 20 20 .ro, fd 19 17 .ro, fd 16 16 .ro, fd 15 14 .ro, fd 13 11 .ro]⟩]

def rowsCMU1 : List RegRow := [
  ⟨0x30, [], 0x0, [fd 23 0 .ro]⟩,
  ⟨0x34, [], 0x0, [fd 31 0 .ro]⟩]

/-- The CMU registers. -/
def blockCMU : RegBlock := ⟨0x300a0000, 0x40, 2, rowsCMU0 ++ rowsCMU1⟩

def rowsSTP0 : List RegRow := [
  ⟨0x0, [], 0x0, [fd 5 4 .rwl, fd 2 2 .rwl, fd 1 1 .rw, fd 0 0 .rwl]⟩,
  ⟨0x4, [], 0x0, [fd 31 28 .wo]⟩,
  ⟨0x8, [], 0x0, [fd 31 28 .ro, fd 27 24 .ro, fd 23 20 .ro, fd 19 16 .ro, fd 15 15 .ro, fd 14 14 .ro, fd 13 13 .ro, fd 12 12 .ro, fd 11 11 .ro, fd 7 7 .w1c, fd 6 6 .w1c, fd 5 5 .w1c, fd 4 4 .w1c, fd 3 3 .w1c]⟩,
  ⟨0xc, [], 0x0, [fd 31 0 .ro]⟩,
  ⟨0x10, [], 0x0, [fd 31 0 .rw]⟩,
  ⟨0x14, [], 0x0, [fd 31 0 .rw]⟩,
  ⟨0x18, [], 0x0, [fd 31 0 .rw]⟩,
  ⟨0x1c, [], 0x0, [fd 31 0 .rw]⟩,
  ⟨0x20, [], 0x0, [fd 31 0 .rw]⟩,
  ⟨0x24, [], 0x0, [fd 31 0 .rw]⟩,
  ⟨0x28, [], 0x0, [fd 31 0 .ro]⟩,
  ⟨0x2c, [], 0x0, [fd 31 0 .rw]⟩]

def rowsSTP1 : List RegRow := [
  ⟨0x30, [], 0x0, [fd 31 0 .rw]⟩,
  ⟨0x34, [], 0x0, [fd 31 0 .rwl]⟩,
  ⟨0x38, [], 0x0, [fd 31 28 .rwl, fd 27 27 .ro, fd 23 0 .rw]⟩,
  ⟨0x3c, [], 0x0, [fd 31 0 .ro]⟩,
  ⟨0x40, [], 0x7d00fa, [fc 27 16 .rwl 1 4095, fc 15 12 .rwl 0 8, fd 11 0 .rwl]⟩,
  ⟨0x44, [], 0x0, [fd 31 16 .rwl, fd 15 0 .rwl]⟩,
  ⟨0x48, [], 0xf30a0000, [fc 31 24 .rwl 0 248, fd 23 16 .rwl, fd 15 0 .rwl]⟩,
  ⟨0x4c, [], 0x0, [fd 31 16 .rw, fd 15 0 .rw]⟩,
  ⟨0x50, [], 0x4320000, [fd 31 24 .rwl, fd 23 16 .rwl, fd 15 0 .rwl]⟩,
  ⟨0x54, [], 0x8c06020, [fd 31 24 .rwl, fd 23 16 .rwl, fd 15 8 .rwl, fd 7 0 .rwl]⟩,
  ⟨0x58, [], 0x0, [fd 31 24 .rwl, fd 23 16 .rwl, fd 15 8 .rwl, fd 7 0 .rwl]⟩,
  ⟨0x5c, [], 0x143200, [fd 31 31 .rwl, fd 23 16 .rwl, fd 15 8 .rwl]⟩]

def rowsSTP2 : List RegRow := [
  ⟨0x60, [], 0x0, [fd 31 0 .rw]⟩,
  ⟨0x64, [], 0x0, [fd 31 0 .rw]⟩,
  ⟨0x68, [], 0x0, [fd 31 0 .rw]⟩,
  ⟨0x6c, [], 0x0, [fd 31 16 .ro, fd 15 0 .ro]⟩]

/-- The STP registers. -/
def blockSTP : RegBlock := ⟨0x30090000, 0x100, 4, rowsSTP0 ++ rowsSTP1 ++ rowsSTP2⟩

def rowsDCL0 : List RegRow := [
  ⟨0x0, [⟨0x40, 0, 3⟩], 0x0, [fd 31 31 .rw, fd 30 30 .rwl, fd 29 24 .rwl, fd 23 23 .rw, fd 21 16 .rwl, fd 13 8 .rwl, fd 5 0 .rwl]⟩,
  ⟨0x4, [⟨0x40, 0, 3⟩], 0x0, [fd 15 0 .rwl]⟩,
  ⟨0x8, [⟨0x40, 0, 3⟩], 0x0, [fd 31 16 .rwl, fd 15 0 .rwl]⟩,
  ⟨0xc, [⟨0x40, 0, 3⟩], 0x0, [fd 31 16 .rwl, fd 15 0 .rwl]⟩,
  ⟨0x10, [⟨0x40, 0, 3⟩], 0x0, [fd 31 16 .rwl, fd 15 0 .rwl]⟩,
  ⟨0x14, [⟨0x40, 0, 3⟩], 0x402320a, [fd 31 24 .rwl, fd 23 16 .rwl, fd 15 8 .rwl, fc 7 0 .rwl 0 100]⟩,
  ⟨0x18, [⟨0x40, 0, 3⟩], 0x0, [fd 15 0 .rwl]⟩,
  ⟨0x1c, [⟨0x40, 0, 3⟩], 0x0, [fd 31 16 .ro, fd 15 15 .ro, fd 14 14 .ro, fd 13 13 .ro, fd 12 12 .ro, fd 11 11 .ro, fd 10 10 .ro, fd 9 8 .ro, fd 7 7 .ro, fd 6 5 .ro]⟩,
  ⟨0x100, [], 0x40000a10, [fd 31 31 .rw, fd 30 30 .rw, fd 23 16 .rw, fc 15 8 .rw 1 50, fd 7 0 .rw]⟩,
  ⟨0x104, [], 0x0, [fd 23 0 .rw]⟩,
  ⟨0x108, [], 0x0, [fd 9 6 .rw, fd 5 0 .rw]⟩,
  ⟨0x10c, [], 0x0, [fd 31 31 .ro, fd 23 0 .ro]⟩]

def rowsDCL1 : List RegRow := [
  ⟨0x110, [], 0x0, [fd 31 28 .wo, fd 27 24 .wo, fd 5 0 .wo]⟩,
  ⟨0x114, [], 0x0, [fd 15 0 .ro]⟩,
  ⟨0x120, [⟨0x4, 1, 3⟩], 0x0, [fd 31 31 .rw, fd 30 30 .ro, fd 13 6 .rw, fd 5 0 .rw]⟩,
  ⟨0x200, [⟨0x40, 0, 5⟩], 0x0, [fd 31 31 .rwl, fd 30 30 .rwl, fd 29 28 .rwl, fd 27 27 .rwl, fd 26 26 .rwl, fd 25 24 .rwl, fd 23 20 .rwl]⟩,
  ⟨0x204, [⟨0x40, 0, 5⟩], 0xc80001, [fc 31 16 .rwl 1 65535, fc 11 0 .rwl 1 2500]⟩,
  ⟨0x208, [⟨0x40, 0, 5⟩], 0x0, [fd 31 31 .rwl, fd 13 6 .rwl, fd 5 0 .rwl]⟩,
  ⟨0x20c, [⟨0x40, 0, 5⟩], 0x0, [fd 23 0 .rwl]⟩,
  ⟨0x210, [⟨0x40, 0, 5⟩, ⟨0x4, 0, 3⟩], 0x0, [fd 31 31 .rw, fd 13 6 .rw, fd 5 0 .rw]⟩,
  ⟨0x220, [⟨0x40, 0, 5⟩], 0x0, [fd 23 0 .rw]⟩,
  ⟨0x224, [⟨0x40, 0, 5⟩], 0x0, [fd 23 0 .rw]⟩,
  ⟨0x228, [⟨0x40, 0, 5⟩], 0x0, [fd 31 30 .ro, fd 29 28 .ro, fd 27 27 .ro, fd 26 26 .ro, fd 23 0 .ro]⟩,
  ⟨0x22c, [⟨0x40, 0, 5⟩], 0x7fffff, [fd 31 30 .ro, fd 29 27 .ro, fd 26 26 .ro, fd 23 0 .ro]⟩]

def rowsDCL2 : List RegRow := [
  ⟨0x230, [⟨0x40, 0, 5⟩], 0x0, [fd 7 0 .rwl]⟩]

/-- The DCL registers. -/
def blockDCL : RegBlock := ⟨0x300c0000, 0x0, 1, rowsDCL0 ++ rowsDCL1 ++ rowsDCL2⟩

def rowsDRG0 : List RegRow := [
  ⟨0x0, [], 0x0, [fd 1 1 .sc, fd 0 0 .rw]⟩,
  ⟨0x4, [], 0x0, [fd 5 4 .tw, fd 3 0 .tw]⟩,
  ⟨0x8, [], 0x0, [fd 31 24 .ro, fd 23 20 .ro, fd 18 18 .ro, fd 17 17 .ro, fd 16 16 .ro, fd 5 5 .ro, fd 4 4 .ro, fd 3 3 .ro, fd 2 2 .ro, fd 1 1 .ro, fd 0 0 .ro]⟩,
  ⟨0xc, [], 0x0, [fd 31 16 .ro, fd 15 0 .ro]⟩,
  ⟨0x10, [], 0x1f4186a, [fd 31 16 .rwl, fc 15 0 .rwl 2500 25000]⟩,
  ⟨0x14, [], 0x2830, [fd 15 8 .rwl, fc 7 0 .rwl 1 255]⟩,
  ⟨0x18, [], 0x0, [fd 31 16 .ro, fd 15 0 .ro]⟩,
  ⟨0x1c, [], 0x0, [fd 31 16 .ro, fd 15 0 .ro]⟩,
  ⟨0x20, [], 0x0, [fd 31 16 .ro, fd 15 0 .ro]⟩,
  ⟨0x24, [], 0x0, [fd 31 16 .rwl, fd 10 9 .rwl, fd 8 8 .rwl, fc 6 0 .rwl 0 64]⟩,
  ⟨0x28, [], 0x0, [fd 31 16 .ro, fd 10 9 .ro, fd 8 8 .ro, fd 6 0 .ro]⟩,
  ⟨0x2c, [], 0x0, [fd 31 28 .wo, fd 1 0 .wo]⟩]

def rowsDRG1 : List RegRow := [
  ⟨0x30, [], 0x0, [fd 31 20 .ro, fd 19 16 .ro, fd 15 0 .ro]⟩,
  ⟨0x34, [], 0x0, [fd 31 16 .ro, fd 15 0 .ro]⟩,
  ⟨0x40, [], 0x0, [fd 31 31 .rwl, fd 27 24 .rwl, fc 21 16 .rwl 0 62, fd 15 8 .rwl, fo 2 0 .rwl 5 0]⟩,
  ⟨0x44, [], 0x0, [fd 31 31 .rwl, fd 13 6 .rwl, fd 5 0 .rwl]⟩,
  ⟨0x48, [], 0x0, [fd 31 31 .rwl, fd 13 6 .rwl, fd 5 0 .rwl]⟩,
  ⟨0x4c, [], 0x0, [fd 15 0 .rwl]⟩,
  ⟨0x50, [], 0x0, [fd 31 16 .ro, fd 15 15 .ro, fd 14 14 .ro]⟩,
  ⟨0x54, [], 0x0, [fd 23 0 .ro]⟩,
  ⟨0x80, [⟨0x4, 0, 15⟩], 0x0, [fd 14 11 .rw, fd 10 9 .rw, fd 8 8 .rw, fc 7 1 .rw 0 64, fd 0 0 .rw]⟩,
  ⟨0xc0, [⟨0x4, 0, 15⟩], 0x0, [fd 31 16 .ro, fd 15 15 .ro, fd 14 14 .ro, fd 13 12 .ro, fd 11 8 .ro, fd 7 0 .ro]⟩,
  ⟨0x100, [⟨0x8, 0, 7⟩], 0x0, [fd 31 0 .rw]⟩,
  ⟨0x104, [⟨0x8, 0, 7⟩], 0x0, [fd 31 31 .rw, fd 30 30 .rw, fd 27 24 .rw, fc 10 0 .rw 0 1016]⟩]

def rowsDRG2 : List RegRow := [
  ⟨0x140, [], 0x0, [fd 31 0 .rwl]⟩,
  ⟨0x144, [], 0x0, [fd 31 31 .rw, fc 15 0 .rwl 4184 65535]⟩,
  ⟨0x148, [], 0x0, [fd 15 0 .ro]⟩,
  ⟨0x14c, [], 0x0, [fd 15 0 .rw]⟩]

/-- The DRG registers. -/
def blockDRG : RegBlock := ⟨0x300e0000, 0x0, 1, rowsDRG0 ++ rowsDRG1 ++ rowsDRG2⟩

def rowsSYSSAF0 : List RegRow := [
  ⟨0xc00, [], 0x0, [fd 31 0 .wo]⟩,
  ⟨0xc04, [], 0x0, [fd 1 1 .wo, fd 0 0 .wo]⟩,
  ⟨0xc08, [], 0x0, [fd 17 17 .ro, fd 16 16 .ro, fd 8 0 .ro]⟩]

/-- The SYSSAF registers. -/
def blockSYSSAF : RegBlock := ⟨0x30000000, 0x0, 1, rowsSYSSAF0⟩

def rowsSAF0 : List RegRow := [
  ⟨0x0, [], 0x0, [fd 31 28 .ro, fd 27 24 .ro, fd 23 23 .ro, fd 22 22 .ro, fd 8 0 .ro]⟩,
  ⟨0x4, [], 0x0, [fd 31 0 .ro]⟩,
  ⟨0x8, [], 0x0, [fd 31 24 .ro, fd 23 16 .ro, fd 15 0 .ro]⟩,
  ⟨0xc, [], 0x0, [fd 31 31 .ro, fd 30 30 .ro, fd 29 29 .ro, fd 19 16 .ro, fd 15 0 .ro]⟩,
  ⟨0x10, [], 0x0, [fd 31 16 .ro, fd 7 0 .ro]⟩,
  ⟨0x14, [], 0x0, [fd 27 16 .ro, fd 11 0 .ro]⟩,
  ⟨0x18, [], 0x0, [fd 27 16 .ro, fd 11 0 .ro]⟩,
  ⟨0x1c, [], 0x0, [fd 29 24 .ro, fd 21 16 .ro, fd 13 8 .ro, fd 5 0 .ro]⟩,
  ⟨0x20, [], 0x0, [fd 31 16 .ro, fd 15 0 .ro]⟩,
  ⟨0x24, [], 0x0, [fd 31 31 .ro, fd 15 0 .ro]⟩,
  ⟨0x28, [⟨0x4, 0, 1⟩], 0x0, [fd 31 0 .ro]⟩,
  ⟨0x40, [⟨0x4, 0, 5⟩], 0x10800000, [fd 31 28 .ro, fd 27 27 .ro, fd 26 26 .ro, fd 25 24 .ro, fd 23 23 .ro, fd 22 22 .ro, fd 21 21 .ro, fd 20 20 .ro, fd 19 19 .ro, fd 18 18 .ro, fd 17 17 .ro, fd 16 16 .ro, fd 15 8 .ro]⟩]

def rowsSAF1 : List RegRow := [
  ⟨0x60, [⟨0x4, 0, 5⟩], 0x0, [fd 31 16 .ro, fd 15 0 .ro]⟩,
  ⟨0x80, [⟨0x4, 0, 7⟩], 0x0, [fd 31 0 .ro]⟩,
  ⟨0xa0, [⟨0x4, 0, 7⟩], 0x0, [fd 31 0 .ro]⟩,
  ⟨0xc0, [⟨0x4, 0, 20⟩], 0x0, [fd 31 0 .ro]⟩,
  ⟨0x120, [⟨0x4, 0, 7⟩], 0x0, [fd 31 30 .ro, fd 23 16 .ro, fd 15 0 .ro]⟩,
  ⟨0x200, [⟨0x40, 0, 7⟩, ⟨0x4, 0, 12⟩], 0x0, [fd 23 16 .ro, fd 15 0 .ro, fd 31 0 .ro]⟩]

/-- The SAF registers. -/
def blockSAF : RegBlock := ⟨0x30200000, 0x0, 1, rowsSAF0 ++ rowsSAF1⟩

def rowsCAN0 : List RegRow := [
  ⟨0x0, [], 0x1, [fd 6 6 .rw, fd 5 5 .rw, fd 4 4 .rw, fd 3 3 .rw, fd 2 2 .rw, fd 0 0 .rw]⟩,
  ⟨0x4, [], 0x0, [fd 9 9 .ro, fd 8 8 .ro, fd 7 4 .ro, fd 2 2 .ro, fd 1 0 .ro]⟩,
  ⟨0x8, [], 0x0, [fd 24 16 .ro, fd 7 0 .ro]⟩,
  ⟨0xc, [], 0x1e013e0f, [fd 31 25 .rwl, fd 24 16 .rwl, fd 15 8 .rwl, fd 6 0 .rwl]⟩,
  ⟨0x10, [], 0x10d44, [fd 23 23 .rwl, fd 20 16 .rwl, fd 12 8 .rwl, fd 7 4 .rwl, fd 3 0 .rwl]⟩,
  ⟨0x14, [], 0x1e0000, [fd 22 16 .rwl, fd 7 7 .w1c, fd 6 0 .ro]⟩,
  ⟨0x18, [], 0x410, [fd 15 8 .rw, fd 7 0 .rw]⟩,
  ⟨0x1c, [], 0x0, [fd 29 29 .ro, fd 28 0 .ro]⟩,
  ⟨0x20, [], 0x0, [fd 9 0 .w1c]⟩,
  ⟨0x24, [], 0xe0000000, [fd 9 0 .rw, fd 31 29 .rw]⟩,
  ⟨0x28, [], 0x0, [fd 31 24 .ro, fd 23 16 .ro, fd 14 8 .ro, fd 6 0 .ro]⟩,
  ⟨0x2c, [], 0x0, [fd 7 0 .wo]⟩]

def rowsCAN1 : List RegRow := [
  ⟨0x30, [], 0x0, [fd 31 0 .ro]⟩,
  ⟨0x100, [⟨0x10, 0, 63⟩], 0x0, [fd 31 31 .rw, fd 30 30 .rwl, fd 29 29 .rwl]⟩,
  ⟨0x104, [⟨0x10, 0, 63⟩], 0x0, [fd 29 29 .rwl, fd 28 0 .rwl]⟩,
  ⟨0x108, [⟨0x10, 0, 63⟩], 0x0, [fd 29 29 .rwl, fd 28 0 .rwl]⟩,
  ⟨0x10c, [⟨0x10, 0, 63⟩], 0x0, [fd 31 31 .w1s, fd 30 30 .sc, fd 29 29 .w1c, fd 28 28 .w1c, fd 26 24 .ro]⟩,
  ⟨0x600, [⟨0x10, 0, 7⟩], 0x0, [fd 29 29 .rwl, fd 28 0 .rwl]⟩,
  ⟨0x604, [⟨0x10, 0, 7⟩], 0x0, [fd 29 29 .rwl, fd 28 0 .rwl]⟩,
  ⟨0x608, [⟨0x10, 0, 7⟩], 0x0, [fd 31 31 .rw, fd 3 0 .wo]⟩,
  ⟨0x60c, [⟨0x10, 0, 7⟩], 0x0, [fd 31 24 .ro, fd 19 16 .ro, fd 10 8 .ro, fd 2 0 .ro]⟩]

/-- The CAN registers. -/
def blockCAN : RegBlock := ⟨0x300d0000, 0x1000, 4, rowsCAN0 ++ rowsCAN1⟩

def rowsHST0 : List RegRow := [
  ⟨0x0, [], 0x0, [fd 3 3 .rw, fd 2 0 .rw]⟩,
  ⟨0x4, [], 0x0, [fd 31 16 .ro, fd 15 0 .ro]⟩,
  ⟨0x10, [⟨0x10, 0, 2⟩], 0x0, [fd 31 24 .ro, fd 23 16 .ro, fd 15 11 .ro, fd 4 0 .ro]⟩,
  ⟨0x14, [⟨0x10, 0, 2⟩], 0x0, [fd 31 24 .ro, fd 23 16 .ro, fd 15 0 .ro]⟩,
  ⟨0x18, [⟨0x10, 0, 2⟩], 0x401fffff, [fd 31 30 .rw, fd 20 0 .rw]⟩,
  ⟨0x100, [⟨0x4, 0, 9⟩], 0x0, [fk 31 30 .rw 2, fd 29 29 .ro, fc 15 0 .rw 1 65535]⟩,
  ⟨0x200, [⟨0x20, 0, 1⟩], 0x0, [fd 31 0 .ro]⟩,
  ⟨0x204, [⟨0x20, 0, 1⟩], 0x0, [fd 15 0 .ro]⟩,
  ⟨0x208, [⟨0x20, 0, 1⟩], 0x0, [fd 29 0 .ro]⟩,
  ⟨0x20c, [⟨0x20, 0, 1⟩], 0x0, [fd 31 0 .rw]⟩,
  ⟨0x210, [⟨0x20, 0, 1⟩], 0x0, [fd 31 0 .wo]⟩,
  ⟨0x214, [⟨0x20, 0, 1⟩], 0x0, [fd 31 16 .rw, fd 15 0 .rw]⟩]

/-- The HST registers. -/
def blockHST : RegBlock := ⟨0x300f0000, 0x0, 1, rowsHST0⟩

def rowsERR0 : List RegRow := [
  ⟨0x0, [], 0x0, [fd 20 0 .rw]⟩,
  ⟨0x4, [], 0x0, [fd 31 0 .ro]⟩,
  ⟨0x40, [⟨0x40, 0, 1⟩], 0x0, [fd 31 31 .ro, fd 17 16 .ro, fd 15 0 .ro]⟩,
  ⟨0x44, [⟨0x40, 0, 1⟩], 0x0, [fd 0 0 .wo]⟩,
  ⟨0x48, [⟨0x40, 0, 1⟩], 0x0, [fd 31 24 .ro, fd 23 20 .ro, fd 19 16 .ro, fd 15 15 .ro, fd 14 0 .ro]⟩,
  ⟨0x50, [⟨0x40, 0, 1⟩, ⟨0x4, 0, 11⟩], 0x0, [fd 31 0 .ro]⟩,
  ⟨0x100, [], 0x0, [fd 31 16 .rw, fd 15 14 .rw]⟩,
  ⟨0x104, [⟨0x4, 0, 7⟩], 0x0, [fd 31 0 .rw]⟩,
  ⟨0x124, [], 0x0, [fd 0 0 .wo]⟩]

/-- The ERR registers. -/
def blockERR : RegBlock := ⟨0x30120000, 0x0, 1, rowsERR0⟩

def rowsMEM0 : List RegRow := [
  ⟨0x0, [], 0x0, [fd 31 16 .ro, fd 15 0 .ro]⟩,
  ⟨0x4, [], 0x0, [fd 31 0 .ro]⟩,
  ⟨0x8, [], 0x100, [fz 15 0 .rw 16]⟩,
  ⟨0x10, [], 0x0, [fd 31 31 .ro, fd 30 30 .sc, fd 8 8 .rw, fd 2 0 .ro]⟩,
  ⟨0x20, [], 0x0, [fd 31 28 .wo]⟩,
  ⟨0x24, [], 0x0, [fd 27 0 .rw]⟩,
  ⟨0x28, [], 0x0, [fd 31 0 .rw]⟩,
  ⟨0x2c, [], 0x0, [fd 31 31 .ro, fd 15 0 .ro]⟩,
  ⟨0x100, [], 0x0, [fd 31 0 .wo]⟩,
  ⟨0x104, [], 0x0, [fd 31 0 .wo]⟩,
  ⟨0x108, [], 0x0, [fd 31 0 .ro]⟩,
  ⟨0x10c, [], 0x0, [fd 7 0 .rw]⟩]

def rowsMEM1 : List RegRow := [
  ⟨0x110, [], 0x0, [fd 31 31 .ro, fd 20 16 .ro, fd 15 0 .ro]⟩,
  ⟨0x114, [], 0x0, [fd 31 0 .ro]⟩,
  ⟨0x200, [⟨0x20, 0, 31⟩], 0x0, [fd 31 0 .rwl]⟩,
  ⟨0x204, [⟨0x20, 0, 31⟩], 0x0, [fd 31 31 .rwl, fd 30 30 .rwl, fd 29 29 .rwl, fk 25 24 .rwl 2, fd 22 20 .rwl, fd 19 18 .rwl]⟩,
  ⟨0x208, [⟨0x20, 0, 31⟩], 0xa, [fc 23 0 .rwl 10 16777215]⟩,
  ⟨0x20c, [⟨0x20, 0, 31⟩], 0x0, [fd 31 0 .rwl]⟩,
  ⟨0x210, [⟨0x20, 0, 31⟩], 0x0, [fd 31 0 .rwl]⟩,
  ⟨0x214, [⟨0x20, 0, 31⟩], 0x0, [fd 31 0 .rw]⟩,
  ⟨0x218, [⟨0x20, 0, 31⟩], 0x0, [fd 31 0 .ro]⟩,
  ⟨0x21c, [⟨0x20, 0, 31⟩], 0x0, [fd 31 16 .ro, fd 2 2 .w1c, fd 1 1 .ro, fd 0 0 .ro]⟩]

/-- The MEM registers. -/
def blockMEM : RegBlock := ⟨0x30100000, 0x0, 1, rowsMEM0 ++ rowsMEM1⟩

def rowsIMG0 : List RegRow := [
  ⟨0x0, [], 0x0, [fd 31 30 .ro, fd 29 29 .ro, fd 28 27 .ro, fd 26 24 .ro, fd 23 23 .ro, fd 22 22 .ro, fd 21 21 .ro, fd 15 0 .ro]⟩,
  ⟨0x4, [], 0x0, [fd 1 1 .sc, fd 0 0 .sc]⟩,
  ⟨0x8, [], 0x0, [fd 31 0 .ro]⟩,
  ⟨0xc, [], 0x0, [fd 23 16 .ro, fd 7 0 .ro]⟩,
  ⟨0x10, [], 0x0, [fd 31 31 .ro, fd 30 28 .ro, fd 27 24 .ro, fd 23 16 .ro, fd 15 0 .ro]⟩,
  ⟨0x14, [], 0x0, [fd 31 16 .ro, fd 15 0 .ro]⟩,
  ⟨0x100, [], 0x3, [fd 2 0 .rw]⟩,
  ⟨0x104, [], 0x0, [fd 31 31 .ro, fd 15 0 .ro]⟩,
  ⟨0x108, [], 0x0, [fd 9 0 .rw]⟩,
  ⟨0x10c, [], 0x0, [fd 9 0 .ro]⟩,
  ⟨0x110, [⟨0x4, 0, 11⟩], 0x0, [fd 31 0 .ro]⟩,
  ⟨0x140, [⟨0x4, 0, 5⟩], 0x0, [fd 31 27 .ro, fd 15 0 .tw]⟩]

def rowsIMG1 : List RegRow := [
  ⟨0x158, [], 0x0, [fd 31 28 .ro, fd 23 0 .tw]⟩,
  ⟨0x15c, [], 0x0, [fd 31 26 .ro, fd 24 16 .ro, fd 12 8 .ro, fd 6 0 .ro]⟩,
  ⟨0x160, [], 0x0, [fd 3 2 .ro, fd 1 0 .tw]⟩,
  ⟨0x164, [], 0x0, [fd 31 28 .tw, fd 9 8 .rw, fd 7 0 .ro]⟩,
  ⟨0x170, [⟨0x4, 0, 11⟩], 0x0, [fd 31 0 .rw]⟩]

/-- The IMG registers. -/
def blockIMG : RegBlock := ⟨0x30110000, 0x0, 1, rowsIMG0 ++ rowsIMG1⟩

def rowsSYS0 : List RegRow := [
  ⟨0x0, [], 0x1, [fd 8 8 .w1c, fd 7 7 .w1c, fd 6 6 .w1c, fd 5 5 .w1c, fd 4 4 .w1c, fd 3 3 .w1c, fd 2 2 .w1c, fd 1 1 .w1c, fd 0 0 .w1c]⟩,
  ⟨0x4, [], 0x0, [fd 31 24 .wo, fd 7 0 .wo]⟩,
  ⟨0x8, [], 0x64, [fd 31 31 .w1s, fd 23 16 .rw, fc 15 0 .rw 1 65535]⟩,
  ⟨0xc, [], 0x0, [fd 7 0 .wo]⟩,
  ⟨0x10, [], 0x0, [fd 7 7 .w1c, fd 6 6 .w1c, fd 5 5 .w1c, fd 4 4 .w1c, fd 3 3 .ro, fd 2 2 .ro, fd 1 1 .ro, fd 0 0 .ro]⟩,
  ⟨0x14, [], 0xfa, [fc 15 0 .rw 20 1000]⟩,
  ⟨0x18, [], 0x0, [fd 31 31 .ro, fd 7 0 .ro]⟩]

/-- The SYS registers. -/
def blockSYS : RegBlock := ⟨0x30000000, 0x0, 1, rowsSYS0⟩

def rowsTHM0 : List RegRow := [
  ⟨0x0, [], 0x0, [fd 31 16 .ro, fd 15 0 .ro]⟩,
  ⟨0x4, [], 0x0, [fd 31 31 .ro, fd 30 30 .ro, fd 29 29 .ro, fd 23 18 .ro, fd 17 12 .ro, fd 11 0 .ro]⟩,
  ⟨0x8, [], 0x0, [fd 31 28 .wo, fd 11 0 .wo]⟩,
  ⟨0xc, [], 0x8, [fc 15 0 .rw 1 65535]⟩,
  ⟨0x40, [⟨0x4, 0, 11⟩], 0x0, [fd 31 31 .ro, fd 30 30 .ro, fd 29 29 .ro, fd 15 0 .ro]⟩,
  ⟨0x80, [⟨0x4, 0, 11⟩], 0x0, [fd 15 0 .rw]⟩,
  ⟨0xc0, [⟨0x4, 0, 11⟩], 0x0, [fd 15 0 .ro]⟩,
  ⟨0x100, [⟨0x10, 0, 7⟩], 0x0, [fd 31 31 .rw, fd 30 30 .rwl, fd 29 28 .rwl]⟩,
  ⟨0x104, [⟨0x10, 0, 7⟩], 0xd6b03e8, [fd 31 16 .rwl, fd 15 0 .rwl]⟩,
  ⟨0x108, [⟨0x10, 0, 7⟩], 0x0, [fd 31 31 .ro, fd 15 0 .ro]⟩,
  ⟨0x200, [⟨0x10, 0, 5⟩], 0x4000, [fd 31 31 .rwl, fd 18 16 .rwl, fd 15 0 .rwl]⟩,
  ⟨0x204, [⟨0x10, 0, 5⟩], 0x0, [fd 31 16 .rwl, fd 15 0 .rwl]⟩]

def rowsTHM1 : List RegRow := [
  ⟨0x208, [⟨0x10, 0, 5⟩], 0x80008000, [fd 31 16 .ro, fd 15 0 .ro]⟩]

/-- The THM registers. -/
def blockTHM : RegBlock := ⟨0x30010000, 0x0, 1, rowsTHM0 ++ rowsTHM1⟩

/-- Every register block. -/
def regBlocks : List RegBlock :=
  [blockSYSIRQ, blockTB, blockCE, blockPWM, blockTRP, blockMEA,
   blockPOS, blockAUX, blockCMU, blockSTP, blockDCL, blockDRG,
   blockSYSSAF, blockSAF, blockCAN, blockHST, blockERR, blockMEM,
   blockIMG, blockSYS, blockTHM]

end Sys2Proof.Machine
end

