-- ==== Sys2Proof/Machine/State.lean ====
section
/-! DEFINITION. Machine/State.lean: the state of the device, as plain data. Registers and memories are sparse lists in one
canonical form (keys strictly rising, no entry equal to what an unlisted key reads as); everything else that the spec gives the
device is held in records, one for each unit. A device state `Dev` is everything but the queue of waiting commands. -/

namespace Sys2Proof.Machine

/-- The reasons for a fault. No command of the spec's table stops the device, so none is raised (log 3). -/
inductive Fault where
  /-- Raised by no meaning: the device answers a bad access with a bus error (R34) and goes on. Safe. -/
  | none
  deriving DecidableEq, Repr

/-- The reasons for a refusal. -/
inductive Refusal where
  /-- Raised by an arm of `exec` whose command has no meaning yet. Safe: the run ends. -/
  | notModelled (mnemonic : String)
  deriving DecidableEq, Repr

/-! ## Error manager (R440 to R444) -/

/-- An error record (R440): its words are made of these fields. `origin` is 0 block hardware, 1 and 2 the firmware of a
core, 3 the safety island. -/
structure ErrRec where
  seq    : Nat
  rt     : Nat
  code   : Nat
  sev    : Nat
  dom    : Nat
  origin : Nat
  ctx    : List Nat
  deriving DecidableEq, Repr

/-- The overflow slot of a domain (R443): `age` is the place in the order of records that the first loss took. -/
structure ErrOvf where
  age   : Nat
  rt    : Nat
  sev   : Nat
  lost  : Nat
  first : Nat
  last  : Nat
  perSev : List Nat
  deriving DecidableEq, Repr

/-- One handling domain (R441, R442): its queue, oldest first; its handling stack, top first; its overflow slot; the losses
counted; the word that the last claim returned. -/
structure ErrDom where
  queue    : List ErrRec := []
  handling : List ErrRec := []
  ovf      : Option ErrOvf := none
  lost     : Nat := 0
  claim    : Nat := 0
  deriving DecidableEq, Repr

/-! ## Host ports (R423 to R431) -/

/-- A host frame (R428): a queued command or an outbound reply or event. `addr` is where a command came from and where an outbound frame
goes: 0 on HSPI, an address and port on Ethernet (R426), the node of a command that came over the ring (R429). -/
structure HostFrame where
  kind    : Nat
  node    : Nat
  remote  : Bool
  tag     : Nat
  code    : Nat
  payload : List Nat
  oseq    : Nat
  addr    : Nat
  deriving DecidableEq, Repr

/-- A datagram in reassembly on an Ethernet port (R426): its identifier, its bytes by offset, and its length once the last fragment
has come. -/
structure IpFrag where
  id   : Nat
  got  : List (Nat × List Nat)
  len  : Option Nat
  deriving DecidableEq, Repr

/-- One host port beside its registers (R423): the commands queued; the frames outbound; the TAGs outstanding with their sources;
the events lost since the last HST_EVT_LOST event; the outbound count; LAST_BAD; whether the link is up; where events go; the
datagrams in reassembly. -/
structure HostPort where
  inq      : List HostFrame := []
  outq     : List HostFrame := []
  pend     : List (Nat × Nat) := []
  lostNow  : Nat := 0
  oseq     : Nat := 0
  lastBad  : Bool := false
  linkUp   : Bool := true
  evtDest  : Nat := 0
  frags    : List IpFrag := []
  deriving DecidableEq, Repr

/-- A command forwarded over the ring (R429): the port, the TAG and source it came with, and its node. -/
structure Forward where
  port : Nat
  tag  : Nat
  addr : Nat
  node : Nat
  deriving DecidableEq, Repr

/-- A proposal that awaits a decision (R432): its function, unit and proposed code, the mode and deadline it was made
with, and the tick it was set in. -/
structure Proposal where
  func     : Nat
  unit     : Nat
  code     : Nat
  mode     : Nat
  deadline : Nat
  since    : Nat
  deriving DecidableEq, Repr

/-- What became of the last proposal of a function and unit (R434): the code applied and who decided it (0 the deadline,
p + 1 port p). -/
structure Decided where
  func : Nat
  unit : Nat
  code : Nat
  by_  : Nat
  deriving DecidableEq, Repr

/-- A restart that firmware has carried out (R438): the unit and the tick. -/
structure Restart where
  kind : Nat
  inst : Nat
  tick : Nat
  deriving DecidableEq, Repr

/-- An identification run in progress (R439): where its reply goes, its context, generator and run length. -/
structure TuneRun where
  port : Nat
  tag  : Nat
  addr : Nat
  ctx  : Nat
  gen  : Nat
  len  : Nat
  deriving DecidableEq, Repr

/-- A get-home setting of a channel (R233). -/
structure GetHome where
  en    : Bool
  foc   : Nat
  spd   : Nat
  ghFoc : Nat
  ghSpd : Nat
  deriving DecidableEq, Repr

/-- A MAC's PTP clock (R427): seconds and ns, the fraction in 2^-40 ns; the stamps of the last frame received and the last one sent, in
RT64 and in PTP ns, corrected for the PHY's latency. Its snapshots are registers. -/
structure PtpClock where
  sec  : Nat := 0
  ns   : Nat := 0
  frac : Nat := 0
  rxRt : Nat := 0
  rxNs : Int := 0
  txRt : Nat := 0
  txNs : Int := 0
  deriving DecidableEq, Repr

/-- A library status word as firmware last read it, and the context's image (R216). -/
structure LibSeen where
  ctx  : Nat
  img  : LibImage
  word : Nat
  deriving DecidableEq, Repr

/-- The host block and the firmware's host functions. `ringIn` holds the commands that came over the ring; `restarts` the restarts
carried out, and `faults` the units that await one with the channels that were armed before the fault (R438); `events` the records handled and not yet sent, `retained` those
that ERR_LOG returns (R430); `libs` the library status words last read; `ceWait` where the reply of a CE command goes that is under way,
`safWait` where that of an island message goes, with its header (R430). -/
structure Hst where
  ports     : List HostPort := List.replicate 3 {}
  ringIn    : List HostFrame := []
  fwd       : List Forward := []
  proposals : List Proposal := []
  decided   : List Decided := []
  restarts  : List Restart := []
  faults    : List (Nat × Nat) := []
  tunes     : List TuneRun := []
  getHome   : List GetHome := List.replicate 6 ⟨false, 0, 0, 0, 0⟩
  ptp       : List PtpClock := List.replicate 2 {}
  events    : List ErrRec := []
  retained  : List ErrRec := []
  libs      : List LibSeen := []
  ceWait    : Option (Nat × Nat × Nat) := none
  safWait   : Option (Nat × Nat × Nat × Nat) := none
  deriving DecidableEq, Repr


/-! ## Supervisor, clocks, resets (chapters Device Organisation; Thermal, Clocks, Resets and Start-Up) -/

/-- Whether the device runs (R40): in reset, absent (no running confirmed image) or with a running image. -/
inductive RunState where
  | inReset | absent | running
  deriving DecidableEq, Repr


/-- The system block. -/
structure Sys where
  run        : RunState := .absent
  porstLow   : Bool := false
  rstLow     : Bool := false
  bootMode   : Nat := 0
  suppliesLost : List Supply := []
  claimed    : List (Nat × Nat) := []
  d2dBad     : Nat := 0
  d2dGood    : Nat := 0
  d2dLost    : Bool := false
  d2dErrs    : Nat := 0
  wdtLast    : Nat := 0
  wdtBarked  : Bool := false
  absentFrom : Option Nat := none
  absentCause : Nat := 0
  svhDone    : Bool := false
  fclkLost   : Option Nat := none
  clkRecs    : List (Nat × Nat) := []
  pinMap     : Nat := 0x3FFFFF
  deriving DecidableEq, Repr

/-- The thermal unit: per sensor the deviation count (R483), the count of readings at 140 °C (R487) and at 150 °C, the last
maxima of each die (R481), and per channel the state of its factor (R484, R485). Temperatures are in 1/16 °C. -/
structure Therm where
  dev      : List Nat := List.replicate 12 0
  hot      : List Nat := List.replicate 12 0
  hot150   : List Nat := List.replicate 12 0
  hvHold   : Bool := false
  maxCd    : List Int := []
  maxHv    : List Int := []
  fExt     : List Nat := List.replicate 6 0x8000
  restoring : List Bool := List.replicate 6 false
  derated  : List Bool := List.replicate 6 false
  tinHard  : List Bool := List.replicate 6 false
  tinLast  : List Nat := List.replicate 8 0
  hasRead  : List Bool := List.replicate 12 false
  latchCtx : List Nat := []
  deriving DecidableEq, Repr

/-! ## Time base (chapter Time, Wheels and Bells) -/

/-- A wheel (R50 to R58). Positions are in 2^-40 turns, speeds in 2^-40 turns per tick. `anchorP` is in 2^-45 turns, so that
R55 is exact. `samples` holds the source samples since the start, newest first, as (RT64, position). -/
structure Wheel where
  pos      : Int := 0
  prev     : Int := 0
  spd      : Int := 0
  ofs      : Int := 0
  anchorP  : Int := 0
  anchorR  : Nat := 0
  placed   : Bool := false
  samples  : List (Int × Int) := []
  lastUpd  : Nat := 0
  skip     : Bool := false
  presetDue : Bool := false
  spdDue   : Option Int := none
  deriving DecidableEq, Repr

/-- A Bell entry in use (R60): its index and generation, its five words, its kind (0 posted here, 1 received over the ring,
2 the posting entry of a ring Bell), the tick it was due in when the limit of eight moved it on (R62), the origin node and handle of
a ring Bell, and the answers of its targets (R348). -/
structure Bell where
  idx  : Nat
  gen  : Nat
  w0   : Nat
  w1   : Nat
  w2   : Nat
  w3   : Nat
  w4   : Nat
  kind : Nat
  carried : Option Nat
  org  : Nat
  orgH : Nat
  ack  : Nat
  nak  : Nat
  deriving DecidableEq, Repr

/-- A post or a cancel under decision on a core (R66): `cancel` is the handle of a cancel, `words` the entry submitted. -/
structure BellReq where
  core   : Nat
  cancel : Option Nat
  words : List Nat
  deriving DecidableEq, Repr

/-- The time base. -/
structure Tb where
  rt       : Nat := 0
  lastInc  : Nat := 32
  sinceSlew : Nat := 256
  slew     : Int := 0
  halted   : Bool := false
  goodCyc  : Nat := 0
  missCyc  : Nat := 0
  admitted : Bool := false
  ptpOn    : Bool := false
  wheels   : List Wheel := List.replicate 16 {}
  bells    : List Bell := []
  gens     : List Nat := List.replicate 256 0
  reqs     : List BellReq := []
  launched : Nat := 0
  carry    : List Nat := []
  goPins   : Nat := 0
  goBell   : Nat := 0
  lateRead : Nat := 0
  deriving DecidableEq, Repr

/-! ## Memory, recorder, images, tally (chapter Memory, Recorder, Images and Tally) -/

/-- The protected SRAM regions of R449. -/
inductive EccRegion where
  | supervisor | shared | scheduler | contextTable | pattern | can
  deriving DecidableEq, Repr

/-- A flash operation in progress (R453): its code and offset. -/
structure FlashOp where
  op  : Nat
  ofs : Nat
  deriving DecidableEq, Repr

/-- A recorder stream (R454 to R457) beside its registers. -/
structure Stream where
  last   : Option Nat := none
  post   : Nat := 0
  fasted : Bool := false
  rate   : Nat := 0
  deriving DecidableEq, Repr

/-- The memory controllers and the recorder. -/
structure Mem where
  scrub    : List Nat := List.replicate 6 0
  badWords : List Nat := []
  training : Bool := false
  flashOp  : Option FlashOp := none
  ospiRead : Bool := true
  streams  : List Stream := List.replicate 32 {}
  deriving DecidableEq, Repr

/-- The update session (R462 to R465): its source (0 to 2 a port, 3 the ring with its node), its length, the offsets written, the
sectors erased, whether it is verified since its last block, and the tick of its last accepted command. -/
structure Session where
  src     : Nat
  node    : Nat
  total   : Nat
  blocks  : List Nat
  erased  : List Nat
  verified : Bool
  last    : Nat
  deriving DecidableEq, Repr

/-- What the image block holds: the session and its number; the boot-state record in force (R459): PHASE, TRIAL_CNT, its flags and
PEND_SVN; the boot outcome: slot (0 ACTIVE, 1 FALLBACK, 2 recovery), trial, FALLBACK restored, the code of the last failed verification;
version, SVN and settings formats of the running image; whether a copy of R466 is under way; a CONFIRM that waits for the window;
whether records of other settings formats are marked for erasure (R470); the records that firmware raises once it runs (R466). -/
structure Img where
  session  : Option Session := none
  number   : Nat := 0
  phase    : Nat := 0
  trialCnt : Nat := 0
  stagingBad : Bool := false
  reject   : Bool := false
  deferred : Bool := false
  pendSvn  : Nat := 0
  booted   : Nat := 0
  trial    : Bool := false
  restored : Bool := false
  vcode    : Nat := 0
  ver      : Nat := 0
  svn      : Nat := 0
  drive    : Nat := 0
  safety   : Nat := 0
  copying  : Bool := false
  confirmWait : Bool := false
  recovery : Bool := false
  fmtDrop  : Bool := false
  recs     : List (Nat × List Nat) := []
  deriving DecidableEq, Repr

/-- A tally programming that runs or waits (R474): the entry, the operation (0 program, 1 revoke), the new value's bytes and
the source for the log. -/
structure TlyOp where
  entry : Nat
  op    : Nat
  value : List Nat
  src   : Nat
  deriving DecidableEq, Repr

/-- A tally entry (R473): its value's bytes, whether it is blank, the changes left; for a key slot `state` is 0 blank,
1 valid, 2 revoked. -/
structure TlyEntry where
  value : List Nat
  blank : Bool
  left  : Nat
  state : Nat
  deriving DecidableEq, Repr

/-- The tally: entries 0 to 15, the log records' bytes, the programming under way. -/
structure Tly where
  entries : List TlyEntry
  log     : List (List Nat)
  ops     : List TlyOp
  statRead : Bool
  keyStage : List Nat
  deriving DecidableEq, Repr

/-! ## Control engine array (chapters Control Engine Array; Conath Instruction Set) -/

/-- A register of an engine that a result lands in. -/
inductive Dest where
  | g (n : Nat) | a (n : Nat) | x (n : Nat) | m (n : Nat)
  deriving DecidableEq, Repr

/-- An accumulator result that is formed from the accumulators as they stand in the cycle after issue (R112): the sum of
`ka` times A′(a), `kb` times A′(b) and `prod`, shifted left by `sh` (right when negative). -/
structure AccCalc where
  dst  : Nat
  a    : Nat
  ka   : Int
  b    : Nat
  kb   : Int
  prod : Int
  sh   : Int
  sets : Bool
  setsV : Bool
  sat  : Bool
  deriving DecidableEq, Repr

/-- The results of one issued instruction in flight (R111): the cycle they land in, the plain register writes, the
accumulator results, N Z V where the instruction sets them (`none` leaves one), the sticky bits SAT OVF DZ (bits 0, 1, 2)
that it sets and those that CLRF clears. -/
structure Flight where
  land  : Nat
  regs  : List (Dest × Nat)
  accs  : List AccCalc
  flN   : Option Bool
  flZ   : Option Bool
  flV   : Option Bool
  set   : Nat
  clr   : Nat
  out   : Option (Nat × Nat)
  deriving DecidableEq, Repr

/-- A hardware loop in progress (R131). -/
structure Loop where
  start : Nat
  stop  : Nat
  left  : Nat
  deriving DecidableEq, Repr

/-- A run that waits in an engine's queue (R81). -/
structure QRun where
  prio : Nat
  ctx  : Nat
  deriving DecidableEq, Repr

/-- An engine (R106): its registers, its pipeline, the run it carries out and its queue. Sticky bits of the run are held
as those that CLRF cleared and those set after (R115). -/
structure Eng where
  g      : List Nat := List.replicate 16 0
  a      : List Int := List.replicate 4 0
  x      : List Nat := List.replicate 8 0
  m      : List Nat := List.replicate 4 0
  n      : Bool := false
  z      : Bool := false
  v      : Bool := false
  sticky : Nat := 0
  clrd   : Nat := 0
  setd   : Nat := 0
  pc     : Nat := 0
  loops  : List Loop := []
  rets   : List Nat := []
  slots  : Nat := 0
  target : Nat := 0
  flight : List Flight := []
  cyc    : Nat := 0
  ended  : Option Nat := none
  run    : Option Nat := none
  outs   : List (Option Nat) := List.replicate 32 none
  viol   : Bool := false
  queue  : List QRun := []
  lastEnd : Option Nat := none
  sigDue : Nat := 0
  deriving DecidableEq, Repr

/-- The input buffer that a trigger fills (R80, R128). -/
structure Snap where
  ins  : List Nat := List.replicate 64 0
  wpos : List Nat := List.replicate 16 0
  wtrn : List Nat := List.replicate 16 0
  wspd : List Nat := List.replicate 16 0
  t0   : Nat := 0
  bank : Nat := 0
  x6   : Nat := 0
  x7   : Nat := 0
  deriving DecidableEq, Repr

/-- Where a context's run of the present cycle stands: none, in its engine's queue, or running. -/
inductive RunPhase where
  | idle | queued | running
  deriving DecidableEq, Repr

/-- What a run does at its output write: as usual, discarded (the outgoing context of a handover run, R91), or written for a
handover from the outgoing context named. -/
inductive Role where
  | normal | discard | incoming (outgoing : Nat)
  deriving DecidableEq, Repr

/-- A context beside its registers: the tick of its last accepted trigger; tick and RT64 of its last run's trigger; where that run
stands, its role and whether it was LATE; its input buffer; its output latch, with the trigger tick of the run that it holds while
the output write is due; the OUT values of its own last run and of its live context's (R90); its class-0x3 input ports; a handover
armed to another context; a STOP, or a stop after HELD (R497), that awaits the output write; the bank before a BANK command and the
tick of that command (R87); whether a warm copy stands on the spare; the state it had before it became MIGRATING; whether it was
moved to the spare; whether an evacuation awaits its output write. -/
structure Ctx where
  lastTrig : Option Nat := none
  t0       : Nat := 0
  t0rt     : Nat := 0
  phase    : RunPhase := .idle
  role     : Role := .normal
  late     : Bool := false
  snap     : Snap := {}
  outDue   : Option Nat := none
  latch    : List (Option Nat) := List.replicate 32 none
  cmpOwn   : Option (List (Option Nat)) := none
  cmpLive  : Option (List (Option Nat)) := none
  inPorts  : List (Nat × Nat) := []
  handover : Option Nat := none
  stopReq  : Bool := false
  holdStop : Bool := false
  bankWas  : Option (Nat × Nat) := none
  warm     : Bool := false
  migFrom  : Nat := 0
  moved    : Bool := false
  evac     : Bool := false
  deriving DecidableEq, Repr

/-- A CE command that keeps BUSY at 1 (R85). -/
structure CeBusy where
  op  : Nat
  eng : Nat
  ctx : Nat
  result : Nat
  deriving DecidableEq, Repr

/-- A migration (R94 to R97): its engine, whether it waits for a decision, the contexts moved and lost, and the contexts
that the spare dropped. -/
structure Migration where
  eng      : Nat
  waiting  : Bool
  todo     : List Nat
  moved    : Nat
  lost     : Nat
  dropped  : List Nat
  deriving DecidableEq, Repr

/-- A generator (R101): the sample number, the phase in 2^-24 turns, the sign of the present PRBS bit, whether its start awaits a
run of its context. -/
structure Gen where
  k     : Nat := 0
  phase : Nat := 0
  prbs  : Nat := 0
  wait  : Bool := true
  deriving DecidableEq, Repr

/-- A residual checker (R102, R148): the prediction of the previous evaluated write and the consecutive count. -/
structure ResChk where
  pred  : Option Int := none
  count : Nat := 0
  deriving DecidableEq, Repr

/-- The engine array: engine memories are words keyed by engine × 8,192 + address (program, 48 bits) and
engine × 32,768 + address (data, 24 bits). -/
structure Ce where
  engs   : List Eng := List.replicate 12 {}
  ctxs   : List Ctx := List.replicate 256 {}
  pm     : List (Nat × BitVec 48) := []
  dm     : List (Nat × BitVec 24) := []
  busy   : Option CeBusy := none
  mig    : Option Migration := none
  gens   : List Gen := List.replicate 4 {}
  res    : List ResChk := List.replicate 32 {}
  resultRead : Bool := true
  deriving DecidableEq, Repr

/-! ## Pulse generation and trips (chapter Pulse Generation and Trips) -/

/-- A PWM leg beside its registers: the carrier's H and L requests (`car`, `carL`), the pattern's H request, the requests after
masks and interlock, the outputs that are on, the compares in force in this period after the minimum-pulse policy (R153), and the
fine part of the last H-off edge (R151). -/
structure Leg where
  car  : Bool := false
  carL : Bool := true
  pat  : Bool := false
  reqH : Bool := false
  reqL : Bool := false
  onH  : Bool := false
  onL  : Bool := false
  eff  : Nat := 0
  effL : Nat := 0
  fine : Nat := 0
  deriving DecidableEq, Repr

/-- An NPC phase (R156): its state and the state requested (0 OFF, 1 P, 2 O, 3 N), the tick until which O is held between P
and N, the tick in which a mask takes T2 and T3 off (R162), and the tick at which a trip's stage ends (R172). -/
structure Phase where
  st     : Nat := 0
  tgt    : Nat := 0
  oUntil : Option Nat := none
  offAt  : Option Nat := none
  stage  : Option Nat := none
  deriving DecidableEq, Repr

/-- A PWM channel beside its registers: legs, phases, the length of the present period (R73), whether a compare shadow was
written since the last transfer (R160), a trip since the arming write (R169), the armed mode change (mode, table), the table
in use, the table under validation (R164), and the trim of its fine-edge lines (R151). -/
structure PwmCh where
  legs    : List Leg := List.replicate 6 {}
  phases  : List Phase := List.replicate 3 {}
  len     : Nat := 256
  cmpWr   : Bool := false
  armTrip : Bool := false
  pend    : Option (Nat × Nat) := none
  tbl     : Nat := 0
  chk     : Option Nat := none
  trim    : Nat := 0
  deriving DecidableEq, Repr

/-- A forcing condition of R173 or R174 that persists: the channel, the ARM_WHY code, and what causes it (a context, an
engine; 0 where there is one cause only). -/
structure ForceCond where
  ch   : Nat
  why  : Nat
  inst : Nat
  deriving DecidableEq, Repr

/-- The PWM channels and the trip matrix: the forcing conditions that persist, the masks that the commutators issued last, the
tick in which each trip source was last qualified (`none`: never), and the tick in which each latch was set. -/
structure Pwm where
  chs      : List PwmCh := List.replicate 6 {}
  conds    : List ForceCond := []
  cmuMask  : List Nat := [0, 0]
  lastQual : List (Option Nat) := List.replicate 96 none
  latchAt  : List Nat := List.replicate 8 0
  hrLine   : Nat := 0
  deriving DecidableEq, Repr

/-! ## Auxiliary half-bridges, commutators, step axes -/

/-- A half-bridge beside its registers (R239 to R252): the high request; the commanded outputs; the ticks in which an output
that is requested comes on (after its dead time), and those in which each went off; HO cut by the current limit until its next
rise and LO cut until the next boundary; the compare and the committed low-side on-time of this period; whether the owner's
request is in force (from the first boundary); bootstrap state: UVLO qualified, the tick from which a boundary may refresh, the
refresh pulse's ticks, a check due at the next boundary, periods since the first UVLO; a leakage test in progress. -/
structure Hb where
  want   : Bool := false
  ho     : Bool := false
  lo     : Bool := false
  hoAt   : Option Nat := none
  loAt   : Option Nat := none
  hoOff  : Nat := 0
  loOff  : Nat := 0
  cut    : Bool := false
  loCut  : Bool := false
  cmp    : Nat := 0
  lowT   : Nat := 0
  live   : Bool := false
  uv     : Bool := false
  rfDue  : Option Nat := none
  rfOn   : Option Nat := none
  rfOff  : Option Nat := none
  check  : Bool := false
  uvPer  : Option Nat := none
  leak   : Bool := false
  deriving DecidableEq, Repr

/-- A commutator beside its registers (R253 to R266): the chop duty in use; whether it ramps to CMU_DUTY; the current threshold
of the attempt and a host's replacement for it; the last recognised crossing and whether this sector had one; the crossings seen
in SENSE (tick, code 0 to 5 in the order of a forward sequence); the estimate (0 still, 1 forward, 2 reverse, 3 inconsistent);
the lock phase with its counts; what follows BRAKE (0 ALIGN, 1 IDLE) and whether WAIT raises ATTEMPT; the peak Low current of
ALIGN; the Low currents summed per phase with their counts and the commutations since (R263); the MAIN-mode limit in force. -/
structure Cmu where
  duty    : Nat := 0
  ramp    : Bool := false
  iA      : Nat := 0
  iOvr    : Nat := 0
  lastX   : Option Nat := none
  crossed : Bool := false
  seen    : List (Nat × Nat) := []
  est     : Nat := 0
  lock    : Bool := false
  lockCnt : Nat := 0
  secCnt  : Nat := 0
  toIdle  : Bool := false
  bump    : Bool := false
  dueAt   : Nat := 0
  retry   : Bool := false
  peak    : Int := 0
  sums    : List Int := [0, 0, 0]
  cnts    : List Nat := [0, 0, 0]
  comms   : Nat := 0
  cut     : Bool := false
  deriving DecidableEq, Repr

/-- A step axis beside its registers (R271 to R290). Position, speed and targets are in 2^-48 microsteps; `dir` is +1 or -1. -/
structure Axis where
  p      : Int := 0
  v      : Int := 0
  dir    : Int := 1
  g      : Int := 0
  gorg   : Int := 0
  wref   : Int := 0
  neg    : Bool := false
  scale  : Nat := 0x7FFFFF
  scaled : Bool := false
  hold   : Nat := 0
  lagf   : Int := 0
  upd    : Nat := 0
  stalls : Nat := 0
  sarAt  : Nat := 0
  sarAt2 : Nat := 0
  cur    : Nat := 0
  standby : Bool := false
  clamped : Bool := false
  theta  : Nat := 0
  duties : List Nat := [0, 0, 0, 0]
  stepTo : Option Nat := none
  pStart : Int := 0
  pEdge  : Option Int := none
  homeIn : Bool := false
  rev    : Bool := false
  decel  : Bool := false
  fail   : Nat := 0
  emg    : Bool := false
  deriving DecidableEq, Repr

/-- The auxiliary bridges, commutators and axes. -/
structure Aux where
  hbs   : List Hb := List.replicate 16 {}
  cmus  : List Cmu := List.replicate 2 {}
  axes  : List Axis := List.replicate 4 {}
  deriving DecidableEq, Repr

/-! ## Measurement and position inputs -/

/-- A sigma-delta input beside its registers (R182 to R186): the last bits, newest first; the sampling edges since the data last
changed; the edges since the first change while STUCK; the results of the last two edges (tick, control, protection); and the
consecutive edges with the comparator's active and inactive condition. -/
structure SdIn where
  hist : List Bool := []
  run  : Nat := 0
  chg  : Option Nat := none
  cur  : Nat × Int × Int := (0, 0, 0)
  prev : Nat × Int × Int := (0, 0, 0)
  outC : Nat := 0
  inC  : Nat := 0
  deriving DecidableEq, Repr

/-- A SAR channel beside its registers (R190 to R194): the last two valid conversions (RT64 of the instant, value), consecutive
codes out of and within limits, and INVALID by prediction. -/
structure SarCh where
  v1   : Option (Nat × Int) := none
  v2   : Option (Nat × Int) := none
  outC : Nat := 0
  inC  : Nat := 0
  predInv : Bool := false
  deriving DecidableEq, Repr

/-- An encoder beside its registers (R195, R196): the 48-bit count, the pin levels, RT64 of the last counted edge, whether an edge
came since the last wheel update, the count at the last Z edge, a CLR due in the next tick. -/
structure Enc where
  cnt   : Int := 0
  a     : Bool := false
  b     : Bool := false
  edge  : Nat := 0
  fresh : Bool := false
  zPrev : Option Int := none
  zDone : Bool := false
  clr   : Bool := false
  deriving DecidableEq, Repr

/-- A resolver beside its registers (R198): consecutive samples outside and well within the limits, and the last sample instant. -/
structure Rsv where
  bad  : Nat := 0
  good : Nat := 0
  at_  : Nat := 0
  deriving DecidableEq, Repr

/-- An SSI port beside its registers (R199, R200): a frame in progress with its start (RT64), the tick in which the last frame
ended, consecutive errors, and whether the last frame was in error. -/
structure Ssi where
  start : Option Nat := none
  at_   : Nat := 0
  ended : Option Nat := none
  errs  : Nat := 0
  last  : Bool := false
  deriving DecidableEq, Repr

/-- A pulse input beside its registers (R201): the tick of the last rising edge, and the edges that INVALID still needs. -/
structure Pls where
  rise : Option Nat := none
  need : Nat := 0
  deriving DecidableEq, Repr

/-- A capture unit beside its registers (R202): its FIFO, oldest first, and the latest capture. -/
structure Cap where
  fifo : List Nat := []
  last : Nat := 0
  deriving DecidableEq, Repr

/-- The measurement and position blocks: `seqs` holds the next entry of each sequence pending or running, `scan` the channels
queued for the background scan, `slots` the channel each converter converts with its sample instant (RT64). -/
structure Mea where
  sds   : List SdIn := List.replicate 48 {}
  sars  : List SarCh := List.replicate 40 {}
  seqs  : List (Option Nat) := List.replicate 8 none
  scan  : List Bool := List.replicate 40 false
  slots : List (Option (Nat × Nat)) := [none, none]
  encs  : List Enc := List.replicate 6 {}
  rsvs  : List Rsv := List.replicate 3 {}
  ssis  : List Ssi := List.replicate 4 {}
  plss  : List Pls := List.replicate 4 {}
  caps  : List Cap := List.replicate 8 {}
  deriving DecidableEq, Repr

/-! ## DC link, braking and power budget -/

/-- A DC-link monitor beside its registers (R294 to R301): consecutive edges at or above CH_ON, at or below CH_OFF, at or above
TRIP; the leg that is designated as its chopper leg; the tick in which the chopper command last changed. -/
structure DcMon where
  onC   : Nat := 0
  offC  : Nat := 0
  tripC : Nat := 0
  desig : Option Nat := none
  chgAt : Option Nat := none
  deriving DecidableEq, Repr

/-- A channel's part of the DCL beside its registers (R302 to R315): s_budget in 2^-23; the reference override's value while it
runs; whether torque removal is due (1 after T_BRK, 2 after TRIP_LEAD); the higher grant that awaits with its REASON and BY;
whether it was available in the last split, and whether a drop-out's weight is kept (ASSIST, HOST). -/
structure DcCh where
  sBud  : Nat := 2 ^ 23
  ovr   : Option Int := none
  drop  : Nat := 0
  want  : Option (Nat × Nat × Nat) := none
  avail : Bool := false
  keep  : Bool := false
  deriving DecidableEq, Repr

/-- A share group (R314): the torque that the leader wrote last, whether its split is due, and the torque that the last split
gave each member. -/
structure ShGrp where
  t   : Int := 0
  due : Bool := false
  w   : Int := 0
  deriving DecidableEq, Repr

/-- The DCL block. -/
structure Dcl where
  mons : List DcMon := List.replicate 4 {}
  chs  : List DcCh := List.replicate 6 {}
  grps : List ShGrp := List.replicate 4 {}
  deriving DecidableEq, Repr

/-! ## Duin ring -/

/-- What is known of a node of the ring: the 12 status bytes (R332) and the wheel blocks of its last share frame, and the cycles
with a Crier in a row in which its frame was missing. -/
structure RingNode where
  stat : List Nat := List.replicate 12 0
  whls : List (List Nat) := []
  miss : Nat := 0
  deriving DecidableEq, Repr

/-- A share frame held for the buffer of its cycle (R331). -/
structure ShareIn where
  src   : Nat
  cyc   : Nat
  stat  : List Nat
  whls  : List (List Nat)
  words : List Nat
  deriving DecidableEq, Repr

/-- A frame that this node sent in the present cycle: its TYPE (R327), whether first sent in direction B, its payload. -/
structure RingTx where
  typ     : Nat
  dirB    : Bool
  payload : List Nat
  deriving DecidableEq, Repr

/-- An own bulk message with the offset of its next fragment (R334). -/
structure BulkOut where
  chan  : Nat
  dest  : Nat
  bcast : Bool
  msg   : Nat
  ofs   : Nat
  data  : List Nat
  deriving DecidableEq, Repr

/-- A message in reassembly: the fragments by offset, and the cycle of the first one (R335). -/
structure BulkIn where
  src   : Nat
  chan  : Nat
  msg   : Nat
  mlen  : Nat
  cyc   : Nat
  bcast : Bool
  got   : List (Nat × List Nat)
  deriving DecidableEq, Repr

/-- The Duin ring unit beside its registers (R322 to R354). `words` holds the received words by 64 × node + word, `own` the words
written here, `froz` those frozen for the present cycle. `plan` is the plan in force, `next` the entries of the next one with its
version and start. `lastA`, `lastB` are the cycles of the last Criers with WRAP = 0, `gap` the cycles without any. `sending`: this
node sends Criers. -/
structure Drg where
  words   : List (Nat × Nat) := []
  own     : List Nat := List.replicate 64 0
  froz    : List Nat := List.replicate 64 0
  nodes   : List RingNode := List.replicate 16 {}
  inbox   : List ShareIn := []
  plan    : List Nat := List.replicate 16 0
  next    : List (Option Nat) := List.replicate 16 none
  nextVer : Nat := 0
  planAt  : Option Nat := none
  cyc     : Nat := 6250
  sending : Bool := false
  cycNow  : Nat := 0
  lastA   : Option Nat := none
  lastB   : Option Nat := none
  errA    : Int := 0
  errB    : Int := 0
  missA   : Nat := 0
  missB   : Nat := 0
  gap     : Nat := 0
  badCyc  : Nat := 0
  splits  : Nat := 0
  admitAt : Nat := 0
  handoff : Bool := false
  former  : Nat := 0
  lockRun : Nat := 0
  clashed : Bool := false
  leaveAt : Option Nat := none
  hops    : List Int := []
  askAt   : Option Nat := none
  ackIn   : Nat := 0
  nakIn   : Nat := 0
  bellNow : Option (Nat × Nat) := none
  bellWas : Option (Nat × Nat) := none
  tts     : List (List Nat) := []
  tx      : List RingTx := []
  bulkOut : List BulkOut := []
  bulkIn  : List BulkIn := []
  fwd     : List Nat := [0, 0]
  msgNo   : List Nat := [0, 0]
  incl    : Nat := 0
  kept    : Nat := 0
  down    : Nat := 0
  lsT     : Int := 0
  deriving DecidableEq, Repr


/-! ## CAN FD controllers -/

/-- A CAN controller beside its registers (R407 to R419): the object on the bus or next to go, chosen at the last arbitration start;
whether firmware aborts it; whether INIT takes effect at its end; whether bus-off recovery has begun; the object of the
consecutive self-detected bit errors and their count; the consecutive ACK errors. -/
structure CanCtl where
  cand  : Option Nat := none
  abort : Bool := false
  stop  : Bool := false
  recov : Bool := false
  clObj : Nat := 0
  clCnt : Nat := 0
  noack : Nat := 0
  deriving DecidableEq, Repr


/-! ## Safety island -/

/-- A channel of a safe input as a core filters it (R364): the level, active where true, and the frames in a row that differ. -/
structure SiFilt where
  lvl : Bool := false
  run : Nat := 0
  deriving DecidableEq, Repr

/-- A safe input as a core takes it (R365 to R367, R385): the levels of both channels at the last tick; the level that they last
agreed on; the tick t1 of a change that the second channel has not followed, and whether that change was judged; DISC and the common
safe tick; the ticks for which both read active. -/
structure SiIn where
  a      : Bool := false
  b      : Bool := false
  old    : Bool := false
  first  : Option Nat := none
  judged : Bool := false
  disc   : Bool := false
  common : Bool := false
  act    : Nat := 0
  deriving DecidableEq, Repr

/-- A channel's safety functions as a core evaluates them (R377 to R386). `st` is STATE; `t0` the tick in which the function carried
out began, with the speed `n0` and the position `p0` of that tick; `bad`, `still` count ticks in a row in violation and at standstill.
`lat` holds the functions demanded and not ended, `src` those with a source that reads safe, by the numbers of IN_FUNC; `vio` those
whose violation demands STO, `ss1` whether a violation of SLS demands SS1. `init`: the STO of the entry into RUN or of an activation.
`done1`, `done2`: SS1 and SS2 have completed. `spd`: a latched speed discrepancy, after `spdRun` ticks in one. The brake test: its
phase (1 engagement, 2 torque), the position at the start of the torque phase, the ticks of that phase and those without current. -/
structure SafCh where
  st      : Nat := 1
  t0      : Nat := 0
  n0      : Int := 0
  p0      : Int := 0
  bad     : Nat := 0
  still   : Nat := 0
  lat     : Nat := 0
  src     : Nat := 0
  vio     : Nat := 0
  init    : Bool := true
  ss1     : Bool := false
  done1   : Bool := false
  done2   : Bool := false
  host    : Bool := false
  ackPend : Bool := true
  cause   : Nat := 0
  spd     : Bool := false
  spdRun  : Nat := 0
  slip    : Bool := false
  slsIdx  : Nat := 0
  slsLim  : Option Nat := none
  slsDue  : Option Nat := none
  slsBad  : Nat := 0
  sdiP    : Int := 0
  sbtPh   : Nat := 0
  sbtP    : Int := 0
  sbtN    : Nat := 0
  sbtLow  : Nat := 0
  sbtMove : Bool := false
  sbtOk   : Bool := false
  sbtDue  : Bool := false
  sbtFail : Bool := false
  sbtPass : Nat := 0
  deriving DecidableEq, Repr

/-- A core of the island: its filtered input channels (SI_i_A at i, SI_i_B at 12 + i), its inputs, its channels. -/
structure SafCore where
  filt : List SiFilt := List.replicate 24 {}
  ins  : List SiIn := List.replicate 12 {}
  chs  : List SafCh := List.replicate 6 {}
  deriving DecidableEq, Repr

/-- A test of a safe-output switch under way: the switch (0 P, 1 M), a dark or a light test, whether the read-back has shown its
level. -/
structure SafTest where
  sw   : Nat
  dark : Bool
  seen : Bool
  deriving DecidableEq, Repr

/-- A safe-output pair (R368 to R372): the commands of both switches, the ticks of their last change, FAULT and whether a test latched
it, the test under way, the tick and the switch of the next one. -/
structure SafPair where
  p     : Bool := false
  m     : Bool := false
  chgP  : Nat := 0
  chgM  : Nat := 0
  fault : Bool := false
  byTest : Bool := false
  test  : Option SafTest := none
  next  : Nat := 0
  sw    : Nat := 0
  deriving DecidableEq, Repr

/-- A counter tap (R373, R374): its count, the counts at the last ticks, newest first, and a tap error in this tick. -/
structure SafTap where
  cnt  : Int := 0
  hist : List Int := []
  err  : Bool := false
  deriving DecidableEq, Repr

/-- The speeds of a channel and its ΣΔ tap (R374 to R376): whether a sample of ≤ −SD_IMIN came since the last rising crossing, the
last two rising crossings in periods of the island's oscillator, the largest sample of the tick; n_enc, n_sd and its validity. -/
structure SafSpd where
  low  : Bool := false
  x1   : Option Nat := none
  x2   : Option Nat := none
  peak : Nat := 0
  ne   : Int := 0
  ns   : Int := 0
  nv   : Bool := false
  deriving DecidableEq, Repr

/-- A Telltale connection (R395 to R400): its state, ERR, the SEQ last sent or accepted, the tick of the last frame sent or accepted,
the SEQ to send next, the SEQ of a first good frame in WAIT; the virtual inputs in force and those of the next tick, with the ticks for
which each has read active; the latest frame, and whether it waits to be read. -/
structure SafConn where
  st   : Nat := 0
  err  : Nat := 0
  seq  : Nat := 0
  at_  : Nat := 0
  tx   : Nat := 0
  good : Option Nat := none
  vi   : Nat := 0
  viIn : Nat := 0
  act  : List Nat := List.replicate 16 0
  acks : Nat := 0
  sent : Bool := false
  data : List Nat := []
  buf  : List Nat := []
  wait : Bool := false
  deriving DecidableEq, Repr

/-- The safety island (R358 to R406). `st` is STATE; `ticks` numbers the safety tick under way; `took`: a message was taken in it.
`gd` holds the GDEN commands, core A in bits 0 to 5 and core B in bits 6 to 11, `rb` the switch read-backs, P in bits 0 to 5 and M in
bits 6 to 11. `cfg` is the configuration in force, by 256 × ID + instance, `next` one activated for the next tick. `words` are the
unclosed words of the command FIFO and `msgs` its closed messages, `ovr` its OVR. -/
structure Saf where
  st       : Nat := 0
  fcause   : Nat := 0
  ticks    : Nat := 0
  took     : Bool := false
  v24      : Bool := true
  faultAt  : Nat := 0
  cores    : List SafCore := List.replicate 2 {}
  pairs    : List SafPair := List.replicate 6 {}
  gd       : Nat := 0
  rb       : Nat := 0
  linkBad  : List Nat := [0, 0]
  linkErr  : List Nat := [0, 0]
  taps     : List SafTap := List.replicate 2 {}
  spds     : List SafSpd := List.replicate 6 {}
  differ   : Nat := 0
  clkBad   : List Nat := [0, 0]
  clkOk    : List Nat := [0, 0]
  gdBad    : List Nat := List.replicate 12 0
  cfg      : List (Nat × Nat) := []
  next     : Option (List (Nat × Nat)) := none
  hash     : List Nat := []
  staged   : List Nat := []
  stagedOk : Bool := false
  shash    : List Nat := []
  cfgErr   : Nat × Nat := (0, 0)
  words    : List Nat := []
  msgs     : List (List Nat) := []
  ovr      : Bool := false
  resp     : Nat := 0
  respNew  : Bool := false
  entered  : Bool := false
  cmdAt    : Nat := 0
  fails    : Nat := 0
  lockAt   : Option Nat := none
  logIdx   : Nat := 0
  logShow  : Nat := 0
  logPend  : Bool := false
  logRec   : List Nat := []
  conns    : List SafConn := List.replicate 8 {}
  deriving DecidableEq, Repr

/-! ## The device -/

/-- The device: everything but the queue of waiting commands. `regs` holds every register by its key (RegMap), and pattern
memory by its bus address; `mem` holds every byte memory; `raised` the records of this tick that are not yet stored (R440),
oldest first; `free` counts the open values taken so far (log 2); `tick` counts ticks since reset. -/
structure Dev where
  regs   : List (Nat × Word) := []
  mem    : List Host.Cell := []
  tick   : Nat := 0
  free   : Nat := 0
  raised : List ErrRec := []
  errSeq : Nat := 0
  errs   : List ErrDom := List.replicate 2 {}
  sys    : Sys := {}
  therm  : Therm := {}
  tb     : Tb := {}
  ce     : Ce := {}
  pwm    : Pwm := {}
  aux    : Aux := {}
  mea    : Mea := {}
  dcl    : Dcl := {}
  drg    : Drg := {}
  cans   : List CanCtl := List.replicate 4 {}
  saf    : Saf := {}
  mm     : Mem := {}
  img    : Img := {}
  tly    : Tly
  hst    : Hst := {}
  deriving DecidableEq, Repr

/-- The state of the block: the device and the commands that wait, first in, first out. -/
structure State where
  dev     : Dev
  pending : List Instr
  deriving DecidableEq, Repr

/-- The tally as a device ships (R473): every entry blank with all its changes left, but for key slot 0, which holds Xiard's
key hash (its bytes are open: 48 zero bytes stand for them, DESIGN CHOICE, log 7), the counter at 0 and the lock OPEN. -/
def Tly.shipped : Tly :=
  { entries :=
      [⟨[0], true, 32, 0⟩] ++ List.replicate 6 ⟨[0, 0], true, 16, 0⟩ ++ [⟨[255, 255, 63], true, 8, 0⟩] ++
      [⟨List.replicate 32 0, true, 256, 0⟩, ⟨List.replicate 48 0, true, 16, 0⟩] ++
      [⟨List.replicate 48 0, false, 1, 1⟩] ++ List.replicate 3 ⟨List.replicate 48 0, true, 2, 0⟩ ++
      [⟨[0], false, 64, 0⟩, ⟨[0], false, 2, 0⟩],
    log := [], ops := [], statRead := true, keyStage := List.replicate 48 0 }

/-- The device right after reset: every register at its reset value (an unlisted register reads so), every memory empty,
every unit as its defaults say. The safety island stands in START and demands the safe state of every channel (R361, ARM_WHY 4). -/
def Dev.reset : Dev := { tly := Tly.shipped, pwm := { conds := (List.range 6).map fun n => ⟨n, 4, 0⟩ } }

/-- The state right after reset: the device as reset leaves it, and no command waiting. -/
def State.reset : State := { dev := Dev.reset, pending := [] }

end Sys2Proof.Machine
end

