-- ==== Sys2Proof/Machine/Ops.lean ====
section
/-! DEFINITION. Machine/Ops.lean: the named operations over registers, memories, records and free values that every meaning
is written with. -/

namespace Sys2Proof.Machine

/-! ## Sparse stores -/

/-- What a store holds at a key: the entry, or what an unlisted key reads as. -/
def storeGet {α : Type} (dflt : Nat → α) : List (Nat × α) → Nat → α
  | [], k => dflt k
  | (a, v) :: t, k => if a = k then v else storeGet dflt t k

/-- A store with a key removed. -/
def storeErase {α : Type} (l : List (Nat × α)) (k : Nat) : List (Nat × α) := l.filter (fun c => c.1 != k)

/-- A store with a key set, its keys kept rising. -/
def storePut {α : Type} : List (Nat × α) → Nat → α → List (Nat × α)
  | [], k, x => [(k, x)]
  | (a, v) :: t, k, x =>
    if a = k then (k, x) :: t else if k < a then (k, x) :: (a, v) :: t else (a, v) :: storePut t k x

/-- A write to a store, which keeps the canonical form: the value that an unlisted key reads as removes the entry. -/
def storeSet {α : Type} [DecidableEq α] (dflt : Nat → α) (l : List (Nat × α)) (k : Nat) (x : α) : List (Nat × α) :=
  if x = dflt k then storeErase l k else storePut l k x

/-- The keys rise strictly and no entry equals what an unlisted key reads as. -/
def storeWf {α : Type} [DecidableEq α] (dflt : Nat → α) : List (Nat × α) → Bool
  | [] => true
  | (a, v) :: t => decide (v ≠ dflt a) && (match t with | [] => true | (b, _) :: _ => decide (a < b)) && storeWf dflt t

/-! ## Registers -/

/-- The offset of an address within a row: `true` where the row's indices reach exactly that address. -/
def rowHas : List Dim → Nat → Bool
  | [], r => r == 0
  | d :: t, r =>
    let q := r / d.stride
    if t.isEmpty then decide (d.first ≤ q) && decide (q ≤ d.last) && decide (r % d.stride = 0)
    else decide (d.first ≤ q) && decide (q ≤ d.last) && rowHas t (r - q * d.stride)

/-- The row of a block that an offset belongs to. -/
def findRow (rows : List RegRow) (off : Nat) : Option RegRow :=
  rows.find? (fun r => decide (r.off ≤ off) && rowHas r.dims (off - r.off))

/-- The row of a block that a bus address belongs to. -/
def blockRow (b : RegBlock) (a : Nat) : Option RegRow :=
  if a < b.base then none
  else
    let o := a - b.base
    if b.stride = 0 then (if o < 0x10000 then findRow b.rows o else none)
    else if o / b.stride < b.count then findRow b.rows (o % b.stride) else none

/-- The register that a bus address names, among every block (R33). -/
def regRow (a : Nat) : Option RegRow := regBlocks.findSome? (fun b => blockRow b a)

/-- The reset values of ASSIST_0_CFG to ASSIST_9_CFG (chapter Host Ports, section Registers). -/
def assistReset : List Nat :=
  [0x7D0, 0x3E8, 0x80002710, 0x14, 0x64, 0x3E8, 0x8000EA60, 0x64, 0x80001388, 0x64]

/-- The value of a register that nothing has written since reset. Keys outside the register blocks (the windows kept per core
and per context, pattern memory) read 0. -/
def regReset (k : Nat) : Word :=
  if 0x300F0100 ≤ k ∧ k < 0x300F0128 then BitVec.ofNat 32 (assistReset.getD ((k - 0x300F0100) / 4) 0)
  else match regRow k with
    | some r => BitVec.ofNat 32 r.rst
    | none => 0

/-- The word stored for a register key. -/
def Dev.word (d : Dev) (k : Nat) : Nat := (storeGet regReset d.regs k).toNat

/-- The device with the word of a register key set. -/
def Dev.setWord (d : Dev) (k v : Nat) : Dev := { d with regs := storeSet regReset d.regs k (BitVec.ofNat 32 v) }

/-- The value of a register field (R4). -/
def Dev.g (d : Dev) (f : RF) : Nat := bits (d.word f.key) f.hi f.lo

/-- The device with a register field set to the low bits of a value. -/
def Dev.s (d : Dev) (f : RF) (v : Nat) : Dev := d.setWord f.key (setBits (d.word f.key) f.hi f.lo v)

/-- Whether a field is not 0. -/
def Dev.on (d : Dev) (f : RF) : Bool := d.g f != 0

/-- A field as a signed value. -/
def Dev.sg (d : Dev) (f : RF) : Int := toInt (f.hi - f.lo + 1) (d.g f)

/-- A saturating count field, one more. -/
def Dev.inc (d : Dev) (f : RF) : Dev := d.s f (satInc (2 ^ (f.hi - f.lo + 1) - 1) (d.g f))

/-- A wrapping count field, one more. -/
def Dev.incWrap (d : Dev) (f : RF) : Dev := d.s f (d.g f + 1)

/-! ## Byte memories -/

/-- The key of a byte of the LPDDR4 part, by its offset in the part (R32). -/
def ddrKey (ofs : Nat) : Nat := 0x400000000 + ofs

/-- The key of a byte of the flash part, by its offset (R458). -/
def flashKey (ofs : Nat) : Nat := 0x500000000 + ofs

/-- What a byte that nothing has written reads as: 0xFF in flash, as an erased part reads, and 0 elsewhere
(DESIGN CHOICE, log 4). -/
def byteDflt (k : Nat) : Byte := if 0x500000000 ≤ k then 0xFF else 0

/-- The byte at a memory key. -/
def Dev.byte (d : Dev) (k : Nat) : Nat := (storeGet byteDflt d.mem k).toNat

/-- The device with a byte of memory set. -/
def Dev.setByte (d : Dev) (k v : Nat) : Dev := { d with mem := storeSet byteDflt d.mem k (BitVec.ofNat 8 v) }

/-- `n` bytes from a key on. -/
def Dev.bytes (d : Dev) (k n : Nat) : List Nat := (List.range n).map (fun i => d.byte (k + i))

/-- The device with bytes written from a key on. -/
def Dev.setBytes (d : Dev) (k : Nat) : List Nat → Dev
  | [] => d
  | b :: t => (d.setByte k b).setBytes (k + 1) t

/-- The little-endian 32-bit word at a key (R4). -/
def Dev.mem32 (d : Dev) (k : Nat) : Nat := leVal (d.bytes k 4)

/-- The device with a little-endian 32-bit word written at a key. -/
def Dev.setMem32 (d : Dev) (k v : Nat) : Dev := d.setBytes k (leBytes 4 v)

/-- A byte memory's canonical form. -/
abbrev Memory.wf (l : List Host.Cell) : Prop := storeWf byteDflt l = true

/-! ## Engine memories -/

/-- A program word of an engine (R31). -/
def Dev.pmWord (d : Dev) (e a : Nat) : Nat := (storeGet (fun _ => 0) d.ce.pm (e * 8192 + a % 8192)).toNat

/-- The device with a program word of an engine set. -/
def Dev.setPm (d : Dev) (e a v : Nat) : Dev :=
  { d with ce := { d.ce with pm := storeSet (fun _ => 0) d.ce.pm (e * 8192 + a % 8192) (BitVec.ofNat 48 v) } }

/-- A data word of an engine (R31). -/
def Dev.dmWord (d : Dev) (e a : Nat) : Nat := (storeGet (fun _ => 0) d.ce.dm (e * 32768 + a % 32768)).toNat

/-- The device with a data word of an engine set. -/
def Dev.setDm (d : Dev) (e a v : Nat) : Dev :=
  { d with ce := { d.ce with dm := storeSet (fun _ => 0) d.ce.dm (e * 32768 + a % 32768) (BitVec.ofNat 24 v) } }

/-! ## Records and free values -/

/-- A record of block hardware, raised in this tick (R440); it is numbered and stored at the end of the tick. -/
def Dev.raise (d : Dev) (code : Nat) (ctx : List Nat) : Dev :=
  { d with raised := d.raised ++ [⟨0, d.tb.rt, code, errSev code, 0, 0, ctx⟩] }

/-- A record raised by the safety island (ORIGIN 3). -/
def Dev.raiseSaf (d : Dev) (code : Nat) (ctx : List Nat) : Dev :=
  { d with raised := d.raised ++ [⟨0, d.tb.rt, code, errSev code, 0, 3, ctx⟩] }

/-- A record raised by firmware on a core, with its own severity (R444). -/
def Dev.raiseFw (d : Dev) (core code sev : Nat) (ctx : List Nat) : Dev :=
  { d with raised := d.raised ++ [⟨0, d.tb.rt, code, sev, 0, core + 1, ctx⟩] }

/-- The next free value: nothing constrains it (log 2). -/
def Dev.freeVal (d : Dev) : Nat := Config.freeValue d.free

/-- The device after a free value has been taken. -/
def Dev.tookFree (d : Dev) : Dev := { d with free := d.free + 1 }

/-- The device changed by `f` where a condition holds. -/
def Dev.when (d : Dev) (c : Bool) (f : Dev → Dev) : Dev := if c then f d else d

/-- `f` applied for each element of a list in order. -/
def Dev.each {α : Type} (d : Dev) (l : List α) (f : Dev → α → Dev) : Dev := l.foldl f d

/-- Microseconds between two ticks (one tick is 4 ns, R2). -/
def usBetween (t0 t1 : Nat) : Nat := (t1 - t0) / 250

/-- Milliseconds between two ticks. -/
def msBetween (t0 t1 : Nat) : Nat := (t1 - t0) / 250000

/-- RT64 as its low and high word. -/
def rtWords (rt : Nat) : List Nat := [rt % 2 ^ 32, rt / 2 ^ 32 % 2 ^ 32]

/-- A signed value as a 32-bit context word. -/
def w32 (z : Int) : Nat := ofInt 32 z

end Sys2Proof.Machine
end

