-- ==== Sys2Proof/Machine/RegWrite.lean ====
section
/-! DEFINITION. Machine/RegWrite.lean: a write to a register, field by field under its access code (R7 to R10), and the
write of a whole register with a lock rule and its NOTE record. -/

namespace Sys2Proof.Machine

/-- The value that a field stores for a value written, where its range rule changes or refuses it. -/
def sanitise (san : Option San) (old v : Nat) : Nat :=
  match san with
  | none => v
  | some s => if v < s.lo then s.loV.getD old else if s.hi < v then s.hiV.getD old else v

/-- One field of a write (R7, R8): the register word after it, and whether a locked field would have changed. -/
def writeField (locked : FieldSpec → Bool) (v : Nat) (acc : Nat × Bool) (f : FieldSpec) : Nat × Bool :=
  let old := bits acc.1 f.hi f.lo
  let nv := bits v f.hi f.lo
  match f.acc with
  | .rw => if locked f then (acc.1, acc.2 || sanitise f.san old nv != old)
           else (setBits acc.1 f.hi f.lo (sanitise f.san old nv), acc.2)
  | .rwl => if locked f then (acc.1, acc.2 || sanitise f.san old nv != old)
            else (setBits acc.1 f.hi f.lo (sanitise f.san old nv), acc.2)
  | .w1c => (setBits acc.1 f.hi f.lo (old &&& (2 ^ (f.hi - f.lo + 1) - 1 - nv)), acc.2)
  | .ro => acc
  | .wo => acc
  | .w1s => acc
  | .sc => acc
  | .tw => acc

/-- A write of the fields of a register (R8): the word stored, and whether a field was refused. -/
def writeFields (row : RegRow) (locked : FieldSpec → Bool) (old v : Nat) : Nat × Bool :=
  row.fields.foldl (writeField locked v) (old, false)

/-- A write to the register `key` whose bus address is `addr` in the block at `base`: every field on its own, the locked ones
refused with the block's NOTE record naming the register offset (R8). -/
def Dev.regStore (d : Dev) (key addr base v : Nat) (locked : FieldSpec → Bool) (note : Nat) : Dev :=
  match regRow addr with
  | none => d
  | some row =>
    let r := writeFields row locked (d.word key) v
    (d.setWord key r.1).when r.2 (fun d => d.raise note [addr - base])

/-- No field is locked. -/
def unlocked : FieldSpec → Bool := fun _ => false

/-- Every RWL field is locked under a condition. -/
def lockIf (c : Bool) : FieldSpec → Bool := fun f => c && (f.acc == .rwl)

end Sys2Proof.Machine
end

