-- ==== Sys2Proof/Machine/Assist.lean ====
section
/-! DEFINITION. Machine/Assist.lean: the decision functions' modes and the proposals that await a decision (R432 to R434). -/

namespace Sys2Proof.Machine

/-- The mode of a decision function: 0 AUTO, 1 ASSIST, 2 HOST. -/
def Dev.assistMode (d : Dev) (f : Nat) : Nat := d.g (Reg.ASSIST_CFG_MODE f)

/-- The proposal that awaits for a function and unit. -/
def Dev.proposal (d : Dev) (f unit : Nat) : Option Proposal :=
  d.hst.proposals.find? (fun p => p.func == f && p.unit == unit)

/-- PEND shows whether a proposal of a function awaits, for any unit. -/
def Dev.showPending (d : Dev) (f : Nat) : Dev :=
  d.s (Reg.ASSIST_CFG_PEND f) (b2n (d.hst.proposals.any (fun p => p.func == f)))

/-- A proposal is made, with the mode and deadline that stand now, and HST_PROPOSE raised (R432). A recomputed proposal keeps its
own mode, deadline and count (R433). -/
def Dev.propose (d : Dev) (f unit code : Nat) : Dev :=
  let p : Proposal := match d.proposal f unit with
    | some p => { p with code := code }
    | none => ⟨f, unit, code, d.assistMode f, d.g (Reg.ASSIST_CFG_DEADLINE f), d.tick⟩
  let rest := d.hst.proposals.filter (fun q => !(q.func == f && q.unit == unit))
  let d := { d with hst := { d.hst with
    proposals := rest ++ [p], decided := d.hst.decided.filter (fun q => !(q.func == f && q.unit == unit)) } }
  (d.showPending f).raise Err.HST_PROPOSE [f, unit, code, p.deadline]

/-- A proposal is withdrawn without a decision. -/
def Dev.withdraw (d : Dev) (f unit : Nat) : Dev :=
  let d := { d with hst := { d.hst with proposals := d.hst.proposals.filter (fun q => !(q.func == f && q.unit == unit)) } }
  d.showPending f

/-- A proposal is decided: the code applied and who decided it (0 the deadline, p + 1 host port p), kept for R434. -/
def Dev.decided (d : Dev) (f unit code who : Nat) : Dev :=
  match d.proposal f unit with
  | none => d
  | some _ =>
    let d := d.withdraw f unit
    { d with hst := { d.hst with
      decided := d.hst.decided.filter (fun q => !(q.func == f && q.unit == unit)) ++ [⟨f, unit, code, who⟩] } }

/-- A decision taken at a deadline raises HST_DEADLINE with the code applied (R432). -/
def Dev.deadlineTaken (d : Dev) (f unit code : Nat) : Dev :=
  (d.decided f unit code 0).raise Err.HST_DEADLINE [f, unit, code]

/-- A non-safety fault of a unit with the channels that were armed before it (R438). -/
def Dev.noteFault (d : Dev) (unit mask : Nat) : Dev :=
  { d with hst := { d.hst with faults := d.hst.faults.filter (fun x => x.1 != unit) ++ [(unit, mask)] } }

end Sys2Proof.Machine
end

