-- ==== Sys2Proof/Machine/Recorder.lean ====
section
/-! DEFINITION. Machine/Recorder.lean: the start, the stop and the budget of the capture recorder's streams (R455 to R457). What a
stream takes stands in Memory.lean. -/

namespace Sys2Proof.Machine

/-- A stream. -/
def Dev.stream (d : Dev) (s : Nat) : Stream := d.mm.streams.getD s {}

/-- The device with a stream changed. -/
def Dev.updStream (d : Dev) (s : Nat) (f : Stream → Stream) : Dev :=
  { d with mm := { d.mm with streams := updBank 32 {} d.mm.streams s f } }

/-- A stream stops (R456): its bandwidth returns, DONE is set and REC_DONE raised. -/
def Dev.recEnd (d : Dev) (s : Nat) : Dev :=
  let d := d.s Reg.REC_BW_USED_BPS (d.g Reg.REC_BW_USED_BPS - (d.stream s).rate)
  let d := ((d.s (Reg.REC_STAT_RUN s) 0).s (Reg.REC_STAT_STOPPING s) 0).s (Reg.REC_STAT_DONE s) 1
  (d.updStream s (fun x => { x with rate := 0 })).raise Err.REC_DONE [s, d.g (Reg.REC_PUT_VALUE s)]

/-- A stop request (R456): a linear stream stops at once, a ring stream after POST further records. -/
def Dev.recStop (d : Dev) (s : Nat) : Dev :=
  if !d.on (Reg.REC_STAT_RUN s) ∨ d.on (Reg.REC_STAT_STOPPING s) then d
  else if !d.on (Reg.REC_CFG_RING s) ∨ d.g (Reg.REC_POST_VALUE s) = 0 then d.recEnd s
  else (d.s (Reg.REC_STAT_STOPPING s) 1).updStream s (fun x => { x with post := d.g (Reg.REC_POST_VALUE s) })

/-- The latch of a trip group stops the streams with TSTOP = 1 (R456). -/
def Dev.recTrip (d : Dev) (g : Nat) : Dev :=
  if (d.g Reg.REC_TRIPSTOP_GRP).testBit g then
    d.each (List.range 32) (fun d s => if d.on (Reg.REC_CFG_TSTOP s) then d.recStop s else d)
  else d

end Sys2Proof.Machine
end

