-- ==== Sys2Proof/Machine/Run.lean ====
section
/-! DEFINITION. Machine/Run.lean: how a command's effect on the device becomes an outcome. -/

namespace Sys2Proof.Machine

/-- The device takes commands: it is not in reset (R40: inputs are ignored) and FCLK runs (R490: the logic it clocks holds its
state). -/
def Dev.live (d : Dev) : Bool := d.sys.run != .inReset && d.sys.fclkLost.isNone

/-- A command's effect on the device, as an outcome: the queue is not touched. Without FCLK and in reset the device stays as it is. -/
def State.run (s : State) (f : Dev → Dev) : Host.Outcome State Fault Refusal :=
  .next { s with dev := if s.dev.live then f s.dev else s.dev }

/-- The effect of a command on a part that needs no FCLK: the safety island, the clock monitor (R362, R489, R490). -/
def State.runNoClk (s : State) (f : Dev → Dev) : Host.Outcome State Fault Refusal :=
  .next { s with dev := if s.dev.sys.run = .inReset then s.dev else f s.dev }

/-- The effect of an event that acts in reset too: supplies and the reset pins (R20, R491). -/
def State.runAny (s : State) (f : Dev → Dev) : Host.Outcome State Fault Refusal := .next { s with dev := f s.dev }

end Sys2Proof.Machine
end

