-- ==== Sys2Proof/Machine/Time.lean ====
section
/-! DEFINITION. Machine/Time.lean: ring time and its discipline (R44 to R48), the wheels (R50 to R58), general outputs (R65)
and lock-group membership (R72). -/

namespace Sys2Proof.Machine

/-! ## Rounding that the spec leaves open -/

/-- A quotient whose rounding the spec leaves open: exact where it divides, else one of the two neighbours, by a free value
(log 2). -/
def Dev.openDiv (d : Dev) (a b : Int) : Int × Dev :=
  if b = 0 then (0, d)
  else if a % b = 0 then (a / b, d)
  else (a / b + ((d.freeVal % 2 : Nat) : Int), d.tookFree)

/-! ## Ring time -/

/-- RT_LO_READ: a read of RT_LO returns RT64[31:0] and snapshots RT_HI (R33). -/
def execRtLoRead (s : State) := s.run fun d =>
  (d.setWord Reg.RT_LO (d.tb.rt % 2 ^ 32)).setWord Reg.RT_HI (d.tb.rt / 2 ^ 32 % 2 ^ 32)

/-- The PTP time of a MAC in ns (R427). -/
def Dev.ptpNs (d : Dev) (m : Nat) : Nat :=
  let c := d.hst.ptp.getD m {}
  c.sec * 1000000000 + c.ns

/-- PTP_SRC_WRITE: a write of RT_CFG (R48). On the master a nonzero source captures RT64 − 8 × PTP ns. -/
def execPtpSrcWrite (v : Nat) (s : State) := s.run fun d =>
  let v := v % 4
  if v = 3 then d
  else
    let d := d.s Reg.RT_CFG_PTP_SRC v
    if d.on Reg.RT_STAT_MASTER then
      if v = 0 then { d with tb := { d.tb with ptpOn := false, slew := 0 } }
      else
        let ofs := ofInt 64 ((d.tb.rt : Int) - 8 * (d.ptpNs (v - 1) : Int))
        let d := (d.setWord Reg.RT_PTP_OFS_LO (ofs % 2 ^ 32)).setWord Reg.RT_PTP_OFS_HI (ofs / 2 ^ 32)
        { d with tb := { d.tb with ptpOn := true, slew := 0 } }
    else d

/-- RT_LOCKED_ENTRY: after 16 consecutive ring cycles within 1 ns, ACQUIRE becomes LOCKED (R46). -/
def execRtLockedEntry (s : State) := s.run fun d =>
  if d.g Reg.RT_STAT_STATE = 1 ∧ 16 ≤ d.tb.goodCyc then d.s Reg.RT_STAT_STATE 2 else d

/-- TB_RT_HOLDOVER: after 4 ring cycles without a valid Crier the discipline enters HOLDOVER (R46). The rate correction in
force is held. -/
def execTbRtHoldover (s : State) := s.run fun d =>
  let st := d.g Reg.RT_STAT_STATE
  if (st = 1 ∨ st = 2) ∧ 4 ≤ d.tb.missCyc then
    ({ d with tb := { d.tb with goodCyc := 0 } }.s Reg.RT_STAT_STATE 3).raise Err.TB_RT_HOLDOVER [d.tb.missCyc]
  else d

/-! ## Wheels -/

/-- One turn in wheel units. -/
def turn : Int := 2 ^ 40

/-- A position wrapped to the 72 bits that a wheel carries (R50). -/
def wrap72 (z : Int) : Int := toInt 72 (ofInt 72 z)

/-- A speed wrapped to 48 bits. -/
def wrap48 (z : Int) : Int := toInt 48 (ofInt 48 z)

/-- A wheel. -/
def Dev.wheel (d : Dev) (n : Nat) : Wheel := d.tb.wheels.getD n {}

/-- The device with a wheel changed. -/
def Dev.updWheel (d : Dev) (n : Nat) (f : Wheel → Wheel) : Dev :=
  { d with tb := { d.tb with wheels := updBank 16 {} d.tb.wheels n f } }

/-- The position that WHL_SET gives, in 2^-40 turns. -/
def Dev.whlSet (d : Dev) (n : Nat) : Int :=
  toInt 64 (d.word (Reg.WHL_SET_HI n) * 2 ^ 32 + d.word (Reg.WHL_SET_LO n)) * 256

/-- The speed that WHL_SPD_SET gives. -/
def Dev.whlSpdSet (d : Dev) (n : Nat) : Int :=
  toInt 48 (d.word (Reg.WHL_SPD_SET_HI n) % 65536 * 2 ^ 32 + d.word (Reg.WHL_SPD_SET_LO n))

/-- AGE in µs since the later of the last update and the start (R56). -/
def Dev.whlAge (d : Dev) (n : Nat) : Nat := min 65535 (usBetween (d.wheel n).lastUpd d.tick)

/-- RT64 elapsed from `r` to now, in fine ticks, through a step of RT64 in either direction. -/
def Dev.rtSince (d : Dev) (r : Int) : Int := toInt 64 (ofInt 64 ((d.tb.rt : Int) - r))

/-- The position of a ring-time wheel in 2^-45 turns (R55). -/
def Dev.ringPos (d : Dev) (w : Wheel) : Int := w.anchorP + w.spd * d.rtSince w.anchorR

/-- A wheel's anchor moved to now at a position (R55, R58). -/
def Wheel.anchor (w : Wheel) (p45 : Int) (rt : Nat) : Wheel := { w with anchorP := p45, anchorR := rt }

/-- The start of a wheel (R523), at the write that sets EN. -/
def Dev.wheelStart (d : Dev) (n : Nat) : Dev :=
  let src := d.g (Reg.WHL_CFG_SRC n)
  let set := d.whlSet n
  let d := d.updWheel n (fun w =>
    let w := { w with ofs := 0, lastUpd := d.tick, samples := [], placed := false, skip := true, presetDue := false, spdDue := none }
    if src = 7 then { (w.anchor (set * 32) d.tb.rt) with pos := set, spd := d.whlSpdSet n, placed := true }
    else if src = 0 then w
    else { w with spd := 0 })
  d.s (Reg.WHL_STAT_STALE n) 0

/-- The window of a derived speed (R52): the newest sample and the one `2^SPD_AVG` updates before it, or the oldest. -/
def speedWindow (samples : List (Int × Int)) (avg : Nat) : Option ((Int × Int) × (Int × Int)) :=
  match samples with
  | [] => none
  | [_] => none
  | a :: t => some (a, (t.take (2 ^ avg)).getLastD a)

/-- The derived speed in 2^-40 turns per tick (R52); its rounding is open (log 2). -/
def Dev.derivedSpeed (d : Dev) (samples : List (Int × Int)) (avg : Nat) : Int × Dev :=
  match speedWindow samples avg with
  | none => (0, d)
  | some (a, b) => d.openDiv ((a.2 - b.2) * 32) (a.1 - b.1)

/-- The turn count or wrap count chosen so that a position lies nearest to the extrapolated one (R53, R206): `m` is the span of
the source in 2^-40 turns, 0 for a source that does not wrap. -/
def nearest (m ext p : Int) : Int :=
  if m ≤ 0 then p
  else
    let r := (p - ext) % m
    ext + (if m ≤ 2 * r then r - m else r)

/-- A source sample at a wheel (R52): position `p` in 2^-40 turns at RT64 `t`, the span of the source's range, and the speed
that the source carries (`none`: derived). -/
def Dev.wheelSample (d : Dev) (n : Nat) (p : Int) (t : Int) (span : Int) (spd : Option Int) : Dev :=
  if d.on (Reg.WHL_CFG_EN n) then
    let w := d.wheel n
    let u := nearest span w.pos (p + w.ofs)
    let samples := ((t, u - w.ofs) :: w.samples).take 65
    let sd := match spd with
      | some v => (v, d)
      | none => d.derivedSpeed samples (min 6 (d.g (Reg.WHL_CFG_SPD_AVG n)))
    let adv := sd.2.openDiv (sd.1 * d.rtSince t) 32
    let q := wrap72 (u + adv.1)
    let corr := q - w.pos
    let jump := w.placed && decide ((d.g (Reg.WHL_LIM_JUMP n) * 2 ^ 24 : Nat) < corr.natAbs)
    let d := adv.2.updWheel n (fun w =>
      { w with pos := q, spd := wrap48 sd.1, samples := samples, lastUpd := d.tick, placed := true, skip := w.skip || !w.placed })
    let d := (d.s (Reg.WHL_STAT_STALE n) 0).incWrap (Reg.WHL_UPD_CNT_COUNT n)
    d.when jump (fun d => (d.s (Reg.WHL_STAT_JUMP n) 1).raise Err.TB_WHEEL_JUMP [n, w32 (corr / 2 ^ 24)])
  else d

/-- The sources that go stale (R56). -/
def goesStale (src : Nat) : Bool := [1, 2, 3, 4, 6].contains src

/-- One tick of a wheel: extrapolation, a speed written, and a preset (R50, R55, R58). -/
def Dev.wheelTick (d : Dev) (n : Nat) : Dev :=
  let w := d.wheel n
  let src := d.g (Reg.WHL_CFG_SRC n)
  let run := d.on (Reg.WHL_CFG_EN n) && !d.tb.halted
  let w1 :=
    if run then
      if src = 7 then
        let p := d.ringPos w
        let w := match w.spdDue with
          | some v => { (w.anchor p d.tb.rt) with spd := v, spdDue := none }
          | none => w
        { w with pos := wrap72 (p / 32) }
      else if src = 0 ∨ !w.placed ∨ d.on (Reg.WHL_STAT_STALE n) then w
      else { w with pos := wrap72 (w.pos + w.spd) }
    else w
  let w2 := { w1 with prev := w.pos, skip := false }
  let w3 :=
    if w2.presetDue then
      let set := d.whlSet n
      let w := { w2 with pos := set, presetDue := false, skip := true }
      if src = 7 then w.anchor (set * 32) d.tb.rt
      else if src = 0 then w
      else { w with ofs := w2.ofs + set - w2.pos }
    else w2
  d.updWheel n (fun _ => w3)

/-- WHEEL_PRESET: a write of 1 to PRESET, which acts in the next tick (R58). -/
def execWheelPreset (n v : Nat) (s : State) := s.run fun d =>
  if v % 2 = 1 then d.updWheel n (fun w => { w with presetDue := true }) else d

/-- WHEEL_SPEED_SET: a write of WHL_SPD_SET_LO (`hi` false) or _HI; it takes effect in the next tick (R55). -/
def execWheelSpeedSet (n : Nat) (hi : Bool) (v : Nat) (s : State) := s.run fun d =>
  let d := if hi then d.setWord (Reg.WHL_SPD_SET_HI n) (v % 65536) else d.setWord (Reg.WHL_SPD_SET_LO n) (v % 2 ^ 32)
  d.updWheel n (fun w => { w with spdDue := some (d.whlSpdSet n) })

/-- WHEEL_POS_READ: a read of WHL_n_POS_LO snapshots POS_HI and the speed (R50). -/
def execWheelPosRead (n : Nat) (s : State) := s.run fun d =>
  let w := d.wheel n
  let p := ofInt 64 (w.pos / 256)
  let v := ofInt 64 w.spd
  (((d.setWord (Reg.WHL_POS_LO n) (p % 2 ^ 32)).setWord (Reg.WHL_POS_HI n) (p / 2 ^ 32)).setWord (Reg.WHL_SPD_LO n)
    (v % 2 ^ 32)).setWord (Reg.WHL_SPD_HI n) (v / 2 ^ 32)

/-! ## General outputs and lock groups -/

/-- GO_CTL_WRITE: outputs named in SET go high and those in CLR low, CLR where both name one (R65); a GPO Bell's action in the same tick
stands (R12). -/
def execGoCtlWrite (v : Nat) (s : State) := s.run fun d =>
  let set := v % 65536
  let clr := v / 65536 % 65536
  let old := d.g Reg.GO_OUT_LEVEL
  let new := (old ||| set) &&& (65535 - clr)
  d.s Reg.GO_OUT_LEVEL ((new &&& (65535 - d.tb.goBell)) ||| (old &&& d.tb.goBell))

/-- LG_MAP_WRITE: refused whole unless every channel whose membership changes is safe (R72). -/
def execLgMapWrite (v : Nat) (s : State) := s.run fun d =>
  let new (c : Nat) := let f := v / 2 ^ (3 * c) % 8; if f < 4 then f else d.g (Reg.LG_MAP_GRP c)
  let chans := (List.range 6).filter (fun c => new c != d.g (Reg.LG_MAP_GRP c))
  if chans.all (fun c => d.on (Reg.PWM_CH_STAT_SAFE c)) then d.each chans (fun d c => d.s (Reg.LG_MAP_GRP c) (new c))
  else d.raise Err.TB_RWL_REFUSED [0x80]

end Sys2Proof.Machine
end

