-- ==== Sys2Proof/Machine/Pwm.lean ====
section
/-! DEFINITION. Machine/Pwm.lean: pulse generation (R149 to R169) and the trip matrix (R170 to R178). -/

namespace Sys2Proof.Machine

/-- A PWM channel. -/
def Dev.pch (d : Dev) (n : Nat) : PwmCh := d.pwm.chs.getD n {}

/-- The device with a PWM channel changed. -/
def Dev.updPch (d : Dev) (n : Nat) (f : PwmCh → PwmCh) : Dev := { d with pwm := { d.pwm with chs := updBank 6 {} d.pwm.chs n f } }

/-- A leg of a channel. -/
def Dev.leg (d : Dev) (n m : Nat) : Leg := (d.pch n).legs.getD m {}

/-- The device with a leg changed. -/
def Dev.updLeg (d : Dev) (n m : Nat) (f : Leg → Leg) : Dev := d.updPch n (fun c => { c with legs := updBank 6 {} c.legs m f })

/-- An NPC phase of a channel. -/
def Dev.phase (d : Dev) (n p : Nat) : Phase := (d.pch n).phases.getD p {}

/-- The device with a phase changed. -/
def Dev.updPhase (d : Dev) (n p : Nat) (f : Phase → Phase) : Dev :=
  d.updPch n (fun c => { c with phases := updBank 3 {} c.phases p f })

/-- Whether legs 2p and 2p+1 form an NPC phase (R156). -/
def Dev.isNpc (d : Dev) (n p : Nat) : Bool := (d.g (Reg.PWM_CH_CFG_NPC n)).testBit p

/-- The chopper legs by leg index 6n + m: the leg set of TG7 (R171). -/
def Dev.chopLegs (d : Dev) : Nat := d.g (Reg.TRP_GRP_LEGS_LO_LEGS 7) + d.g (Reg.TRP_GRP_LEGS_HI_LEGS 7) * 2 ^ 32

/-- Whether a leg is a chopper leg. -/
def Dev.isChop (d : Dev) (n m : Nat) : Bool := d.chopLegs.testBit (6 * n + m)

/-- Whether a leg is armed (R168). -/
def Dev.isArmed (d : Dev) (n m : Nat) : Bool := (d.g (Reg.PWM_LEG_STAT_ARMED n)).testBit m

/-- The legs of a trip group, by leg index. -/
def Dev.grpLegs (d : Dev) (g : Nat) : Nat := d.g (Reg.TRP_GRP_LEGS_LO_LEGS g) + d.g (Reg.TRP_GRP_LEGS_HI_LEGS g) * 2 ^ 32

/-! ## Requests, interlock and outputs -/

/-- A Q0.32 angle of the pattern: the wheel's fraction plus PAT_OFS (R165). -/
def Dev.patAngle (d : Dev) (n : Nat) : Nat :=
  (ofInt 40 ((d.wheel (d.g (Reg.PWM_CH_CFG_PAT_WHEEL n))).pos) / 256 + d.g (Reg.PWM_PAT_OFS_OFS n) * 256) % 2 ^ 32

/-- The bus address of a pattern memory word (R163). -/
def patAddr (n i : Nat) : Nat := 0x30050000 + n * 0x4000 + 4 * i

/-- A word of pattern memory. -/
def Dev.patWord (d : Dev) (n i : Nat) : Nat := d.word (patAddr n i)

/-- LEGS, COUNT, BASE, SYNC and SYNC_STATE of a pattern table (R163). -/
def Dev.patLegs (d : Dev) (n t : Nat) : Nat := bits (d.patWord n (2 * t)) 29 24
def Dev.patCount (d : Dev) (n t : Nat) : Nat := bits (d.patWord n (2 * t)) 23 12
def Dev.patBase (d : Dev) (n t : Nat) : Nat := bits (d.patWord n (2 * t)) 11 0
def Dev.patSync (d : Dev) (n t : Nat) : Nat := bits (d.patWord n (2 * t + 1)) 31 8
def Dev.patSyncState (d : Dev) (n t : Nat) : Nat := bits (d.patWord n (2 * t + 1)) 5 0

/-- The entries of a pattern table: angle and state. -/
def Dev.patEntries (d : Dev) (n t : Nat) : List (Nat × Nat) :=
  (List.range (d.patCount n t)).map (fun i =>
    let w := d.patWord n (d.patBase n t + i)
    (bits w 31 8, bits w 5 0))

/-- The state of a table at a Q0.24 angle: the entry with the largest angle not above it, or the last (R165). -/
def patState (es : List (Nat × Nat)) (th : Nat) : Nat :=
  match (es.filter (fun e => decide (e.1 ≤ th))).getLast? with
  | some e => e.2
  | none => (es.getLastD (0, 0)).2

/-- Whether the H and L outputs of a leg conflict (R155). -/
def legConflict (h l : Bool) : Bool := h && l

/-- The requests of a leg before the interlock: the pattern's or the carrier's, under the masks (R155, R162, R165). -/
def Dev.legAsk (d : Dev) (n m : Nat) : Bool × Bool :=
  let l := d.leg n m
  let raw := if d.on (Reg.PWM_CH_STAT_MODE n) && (d.patLegs n (d.pch n).tbl).testBit m then (l.pat, !l.pat) else (l.car, l.carL)
  match d.g (Reg.PWM_MASK_ACT_MASK n m) with
  | 1 => (false, false)
  | 2 => (false, true)
  | 3 => (true, false)
  | _ => raw

/-- A leg of a two-level half-bridge follows its requests: outputs go off at once; an output goes on at once only where its dead
time is 0, else at the end of its dead time (R152). A conflict turns both off (R155). -/
def Dev.legApply (d : Dev) (n m : Nat) : Dev :=
  let a := d.legAsk n m
  let clash := legConflict a.1 a.2
  let h := a.1 && !clash
  let l := a.2 && !clash
  let armed := d.isArmed n m
  let d := d.updLeg n m (fun g =>
    let onH := g.onH && h
    let onL := g.onL && l
    { g with reqH := h, reqL := l,
             onH := onH || (armed && h && !onL && d.g (Reg.PWM_LEG_DT_DTH n m) == 0),
             onL := onL || (armed && l && !onH && d.g (Reg.PWM_LEG_DT_DTL n m) == 0) })
  let st := d.g (Reg.PWM_LEG_STAT_CONFLICT n)
  d.when (clash && !st.testBit m) (fun d =>
    (d.s (Reg.PWM_LEG_STAT_CONFLICT n) (st + 2 ^ m)).raise Err.PWM_LEG_CONFLICT [n, m])

/-- Whether T1, T2, T3, T4 are requested in a phase state (R156). -/
def phaseWants (st : Nat) : Bool × Bool × Bool × Bool :=
  match st with
  | 1 => (true, true, false, false)
  | 2 => (false, true, true, false)
  | 3 => (false, false, true, true)
  | _ => (false, false, false, false)

/-- The outputs of an NPC phase in a state: what is not wanted goes off at once, and what is wanted comes on when its dead time has
passed (R156). T1 and T4 are the outer leg's H and L, T2 and T3 the inner leg's. -/
def Dev.phaseOut (d : Dev) (n p : Nat) : Dev :=
  let w := phaseWants (d.phase n p).st
  let o := 2 * p
  let i := 2 * p + 1
  let d := d.updLeg n o (fun g => { g with reqH := w.1, reqL := w.2.2.2, onH := g.onH && w.1, onL := g.onL && w.2.2.2 })
  let hold := (d.phase n p).offAt.isSome
  d.updLeg n i (fun g => { g with reqH := w.2.1, reqL := w.2.2.1, onH := g.onH && (w.2.1 || hold), onL := g.onL && (w.2.2.1 || hold) })

/-- The state that the requests of T1 and T2 name: `none` is the illegal request (R157). -/
def npcAsk (t1 t2 : Bool) : Option Nat :=
  match t1, t2 with
  | true, true => some 1
  | false, true => some 2
  | false, false => some 3
  | true, false => none

/-- An NPC phase follows its requests: from P to N and back through O, held for the outer leg's MINON (R156); an illegal request
holds the state and sets NPC_ILL (R157); the outer leg's mask OFF takes it to OFF (R162). -/
def Dev.phaseApply (d : Dev) (n p : Nat) : Dev :=
  let o := 2 * p
  let i := 2 * p + 1
  let pat := d.on (Reg.PWM_CH_STAT_MODE n) && (d.patLegs n (d.pch n).tbl).testBit o
  let t1 := if pat then (d.leg n o).pat else (d.leg n o).car
  let t2 := if pat then (d.leg n i).pat else (d.leg n i).car
  if (d.phase n p).stage.isSome ∨ !d.isArmed n o then d
  else if d.g (Reg.PWM_MASK_ACT_MASK n o) = 1 then
    let was := (d.phase n p).st
    (d.updPhase n p (fun f =>
      { f with st := 0, tgt := 0, oUntil := none,
               offAt := if was = 0 then f.offAt else some (d.tick + d.g (Reg.PWM_LEG_DT_DTH n o)) })).phaseOut n p
  else
    match npcAsk t1 t2 with
    | none =>
      let st := d.g (Reg.PWM_LEG_STAT_NPC_ILL n)
      d.when (!st.testBit p) (fun d => (d.s (Reg.PWM_LEG_STAT_NPC_ILL n) (st + 2 ^ p)).raise Err.PWM_NPC_ILLEGAL [n, p])
    | some t =>
      let f := d.phase n p
      let g :=
        if f.oUntil.isSome then { f with tgt := t }
        else if (f.st = 1 ∧ t = 3) ∨ (f.st = 3 ∧ t = 1) then
          { f with st := 2, tgt := t, oUntil := some (d.tick + d.g (Reg.PWM_LEG_CFG_MINON n o)) }
        else { f with st := t, tgt := t, offAt := none }
      (d.updPhase n p (fun _ => g)).phaseOut n p

/-- The legs of a channel follow their requests, the phases included. Chopper legs follow the DCL (R298). -/
def Dev.legsApply (d : Dev) (n : Nat) : Dev :=
  d.each (List.range 6) (fun d m =>
    if d.isChop n m then d
    else if d.isNpc n (m / 2) then (if m % 2 = 0 then d.phaseApply n (m / 2) else d)
    else d.legApply n m)

/-- DEAD_TIME_ELAPSED: an output that is requested, whose partner is off, turns on (R152); in an NPC phase T1 needs T2 and T4
needs T3 (R156). A chopper leg's H turns on after DTH while DCL requests it (R298). `high` names the H output. -/
def execDeadTimeElapsed (n m : Nat) (high : Bool) (s : State) := s.run fun d =>
  let g := d.leg n m
  if d.isChop n m then
    (if d.isArmed n m && g.reqH && high then d.updLeg n m (fun g => { g with onH := true }) else d)
  else if d.isArmed n m then
    let p := m / 2
    if d.isNpc n p then
      let o := d.leg n (2 * p)
      let i := d.leg n (2 * p + 1)
      let ok :=
        if m % 2 = 0 then (if high then g.reqH && !i.onL && i.onH else g.reqL && !i.onH && i.onL)
        else (if high then g.reqH && !o.onL else g.reqL && !o.onH)
      if ok then d.updLeg n m (fun g => if high then { g with onH := true } else { g with onL := true }) else d
    else if high then (if g.reqH && !g.onL && !g.reqL then d.updLeg n m (fun g => { g with onH := true }) else d)
    else if g.reqL && !g.onH && !g.reqH then d.updLeg n m (fun g => { g with onL := true }) else d
  else d

/-- The time-driven part of a phase in a tick: the end of the O hold (R156) and of the mask's delay (R162). -/
def Dev.phaseTick (d : Dev) (n p : Nat) : Dev :=
  let f := d.phase n p
  let d := match f.oUntil with
    | some t => if t ≤ d.tick then
        (d.updPhase n p (fun f => { f with st := f.tgt, oUntil := none })).phaseOut n p else d
    | none => d
  match f.offAt with
  | some t => if t ≤ d.tick then (d.updPhase n p (fun f => { f with offAt := none })).phaseOut n p else d
  | none => d

/-! ## Safe state and trips -/

/-- A channel that enters the safe state ends a running MAIN-mode commutator in FAULT with REASON 11 (R264); its phases float. -/
def Dev.safeHaltsCmu (d : Dev) (n : Nat) : Dev :=
  d.each (List.range 2) (fun d k =>
    let st := d.g (Reg.CMU_STAT_STATE k)
    if d.on (Reg.CMU_CFG_MAIN k) && d.g (Reg.CMU_CFG_CH k) == n && st != 0 && st != 8 then
      let d := ((d.s (Reg.CMU_STAT_STATE k) 8).s (Reg.CMU_STAT_REASON k) 11).s (Reg.CMU_STAT_PROPOSE k) 0
      let d := (d.withdraw 0 k).withdraw 1 k
      let legs := [d.g (Reg.CMU_CFG_HB_U k) % 8, d.g (Reg.CMU_CFG_HB_V k) % 8, d.g (Reg.CMU_CFG_HB_W k) % 8]
      let mask := legs.foldl (fun a m => a ||| 4 ^ m) 0
      let d := { d with pwm := { d.pwm with cmuMask := updAt d.pwm.cmuMask k (fun _ => mask % 4096) } }
      let d := if d.g (Reg.PWM_CH_CFG_MASK_SRC n) = k + 1 then d.setWord (Reg.PWM_MASK_ACT n) (mask % 4096) else d
      d.raise Err.CMU_HALTED [k, 11]
    else d)

/-- The brake of a suspended-load channel is commanded: its half-bridge goes low in the tick (R304). -/
def Dev.brakeOn (d : Dev) (c : Nat) : Dev :=
  let d := d.s (Reg.DCL_CH_STAT_BRK c) 1
  if d.on (Reg.DCL_CH_CFG_BRK_EN c) then
    let low (h : Hb) : Hb :=
      { h with ho := false, lo := false, hoAt := none, loAt := none,
               hoOff := if h.ho then d.tick else h.hoOff, loOff := if h.lo then d.tick else h.loOff }
    { d with aux := { d.aux with hbs := updBank 16 {} d.aux.hbs (d.g (Reg.DCL_CH_CFG_BRK_HB c)) low } }
  else d

/-- A suspended-load channel that the trip network takes to the safe state gets its brake in that tick and is HELD with cause 6
(R304, R305, R309). -/
def Dev.safeHolds (d : Dev) (n : Nat) : Dev :=
  if d.on (Reg.DCL_CH_CFG_SL n) && d.g (Reg.DCL_CH_STAT_SLSTATE n) != 3 then
    let d := (d.s (Reg.DCL_CH_STAT_SLSTATE n) 3).s (Reg.DCL_CH_STAT_CAUSE n) 6
    let d := { d with dcl := { d.dcl with chs := updBank 6 {} d.dcl.chs n (fun c => { c with drop := 0 }) } }
    (d.brakeOn n).raise Err.DCL_SL_HOLD [n, 6]
  else d

/-- SAFE shows that every leg but the chopper legs is disarmed (R168). -/
def Dev.refreshSafe (d : Dev) (n : Nat) : Dev :=
  let armed := (List.range 6).any (fun m => d.isArmed n m && !d.isChop n m)
  let was := d.on (Reg.PWM_CH_STAT_SAFE n)
  let d := d.s (Reg.PWM_CH_STAT_SAFE n) (b2n (!armed))
  if !was && !armed then (d.safeHaltsCmu n).safeHolds n else d

/-- One leg disarmed: its outputs go Hi-Z, but for the inner leg of an NPC phase, which keeps its outputs for STAGE (R170,
R172). -/
def Dev.disarmLeg (d : Dev) (n m : Nat) : Dev :=
  if d.isArmed n m then
    let arm := d.g (Reg.PWM_LEG_STAT_ARMED n)
    let d := d.s (Reg.PWM_LEG_STAT_ARMED n) (arm - 2 ^ m)
    let stage := d.g (Reg.PWM_CH_CFG_STAGE n)
    if d.isNpc n (m / 2) && !d.isChop n m && m % 2 == 1 && stage != 0 then
      d.updPhase n (m / 2) (fun f => { f with stage := some (f.stage.getD (d.tick + stage)) })
    else
      let d := d.updLeg n m (fun g => { g with onH := false, onL := false })
      d.when (d.isNpc n (m / 2) && m % 2 == 1) (fun d => d.updPhase n (m / 2) (fun f => { f with st := 0, tgt := 0, oUntil := none }))
  else d

/-- Legs disarmed, by a mask of leg indices; SAFE follows. -/
def Dev.disarmMask (d : Dev) (mask : Nat) : Dev :=
  let d := d.each (maskBits 36 mask) (fun d i => d.disarmLeg (i / 6) (i % 6))
  d.each (List.range 6) Dev.refreshSafe

/-- The non-chopper legs of a channel as a mask of leg indices. -/
def Dev.ownLegs (d : Dev) (n : Nat) : Nat :=
  ((List.range 6).filter (fun m => !d.isChop n m)).foldl (fun a m => a + 2 ^ (6 * n + m)) 0

/-- A channel into the safe state, without a record. -/
def Dev.makeSafe (d : Dev) (n : Nat) : Dev := d.disarmMask (d.ownLegs n)

/-- A forcing condition of R173 begins for a channel: its legs are disarmed and TRP_FORCED is raised once. -/
def Dev.forceOn (d : Dev) (n why inst : Nat) : Dev :=
  let had := d.pwm.conds.any (fun c => c.ch == n && c.why == why)
  let here := d.pwm.conds.contains ⟨n, why, inst⟩
  let legs := (List.range 6).foldl (fun a m => if d.isArmed n m && !d.isChop n m then a + 2 ^ m else a) 0
  let d := d.makeSafe n
  let d := if here then d else { d with pwm := { d.pwm with conds := d.pwm.conds ++ [⟨n, why, inst⟩] } }
  d.when (!had) (fun d => d.raise Err.TRP_FORCED [n, why, legs])

/-- A forcing condition begins for each channel of a mask. -/
def Dev.forceMask (d : Dev) (mask why inst : Nat) : Dev := d.each (maskBits 6 mask) (fun d n => d.forceOn n why inst)

/-- A forcing condition ends for every channel. -/
def Dev.forceOff (d : Dev) (why inst : Nat) : Dev :=
  { d with pwm := { d.pwm with conds := d.pwm.conds.filter (fun c => !(c.why == why && c.inst == inst)) } }

/-- A forcing condition ends for one channel. -/
def Dev.forceOffCh (d : Dev) (n why inst : Nat) : Dev :=
  { d with pwm := { d.pwm with conds := d.pwm.conds.filter (fun c => !(c.ch == n && c.why == why && c.inst == inst)) } }

/-- Whether the DC link bars the arming of a channel: a member of a link whose trip is latched (R296), or a suspended-load channel
without its brake, its reference port or an enabled monitor (R308), or HELD (R307; DEDUCED, log 30). -/
def Dev.dclBars (d : Dev) (c : Nat) : Bool :=
  let links := (List.range 4).filter (fun m => (d.g (Reg.DL_CFG_MEMBERS m)).testBit c)
  links.any (fun m => d.on (Reg.DL_STAT_TRIP m)) ||
  (d.on (Reg.DCL_CH_CFG_SL c) &&
    (!d.on (Reg.DCL_CH_CFG_BRK_EN c) || !d.on (Reg.DCL_CH_SREF_EN c) || !links.any (fun m => d.on (Reg.DL_CFG_EN m)) ||
      d.g (Reg.DCL_CH_STAT_SLSTATE c) == 3))

/-- Why arming of a channel is refused (R169): 1 a trip latch, else the lowest ARM_WHY code of a condition that persists. -/
def Dev.armWhy (d : Dev) (n : Nat) : Option Nat :=
  let own := d.ownLegs n
  if (maskBits 8 (d.g Reg.TRP_STAT_LATCH)).any (fun g => (d.grpLegs g &&& own) != 0) then some 1
  else [2, 3, 4, 5, 7].find? (fun w => d.pwm.conds.any (fun c => c.ch == n && c.why == w) || (w == 7 && d.dclBars n))

/-- An arming request refused (R169). -/
def Dev.armRefuse (d : Dev) (n why : Nat) : Dev :=
  (((d.s (Reg.PWM_CH_CTL_ARM n) 0).s (Reg.PWM_CH_STAT_ARM_REF n) 1).s (Reg.PWM_CH_STAT_ARM_WHY n) why).raise
    Err.PWM_ARM_REFUSED [n, why]

/-- CH_ARM: a write of 1 to ARM requests arming, checked now (R169). -/
def execChArm (n : Nat) (s : State) := s.run fun d =>
  if n < 6 then
    match d.armWhy n with
    | some w => d.armRefuse n w
    | none => (d.s (Reg.PWM_CH_CTL_ARM n) 1).updPch n (fun c => { c with armTrip := false })
  else d

/-- The arming of a channel at a boundary: every leg but the chopper legs is armed, all outputs off until their dead times
have passed (R169). -/
def Dev.armChannel (d : Dev) (n : Nat) : Dev :=
  let own := d.ownLegs n / 2 ^ (6 * n)
  let d := d.s (Reg.PWM_CH_CTL_ARM n) 0
  let d := d.s (Reg.PWM_LEG_STAT_ARMED n) (d.g (Reg.PWM_LEG_STAT_ARMED n) ||| own)
  let d := d.each (maskBits 6 own) (fun d m => d.updLeg n m (fun g => { g with onH := false, onL := false }))
  let d := d.each (List.range 3) (fun d p => d.updPhase n p (fun f => { f with stage := none, st := 0, tgt := 0, oUntil := none }))
  d.refreshSafe n

/-- The arming decision at a period boundary (R169, R176). -/
def Dev.armDecide (d : Dev) (n : Nat) : Dev :=
  if d.on (Reg.PWM_CH_CTL_ARM n) then
    if (d.pch n).armTrip then d.armRefuse n 6
    else match d.armWhy n with
      | some 1 => d.armRefuse n 6
      | some w => d.armRefuse n w
      | none => d.armChannel n
  else d

/-- The trip sources that exist (R170). -/
def tripSource (s : Nat) : Bool := decide (s ≤ 6) || (decide (8 ≤ s) && decide (s ≤ 43)) || (decide (48 ≤ s) && decide (s ≤ 95))

/-- A source sets the latch of a group (R170): its legs are disarmed, and the first source is recorded. -/
def Dev.latchGroup (d : Dev) (src g : Nat) : Dev :=
  let legs := d.grpLegs g
  let had := (d.g Reg.TRP_STAT_LATCH).testBit g
  let first := d.g (Reg.TRP_GRP_FIRST_SRC g)
  let d := d.disarmMask legs
  let d := d.each (List.range 6) (fun d n =>
    if (legs &&& d.ownLegs n) != 0 then d.updPch n (fun c => { c with armTrip := true }) else d)
  if had then
    if d.pwm.latchAt.getD g 0 = d.tick ∧ src < first then
      let d := d.s (Reg.TRP_GRP_FIRST_SRC g) src
      { d with raised := d.raised.map (fun r => if r.code = Err.TRP_LATCH ∧ r.ctx = [g, first] then { r with ctx := [g, src] } else r) }
    else d
  else
    let d := d.s Reg.TRP_STAT_LATCH (d.g Reg.TRP_STAT_LATCH + 2 ^ g)
    let d := (d.s (Reg.TRP_GRP_FIRST_VALID g) 1).s (Reg.TRP_GRP_FIRST_SRC g) src
    let d := { d with pwm := { d.pwm with latchAt := updAt d.pwm.latchAt g (fun _ => d.tick) } }
    (d.raise Err.TRP_LATCH [g, src]).recTrip g

/-- A trip source becomes qualified or unqualified (R170): its SRC_ACT bit, and the latches of its groups. -/
def Dev.tripSource (d : Dev) (src : Nat) (active : Bool) : Dev :=
  if Machine.tripSource src && d.on (Reg.TRP_SRC_CFG_EN src) then
    let act := Reg.TRP_SRC_ACT_ACT (src / 32)
    let b := src % 32
    let v := d.g act
    let d := { d with pwm := { d.pwm with
      lastQual := updAt d.pwm.lastQual src (fun q => if active || v.testBit b then some d.tick else q) } }
    if active then
      let d := d.s act (v ||| 2 ^ b)
      d.each (maskBits 8 (d.g (Reg.TRP_SRC_CFG_GRP src))) (fun d g => d.latchGroup src g)
    else d.s act (v &&& (2 ^ 32 - 1 - 2 ^ b))
  else d

/-- TRIP_SOURCE_QUALIFIED: a source qualifies (`active`), or is unqualified again (R170, R524). -/
def execTripSourceQualified (src : Nat) (active : Bool) (s : State) := s.run fun d => d.tripSource src active

/-- NPC_STAGE_EXPIRY: the inner switches of a phase go Hi-Z at the end of the stage (R172). -/
def execNpcStageExpiry (n p : Nat) (s : State) := s.run fun d =>
  match (d.phase n p).stage with
  | some _ =>
    (d.updPhase n p (fun f => { f with stage := none, st := 0, tgt := 0, oUntil := none })).updLeg n (2 * p + 1)
      (fun g => { g with onH := false, onL := false })
  | none => d

/-- The sources routed to a group. -/
def Dev.routed (d : Dev) (g : Nat) : List Nat :=
  (List.range 96).filter (fun s => d.on (Reg.TRP_SRC_CFG_EN s) && (d.g (Reg.TRP_SRC_CFG_GRP s)).testBit g)

/-- Whether a trip source is qualified. -/
def Dev.srcAct (d : Dev) (s : Nat) : Bool := (d.g (Reg.TRP_SRC_ACT_ACT (s / 32))).testBit (s % 32)

/-- The quiet time of a group in µs: since the last tick in which a routed source was qualified. -/
def Dev.grpQuiet (d : Dev) (g : Nat) : Option Nat :=
  (d.routed g).foldl (fun a s =>
    match d.pwm.lastQual.getD s none with
    | none => a
    | some t => some (min (a.getD (usBetween t d.tick)) (usBetween t d.tick))) none

/-- The clear of one group (R175): the code of a refusal, or 0. -/
def Dev.clearGroup (d : Dev) (g : Nat) : Nat × Dev :=
  match (d.routed g).find? d.srcAct with
  | some s => (Err.TRP_CLR_ACTIVE, d.raise Err.TRP_CLR_ACTIVE [g, s])
  | none =>
    match d.grpQuiet g with
    | some q =>
      if q < d.g (Reg.TRP_GRP_REARM_REARM g) then (Err.TRP_CLR_EARLY, d.raise Err.TRP_CLR_EARLY [g, q])
      else (0, (d.s Reg.TRP_STAT_LATCH (d.g Reg.TRP_STAT_LATCH &&& (255 - 2 ^ g))).s (Reg.TRP_GRP_FIRST_VALID g) 0)
    | none => (0, (d.s Reg.TRP_STAT_LATCH (d.g Reg.TRP_STAT_LATCH &&& (255 - 2 ^ g))).s (Reg.TRP_GRP_FIRST_VALID g) 0)

/-- TRP_CLR: quiet groups are cleared and the others refused (R175). -/
def execTrpClr (v : Nat) (s : State) := s.run fun d =>
  let r := (maskBits 8 v).foldl (fun (a : Nat × Nat × Dev) g =>
    let c := a.2.2.clearGroup g
    if c.1 = 0 then (a.1, a.2.1, c.2) else (a.1 + 2 ^ g, if a.2.1 = 0 then c.1 else a.2.1, c.2)) (0, 0, d)
  (r.2.2.s Reg.TRP_CLR_RESULT_REFUSED r.1).s Reg.TRP_CLR_RESULT_RESULT r.2.1

/-! ## Commit and the period boundary -/

/-- The members of a channel's lock group, the master first; a channel in no group is alone (R71). -/
def Dev.lgMembers (d : Dev) (n : Nat) : List Nat :=
  let g := d.g (Reg.LG_MAP_GRP n)
  if g = 0 then [n] else (List.range 6).filter (fun c => d.g (Reg.LG_MAP_GRP c) == g)

/-- COMMIT set on a channel is COMMIT for its group (R71, R158). -/
def Dev.setCommit (d : Dev) (n : Nat) : Dev :=
  if n < 6 then d.each (d.lgMembers n) (fun d c => d.s (Reg.PWM_CH_CTL_COMMIT c) 1) else d

/-- CH_COMMIT: a write of 1 to COMMIT (R158). Commands that stand before a PERIOD_BOUNDARY in the queue come in an earlier
tick than it. -/
def execChCommit (n : Nat) (s : State) := s.run fun d => d.setCommit n

/-- A duty as fine ticks of a period, ties rounded up (R159). -/
def dutyTicks (duty per : Nat) : Nat :=
  let v := toInt 24 duty
  if v ≤ 0 then 0
  else if duty % 2 ^ 24 = 0x7FFFFF then 32 * per
  else ((v * 32 * per + 2 ^ 22) / 2 ^ 23).toNat

/-- A compare shadow as fine ticks at a transfer (R159). -/
def Dev.shadowTicks (d : Dev) (fmt cmp : RF) (per : Nat) : Nat :=
  if d.on fmt then dutyTicks (d.g cmp % 2 ^ 24) per else d.g cmp

/-- The fixed limit of DT_RANGE for a leg with a period (R154). -/
def Dev.dtOver (d : Dev) (n m per : Nat) : Bool :=
  decide (per < d.g (Reg.PWM_LEG_DT_DTH n m) + d.g (Reg.PWM_LEG_DT_DTL n m) + 2 * d.g (Reg.PWM_LEG_CFG_MINON n m))

/-- The transfer of a channel's shadows with a period (R158); `clamp` is the limit of compares in a forced transfer
(R160). -/
def Dev.transfer (d : Dev) (n per : Nat) (clamp : Option Nat) : Dev :=
  let lim (v : Nat) := match clamp with | some c => min v c | none => v
  let val (l : Bool) (d : Dev) (m : Nat) :=
    if l then d.shadowTicks (Reg.PWM_CMPL_SH_FMT n m) (Reg.PWM_CMPL_SH_CMP n m) per
    else d.shadowTicks (Reg.PWM_CMP_SH_FMT n m) (Reg.PWM_CMP_SH_CMP n m) per
  let cut := (List.range 6).foldl (fun a m =>
    if lim (val false d m) = val false d m ∧ lim (val true d m) = val true d m then a else a + 2 ^ m) 0
  let d := d.each (List.range 6) (fun d m =>
    let h := lim (val false d m)
    let l := lim (val true d m)
    (d.s (Reg.PWM_CMP_ACT_CMP n m) h).s (Reg.PWM_CMPL_ACT_CMP n m) l)
  let d := d.s (Reg.PWM_PER_ACT_PER n) per
  let d := d.each (List.range 4) (fun d k => d.setWord (Reg.PWM_TRIG_ACT n k) (d.word (Reg.PWM_TRIG_SH n k)))
  let d := d.when (d.g (Reg.PWM_CH_CFG_MASK_SRC n) == 0) (fun d => d.setWord (Reg.PWM_MASK_ACT n) (d.word (Reg.PWM_MASK_SH n)))
  let d := ((d.s (Reg.PWM_CH_CTL_COMMIT n) 0).s (Reg.PWM_CH_STAT_PAIR_HOLD n) 0).s (Reg.PWM_CH_STAT_HOLD_CNT n) 0
  let d := d.updPch n (fun c => { c with cmpWr := false })
  let d := d.each (List.range 4) (fun d k =>
    if per ≤ d.g (Reg.PWM_TRIG_ACT_VAL n k) then (d.s (Reg.PWM_CH_STAT_TRIG_RANGE n) 1).raise Err.PWM_TRIG_RANGE [n, k] else d)
  let d := d.each (List.range 6) (fun d m =>
    if d.dtOver n m per then (d.s (Reg.PWM_CH_STAT_DT_RANGE n) 1).raise Err.PWM_DT_RANGE [n, m] else d)
  match clamp with
  | some _ => (d.s (Reg.PWM_CH_STAT_PAIR_STALE n) 1).raise Err.PWM_PAIR_STALE [n, cut]
  | none => d

/-- Whether the pair guard of a channel holds a commit to a period (R160). -/
def Dev.guardHolds (d : Dev) (n per : Nat) : Bool :=
  d.on (Reg.PWM_CH_CTL_PG_EN n) && per != d.g (Reg.PWM_PER_ACT_PER n) && !(d.pch n).cmpWr

/-- The commit of a lock group at its boundary (R71, R158, R160). -/
def Dev.boundaryCommit (d : Dev) (ms : List Nat) : Dev :=
  let master := ms.headD 0
  let per := d.g (Reg.PWM_PER_SH_PER master)
  if ms.any (fun c => d.on (Reg.PWM_CH_CTL_COMMIT c)) then
    if ms.any (fun c => d.guardHolds c per) then
      if ms.any (fun c => decide (16 ≤ d.g (Reg.PWM_CH_STAT_HOLD_CNT c))) then
        d.each ms (fun d c =>
          let cl := if d.guardHolds c per then some (32 * (per - d.g (Reg.PWM_CH_LIM_MINOFF c))) else none
          d.transfer c per cl)
      else d.each ms (fun d c => (d.s (Reg.PWM_CH_STAT_PAIR_HOLD c) 1).inc (Reg.PWM_CH_STAT_HOLD_CNT c))
    else d.each ms (fun d c => d.transfer c per none)
  else d

/-- The error of a group's boundary in fine ticks: how far now lies past the nearest boundary of its grid (R73). -/
def Dev.alignErr (d : Dev) (g per : Nat) : Int :=
  let m : Int := 32 * per
  let r := ((d.tb.rt : Int) - d.word (Reg.LG_OFS g)) % m
  if m < 2 * r then r - m else r

/-- The length of the period that begins at a group's boundary, and its alignment flags (R73). -/
def Dev.align (d : Dev) (g per : Nat) : Nat × Dev :=
  if g = 0 ∨ !d.on (Reg.LG_CTL_ALIGN_EN g) then (per, d)
  else
    let grid := d.word (Reg.LG_GRID g)
    let e := d.alignErr g per
    if grid % per ≠ 0 ∨ grid / per < 1 ∨ 256 < grid / per ∨ 32 * grid ≤ d.word (Reg.LG_OFS g) then
      let was := d.on (Reg.LG_CTL_ALIGN_ERR g)
      let d := (d.s (Reg.LG_CTL_ALIGN_ERR g) 1).s (Reg.LG_CTL_ALIGNED g) 0
      (per, d.when (!was) (fun d => d.raise Err.TB_ALIGN_LOST [g, w32 e]))
    else
      let d := d.s (Reg.LG_CTL_ALIGN_ERR g) 0
      let was := d.on (Reg.LG_CTL_ALIGNED g)
      let slew : Int := d.g (Reg.LG_CTL_SLEW g)
      let len := ((per : Int) - clampInt (-slew) slew (e / 32)).toNat
      if e.natAbs ≤ 8 then (len, d.s (Reg.LG_CTL_ALIGNED g) 1)
      else if was && decide (32 < e.natAbs) then (len, (d.s (Reg.LG_CTL_ALIGNED g) 0).raise Err.TB_ALIGN_LOST [g, w32 e])
      else (len, d)

/-- A compare scaled with a period that alignment changes (R73); its rounding is open (log 2). -/
def Dev.scaleCmp (d : Dev) (v per len : Nat) : Nat × Dev :=
  if len = per ∨ v = 0 then (v, d)
  else if 32 * per ≤ v then (32 * len, d)
  else
    let r := d.openDiv ((v : Int) * len) per
    (r.1.toNat, r.2)

/-- The H pulse of a leg after the minimum-pulse policy (R153, R154): `w` its width, `tot` the period, both in fine ticks;
`low` whether the previous period ended low; `policy` 0 DROP, 1 STRETCH, 2 PASS. The result is the compare in force. -/
def minPulse (policy w tot th tl : Nat) (low : Bool) : Nat :=
  if w = 0 then 0
  else if tot ≤ w then tot
  else if low && decide (w < th) then
    match policy with | 0 => 0 | 1 => th | _ => w
  else if tot - w < tl then
    match policy with | 0 => tot | 1 => tot - tl | _ => w
  else w

/-- A leg at the start of a period: its compares in force and its first request (R150, R153, R155). -/
def Dev.legBegin (d : Dev) (n m per len : Nat) : Dev :=
  let a := d.scaleCmp (d.g (Reg.PWM_CMP_ACT_CMP n m)) per len
  let b := a.2.scaleCmp (d.g (Reg.PWM_CMPL_ACT_CMP n m)) per len
  let d := b.2
  let tick (v : Nat) := if d.on (Reg.PWM_CH_STAT_HR_FAIL n) then v / 32 * 32 else v
  let tot := 32 * len
  let minOn := d.g (Reg.PWM_LEG_CFG_MINON n m)
  let th := 32 * (d.g (Reg.PWM_LEG_DT_DTH n m) + minOn)
  let tl := 32 * (d.g (Reg.PWM_LEG_DT_DTL n m) + minOn)
  let pol := if d.dtOver n m per then 0 else d.g (Reg.PWM_LEG_CFG_POLICY n m)
  let indep := d.on (Reg.PWM_LEG_CFG_MODE n m) && !d.isNpc n (m / 2)
  let low := !(d.leg n m).car
  let eff := minPulse pol (tick a.1) tot th (if indep then 0 else tl) low
  -- INDEP: the low pulse lies from CMPL to the end of the period, and STRETCH begins it earlier
  let wl := tot - tick b.1
  let effL := tot - (if wl < tl ∧ 0 < wl ∧ wl < tot then (match pol with | 0 => 0 | 1 => min tl tot | _ => wl) else wl)
  d.updLeg n m (fun g =>
    { g with eff := eff, effL := if indep then effL else eff, car := decide (0 < eff),
             carL := if indep then effL == 0 else decide (eff = 0) })

/-- PERIOD_BOUNDARY: the counters of a channel's group return to 0 (R71, R149): commits transfer or are held, arming requests
are decided, and the first requests of the period are formed. -/
def execPeriodBoundary (n : Nat) (s : State) := s.run fun d =>
  if n < 6 then
    let ms := d.lgMembers n
    let master := ms.headD n
    let d := d.boundaryCommit ms
    let per := d.g (Reg.PWM_PER_ACT_PER master)
    let al := d.align (d.g (Reg.LG_MAP_GRP master)) per
    al.2.each ms (fun d c =>
      let d := (d.s (Reg.PWM_CNT_COUNT c) 0).updPch c (fun p => { p with len := al.1 })
      let d := d.each (List.range 6) (fun d m => d.legBegin c m per al.1)
      (d.armDecide c).legsApply c)
  else d

/-- COMPARE_MATCH: the counter reaches a leg's H compare (`low` false) or, in INDEP mode, its L compare, and the request
changes (R150, R155). No edge lies at 0 or at the end of the period. -/
def execCompareMatch (n m : Nat) (low : Bool) (s : State) := s.run fun d =>
  let g := d.leg n m
  let tot := 32 * (d.pch n).len
  let c := if low then g.effL else g.eff
  if n < 6 ∧ m < 6 ∧ 0 < c ∧ c < tot then
    let indep := d.on (Reg.PWM_LEG_CFG_MODE n m) && !d.isNpc n (m / 2)
    let lg := d.g (Reg.LG_MAP_GRP n)
    let ofs := if lg ≠ 0 && d.on (Reg.LG_CTL_ALIGN_EN lg) then d.word (Reg.LG_OFS lg) % 32 else 0
    let d := d.s (Reg.PWM_CNT_COUNT n) (c / 32)
    let d := d.updLeg n m (fun g =>
      if low then (if indep then { g with carL := true } else g)
      else { g with car := false, carL := if indep then g.carL else true, fine := (c + ofs) % 32 })
    d.legsApply n
  else d

/-- HR_CALIBRATION: a replica line is measured (R151). `trim` is what the measurement found, `atEnd` whether it lies at the end
of its range. -/
def execHrCalibration (n trim : Nat) (atEnd : Bool) (s : State) := s.run fun d =>
  if n < 6 then
    let line := d.pwm.hrLine
    let d := { d with pwm := { d.pwm with hrLine := 1 - line } }
    if atEnd then (d.s (Reg.PWM_CH_STAT_HR_FAIL n) 1).raise Err.PWM_HR_FAIL [n, line]
    else (d.s (Reg.PWM_CH_STAT_HR_FAIL n) 0).updPch n (fun c => { c with trim := trim })
  else d

/-! ## Pattern mode -/

/-- The first failed check of a pattern table (R164): 0 where it is valid. -/
def Dev.patCheck (d : Dev) (n t : Nat) : Nat :=
  let d0 := d.patWord n (2 * t)
  let d1 := d.patWord n (2 * t + 1)
  let cnt := d.patCount n t
  let base := d.patBase n t
  let es := d.patEntries n t
  let raws := (List.range cnt).map (fun i => d.patWord n (base + i))
  let legs := d.patLegs n t
  let rising : List (Nat × Nat) → Bool := fun l => (l.zip (l.drop 1)).all (fun p => decide (p.1.1 < p.2.1))
  if bits d0 31 30 ≠ 0 ∨ cnt < 1 ∨ base < 32 ∨ 4096 < base + cnt ∨ bits d1 7 6 ≠ 0 ∨ raws.any (fun w => bits w 7 6 != 0) then 1
  else if !rising es then 2
  else if (patState es (d.patSync n t) &&& legs) ≠ (d.patSyncState n t &&& legs) then 3
  else if (List.range 3).any (fun p =>
      d.isNpc n p &&
        (legs.testBit (2 * p) != legs.testBit (2 * p + 1) ||
          (legs.testBit (2 * p) && es.any (fun e => e.2.testBit (2 * p) && !e.2.testBit (2 * p + 1))))) then 4
  else 0

/-- PATTERN_CHECK: a write of 1 to CHECK starts the validation of table TBL (R164). -/
def execPatternCheck (n tbl : Nat) (s : State) := s.run fun d =>
  if n < 6 then
    ((d.s (Reg.PWM_PAT_CTL_TBL n) tbl).s (Reg.PWM_PAT_CTL_CHECK n) 1).updPch n (fun c => { c with chk := some (tbl % 16) })
  else d

/-- PATTERN_CHECK_DONE: the validation ends (R164). -/
def execPatternCheckDone (n : Nat) (s : State) := s.run fun d =>
  match (d.pch n).chk with
  | none => d
  | some t =>
    let e := d.patCheck n t
    let v := d.g (Reg.PWM_PAT_STAT_VALID n)
    let d := (d.s (Reg.PWM_PAT_CTL_CHECK n) 0).s (Reg.PWM_PAT_STAT_CHK_ERR n) e
    (d.s (Reg.PWM_PAT_STAT_VALID n) (if e = 0 then v ||| 2 ^ t else v &&& (65535 - 2 ^ t))).updPch n (fun c => { c with chk := none })

/-- The pattern tables that a word of pattern memory belongs to (R164). -/
def Dev.patTables (d : Dev) (n i : Nat) : List Nat :=
  if i < 32 then [i / 2]
  else (List.range 16).filter (fun t => inRange i (d.patBase n t) (d.patCount n t))
where
  /-- Whether `i` lies in `len` words from `base` on. -/
  inRange (i base len : Nat) : Bool := decide (base ≤ i) && decide (i < base + len)

/-- PATTERN_MEMORY_WRITE: a word of a channel's pattern memory is written; the tables it belongs to lose their VALID bits; a
write to the table in use in pattern mode is discarded (R164). -/
def execPatternMemoryWrite (n i v : Nat) (s : State) := s.run fun d =>
  if n < 6 ∧ i < 4096 then
    let ts := d.patTables n i
    if d.on (Reg.PWM_CH_STAT_MODE n) && ts.contains (d.pch n).tbl then d.raise Err.PWM_RWL_REFUSED [n, 4 * i]
    else
      let d := d.setWord (patAddr n i) v
      let keep := ts.foldl (fun a t => a &&& (65535 - 2 ^ t)) (d.g (Reg.PWM_PAT_STAT_VALID n))
      d.s (Reg.PWM_PAT_STAT_VALID n) keep
  else d

/-- The pattern-mode legs take the state of the pattern angle (R165). -/
def Dev.patApply (d : Dev) (n : Nat) : Dev :=
  let t := (d.pch n).tbl
  let st := patState (d.patEntries n t) (d.patAngle n / 256)
  let d := d.each (maskBits 6 (d.patLegs n t)) (fun d m => d.updLeg n m (fun g => { g with pat := st.testBit m }))
  d.legsApply n

/-- PATTERN_ENTRY: the pattern angle reaches an entry (R165). -/
def execPatternEntry (n : Nat) (s : State) := s.run fun d =>
  if d.on (Reg.PWM_CH_STAT_MODE n) then d.patApply n else d

/-- PAT_TBL and MODE_PEND as the armed change and the table in use make them. -/
def Dev.showPend (d : Dev) (n : Nat) : Dev :=
  let c := d.pch n
  let t := match c.pend with | some (1, t) => t | _ => c.tbl
  (d.s (Reg.PWM_CH_STAT_MODE_PEND n) (b2n c.pend.isSome)).s (Reg.PWM_CH_STAT_PAT_TBL n) t

/-- The mode change takes place (R166). -/
def Dev.modeSwitch (d : Dev) (n mode tbl : Nat) : Dev :=
  let d := d.updPch n (fun c => { c with pend := none, tbl := if mode = 1 then tbl else c.tbl })
  let d := (d.s (Reg.PWM_CH_STAT_MODE n) mode).s (Reg.PWM_PAT_STAT_MISS n) 0
  let d := d.showPend n
  let d := if mode = 1 then d.patApply n else d.legsApply n
  d.raise Err.PWM_MODE_DONE [n, mode, (d.pch n).tbl]

/-- The action PWM_MODE (R61, R166): whether it can be carried out, and its effect. -/
def Dev.pwmMode (d : Dev) (n mode tbl : Nat) : Bool × Dev :=
  if mode = 1 ∧ !(d.g (Reg.PWM_PAT_STAT_VALID n)).testBit tbl then
    (false, d.raise Err.PWM_PAT_BAD [n, tbl, d.g (Reg.PWM_PAT_STAT_CHK_ERR n)])
  else if d.on (Reg.PWM_CH_STAT_SAFE n) then (true, d.modeSwitch n mode tbl)
  else (true, (d.updPch n (fun c => { c with pend := some (mode, tbl) })).showPend n)

/-- Whether a Q0.24 angle lies in a table's sync window: from SYNC up to the first entry angle beyond it, cyclically (R166). -/
def inSync (es : List (Nat × Nat)) (sync th : Nat) : Bool :=
  let next := ((es.find? (fun e => decide (sync < e.1))).getD (es.headD (0, 0))).1
  let len := (next + 2 ^ 24 - sync) % 2 ^ 24
  decide ((th + 2 ^ 24 - sync) % 2 ^ 24 < (if len = 0 then 2 ^ 24 else len))

/-- The H requests of a channel's legs in a mode with a table. -/
def Dev.modeAsk (d : Dev) (n mode tbl : Nat) : Nat :=
  if mode = 1 then patState (d.patEntries n tbl) (d.patAngle n / 256)
  else (List.range 6).foldl (fun a m => if (d.leg n m).car then a + 2 ^ m else a) 0

/-- MODE_SWITCH: an armed change takes place where the pattern angle lies in the sync window and the requests of both modes
equal SYNC_STATE (R166). -/
def execModeSwitch (n : Nat) (s : State) := s.run fun d =>
  match (d.pch n).pend with
  | none => d
  | some (mode, tbl) =>
    let old := d.g (Reg.PWM_CH_STAT_MODE n)
    let gov := if mode = 1 then tbl else (d.pch n).tbl
    let legs := d.patLegs n gov
    let want := d.patSyncState n gov &&& legs
    if inSync (d.patEntries n gov) (d.patSync n gov) (d.patAngle n / 256) &&
        (d.modeAsk n old (d.pch n).tbl &&& legs) == want && (d.modeAsk n mode tbl &&& legs) == want then
      d.modeSwitch n mode tbl
    else d

/-- SYNC_WINDOW_EXIT: the pattern angle leaves the sync window without a switch (R166). -/
def execSyncWindowExit (n : Nat) (s : State) := s.run fun d =>
  match (d.pch n).pend with
  | none => d
  | some (mode, tbl) =>
    let gov := if mode = 1 then tbl else (d.pch n).tbl
    let m := satInc 15 (d.g (Reg.PWM_PAT_STAT_MISS n))
    let was := d.g (Reg.PWM_PAT_STAT_MISS n)
    let d := d.s (Reg.PWM_PAT_STAT_MISS n) m
    d.when (was == 3) (fun d => d.raise Err.PWM_SYNC_WAIT [n, gov, m])

/-- PAT_WHEEL of a channel in pattern mode goes stale: the channel goes safe (R167). -/
def Dev.patStale (d : Dev) (w : Nat) : Dev :=
  d.each (List.range 6) (fun d n =>
    if d.on (Reg.PWM_CH_STAT_MODE n) && d.g (Reg.PWM_CH_CFG_PAT_WHEEL n) == w then
      (d.makeSafe n).raise Err.PWM_PAT_STALE [n, w]
    else d)

/-! ## Writes -/

/-- A commutator's masks take effect at once on a channel that takes its masks from it (R162). -/
def Dev.cmuMasks (d : Dev) (k mask : Nat) : Dev :=
  let d := { d with pwm := { d.pwm with cmuMask := updAt d.pwm.cmuMask k (fun _ => mask % 4096) } }
  d.each (List.range 6) (fun d n =>
    if d.g (Reg.PWM_CH_CFG_MASK_SRC n) = k + 1 then (d.setWord (Reg.PWM_MASK_ACT n) (mask % 4096)).legsApply n else d)

/-- An engine write to a PWM target (R177). Codes outside the table are not bound. -/
def Dev.pwmTarget (d : Dev) (index v : Nat) : Dev :=
  let n := index / 256 % 8
  let c := index % 256
  let m := c % 8 - 1
  let touch (d : Dev) := d.updPch n (fun p => { p with cmpWr := true })
  if 5 < n then d
  else if c = 0 then d.s (Reg.PWM_PER_SH_PER n) (max 256 v)
  else if 0x01 ≤ c ∧ c ≤ 0x06 then touch (d.setWord (Reg.PWM_CMP_SH n m) (2 ^ 31 + v % 2 ^ 24))
  else if 0x09 ≤ c ∧ c ≤ 0x0E then touch (d.setWord (Reg.PWM_CMPL_SH n m) (2 ^ 31 + v % 2 ^ 24))
  else if 0x11 ≤ c ∧ c ≤ 0x16 then touch (d.setWord (Reg.PWM_CMP_SH n m) (v % 2 ^ 24 * 32))
  else if 0x19 ≤ c ∧ c ≤ 0x1E then touch (d.setWord (Reg.PWM_CMPL_SH n m) (v % 2 ^ 24 * 32))
  else if 0x20 ≤ c ∧ c ≤ 0x23 then d.s (Reg.PWM_TRIG_SH_VAL n (c - 0x20)) v
  else if c = 0x24 then d.setWord (Reg.PWM_MASK_SH n) (v % 4096)
  else if c = 0x25 then d.s (Reg.PWM_PAT_OFS_OFS n) v
  else d

/-- Whether an INDEX of class 0x1 names a target (R177). -/
def pwmTargetOk (index : Nat) : Bool :=
  let c := index % 256
  decide (index / 2048 = 0) && decide (index / 256 % 8 ≤ 5) &&
    (c == 0 || (decide (1 ≤ c) && decide (c ≤ 6)) || (decide (9 ≤ c) && decide (c ≤ 0xE)) || (decide (0x11 ≤ c) && decide (c ≤ 0x16)) ||
      (decide (0x19 ≤ c) && decide (c ≤ 0x1E)) || (decide (0x20 ≤ c) && decide (c ≤ 0x25)))

/-- Whether a trip-matrix write is locked: a leg that it concerns is armed (R178). -/
def Dev.trpLocked (d : Dev) (legs : Nat) : Bool :=
  (maskBits 36 legs).any (fun i => d.isArmed (i / 6) (i % 6))

/-- A write of TRP_GRP_LEGS_LO or _HI of groups 0 to 6: chopper-leg bits are never stored and raise TRP_CHOP_EXCL (R171). -/
def Dev.trpLegsWrite (d : Dev) (g : Nat) (hi : Bool) (v : Nat) : Dev :=
  let f := if hi then Reg.TRP_GRP_LEGS_HI_LEGS g else Reg.TRP_GRP_LEGS_LO_LEGS g
  let sh := if hi then 2 ^ 32 else 1
  let w := if hi then 4 else 32
  let chop := d.chopLegs / sh % 2 ^ w
  let nv := v % 2 ^ w
  let new := nv &&& (2 ^ w - 1 - chop)
  let old := d.g f
  let d := d.each (maskBits w (nv &&& chop)) (fun d i => d.raise Err.TRP_CHOP_EXCL [g, i + (if hi then 32 else 0)])
  if new = old then d
  else if d.trpLocked ((old ||| new) * sh) then d.raise Err.TRP_RWL_REFUSED [(if hi then 0x24 else 0x20) + 0x10 * g]
  else d.s f new

/-- A leg is designated as a chopper leg: its bits leave TG0 to TG6 (R171). -/
def Dev.chopExclude (d : Dev) (leg : Nat) : Dev :=
  d.each (List.range 7) (fun d g =>
    if (d.grpLegs g).testBit leg then
      let d := if leg < 32 then d.s (Reg.TRP_GRP_LEGS_LO_LEGS g) (d.g (Reg.TRP_GRP_LEGS_LO_LEGS g) &&& (2 ^ 32 - 1 - 2 ^ leg))
        else d.s (Reg.TRP_GRP_LEGS_HI_LEGS g) (d.g (Reg.TRP_GRP_LEGS_HI_LEGS g) &&& (15 - 2 ^ (leg - 32)))
      d.raise Err.TRP_CHOP_EXCL [g, leg]
    else d)

/-- A write of SRC_s_CFG (R178). -/
def Dev.trpSrcWrite (d : Dev) (src v : Nat) : Dev :=
  let oldG := d.g (Reg.TRP_SRC_CFG_GRP src)
  let groups := maskBits 8 (oldG ||| v % 256)
  let legs := groups.foldl (fun a g => a ||| d.grpLegs g) 0
  d.regStore (Reg.TRP_SRC_CFG src) (Reg.TRP_SRC_CFG src) 0x30130000 v (lockIf (d.trpLocked legs)) Err.TRP_RWL_REFUSED

/-- A register write to the trip matrix (offset from its base). -/
def Dev.trpWrite (d : Dev) (off v : Nat) : Dev :=
  if 0x20 ≤ off ∧ off < 0xA0 then
    let g := (off - 0x20) / 0x10
    match (off - 0x20) % 0x10 with
    | 0 => if g < 7 then d.trpLegsWrite g false v else d
    | 4 => if g < 7 then d.trpLegsWrite g true v else d
    | _ => d.regStore (0x30130000 + off) (0x30130000 + off) 0x30130000 v unlocked Err.TRP_RWL_REFUSED
  else if 0x100 ≤ off then d.trpSrcWrite ((off - 0x100) / 4) v
  else d

/-- A register write to a PWM channel, but for COMMIT, ARM and CHECK, which have rows of their own (R178). -/
def Dev.pwmWrite (d : Dev) (n off v : Nat) : Dev :=
  let a := 0x30040000 + n * 0x1000 + off
  let safe := d.on (Reg.PWM_CH_STAT_SAFE n)
  let d := match regRow a with
    | none => d
    | some row =>
      let r := writeFields row (lockIf (!safe)) (d.word a) v
      (d.setWord a r.1).when r.2 (fun d => d.raise Err.PWM_RWL_REFUSED [n, off])
  if 0x20 ≤ off ∧ off < 0x58 then d.updPch n (fun c => { c with cmpWr := true })
  else if off = 0x08 ∧ safe then
    match d.g (Reg.PWM_CH_CFG_MASK_SRC n) with
    | 0 => d
    | k + 1 => (d.setWord (Reg.PWM_MASK_ACT n) (d.pwm.cmuMask.getD k 0)).legsApply n
  else d

end Sys2Proof.Machine
end

