-- ==== Sys2Proof/Machine/Bridges.lean ====
section
/-! DEFINITION. Machine/Bridges.lean: the auxiliary half-bridges (R239 to R252): owners, carriers, outputs, bootstrap, latches. -/

namespace Sys2Proof.Machine

/-- A half-bridge. -/
def Dev.hb (d : Dev) (n : Nat) : Hb := d.aux.hbs.getD n {}

/-- The device with a half-bridge changed. -/
def Dev.updHb (d : Dev) (n : Nat) (f : Hb → Hb) : Dev := { d with aux := { d.aux with hbs := updBank 16 {} d.aux.hbs n f } }

/-- A commutator. -/
def Dev.cmu (d : Dev) (k : Nat) : Cmu := d.aux.cmus.getD k {}

/-- The device with a commutator changed. -/
def Dev.updCmu (d : Dev) (k : Nat) (f : Cmu → Cmu) : Dev := { d with aux := { d.aux with cmus := updBank 2 {} d.aux.cmus k f } }

/-- A step axis. -/
def Dev.axis (d : Dev) (n : Nat) : Axis := d.aux.axes.getD n {}

/-- The device with an axis changed. -/
def Dev.updAxis (d : Dev) (n : Nat) (f : Axis → Axis) : Dev := { d with aux := { d.aux with axes := updBank 4 {} d.aux.axes n f } }

/-- The half-bridges of a commutator: U, V and W. -/
def Dev.cmuHbs (d : Dev) (k : Nat) : List Nat :=
  [d.g (Reg.CMU_CFG_HB_U k), d.g (Reg.CMU_CFG_HB_V k), d.g (Reg.CMU_CFG_HB_W k)]

/-- What a phase does in a sector (R254): 0 High, 1 Low, 2 Floating. -/
def sectorRole (sector phase : Nat) : Nat :=
  let hi := [0, 0, 1, 1, 2, 2].getD sector 0
  let lo := [1, 2, 2, 0, 0, 1].getD sector 1
  if phase = hi then 0 else if phase = lo then 1 else 2

/-- What a phase of a commutator does in its state (R253, R260, R264). -/
def Dev.phaseRole (d : Dev) (k phase : Nat) : Nat :=
  match d.g (Reg.CMU_STAT_STATE k) with
  | 3 => 1
  | 4 => sectorRole (d.g (Reg.CMU_STAT_SECTOR k)) phase
  | 5 => sectorRole (d.g (Reg.CMU_STAT_SECTOR k)) phase
  | 6 => sectorRole (d.g (Reg.CMU_STAT_SECTOR k)) phase
  | _ => 2

/-- The carrier that a half-bridge uses (R241). -/
def Dev.hbCarrier (d : Dev) (n : Nat) : Nat :=
  match d.g (Reg.HB_CFG_OWNER n) with
  | 2 => d.g (Reg.CMU_CFG_CAR 0)
  | 3 => d.g (Reg.CMU_CFG_CAR 1)
  | 4 => d.g (Reg.STP_CFG_CAR (n / 4))
  | _ => d.g (Reg.HB_CFG_CAR n)

/-- Whether a half-bridge's owner drives it (R239); a request during a leakage test is held (R252). -/
def Dev.hbActive (d : Dev) (n : Nat) : Bool :=
  !(d.hb n).leak &&
  match d.g (Reg.HB_CFG_OWNER n) with
  | 1 => d.on (Reg.HB_CFG_RUN n)
  | 2 => let s := d.g (Reg.CMU_STAT_STATE 0)
         s != 0 && s != 8 && !d.on (Reg.CMU_CFG_MAIN 0) && (d.cmuHbs 0).contains n
  | 3 => let s := d.g (Reg.CMU_STAT_STATE 1)
         s != 0 && s != 8 && !d.on (Reg.CMU_CFG_MAIN 1) && (d.cmuHbs 1).contains n
  | 4 => d.g (Reg.STP_STAT_STATE (n / 4)) != 0 && !d.on (Reg.STP_CFG_OUTM (n / 4))
  | _ => false

/-- Whether any global latch of the AUX block is set (R249). -/
def Dev.auxGlobal (d : Dev) : Bool :=
  d.on Reg.AUX_STAT_GD_UV || d.on Reg.AUX_STAT_VBR_OV || d.on Reg.AUX_STAT_LINK

/-- Whether a half-bridge's own latches are set (R249). -/
def Dev.hbLatched (d : Dev) (n : Nat) : Bool :=
  d.on (Reg.HB_STAT_BS_FAIL n) || d.on (Reg.HB_STAT_OC n) || d.on (Reg.HB_STAT_LEAK n)

/-- Whether the HV pin-function map leaves a half-bridge unused (R520). -/
def Dev.hbUnused (d : Dev) (n : Nat) : Bool := !d.sys.pinMap.testBit n

/-- Whether a half-bridge is held low: any latch, AUX_EN low or VBR_UV, THERM_LATCH, the HV die's own limit (R487), or the pin-function
map (R520). -/
def Dev.hbHeld (d : Dev) (n : Nat) : Bool :=
  d.hbUnused n || d.on Reg.THM_STAT_LATCH || d.therm.hvHold || d.auxGlobal || d.hbLatched n || !d.on Reg.AUX_STAT_EN || d.on Reg.AUX_STAT_VBR_UV

/-- What a half-bridge's owner requests of HO and LO (R242, R253). -/
def Dev.hbAsk (d : Dev) (n : Nat) : Bool × Bool :=
  let w := (d.hb n).want
  if d.hbActive n && (d.hb n).live then
    match d.g (Reg.HB_CFG_OWNER n) with
    | 1 => match d.g (Reg.HB_CFG_MODE n) with
      | 0 => (w, !w)
      | 1 => (w, false)
      | _ => (false, w)
    | 4 => (w, !w)
    | o =>
      let k := o - 2
      let ph := (List.range 3).find? (fun i => (d.cmuHbs k).getD i 16 == n)
      match d.phaseRole k (ph.getD 3) with
      | 0 => (w, !w && !d.on (Reg.CMU_CFG_CHOP k))
      | 1 => (false, !(d.hb n).loCut)
      | _ => (false, false)
  else (false, false)

/-- Whether the brake command of a suspended-load channel holds a half-bridge low (R304). -/
def Dev.brakeHeld (d : Dev) (n : Nat) : Bool :=
  (List.range 6).any (fun c => d.on (Reg.DCL_CH_CFG_BRK_EN c) && d.on (Reg.DCL_CH_STAT_BRK c) && d.g (Reg.DCL_CH_CFG_BRK_HB c) == n)

/-- A half-bridge's outputs follow its owner under the holds (R243 to R249): an output that is no longer wanted goes off at once;
one that is wanted comes on DT ticks after its partner went off (R242). ACTIVE and HELD follow. -/
def Dev.hbApply (d : Dev) (n : Nat) : Dev :=
  let h := d.hb n
  let ask := d.hbAsk n
  let held := d.hbHeld n
  let inPulse := match h.rfOn, h.rfOff with
    | some a, some b => some (decide (a ≤ d.tick) && decide (d.tick < b))
    | _, _ => none
  let stop := held || d.brakeHeld n
  let wantH := !stop && ask.1 && !h.cut && !h.uv && inPulse.isNone
  let wantL := !stop && (match inPulse with | some b => b | none => ask.2)
  let dt := d.g (Reg.HB_DT_DT n)
  let t := d.tick
  let hoOff := if h.ho && !wantH then t else h.hoOff
  let loOff := if h.lo && !wantL then t else h.loOff
  let ho := wantH && (h.ho || decide (loOff + dt ≤ t) && !(h.lo && wantL))
  let lo := wantL && (h.lo || decide (hoOff + dt ≤ t) && !ho)
  let d := d.updHb n (fun h =>
    { h with ho := ho, lo := lo, hoOff := hoOff, loOff := loOff,
             hoAt := if wantH && !ho then some (loOff + dt) else none,
             loAt := if wantL && !lo then some (hoOff + dt) else none })
  (d.s (Reg.HB_STAT_HELD n) (b2n held)).s (Reg.HB_STAT_ACTIVE n) (b2n (d.hbActive n))

/-- Every half-bridge's outputs follow. -/
def Dev.hbsApply (d : Dev) : Dev := d.each (List.range 16) Dev.hbApply

/-- The time-driven part of a half-bridge in a tick: outputs whose dead time has passed come on; a refresh pulse begins and
ends (R242, R245). -/
def Dev.hbTick (d : Dev) (n : Nat) : Dev :=
  let h := d.hb n
  let d := match h.rfOff with
    | some t => if t + d.g (Reg.HB_DT_DT n) ≤ d.tick then d.updHb n (fun h => { h with rfOn := none, rfOff := none }) else d
    | none => d
  if h.hoAt.isSome || h.loAt.isSome || h.rfOn.isSome then d.hbApply n else d

/-- The duty of a half-bridge as its owner gives it, as a Q1.23 word. -/
def Dev.hbDuty (d : Dev) (n : Nat) : Nat :=
  match d.g (Reg.HB_CFG_OWNER n) with
  | 2 => (d.cmu 0).duty
  | 3 => (d.cmu 1).duty
  | 4 => (d.axis (n / 4)).duties.getD (n % 4) 0
  | _ => d.g (Reg.HB_DUTY_DUTY n)

/-- A duty as a compare of a carrier (R242); ties are rounded up, as R159 rounds them (DEDUCED, log 21). -/
def auxCompare (duty per : Nat) : Nat :=
  let v := toInt 24 duty
  if v ≤ 0 then 0
  else if duty % 2 ^ 24 = 0x7FFFFF then per
  else ((v * per * 2 + 2 ^ 23) / 2 ^ 24).toNat

/-- The low-side on-time that a half-bridge's owner commits for a period (R193). -/
def Dev.lowTime (d : Dev) (n per cmp : Nat) : Nat :=
  let compl := if cmp = 0 then per else per - cmp - d.g (Reg.HB_DT_DT n)
  match d.g (Reg.HB_CFG_OWNER n) with
  | 1 => match d.g (Reg.HB_CFG_MODE n) with
    | 0 => compl
    | 1 => 0
    | _ => cmp
  | 4 => compl
  | 0 => 0
  | o =>
    let k := o - 2
    let ph := (List.range 3).find? (fun i => (d.cmuHbs k).getD i 16 == n)
    match d.phaseRole k (ph.getD 3) with
    | 0 => if d.on (Reg.CMU_CFG_CHOP k) then 0 else compl
    | 1 => per
    | _ => 0

/-- A bootstrap failure (R246): both outputs low, latched. The cause, 1 a second UVLO or 2 no recovery, is shown
by an open number (log 33). -/
def Dev.bsFail (d : Dev) (n cause : Nat) : Dev :=
  ((d.s (Reg.HB_STAT_BS_FAIL n) 1).raise Err.AUX_BS_FAIL [n, Config.recordNumber Err.AUX_BS_FAIL cause]).hbApply n

/-- The boundary of a half-bridge's carrier (R242, R245, R246): duty transferred, refresh pulse begun, bootstrap checked. -/
def Dev.hbBoundary (d : Dev) (n per : Nat) : Dev :=
  let h := d.hb n
  let cmp := auxCompare (d.hbDuty n) per
  let rise := decide (0 < cmp) && !h.want
  let d := d.updHb n (fun h =>
    { h with cmp := cmp, want := decide (0 < cmp), live := true, cut := h.cut && !rise && decide (0 < cmp) && h.want, loCut := false,
             uvPer := h.uvPer.bind (fun p => if p < 16 then some (p + 1) else none) })
  let d := d.updHb n (fun h => { h with lowT := d.lowTime n per cmp })
  let fail := h.check && !d.on (Reg.HB_STAT_BS_OK n)
  let d := d.updHb n (fun h => { h with check := false })
  let d := match h.rfDue with
    | some t =>
      if t ≤ d.tick then
        let on := d.tick + d.g (Reg.HB_DT_DT n)
        let d := d.updHb n (fun h =>
          { h with rfDue := none, rfOn := some on, rfOff := some (on + d.g (Reg.HB_DT_REFRESH n)), check := true,
                   lowT := d.g (Reg.HB_DT_REFRESH n) })
        (d.s (Reg.HB_STAT_BS_REFRESH n) 1).raise Err.AUX_BS_REFRESH [n, d.tick % 2 ^ 32]
      else d
    | none => d
  if fail then d.bsFail n 2 else d.hbApply n

/-- AUX_COMPARE_MATCH: the carrier reaches a half-bridge's compare and its high request ends (R242). -/
def execAuxCompareMatch (n : Nat) (s : State) := s.run fun d =>
  let h := d.hb n
  let per := d.g (Reg.ACAR_CFG_PER (d.hbCarrier n))
  if n < 16 ∧ 0 < h.cmp ∧ h.cmp < per then
    ((d.s (Reg.ACAR_CNT_COUNT (d.hbCarrier n)) h.cmp).updHb n (fun h => { h with want := false, cut := false })).hbApply n
  else d

/-- BOOTSTRAP_UVLO: VBS qualified below 7.0 V forces HO low and asks for a refresh (R244, R245); a second one within 16 periods
of the first is a failure (R246). -/
def execBootstrapUvlo (n : Nat) (s : State) := s.run fun d =>
  if n < 16 then
    let again := (d.hb n).uvPer.isSome
    let d := d.s (Reg.HB_STAT_BS_OK n) 0
    let d := d.updHb n (fun h =>
      { h with uv := true, rfDue := if again then none else some (d.tick + 500), uvPer := some (h.uvPer.getD 0) })
    if again then d.bsFail n 1 else d.hbApply n
  else d

/-- BOOTSTRAP_UV_RELEASE: VBS qualified above 7.6 V releases HO (R244). -/
def execBootstrapUvRelease (n : Nat) (s : State) := s.run fun d =>
  if n < 16 then ((d.s (Reg.HB_STAT_BS_OK n) 1).updHb n (fun h => { h with uv := false })).hbApply n else d

/-- LEAK_TEST_START: a write of START with SIDE and T_TEST begins a gate-leakage test, or is refused with the first condition
that fails, shown by an open number (R251; log 33). -/
def execLeakTestStart (n side tTest : Nat) (s : State) := s.run fun d =>
  if n < 16 ∧ (d.hb n).leak = false then
    let d := (d.s (Reg.HB_LEAK_SIDE n) side).s (Reg.HB_LEAK_T_TEST n) (max 2 (min 40 tTest))
    let h := d.hb n
    let low := !h.ho && !h.lo && decide (max h.hoOff h.loOff + 2500 ≤ d.tick)
    let bad :=
      if d.hbActive n then some 1
      else if !low then some 2
      else if !d.on Reg.AUX_STAT_EN then some 3
      else if !d.on Reg.AUX_STAT_VDRV_OK then some 4
      else if side % 2 = 0 ∧ !d.on (Reg.HB_STAT_BS_OK n) then some 5
      else none
    match bad with
    | some c => (d.s (Reg.HB_LEAK_START n) 0).raise Err.AUX_LEAK_REFUSED [n, Config.recordNumber Err.AUX_LEAK_REFUSED c]
    | none => (d.s (Reg.HB_LEAK_START n) 1).updHb n (fun h => { h with leak := true })
  else d

/-- LEAK_TEST_DONE: the test ends (R251). `rise` is ΔV in mV, `opened` whether the gate reached 1.5 V. -/
def execLeakTestDone (n rise : Nat) (opened : Bool) (s : State) := s.run fun d =>
  if (d.hb n).leak then
    let side := d.g (Reg.HB_LEAK_SIDE n)
    let code := if opened then 255 else min 255 (rise / 10)
    let lo := if side = 0 then d.g (Reg.HB_LKWIN_H_MIN n) else d.g (Reg.HB_LKWIN_L_MIN n)
    let hi := if side = 0 then d.g (Reg.HB_LKWIN_H_MAX n) else d.g (Reg.HB_LKWIN_L_MAX n)
    let d := (((d.s (Reg.HB_LEAK_CODE n) code).s (Reg.HB_LEAK_OPEN n) (b2n opened)).s (Reg.HB_LEAK_DONE n) 1).s (Reg.HB_LEAK_START n) 0
    let d := d.updHb n (fun h => { h with leak := false, live := false })
    let d := if opened || decide (code < lo) || decide (hi < code) then
        (d.s (Reg.HB_STAT_LEAK n) 1).raise Err.AUX_LEAK [n, side, code, b2n opened] else d
    d.hbApply n
  else d

/-- Whether a half-bridge using a carrier is ACTIVE (R268). -/
def Dev.carrierInUse (d : Dev) (a : Nat) : Bool := (List.range 16).any (fun n => d.hbCarrier n == a && d.hbActive n)

/-- A register write to the AUX block by its offset, but for START, which has its own row (R268). -/
def Dev.auxWrite (d : Dev) (off v : Nat) : Dev :=
  let a := 0x300B0000 + off
  if 0x10 ≤ off ∧ off < 0x20 then
    let c := (off - 0x10) / 4
    let locked := d.on (Reg.ACAR_CFG_EN c) || d.carrierInUse c
    d.regStore a a 0x300B0000 v (lockIf locked) Err.AUX_RWL_REFUSED
  else if 0x100 ≤ off then
    let n := (off - 0x100) / 0x20
    let was := d.hbActive n
    let unused := (off - 0x100) % 0x20 == 0 && d.hbUnused n && bits v (Reg.HB_CFG_OWNER n).hi (Reg.HB_CFG_OWNER n).lo != 0
    let d := d.regStore a a 0x300B0000 v (fun f => lockIf was f || (unused && f.lo == (Reg.HB_CFG_OWNER n).lo)) Err.AUX_RWL_REFUSED
    let d := if !was && d.hbActive n then d.updHb n (fun h => { h with live := false, want := false }) else d
    d.hbApply n
  else d

end Sys2Proof.Machine
end

