-- ==== Sys2Proof/Machine/Commutate.lean ====
section
/-! DEFINITION. Machine/Commutate.lean: the six-step commutators (R253 to R267). -/

namespace Sys2Proof.Machine

/-- The state numbers of R264. -/
def cmIdle : Nat := 0
def cmSense : Nat := 1
def cmDecide : Nat := 2
def cmBrake : Nat := 3
def cmAlign : Nat := 4
def cmRamp : Nat := 5
def cmRun : Nat := 6
def cmWait : Nat := 7
def cmFault : Nat := 8

/-- STATE of a commutator. -/
def Dev.cmState (d : Dev) (k : Nat) : Nat := d.g (Reg.CMU_STAT_STATE k)

/-- The masks of a MAIN-mode commutator (R265): High PWM, Low LOW, Floating OFF; the High leg is OFF while the limit is in force
(R266). -/
def Dev.cmuMask (d : Dev) (k : Nat) : Nat :=
  (List.range 3).foldl (fun a i =>
    let leg := (d.cmuHbs k).getD i 0 % 8
    let code := match d.phaseRole k i with | 0 => (if (d.cmu k).cut then 1 else 0) | 1 => 2 | _ => 1
    a ||| code * 4 ^ leg) 0

/-- A commutator's phases reach its half-bridges or its channel's masks. -/
def Dev.cmuApply (d : Dev) (k : Nat) : Dev :=
  if d.on (Reg.CMU_CFG_MAIN k) then
    if d.cmState k = cmIdle then d else d.cmuMasks k (d.cmuMask k)
  else d.each (d.cmuHbs k) Dev.hbApply

/-- A commutator enters a state. -/
def Dev.cmuGo (d : Dev) (k st : Nat) : Dev := (d.s (Reg.CMU_STAT_STATE k) st).cmuApply k

/-- SENSE begins (R257): nothing seen yet. -/
def Dev.cmuSense (d : Dev) (k : Nat) : Dev :=
  let d := d.updCmu k (fun c => { c with seen := [], est := 0, lastX := none, lock := false, ramp := false })
  (d.s (Reg.CMU_TSEC_TICKS k) 0).cmuGo k cmSense

/-- The current threshold of attempt `a` (R261). -/
def attemptI (i0 : Nat) : Nat → Nat
  | 0 => i0
  | a + 1 => min 255 (attemptI i0 a * 5 / 4)

/-- ALIGN begins (R261). -/
def Dev.cmuAlign (d : Dev) (k : Nat) : Dev :=
  let i := attemptI (d.g (Reg.CMU_START_I_START k)) (d.g (Reg.CMU_STAT_ATTEMPT k))
  let d := d.updCmu k (fun c =>
    { c with duty := d.g (Reg.CMU_START_DUTY_OL k) * 2 ^ 15, ramp := false, iA := if c.iOvr = 0 then i else c.iOvr, iOvr := 0,
             lock := false, lockCnt := 0, secCnt := 0, peak := 0, crossed := false })
  (d.s (Reg.CMU_STAT_SECTOR k) (d.g (Reg.CMU_CFG_ALIGN k))).cmuGo k cmAlign

/-- A commutator goes to FAULT with a reason and a record. -/
def Dev.cmuFault (d : Dev) (k reason code : Nat) (ctx : List Nat) : Dev :=
  let d := d.s (Reg.CMU_STAT_REASON k) reason
  let d := (d.s (Reg.CMU_STAT_PROPOSE k) 0).withdraw 0 k
  ((d.withdraw 1 k).cmuGo k cmFault).raise code (k :: ctx)

/-- An event outside the commutator ends a running one (R264). -/
def Dev.cmuHalt (d : Dev) (k reason : Nat) : Dev :=
  if d.cmState k = cmIdle ∨ d.cmState k = cmFault then d
  else d.cmuFault k reason Err.CMU_HALTED [reason]

/-- RUN begins from a sector with a sector time (R256, R258). -/
def Dev.cmuRun (d : Dev) (k sector ts : Nat) : Dev :=
  let d := d.updCmu k (fun c => { c with lock := false, crossed := false, sums := [0, 0, 0], cnts := [0, 0, 0], comms := 0 })
  let d := (d.s (Reg.CMU_TSEC_TICKS k) (min ts (2 ^ 24 - 1))).s (Reg.CMU_STAT_MISS k) 0
  (d.s (Reg.CMU_STAT_SECTOR k) sector).cmuGo k cmRun

/-- The duty that RUN ends on: CMU_DUTY, and 0 for a duty that is not positive. -/
def Dev.cmuTarget (d : Dev) (k : Nat) : Nat := (max 0 (d.sg (Reg.CMU_DUTY_DUTY k))).toNat

/-- The sector after a crossing of code `c` of a sequence in a direction (DEDUCED from R254, log 22). -/
def catchSector (c : Nat) (rev : Bool) : Nat := if rev then (c + 4) % 6 else (c + 5) % 6

/-- CATCH (R258): RUN from the sector of the last crossing, with duty d0; its rounding is open (log 2). -/
def Dev.cmuCatch (d : Dev) (k : Nat) : Dev :=
  let c := d.cmu k
  let test := d.g (Reg.CMU_TSEC_TICKS k)
  let r := d.openDiv ((d.g (Reg.CMU_START_DUTY_OL k) * d.g (Reg.CMU_SPD_T_SYNC k) * 250 * 2 ^ 15 : Nat) : Int) (test : Int)
  let d := r.2
  let duty := min r.1.toNat (d.cmuTarget k)
  let last := c.seen.headD (0, 0)
  let d := d.updCmu k (fun c => { c with duty := duty, ramp := true, lastX := some last.1 })
  d.cmuRun k (catchSector last.2 (d.on (Reg.CMU_CFG_DIR k))) test

/-- An estimate's code is applied (R258). -/
def Dev.cmuApplyCode (d : Dev) (k code : Nat) : Dev :=
  let d := d.s (Reg.CMU_STAT_PROPOSE k) 0
  match code with
  | 0 => d.cmuAlign k
  | 1 => d.cmuCatch k
  | 2 => (d.updCmu k (fun c => { c with toIdle := false })).cmuGo k cmBrake
  | _ => (d.updCmu k (fun c => { c with bump := false })).cmuGo k cmWait

/-- The proposal for an estimate, and the codes that the host may choose (R258). -/
def Dev.cmuEstimate (d : Dev) (k : Nat) : Nat × List Nat :=
  let c := d.cmu k
  let test := d.g (Reg.CMU_TSEC_TICKS k)
  match c.est with
  | 0 => (0, [0, 3])
  | 1 => if test ≤ d.g (Reg.CMU_SPD_T_SYNC k) * 250 then (1, [1, 2, 3]) else (2, [2, 3])
  | 2 => (2, [2, 3])
  | _ => (3, [3])

/-- A failed attempt or an abandoned start (R262). -/
def Dev.cmuStartFail (d : Dev) (k reason : Nat) : Dev :=
  d.cmuFault k reason Err.CMU_START_FAIL [d.g (Reg.CMU_STAT_ATTEMPT k), reason]

/-- A retry: SENSE with the next attempt (R262). -/
def Dev.cmuRetry (d : Dev) (k iovr : Nat) : Dev :=
  let d := d.s (Reg.CMU_STAT_PROPOSE k) 0
  let d := d.s (Reg.CMU_STAT_ATTEMPT k) (d.g (Reg.CMU_STAT_ATTEMPT k) + 1)
  (d.updCmu k (fun c => { c with iOvr := iovr })).cmuSense k

/-- A decision of a commutator in DECIDE is applied: codes 0 to 3 of R258, 4 RETRY and 5 ABANDON of R262. -/
def Dev.cmuDecision (d : Dev) (k code iovr : Nat) : Dev :=
  if (d.cmu k).retry then (if code = 4 then d.cmuRetry k iovr else (d.s (Reg.CMU_STAT_PROPOSE k) 0).cmuStartFail k 2)
  else d.cmuApplyCode k code

/-- The next sector in the commanded direction (R254). -/
def Dev.nextSector (d : Dev) (k : Nat) : Nat :=
  if d.on (Reg.CMU_CFG_DIR k) then (d.g (Reg.CMU_STAT_SECTOR k) + 5) % 6 else (d.g (Reg.CMU_STAT_SECTOR k) + 1) % 6

/-- The phase that R263 finds missing after MP_TURNS turns: its mean Low current lies below MP_RATIO / 256 of the mean of the
other two, where that mean reaches MP_IMIN. -/
def Dev.cmuMissing (d : Dev) (k : Nat) : Option Nat :=
  let c := d.cmu k
  let s (i : Nat) : Int := c.sums.getD (i % 3) 0
  let n (i : Nat) : Int := c.cnts.getD (i % 3) 0
  let ratio : Int := d.g (Reg.CMU_MP_MP_RATIO k)
  let imin : Int := d.g (Reg.CMU_MP_MP_IMIN k) * 2 ^ 15
  if c.cnts.any (· == 0) then none
  else (List.range 3).find? (fun i =>
    let two := s (i + 1) * n (i + 2) + s (i + 2) * n (i + 1)
    let den := n (i + 1) * n (i + 2)
    decide (s i * 512 * den < ratio * n i * two) && decide (imin * 2 * den ≤ two))

/-- A commutation: the next sector's phase states in one commanded tick (R254); in RUN the missing-phase test after MP_TURNS
electrical turns (R263). -/
def Dev.commutate (d : Dev) (k : Nat) : Dev :=
  let d := (d.s (Reg.CMU_STAT_SECTOR k) (d.nextSector k)).incWrap (Reg.CMU_CNT_COUNT k)
  let d := d.updCmu k (fun c => { c with crossed := false, comms := c.comms + 1 })
  if d.cmState k = cmRun && decide (6 * max 1 (d.g (Reg.CMU_MP_MP_TURNS k)) ≤ (d.cmu k).comms) then
    let miss := d.cmuMissing k
    let d := d.updCmu k (fun c => { c with sums := [0, 0, 0], cnts := [0, 0, 0], comms := 0 })
    match miss with
    | some i => d.cmuFault k 4 Err.CMU_MISSING_PHASE [i, cmRun]
    | none => d.cmuApply k
  else d.cmuApply k

/-- A current of a phase while it is Low reaches the commutator (R263): a valid result `v`, Q1.23. -/
def Dev.cmuCurrent (d : Dev) (k phase : Nat) (v : Int) : Dev :=
  if d.phaseRole k phase = 1 then
    let d := d.when (d.cmState k == cmAlign) (fun d => d.updCmu k (fun c => { c with peak := max c.peak v }))
    d.when (d.cmState k == cmRun) (fun d => d.updCmu k (fun c =>
      { c with sums := updAt c.sums phase (· + v), cnts := updAt c.cnts phase (· + 1) }))
  else d

/-- ZERO_CROSSING: a recognised crossing reaches the commutator with its tick `t` (R255); `code` numbers the line-voltage crossings
of SENSE in the order of a forward sequence: UV rising, WU falling, VW rising, UV falling, WU rising, VW falling. -/
def execZeroCrossing (k t code : Nat) (s : State) := s.run fun d =>
  let c := d.cmu k
  let st := d.cmState k
  if st = cmSense then d.updCmu k (fun c => { c with seen := (t, code % 6) :: c.seen })
  else if st = cmRun then
    let r := match c.lastX with
      | some t0 => d.openDiv (((min (t - t0) (2 ^ 24 - 1)) * (30 - d.g (Reg.CMU_CFG_ADV k)) : Nat) : Int) 60
      | none => (0, d)
    let d := r.2
    let d := match c.lastX with
      | some t0 => d.s (Reg.CMU_TSEC_TICKS k) (min (t - t0) (2 ^ 24 - 1))
      | none => d
    let due := t + r.1.toNat
    let d := (d.s (Reg.CMU_STAT_MISS k) 0).updCmu k (fun c => { c with lastX := some t, crossed := true, dueAt := due })
    if due < d.tick then d.commutate k else d
  else if st = cmRamp ∧ c.lock then d.updCmu k (fun c => { c with lastX := some t, crossed := true })
  else d

/-- COMMUTATION: at the crossing instant + D the commutator advances its sector (R256). -/
def execCommutation (k : Nat) (s : State) := s.run fun d =>
  if d.cmState k = cmRun ∧ (d.cmu k).crossed then d.commutate k else d

/-- OPEN_LOOP_COMMUTATION: the timed sector instant of RAMP and of the lock phase (R261). -/
def execOpenLoopCommutation (k : Nat) (s : State) := s.run fun d =>
  if d.cmState k = cmRamp then
    let d := d.updCmu k (fun c =>
      if c.lock then { c with lockCnt := if c.crossed then c.lockCnt + 1 else 0, secCnt := c.secCnt + 1 } else c)
    d.commutate k
  else d

/-- SECTOR_MISS: a sector of RUN without a crossing commutates on time; the sixth in a row loses lock (R256). -/
def execSectorMiss (k : Nat) (s : State) := s.run fun d =>
  if d.cmState k = cmRun ∧ !(d.cmu k).crossed then
    let m := d.g (Reg.CMU_STAT_MISS k) + 1
    let d := (d.s (Reg.CMU_STAT_MISS k) m).commutate k
    if 6 ≤ m ∧ d.cmState k = cmRun then
      d.cmuFault k 3 Err.CMU_LOST [d.g (Reg.CMU_TSEC_TICKS k), d.g (Reg.CMU_STAT_SECTOR k)]
    else d
  else d

/-- A command refused in its state (R264). -/
def Dev.cmuRefuse (d : Dev) (k op : Nat) : Dev := d.raise Err.CMU_CMD_REFUSED [k, op, d.cmState k]

/-- The MAIN-mode conditions that a START fails (R265): `none` where it may start. -/
def Dev.cmuStartBad (d : Dev) (k : Nat) : Option Nat :=
  if d.on (Reg.CMU_CFG_MAIN k) then
    let ch := d.g (Reg.CMU_CFG_CH k)
    let legs := (d.cmuHbs k).map (· % 8)
    if d.g (Reg.PWM_CH_CFG_MASK_SRC ch) ≠ k + 1 ∨ legs.any (fun m => d.isNpc ch (m / 2)) ∨ d.on (Reg.PWM_CH_STAT_SAFE ch) then some 12
    else if d.on (Reg.DCL_CH_CFG_SL ch) then some 8
    else none
  else none

/-- CMU_START (R257, R265). -/
def execCmuStart (k : Nat) (s : State) := s.run fun d =>
  if d.cmState k = cmIdle then
    match d.cmuStartBad k with
    | some r => (d.s (Reg.CMU_STAT_REASON k) r).raise Err.CMU_CFG_BAD [k, r]
    | none => ((d.s (Reg.CMU_STAT_REASON k) 0).s (Reg.CMU_STAT_ATTEMPT k) 0).cmuSense k
  else d.cmuRefuse k 1

/-- CMU_STOP, with or without braking (R264). -/
def execCmuStop (k : Nat) (brk : Bool) (s : State) := s.run fun d =>
  let st := d.cmState k
  if st = cmIdle ∨ st = cmFault then d.cmuRefuse k 2
  else
    let d := ((d.s (Reg.CMU_STAT_PROPOSE k) 0).withdraw 0 k).withdraw 1 k
    if brk then (d.updCmu k (fun c => { c with toIdle := true })).cmuGo k cmBrake
    else (d.cmuApply k).cmuGo k cmIdle

/-- CMU_DECIDE: a permitted code is applied (R259, R262). `who` is 0 for the supervisor, p + 1 for host port p. -/
def Dev.cmuDecide (d : Dev) (k code iovr who : Nat) : Nat × Dev :=
  if d.cmState k = cmDecide then
    let prop := d.g (Reg.CMU_STAT_PROPOSAL k)
    let ok := if (d.cmu k).retry then (code == 5 || (code == 4 && d.g (Reg.CMU_STAT_ATTEMPT k) != 3))
      else (d.cmuEstimate k).2.contains code
    if ok then
      let f := if (d.cmu k).retry then 0 else 1
      (0, (d.decided f k code who).cmuDecision k code iovr)
    else (Err.CMU_DECIDE_REFUSED, (d.s (Reg.CMU_STAT_REASON k) 9).raise Err.CMU_DECIDE_REFUSED [k, code, prop])
  else (Err.CMU_CMD_REFUSED, d.cmuRefuse k 3)

/-- CMU_DECIDE as a command of the supervisor. -/
def execCmuDecide (k code iovr : Nat) (s : State) := s.run fun d => (d.cmuDecide k code iovr 0).2

/-- CMU_CLEAR: FAULT becomes IDLE; REASON stays until the next START (R264). -/
def execCmuClear (k : Nat) (s : State) := s.run fun d =>
  if d.cmState k = cmFault then d.cmuGo k cmIdle else d.cmuRefuse k 4

/-- What the crossings of SENSE make of the estimate (R257): 0 still, 1 forward, 2 reverse, 3 inconsistent, with T_est. -/
def Dev.cmuSeen (d : Dev) (k : Nat) : Nat × Nat × Dev :=
  let l := (d.cmu k).seen
  let pairs := l.zip (l.drop 1)
  let up := pairs.all (fun p => p.1.2 == (p.2.2 + 1) % 6)
  let down := pairs.all (fun p => p.2.2 == (p.1.2 + 1) % 6)
  match l with
  | [] => (0, 2 ^ 24 - 1, d)
  | a :: _ =>
    if 4 ≤ l.length ∧ (up ∨ down) then
      let r := d.openDiv ((a.1 : Int) - ((l.getD 3 (0, 0)).1 : Int)) 3
      let t := min r.1.toNat (2 ^ 24 - 1)
      if d.g (Reg.CMU_CATCH_T_STILL k) * 2500 < t then (0, t, r.2)
      else (if up = !d.on (Reg.CMU_CFG_DIR k) then 1 else 2, t, r.2)
    else (3, 0, d)

/-- SENSE_END: the estimate is decided or proposed (R257 to R259). -/
def execSenseEnd (k : Nat) (s : State) := s.run fun d =>
  if d.cmState k = cmSense then
    let e := d.cmuSeen k
    let d := e.2.2.updCmu k (fun c => { c with est := e.1, retry := false })
    let d := (d.s (Reg.CMU_TSEC_TICKS k) e.2.1).s (Reg.CMU_STAT_EST_REV k) (b2n (e.1 == 2))
    let code := (d.cmuEstimate k).1
    if d.assistMode 1 = 0 then d.cmuApplyCode k code
    else
      let d := ((d.s (Reg.CMU_STAT_PROPOSE k) 1).s (Reg.CMU_STAT_PROPOSAL k) code).cmuGo k cmDecide
      (d.raise Err.CMU_PROPOSE [k, code, e.2.1]).propose 1 k code
  else d

/-- BRAKE_END: BRAKE ends by low current, or after 10 s (`late`) with the peak current (R260). -/
def execBrakeEnd (k : Nat) (late : Bool) (peak : Nat) (s : State) := s.run fun d =>
  if d.cmState k = cmBrake then
    if late then d.cmuFault k 10 Err.CMU_BRAKE_TIMEOUT [peak]
    else if (d.cmu k).toIdle then d.cmuGo k cmIdle
    else d.cmuAlign k
  else d

/-- ALIGN_END: T_ALIGN ends (R261), or finds the Low phase missing (R263). -/
def execAlignEnd (k : Nat) (s : State) := s.run fun d =>
  if d.cmState k = cmAlign then
    let c := d.cmu k
    if c.peak < (c.iA * 2 ^ 14 : Nat) then
      let low := [1, 2, 2, 0, 0, 1].getD (d.g (Reg.CMU_STAT_SECTOR k)) 1
      d.cmuFault k 4 Err.CMU_MISSING_PHASE [low, cmAlign]
    else d.cmuGo k cmRamp
  else d

/-- RAMP_END: the commutator waits for lock at T_SYNC (R261). -/
def execRampEnd (k : Nat) (s : State) := s.run fun d =>
  if d.cmState k = cmRamp then d.updCmu k (fun c => { c with lock := true, lockCnt := 0, secCnt := 0, crossed := false }) else d

/-- LOCK_ACHIEVED: LOCK_N consecutive sectors with a crossing move the commutator to RUN (R261). -/
def execLockAchieved (k : Nat) (s : State) := s.run fun d =>
  if d.cmState k = cmRamp ∧ (d.cmu k).lock ∧ max 1 (d.g (Reg.CMU_ZC_LOCK_N k)) ≤ (d.cmu k).lockCnt then
    let d := d.updCmu k (fun c => { c with duty := d.cmuTarget k, ramp := false })
    d.cmuRun k (d.g (Reg.CMU_STAT_SECTOR k)) (d.g (Reg.CMU_SPD_T_SYNC k) * 250)
  else d

/-- CMU_START_FAIL: 36 sectors without lock fail the attempt, and the decision function follows (R261, R262). -/
def execCmuStartFail (k : Nat) (s : State) := s.run fun d =>
  if d.cmState k = cmRamp ∧ (d.cmu k).lock ∧ 36 ≤ (d.cmu k).secCnt then
    let a := d.g (Reg.CMU_STAT_ATTEMPT k)
    if d.assistMode 0 = 0 then
      if a < 3 then (d.updCmu k (fun c => { c with bump := true })).cmuGo k cmWait else d.cmuStartFail k 1
    else
      let code := if a = 3 then 5 else 4
      let d := d.updCmu k (fun c => { c with retry := true })
      let d := ((d.s (Reg.CMU_STAT_PROPOSE k) 1).s (Reg.CMU_STAT_PROPOSAL k) code).cmuGo k cmDecide
      (d.raise Err.CMU_PROPOSE [k, code, d.g (Reg.CMU_TSEC_TICKS k)]).propose 0 k code
  else d

/-- CMU_WAIT_END: after T_RETRY the commutator re-enters SENSE (R259, R262). -/
def execCmuWaitEnd (k : Nat) (s : State) := s.run fun d =>
  if d.cmState k = cmWait then
    let d := d.when ((d.cmu k).bump) (fun d => d.s (Reg.CMU_STAT_ATTEMPT k) (d.g (Reg.CMU_STAT_ATTEMPT k) + 1))
    (d.updCmu k (fun c => { c with bump := false })).cmuSense k
  else d

/-- The code that a commutator's deadline applies (R259, R262). -/
def Dev.cmuDeadline (d : Dev) (k : Nat) (p : Proposal) : Dev :=
  let code := if p.mode = 1 then p.code else if p.func = 0 then 5 else 3
  (d.deadlineTaken p.func k code).cmuDecision k code 0

/-- A carrier boundary of a commutator (R258, R266): the duty moves toward CMU_DUTY by at most 1/256 of full duty. -/
def Dev.cmuBoundary (d : Dev) (k : Nat) : Dev :=
  if d.cmState k = cmRun then
    d.updCmu k (fun c =>
      let t := d.cmuTarget k
      { c with duty := if !c.ramp then t else if c.duty < t then min t (c.duty + 2 ^ 15) else max t (c.duty - 2 ^ 15) })
  else d

/-- An engine write to a commutator target (R267). -/
def Dev.cmuTargetWrite (d : Dev) (index v : Nat) : Dev :=
  let k := index / 16 % 2
  if index % 16 = 0 then d.s (Reg.CMU_DUTY_DUTY k) v
  else
    let z := toInt 24 v
    d.s (Reg.CMU_ILIM_ILIM k) (if z ≤ 0 then 1 else min 255 (max 1 (z.toNat / 2 ^ 15)))

/-- A register write to a commutator by its offset, but for CMU_CTL, whose commands have rows of their own (R268). -/
def Dev.cmuWrite (d : Dev) (k off v : Nat) : Dev :=
  let a := 0x300A0000 + 0x40 * k + off
  let st := d.cmState k
  let d := d.regStore a a 0x300A0000 v (lockIf (st != cmIdle && st != cmFault)) Err.CMU_RWL_REFUSED
  if off = 0x0C then d.s (Reg.CMU_SPD_T_R0 k) (max (d.g (Reg.CMU_SPD_T_R0 k)) (d.g (Reg.CMU_SPD_T_SYNC k))) else d

end Sys2Proof.Machine
end

