-- ==== Sys2Proof/Machine/Trig.lean ====
section
/-! DEFINITION. Machine/Trig.lean: sines, angles, square roots, and a value that a free value picks within a bound. -/

namespace Sys2Proof.Machine

/-- π times 2^60, rounded. -/
def piFix : Int := 3622009729038561421

/-- The Taylor terms of sine: `t` is the present term, `x2` the square of the angle, all in 2^-60. -/
def sinTerms (x2 t sum k : Int) : Nat → Int
  | 0 => sum
  | n + 1 =>
    let t' := -(t * x2 / 2 ^ 60) / (2 * k * (2 * k + 1))
    sinTerms x2 t' (sum + t') (k + 1) n

/-- The sine of an angle of the first quadrant in 2^-24 turns, in units of 2^-60. -/
def sinQuad (u : Nat) : Int :=
  let th := piFix * (u : Int) / 2 ^ 23
  sinTerms (th * th / 2 ^ 60) th th 1 14

/-- The sine of an angle in 2^-24 turns, in units of 2^-60 (correct to far below one part in 2^40). -/
def sinFix (p : Nat) : Int :=
  let q := p % 2 ^ 24 / 2 ^ 22
  let u := p % 2 ^ 22
  match q with
  | 0 => sinQuad u
  | 1 => sinQuad (2 ^ 22 - u)
  | 2 => -sinQuad u
  | _ => -sinQuad (2 ^ 22 - u)

/-- The cosine of an angle in 2^-24 turns, in units of 2^-60. -/
def cosFix (p : Nat) : Int := sinFix (p + 2 ^ 22)

/-- An integer that a free value picks among those within `b` of num / den (den positive). -/
def pickNear (num den : Int) (b : Int) (fv : Nat) : Int :=
  let lo := -(Int.fdiv (b * den - num) den)
  let hi := Int.fdiv (num + b * den) den
  lo + ((fv : Int) % (hi - lo + 1))

/-- The integer square root, by bits from the highest of `n`. -/
def isqrtBits (v r : Nat) : Nat → Nat
  | 0 => r
  | n + 1 => if (r + 2 ^ n) * (r + 2 ^ n) ≤ v then isqrtBits v (r + 2 ^ n) n else isqrtBits v r n

/-- The integer square root of a value below 2^80. -/
def isqrt (v : Nat) : Nat := isqrtBits v 0 40

/-- One bit of the search for an angle of the first quadrant in 2^-24 turns: kept where its tangent does not exceed y / x. -/
def atanBits (y x : Int) (u : Nat) : Nat → Nat
  | 0 => u
  | n + 1 =>
    let t := u + 2 ^ n
    if sinQuad t * x ≤ sinQuad (2 ^ 22 - t) * y then atanBits y x t n else atanBits y x u n

/-- The angle of the first quadrant with tangent y / x, for y ≥ 0 and x ≥ 0, in 2^-24 turns, rounded down. -/
def atanQuad (y x : Int) : Nat := if x = 0 then 2 ^ 22 else atanBits y x 0 22

/-- The angle of (x, y) as an unsigned fraction of a turn in 2^-24 turns, to within one unit. -/
def atan2Turn (y x : Int) : Nat :=
  if 0 ≤ x ∧ 0 ≤ y then atanQuad y x
  else if x < 0 ∧ 0 ≤ y then (2 ^ 23 - atanQuad y (-x)) % 2 ^ 24
  else if x < 0 then (2 ^ 23 + atanQuad (-y) (-x)) % 2 ^ 24
  else (2 ^ 24 - atanQuad (-y) x) % 2 ^ 24

end Sys2Proof.Machine
end

