-- ==== Sys2Proof/Machine/Axes.lean ====
section
/-! DEFINITION. Machine/Axes.lean: the step axes (R271 to R291). -/

namespace Sys2Proof.Machine

/-- The state numbers of R275. -/
def axDisabled : Nat := 0
def axHold : Nat := 1
def axRun : Nat := 2
def axStopping : Nat := 3
def axHoming : Nat := 4
def axFault : Nat := 5

/-- STATE of an axis. -/
def Dev.axState (d : Dev) (n : Nat) : Nat := d.g (Reg.STP_STAT_STATE n)

/-- One microstep in axis units (R272). -/
def mstep : Int := 2 ^ 48

/-- The sign of an integer as +1 or -1. -/
def sgn (z : Int) : Int := if z < 0 then -1 else 1

/-- The registers that show an axis's position, speed and direction. -/
def Dev.axShow (d : Dev) (n : Nat) : Dev :=
  let a := d.axis n
  ((d.setWord (Reg.STP_POS n) (w32 (a.p / mstep))).setWord (Reg.STP_SPD n) (a.v / 2 ^ 16).toNat).s (Reg.STP_STAT_DIR n) (b2n (a.dir == 1))

/-- An axis enters a state; its half-bridges follow. -/
def Dev.axGo (d : Dev) (n st : Nat) : Dev :=
  let d := d.s (Reg.STP_STAT_STATE n) st
  (d.each (List.range 4) (fun d i => d.hbApply (4 * n + i))).axShow n

/-- AMAX, AEMG and V0 in internal units (R272). AEMG 0 acts as AMAX. -/
def Dev.axA (d : Dev) (n : Nat) : Int := d.g (Reg.STP_AMAX_ACC n)
def Dev.axAemg (d : Dev) (n : Nat) : Int := if d.on (Reg.STP_AEMG_ACC n) then d.g (Reg.STP_AEMG_ACC n) else d.axA n
def Dev.axV0 (d : Dev) (n : Nat) : Int := max ((d.g (Reg.STP_VSTART_SPEED n) : Int) * 2 ^ 16) (d.axA n)

/-- The speed limit of the pulse output in Q0.32 (R274). -/
def Dev.axPulseMax (d : Dev) (n : Nat) : Nat := 2 ^ d.g (Reg.STP_OUT_SDIV n) * 2 ^ 32 / (2 * max 1 (d.g (Reg.STP_OUT_STEP_W n)))

/-- VM of R278 before the engine scale: VMAX, or the clamp of R274. -/
def Dev.axVmax (d : Dev) (n : Nat) : Int :=
  let v := d.g (Reg.STP_VMAX_SPEED n)
  ((if d.on (Reg.STP_CFG_OUTM n) then min v (d.axPulseMax n) else v : Nat) : Int) * 2 ^ 16

/-- VM with the engine scale (R279); its rounding is open (log 2). -/
def Dev.axVM (d : Dev) (n : Nat) : Int × Dev :=
  let a := d.axis n
  if a.scaled then d.openDiv (d.axVmax n * (max a.scale (2 ^ 15) : Nat)) (2 ^ 23) else (d.axVmax n, d)

/-- One tick of the trapezoidal profile (R278): the new speed and direction. -/
def profStep (d v dir v0 a vm : Int) (hold : Bool) : Int × Int :=
  let m : Int := d.natAbs
  if v = 0 then (if d = 0 ∨ hold then (0, dir) else (min v0 m, sgn d))
  else if dir * d ≤ 0 then (if v ≤ v0 then (0, dir) else (max (v - a) v0, dir))
  else if m ≤ v ∧ v ≤ v0 then (m, dir)
  else if 2 * a * (m - v) ≤ v * v - v0 * v0 then (max (v - a) v0, dir)
  else if v < vm then (min (v + a) vm, dir)
  else (max (v - a) vm, dir)

/-- The speed that a limit at distance `m` ahead allows: the braking test and the last-tick rule with the absolute speed (R280). -/
def limitStep (m v v0 a : Int) : Int :=
  if m ≤ 0 then 0
  else if m ≤ v ∧ v ≤ v0 then m
  else if 2 * a * (m - v) ≤ v * v - v0 * v0 then max (v - a) v0
  else v

/-- Deceleration at a rate: to V0, then to rest. -/
def decelStep (v v0 a : Int) : Int := if v ≤ v0 then 0 else max (v - a) v0

/-- The virtual limits in force, in axis units (R280). -/
def Dev.axLimits (d : Dev) (n : Nat) : Option (Int × Int) :=
  let lo := d.sg (Reg.STP_VLIM_LO_VALUE n)
  let hi := d.sg (Reg.STP_VLIM_HI_VALUE n)
  if d.on (Reg.STP_STAT_HOMED n) && decide (lo < hi) then some (lo * mstep, hi * mstep) else none

/-- A target clamped to the virtual limits; a clamp sets TCLAMP and raises STP_TGT_CLAMPED when it begins (R280). -/
def Dev.axClamp (d : Dev) (n : Nat) (e : Int) : Int × Dev :=
  match d.axLimits n with
  | none => (e, d.updAxis n (fun a => { a with clamped := false }))
  | some (lo, hi) =>
    let c := clampInt lo hi e
    if c = e then (e, d.updAxis n (fun a => { a with clamped := false }))
    else
      let was := (d.axis n).clamped
      let d := (d.s (Reg.STP_STAT_TCLAMP n) 1).updAxis n (fun a => { a with clamped := true })
      (c, d.when (!was) (fun d => d.raise Err.STP_TGT_CLAMPED [n, w32 (e / mstep), w32 (c / mstep)]))

/-- The unclamped geared target of R282. -/
def Dev.axGear (d : Dev) (n : Nat) : Int :=
  let a := d.axis n
  let w := (d.wheel (d.g (Reg.STP_GEAR_WHEEL n))).pos / 256
  let r := d.sg (Reg.STP_RATIO_RATIO n) * (w - a.wref) / 2 ^ 40
  a.gorg + (if a.neg then -r else r) * mstep

/-- The direction of a homing phase: SEEK (reversed once or not) and SLOW toward HDIR, BACKOFF against it (R285). -/
def Dev.homeDir (d : Dev) (n : Nat) : Int :=
  let h : Int := if d.on (Reg.STP_HOME_HDIR n) then -1 else 1
  match d.g (Reg.STP_STAT_HSTEP n) with
  | 1 => if (d.axis n).rev then -h else h
  | 2 => -h
  | _ => h

/-- The axis at rest ends a stop, a homing phase or a failed homing (R275, R285, R286). -/
def Dev.homeNext (d : Dev) (n step : Nat) : Dev :=
  (d.s (Reg.STP_STAT_HSTEP n) step).updAxis n (fun a => { a with pStart := a.p, decel := false, pEdge := none, emg := false })

/-- What a rest of the axis leads to. -/
def Dev.axAtRest (d : Dev) (n : Nat) : Dev :=
  let a := d.axis n
  let st := d.axState n
  if (st = axStopping ∨ st = axHoming) ∧ a.fail ≠ 0 then
    let step := d.g (Reg.STP_STAT_HSTEP n)
    let d := (d.s (Reg.STP_STAT_HOMED n) 0).s (Reg.STP_STAT_REASON n) a.fail
    let d := if st = axStopping then d.setWord (Reg.STP_TARGET n) (w32 (a.p / mstep)) else d
    let d := d.raise Err.STP_HOME_FAIL [n, a.fail, step]
    ((d.s (Reg.STP_STAT_HSTEP n) 0).updAxis n (fun a => { a with fail := 0, decel := false, emg := false })).axGo n axHold
  else if st = axStopping then
    ((d.setWord (Reg.STP_TARGET n) (w32 (a.p / mstep))).updAxis n (fun a => { a with decel := false, emg := false })).axGo n axHold
  else if st = axHoming ∧ a.decel then
    match d.g (Reg.STP_STAT_HSTEP n) with
    | 1 => if a.homeIn then d.homeNext n 2 else d.updAxis n (fun a => { a with decel := false, emg := false })
    | 2 => d.homeNext n 3
    | 4 =>
      let e := (a.pEdge.getD 0) / mstep
      let d := (d.raise Err.STP_HOME_DONE [n, w32 e, d.g (Reg.STP_STAT_BOUNCE n)]).s (Reg.STP_STAT_HSTEP n) 0
      (d.updAxis n (fun a => { a with decel := false, pEdge := none })).axGo n axHold
    | _ => d
  else d

/-- Homing fails: the axis decelerates to rest, then enters HOLD (R286). -/
def Dev.homeFail (d : Dev) (n reason : Nat) (emg : Bool) : Dev :=
  let d := d.updAxis n (fun a => { a with fail := reason, decel := true, emg := emg })
  if (d.axis n).v = 0 then d.axAtRest n else d

/-- A speed and direction reach the position (R272), with the hold of R274 after a change of direction. -/
def Dev.axMove (d : Dev) (n : Nat) (v dir : Int) : Dev :=
  let a := d.axis n
  let outm := d.on (Reg.STP_CFG_OUTM n)
  let turn := outm && dir != a.dir && d.on (Reg.STP_OUT_DSETUP n)
  let v := if turn then 0 else v
  let p := a.p + dir * v
  let sd : Int := mstep * 2 ^ d.g (Reg.STP_OUT_SDIV n)
  let pulse := outm && (p / sd != a.p / sd)
  d.updAxis n (fun a =>
    { a with p := p, v := v, dir := dir, hold := if turn then d.g (Reg.STP_OUT_DSETUP n) else a.hold - 1,
             standby := a.standby && v == 0,
             stepTo := if pulse then some (d.tick + d.g (Reg.STP_OUT_STEP_W n)) else a.stepTo.filter (fun t => decide (d.tick < t)) })

/-- Whether a qualified hardware limit lies in a direction (R281). -/
def Dev.hwStop (d : Dev) (n : Nat) (dir : Int) : Bool :=
  (dir == 1 && d.on (Reg.STP_STAT_LIM_HI_ACT n)) || (dir == -1 && d.on (Reg.STP_STAT_LIM_LO_ACT n))

/-- A motion toward a target `e` with speed limit `vm`, under the limits of R280 and R281; `vg` is the target's own movement
(R282). -/
def Dev.axPursue (d : Dev) (n : Nat) (e vm vg : Int) : Dev :=
  let a := d.axis n
  let v0 := d.axV0 n
  let acc := d.axA n
  let dist := e - a.p
  if a.v ≠ 0 ∧ d.hwStop n a.dir then d.axMove n (decelStep a.v v0 (d.axAemg n)) a.dir
  else if a.v = 0 ∧ dist ≠ 0 ∧ d.hwStop n (sgn dist) then d.axMove n 0 a.dir
  else
    let u := a.dir * a.v - vg
    let r := profStep dist u.natAbs (if vg = 0 then a.dir else sgn u) v0 acc vm (decide (a.hold ≠ 0))
    let vel := clampInt (-vm) vm (vg + r.2 * r.1)
    let dir := if vel = 0 then (if vg = 0 then r.2 else a.dir) else sgn vel
    let v : Int := vel.natAbs
    let v := match d.axLimits n with
      | none => v
      | some (lo, hi) => min v (limitStep (if dir = 1 then hi - a.p else a.p - lo) v v0 acc)
    d.axMove n v dir

/-- One tick of an axis: the profile of its state (R275 to R285). -/
def Dev.axTick (d : Dev) (n : Nat) : Dev :=
  let a := d.axis n
  let st := d.axState n
  let v0 := d.axV0 n
  let d :=
    if st = axRun then
      let vm := d.axVM n
      let d := vm.2
      if d.on (Reg.STP_CFG_MODE n) then
        let g := d.axClamp n (d.axGear n)
        let vg := g.1 - a.g
        let d := (g.2.updAxis n (fun a => { a with g := g.1 })).axPursue n g.1 vm.1 vg
        let p := (d.axis n).p
        d.setWord (Reg.STP_LAG n) (w32 (satInt 32 ((g.1 - p) / mstep)))
      else
        let e := d.axClamp n (d.sg (Reg.STP_TARGET_VALUE n) * mstep)
        let d := e.2.axPursue n e.1 vm.1 0
        let b := d.axis n
        d.s (Reg.STP_STAT_AT_TARGET n) (b2n (b.v == 0 && b.p == e.1))
    else if st = axStopping then
      let d := d.axMove n (decelStep a.v v0 (if a.emg then d.axAemg n else d.axA n)) a.dir
      if (d.axis n).v = 0 then d.axAtRest n else d
    else if st = axHoming then
      if a.decel then
        let d := d.axMove n (decelStep a.v v0 (if a.emg then d.axAemg n else d.axA n)) a.dir
        if (d.axis n).v = 0 then d.axAtRest n else d
      else
        let step := d.g (Reg.STP_STAT_HSTEP n)
        let stall := d.g (Reg.STP_LIMSRC_HOME_SRC n) % 64 = 63
        let vm := d.axVM n
        let slow := (d.g (Reg.STP_HV_SLOW_SPEED n) : Int) * 2 ^ 16
        let d := vm.2.axPursue n (a.p + d.homeDir n * 2 ^ 90) (if step = 1 ∧ !stall then vm.1 else slow) 0
        let far : Int := (if d.on (Reg.STP_HDMAX_DIST n) then (d.g (Reg.STP_HDMAX_DIST n) : Int) else 2 ^ 31 - 1) * mstep
        if far < ((d.axis n).p - a.pStart).natAbs then d.homeFail n (if step = 2 then 4 else 2) false else d
    else d
  d.axShow n

/-! ## Coils -/

/-- The speed in full steps/s times 2^56 / 1 (R287). -/
def Axis.fFix (a : Axis) : Int := a.dir * a.v * 250000000

/-- Whether the speed reaches VLD_MIN × 10 full steps/s (R289). -/
def Dev.axFast (d : Dev) (n : Nat) : Bool :=
  decide ((d.g (Reg.STP_DRV_VLD_MIN n) * 10 * 2 ^ 56 : Nat) ≤ ((d.axis n).fFix).natAbs)

/-- The effective current I in mA (R289, R290). -/
def Dev.axCurrent (d : Dev) (n : Nat) : Nat :=
  let a := d.axis n
  if d.axState n = axFault ∨ a.standby then d.g (Reg.STP_CUR_IHOLD n)
  else if d.on (Reg.STP_CFG_ADAPT_EN n) && d.axFast n then a.cur
  else d.g (Reg.STP_CUR_IRUN n)

/-- The coil angle at the middle of the coming period, in microsteps of a 1,024-step turn (R273). -/
def Dev.axTheta (d : Dev) (n per : Nat) : Nat :=
  let a := d.axis n
  ((a.p * 2 + a.dir * a.v * per) / (2 * mstep) % 1024).toNat

/-- A duty of a half-bridge: (1 + d) / 2 of full duty, clamped to the Q1.23 range. -/
def halfDuty (dq : Int) : Nat := (clampInt 0 0x7FFFFF ((2 ^ 23 + dq) / 2)).toNat

/-- The coil duties of a carrier boundary (R287); each lies within one unit of the exact value, by a free value (log 2). -/
def Dev.axCoils (d : Dev) (n per : Nat) : Dev :=
  let a := d.axis n
  let stall := d.axState n = axFault
  let th := if stall then a.theta else d.axTheta n per
  let i : Int := d.axCurrent n
  let f := if stall then 0 else a.fFix
  let ur := i * d.g (Reg.STP_COIL_R_COIL n) * 2 ^ 20 / 1000
  let uq := (piFix * d.g (Reg.STP_COIL_L_COIL n) * i * f / (2000000 * 2 ^ 60) + (d.g (Reg.STP_DRV_KE n) : Int) * f / 1000) / 2 ^ 36
  let sn := sinFix (th * 2 ^ 14)
  let cs := cosFix (th * 2 ^ 14)
  let vbr : Int := d.g Reg.AUX_VBR_MV
  let q (z : Int) (fv : Nat) : Int := if vbr = 0 then toInt 24 fv else z * 2 ^ 23 / (2 ^ 80 * vbr) + ((fv % 2 : Nat) : Int)
  let da := q (ur * cs - uq * sn) d.freeVal
  let d := d.tookFree
  let db := q (ur * sn + uq * cs) d.freeVal
  let d := d.tookFree
  let dm : Int := d.g (Reg.STP_DRV_DMAX n) * 2 ^ 15
  let isOver := decide (dm * dm < da * da + db * db)
  let r : Int := max 1 (isqrt (da * da + db * db).toNat)
  let da := if isOver then da * dm / r else da
  let db := if isOver then db * dm / r else db
  let d := d.when isOver (fun d => d.s (Reg.STP_STAT_VSAT n) 1)
  d.updAxis n (fun a => { a with theta := th, duties := [halfDuty da, halfDuty (-da), halfDuty db, halfDuty (-db)] })

/-- IEFF shows I and LAGF. -/
def Dev.axIeff (d : Dev) (n : Nat) : Dev :=
  (d.s (Reg.STP_IEFF_I n) (d.axCurrent n)).s (Reg.STP_IEFF_LAGF n) (ofInt 16 (d.axis n).lagf)

/-- The stall of an axis (R285, R290): the home event of stall homing, else FAULT. -/
def Dev.axStall (d : Dev) (n : Nat) : Dev :=
  let a := d.axis n
  if d.axState n = axHoming ∧ d.g (Reg.STP_LIMSRC_HOME_SRC n) % 64 = 63 then
    let e := a.p
    let d := d.updAxis n (fun a => { a with v := 0, p := d.sg (Reg.STP_HOFS_VALUE n) * mstep, stalls := 0, pEdge := none, decel := false })
    let d := (d.s (Reg.STP_STAT_HOMED n) 1).s (Reg.STP_STAT_HSTEP n) 0
    (d.raise Err.STP_HOME_DONE [n, w32 (e / mstep), d.g (Reg.STP_STAT_BOUNCE n)]).axGo n axHold
  else
    let d := d.updAxis n (fun a => { a with v := 0, stalls := 0, decel := false, fail := 0 })
    let d := ((d.s (Reg.STP_STAT_HOMED n) 0).s (Reg.STP_STAT_STALL n) 1).s (Reg.STP_STAT_REASON n) 1
    let d := d.raise Err.STP_STALL [n, ofInt 16 a.lagf, d.axCurrent n, w32 (a.p / mstep)]
    d.axGo n axFault

/-- The load measurement after a carrier boundary (R288 to R290), where both results are valid and newer. The rounding of LAG and
LAGF is open (log 2). -/
def Dev.axLoad (d : Dev) (n : Nat) : Dev :=
  let ca := 4 * n
  let cb := 4 * n + 2
  let a := d.axis n
  let ok (c : Nat) := !d.on (Reg.SAR_RES_INVALID c) && !d.on (Reg.SAR_RES_PRED c)
  let ta := d.word (Reg.SAR_TIME ca)
  let tb := d.word (Reg.SAR_TIME cb)
  if ok ca && ok cb && ta != a.sarAt && tb != a.sarAt2 then
    let ia := -(d.sg (Reg.SAR_RES_VALUE ca))
    let ib := -(d.sg (Reg.SAR_RES_VALUE cb))
    let ang : Int := if ia = 0 ∧ ib = 0 then (d.freeVal % 2 ^ 24 : Nat) else atan2Turn ib ia
    let d := d.when (decide (ia = 0 ∧ ib = 0)) Dev.tookFree
    let l := d.openDiv (a.dir * ((a.theta : Int) * 2 ^ 14 - ang)) (2 ^ 14)
    let lag := toInt 10 (ofInt 10 l.1)
    let g := l.2.openDiv (16 * lag - a.lagf) 16
    let d := g.2
    let lagf := a.lagf + g.1
    let fast := d.axFast n
    let irun := d.g (Reg.STP_CUR_IRUN n)
    let i := d.axCurrent n
    let stepI := d.g (Reg.STP_ADAPT_ISTEP n) * 8
    let upd := a.upd + 1
    let cur :=
      if !(d.on (Reg.STP_CFG_ADAPT_EN n) && fast) then irun
      else if (16 * d.g (Reg.STP_LOAD_LD_HI n) : Nat) < lagf then min irun (a.cur + stepI)
      else if upd % 16 = 0 ∧ lagf < (16 * d.g (Reg.STP_LOAD_LD_LO n) : Nat) then max (d.g (Reg.STP_ADAPT_IMIN n)) (a.cur - stepI)
      else a.cur
    let near := decide (((16 * d.g (Reg.STP_LOAD_LD_STALL n) : Nat) : Int) ≤ lagf) && i == irun && fast
    let stalls := if near then a.stalls + 1 else 0
    let d := d.updAxis n (fun a => { a with lagf := lagf, upd := upd, cur := cur, stalls := stalls, sarAt := ta, sarAt2 := tb })
    if max 1 (d.g (Reg.STP_LOAD_STALL_N n)) ≤ stalls ∧ !d.on (Reg.STP_CFG_OUTM n) then d.axStall n else d
  else d

/-- A boundary of an axis's carrier. -/
def Dev.axBoundary (d : Dev) (n per : Nat) : Dev :=
  if d.axState n = axDisabled ∨ d.on (Reg.STP_CFG_OUTM n) then d
  else
    let d := d.axCoils n per
    let d := if d.axState n = axFault then d else d.axLoad n
    d.axIeff n

/-! ## Commands -/

/-- A command refused in its state (R275). -/
def Dev.axRefuse (d : Dev) (n op : Nat) : Bool × Dev := (false, d.raise Err.STP_CMD_REFUSED [n, op, d.axState n])

/-- A command refused for its configuration, with the failed condition, whose number is open (log 33). -/
def Dev.axCfgBad (d : Dev) (n c : Nat) : Bool × Dev := (false, d.raise Err.STP_CFG_BAD [n, Config.recordNumber Err.STP_CFG_BAD c])

/-- ENABLE (R275). The conditions are numbered 1 owner, 2 carrier. -/
def Dev.axEnable (d : Dev) (n : Nat) : Bool × Dev :=
  if d.axState n ≠ axDisabled then d.axRefuse n 1
  else
    let coil := !d.on (Reg.STP_CFG_OUTM n)
    if coil && (List.range 4).any (fun i => d.g (Reg.HB_CFG_OWNER (4 * n + i)) != 4) then d.axCfgBad n 1
    else if coil && !d.on (Reg.ACAR_CFG_EN (d.g (Reg.STP_CFG_CAR n))) then d.axCfgBad n 2
    else
      let d := d.updAxis n (fun a => { a with v := 0, standby := false, cur := d.g (Reg.STP_CUR_IRUN n), stalls := 0, lagf := 0, upd := 0 })
      let d := d.each (List.range 4) (fun d i => d.updHb (4 * n + i) (fun h => { h with live := false, want := false }))
      (true, d.axGo n axHold)

/-- DISABLE (R275). -/
def Dev.axDisable (d : Dev) (n : Nat) : Bool × Dev :=
  if d.axState n ≠ axHold ∧ d.axState n ≠ axFault then d.axRefuse n 2
  else
    let d := d.when (!d.on (Reg.STP_CFG_OUTM n)) (fun d => d.s (Reg.STP_STAT_HOMED n) 0)
    (true, (d.updAxis n (fun a => { a with v := 0, stepTo := none })).axGo n axDisabled)

/-- START (R274, R275, R282). The conditions are numbered 3 wheel disabled, 4 the axis's own wheel. -/
def Dev.axStart (d : Dev) (n : Nat) : Bool × Dev :=
  if d.axState n ≠ axHold then d.axRefuse n 3
  else
    let w := d.g (Reg.STP_GEAR_WHEEL n)
    let gear := d.on (Reg.STP_CFG_MODE n)
    if gear && !d.on (Reg.WHL_CFG_EN w) then d.axCfgBad n 3
    else if gear && d.g (Reg.WHL_CFG_SRC w) == 5 && d.g (Reg.WHL_CFG_SEL w) == n then d.axCfgBad n 4
    else
      let d := d.when gear (fun d =>
        (d.s (Reg.STP_GEAR_SIGN n) 0).updAxis n (fun a =>
          { a with wref := (d.wheel w).pos / 256, gorg := a.p, g := a.p, neg := false }))
      let d := d.when (d.on (Reg.STP_CFG_OUTM n) && decide (d.axPulseMax n < d.g (Reg.STP_VMAX_SPEED n))) (fun d =>
        (d.s (Reg.STP_STAT_VCLAMP n) 1).raise Err.STP_VCLAMP [n, d.axPulseMax n])
      (true, (d.updAxis n (fun a => { a with standby := false, clamped := false })).axGo n axRun)

/-- STOP (R275, R286). -/
def Dev.axStop (d : Dev) (n : Nat) : Bool × Dev :=
  if d.axState n ≠ axRun ∧ d.axState n ≠ axHoming then d.axRefuse n 4
  else
    let homing := d.axState n = axHoming
    let d := d.updAxis n (fun a => { a with fail := if homing then 5 else 0, decel := true })
    let d := d.axGo n axStopping
    (true, if (d.axis n).v = 0 then d.axAtRest n else d)

/-- HOME (R285). Condition 5: HV_SLOW below VLD_MIN with stall homing. -/
def Dev.axHome (d : Dev) (n : Nat) : Bool × Dev :=
  if d.axState n ≠ axHold then d.axRefuse n 5
  else
    let stall := d.g (Reg.STP_LIMSRC_HOME_SRC n) % 64 = 63
    if stall ∧ d.g (Reg.STP_HV_SLOW_SPEED n) * 250000000 < d.g (Reg.STP_DRV_VLD_MIN n) * 10 * 256 * 2 ^ 32 then d.axCfgBad n 5
    else
      let d := (d.s (Reg.STP_STAT_BOUNCE n) 0).s (Reg.STP_STAT_REASON n) 0
      let d := d.updAxis n (fun a => { a with rev := false, fail := 0, standby := false })
      let step := if !stall && (d.axis n).homeIn then 2 else 1
      (true, (d.homeNext n step).axGo n axHoming)

/-- CLEAR (R275). -/
def Dev.axClear (d : Dev) (n : Nat) : Bool × Dev :=
  if d.axState n ≠ axFault then d.axRefuse n 6 else (true, d.axGo n axDisabled)

/-- SET_POS (R275). -/
def Dev.axSetPos (d : Dev) (n : Nat) : Bool × Dev :=
  if d.axState n ≠ axHold then d.axRefuse n 7
  else (true, ((d.updAxis n (fun a => { a with p := d.sg (Reg.STP_TARGET_VALUE n) * mstep })).s (Reg.STP_STAT_HOMED n) 1).axShow n)

/-- The inversion of the gearing by a STEP Bell (R283): whether it is allowed, and its effect. -/
def Dev.axInvert (d : Dev) (n : Nat) : Bool × Dev :=
  if d.axState n = axRun ∧ d.on (Reg.STP_CFG_MODE n) then
    let g := d.axGear n
    let w := (d.wheel (d.g (Reg.STP_GEAR_WHEEL n))).pos / 256
    let d := d.updAxis n (fun a => { a with wref := w, gorg := g, neg := !a.neg })
    (true, d.s (Reg.STP_GEAR_SIGN n) (b2n (d.axis n).neg))
  else (false, d)

/-- STP_ENABLE. -/
def execStpEnable (n : Nat) (s : State) := s.run fun d => (d.axEnable n).2
/-- STP_DISABLE. -/
def execStpDisable (n : Nat) (s : State) := s.run fun d => (d.axDisable n).2
/-- STP_START. -/
def execStpStart (n : Nat) (s : State) := s.run fun d => (d.axStart n).2
/-- STP_STOP. -/
def execStpStop (n : Nat) (s : State) := s.run fun d => (d.axStop n).2
/-- STP_HOME. -/
def execStpHome (n : Nat) (s : State) := s.run fun d => (d.axHome n).2
/-- STP_CLEAR. -/
def execStpClear (n : Nat) (s : State) := s.run fun d => (d.axClear n).2
/-- SET_POS. -/
def execSetPos (n : Nat) (s : State) := s.run fun d => (d.axSetPos n).2

/-- A homing decision carried out by firmware: 1 HOME issues CLEAR in FAULT, then ENABLE, then HOME; 2 LEAVE does nothing (R436). -/
def Dev.homingApply (d : Dev) (n code : Nat) : Dev :=
  if code = 1 then
    let d := if d.axState n = axFault then (d.axClear n).2 else d
    let e := d.axEnable n
    if e.1 then (e.2.axHome n).2 else e.2
  else d

/-- An enabled axis has lost HOMED through a stall or an event of R277 (R436): in AUTO firmware homes it at once, else it proposes
HOME. -/
def Dev.homingLost (d : Dev) (n : Nat) : Dev :=
  if d.assistMode 2 = 0 then d.homingApply n 1 else d.propose 2 n 1

/-- An event of R277 ends a running axis in FAULT. -/
def Dev.axHalt (d : Dev) (n reason : Nat) : Dev :=
  let st := d.axState n
  if st = axDisabled ∨ st = axFault then d
  else
    let homed := d.on (Reg.STP_STAT_HOMED n)
    let d := d.updAxis n (fun a => { a with v := 0, decel := false, fail := 0, stepTo := none })
    let d := ((d.s (Reg.STP_STAT_HOMED n) 0).s (Reg.STP_STAT_REASON n) reason).raise Err.STP_HALTED [n, reason]
    (d.axGo n axFault).when homed (fun d => d.homingLost n)

/-- STP_HW_LIMIT: a limit switch qualifies active (R281, R286); `hi` names LIM_HI. -/
def execStpHwLimit (n : Nat) (hi : Bool) (s : State) := s.run fun d =>
  let src := if hi then d.g (Reg.STP_LIMSRC_LIM_HI_SRC n) else d.g (Reg.STP_LIMSRC_LIM_LO_SRC n)
  if n < 4 ∧ src / 128 = 1 then
    let a := d.axis n
    let d := d.s (if hi then Reg.STP_STAT_LIM_HI_ACT n else Reg.STP_STAT_LIM_LO_ACT n) 1
    let d := d.raise Err.STP_HW_LIMIT [n, Config.recordNumber Err.STP_HW_LIMIT (b2n hi), w32 (a.p / mstep)]
    let dir : Int := if hi then 1 else -1
    if d.axState n = axHoming ∧ a.fail = 0 then
      match d.g (Reg.STP_STAT_HSTEP n) with
      | 1 => if d.homeDir n = dir ∧ !a.decel then
               (if a.rev then d.homeFail n 3 true
                else
                  let d := d.updAxis n (fun a => { a with rev := true, decel := true, emg := true, pStart := a.p })
                  if (d.axis n).v = 0 then d.axAtRest n else d)
             else d
      | 2 => d.homeFail n 3 true
      | 3 => d.homeFail n 3 true
      | _ => d
    else d
  else d

/-- LIMIT_INPUT_RELEASE: a limit switch qualifies inactive (R281). -/
def execLimitInputRelease (n : Nat) (hi : Bool) (s : State) := s.run fun d =>
  d.s (if hi then Reg.STP_STAT_LIM_HI_ACT n else Reg.STP_STAT_LIM_LO_ACT n) 0

/-- HOME_INPUT_EDGE: the home input qualifies active or releases without ending a phase (R285). -/
def execHomeInputEdge (n : Nat) (active : Bool) (s : State) := s.run fun d =>
  let d := d.updAxis n (fun a => { a with homeIn := active })
  if d.axState n = axHoming then
    match d.g (Reg.STP_STAT_HSTEP n), active with
    | 2, true => d.inc (Reg.STP_STAT_BOUNCE n)
    | 3, true => d.updAxis n (fun a => { a with pEdge := some a.p })
    | 3, false => (d.inc (Reg.STP_STAT_BOUNCE n)).updAxis n (fun a => { a with pEdge := none })
    | _, _ => d
  else d

/-- HOMING_PHASE_END: a phase ends on its home-input condition (R285): SEEK with the input active, BACKOFF inactive for HREL,
SLOW active for HFILT; the axis then decelerates to rest. -/
def execHomingPhaseEnd (n : Nat) (s : State) := s.run fun d =>
  let a := d.axis n
  if d.axState n = axHoming ∧ a.fail = 0 ∧ !a.decel then
    let rest (d : Dev) : Dev :=
      let d := d.updAxis n (fun a => { a with decel := true })
      if (d.axis n).v = 0 then d.axAtRest n else d
    match d.g (Reg.STP_STAT_HSTEP n) with
    | 1 => rest (d.updAxis n (fun a => { a with homeIn := true }))
    | 2 => if a.homeIn then d else rest d
    | 3 =>
      match a.pEdge with
      | none => d
      | some e =>
        let d := d.updAxis n (fun a => { a with p := a.p - e + d.sg (Reg.STP_HOFS_VALUE n) * mstep })
        rest ((d.s (Reg.STP_STAT_HOMED n) 1).s (Reg.STP_STAT_HSTEP n) 4)
    | _ => d
  else d

/-- AXIS_STOPPED: a moving axis has come to rest (R275, R285). -/
def execAxisStopped (n : Nat) (s : State) := s.run fun d => if (d.axis n).v = 0 then (d.axAtRest n).axShow n else d

/-- HOLD_STANDBY: after T_STBY at rest the coil current falls to IHOLD (R275). -/
def execHoldStandby (n : Nat) (s : State) := s.run fun d =>
  if d.axState n = axHold ∧ (d.axis n).v = 0 then (d.updAxis n (fun a => { a with standby := true })).axIeff n else d

/-- STP_LAG: a geared lag beyond LAG_MAX sets LAG once (R284). -/
def execStpLag (n : Nat) (s : State) := s.run fun d =>
  let a := d.axis n
  let lag := (a.g - a.p) / mstep
  let m := d.g (Reg.STP_GEAR_LAG_MAX n)
  if d.axState n = axRun ∧ d.on (Reg.STP_CFG_MODE n) ∧ m ≠ 0 ∧ (m : Int) * mstep < (a.g - a.p).natAbs ∧ !d.on (Reg.STP_STAT_LAG n) then
    (d.s (Reg.STP_STAT_LAG n) 1).raise Err.STP_LAG [n, w32 (satInt 32 lag)]
  else d

/-- An engine write to an axis (R279). -/
def Dev.axTarget (d : Dev) (index v : Nat) : Dev :=
  let n := index % 4
  if index / 16 % 16 = 0 then d.setWord (Reg.STP_TARGET n) (w32 (d.sg (Reg.STP_TBASE_VALUE n) + toInt 24 v))
  else d.updAxis n (fun a => { a with scale := (max 0 (toInt 24 v)).toNat, scaled := true })

/-- Whether an INDEX of class 0x5 names an axis target (R279). -/
def axTargetOk (index : Nat) : Bool := decide (index / 256 = 0) && decide (index / 16 % 16 ≤ 1) && decide (index / 4 % 4 = 0)

/-- A register write to an axis by its offset, but for STP_CTL, whose commands have rows of their own (R291). -/
def Dev.axWrite (d : Dev) (n off v : Nat) : Dev :=
  let a := 0x30090000 + 0x100 * n + off
  let st := d.axState n
  let locked := st = axRun ∨ st = axStopping ∨ st = axHoming
  d.regStore a a 0x30090000 v (lockIf (decide locked)) Err.STP_RWL_REFUSED

end Sys2Proof.Machine
end

