-- ==== Sys2Proof/Machine/Errors.lean ====
section
/-! DEFINITION. Machine/Errors.lean: the error manager (R440 to R444): storing the records of a tick, claiming and ending
them, and firmware's own records. -/

namespace Sys2Proof.Machine

/-- One handling domain of the error manager. -/
def Dev.errDom (d : Dev) (k : Nat) : ErrDom := d.errs.getD k {}

/-- The device with a handling domain changed. -/
def Dev.updErrDom (d : Dev) (k : Nat) (f : ErrDom → ErrDom) : Dev := { d with errs := updBank 2 {} d.errs k f }

/-- The domain that ERR_ROUTE gives a code's subsystem (R441). -/
def Dev.errRoute (d : Dev) (code : Nat) : Nat := b2n ((d.g Reg.ERR_ROUTE_DOM1).testBit (code / 256 - 1))

/-- The counts per severity of an overflow record with one more loss, NOTE first, each saturating at 255. -/
def bumpSev (l : List Nat) (sev : Nat) : List Nat := updAt l sev (satInc 255)

/-- A record is lost (R443): counted, and in the overflow slot. -/
def ErrDom.lose (q : ErrDom) (r : ErrRec) : ErrDom :=
  let o := match q.ovf with
    | none => ⟨r.seq, r.rt, r.sev, 1, r.code, r.code, bumpSev [0, 0, 0, 0] r.sev⟩
    | some o => { o with sev := max o.sev r.sev, lost := o.lost + 1, last := r.code, perSev := bumpSev o.perSev r.sev }
  { q with lost := satInc 0x7FFF q.lost, ovf := some o }

/-- The lowest severity among queued records. -/
def lowestSev (l : List ErrRec) : Nat := l.foldl (fun m r => min m r.sev) 3

/-- A record enters a domain's queue of 64 (R443): into a free place, or displacing the oldest record of the lowest severity
where that is below its own, or lost. -/
def ErrDom.push (q : ErrDom) (r : ErrRec) : ErrDom :=
  if q.queue.length < 64 then { q with queue := q.queue ++ [r] }
  else
    let lo := lowestSev q.queue
    if lo < r.sev then
      match q.queue.find? (fun x => x.sev == lo) with
      | some x => ErrDom.lose { q with queue := q.queue.erase x ++ [r] } x
      | none => q.lose r
    else q.lose r

/-- The records of a tick in the order in which they take SEQ: ascending subsystem code, and in the order raised within one
(R440). -/
def bySubsystem (l : List ErrRec) : List ErrRec :=
  (List.range 256).flatMap (fun k => l.filter (fun r => r.code / 256 % 256 == k))

/-- One record takes its SEQ and enters its domain's queue. -/
def Dev.storeRec (d : Dev) (r : ErrRec) : Dev :=
  let k := d.errRoute r.code
  let r := { r with seq := d.errSeq % 2 ^ 32, dom := k }
  { d with errSeq := (d.errSeq + 1) % 2 ^ 32, errs := updBank 2 {} d.errs k (fun q => q.push r) }

/-- ERR_RECORDS_STORED: at the end of a tick, its records are numbered and stored (R440). -/
def execErrRecordsStored (s : State) := s.run fun d =>
  (bySubsystem d.raised).foldl Dev.storeRec { d with raised := [] }

/-- The oldest record of a severity: queued, or the overflow slot where its first loss came earlier. `true` is the slot. -/
def ErrDom.candidate (q : ErrDom) (sev : Nat) : Option (Option ErrRec) :=
  match q.queue.find? (fun r => r.sev == sev), q.ovf with
  | some r, some o => if o.sev = sev ∧ o.age < r.seq then some none else some (some r)
  | some r, none => some (some r)
  | none, some o => if o.sev = sev then some none else none
  | none, none => none

/-- The highest severity queued, the overflow slot included. -/
def ErrDom.topSev (q : ErrDom) : Option Nat := [3, 2, 1, 0].find? (fun s => (q.candidate s).isSome)

/-- The overflow record as it is claimed (R443). The spec gives it no SEQ of its own: a free value (log 2). -/
def ErrOvf.toRec (o : ErrOvf) (dom seq : Nat) : ErrRec :=
  ⟨seq % 2 ^ 32, o.rt, Err.ERR_OVERFLOW, o.sev, dom, 0,
    [o.lost, o.first * 65536 + o.last] ++ rtWords o.rt ++ [leVal o.perSev]⟩

/-- ERR_CLAIM: a read of ERR_d_CLAIM (R442). The word returned stands in the domain's `claim`. -/
def execErrClaim (k : Nat) (s : State) := s.run fun d =>
  let q := d.errDom k
  match q.topSev with
  | none => d.updErrDom k (fun q => { q with claim := 0 })
  | some sev =>
    if q.handling.any (fun r => decide (sev ≤ r.sev)) then d.updErrDom k (fun q => { q with claim := 0 })
    else
      let word (r : ErrRec) := 2 ^ 31 + r.sev * 65536 + r.code
      match q.candidate sev, q.ovf with
      | some (some r), _ =>
        d.updErrDom k (fun q => { q with queue := q.queue.erase r, handling := r :: q.handling, claim := word r })
      | some none, some o =>
        let r := o.toRec k d.freeVal
        d.tookFree.updErrDom k (fun q => { q with ovf := none, handling := r :: q.handling, claim := word r })
      | _, _ => d

/-- ERR_DONE: a write of 1 to DONE ends the record of the highest severity in handling (R442); firmware then has it to send
and to retain (R431). An empty stack ignores the write. -/
def execErrDone (k v : Nat) (s : State) := s.run fun d =>
  let q := d.errDom k
  match q.handling, v % 2 with
  | r :: t, 1 =>
    let d := d.updErrDom k (fun q => { q with handling := t })
    { d with hst := { d.hst with events := d.hst.events ++ [r], retained := d.hst.retained ++ [r] } }
  | _, _ => d

/-- ERR_RAISE_GO: a write of 1 raises the record that the core has staged (R444). -/
def execErrRaiseGo (core v : Nat) (s : State) := s.run fun d =>
  if v % 2 = 1 then
    d.raiseFw core (d.g (Reg.ERR_RAISE_CODE_CODE core)) (d.g (Reg.ERR_RAISE_CODE_SEV core))
      ((List.range 8).map (fun i => d.word (Reg.ERR_RAISE_CTX core i)))
  else d

/-- Whether a queued record carries one of the codes: it is unread until it is claimed. -/
def Dev.unread (d : Dev) (codes : List Nat) : Bool :=
  d.errs.any (fun q => q.queue.any (fun r => codes.contains r.code))

/-- Interrupt source 200 + 4d + s (R442). -/
def Dev.errLine (d : Dev) (k sev : Nat) : Bool :=
  let q := d.errDom k
  (q.candidate sev).isSome && !(q.handling.any (fun r => decide (sev ≤ r.sev)))

/-- The words of a record (R440). -/
def ErrRec.words (r : ErrRec) : List Nat :=
  [r.seq, r.rt % 2 ^ 32, r.rt / 2 ^ 32 % 2 ^ 32, r.code * 65536 + r.sev % 4 * 16384 + r.dom % 2 * 8192 + r.origin % 256] ++
    (List.range 8).map (fun i => r.ctx.getD i 0 % 2 ^ 32)

/-- ERR_d_STAT. -/
def Dev.errStat (d : Dev) (k : Nat) : Nat :=
  let q := d.errDom k
  let mask (p : Nat → Bool) := ((List.range 4).filter p).foldl (fun a s => a + 2 ^ s) 0
  q.queue.length * 2 ^ 24 + mask (fun s => q.handling.any (fun r => r.sev == s)) * 2 ^ 20 +
    mask (fun s => (q.candidate s).isSome) * 2 ^ 16 + b2n q.ovf.isSome * 2 ^ 15 + q.lost

/-- The register words of the error manager that its records make: `none` for another address. -/
def Dev.errView (d : Dev) (a : Nat) : Option Nat :=
  if a = Reg.ERR_SEQ then some d.errSeq
  else if a < Reg.ERR_CLAIM 0 ∨ Reg.ERR_CLAIM 2 ≤ a then none
  else
    let k := (a - Reg.ERR_CLAIM 0) / 0x40
    let o := (a - Reg.ERR_CLAIM 0) % 0x40
    if o = 0 then some (d.errDom k).claim
    else if o = 8 then some (d.errStat k)
    else if 0x10 ≤ o then
      some (match (d.errDom k).handling with
        | r :: _ => r.words.getD ((o - 0x10) / 4) 0
        | [] => 0)
    else some 0

end Sys2Proof.Machine
end

