-- ==== Sys2Proof/Machine/Digest.lean ====
section
/-! DEFINITION. Machine/Digest.lean: SHA-256 and SHA-384 (R390, R392, R460, R461, R476) and the ECDSA check of a P-384 signature (R461).
The spec names these functions; what they compute is taken from the published standards (PRESUMED, log 9). -/

namespace Sys2Proof.Machine

/-! ## SHA-2 -/

/-- The first 64 bits of the fractional parts of the cube roots of the first 80 primes: the constants of SHA-384; those of SHA-256 are
the upper halves of the first 64. -/
def shaK : List Nat :=
  [0x428a2f98d728ae22, 0x7137449123ef65cd, 0xb5c0fbcfec4d3b2f, 0xe9b5dba58189dbbc,
   0x3956c25bf348b538, 0x59f111f1b605d019, 0x923f82a4af194f9b, 0xab1c5ed5da6d8118,
   0xd807aa98a3030242, 0x12835b0145706fbe, 0x243185be4ee4b28c, 0x550c7dc3d5ffb4e2,
   0x72be5d74f27b896f, 0x80deb1fe3b1696b1, 0x9bdc06a725c71235, 0xc19bf174cf692694,
   0xe49b69c19ef14ad2, 0xefbe4786384f25e3, 0x0fc19dc68b8cd5b5, 0x240ca1cc77ac9c65] ++
  [0x2de92c6f592b0275, 0x4a7484aa6ea6e483, 0x5cb0a9dcbd41fbd4, 0x76f988da831153b5,
   0x983e5152ee66dfab, 0xa831c66d2db43210, 0xb00327c898fb213f, 0xbf597fc7beef0ee4,
   0xc6e00bf33da88fc2, 0xd5a79147930aa725, 0x06ca6351e003826f, 0x142929670a0e6e70,
   0x27b70a8546d22ffc, 0x2e1b21385c26c926, 0x4d2c6dfc5ac42aed, 0x53380d139d95b3df,
   0x650a73548baf63de, 0x766a0abb3c77b2a8, 0x81c2c92e47edaee6, 0x92722c851482353b] ++
  [0xa2bfe8a14cf10364, 0xa81a664bbc423001, 0xc24b8b70d0f89791, 0xc76c51a30654be30,
   0xd192e819d6ef5218, 0xd69906245565a910, 0xf40e35855771202a, 0x106aa07032bbd1b8,
   0x19a4c116b8d2d0c8, 0x1e376c085141ab53, 0x2748774cdf8eeb99, 0x34b0bcb5e19b48a8,
   0x391c0cb3c5c95a63, 0x4ed8aa4ae3418acb, 0x5b9cca4f7763e373, 0x682e6ff3d6b2b8a3,
   0x748f82ee5defb2fc, 0x78a5636f43172f60, 0x84c87814a1f0ab72, 0x8cc702081a6439ec] ++
  [0x90befffa23631e28, 0xa4506cebde82bde9, 0xbef9a3f7b2c67915, 0xc67178f2e372532b,
   0xca273eceea26619c, 0xd186b8c721c0c207, 0xeada7dd6cde0eb1e, 0xf57d4f7fee6ed178,
   0x06f067aa72176fba, 0x0a637dc5a2c898a6, 0x113f9804bef90dae, 0x1b710b35131c471b,
   0x28db77f523047d84, 0x32caab7b40c72493, 0x3c9ebe0a15c9bebc, 0x431d67c49c100d4c,
   0x4cc5d4becb3e42b6, 0x597f299cfc657e2a, 0x5fcb6fab3ad6faec, 0x6c44198c4a475817]

/-- The first 64 bits of the fractional parts of the square roots of the first 16 primes: the upper halves of the first eight begin
SHA-256, the last eight begin SHA-384. -/
def shaH : List Nat :=
  [0x6a09e667f3bcc908, 0xbb67ae8584caa73b, 0x3c6ef372fe94f82b, 0xa54ff53a5f1d36f1,
   0x510e527fade682d1, 0x9b05688c2b3e6c1f, 0x1f83d9abfb41bd6b, 0x5be0cd19137e2179,
   0xcbbb9d5dc1059ed8, 0x629a292a367cd507, 0x9159015a3070dd17, 0x152fecd8f70e5939,
   0x67332667ffc00b31, 0x8eb44a8768581511, 0xdb0c2e0d64f98fa7, 0x47b5481dbefa4fa4]

/-- A member of the family: its word width, the constants and start values, and the rotations of its four functions. -/
structure Sha2 where
  w  : Nat
  k  : List Nat
  h  : List Nat
  b0 : Nat × Nat × Nat
  b1 : Nat × Nat × Nat
  s0 : Nat × Nat × Nat
  s1 : Nat × Nat × Nat

/-- SHA-256. -/
def sha256Of : Sha2 :=
  ⟨32, (shaK.take 64).map (· / 2 ^ 32), (shaH.take 8).map (· / 2 ^ 32), (2, 13, 22), (6, 11, 25), (7, 18, 3), (17, 19, 10)⟩

/-- SHA-384. -/
def sha384Of : Sha2 := ⟨64, shaK, shaH.drop 8, (28, 34, 39), (14, 18, 41), (1, 8, 7), (19, 61, 6)⟩

/-- A word rotated right. -/
def Sha2.rot (p : Sha2) (x n : Nat) : Nat := x / 2 ^ n + x * 2 ^ (p.w - n) % 2 ^ p.w

/-- Three rotations combined. -/
def Sha2.big (p : Sha2) (r : Nat × Nat × Nat) (x : Nat) : Nat := p.rot x r.1 ^^^ p.rot x r.2.1 ^^^ p.rot x r.2.2

/-- Two rotations and a shift combined. -/
def Sha2.small (p : Sha2) (r : Nat × Nat × Nat) (x : Nat) : Nat := p.rot x r.1 ^^^ p.rot x r.2.1 ^^^ x / 2 ^ r.2.2

/-- The message schedule, newest word first, `n` words longer. -/
def Sha2.schedule (p : Sha2) (ws : List Nat) : Nat → List Nat
  | 0 => ws
  | n + 1 =>
    p.schedule ((p.small p.s1 (ws.getD 1 0) + ws.getD 6 0 + p.small p.s0 (ws.getD 14 0) + ws.getD 15 0) % 2 ^ p.w :: ws) n

/-- One round with a constant and a schedule word. -/
def Sha2.round (p : Sha2) (v : List Nat) (kw : Nat × Nat) : List Nat :=
  let e := v.getD 4 0
  let a := v.getD 0 0
  let ch := (e &&& v.getD 5 0) ^^^ ((2 ^ p.w - 1 - e) &&& v.getD 6 0)
  let maj := (a &&& v.getD 1 0) ^^^ (a &&& v.getD 2 0) ^^^ (v.getD 1 0 &&& v.getD 2 0)
  let t := v.getD 7 0 + p.big p.b1 e + ch + kw.1 + kw.2
  [(t + p.big p.b0 a + maj) % 2 ^ p.w, a, v.getD 1 0, v.getD 2 0, (v.getD 3 0 + t) % 2 ^ p.w, e, v.getD 5 0, v.getD 6 0]

/-- One block of 16 words into the state. -/
def Sha2.block (p : Sha2) (h ws : List Nat) : List Nat :=
  let v := (p.k.zip (p.schedule ws.reverse (p.k.length - 16)).reverse).foldl p.round h
  (h.zip v).map fun x => (x.1 + x.2) % 2 ^ p.w

/-- The big-endian words of a byte string, `n` of them. -/
def beWords (size : Nat) (l : List Nat) : Nat → List Nat
  | 0 => []
  | n + 1 => beVal (l.take size) :: beWords size (l.drop size) n

/-- The blocks of a padded byte string into the state. -/
def Sha2.blocks (p : Sha2) (h l : List Nat) : Nat → List Nat
  | 0 => h
  | n + 1 => p.blocks (p.block h (beWords (p.w / 8) l 16)) (l.drop (2 * p.w)) n

/-- The big-endian bytes of a value, `k` of them. -/
def beBytes (k v : Nat) : List Nat := (leBytes k v).reverse

/-- The digest of a byte string, as all eight words in bytes: the string is padded with 0x80, zeros and its length in bits. -/
def Sha2.digest (p : Sha2) (l : List Nat) : List Nat :=
  let size := 2 * p.w
  let z := (size - (l.length + 1 + p.w / 4) % size) % size
  let m := l ++ 0x80 :: List.replicate z 0 ++ beBytes (p.w / 4) (8 * l.length)
  (p.blocks p.h m (m.length / size)).flatMap (beBytes (p.w / 8))

/-- SHA-256 of a byte string (R392). -/
def sha256n (l : List Nat) : List Nat := sha256Of.digest l

/-- SHA-384 of a byte string (R460): six of the eight words. -/
def sha384 (l : List Nat) : List Nat := (sha384Of.digest l).take 48

/-! ## ECDSA with P-384 -/

/-- The field's prime, the group's order, the curve's constant b and its base point. -/
def p384p : Nat := 2 ^ 384 - 2 ^ 128 - 2 ^ 96 + 2 ^ 32 - 1
def p384n : Nat := 0xffffffffffffffffffffffffffffffffffffffffffffffffc7634d81f4372ddf581a0db248b0a77aecec196accc52973
def p384b : Nat := 0xb3312fa7e23ee7e4988e056be3f82d19181d9c6efe8141120314088f5013875ac656398d8a2ed19d2a85c8edd3ec2aef
def p384g : Nat × Nat :=
  (0xaa87ca22be8b05378eb1c71ef320ad746e1d3b628ba79b9859f741e082542a385502f25dbf55296c3a545e3872760ab7,
   0x3617de4a96262c6f5d9e98bf9292dc29f8f41dbd289a147ce9da3113b5f0b8c00a60b1ce1d7e819d7a431d7c90ea0e5f)

/-- A power modulo `m`, of an exponent below 2 ^ fuel. -/
def powMod (m b : Nat) : Nat → Nat → Nat
  | 0, _ => 1
  | fuel + 1, e =>
    let h := powMod m b fuel (e / 2)
    if e % 2 = 1 then h * h % m * b % m else h * h % m

/-- The inverse modulo a prime below 2^384. -/
def invMod (m a : Nat) : Nat := powMod m a 384 (m - 2)

/-- A product and a difference in the field. -/
def feMul (a b : Nat) : Nat := a * b % p384p
def feSub (a b : Nat) : Nat := (a + (p384p - b)) % p384p

/-- A point twice, in Jacobian coordinates: (X, Y, Z) stands for x = X / Z^2, y = Y / Z^3, and Z = 0 for the point at infinity. -/
def ecDouble (q : Nat × Nat × Nat) : Nat × Nat × Nat :=
  let (x, y, z) := q
  let yy := feMul y y
  let s := feMul (4 * x) yy
  let zz := feMul z z
  let m := feMul (3 * feSub x zz) (x + zz)
  let x3 := feSub (feMul m m) (2 * s % p384p)
  (x3, feSub (feMul m (feSub s x3)) (feMul (8 * yy) yy), feMul (2 * y) z)

/-- The sum of two points. -/
def ecAdd (a b : Nat × Nat × Nat) : Nat × Nat × Nat :=
  let (x1, y1, z1) := a
  let (x2, y2, z2) := b
  if z1 = 0 then b
  else if z2 = 0 then a
  else
    let zz1 := feMul z1 z1
    let zz2 := feMul z2 z2
    let u1 := feMul x1 zz2
    let u2 := feMul x2 zz1
    let s1 := feMul y1 (feMul z2 zz2)
    let s2 := feMul y2 (feMul z1 zz1)
    if u1 = u2 then (if s1 = s2 then ecDouble a else (1, 1, 0))
    else
      let h := feSub u2 u1
      let r := feSub s2 s1
      let hh := feMul h h
      let h3 := feMul h hh
      let v := feMul u1 hh
      let x3 := feSub (feSub (feMul r r) h3) (2 * v % p384p)
      (x3, feSub (feMul r (feSub v x3)) (feMul s1 h3), feMul h (feMul z1 z2))

/-- A multiple of a point, by a factor below 2 ^ fuel. -/
def ecMul (q : Nat × Nat × Nat) : Nat → Nat → Nat × Nat × Nat
  | 0, _ => (1, 1, 0)
  | fuel + 1, k =>
    let h := ecDouble (ecMul q fuel (k / 2))
    if k % 2 = 1 then ecAdd h q else h

/-- Whether a signature, r then s, over a SHA-384 hash is valid for a public key, X then Y (R461): a key that is no point of the curve
and an r or s out of range are not. -/
def ecdsaValid (key hash sig : List Nat) : Bool :=
  let x := beVal (key.take 48)
  let y := beVal (key.drop 48)
  let r := beVal (sig.take 48)
  let s := beVal (sig.drop 48)
  let n := p384n
  if p384p ≤ x ∨ p384p ≤ y ∨ y * y % p384p ≠ (x * x * x + (p384p - 3) * x + p384b) % p384p ∨ r = 0 ∨ n ≤ r ∨ s = 0 ∨ n ≤ s then false
  else
    let w := invMod n s
    let q := ecAdd (ecMul (p384g.1, p384g.2, 1) 384 (beVal hash * w % n)) (ecMul (x, y, 1) 384 (r * w % n))
    q.2.2 != 0 && feMul q.1 (invMod p384p (feMul q.2.2 q.2.2)) % n == r

end Sys2Proof.Machine
end

