-- ==== Sys2Proof/Machine/Flags.lean ====
section
/-! DEFINITION. Machine/Flags.lean: the flags of an engine, its predicates, its clamps and the landing of results
(R110 to R118 of the chapter Conath Instruction Set). -/

namespace Sys2Proof.Machine

/-- A predicate or condition code (R116). -/
def predTrue (n z v : Bool) (p : Nat) : Bool :=
  match p % 8 with
  | 0 => true
  | 1 => z
  | 2 => !z
  | 3 => n
  | 4 => !n
  | 5 => !n && !z
  | 6 => v
  | _ => !v

/-- The sticky bits (R115). -/
def stSat : Nat := 1
def stOvf : Nat := 2
def stDz : Nat := 4

/-- The signed value of a G register. -/
def s24 (v : Nat) : Int := toInt 24 v

/-- A clamp to the 24-bit range (R117): the value written and whether it clamped. -/
def clamp24 (z : Int) : Int × Bool := (satInt 24 z, satInt 24 z != z)

/-- A wrap modulo 2^24 (R117): the value written and whether the exact result lay outside the signed range. -/
def wrap24 (z : Int) : Int × Bool := (toInt 24 (ofInt 24 z), satInt 24 z != z)

/-- The clamp of an accumulator to 56 bits (R117). -/
def clamp56 (z : Int) : Int × Bool := (satInt 56 z, satInt 56 z != z)

/-- A value times 2^s, rounded toward −∞ for a right shift (R118). -/
def shiftInt (z : Int) (s : Int) : Int :=
  if 0 ≤ s then z * 2 ^ s.toNat else Int.fdiv z (2 ^ (-s).toNat)

/-- MOVS (R118): bits [46:23] of the accumulator times 2^s, rounded to nearest with ties up, or truncated; before the clamp. -/
def movsValue (acc : Int) (s : Int) (trunc : Bool) : Int :=
  let num := if 0 ≤ s then acc * 2 ^ s.toNat else acc
  let sh := 23 + (if 0 ≤ s then 0 else (-s).toNat)
  let half : Int := if trunc then 0 else 2 ^ (sh - 1)
  Int.fdiv (num + half) (2 ^ sh)

/-- The exact value of an accumulator result (R112), from the accumulators as they stand. -/
def AccCalc.exact (c : AccCalc) (acc : List Int) : Int :=
  shiftInt (c.ka * acc.getD c.a 0 + c.kb * acc.getD c.b 0 + c.prod) c.sh

/-- An accumulator result lands: the register, N Z V where it sets them, SAT and OVF on a clamp. -/
def Eng.landAcc (acc : List Int) (e : Eng) (c : AccCalc) : Eng :=
  let ex := c.exact acc
  let r := clamp56 ex
  let res := if c.sat then r.1 else ex
  let cl := c.sat && r.2
  { e with
    a := (bank 4 0 e.a).set c.dst res
    n := if c.sets then decide (res < 0) else e.n
    z := if c.sets then decide (res = 0) else e.z
    v := if c.sets && c.setsV then cl else e.v
    sticky := if cl then e.sticky ||| (stSat + stOvf) else e.sticky
    setd := if cl then e.setd ||| (stSat + stOvf) else e.setd }

/-- A plain result lands in its register. -/
def Eng.landReg (e : Eng) (w : Dest × Nat) : Eng :=
  match w.1 with
  | .g k => { e with g := (bank 16 0 e.g).set k (w.2 % 2 ^ 24) }
  | .a k => { e with a := (bank 4 0 e.a).set k (toInt 56 w.2) }
  | .x k => { e with x := (bank 8 0 e.x).set k (w.2 % 2 ^ 15) }
  | .m k => { e with m := (bank 4 0 e.m).set k (w.2 % 2 ^ 15) }

/-- The results of one instruction land (R111, R114, R115): CLRF clears first, then operations set. -/
def Eng.landOne (acc : List Int) (e : Eng) (f : Flight) : Eng :=
  let e := f.regs.foldl Eng.landReg e
  let e := f.accs.foldl (Eng.landAcc acc) e
  let e := { e with
    n := f.flN.getD e.n
    z := f.flZ.getD e.z
    v := f.flV.getD e.v
    sticky := (e.sticky &&& (7 ^^^ f.clr)) ||| f.set
    setd := (e.setd &&& (7 ^^^ f.clr)) ||| f.set
    clrd := e.clrd ||| f.clr }
  match f.out with
  | some (p, v) => { e with outs := (bank 32 none e.outs).set p (some (v % 2 ^ 24)) }
  | none => e

/-- Every result due in a cycle lands, in issue order, so that the later-issued one stands (R113). Accumulator results use the
accumulators as they stood before (R112). -/
def Eng.landAt (e : Eng) (k : Nat) : Eng :=
  let due := e.flight.filter (fun f => f.land = k)
  let e' := due.foldl (Eng.landOne e.a) e
  { e' with flight := e.flight.filter (fun f => f.land != k) }

/-- Results land cycle by cycle, from a cycle on. -/
def Eng.landFrom (e : Eng) (k : Nat) : Nat → Eng
  | 0 => e
  | n + 1 => (e.landAt k).landFrom (k + 1) n

/-- A flight without any result. -/
def Flight.empty (land : Nat) : Flight := ⟨land, [], [], none, none, none, 0, 0, none⟩

end Sys2Proof.Machine
end

