-- ==== Sys2Proof/Machine/Operands.lean ====
section
/-! DEFINITION. Machine/Operands.lean: the operand forms of the engines' instructions: register reads, data-memory operands
(R125 to R127), ports (R128), and the issue of an instruction with its program-counter rules (R130, R131). -/

namespace Sys2Proof.Machine

/-- An engine. -/
def Dev.eng (d : Dev) (e : Nat) : Eng := d.ce.engs.getD e {}

/-- The device with an engine changed. -/
def Dev.updEng (d : Dev) (e : Nat) (f : Eng → Eng) : Dev := { d with ce := { d.ce with engs := updBank 12 {} d.ce.engs e f } }

/-- A context. -/
def Dev.ctx (d : Dev) (c : Nat) : Ctx := d.ce.ctxs.getD c {}

/-- The device with a context changed. -/
def Dev.updCtx (d : Dev) (c : Nat) (f : Ctx → Ctx) : Dev := { d with ce := { d.ce with ctxs := updBank 256 {} d.ce.ctxs c f } }

/-- The G register of an engine, as a signed value. -/
def Eng.gs (e : Eng) (k : Nat) : Int := s24 (e.g.getD k 0)

/-- The smallest k with 2^k ≥ L, among 0 to 15. -/
def log2Up (l : Nat) : Nat := ((List.range 16).find? (fun k => decide (l ≤ 2 ^ k))).getD 15

/-- An address register after post-modification by a step (R125): modular for X0 to X3 with a modulo length. -/
def postModify (e : Eng) (xn : Nat) (step : Int) : Nat :=
  let x := e.x.getD xn 0
  let l := if xn < 4 then e.m.getD xn 0 else 0
  if l = 0 then ofInt 15 ((x : Int) + step)
  else
    let k := log2Up l
    let base := x / 2 ^ k * 2 ^ k
    base + (((x : Int) - base + step) % (l : Int)).toNat

/-- The address of a memory operand, and the address register's new value where the form modifies it (R125). -/
def memOperand (e : Eng) (xn : Nat) (pm : Bool) (disp : Int) : Nat × List (Dest × Nat) :=
  if pm then (e.x.getD xn 0, [(.x xn, postModify e xn disp)])
  else (ofInt 15 ((e.x.getD xn 0 : Int) + disp), [])

/-- Whether an address lies in `len` words from `base` on. -/
def inSpan (a base len : Nat) : Bool := decide (base ≤ a) && decide (a < base + len)

/-- Whether a context may read a data word: its state region and its two banks (R127). -/
def Dev.mayRead (d : Dev) (c a : Nat) : Bool :=
  inSpan a (d.g (Reg.CTX_W6_STATE_BASE c)) (d.g (Reg.CTX_W6_STATE_LEN c)) ||
  inSpan a (d.g (Reg.CTX_W7_BANK0_BASE c)) (d.g (Reg.CTX_W4_BANK_LEN c)) ||
  inSpan a (d.g (Reg.CTX_W7_BANK1_BASE c)) (d.g (Reg.CTX_W4_BANK_LEN c))

/-- Whether a context may write a data word: its state region (R127). -/
def Dev.mayWrite (d : Dev) (c a : Nat) : Bool :=
  inSpan a (d.g (Reg.CTX_W6_STATE_BASE c)) (d.g (Reg.CTX_W6_STATE_LEN c))

/-- The word that a load of an engine returns, and whether it is a memory range violation (R127). -/
def Dev.loadWord (d : Dev) (e a : Nat) : Nat × Bool :=
  let c := (d.eng e).run.getD 0
  if d.mayRead c a then (d.dmWord e a, false) else (0, true)

/-- A store of an engine: done, or discarded as a violation (R127). -/
def Dev.storeWord (d : Dev) (e a v : Nat) : Dev :=
  let c := (d.eng e).run.getD 0
  if d.mayWrite c a then d.setDm e a v else d.updEng e (fun g => { g with viol := true })

/-- The value of a port (R128): inputs, wheels and identity from the snapshot, OUT ports as written in this run. -/
def Dev.portRead (d : Dev) (e p : Nat) : Nat :=
  let g := d.eng e
  let c := g.run.getD 0
  let s := (d.ctx c).snap
  if p < 0x40 then s.ins.getD p 0
  else if p < 0x60 then ((g.outs.getD (p - 0x40) none).getD 0)
  else if p < 0x70 then s.wpos.getD (p - 0x60) 0
  else if p < 0x80 then s.wtrn.getD (p - 0x70) 0
  else if p < 0x90 then s.wspd.getD (p - 0x80) 0
  else if p = 0x90 then s.t0
  else if p = 0x91 then c
  else if p = 0x92 then s.bank
  else 0

/-- Whether a port address is listed for reading (R128). -/
def portListed (p : Nat) : Bool := decide (p ≤ 0x92)

/-- The end-of-loop decision of R131: the innermost loop that ends at `pc` decides first. -/
def loopDecide (pc next : Nat) : List Loop → List Loop × Nat
  | [] => ([], next)
  | l :: t =>
    if l.stop = pc then
      if 1 < l.left then ({ l with left := l.left - 1 } :: t, l.start)
      else loopDecide pc next t
    else (l :: t, next)

/-- The program counter after an instruction that is no branch: a branch in its delay slots, then loops (R130, R131). -/
def Eng.nextPc (e : Eng) : Eng :=
  let nxt := (e.pc + 1) % 8192
  let s := e.slots - 1
  let nxt := if e.slots = 1 then e.target else nxt
  let r := loopDecide e.pc nxt e.loops
  { e with slots := s, loops := r.1, pc := r.2 }

/-- An engine may issue: it is neither halted nor failed (R93, R99), and its program has not ended (R132). -/
def Dev.canIssue (d : Dev) (e : Nat) : Bool :=
  decide (e < 12) && !(d.on (Reg.ENG_STAT_HALT e)) && !(d.on (Reg.ENG_STAT_FAULT e)) && (d.eng e).ended.isNone

/-- The engine at the start of its next issue cycle: the results due in it have landed. -/
def Dev.landed (d : Dev) (e : Nat) : Dev := d.updEng e (fun g => g.landAt g.cyc)

/-- The issue of an instruction: the results due land; where the predicate holds, the effect `f` on the device and the
flights it adds; then the cycle counts and the program counter moves (R111, R116). -/
def Dev.issue (d : Dev) (e pred : Nat) (f : Dev → Dev) : Dev :=
  if d.canIssue e then
    let d := d.landed e
    let g := d.eng e
    let d := if predTrue g.n g.z g.v pred then f d else d
    d.updEng e (fun g => { g.nextPc with cyc := g.cyc + 1 })
  else d

/-- A flight is added to an engine, landing `l` cycles after the cycle of issue. -/
def Dev.fly (d : Dev) (e l : Nat) (f : Flight) : Dev :=
  d.updEng e (fun g => { g with flight := g.flight ++ [{ f with land := g.cyc + l }] })

/-- A result for a G register with N and Z, and V and the sticky bits given (R114). -/
def gResult (k : Nat) (r : Int) (v : Option Bool) (set : Nat) : Flight :=
  { Flight.empty 0 with
    regs := [(.g k, ofInt 24 r)]
    flN := some (decide (r < 0))
    flZ := some (decide (r = 0))
    flV := v
    set := set }

/-- A result for a G register without flags. -/
def gPlain (k v : Nat) : Flight := { Flight.empty 0 with regs := [(.g k, v)] }

/-- A clamped result: V and SAT on a clamp (R117). -/
def gClamped (k : Nat) (z : Int) : Flight :=
  let r := clamp24 z
  gResult k r.1 (some r.2) (if r.2 then stSat else 0)

/-- A wrapped integer result: V and OVF on a wrap (R117). -/
def gWrapped (k : Nat) (z : Int) : Flight :=
  let r := wrap24 z
  gResult k r.1 (some r.2) (if r.2 then stOvf else 0)

/-- An accumulator result with its calculation. -/
def aResult (cs : List AccCalc) (xs : List (Dest × Nat)) : Flight := { Flight.empty 0 with accs := cs, regs := xs }

/-- The product of two 24-bit values as the multiplier gives it, doubled by the Q22 option (R110). -/
def product (a b : Int) (q22 : Bool) : Int := if q22 then 2 * (a * b) else a * b

end Sys2Proof.Machine
end

