-- ==== Sys2Proof/Machine/Share.lean ====
section
/-! DEFINITION. Machine/Share.lean: the share words that RDSH, class-0x4 inputs and the power budget read (R128, R331). -/

namespace Sys2Proof.Machine

/-- A share word of the buffer last completed (R331). -/
def Dev.shareWord (d : Dev) (node word : Nat) : Nat := storeGet (fun _ => 0) d.drg.words (64 * (node % 16) + word % 64)

/-- The device with a share word of the buffer set. -/
def Dev.setShareWord (d : Dev) (node word v : Nat) : Dev :=
  { d with drg := { d.drg with words := storeSet (fun _ => 0) d.drg.words (64 * (node % 16) + word % 64) (v % 2 ^ 24) } }

end Sys2Proof.Machine
end

