-- ==== Sys2Proof/Machine/Conath.lean ====
section
/-! DEFINITION. Machine/Conath.lean: the sixty instructions of a Conath engine (R121). Each meaning issues one instruction on
an engine: its predicate, its operands as they stand in the issue cycle, and its results in flight. -/

namespace Sys2Proof.Machine

/-- A two-operand G instruction: the operands are read in the issue cycle. -/
def Dev.alu2 (d : Dev) (e a b : Nat) (f : Int → Int → Flight) (l : Nat) : Dev :=
  let g := d.eng e
  d.fly e l (f (g.gs a) (g.gs b))

/-! ## Control (R130 to R132) -/

/-- NOP: nothing but its cycle. -/
def execNop (e p : Nat) (s : State) := s.run fun d => d.issue e p id

/-- END in cycle e: the program ends at e + 3 (R132); nothing issues after it. -/
def execEnd (e : Nat) (s : State) := s.run fun d =>
  if d.canIssue e then
    let d := d.landed e
    d.updEng e (fun g => { g with ended := some g.cyc, cyc := g.cyc + 1 })
  else d

/-- A branch to a target after two delay slots (R130). -/
def Dev.branch (d : Dev) (e : Nat) (target : Eng → Nat) (f : Eng → Eng) : Dev :=
  d.updEng e (fun g => f { g with slots := 3, target := target g })

/-- BR. -/
def execBr (e : Nat) (ofs : Int) (s : State) := s.run fun d =>
  d.issue e 0 (fun d => d.branch e (fun g => ofInt 13 ((g.pc : Int) + ofs)) id)

/-- CALL pushes the address after its second delay slot (R130). -/
def execCall (e : Nat) (ofs : Int) (s : State) := s.run fun d =>
  d.issue e 0 (fun d =>
    d.branch e (fun g => ofInt 13 ((g.pc : Int) + ofs)) (fun g => { g with rets := ((g.pc + 3) % 8192 :: g.rets).take 4 }))

/-- RET pops the return address (R130). -/
def execRet (e : Nat) (s : State) := s.run fun d =>
  d.issue e 0 (fun d => d.branch e (fun g => g.rets.headD 0) (fun g => { g with rets := g.rets.tail }))

/-- LOOP opens a loop over the next `ofs` words (R131). -/
def execLoop (e count : Nat) (ofs : Int) (s : State) := s.run fun d =>
  d.issue e 0 (fun d => d.updEng e (fun g =>
    { g with loops := (⟨(g.pc + 1) % 8192, ofInt 13 ((g.pc : Int) + ofs), count⟩ :: g.loops).take 4 }))

/-- CLRF clears the sticky flags of a mask (R115). -/
def execClrf (e p m : Nat) (s : State) := s.run fun d =>
  d.issue e p (fun d => d.fly e 1 { Flight.empty 0 with clr := m % 8 })

/-- RDF reads the flag register as it stands at issue (R121). -/
def execRdf (e p gd : Nat) (s : State) := s.run fun d =>
  d.issue e p (fun d =>
    let g := d.eng e
    let st := g.sticky
    let v := b2n g.n * 32 + b2n g.z * 16 + b2n g.v * 8 + bits st 2 2 * 4 + bits st 1 1 * 2 + bits st 0 0
    d.fly e 1 (gPlain gd v))

/-! ## Moves and fractional arithmetic (R117, R118) -/

/-- MOV. -/
def execMov (e p gd ga : Nat) (s : State) := s.run fun d =>
  d.issue e p (fun d => d.fly e 1 (gResult gd ((d.eng e).gs ga) none 0))

/-- MOVK. -/
def execMovk (e p gd imm : Nat) (s : State) := s.run fun d =>
  d.issue e p (fun d => d.fly e 1 (gResult gd (s24 imm) none 0))

/-- SEL.cc. -/
def execSel (e p cc gd ga gb : Nat) (s : State) := s.run fun d =>
  d.issue e p (fun d =>
    let g := d.eng e
    d.fly e 1 (gResult gd (if predTrue g.n g.z g.v cc then g.gs ga else g.gs gb) none 0))

/-- MOVS: shift, round, clamp; the accumulator is unchanged (R118). -/
def execMovs (e p gd ad : Nat) (sh : Int) (trunc : Bool) (s : State) := s.run fun d =>
  d.issue e p (fun d => d.fly e 1 (gClamped gd (movsValue ((d.eng e).a.getD ad 0) sh trunc)))

/-- LDA: Ad := Ga × 2^23. -/
def execLda (e p ad ga : Nat) (s : State) := s.run fun d =>
  d.issue e p (fun d => d.fly e 2 (aResult [⟨ad, 0, 0, 0, 0, (d.eng e).gs ga * 2 ^ 23, 0, true, false, false⟩] []))

/-- CLRA. -/
def execClra (e p ad : Nat) (s : State) := s.run fun d =>
  d.issue e p (fun d => d.fly e 2 (aResult [⟨ad, 0, 0, 0, 0, 0, 0, false, false, false⟩] []))

/-- ADDA. -/
def execAdda (e p ad aa ab : Nat) (s : State) := s.run fun d =>
  d.issue e p (fun d => d.fly e 2 (aResult [⟨ad, aa, 1, ab, 1, 0, 0, true, true, true⟩] []))

/-- SUBA. -/
def execSuba (e p ad aa ab : Nat) (s : State) := s.run fun d =>
  d.issue e p (fun d => d.fly e 2 (aResult [⟨ad, aa, 1, ab, -1, 0, 0, true, true, true⟩] []))

/-- ADD. -/
def execAdd (e p gd ga gb : Nat) (s : State) := s.run fun d =>
  d.issue e p (fun d => d.alu2 e ga gb (fun a b => gClamped gd (a + b)) 1)

/-- SUB. -/
def execSub (e p gd ga gb : Nat) (s : State) := s.run fun d =>
  d.issue e p (fun d => d.alu2 e ga gb (fun a b => gClamped gd (a - b)) 1)

/-- NEG. -/
def execNeg (e p gd ga : Nat) (s : State) := s.run fun d =>
  d.issue e p (fun d => d.fly e 1 (gClamped gd (-(d.eng e).gs ga)))

/-- ABS. -/
def execAbs (e p gd ga : Nat) (s : State) := s.run fun d =>
  d.issue e p (fun d => d.fly e 1 (gClamped gd ((d.eng e).gs ga).natAbs))

/-- MIN. -/
def execMin (e p gd ga gb : Nat) (s : State) := s.run fun d =>
  d.issue e p (fun d => d.alu2 e ga gb (fun a b => gResult gd (min a b) none 0) 1)

/-- MAX. -/
def execMax (e p gd ga gb : Nat) (s : State) := s.run fun d =>
  d.issue e p (fun d => d.alu2 e ga gb (fun a b => gResult gd (max a b) none 0) 1)

/-- CLMP: V and SAT where it changed its operand (R114, R117). -/
def execClmp (e p gd ga gb gc : Nat) (s : State) := s.run fun d =>
  d.issue e p (fun d =>
    let g := d.eng e
    let r := min (max (g.gs ga) (g.gs gb)) (g.gs gc)
    let ch := decide (r ≠ g.gs ga)
    d.fly e 1 (gResult gd r (some ch) (if ch then stSat else 0)))

/-- ADDK. -/
def execAddk (e p gd ga imm : Nat) (s : State) := s.run fun d =>
  d.issue e p (fun d => d.fly e 1 (gClamped gd ((d.eng e).gs ga + s24 imm)))

/-- The flags of an exact difference, V cleared; no register is written (CMP, CMPK). -/
def cmpFlags (z : Int) : Flight :=
  { Flight.empty 0 with flN := some (decide (z < 0)), flZ := some (decide (z = 0)), flV := some false }

/-- CMP. -/
def execCmp (e p ga gb : Nat) (s : State) := s.run fun d =>
  d.issue e p (fun d => d.alu2 e ga gb (fun a b => cmpFlags (a - b)) 1)

/-- CMPK. -/
def execCmpk (e p ga imm : Nat) (s : State) := s.run fun d =>
  d.issue e p (fun d => d.fly e 1 (cmpFlags ((d.eng e).gs ga - s24 imm)))

/-- ASH: a left shift clamps, a right shift rounds toward −∞ (R117, R118). -/
def execAsh (e p gd ga : Nat) (sh : Int) (s : State) := s.run fun d =>
  d.issue e p (fun d => d.fly e 1 (gClamped gd (shiftInt ((d.eng e).gs ga) sh)))

/-- HYST (R124): between the thresholds Gd's own value is written. -/
def execHyst (e p gd ga gb : Nat) (s : State) := s.run fun d =>
  d.issue e p (fun d =>
    let g := d.eng e
    let h : Int := min (g.gs gb).natAbs 0x7FFFFF
    let r : Int := if h < g.gs ga then 0x7FFFFF else if g.gs ga < -h then -0x800000 else g.gs gd
    d.fly e 1 (gResult gd r none 0))

/-- SHA: Ad := A′a × 2^s, clamped to 56 bits. -/
def execSha (e p ad aa : Nat) (sh : Int) (s : State) := s.run fun d =>
  d.issue e p (fun d => d.fly e 2 (aResult [⟨ad, aa, 1, 0, 0, 0, sh, true, true, true⟩] []))

/-! ## Integer arithmetic and logic -/

/-- IADD. -/
def execIadd (e p gd ga gb : Nat) (s : State) := s.run fun d =>
  d.issue e p (fun d => d.alu2 e ga gb (fun a b => gWrapped gd (a + b)) 1)

/-- ISUB. -/
def execIsub (e p gd ga gb : Nat) (s : State) := s.run fun d =>
  d.issue e p (fun d => d.alu2 e ga gb (fun a b => gWrapped gd (a - b)) 1)

/-- IADDK. -/
def execIaddk (e p gd ga imm : Nat) (s : State) := s.run fun d =>
  d.issue e p (fun d => d.fly e 1 (gWrapped gd ((d.eng e).gs ga + s24 imm)))

/-- A bitwise operation of two G registers. -/
def Dev.logic (d : Dev) (e gd ga gb : Nat) (f : Nat → Nat → Nat) : Dev :=
  let g := d.eng e
  d.fly e 1 (gResult gd (s24 (f (g.g.getD ga 0) (g.g.getD gb 0))) none 0)

/-- AND. -/
def execAnd (e p gd ga gb : Nat) (s : State) := s.run fun d =>
  d.issue e p (fun d => d.logic e gd ga gb (fun a b => a &&& b))

/-- OR. -/
def execOr (e p gd ga gb : Nat) (s : State) := s.run fun d =>
  d.issue e p (fun d => d.logic e gd ga gb (fun a b => a ||| b))

/-- XOR. -/
def execXor (e p gd ga gb : Nat) (s : State) := s.run fun d =>
  d.issue e p (fun d => d.logic e gd ga gb (fun a b => a ^^^ b))

/-- ANDK. -/
def execAndk (e p gd ga imm : Nat) (s : State) := s.run fun d =>
  d.issue e p (fun d => d.fly e 1 (gResult gd (s24 ((d.eng e).g.getD ga 0 &&& (imm % 2 ^ 24))) none 0))

/-- LSH: a logical shift with zero fill. -/
def execLsh (e p gd ga : Nat) (sh : Int) (s : State) := s.run fun d =>
  d.issue e p (fun d =>
    let v := (d.eng e).g.getD ga 0
    let r := if 0 ≤ sh then v * 2 ^ sh.toNat % 2 ^ 24 else v / 2 ^ (-sh).toNat
    d.fly e 1 (gResult gd (s24 r) none 0))

/-! ## Multiplication and accumulation (R110, R112) -/

/-- MPY. -/
def execMpy (e p ad ga gb : Nat) (q : Bool) (s : State) := s.run fun d =>
  d.issue e p (fun d => d.alu2 e ga gb
    (fun a b => aResult [⟨ad, 0, 0, 0, 0, product a b q, 0, true, false, false⟩] []) 2)

/-- MAC. -/
def execMac (e p ad ga gb : Nat) (q : Bool) (s : State) := s.run fun d =>
  d.issue e p (fun d => d.alu2 e ga gb
    (fun a b => aResult [⟨ad, ad, 1, 0, 0, product a b q, 0, true, true, true⟩] []) 2)

/-- MSU. -/
def execMsu (e p ad ga gb : Nat) (q : Bool) (s : State) := s.run fun d =>
  d.issue e p (fun d => d.alu2 e ga gb
    (fun a b => aResult [⟨ad, ad, 1, 0, 0, -product a b q, 0, true, true, true⟩] []) 2)

/-- DMAC: two accumulations; N Z V come from the first. -/
def execDmac (e p ad ga gb ae gc gf : Nat) (q : Bool) (s : State) := s.run fun d =>
  d.issue e p (fun d =>
    let g := d.eng e
    d.fly e 2 (aResult
      [⟨ad, ad, 1, 0, 0, product (g.gs ga) (g.gs gb) q, 0, true, true, true⟩,
       ⟨ae, ae, 1, 0, 0, product (g.gs gc) (g.gs gf) q, 0, false, false, true⟩] []))

/-- An instruction with one data-memory operand: the word is read in the issue cycle, an address outside the context's regions
reads 0 and marks the run (R127); the address register's new value lands after one cycle (R125). -/
def Dev.withMem (d : Dev) (e xn : Nat) (pm : Bool) (disp : Int) (f : Dev → Nat → Dev) : Dev :=
  let m := memOperand (d.eng e) xn pm disp
  let r := d.loadWord e m.1
  let d := d.when r.2 (fun d => d.updEng e (fun g => { g with viol := true }))
  let d := f d r.1
  if m.2.isEmpty then d else d.fly e 1 { Flight.empty 0 with regs := m.2 }

/-- MPYX. -/
def execMpyx (e p ad ga xn : Nat) (pm : Bool) (disp : Int) (q : Bool) (s : State) := s.run fun d =>
  d.issue e p (fun d => d.withMem e xn pm disp (fun d w =>
    d.fly e 2 (aResult [⟨ad, 0, 0, 0, 0, product ((d.eng e).gs ga) (s24 w) q, 0, true, false, false⟩] [])))

/-- MACX. -/
def execMacx (e p ad ga xn : Nat) (pm : Bool) (disp : Int) (q : Bool) (s : State) := s.run fun d =>
  d.issue e p (fun d => d.withMem e xn pm disp (fun d w =>
    d.fly e 2 (aResult [⟨ad, ad, 1, 0, 0, product ((d.eng e).gs ga) (s24 w) q, 0, true, true, true⟩] [])))

/-- MSUX. -/
def execMsux (e p ad ga xn : Nat) (pm : Bool) (disp : Int) (q : Bool) (s : State) := s.run fun d =>
  d.issue e p (fun d => d.withMem e xn pm disp (fun d w =>
    d.fly e 2 (aResult [⟨ad, ad, 1, 0, 0, -product ((d.eng e).gs ga) (s24 w) q, 0, true, true, true⟩] [])))

/-- The two memory operands of DMACX and DMPYX, both read in the issue cycle (R126), and their accumulations. -/
def Dev.dualX (d : Dev) (e ad ga x1 : Nat) (s1 : Int) (ae gb x2 : Nat) (s2 : Int) (q acc : Bool) : Dev :=
  d.withMem e x1 true s1 (fun d w1 => d.withMem e x2 true s2 (fun d w2 =>
    let g := d.eng e
    let k : Int := if acc then 1 else 0
    d.fly e 2 (aResult
      [⟨ad, ad, k, 0, 0, product (g.gs ga) (s24 w1) q, 0, true, acc, acc⟩,
       ⟨ae, ae, k, 0, 0, product (g.gs gb) (s24 w2) q, 0, false, false, acc⟩] [])))

/-- DMACX. -/
def execDmacx (e p ad ga x1 : Nat) (s1 : Int) (ae gb x2 : Nat) (s2 : Int) (q : Bool) (s : State) := s.run fun d =>
  d.issue e p (fun d => d.dualX e ad ga x1 s1 ae gb x2 s2 q true)

/-- DMPYX: as DMACX without accumulation. -/
def execDmpyx (e p ad ga x1 : Nat) (s1 : Int) (ae gb x2 : Nat) (s2 : Int) (q : Bool) (s : State) := s.run fun d =>
  d.issue e p (fun d => d.dualX e ad ga x1 s1 ae gb x2 s2 q false)

/-- MULI: the low 24 bits of the exact product, landing with the MAC class (R118). -/
def execMuli (e p gd ga gb : Nat) (s : State) := s.run fun d =>
  d.issue e p (fun d => d.alu2 e ga gb (fun a b => gWrapped gd (a * b)) 2)

/-! ## Long instructions (R123): the exact value, and a result free within the bound that the spec states -/

/-- SINCOS: sine into Gd, cosine into Gd+1, each free within 2 LSB of the exact value scaled by 1 − 2^-23. -/
def execSincos (e p gd ga : Nat) (s : State) := s.run fun d =>
  d.issue e p (fun d =>
    let t := (d.eng e).g.getD ga 0
    let k : Int := 2 ^ 23 - 1
    let sn := pickNear (sinFix t * k) (2 ^ 60) 2 d.freeVal
    let d := d.tookFree
    let cs := pickNear (cosFix t * k) (2 ^ 60) 2 d.freeVal
    let d := d.tookFree
    d.fly e 3 { Flight.empty 0 with
      regs := [(.g gd, ofInt 24 (satInt 24 sn)), (.g (gd + 1), ofInt 24 (satInt 24 cs))] })

/-- ROT: a rotation by the angle Gc, or its negative with INV, each component free within 3 LSB before saturation. -/
def execRot (e p gd ga gb gc : Nat) (inv : Bool) (s : State) := s.run fun d =>
  d.issue e p (fun d =>
    let g := d.eng e
    let t := g.g.getD gc 0
    let sn := if inv then -sinFix t else sinFix t
    let cs := cosFix t
    let x := pickNear (g.gs ga * cs - g.gs gb * sn) (2 ^ 60) 3 d.freeVal
    let d := d.tookFree
    let y := pickNear (g.gs ga * sn + g.gs gb * cs) (2 ^ 60) 3 d.freeVal
    let d := d.tookFree
    let cx := clamp24 x
    let cy := clamp24 y
    d.fly e 3 { Flight.empty 0 with
      regs := [(.g gd, ofInt 24 cx.1), (.g (gd + 1), ofInt 24 cy.1)]
      set := if cx.2 || cy.2 then stSat else 0 })

/-- A clamped long result: N and Z, SAT on a clamp (R117), V unchanged. -/
def longResult (gd : Nat) (z : Int) (dz : Bool) : Flight :=
  if dz then gResult gd 0x7FFFFF none (stSat + stDz)
  else
    let r := clamp24 z
    gResult gd r.1 none (if r.2 then stSat else 0)

/-- RECIP: 2^-k / Ga, free within 2 LSB; of 0 it writes the upper limit and sets DZ and SAT. -/
def execRecip (e p gd ga k : Nat) (s : State) := s.run fun d =>
  d.issue e p (fun d =>
    let a := (d.eng e).gs ga
    let num : Int := 2 ^ (46 - k)
    let num := if a < 0 then -num else num
    let r := if a = 0 then 0 else pickNear num a.natAbs 2 d.freeVal
    let d := if a = 0 then d else d.tookFree
    d.fly e 3 (longResult gd r (a = 0)))

/-- RSQRT: 2^-k / √Ga, free within 2 LSB; of a value ≤ 0 it writes the upper limit and sets DZ and SAT. The exact value lies
between the integer root `r` of 2^(69−2k) / Ga and r + 1 LSB, so that r − 1 to r + 2 lie within 2 LSB of it. -/
def execRsqrt (e p gd ga k : Nat) (s : State) := s.run fun d =>
  d.issue e p (fun d =>
    let a := (d.eng e).gs ga
    let bad := decide (a ≤ 0)
    let root : Nat := isqrt (2 ^ (69 - 2 * k) / a.natAbs)
    let r : Int := (root : Int) - 1 + ((d.freeVal : Int) % 4)
    let d := if bad then d else d.tookFree
    d.fly e 3 (longResult gd r bad))

/-! ## Data memory, address registers and ports -/

/-- LD. -/
def execLd (e p gd xn : Nat) (pm : Bool) (disp : Int) (s : State) := s.run fun d =>
  d.issue e p (fun d => d.withMem e xn pm disp (fun d w => d.fly e 1 (gPlain gd w)))

/-- ST: the word is stored in the issue cycle and loads of the next cycle see it (R126); outside the state region it is
discarded and marks the run (R127). -/
def execSt (e p ga xn : Nat) (pm : Bool) (disp : Int) (s : State) := s.run fun d =>
  d.issue e p (fun d =>
    let g := d.eng e
    let m := memOperand g xn pm disp
    let d := d.storeWord e m.1 (g.g.getD ga 0)
    if m.2.isEmpty then d else d.fly e 1 { Flight.empty 0 with regs := m.2 })

/-- LDX. -/
def execLdx (e p xd imm : Nat) (s : State) := s.run fun d =>
  d.issue e p (fun d => d.fly e 1 { Flight.empty 0 with regs := [(.x xd, imm % 2 ^ 15)] })

/-- MOVX. -/
def execMovx (e p xd ga : Nat) (s : State) := s.run fun d =>
  d.issue e p (fun d => d.fly e 1 { Flight.empty 0 with regs := [(.x xd, (d.eng e).g.getD ga 0 % 2 ^ 15)] })

/-- ADDX. -/
def execAddx (e p xd xa imm : Nat) (s : State) := s.run fun d =>
  d.issue e p (fun d => d.fly e 1 { Flight.empty 0 with regs := [(.x xd, ((d.eng e).x.getD xa 0 + imm) % 2 ^ 15)] })

/-- MOVM. -/
def execMovm (e p mn imm : Nat) (s : State) := s.run fun d =>
  d.issue e p (fun d => d.fly e 1 { Flight.empty 0 with regs := [(.m mn, imm % 2 ^ 15)] })

/-- IN. -/
def execIn (e p gd port : Nat) (s : State) := s.run fun d =>
  d.issue e p (fun d => d.fly e 1 (gPlain gd (d.portRead e port)))

/-- OUT: the value and its written mark land after one cycle (R128, R129). -/
def execOut (e p port ga : Nat) (s : State) := s.run fun d =>
  d.issue e p (fun d => d.fly e 1 { Flight.empty 0 with out := some (port - 0x40, (d.eng e).g.getD ga 0) })

/-- RDSH: bits [23:0] of a share word of the buffer most recently completed (R128). -/
def execRdsh (e p gd node word : Nat) (s : State) := s.run fun d =>
  d.issue e p (fun d => d.fly e 1 (gPlain gd (d.shareWord node word % 2 ^ 24)))

/-- RESULT_LANDS: the results due in the engine's present cycle become visible (R111 to R114); after END the cycle passes as
well, since nothing issues in it (R132). -/
def execResultLands (e : Nat) (s : State) := s.run fun d =>
  let d := d.landed e
  d.updEng e (fun g => if g.ended.isSome then { g with cyc := g.cyc + 1 } else g)

end Sys2Proof.Machine
end

