-- ==== Sys2Proof/Machine/BridgeEvents.lean ====
section
/-! DEFINITION. Machine/BridgeEvents.lean: what happens to every owner of the half-bridges: carrier boundaries, current limits,
supply faults, AUX_EN (R241 to R250). -/

namespace Sys2Proof.Machine

/-- A latch or a hold on half-bridges reaches their owners: commutators (R264) and axes (R277), with their reasons. -/
def Dev.ownersHalt (d : Dev) (hit : Nat → Bool) (cmuReason axReason : Nat) : Dev :=
  let d := d.each (List.range 2) (fun d k =>
    if !d.on (Reg.CMU_CFG_MAIN k) && (d.cmuHbs k).any hit then d.cmuHalt k cmuReason else d)
  let d := d.each (List.range 4) (fun d n =>
    if !d.on (Reg.STP_CFG_OUTM n) && (List.range 4).any (fun i => hit (4 * n + i)) then d.axHalt n axReason else d)
  d.hbsApply

/-- AUX_CARRIER_BOUNDARY: a carrier's counter returns to 0 (R241): axis coils, commutator duties, then every half-bridge on the
carrier. -/
def execAuxCarrierBoundary (c : Nat) (s : State) := s.run fun d =>
  if c < 4 ∧ d.on (Reg.ACAR_CFG_EN c) then
    let per := d.g (Reg.ACAR_CFG_PER c)
    let d := d.s (Reg.ACAR_CNT_COUNT c) 0
    let d := d.each (List.range 4) (fun d n => 
      if d.g (Reg.STP_CFG_CAR n) = c then
        (d.axBoundary n per).when (d.on (Reg.STP_STAT_HOMED n) && (d.axBoundary n per).axState n == axFault) (fun d => d.homingLost n)
      else d)
    let d := d.each (List.range 2) (fun d k =>
      if d.g (Reg.CMU_CFG_CAR k) = c ∧ !d.on (Reg.CMU_CFG_MAIN k) then d.cmuBoundary k else d)
    d.each (List.range 16) (fun d n => if d.hbCarrier n = c ∧ d.hbActive n then d.hbBoundary n per else d)
  else d

/-- The half-bridges of a current limit's set (R247). -/
def Dev.limitSet (d : Dev) (n : Nat) : List Nat :=
  match d.g (Reg.HB_CFG_OWNER n) with
  | 2 => d.cmuHbs 0
  | 3 => d.cmuHbs 1
  | 4 => [n / 2 * 2, n / 2 * 2 + 1]
  | _ => [n]

/-- CURRENT_LIMIT_HIT: an ILIM comparator of half-bridge `n` acts (R247); in BRAKE of its commutator every LO goes low until the
next boundary (R260). `n` = 16 + k names the MAIN-mode limit of commutator k (R266), which takes the High leg off. -/
def execCurrentLimitHit (n : Nat) (s : State) := s.run fun d =>
  if n < 16 then
    let o := d.g (Reg.HB_CFG_OWNER n)
    let d := d.s (Reg.HB_STAT_ILIM_ACT n) 1
    let brake := (o = 2 ∨ o = 3) ∧ d.cmState (o - 2) = cmBrake
    let d := d.each (d.limitSet n) (fun d m =>
      d.updHb m (fun h => if brake then { h with loCut := true } else { h with cut := true }))
    d.each (d.limitSet n) Dev.hbApply
  else if n < 18 ∧ d.on (Reg.CMU_CFG_MAIN (n - 16)) then
    (d.updCmu (n - 16) (fun c => { c with cut := true })).cmuApply (n - 16)
  else d

/-- AUX_OC: an IOC comparator drives both outputs low and latches OC (R247). -/
def execAuxOc (n : Nat) (s : State) := s.run fun d =>
  if n < 16 ∧ d.on (Reg.HB_ILIM_IOC n) then
    ((d.s (Reg.HB_STAT_OC n) 1).raise Err.AUX_OC [n, d.g (Reg.HB_ILIM_IOC n)]).ownersHalt (· == n) 5 6
  else d

/-- AUX_GD_UV: VDRV qualified below its lockout drives every gate low and latches GD_UV (R243). -/
def execAuxGdUv (mv : Nat) (s : State) := s.run fun d =>
  let d := ((d.s Reg.AUX_VDRV_MV mv).s Reg.AUX_STAT_VDRV_OK 0).s Reg.AUX_STAT_GD_UV 1
  (d.raise Err.AUX_GD_UV [mv]).ownersHalt (fun _ => true) 5 6

/-- AUX_VBR_UV: the bridge supply below 10.0 V holds all gates low while set (R248). -/
def execAuxVbrUv (mv : Nat) (s : State) := s.run fun d =>
  ((((d.s Reg.AUX_VBR_MV mv).s Reg.AUX_STAT_VBR_UV 1).raise Err.AUX_VBR_UV [mv]).hbsApply)

/-- VBR_UV_RELEASE: the bridge supply above 10.8 V releases the gates (R248). -/
def execVbrUvRelease (mv : Nat) (s : State) := s.run fun d => ((d.s Reg.AUX_VBR_MV mv).s Reg.AUX_STAT_VBR_UV 0).hbsApply

/-- AUX_VBR_OV: the bridge supply above 64 V drives all gates low and latches VBR_OV (R248). -/
def execAuxVbrOv (mv : Nat) (s : State) := s.run fun d =>
  (((d.s Reg.AUX_VBR_MV mv).s Reg.AUX_STAT_VBR_OV 1).raise Err.AUX_VBR_OV [mv]).ownersHalt (fun _ => true) 5 6

/-- AUX_EN_LOW: AUX_EN qualified low holds every half-bridge low (R250). -/
def execAuxEnLow (s : State) := s.run fun d =>
  let d := d.s Reg.AUX_STAT_EN 0
  let d := d.each (List.range 16) (fun d n => d.updHb n (fun h => { h with live := false }))
  let d := d.each (List.range 2) (fun d k => if d.on (Reg.CMU_CFG_MAIN k) then d else d.cmuHalt k 6)
  (d.each (List.range 4) (fun d n => d.axHalt n 7)).hbsApply

/-- The kinds of AUX latch that are set, as a mask: 1 LINK, 2 GD_UV, 3 VBR_OV (as in AUX_STAT), 4 BS_FAIL, 5 OC, 6 LEAK. -/
def Dev.auxLatches (d : Dev) : Nat :=
  let any (f : Nat → RF) := (List.range 16).any (fun n => d.on (f n))
  b2n (d.on Reg.AUX_STAT_LINK) * 2 + b2n (d.on Reg.AUX_STAT_GD_UV) * 4 + b2n (d.on Reg.AUX_STAT_VBR_OV) * 8 +
    b2n (any Reg.HB_STAT_BS_FAIL) * 16 + b2n (any Reg.HB_STAT_OC) * 32 + b2n (any Reg.HB_STAT_LEAK) * 64

/-- AUX_EN_CLEAR: a qualified rise of AUX_EN after 10 µs low clears the latches whose causes have ended (R250). -/
def execAuxEnClear (s : State) := s.run fun d =>
  let before := d.auxLatches
  let d := d.s Reg.AUX_STAT_EN 1
  let d := d.when (decide (8800 < d.g Reg.AUX_VDRV_MV)) (fun d => (d.s Reg.AUX_STAT_GD_UV 0).s Reg.AUX_STAT_VDRV_OK 1)
  let d := d.when (decide (d.g Reg.AUX_VBR_MV < 62000)) (fun d => d.s Reg.AUX_STAT_VBR_OV 0)
  let d := d.when (decide (16 ≤ d.sys.d2dGood)) (fun d => d.s Reg.AUX_STAT_LINK 0)
  let d := d.each (List.range 16) (fun d n =>
    ((d.s (Reg.HB_STAT_BS_FAIL n) 0).s (Reg.HB_STAT_OC n) 0).s (Reg.HB_STAT_LEAK n) 0)
  let kept := d.auxLatches
  let d := d.inc Reg.AUX_STAT_CLR_CNT
  (d.raise Err.AUX_EN_CLEAR [before - kept, kept]).hbsApply

/-- The loss of the supervisor die link stops AUX, CMU and STP output (R17): LINK is latched, and the owners halt. -/
def Dev.auxLinkLost (d : Dev) : Dev :=
  let d := d.s Reg.AUX_STAT_LINK 1
  let d := d.each (List.range 2) (fun d k => d.cmuHalt k 7)
  (d.each (List.range 4) (fun d n => d.axHalt n 8)).hbsApply

/-- THERM_LATCH stops AUX, CMU and STP (R487); the spec names no REASON for it: a free value (log 2). -/
def Dev.auxThermStop (d : Dev) : Dev :=
  let d := d.each (List.range 2) (fun d k => d.tookFree.cmuHalt k (d.freeVal % 16))
  (d.each (List.range 4) (fun d n => d.tookFree.axHalt n (d.freeVal % 16))).hbsApply

end Sys2Proof.Machine
end

