-- ==== Sys2Proof/Machine/Tin.lean ====
section
/-! DEFINITION. Machine/Tin.lean: the external temperature inputs: conversion of a SAR code to a temperature, and INVALID (R482). -/

namespace Sys2Proof.Machine

/-- The excitation current in µA (TIN_n_CFG.IEXC). -/
def tinCurrent (sel : Nat) : Nat := [250, 100, 25, 10].getD (sel % 4) 250

/-- The resistance of a PT1000 by IEC 60751 at `k` / 16 °C, in 1000 Ω × 10^-15 × 16^-4 (R482). -/
def ptPoly (k : Int) : Int :=
  10 ^ 15 * 65536 + 3908300000000 * 4096 * k - 577500000 * 256 * k * k +
    (if k < 0 then -4183 * (k - 1600) * k * k * k else 0)

/-- The highest `k` from `lo` on, within `2 ^ n` steps, whose PT1000 resistance does not exceed `r` (in units of `u`). -/
def ptSearch (r u : Int) (lo : Int) : Nat → Int
  | 0 => lo
  | n + 1 => if u * ptPoly (lo + 2 ^ n) ≤ r then ptSearch r u (lo + 2 ^ n) n else ptSearch r u lo n

/-- The temperature of a PT1000 in 1/16 °C from a SAR code and a current in µA; outside −200 to 850 °C, where the equation does not
hold, it is a free value, and so is the last digit of a result that is not exact (log 2). -/
def Dev.ptTemp (d : Dev) (code ua : Nat) : Int × Dev :=
  let r : Int := code * 1800 * 10 ^ 15 * 65536
  let u : Int := 16384 * ua
  if r < u * ptPoly (-3200) ∨ u * ptPoly 13600 < r then (toInt 16 d.freeVal, d.tookFree)
  else
    let k := ptSearch r u (-3200) 15
    if u * ptPoly k = r then (k, d) else (k + ((d.freeVal % 2 : Nat) : Int), d.tookFree)

/-- The first `n` binary digits of the base-2 logarithm of `m` / 2^64, for `m` from 2^64 to below 2^65: squaring doubles it. -/
def log2Digits (m acc : Nat) : Nat → Nat
  | 0 => acc
  | n + 1 =>
    let q := m * m / 2 ^ 64
    if 2 ^ 65 ≤ q then log2Digits (q / 2) (2 * acc + 1) n else log2Digits q (2 * acc) n

/-- The natural logarithm of a ratio in units of 2^-40, to within some of them: its base-2 logarithm times ln 2. -/
def lnRatio (num den : Nat) : Int :=
  let e : Nat := num.log2 + 64 - den.log2
  let m := num * 2 ^ 128 / (den * 2 ^ e)
  let l : Int := if m < 2 ^ 64 then ((e : Int) - 65) * 2 ^ 40 + log2Digits (2 * m) 0 40 else ((e : Int) - 64) * 2 ^ 40 + log2Digits m 0 40
  l * 0xB17217F7D1CF79AC / 2 ^ 64

/-- The temperature of an NTC in 1/16 °C (R482): T = 1 / (1/298.15 K + ln(R/R25)/B) − 273.15 °C. Its last digit is a free value
(log 2). -/
def Dev.ntcTemp (d : Dev) (code ua b r25 : Nat) : Int × Dev :=
  let l := lnRatio (code * 180000) (16384 * ua * r25)
  let num : Int := 16 * 29815 * 2 ^ 40 * b
  let den : Int := 100 * 2 ^ 40 * b + 29815 * l
  if den ≤ 0 ∨ r25 = 0 then (toInt 16 d.freeVal, d.tookFree)
  else
    let q := d.openDiv (10 * num - 43704 * den) (10 * den)
    if satInt 16 q.1 = q.1 then q else (toInt 16 q.2.freeVal, q.2.tookFree)

/-- An enabled input becomes INVALID for a cause: 1 open, 2 short, 3 its SAR channel INVALID, 4 no conversion for 100 ms (R482; the
number that the record shows for each is open, log 33). -/
def Dev.tinInvalid (d : Dev) (n cause : Nat) : Dev :=
  if d.on (Reg.TIN_VAL_INVALID n) then d
  else (d.s (Reg.TIN_VAL_INVALID n) 1).raise Err.THM_TIN_INVALID [n, Config.recordNumber Err.THM_TIN_INVALID cause]

/-- A conversion of an input's SAR channel (R482). -/
def Dev.tinConvert (d : Dev) (n code : Nat) : Dev :=
  if d.on (Reg.TIN_CFG_EN n) then
    let d := { d with therm := { d.therm with tinLast := updAt d.therm.tinLast n (fun _ => d.tick) } }
    let ua := tinCurrent (d.g (Reg.TIN_CFG_IEXC n))
    if 175 * 16384 < 180 * code then d.tinInvalid n 1
    else if 1800 * code < 2 * 16384 then d.tinInvalid n 2
    else if d.on (Reg.SAR_RES_INVALID (32 + n)) then d.tinInvalid n 3
    else
      let t := if d.on (Reg.TIN_CFG_TYPE n) then d.ntcTemp code ua (d.g (Reg.TIN_NTC_B n)) (d.g (Reg.TIN_NTC_R25 n))
        else d.ptTemp code ua
      (t.2.s (Reg.TIN_VAL_TEMP n) (ofInt 16 t.1)).s (Reg.TIN_VAL_INVALID n) 0
  else d

/-- THM_TIN_INVALID: no conversion of an enabled input has arrived for 100 ms (R482). -/
def execThmTinInvalid (n : Nat) (s : State) := s.run fun d =>
  if n < 8 ∧ d.on (Reg.TIN_CFG_EN n) ∧ 100 ≤ msBetween (d.therm.tinLast.getD n 0) d.tick then d.tinInvalid n 4 else d

end Sys2Proof.Machine
end

