-- ==== Sys2Proof/Machine/Measure.lean ====
section
/-! DEFINITION. Machine/Measure.lean: sigma-delta inputs and SAR converters (R182 to R194), encoders, resolvers, SSI ports, pulse
inputs and edge capture (R195 to R206). -/

namespace Sys2Proof.Machine

/-! ## Sigma-delta inputs -/

/-- A sigma-delta input. -/
def Dev.sdIn (d : Dev) (i : Nat) : SdIn := d.mea.sds.getD i {}

/-- The device with a sigma-delta input changed. -/
def Dev.updSd (d : Dev) (i : Nat) (f : SdIn → SdIn) : Dev := { d with mea := { d.mea with sds := updBank 48 {} d.mea.sds i f } }

/-- n (n + 1) / 2. -/
def tri (n : Nat) : Nat := n * (n + 1) / 2

/-- The weight of the k-th newest bit in a SINC3 filter of length R (R183). The weights of 3R − 2 bits total R³. -/
def sincWeight (r k : Nat) : Nat := tri (k + 1) + 3 * tri (k + 1 - 2 * r) - 3 * tri (k + 1 - r) - tri (k + 1 - 3 * r)

/-- The weighted sum of a filter over the newest bits; bits before the input was enabled count as 0 (log 23). -/
def sincSum (r : Nat) (hist : List Bool) : Nat :=
  ((hist.take (3 * r - 2)).zipIdx).foldl (fun a p => if p.1 then a + sincWeight r p.2 else a) 0

/-- A filter's result (R183): ties round toward +∞. -/
def sincResult (r : Nat) (hist : List Bool) : Int :=
  let m : Int := r * r * r
  satInt 24 (((2 * (sincSum r hist : Int) - m) * 2 ^ 24 + m) / (2 * m))

/-- INVALID of an input: its clock is stopped (R182), or it is stuck (R186). -/
def Dev.sdInvalid (d : Dev) (i : Nat) : Bool := !d.on (Reg.SD_CLK_EN (i / 8)) || d.on (Reg.SD_RES_STUCK i)

/-- The results on the sample fabric now: those of the last edge at least 3 ticks ago (R183). -/
def Dev.sdNow (d : Dev) (i : Nat) : Nat × Int × Int :=
  let s := d.sdIn i
  if s.cur.1 + 3 ≤ d.tick then s.cur else s.prev

/-- The control result. -/
def Dev.sdCtl (d : Dev) (i : Nat) : Int := (d.sdNow i).2.1

/-- The protection result. -/
def Dev.sdProt (d : Dev) (i : Nat) : Int := (d.sdNow i).2.2

/-- One sampling edge of an input (R183, R185, R186): both filters take the bit and the comparator counts its edges. -/
def Dev.sdEdge (d : Dev) (i : Nat) (b : Bool) : Dev :=
  if d.on (Reg.SD_CLK_EN (i / 8)) && d.on (Reg.SD_CFG_EN i) then
    let s := d.sdIn i
    let hist := (b :: s.hist).take 768
    let same := s.hist.head? == some b
    let ctl := sincResult (d.g (Reg.SD_CFG_CTL_OSR i)) hist
    let prot := sincResult (d.g (Reg.SD_CFG_PROT_OSR i)) hist
    let hi := toInt 16 (d.g (Reg.SD_THR_HI i))
    let lo := toInt 16 (d.g (Reg.SD_THR_LO i))
    let hys : Int := d.g (Reg.SD_HYS_HYS i)
    let out := decide (hi * 256 + 255 < prot) || decide (prot < lo * 256)
    let within := decide ((lo + hys) * 256 ≤ prot) && decide (prot ≤ (hi - hys) * 256)
    let stuck := d.on (Reg.SD_RES_STUCK i)
    let d := d.updSd i (fun s =>
      { s with hist := hist, run := if same then s.run + 1 else 0,
               chg := if !stuck then none
                      else match s.chg with
                        | some n => some (n + 1)
                        | none => if same then none else some 0,
               prev := s.cur, cur := (d.tick, ctl, prot),
               outC := if out then s.outC + 1 else 0, inC := if within then s.inC + 1 else 0 })
    d.s (Reg.SD_RES_RESULT i) (ofInt 24 ctl)
  else d

/-- SD_COMPARATOR_ACTIVE: the fast comparator of an enabled input goes active or inactive after CMP_CNT consecutive edges
(R185). -/
def execSdComparatorActive (i : Nat) (active : Bool) (s : State) := s.run fun d =>
  let n := max 1 (d.g (Reg.SD_CFG_CMP_CNT i))
  let c := d.sdIn i
  if i < 48 ∧ d.on (Reg.SD_CFG_CMP_EN i) then
    if active then (if n ≤ c.outC then d.s (Reg.SD_RES_CMP i) 1 else d)
    else if n ≤ c.inC then d.s (Reg.SD_RES_CMP i) 0 else d
  else d

/-- MEA_SD_STUCK: an input unchanged for 256 sampling edges sets STUCK and INVALID (R186). -/
def execMeaSdStuck (i : Nat) (s : State) := s.run fun d =>
  if 256 ≤ (d.sdIn i).run ∧ !d.on (Reg.SD_RES_STUCK i) then
    ((d.s (Reg.SD_RES_STUCK i) 1).s (Reg.SD_RES_INVALID i) 1).raise Err.MEA_SD_STUCK [i]
  else d

/-- SD_STUCK_CLEAR: STUCK and INVALID clear 3 × CTL_OSR − 2 edges after the first change (R186). -/
def execSdStuckClear (i : Nat) (s : State) := s.run fun d =>
  match (d.sdIn i).chg with
  | some n =>
    if 3 * d.g (Reg.SD_CFG_CTL_OSR i) - 2 ≤ n then
      let d := (d.s (Reg.SD_RES_STUCK i) 0).updSd i (fun s => { s with chg := none })
      d.s (Reg.SD_RES_INVALID i) (b2n (d.sdInvalid i))
    else d
  | none => d

/-! ## SAR converters -/

/-- A SAR channel. -/
def Dev.sar (d : Dev) (c : Nat) : SarCh := d.mea.sars.getD c {}

/-- The device with a SAR channel changed. -/
def Dev.updSar (d : Dev) (c : Nat) (f : SarCh → SarCh) : Dev := { d with mea := { d.mea with sars := updBank 40 {} d.mea.sars c f } }

/-- The converter of a channel (R187). -/
def sarAdc (c : Nat) : Nat := if c < 32 then c / 8 % 2 else (c - 32) / 4

/-- The channel of a local number of a converter (R187). -/
def sarChannel (adc loc : Nat) : Nat :=
  if loc < 8 then 8 * adc + loc else if loc < 16 then 16 + 8 * adc + (loc - 8) else 32 + 4 * adc + (loc - 16)

/-- Whether an enabled resolver claims a channel (R197). -/
def Dev.sarClaimed (d : Dev) (c : Nat) : Bool :=
  (List.range 3).any (fun r => d.on (Reg.RSV_CFG_EN r) && (c == 16 + r || c == 24 + r))

/-- The result of a code (R190). -/
def Dev.sarValue (d : Dev) (c code : Nat) : Int :=
  let z : Int := code % 16384
  if c < 16 then (z - 8192) * 1024
  else if c < 32 ∧ !d.on (Reg.SAR_CFG_UNI c) then (z - 8192) * 1024
  else z * 512

/-- INVALID of a channel: out of limits, by prediction, or the shunt channel of a half-bridge that the pin-function map leaves unused
(R520). -/
def Dev.sarShow (d : Dev) (c : Nat) : Dev :=
  d.s (Reg.SAR_RES_INVALID c) (b2n ((decide (c < 16) && !d.sys.pinMap.testBit c) || d.on (Reg.SAR_RES_LIMIT c) || (d.sar c).predInv))

/-- RT64[36:5], as the time registers show an instant. -/
def rtTick (rt : Nat) : Nat := rt / 32 % 2 ^ 32

/-- A shunt channel's conversion is skipped (R193, R194): the prediction is delivered, or INVALID set. Its rounding is open
(log 2). -/
def Dev.sarSkip (d : Dev) (c t : Nat) : Dev :=
  let n := satInc 9 (d.g (Reg.SAR_RES_PRED_CNT c))
  let was := (d.sar c).predInv
  let d := (d.s (Reg.SAR_RES_PRED c) 1).s (Reg.SAR_RES_PRED_CNT c) n
  let invalid (d : Dev) : Dev :=
    ((d.updSar c (fun s => { s with predInv := true })).sarShow c).when (!was) (fun d => d.raise Err.MEA_PRED_INVALID [c])
  match (d.sar c).v1, (d.sar c).v2 with
  | some (t1, x1), some (t2, x2) =>
    if n = 9 then invalid d
    else
      let r := d.openDiv ((x1 - x2) * ((t : Int) - t1)) ((t1 : Int) - t2)
      let v := satInt 24 (x1 + r.1)
      (r.2.s (Reg.SAR_RES_VALUE c) (ofInt 24 v)).setWord (Reg.SAR_TIME c) (rtTick t)
  | _, _ => invalid d

/-- A conversion of a channel (R190, R191, R194): value, instant, limits. -/
def Dev.sarConvert (d : Dev) (c code t : Nat) : Dev :=
  let v := d.sarValue c code
  let lo := d.g (Reg.SAR_LIM_LO c)
  let hi := d.g (Reg.SAR_LIM_HI c)
  let out := decide (code < lo) || decide (hi < code)
  let within := decide (lo + 32 ≤ code) && decide (code + 32 ≤ hi)
  let d := d.updSar c (fun s => { s with outC := if out then s.outC + 1 else 0, inC := if within then s.inC + 1 else 0 })
  let lim := d.on (Reg.SAR_RES_LIMIT c)
  let d := (d.s (Reg.SAR_RES_VALUE c) (ofInt 24 v)).setWord (Reg.SAR_TIME c) (rtTick t)
  let d :=
    if !lim && decide (4 ≤ (d.sar c).outC) then (d.s (Reg.SAR_RES_LIMIT c) 1).raise Err.MEA_LIMIT [c, code]
    else if lim && decide (4 ≤ (d.sar c).inC) then d.s (Reg.SAR_RES_LIMIT c) 0
    else d
  let d :=
    if d.on (Reg.SAR_RES_LIMIT c) then d
    else
      ((d.s (Reg.SAR_RES_PRED c) 0).s (Reg.SAR_RES_PRED_CNT c) 0).updSar c (fun s =>
        { s with v2 := s.v1, v1 := some (t, v), predInv := false })
  let d := d.sarShow c
  let d := d.when (decide (32 ≤ c)) (fun d => d.tinConvert (c - 32) code)
  -- the commutators read the currents of their Low phases (R263)
  if c < 16 ∧ !d.on (Reg.SAR_RES_INVALID c) then
    d.each (List.range 2) (fun d k =>
      if d.on (Reg.CMU_CFG_MAIN k) then d
      else match (List.range 3).find? (fun i => (d.cmuHbs k).getD i 16 == c) with
        | some i => d.cmuCurrent k i v
        | none => d)
  else d

/-- SEQUENCE_TRIGGER: a trigger starts a sequence, or is dropped while it is pending or running (R188, R189). -/
def execSequenceTrigger (q : Nat) (s : State) := s.run fun d =>
  if q < 8 ∧ d.on (Reg.SEQ_CFG_EN q) then
    if (d.mea.seqs.getD q none).isSome then
      let d := d.inc (Reg.SEQ_OVR_COUNT q)
      d.raise Err.MEA_SEQ_OVR [q, d.g (Reg.SEQ_OVR_COUNT q)]
    else { d with mea := { d.mea with seqs := updBank 8 none d.mea.seqs q (fun _ => some 0) } }
  else d

/-- BACKGROUND_SCAN_START: each scan channel is queued once; one still queued counts as late (R192). -/
def execBackgroundScanStart (s : State) := s.run fun d =>
  d.each (List.range 40) (fun d c =>
    if d.on (Reg.SAR_CFG_SCAN c) && (d.g Reg.ADC_CTL_RUN).testBit (sarAdc c) then
      if d.mea.scan.getD c false then d.inc Reg.MEA_STAT_SCAN_LATE
      else { d with mea := { d.mea with scan := updBank 40 false d.mea.scan c (fun _ => true) } }
    else d)

/-- The next work of a converter (R188): a sequence's entry, else the scan. The result is a local number and the device after the
work is taken. -/
def Dev.sarWork (d : Dev) (adc : Nat) : Option (Nat × Dev) :=
  match ((List.range 4).map (· + 4 * adc)).find? (fun q => (d.mea.seqs.getD q none).isSome) with
  | some q =>
    let e := (d.mea.seqs.getD q none).getD 0
    let len := max 1 (d.g (Reg.SEQ_CFG_LEN q))
    let nxt := if e + 1 < len then some (e + 1) else none
    some (d.g (Reg.SEQ_LIST_ENTRY q e), { d with mea := { d.mea with seqs := updBank 8 none d.mea.seqs q (fun _ => nxt) } })
  | none =>
    match (List.range 20).find? (fun l => d.mea.scan.getD (sarChannel adc l) false) with
    | some l => some (l, { d with mea := { d.mea with scan := updBank 40 false d.mea.scan (sarChannel adc l) (fun _ => false) } })
    | none => none

/-- SAR_SLOT_START: a converter starts a slot for its highest-precedence work, with sample instant `t` (RT64). An entry of 20 to 31
or a claimed channel leaves the slot idle (R189); a shunt channel whose low-side window is too narrow is predicted (R193). -/
def execSarSlotStart (adc t : Nat) (s : State) := s.run fun d =>
  if adc < 2 ∧ (d.g Reg.ADC_CTL_RUN).testBit adc then
    match d.sarWork adc with
    | none => d
    | some (l, d) =>
      let c := sarChannel adc l
      if 20 ≤ l ∨ d.sarClaimed c then d
      else if c < 16 ∧ (!(d.hb c).lo ∨ (d.hb c).lowT < d.g (Reg.SAR_CFG_MIN_WIN c)) then d.sarSkip c t
      else { d with mea := { d.mea with slots := updBank 2 none d.mea.slots adc (fun _ => some (c, t)) } }
  else d

/-- SAR_CONVERSION_DONE: the conversion of a converter's slot completes with its code (R190). -/
def execSarConversionDone (adc code : Nat) (s : State) := s.run fun d =>
  match d.mea.slots.getD adc none with
  | none => d
  | some (c, t) =>
    let d := { d with mea := { d.mea with slots := updBank 2 none d.mea.slots adc (fun _ => none) } }
    d.sarConvert c (code % 16384) t

/-! ## Resolvers -/

/-- The device with a resolver changed. -/
def Dev.updRsv (d : Dev) (r : Nat) (f : Rsv → Rsv) : Dev := { d with mea := { d.mea with rsvs := updBank 3 {} d.mea.rsvs r f } }

/-- RESOLVER_CONVERSION: a pair is converted with the codes of sine and cosine at RT64 `t`; a sample of a negative peak is negated
(R197, R198). The angle lies within 2^-13 turn of atan2, by a free value; of no signal at all it is open (log 2). -/
def execResolverConversion (r sn cs : Nat) (neg : Bool) (t : Nat) (s : State) := s.run fun d =>
  if r < 3 ∧ d.on (Reg.RSV_CFG_EN r) then
    let k : Int := if neg then -1 else 1
    let y := k * ((sn % 16384 : Nat) - 8192 : Int) * 1024
    let x := k * ((cs % 16384 : Nat) - 8192 : Int) * 1024
    let root := isqrt (x * x + y * y).toNat
    let amp := min 0xFFFF (root / 128 + d.freeVal % 2)
    let d := d.tookFree.s (Reg.RSV_AMP_AMP r) amp
    let lo := d.g (Reg.RSV_LIM_LO r)
    let hi := d.g (Reg.RSV_LIM_HI r)
    let out := decide (amp < lo) || decide (hi < amp)
    let within := decide (lo + 0x400 ≤ amp) && decide (amp + 0x400 ≤ hi)
    let d := d.updRsv r (fun v =>
      { v with bad := if out then v.bad + 1 else 0, good := if within then v.good + 1 else 0 })
    let v := d.mea.rsvs.getD r {}
    let was := d.on (Reg.RSV_ANG_INVALID r)
    let d :=
      if 2 ≤ v.bad ∧ !was then
        ((d.s (Reg.RSV_STAT_LOS r) 1).s (Reg.RSV_ANG_INVALID r) 1).raise Err.POS_RSV_LOS [r, amp]
      else if 4 ≤ v.good then d.s (Reg.RSV_ANG_INVALID r) 0
      else d
    if d.on (Reg.RSV_ANG_INVALID r) then d
    else
      let exact : Int := atan2Turn y x
      let off : Int := if x = 0 ∧ y = 0 then (d.freeVal : Int) else ((d.freeVal % 4097 : Nat) : Int) - 2048
      (d.tookFree.s (Reg.RSV_ANG_ANGLE r) (ofInt 24 (exact + off))).updRsv r (fun v => { v with at_ := t })
  else d

/-! ## Encoders -/

/-- An encoder. -/
def Dev.enc (d : Dev) (n : Nat) : Enc := d.mea.encs.getD n {}

/-- The device with an encoder changed. -/
def Dev.updEnc (d : Dev) (n : Nat) (f : Enc → Enc) : Dev := { d with mea := { d.mea with encs := updBank 6 {} d.mea.encs n f } }

/-- The count shown (R195). -/
def Dev.encShow (d : Dev) (n : Nat) : Dev := d.setWord (Reg.ENC_CNT n) (ofInt 32 (d.enc n).cnt)

/-- A 48-bit count, wrapped. -/
def wrapCnt (z : Int) : Int := toInt 48 (ofInt 48 z)

/-- The place of an encoder state in the forward sequence 00, 10, 11, 01 of A and B (the sense is DEDUCED, log 24). -/
def quadPos (a b : Bool) : Int :=
  match a, b with
  | false, false => 0
  | true, false => 1
  | true, true => 2
  | false, true => 3

/-- ENCODER_EDGE: the filtered pins take the levels `a` and `b` at RT64 `rt` (R195, R196). -/
def execEncoderEdge (n : Nat) (a b : Bool) (rt : Nat) (s : State) := s.run fun d =>
  if n < 6 ∧ d.on (Reg.ENC_CFG_EN n) then
    let e := d.enc n
    let set (d : Dev) : Dev := d.updEnc n (fun e => { e with a := a, b := b })
    let count (d : Dev) (z : Int) : Dev :=
      (d.updEnc n (fun e => { e with cnt := wrapCnt (e.cnt + z), edge := rt, fresh := true })).encShow n
    if d.on (Reg.ENC_CFG_MODE n) then
      set (if a && !e.a then count d (if b then 1 else -1) else d)
    else if a != e.a && b != e.b then
      let was := d.on (Reg.ENC_STAT_ILLEGAL n)
      let d := (d.inc (Reg.ENC_STAT_ILL_CNT n)).s (Reg.ENC_STAT_ILLEGAL n) 1
      set (d.when (!was) (fun d => d.raise Err.POS_ENC_ILLEGAL [n]))
    else if a = e.a ∧ b = e.b then d
    else
      set (count d (if (quadPos a b - quadPos e.a e.b) % 4 = 1 then 1 else -1))
  else d

/-- ENCODER_INDEX: a qualified rising edge of Z at RT64 `rt` (R196). -/
def execEncoderIndex (n rt : Nat) (s : State) := s.run fun d =>
  if n < 6 ∧ d.on (Reg.ENC_CFG_EN n) then
    let e := d.enc n
    let d := ((d.setWord (Reg.ENC_ZCNT n) (ofInt 32 e.cnt)).setWord (Reg.ENC_ZTIME n) (rtTick rt)).s (Reg.ENC_STAT_ZSEEN n) 1
    let cpt : Int := d.g (Reg.ENC_CFG_CPT n)
    let moved := match e.zPrev with | some z => e.cnt - z | none => cpt
    let bad := cpt ≠ 0 ∧ moved ≠ cpt ∧ moved ≠ -cpt
    let d := if bad then (d.s (Reg.ENC_STAT_ZERR n) 1).raise Err.POS_ENC_ZERR [n, w32 moved] else d
    let mode := d.g (Reg.ENC_CFG_Z_MODE n)
    let zero := (mode = 1 ∧ !e.zDone) ∨ mode = 2
    (d.updEnc n (fun e => { e with cnt := if zero then 0 else e.cnt, zPrev := some (if zero then 0 else e.cnt), zDone := true })).encShow n
  else d

/-- ENCODER_CLR: a write of 1 to CLR sets the count to 0 at the next tick (R196). -/
def execEncoderClr (n v : Nat) (s : State) := s.run fun d =>
  if v % 2 = 1 then (d.s (Reg.ENC_CTL_CLR n) 1).updEnc n (fun e => { e with clr := true }) else d

/-- A tick of an encoder: a CLR that is due. -/
def Dev.encTick (d : Dev) (n : Nat) : Dev :=
  if (d.enc n).clr then
    ((d.s (Reg.ENC_CTL_CLR n) 0).updEnc n (fun e => { e with clr := false, cnt := 0, zPrev := e.zPrev.map (fun z => z - e.cnt) })).encShow n
  else d

/-! ## SSI ports -/

/-- An SSI port. -/
def Dev.ssi (d : Dev) (p : Nat) : Ssi := d.mea.ssis.getD p {}

/-- The device with an SSI port changed. -/
def Dev.updSsi (d : Dev) (p : Nat) (f : Ssi → Ssi) : Dev := { d with mea := { d.mea with ssis := updBank 4 {} d.mea.ssis p f } }

/-- SSI_FRAME_START: a frame starts with sample instant `rt`, or is skipped within MONO of the last one's end and counted (R199).
Causes of POS_SSI_ERR, shown by open numbers (log 33): 1 data not high before the start, 2 not low after the last bit, 3 parity, 4 status, 5 a skipped
start. -/
def execSsiFrameStart (p rt : Nat) (s : State) := s.run fun d =>
  if p < 4 ∧ d.on (Reg.SSI_CFG_EN p) ∧ (d.ssi p).start.isNone then
    let soon := match (d.ssi p).ended with
      | some t => decide (d.tick < t + d.g (Reg.SSI_TRG_MONO p) * 250)
      | none => false
    if soon then (d.inc (Reg.SSI_STAT_ERR_CNT p)).raise Err.POS_SSI_ERR [p, Config.recordNumber Err.POS_SSI_ERR 5]
    else d.updSsi p (fun x => { x with start := some rt })
  else d

/-- A Gray code of `w` bits decoded. -/
def grayDecode (w g : Nat) : Nat := (List.range w).foldl (fun a i => a ^^^ g / 2 ^ i) 0

/-- The parity of a number's bits. -/
def parity (w n : Nat) : Bool := (List.range w).foldl (fun a i => a != n.testBit i) false

/-- SSI_FRAME_DONE: a frame of LEN bits, the first in the highest place, completes (R199, R200). `high` is the data level before
the start, `low` whether it was low at the read after the last bit. -/
def execSsiFrameDone (p word : Nat) (high low : Bool) (s : State) := s.run fun d =>
  match (d.ssi p).start with
  | none => d
  | some rt =>
    let len := d.g (Reg.SSI_CFG_LEN p)
    let tb := d.g (Reg.SSI_CFG_TURN_BITS p)
    let sb := d.g (Reg.SSI_CFG_ST_BITS p)
    let rest := len - tb - sb
    let w := word % 2 ^ len
    let turns := w / 2 ^ (len - tb)
    let st := w / 2 ^ rest % 2 ^ sb
    let status := w % 2 ^ rest
    let cause :=
      if !high then 1
      else if !low then 2
      else if d.on (Reg.SSI_CFG_PAR p) && parity len w then 3
      else if (status &&& d.g (Reg.SSI_TRG_STAT_MASK p)) ≠ 0 then 4
      else 0
    let d := d.updSsi p (fun x => { x with start := none, ended := some d.tick, last := cause != 0 })
    if cause ≠ 0 then
      let d := ((d.inc (Reg.SSI_STAT_ERR_CNT p)).s (Reg.SSI_STAT_ERR p) 1).raise Err.POS_SSI_ERR [p, Config.recordNumber Err.POS_SSI_ERR cause]
      let d := d.updSsi p (fun x => { x with errs := x.errs + 1 })
      if max 1 (d.g (Reg.SSI_TRG_ERRMAX p)) ≤ (d.ssi p).errs ∧ !d.on (Reg.SSI_STAT_INVALID p) then
        (d.s (Reg.SSI_STAT_INVALID p) 1).raise Err.POS_SSI_INVALID [p]
      else d
    else
      let gray := d.on (Reg.SSI_CFG_GRAY p)
      let t := if gray then grayDecode tb turns else turns
      let f := if gray then grayDecode sb st else st
      let d := (d.s (Reg.SSI_STAT_INVALID p) 0).updSsi p (fun x => { x with errs := 0, at_ := rt })
      (d.s (Reg.SSI_POS_LO_FRAC p) (f * 2 ^ (24 - sb))).setWord (Reg.SSI_POS_HI p) t

/-- SSI_CFG_WRITE: a write of SSI_p_CFG; one that sets EN is stored only with a consistent frame layout (R199). -/
def execSsiCfgWrite (p v : Nat) (s : State) := s.run fun d =>
  let a := Reg.SSI_CFG p
  let was := d.on (Reg.SSI_CFG_EN p)
  let len := max 8 (min 48 (bits v 21 16))
  let tb := bits v 12 8
  let sb := bits v 4 0
  let par := bits v 29 29
  if p < 4 then
    if !was && v.testBit 31 && decide (len < tb + sb + par) then d.raise Err.POS_CFG_BAD [p, len, tb, sb, par]
    else
      let d := d.regStore a a 0x30080000 v (lockIf was) Err.POS_RWL_REFUSED
      if !was && d.on (Reg.SSI_CFG_EN p) then d.updSsi p (fun _ => {}) else d
  else d

/-! ## Pulse inputs and edge capture -/

/-- PULSE_INPUT_EDGE: a rising edge at tick `t`, the level having been high for `high` ticks of the last period (R201). The
rounding of the value is open (log 2). -/
def execPulseInputEdge (q t high : Nat) (s : State) := s.run fun d =>
  if q < 4 ∧ d.on (Reg.PLS_CFG_EN q) then
    let x := d.mea.plss.getD q {}
    let d := { d with mea := { d.mea with plss := updBank 4 {} d.mea.plss q (fun x => { x with rise := some t, need := x.need - 1 }) } }
    match x.rise with
    | none => d
    | some t0 =>
      let per := t - t0
      let r :=
        if d.on (Reg.PLS_CFG_MODE q) then
          let r := d.openDiv ((high : Int) * 2 ^ 24) per
          (r.1 - 2 ^ 23, r.2)
        else
          let r := d.openDiv (250000000 * 2 ^ 23) ((per : Int) * max 1 (d.g (Reg.PLS_FS_FS q)))
          (min r.1 (2 ^ 23 - 1), r.2)
      let d := r.2
      if x.need ≤ 1 then (d.s (Reg.PLS_RES_INVALID q) 0).s (Reg.PLS_RES_VALUE q) (ofInt 24 (satInt 24 r.1)) else d
  else d

/-- POS_PLS_TIMEOUT: no rising edge for TO ms sets INVALID (R201). -/
def execPosPlsTimeout (q : Nat) (s : State) := s.run fun d =>
  if q < 4 ∧ d.on (Reg.PLS_CFG_EN q) ∧ !d.on (Reg.PLS_RES_INVALID q) then
    let d := { d with mea := { d.mea with plss := updBank 4 {} d.mea.plss q (fun _ => { rise := none, need := 2 }) } }
    (d.s (Reg.PLS_RES_INVALID q) 1).raise Err.POS_PLS_TIMEOUT [q]
  else d

/-- The pins that a capture unit can watch (R202). -/
def capPin (pin : Nat) : Bool :=
  decide (pin < 6) || (decide (8 ≤ pin) && decide (pin < 14)) || (decide (16 ≤ pin) && decide (pin < 22)) ||
    (decide (24 ≤ pin) && decide (pin ≤ 28))

/-- CAPTURE_EDGE: a qualified edge at RT64 `rt` is stored, if it is of the kind selected (R202). -/
def execCaptureEdge (c : Nat) (rising : Bool) (rt : Nat) (s : State) := s.run fun d =>
  let edge := d.g (Reg.CAP_CFG_EDGE c)
  if c < 8 ∧ d.on (Reg.CAP_CFG_EN c) ∧ capPin (d.g (Reg.CAP_CFG_PIN c)) ∧ (if rising then edge % 2 = 1 else edge / 2 = 1) then
    let t := rt / 32 * 32 % 2 ^ 64
    let f := (d.mea.caps.getD c {}).fifo
    if f.length < 4 then
      let d := { d with mea := { d.mea with caps := updBank 8 {} d.mea.caps c (fun _ => { fifo := f ++ [t], last := t }) } }
      d.s (Reg.CAP_STAT_LEVEL c) (f.length + 1)
    else (d.inc (Reg.CAP_STAT_OVR c)).raise Err.POS_CAP_OVR [c]
  else d

/-- CAPTURE_POP: a read of CAP_c_LO pops the oldest entry and snapshots its upper half (R202). -/
def execCapturePop (c : Nat) (s : State) := s.run fun d =>
  if c < 8 then
    match (d.mea.caps.getD c {}).fifo with
    | [] => (d.setWord (Reg.CAP_LO c) 0).setWord (Reg.CAP_HI c) 0
    | t :: rest =>
      let d := { d with mea := { d.mea with caps := updBank 8 {} d.mea.caps c (fun x => { x with fifo := rest }) } }
      ((d.setWord (Reg.CAP_LO c) (t % 2 ^ 32)).setWord (Reg.CAP_HI c) (t / 2 ^ 32)).s (Reg.CAP_STAT_LEVEL c) rest.length
  else d

/-! ## Input bindings -/

/-- A status word of R205. -/
def statusWord (invalid pred : Bool) (cnt : Nat) (flag : Bool) : Nat := b2n invalid + 2 * b2n pred + 4 * cnt + 64 * b2n flag

/-- An input source of class 0x1 (R203): `none` where the INDEX is not listed. -/
def Dev.meaSource (d : Dev) (index : Nat) : Option Nat :=
  let i := index % 64
  if index / 64 % 64 ≠ 0 then none
  else match index / 4096 with
    | 0 => if i < 48 then some (ofInt 24 (d.sdCtl i)) else none
    | 1 => if i < 48 then some (ofInt 24 (d.sdProt i)) else none
    | 2 => if i < 48 then some (statusWord (d.sdInvalid i) false 0 (d.on (Reg.SD_RES_STUCK i))) else none
    | 3 => if i < 40 then some (d.g (Reg.SAR_RES_VALUE i)) else none
    | 4 => if i < 40 then some (statusWord (d.on (Reg.SAR_RES_INVALID i)) (d.on (Reg.SAR_RES_PRED i)) (d.g (Reg.SAR_RES_PRED_CNT i))
             (d.on (Reg.SAR_RES_LIMIT i))) else none
    | _ => none

/-- An input source of class 0x2 (R204): `none` where the INDEX is not listed. -/
def Dev.posSource (d : Dev) (index : Nat) : Option Nat :=
  let i := index % 64
  if index / 64 % 64 ≠ 0 then none
  else match index / 4096 with
    | 0 => if i < 6 then some (ofInt 24 (d.enc i).cnt) else none
    | 1 => if i < 6 then some (d.word (Reg.ENC_ZCNT i) % 2 ^ 24) else none
    | 2 => if i < 3 then some (d.g (Reg.RSV_ANG_ANGLE i)) else none
    | 3 => if i < 4 then some (d.g (Reg.SSI_POS_LO_FRAC i)) else none
    | 4 => if i < 4 then some (d.word (Reg.SSI_POS_HI i) % 2 ^ 24) else none
    | 5 => if i < 8 then some ((d.mea.caps.getD i {}).last / 32 % 2 ^ 24) else none
    | 6 => if i < 4 then some (d.g (Reg.PLS_RES_VALUE i)) else none
    | 7 =>
      if i < 6 then some (statusWord false false 0 (d.on (Reg.ENC_STAT_ILLEGAL i) || d.on (Reg.ENC_STAT_ZERR i)))
      else if 8 ≤ i ∧ i < 11 then some (statusWord (d.on (Reg.RSV_ANG_INVALID (i - 8))) false 0 (d.on (Reg.RSV_STAT_LOS (i - 8))))
      else if 16 ≤ i ∧ i < 20 then some (statusWord (d.on (Reg.SSI_STAT_INVALID (i - 16))) false 0 (d.ssi (i - 16)).last)
      else if 24 ≤ i ∧ i < 28 then some (statusWord (d.on (Reg.PLS_RES_INVALID (i - 24))) false 0 false)
      else none
    | _ => none

/-! ## Writes -/

/-- A register write to the MEA block by its offset (R208). -/
def Dev.meaWrite (d : Dev) (off v : Nat) : Dev :=
  let a := 0x30070000 + off
  let store (locked : Bool) (d : Dev) := d.regStore a a 0x30070000 v (lockIf locked) Err.MEA_RWL_REFUSED
  if off < 0x18 then
    let n := off / 4
    let d := store ((List.range 8).any (fun k => d.on (Reg.SD_CFG_EN (8 * n + k)))) d
    d.each (List.range 8) (fun d k => d.s (Reg.SD_RES_INVALID (8 * n + k)) (b2n (d.sdInvalid (8 * n + k))))
  else if off = 0x20 then
    let old := d.g Reg.ADC_CTL_RUN
    let d := store false d
    let set := d.g Reg.ADC_CTL_RUN &&& (3 - old)
    d.each (List.range 40) (fun d c => if set.testBit (sarAdc c) then d.updSar c (fun s => { s with v1 := none, v2 := none }) else d)
  else if 0x100 ≤ off ∧ off < 0x400 then
    let i := (off - 0x100) / 0x10
    if (off - 0x100) % 0x10 = 0 then
      let was := d.on (Reg.SD_CFG_EN i)
      let d := store was d
      if !was && d.on (Reg.SD_CFG_EN i) then (d.updSd i (fun _ => {})).s (Reg.SD_RES_STUCK i) 0 else d
    else store false d
  else if 0x400 ≤ off ∧ off < 0x480 then
    store ((d.g Reg.ADC_CTL_RUN).testBit ((off - 0x400) / 0x40)) d
  else if 0x500 ≤ off then
    store ((d.g Reg.ADC_CTL_RUN).testBit (sarAdc ((off - 0x500) / 0x10))) d
  else d

/-- A register write to the POS block by its offset, but for CLR and SSI_p_CFG, which have rows of their own (R208). -/
def Dev.posWrite (d : Dev) (off v : Nat) : Dev :=
  let a := 0x30080000 + off
  let store (locked : Bool) (d : Dev) := d.regStore a a 0x30080000 v (lockIf locked) Err.POS_RWL_REFUSED
  if off < 0xC0 then
    let n := off / 0x20
    let was := d.on (Reg.ENC_CFG_EN n)
    let d := store was d
    if !was && d.on (Reg.ENC_CFG_EN n) then
      (d.updEnc n (fun e => { e with zPrev := none, zDone := false })).s (Reg.ENC_STAT_ZSEEN n) 0
    else d
  else if 0x100 ≤ off ∧ off < 0x160 then
    let r := (off - 0x100) / 0x20
    store (d.on (Reg.RSV_CFG_EN r)) d
  else if 0x200 ≤ off ∧ off < 0x280 then store (d.on (Reg.SSI_CFG_EN ((off - 0x200) / 0x20))) d
  else if 0x300 ≤ off ∧ off < 0x380 then store (d.on (Reg.CAP_CFG_EN ((off - 0x300) / 0x10))) d
  else if 0x400 ≤ off then
    let q := (off - 0x400) / 0x10
    let was := d.on (Reg.PLS_CFG_EN q)
    let d := store was d
    if !was && d.on (Reg.PLS_CFG_EN q) then { d with mea := { d.mea with plss := updBank 4 {} d.mea.plss q (fun _ => {}) } } else d
  else d

end Sys2Proof.Machine
end

