-- ==== Sys2Proof/Machine/DcLink.lean ====
section
/-! DEFINITION. Machine/DcLink.lean: DC-link monitors, brake chopper, suspended loads, power budget and share groups (R294 to
R321). -/

namespace Sys2Proof.Machine

/-- A DC-link monitor. -/
def Dev.mon (d : Dev) (m : Nat) : DcMon := d.dcl.mons.getD m {}

/-- The device with a monitor changed. -/
def Dev.updMon (d : Dev) (m : Nat) (f : DcMon → DcMon) : Dev := { d with dcl := { d.dcl with mons := updBank 4 {} d.dcl.mons m f } }

/-- A channel's part of the DCL. -/
def Dev.dch (d : Dev) (c : Nat) : DcCh := d.dcl.chs.getD c {}

/-- The device with a channel's part of the DCL changed. -/
def Dev.updDch (d : Dev) (c : Nat) (f : DcCh → DcCh) : Dev := { d with dcl := { d.dcl with chs := updBank 6 {} d.dcl.chs c f } }

/-- A share group. -/
def Dev.grp (d : Dev) (g : Nat) : ShGrp := d.dcl.grps.getD g {}

/-- The device with a share group changed. -/
def Dev.updGrp (d : Dev) (g : Nat) (f : ShGrp → ShGrp) : Dev := { d with dcl := { d.dcl with grps := updBank 4 {} d.dcl.grps g f } }

/-! ## Measurement -/

/-- A voltage as a code of the filter result (R294); ties of the rounding go up (DEDUCED, log 31). Without a full scale no result
reaches it. -/
def Dev.dlCode (d : Dev) (m volts : Nat) : Int :=
  let fs := d.g (Reg.DL_VFS_VFS m)
  if fs = 0 then 2 ^ 40 else ((2 * volts * 2 ^ 23 + fs) / (2 * fs) : Nat)

/-- The thresholds of a monitor, in volts. -/
def Dev.dlOvc (d : Dev) (m : Nat) : Nat := d.g (Reg.DL_THR0_OVC m)
def Dev.dlWarn (d : Dev) (m : Nat) : Nat := d.g (Reg.DL_THR1_WARN m)

/-- The code of WARN − WARN_HYS. -/
def Dev.dlWarnOff (d : Dev) (m : Nat) : Int := d.dlCode m (d.dlWarn m - d.g (Reg.DL_HYS_WARN_HYS m))

/-- The control result of a monitor's source. -/
def Dev.dlCtl (d : Dev) (m : Nat) : Int := d.sdCtl (d.g (Reg.DL_CFG_VSRC m))

/-- The protection result of a monitor's source at its last sampling edge. -/
def Dev.dlProt (d : Dev) (m : Nat) : Int := (d.sdIn (d.g (Reg.DL_CFG_VSRC m))).cur.2.2

/-- Udc in volts, saturating in 16 bits; its rounding is open (log 2). -/
def Dev.dlVolts (d : Dev) (m : Nat) : Nat × Dev :=
  let r := d.openDiv (d.dlCtl m * d.g (Reg.DL_VFS_VFS m)) (2 ^ 23)
  ((clampInt 0 65535 r.1).toNat, r.2)

/-- Whether a monitor's chopper counts as failed (R299). -/
def Dev.chopFailed (d : Dev) (m : Nat) : Bool := !d.on (Reg.DL_CFG_CHOP_EN m) || d.on (Reg.DL_STAT_CHOP_FAIL m)

/-- The members of a monitor. -/
def Dev.dlMembers (d : Dev) (m : Nat) : List Nat := maskBits 6 (d.g (Reg.DL_CFG_MEMBERS m))

/-- The members with, and those without, the suspended-load attribute. -/
def Dev.dlSl (d : Dev) (m : Nat) : List Nat := (d.dlMembers m).filter (fun c => d.on (Reg.DCL_CH_CFG_SL c))
def Dev.dlPlain (d : Dev) (m : Nat) : Nat :=
  ((d.dlMembers m).filter (fun c => !d.on (Reg.DCL_CH_CFG_SL c))).foldl (fun a c => a + 2 ^ c) 0

/-- The enabled monitor that a channel belongs to. -/
def Dev.dlOf (d : Dev) (c : Nat) : Option Nat :=
  firstWhere 4 (fun m => d.on (Reg.DL_CFG_EN m) && (d.g (Reg.DL_CFG_MEMBERS m)).testBit c)

/-! ## Chopper -/

/-- The chopper leg of a monitor follows its command (R298): armed while TG7, CHOP_FAIL and the clock allow, H requested while the
chopper command is on, L never. After a loss of FCLK it is not armed again until a reset (DEDUCED, log 32). -/
def Dev.chopSync (d : Dev) (m : Nat) : Dev :=
  match (d.mon m).desig with
  | none => d
  | some leg =>
    let n := leg / 6
    let k := leg % 6
    let armed := !(d.g Reg.TRP_STAT_LATCH).testBit 7 && !d.on (Reg.DL_STAT_CHOP_FAIL m) &&
      !d.on Reg.TRP_STAT_CLK_LOSS && d.sys.fclkLost.isNone
    let bit := d.g (Reg.PWM_LEG_STAT_ARMED n)
    let d := d.s (Reg.PWM_LEG_STAT_ARMED n)
      (if armed then bit ||| 2 ^ k else if bit.testBit k then bit - 2 ^ k else bit)
    let ask := armed && d.on (Reg.DL_STAT_CHOP_ON m)
    d.updLeg n k (fun g =>
      { g with reqH := ask, reqL := false, onL := false, onH := ask && (g.onH || d.g (Reg.PWM_LEG_DT_DTH n k) == 0) })

/-- Every chopper leg follows its command. -/
def Dev.chopsSync (d : Dev) : Dev := d.each (List.range 4) Dev.chopSync

/-- The legs of TG7 follow the designations (R171, R298): a leg that is newly designated leaves TG0 to TG6. -/
def Dev.chopDesignate (d : Dev) (m : Nat) : Dev :=
  let leg := d.g (Reg.DL_CFG_CHLEG m)
  let new := if d.on (Reg.DL_CFG_EN m) && d.on (Reg.DL_CFG_CHOP_EN m) && decide (leg ≤ 35) then some leg else none
  let old := (d.mon m).desig
  if new = old then d.chopSync m
  else
    let d := match old with
      | some l => d.disarmMask (2 ^ l)
      | none => d
    let d := d.updMon m (fun x => { x with desig := new })
    let mask := (List.range 4).foldl (fun a j => match (d.mon j).desig with | some l => a ||| 2 ^ l | none => a) 0
    let d := (d.s (Reg.TRP_GRP_LEGS_LO_LEGS 7) mask).s (Reg.TRP_GRP_LEGS_HI_LEGS 7) (mask / 2 ^ 32)
    let d := match new with
      | some l => (d.chopExclude l).updLeg (l / 6) (l % 6) (fun g => { g with onH := false, onL := false })
      | none => d
    (d.each (List.range 6) Dev.refreshSafe).chopSync m

/-! ## The suspended-load sequence -/

/-- The reference override of a channel begins from the port's value (R306). -/
def Dev.overBegin (d : Dev) (c : Nat) : Dev :=
  if (d.dch c).ovr.isSome then d
  else
    let v := if d.on (Reg.DCL_CH_SREF_EN c) then
        toInt 24 (storeGet (fun _ => 0) (d.ctx (d.g (Reg.DCL_CH_SREF_CTX c))).inPorts (d.g (Reg.DCL_CH_SREF_PORT c)))
      else 0
    d.updDch c (fun x => { x with ovr := some v })

/-- A suspended-load channel enters a state with a cause; the record is DCL_SL_HOLD (R304). -/
def Dev.slEnter (d : Dev) (c st cause : Nat) : Dev :=
  ((d.s (Reg.DCL_CH_STAT_SLSTATE c) st).s (Reg.DCL_CH_STAT_CAUSE c) cause).raise Err.DCL_SL_HOLD [c, cause]

/-- WARN or HOLD: from NORMAL and HOLD_RAMP the brake is commanded and the override runs (R304); otherwise no change (R309). -/
def Dev.slBrake (d : Dev) (c cause : Nat) : Dev :=
  let st := d.g (Reg.DCL_CH_STAT_SLSTATE c)
  if d.on (Reg.DCL_CH_CFG_SL c) && decide (st ≤ 1) then
    (((d.brakeOn c).overBegin c).slEnter c 2 cause).updDch c (fun x => { x with drop := 1 })
  else d

/-- Udc above OVC with the chopper failed: the override begins (R304). -/
def Dev.slRamp (d : Dev) (m : Nat) : Dev :=
  if d.on (Reg.DL_STAT_OVC m) && d.chopFailed m then
    d.each (d.dlSl m) (fun d c => if d.g (Reg.DCL_CH_STAT_SLSTATE c) = 0 then (d.overBegin c).slEnter c 1 1 else d)
  else d

/-- VDC_TRIP with its cause: the brake is commanded now, and torque is removed after TRIP_LEAD (cause 3) or T_BRK (cause 4)
(R304, R305). -/
def Dev.slTrip (d : Dev) (c cause : Nat) : Dev :=
  if d.g (Reg.DCL_CH_STAT_SLSTATE c) = 3 then d
  else ((d.brakeOn c).slEnter c 3 cause).updDch c (fun x => { x with drop := if cause = 3 then 2 else 1 })

/-- The link trip is latched (R296): members without the attribute go safe at once, the others follow R305. -/
def Dev.dlTrip (d : Dev) (m cause : Nat) : Dev :=
  if d.on (Reg.DL_STAT_TRIP m) then d
  else
    let d := d.s (Reg.DL_STAT_TRIP m) 1
    let d := d.forceMask (d.dlPlain m) 7 (300 + m)
    d.each (d.dlSl m) (fun d c => d.slTrip c cause)

/-- Torque is removed from a suspended-load channel through the trip network (R304, R305). -/
def Dev.slDrop (d : Dev) (c : Nat) : Dev :=
  let d := if d.g (Reg.DCL_CH_STAT_SLSTATE c) = 3 then d else d.slEnter c 3 (d.g (Reg.DCL_CH_STAT_CAUSE c))
  (d.updDch c (fun x => { x with drop := 0 })).forceOn c 7 (100 + c)

/-- BRAKE_TIME_EXPIRY: T_BRK has passed since the brake was commanded (R304, R305). -/
def execBrakeTimeExpiry (c : Nat) (s : State) := s.run fun d => if (d.dch c).drop = 1 then d.slDrop c else d

/-- TRIP_LEAD_EXPIRY: TRIP_LEAD ticks have passed since the link trip (R305). -/
def execTripLeadExpiry (c : Nat) (s : State) := s.run fun d => if (d.dch c).drop = 2 then d.slDrop c else d

/-! ## Events of a monitor -/

/-- The consecutive counts of the monitors whose source has a sampling edge (R294). -/
def Dev.dlEdge (d : Dev) (i : Nat) : Dev :=
  d.each (List.range 4) (fun d m =>
    if d.on (Reg.DL_CFG_EN m) && d.g (Reg.DL_CFG_VSRC m) == i then
      let p := d.dlProt m
      let up (c : Bool) (n : Nat) : Nat := if c then satInc 255 n else 0
      d.updMon m (fun x =>
        { x with onC := up (decide (d.dlCode m (d.g (Reg.DL_THR0_CH_ON m)) ≤ p)) x.onC,
                 offC := up (decide (p ≤ d.dlCode m (d.g (Reg.DL_HYS_CH_OFF m)))) x.offC,
                 tripC := up (decide (d.dlCode m (d.g (Reg.DL_THR1_TRIP m)) ≤ p)) x.tripC })
    else d)

/-- SD_SAMPLING_EDGE: an input is sampled (R183 to R186); the monitors on it count (R294). -/
def execSdSamplingEdge (i : Nat) (b : Bool) (s : State) := s.run fun d => (d.sdEdge i b).dlEdge i

/-- CHOPPER_COMMAND_CHANGE: two consecutive edges beyond CH_ON or CH_OFF turn the chopper command, each state lasting CH_MIN
(R294). -/
def execChopperCommandChange (m : Nat) (s : State) := s.run fun d =>
  let x := d.mon m
  let on := d.on (Reg.DL_STAT_CHOP_ON m)
  let rest : Bool := match x.chgAt with
    | some t => decide (t + 250 * d.g (Reg.DL_TIM_CH_MIN m) ≤ d.tick)
    | none => true
  let edges := if on then x.offC else x.onC
  if m < 4 ∧ d.on (Reg.DL_CFG_EN m) ∧ !d.on (Reg.DL_STAT_INVALID m) ∧ rest ∧ 2 ≤ edges then
    ((d.s (Reg.DL_STAT_CHOP_ON m) (b2n (!on))).updMon m (fun x => { x with chgAt := some d.tick })).chopSync m
  else d

/-- DCL_WARN: Udc at or above WARN for WARN_T sets WARN and commands the brakes of suspended loads (R294, R304). -/
def execDclWarn (m : Nat) (s : State) := s.run fun d =>
  if m < 4 ∧ d.on (Reg.DL_CFG_EN m) ∧ !d.on (Reg.DL_STAT_WARN m) ∧ d.dlCode m (d.dlWarn m) ≤ d.dlProt m then
    let v := d.dlVolts m
    let d := (v.2.s (Reg.DL_STAT_WARN m) 1).raise Err.DCL_WARN [m, v.1]
    d.each (d.dlSl m) (fun d c => d.slBrake c 2)
  else d

/-- DC_LINK_WARN_CLEAR: Udc at or below WARN − WARN_HYS for 1 ms clears WARN (R294). -/
def execDcLinkWarnClear (m : Nat) (s : State) := s.run fun d =>
  if m < 4 ∧ d.on (Reg.DL_CFG_EN m) ∧ d.dlProt m ≤ d.dlWarnOff m then d.s (Reg.DL_STAT_WARN m) 0 else d

/-- DCL_TRIP: Udc at or above TRIP at TRIP_CNT consecutive edges latches the trip (R294, R296). -/
def execDclTrip (m : Nat) (s : State) := s.run fun d =>
  if m < 4 ∧ d.on (Reg.DL_CFG_EN m) ∧ !d.on (Reg.DL_STAT_TRIP m) ∧ max 1 (d.g (Reg.DL_TIM_TRIP_CNT m)) ≤ (d.mon m).tripC then
    let v := d.dlVolts m
    (v.2.raise Err.DCL_TRIP [m, v.1]).dlTrip m 3
  else d

/-- DCL_MEAS_LOST: VSRC shows INVALID: the chopper goes off and the trip is latched with cause 4 (R297). -/
def execDclMeasLost (m : Nat) (s : State) := s.run fun d =>
  if m < 4 ∧ d.on (Reg.DL_CFG_EN m) ∧ !d.on (Reg.DL_STAT_INVALID m) ∧ d.sdInvalid (d.g (Reg.DL_CFG_VSRC m)) then
    let d := (d.s (Reg.DL_STAT_INVALID m) 1).s (Reg.DL_STAT_CHOP_ON m) 0
    let d := d.updMon m (fun x => { x with onC := 0, offC := 0, tripC := 0, chgAt := some d.tick })
    ((d.chopSync m).raise Err.DCL_MEAS_LOST [m]).dlTrip m 4
  else d

/-- A chopper-failure reaction comes into force (R301). -/
def Dev.chopReact (d : Dev) (m code : Nat) : Dev :=
  let d := (d.s (Reg.DL_STAT_REACT m) code).s (Reg.DL_STAT_PROPOSE m) 0
  if code = 2 then d.forceMask (d.dlPlain m) 7 (200 + m) else d

/-- What the device proposes for a failed chopper (R301). -/
def Dev.chopProposal (d : Dev) (m : Nat) : Nat := if d.on (Reg.DL_CFG_AFE_REGEN m) then 3 else 1

/-- The failure of a chopper (R299, R301, R304): latched, disarmed, recorded; LIMIT at once, then the decision function. -/
def Dev.chopFail (d : Dev) (m src : Nat) : Dev :=
  let d := (d.s (Reg.DL_STAT_CHOP_FAIL m) 1).s (Reg.DL_STAT_FAIL_SRC m) src
  let d := ((d.chopSync m).raise Err.DCL_CHOP_FAIL [m, src]).s (Reg.DL_STAT_REACT m) 1
  let p := d.chopProposal m
  let d := if d.assistMode 7 = 0 then d.chopReact m p
    else ((d.s (Reg.DL_STAT_PROPOSE m) 1).raise Err.DCL_PROPOSE [7, m, p]).propose 7 m p
  d.slRamp m

/-- DCL_CHOP_FAIL: `src` 1, no chopper current for 50 µs while H is on; 2, the TG7 latch (R299). -/
def execDclChopFail (m src : Nat) (s : State) := s.run fun d =>
  let noCurrent := match (d.mon m).desig with
    | some l => (d.leg (l / 6) (l % 6)).onH &&
        decide ((d.sdIn (d.g (Reg.DL_CFG_ISRC m))).cur.2.2 < toInt 16 (d.g (Reg.DL_CHI_CH_IMIN m)) * 256)
    | none => false
  let ok := if src = 1 then d.on (Reg.DL_STAT_CHOP_ON m) && noCurrent
    else src == 2 && (d.g Reg.TRP_STAT_LATCH).testBit 7
  if m < 4 ∧ d.on (Reg.DL_CFG_EN m) ∧ d.on (Reg.DL_CFG_CHOP_EN m) ∧ !d.on (Reg.DL_STAT_CHOP_FAIL m) ∧ ok then d.chopFail m src
  else d

/-- CHOPPER_FALLBACK_EXPIRY: FB_ON after the loss of FCLK the chopper leg goes Hi-Z (R300). -/
def execChopperFallbackExpiry (m : Nat) (s : State) := s.runNoClk fun d =>
  match (d.mon m).desig with
  | some l =>
    if d.sys.fclkLost.isSome then d.updLeg (l / 6) (l % 6) (fun g => { g with reqH := false, onH := false }) else d
  | none => d

/-! ## Commands (R316, R317) -/

/-- The conditions of DCL_CMD_REFUSED, whose numbers are open (log 33): 1 UNIT or ARG, 2 Udc, 3 the TG7 latch, 4 nothing awaits,
5 WARN, 6 TRIP, 7 the chopper failed above OVC, 8 no suspended-load channel. -/
def Dev.dclRefuse (d : Dev) (op unit why : Nat) : Dev :=
  (d.s Reg.DCL_CMD_RESULT_RESULT Err.DCL_CMD_REFUSED).raise Err.DCL_CMD_REFUSED [op, unit, Config.recordNumber Err.DCL_CMD_REFUSED why]

/-- A command is accepted. -/
def Dev.dclAccept (d : Dev) : Dev := d.s Reg.DCL_CMD_RESULT_RESULT 0

/-- CLEAR_DL (R296, R299): the trip latch and CHOP_FAIL are cleared. -/
def Dev.clearDl (d : Dev) (m : Nat) : Dev :=
  if 3 < m then d.dclRefuse 1 m 1
  else if d.dlWarnOff m < d.dlCtl m then d.dclRefuse 1 m 2
  else if d.on (Reg.DL_STAT_CHOP_FAIL m) && (d.g Reg.TRP_STAT_LATCH).testBit 7 then d.dclRefuse 1 m 3
  else
    let d := ((d.s (Reg.DL_STAT_TRIP m) 0).updMon m (fun x => { x with tripC := 0 })).forceOff 7 (300 + m)
    let d := if d.on (Reg.DL_STAT_CHOP_FAIL m) then
        let d := ((d.s (Reg.DL_STAT_CHOP_FAIL m) 0).s (Reg.DL_STAT_FAIL_SRC m) 0).s (Reg.DL_STAT_REACT m) 0
        ((d.s (Reg.DL_STAT_PROPOSE m) 0).withdraw 7 m).forceOff 7 (200 + m)
      else d
    (d.chopSync m).dclAccept

/-- DECIDE_CHOP: any of the three codes is applied while a proposal awaits (R301). -/
def Dev.decideChop (d : Dev) (m code who : Nat) : Nat × Dev :=
  if 3 < m ∨ !d.on (Reg.DL_STAT_PROPOSE m) then (Err.DCL_CMD_REFUSED, d.dclRefuse 2 m 4)
  else if code < 1 ∨ 3 < code then (Err.DCL_CMD_REFUSED, d.dclRefuse 2 m 1)
  else (0, ((d.decided 7 m code who).chopReact m code).dclAccept)

/-- A pending higher grant comes into force (R311). -/
def Dev.grantApply (d : Dev) (c : Nat) : Dev :=
  match (d.dch c).want with
  | none => d
  | some (g, r, b) =>
    let d := ((d.s (Reg.DCL_CH_GRANT_GRANT c) g).s (Reg.DCL_CH_GRANT_REASON c) r).s (Reg.DCL_CH_GRANT_BY c) b
    (d.s (Reg.DCL_CH_GRANT_PEND c) 0).updDch c (fun x => { x with want := none })

/-- ACCEPT_PB: the named channels' higher grants are applied, if every one awaits (R311, R316). -/
def Dev.acceptPb (d : Dev) (mask who : Nat) : Nat × Dev :=
  let cs := maskBits 6 mask
  if cs.all (fun c => d.on (Reg.DCL_CH_GRANT_PEND c)) then
    (0, (d.each cs (fun d c => (d.decided 4 c 1 who).grantApply c)).dclAccept)
  else (Err.DCL_CMD_REFUSED, d.dclRefuse 3 0 4)

/-- What a decision does to a share group (R315): 1 drops the weights kept, 2 keeps them. -/
def Dev.shareDecision (d : Dev) (g code : Nat) : Dev :=
  let d := d.s (Reg.SG_CFG_PEND g) 0
  if code = 1 then
    d.each (List.range 6) (fun d c => if d.g (Reg.DCL_CH_CFG_SG c) = g then d.updDch c (fun x => { x with keep := false }) else d)
  else d

/-- DECIDE_SHARE: 1 redistributes, 2 keeps W_avail (R315). -/
def Dev.decideShare (d : Dev) (g code who : Nat) : Nat × Dev :=
  if g < 1 ∨ 3 < g ∨ !d.on (Reg.SG_CFG_PEND g) then (Err.DCL_CMD_REFUSED, d.dclRefuse 4 g 4)
  else if code < 1 ∨ 2 < code then (Err.DCL_CMD_REFUSED, d.dclRefuse 4 g 1)
  else (0, ((d.decided 3 g code who).shareDecision g code).dclAccept)

/-- HOLD: a suspended-load channel brakes with cause 5 (R304, R309). -/
def Dev.dclHold (d : Dev) (c : Nat) : Dev :=
  if 5 < c ∨ !d.on (Reg.DCL_CH_CFG_SL c) then d.dclRefuse 5 c (if 5 < c then 1 else 8)
  else (d.slBrake c 5).dclAccept

/-- The condition that refuses CLEAR_CH, or 0 (R307). -/
def Dev.clearChBar (d : Dev) (c : Nat) : Nat :=
  match firstWhere 4 (fun m => (d.g (Reg.DL_CFG_MEMBERS m)).testBit c) with
  | none => 0
  | some m =>
    if d.on (Reg.DL_STAT_WARN m) then 5
    else if d.on (Reg.DL_STAT_TRIP m) then 6
    else if d.chopFailed m && d.on (Reg.DL_STAT_OVC m) then 7
    else 0

/-- CLEAR_CH: the hold ends from HOLD_RAMP and HELD (R304, R307); in NORMAL and BRAKING an accepted command changes nothing
(DEDUCED, log 34). -/
def Dev.clearCh (d : Dev) (c : Nat) : Dev :=
  if 5 < c then d.dclRefuse 6 c 1
  else
    let bar := d.clearChBar c
    let st := d.g (Reg.DCL_CH_STAT_SLSTATE c)
    if bar ≠ 0 then d.dclRefuse 6 c bar
    else if st = 1 ∨ st = 3 then
      let d := ((d.s (Reg.DCL_CH_STAT_SLSTATE c) 0).s (Reg.DCL_CH_STAT_CAUSE c) 0).s (Reg.DCL_CH_STAT_BRK c) 0
      let d := d.updDch c (fun x => { x with ovr := none, drop := 0 })
      ((d.forceOffCh c 7 (100 + c)).hbApply (d.g (Reg.DCL_CH_CFG_BRK_HB c))).dclAccept
    else d.dclAccept

/-- CLEAR_DL. -/
def execClearDl (m : Nat) (s : State) := s.run fun d => d.clearDl m

/-- DECIDE_CHOP, as a command of the supervisor. -/
def execDecideChop (m code : Nat) (s : State) := s.run fun d => (d.decideChop m code 0).2

/-- ACCEPT_PB, as a command of the supervisor. -/
def execAcceptPb (mask : Nat) (s : State) := s.run fun d => (d.acceptPb mask 0).2

/-- DECIDE_SHARE, as a command of the supervisor. -/
def execDclDecideShare (g code : Nat) (s : State) := s.run fun d => (d.decideShare g code 0).2

/-- HOLD. -/
def execDclHold (c : Nat) (s : State) := s.run fun d => d.dclHold c

/-- CLEAR_CH. -/
def execClearCh (c : Nat) (s : State) := s.run fun d => d.clearCh c

/-- A write of DCL_CMD (R316). An OP outside the table is refused. -/
def Dev.dclCommand (d : Dev) (v : Nat) : Dev :=
  let u := bits v 27 24
  let arg := bits v 5 0
  match bits v 31 28 with
  | 1 => d.clearDl u
  | 2 => (d.decideChop u arg 0).2
  | 3 => (d.acceptPb arg 0).2
  | 4 => (d.decideShare u arg 0).2
  | 5 => d.dclHold u
  | 6 => d.clearCh u
  | op => d.dclRefuse op u 1

/-! ## Power budget (R310 to R313) -/

/-- What one class gets (R310): the grants with REASON and BY per channel, and what is left (budget, class that exhausted it). -/
def pbClass (k : Nat) (reqs : List (Nat × Nat × Bool)) (avail short : Nat) : List (Nat × Nat × Nat × Nat) × Nat × Nat :=
  let r := reqs.foldl (fun a q => a + q.2.1) 0
  if r ≤ avail then
    (reqs.map (fun q => (q.1, q.2.1, 0, k)), avail - r, if avail = r ∧ 0 < r then k else short)
  else if 0 < avail then (reqs.map (fun q => (q.1, avail * q.2.1 / r, 1, k)), 0, k)
  else (reqs.map (fun q => (q.1, 0, if q.2.2 then 3 else 2, short)), avail, short)

/-- The division of a budget over the classes (R310). -/
def pbDivide (classes : List (List (Nat × Nat × Bool))) (b : Nat) : List (Nat × Nat × Nat × Nat) :=
  (classes.zipIdx.foldl (fun (a : List (Nat × Nat × Nat × Nat) × Nat × Nat) q =>
    let r := pbClass q.2 q.1 a.2.1 a.2.2
    (a.1 ++ r.1, r.2.1, r.2.2)) ([], b, 0)).1

/-- The budget in force (R310, R313). -/
def Dev.pbBudget (d : Dev) : Nat :=
  let b := if d.on Reg.PB_CFG_SRC then d.shareWord (d.g Reg.PB_RING_NODE) (d.g Reg.PB_RING_WORD) % 2 ^ 24
    else d.g Reg.PB_BUDGET_KW
  if d.on Reg.PB_STAT_FLR then b * d.g Reg.PB_CFG_FLR_FRAC / 256 else b

/-- A channel's REASON and BY; a change of REASON to a value other than FULL is recorded (R310). -/
def Dev.pbReason (d : Dev) (c reason byC : Nat) : Dev :=
  let was := d.g (Reg.DCL_CH_GRANT_REASON c)
  let d := (d.s (Reg.DCL_CH_GRANT_REASON c) reason).s (Reg.DCL_CH_GRANT_BY c) byC
  d.when (decide (reason ≠ was) && decide (reason ≠ 0)) (fun d => d.raise Err.DCL_PB_SHORT [c, reason, byC])

/-- The pass gives a channel its grant (R310, R311): a lower one at once; a higher one as the decision function has it. A refused
channel stays REFUSED until a request is written. -/
def Dev.pbGrant (d : Dev) (c grant reason byC : Nat) : Dev :=
  let cur := d.g (Reg.DCL_CH_GRANT_GRANT c)
  let d := d.s (Reg.DCL_CH_GRANT_FLR c) (d.g Reg.PB_STAT_FLR)
  if d.g (Reg.DCL_CH_GRANT_REASON c) = 3 ∧ d.g (Reg.DCL_CH_PREQ_KW c) = 0 then d
  else
    let d := if reason = 3 then d.s (Reg.DCL_CH_PREQ_KW c) 0 else d
    let drop (d : Dev) : Dev := ((d.s (Reg.DCL_CH_GRANT_PEND c) 0).updDch c (fun x => { x with want := none })).withdraw 4 c
    if grant ≤ cur then (drop (d.s (Reg.DCL_CH_GRANT_GRANT c) grant)).pbReason c reason byC
    else if d.assistMode 4 = 0 ∧ (d.proposal 4 c).isNone then
      (drop (d.s (Reg.DCL_CH_GRANT_GRANT c) grant)).pbReason c reason byC
    else
      let new := (d.proposal 4 c).isNone
      let d := (d.s (Reg.DCL_CH_GRANT_PEND c) 1).updDch c (fun x => { x with want := some (grant, reason, byC) })
      if new then (d.raise Err.DCL_PROPOSE [4, c, 1]).propose 4 c 1 else d

/-- s_budget of a channel after a pass (R312), in 2^-23; its rounding is open (log 2). -/
def Dev.pbScale (d : Dev) (c : Nat) : Dev :=
  if d.on (Reg.DCL_CH_CFG_PB_EN c) then
    let p := d.sg (Reg.DCL_CH_PACT_KW c)
    let g := d.g (Reg.DCL_CH_GRANT_GRANT c)
    let b := (d.dch c).sBud
    if (g : Int) < p then
      let r := d.openDiv ((b : Int) * g) p.toNat
      r.2.updDch c (fun x => { x with sBud := max (2 ^ 17) r.1.toNat })
    else d.updDch c (fun x => { x with sBud := min (2 ^ 23) (b + d.g Reg.PB_CFG_S_RISE * 2 ^ 13) })
  else d.updDch c (fun x => { x with sBud := 2 ^ 23 })

/-- POWER_BUDGET_PASS: the arbiter divides the budget and updates s_budget (R310 to R312). -/
def execPowerBudgetPass (s : State) := s.run fun d =>
  if d.on Reg.PB_CFG_EN then
    let b := d.pbBudget
    let d := d.s Reg.PB_STAT_B b
    let cls (k : Nat) : List (Nat × Nat × Bool) :=
      ((List.range 6).filter (fun c => d.on (Reg.DCL_CH_CFG_PB_EN c) && d.g (Reg.DCL_CH_CFG_CLASS c) == k)).map
        (fun c => (c, d.g (Reg.DCL_CH_PREQ_KW c), d.on (Reg.DCL_CH_CFG_ON_SHORT c)))
    let d := d.each (pbDivide ((List.range 4).map cls) b) (fun d r => d.pbGrant r.1 r.2.1 r.2.2.1 r.2.2.2)
    d.each (List.range 6) Dev.pbScale
  else d

/-- DCL_FLR: FLR_N qualified low (R313). -/
def execDclFlr (s : State) := s.run fun d =>
  let d := d.s Reg.PB_STAT_FLR 1
  d.raise Err.DCL_FLR [d.pbBudget]

/-- FLR_RELEASE: FLR_N high for the same time (R313). -/
def execFlrRelease (s : State) := s.run fun d => d.s Reg.PB_STAT_FLR 0

/-! ## Share groups (R314, R315) -/

/-- A DCL or engine write to a class-0x3 input port of a context. -/
def Dev.ctxPort (d : Dev) (c p v : Nat) : Dev := d.updCtx c (fun x => { x with inPorts := storeSet (fun _ => 0) x.inPorts p (v % 2 ^ 24) })

/-- Whether DCL owns a port, so that writes from contexts are discarded (R306). -/
def Dev.portOwned (d : Dev) (ctx port : Nat) : Bool :=
  (List.range 6).any (fun c => (d.dch c).ovr.isSome && d.on (Reg.DCL_CH_SREF_EN c) &&
    d.g (Reg.DCL_CH_SREF_CTX c) == ctx && d.g (Reg.DCL_CH_SREF_PORT c) == port)

/-- The members of a share group. -/
def Dev.sgMembers (d : Dev) (g : Nat) : List Nat := (List.range 6).filter (fun c => d.g (Reg.DCL_CH_CFG_SG c) == g)

/-- Whether a member is available: not safe, and its DLV_3 enabled (R314). -/
def Dev.sgAvail (d : Dev) (c : Nat) : Bool := !d.on (Reg.PWM_CH_STAT_SAFE c) && d.on (Reg.DCL_CH_DLV_EN c 3)

/-- A member's drop-out since the last split (R315), and its return. -/
def Dev.sgNotice (d : Dev) (g c : Nat) : Dev :=
  let now := d.sgAvail c
  let was := (d.dch c).avail
  let d := d.updDch c (fun x => { x with avail := now, keep := x.keep && !now })
  if was && !now then
    let d := d.raise Err.DCL_SHARE_DROP [g, c]
    if d.assistMode 3 = 0 then d
    else
      let d := (d.s (Reg.SG_CFG_PEND g) 1).updDch c (fun x => { x with keep := true })
      if (d.proposal 3 g).isNone then (d.raise Err.DCL_PROPOSE [3, g, 1]).propose 3 g 1 else d
  else d

/-- SHARE_SPLIT: the torque of a group is split over its available members, and the echo written to its leader (R314). Its rounding
is open (log 2). -/
def execShareSplit (g : Nat) (s : State) := s.run fun d =>
  if 1 ≤ g ∧ g ≤ 3 ∧ d.on (Reg.SG_CFG_EN g) ∧ (d.grp g).due then
    let ms := d.sgMembers g
    let d := d.each ms (fun d c => d.sgNotice g c)
    let wAll := ms.foldl (fun a c => a + d.g (Reg.DCL_CH_SHW_W c)) 0
    let wAv := ms.foldl (fun a c => if (d.dch c).avail || (d.dch c).keep then a + d.g (Reg.DCL_CH_SHW_W c) else a) 0
    let r := if wAv = 0 then (0, d) else d.openDiv ((d.grp g).t * wAll) wAv
    let t := clampInt (-(2 ^ 23)) (2 ^ 23 - 1) r.1
    let d := r.2.updGrp g (fun x => { x with due := false, w := t })
    let d := d.each ms (fun d c =>
      if (d.dch c).avail then d.ctxPort (d.g (Reg.DCL_CH_DLV_CTX c 3)) (d.g (Reg.DCL_CH_DLV_PORT c 3)) (ofInt 24 t) else d)
    let e := if wAll = 0 then ((0 : Int), d) else d.openDiv (t * wAv) wAll
    e.2.ctxPort (d.g (Reg.SG_CFG_CTX g)) (d.g (Reg.SG_CFG_PORT g)) (ofInt 24 e.1)
  else d

/-! ## The 10 µs update (R302, R303, R306) -/

/-- The regenerative limit of a channel (R302), as a Q1.23 word; its rounding is open (log 2). -/
def Dev.limReg (d : Dev) (c : Nat) : Nat × Dev :=
  match d.dlOf c with
  | none => (0x7FFFFF, d)
  | some m =>
    if d.on (Reg.DCL_CH_CFG_SL c) then (0x7FFFFF, d)
    else if !d.chopFailed m || d.g (Reg.DL_STAT_REACT m) == 3 ||
        (!d.on (Reg.DL_CFG_CHOP_EN m) && d.on (Reg.DL_CFG_AFE_REGEN m)) then
      let den := d.dlWarn m - d.dlOvc m
      if den = 0 then (0, d)
      else
        let r := d.openDiv ((d.dlWarn m : Int) * 2 ^ 23 - d.dlCtl m * d.g (Reg.DL_VFS_VFS m)) den
        ((clampInt 0 0x7FFFFF r.1).toNat, r.2)
    else (0, d)

/-- The braking capacity of a channel's link (R303). -/
def Dev.brakeCap (d : Dev) (c : Nat) : Nat :=
  match d.dlOf c with
  | none => 0
  | some m => if !d.chopFailed m || d.on (Reg.DL_CFG_AFE_REGEN m) then 0x7FFFFF else 0

/-- The current-limit scale of a channel (R303): the lower of s_budget and the thermal derating. -/
def Dev.curScale (d : Dev) (c : Nat) : Nat := min 0x7FFFFF (min (d.dch c).sBud (d.g (Reg.THM_CH_DER_F_APP c) * 256))

/-- The update of one monitor: Udc, OVC, and the suspended loads' ramp (R294, R304). -/
def Dev.monUpdate (d : Dev) (m : Nat) : Dev :=
  if d.on (Reg.DL_CFG_EN m) && !d.sdInvalid (d.g (Reg.DL_CFG_VSRC m)) then
    let v := d.dlVolts m
    let d := (v.2.s (Reg.DL_STAT_VDC m) v.1).s (Reg.DL_STAT_INVALID m) 0
    let isOver := decide (d.dlCode m (d.dlOvc m) < d.dlCtl m)
    let was := d.on (Reg.DL_STAT_OVC m)
    let d := d.s (Reg.DL_STAT_OVC m) (b2n isOver)
    (d.when (isOver && !was) (fun d => d.raise Err.DCL_OVC [m, v.1])).slRamp m
  else d

/-- The reference override of a channel moves toward 0 and is written (R306). -/
def Dev.overStep (d : Dev) (c : Nat) : Dev :=
  match (d.dch c).ovr with
  | none => d
  | some v =>
    let r : Int := max 1 (d.g (Reg.DCL_CH_RAMP_RAMP c))
    let v' := if 0 ≤ v then v - min r v else v + min r (-v)
    let d := d.updDch c (fun x => { x with ovr := some v' })
    if d.on (Reg.DCL_CH_SREF_EN c) then d.ctxPort (d.g (Reg.DCL_CH_SREF_CTX c)) (d.g (Reg.DCL_CH_SREF_PORT c)) (ofInt 24 v') else d

/-- A delivered word is written to its port where it is enabled (R303). -/
def Dev.deliver (d : Dev) (c k v : Nat) : Dev :=
  if d.on (Reg.DCL_CH_DLV_EN c k) then d.ctxPort (d.g (Reg.DCL_CH_DLV_CTX c k)) (d.g (Reg.DCL_CH_DLV_PORT c k)) v else d

/-- The delivered words of a channel (R303). Word 3 is written for an available member of an enabled group. -/
def Dev.deliverAll (d : Dev) (c : Nat) : Dev :=
  let sc := d.curScale c
  let l := d.limReg c
  let d := ((l.2.s (Reg.DCL_CH_STAT_S c) sc).deliver c 0 sc).deliver c 1 l.1
  let d := d.deliver c 2 (d.brakeCap c)
  let g := d.g (Reg.DCL_CH_CFG_SG c)
  if g ≠ 0 ∧ d.on (Reg.SG_CFG_EN g) ∧ (d.dch c).avail ∧ d.sgAvail c then d.deliver c 3 (ofInt 24 (d.grp g).w) else d

/-- DCL_UPDATE: the 10 µs update: OVC, LIM_REG, overrides, delivered words (R294, R302, R303, R306). -/
def execDclUpdate (s : State) := s.run fun d =>
  let d := d.each (List.range 4) Dev.monUpdate
  let d := d.each (List.range 6) Dev.overStep
  d.each (List.range 6) Dev.deliverAll

/-! ## Writes -/

/-- Whether the locked fields of a monitor are stored: every member safe, the chopper leg disarmed (R319). -/
def Dev.dlFree (d : Dev) (m : Nat) : Bool :=
  (d.dlMembers m).all (fun c => d.on (Reg.PWM_CH_STAT_SAFE c)) &&
  match (d.mon m).desig with
  | some l => !d.isArmed (l / 6) (l % 6)
  | none => true

/-- The first comparison of R295 that fails, or 0. -/
def Dev.dlOrder (d : Dev) (m : Nat) : Nat :=
  let ovc := d.dlOvc m
  let on := d.g (Reg.DL_THR0_CH_ON m)
  let off := d.g (Reg.DL_HYS_CH_OFF m)
  let warn := d.dlWarn m
  let trip := d.g (Reg.DL_THR1_TRIP m)
  if on ≤ ovc then 1 else if on ≤ off then 2 else if warn ≤ on then 3 else if trip ≤ warn then 4
  else if d.g (Reg.DL_VFS_VFS m) ≤ trip then 5 else if d.g (Reg.DL_HYS_WARN_HYS m) < 1 then 6 else 0

/-- A write refused by a lock of the DCL (R8, R317, R319). -/
def Dev.dclStore (d : Dev) (off v : Nat) (locked : FieldSpec → Bool) : Dev × Bool :=
  let a := 0x300C0000 + off
  match regRow a with
  | none => (d, false)
  | some row =>
    let r := writeFields row locked (d.word a) v
    let d := d.setWord a r.1
    if r.2 then ((d.raise Err.DCL_RWL_REFUSED [off]).s Reg.DCL_CMD_RESULT_RESULT Err.DCL_RWL_REFUSED, true) else (d, false)

/-- A write of DL_d_CFG (R294, R295, R298, R319). Clearing EN ends what the monitor shows of the present voltage; its latches stay
(DESIGN CHOICE, log 35). -/
def Dev.dlCfgWrite (d : Dev) (m v : Nat) : Dev :=
  let was := d.on (Reg.DL_CFG_EN m)
  let clash := (List.range 4).any (fun j => j != m && (d.g (Reg.DL_CFG_MEMBERS j) &&& bits v 5 0) != 0)
  let free := d.dlFree m
  let locked (f : FieldSpec) : Bool :=
    f.acc == .rwl && (!free || (f.hi == 5 && clash) || (f.hi == 13 && decide (35 < bits v 13 8)))
  let d := (d.dclStore (0x40 * m) v locked).1
  let now := d.on (Reg.DL_CFG_EN m)
  let d :=
    if now && !was then
      (if d.dlOrder m = 0 then d.updMon m (fun x => { x with onC := 0, offC := 0, tripC := 0, chgAt := none })
       else (d.s (Reg.DL_CFG_EN m) 0).raise Err.DCL_CFG_BAD [m, Config.recordNumber Err.DCL_CFG_BAD (d.dlOrder m)])
    else if was && !now then
      (((d.s (Reg.DL_STAT_WARN m) 0).s (Reg.DL_STAT_OVC m) 0).s (Reg.DL_STAT_INVALID m) 0).s (Reg.DL_STAT_CHOP_ON m) 0
    else d
  d.chopDesignate m

/-- DL_ENABLE_WRITE: a write of DL_d_CFG, whose EN is stored only with ordered thresholds (R295). -/
def execDlEnableWrite (m v : Nat) (s : State) := s.run fun d => if m < 4 then d.dlCfgWrite m v else d

/-- P_REQ is written: REFUSED ends (R310). -/
def Dev.preqWrite (d : Dev) (c v : Nat) : Dev :=
  let d := d.s (Reg.DCL_CH_PREQ_KW c) v
  if d.g (Reg.DCL_CH_GRANT_REASON c) = 3 then d.s (Reg.DCL_CH_GRANT_REASON c) 0 else d

/-- A register write to the DCL block by its offset (R319). -/
def Dev.dclWrite (d : Dev) (off v : Nat) : Dev :=
  if off < 0x100 then
    let m := off / 0x40
    if off % 0x40 = 0 then d.dlCfgWrite m v
    else (d.dclStore off v (lockIf (!d.dlFree m))).1
  else if off = 0x110 then d.dclCommand v
  else if 0x200 ≤ off then
    let c := (off - 0x200) / 0x40
    if (off - 0x200) % 0x40 = 0x20 then d.preqWrite c v
    else
      let d := (d.dclStore off v (lockIf (!d.on (Reg.PWM_CH_STAT_SAFE c)))).1
      d.hbsApply
  else (d.dclStore off v unlocked).1

/-- Whether an INDEX of class 0x6 with [15:12] = 0xC names a DCL target (R318). -/
def dclTargetOk (index : Nat) : Bool :=
  let u := index / 256 % 16
  let k := index % 16
  index / 4096 == 0xC && index / 16 % 16 == 0 &&
    ((decide (k ≤ 1) && decide (u ≤ 5)) || (k == 2 && decide (1 ≤ u) && decide (u ≤ 3)))

/-- An engine write to a DCL target (R318). -/
def Dev.dclTarget (d : Dev) (index v : Nat) : Dev :=
  let u := index / 256 % 16
  match index % 16 with
  | 0 => d.preqWrite u (toInt 24 v).toNat
  | 1 => d.s (Reg.DCL_CH_PACT_KW u) v
  | _ => d.updGrp u (fun x => { x with t := toInt 24 v, due := true })

/-- The deadline of a decision that DCL times (R301, R311, R315): functions 3, 4 and 7. -/
def Dev.dclDeadline (d : Dev) (p : Proposal) : Dev :=
  match p.func with
  | 3 =>
    let code := if p.mode = 1 then 1 else 2
    (d.deadlineTaken 3 p.unit code).shareDecision p.unit code
  | 4 =>
    if p.mode = 1 then (d.deadlineTaken 4 p.unit 1).grantApply p.unit
    else ((d.deadlineTaken 4 p.unit 0).s (Reg.DCL_CH_GRANT_PEND p.unit) 0).updDch p.unit (fun x => { x with want := none })
  | _ =>
    let code := if p.mode = 1 then p.code else 1
    (d.deadlineTaken 7 p.unit code).chopReact p.unit code

end Sys2Proof.Machine
end

