-- ==== Sys2Proof/Machine/Ring.lean ====
section
/-! DEFINITION. Machine/Ring.lean: the Duin ring: cycles, Criers, share words, plan, admission, masters, breaks, load sharing across
units (R322 to R356). Frames arrive as commands: `ok` says that a frame passes its CRC and carries a listed TYPE, VER 1 and its
LEN (R326). -/

namespace Sys2Proof.Machine

/-- The device with its ring unit changed. -/
def Dev.updDrg (d : Dev) (f : Drg → Drg) : Dev := { d with drg := f d.drg }

/-- This node's number (R325). -/
def Dev.me (d : Dev) : Nat := d.g Reg.DRG_NODE_NODE

/-- The present cycle number (R329). -/
def Dev.cycNo (d : Dev) : Nat := d.tb.rt / (32 * d.drg.cyc)

/-- A frame that this node sends. -/
def Dev.ringSend (d : Dev) (typ : Nat) (dirB : Bool) (payload : List Nat) : Dev :=
  d.updDrg (fun r => { r with tx := r.tx ++ [⟨typ, dirB, payload⟩] })

/-- A discarded frame is counted (R326). -/
def Dev.ringBad (d : Dev) : Dev := d.inc Reg.DRG_CNT_CRC_ERR

/-- A node as last received. -/
def Dev.rnode (d : Dev) (n : Nat) : RingNode := d.drg.nodes.getD n {}

/-- A status byte of a node. -/
def Dev.nstat (d : Dev) (n i : Nat) : Nat := (d.rnode n).stat.getD i 0

/-! ## The plan (R336, R337) -/

/-- Fields of a plan entry, in the format of PLAN_n. -/
def planWheels (e : Nat) : Nat := bits e 14 11
def planTt (e : Nat) : Nat := bits e 10 9
def planBell (e : Nat) : Nat := bits e 8 8
def planNw (e : Nat) : Nat := bits e 7 1
def planEn (e : Nat) : Bool := e % 2 == 1

/-- slot(j) in bytes (R330). -/
def planSlot (e : Nat) : Nat := 26 + 16 * planWheels e + 3 * planNw e + 38 * planBell e + 62 * planTt e

/-- L of a plan, and its number of planned nodes. -/
def planLen (es : List Nat) : Nat := 46 + (es.filter planEn).foldl (fun a e => a + planSlot e) 0

/-- SHR_DONE of a plan with a hop delay limit in ticks (R336). -/
def planDone (es : List Nat) (dMax : Nat) : Nat := planLen es + 2 * (es.filter planEn).length * (dMax + 24) + 64

/-- The excess of a plan over the cycle: 0 where it fits (R336). -/
def planExcess (es : List Nat) (dMax cyc bulkMin : Nat) : Nat :=
  if cyc < planDone es dMax then planDone es dMax - cyc
  else if cyc < planLen es + 64 + bulkMin then planLen es + 64 + bulkMin - cyc
  else 0

/-- The planned node with the largest slot (R336). -/
def planLargest (es : List Nat) : Nat :=
  (es.zipIdx.foldl (fun (a : Nat × Nat) p => if planEn p.1 && decide (a.1 < planSlot p.1) then (planSlot p.1, p.2) else a) (0, 0)).2

/-- The PLAN_n registers. -/
def Dev.planRegs (d : Dev) : List Nat := (List.range 16).map (fun n => d.word (Reg.PLAN n))

/-- The lowest `k` bits of a mask that are set. -/
def lowest (k m : Nat) : Nat := ((maskBits 16 m).take k).foldl (fun a i => a + 2 ^ i) 0

/-- The plan in force shows in the registers (R336, R337): what this node may send, and a request that exceeds it. -/
def Dev.planShow (d : Dev) (done : Nat) : Dev :=
  let es := d.drg.plan
  let mask := (List.range 16).foldl (fun a n => if planEn (es.getD n 0) then a + 2 ^ n else a) 0
  let d := ((d.s Reg.DRG_PRESENT_PLANNED mask).s Reg.DRG_TIMING_L (planLen es)).s Reg.DRG_TIMING_SHR_DONE done
  let e := es.getD d.me 0
  let en := planEn e
  let want := d.word Reg.DRG_SLOT
  let reqW := (maskBits 16 (d.g Reg.DRG_SLOT_WHEELS)).length
  let adW := if en then planWheels e else 0
  let adT := if en then planTt e else 0
  let adB := if en then planBell e else 0
  let adN := if en then min 64 (planNw e) else 0
  let d := (d.s Reg.DRG_SLOT_ADM_WHEELS (lowest adW (d.g Reg.DRG_SLOT_WHEELS))).s Reg.DRG_SLOT_ADM_TT (min adT (d.g Reg.DRG_SLOT_TT))
  let d := (d.s Reg.DRG_SLOT_ADM_BELL (min adB (d.g Reg.DRG_SLOT_BELL))).s Reg.DRG_SLOT_ADM_NW (min adN (d.g Reg.DRG_SLOT_NW))
  d.when (decide (adW < reqW) || decide (adT < d.g Reg.DRG_SLOT_TT) || decide (adB < d.g Reg.DRG_SLOT_BELL) ||
      decide (adN < d.g Reg.DRG_SLOT_NW)) (fun d => d.raise Err.DRG_SLOT_SHORT [want, d.word Reg.DRG_SLOT_ADM])

/-- A plan that is complete takes effect at start(PLAN_AT) (R337). -/
def Dev.planTake (d : Dev) : Dev :=
  match d.drg.planAt with
  | none => d
  | some at_ =>
    if at_ ≤ d.drg.cycNow ∧ d.drg.next.all Option.isSome then
      let es := d.drg.next.map (fun e => e.getD 0)
      let ver := d.drg.nextVer
      let d := d.updDrg (fun r => { r with plan := es, planAt := none })
      (d.s Reg.DRG_STAT_PLAN_VER ver).planShow
        (if d.drg.sending then planDone es (d.g Reg.DRG_DLY_D_MAX) else d.g Reg.DRG_TIMING_SHR_DONE)
    else d

/-- The number by which a record names a hop of this node, upstream or downstream: open (log 33). -/
def hopNumber (up : Bool) : Nat := Config.recordNumber Err.DRG_HOP_LONG (b2n up)

/-- DRG_CMD refused (R355). The conditions, whose numbers are open: 1 OP, 2 not the master, 3 nothing awaits,
4 ARG (log 33). -/
def Dev.drgRefuse (d : Dev) (op why : Nat) : Dev :=
  (d.setWord Reg.DRG_CMD_RESULT Err.DRG_CMD_REFUSED).raise Err.DRG_CMD_REFUSED [op, Config.recordNumber Err.DRG_CMD_REFUSED why]

/-- A plan is refused: the plan in force stays (R336). -/
def Dev.planRefuse (d : Dev) (es : List Nat) (excess : Nat) : Dev :=
  let n := planLargest es
  (d.setWord Reg.DRG_CMD_RESULT (min 4095 excess * 2 ^ 20 + n * 2 ^ 16 + Err.DRG_PLAN_REFUSED)).raise
    Err.DRG_PLAN_REFUSED [n, excess]

/-- APPLY_PLAN (R336). -/
def Dev.applyPlan (d : Dev) : Dev :=
  if !d.drg.sending then d.drgRefuse 1 2
  else
    let es := d.planRegs
    let x := planExcess es (d.g Reg.DRG_DLY_D_MAX) d.drg.cyc (d.g Reg.DRG_CYC_BULK_MIN)
    if x ≠ 0 then d.planRefuse es x
    else
      let ver := ((if d.drg.planAt.isSome then d.drg.nextVer else d.g Reg.DRG_STAT_PLAN_VER) + 1) % 256
      (d.updDrg (fun r => { r with next := es.map some, nextVer := ver, planAt := some (d.cycNo + 40) })).setWord
        Reg.DRG_CMD_RESULT 0

/-- APPLY_PLAN. -/
def execApplyPlan (s : State) := s.run fun d => d.applyPlan

/-- The clear of DRG_CNT (R355). -/
def Dev.drgCntClear (d : Dev) : Dev := (d.setWord Reg.DRG_CNT 0).setWord Reg.DRG_CMD_RESULT 0

/-- DRG_CNT_CLEAR. -/
def execDrgCntClear (s : State) := s.run fun d => d.drgCntClear

/-! ## Share words -/

/-- A class-0x4 write to an own share word (R78, R337): a word at or above the admitted NW is discarded, and so is the leader's
SCALE word (R352). -/
def Dev.shareOut (d : Dev) (w v : Nat) : Dev :=
  let scale := d.on Reg.LS_CFG_EN && d.g Reg.LS_CFG_LEADER == d.me && w == d.g Reg.LS_CFG_TWORD + 1
  if d.g Reg.DRG_SLOT_ADM_NW ≤ w ∨ scale then d
  else d.updDrg (fun r => { r with own := updAt r.own w (fun _ => v % 2 ^ 24) })

/-- Whether this node's channel is available for load sharing (R352). -/
def Dev.lsAvail (d : Dev) : Bool := d.on Reg.LS_CFG_EN && !d.on (Reg.PWM_CH_STAT_SAFE (d.g Reg.LS_CFG_CH))

/-- Whether this node leads a load-sharing group. -/
def Dev.lsLeads (d : Dev) : Bool := d.on Reg.LS_CFG_EN && d.g Reg.LS_CFG_LEADER == d.me

/-- The weight of a member as the leader knows it; 0 acts as 1 (R352). -/
def Dev.lsWeight (d : Dev) (n : Nat) : Nat :=
  max 1 (if n = d.me then d.g Reg.LS_CFG_W else d.nstat n 3)

/-- The sum of weights over a mask of nodes. -/
def Dev.lsSum (d : Dev) (mask : Nat) : Nat := (maskBits 16 mask).foldl (fun a n => a + d.lsWeight n) 0

/-- The leader's SCALE, Q4.20 (R352); its rounding is open (log 2). -/
def Dev.lsScale (d : Dev) : Nat × Dev :=
  let wAll := d.lsSum (d.g Reg.LS_MEMBERS_MASK)
  let wAv := d.lsSum d.drg.incl
  if wAv = 0 then (0, d)
  else
    let r := d.openDiv ((wAll : Int) * 2 ^ 20) wAv
    (min (2 ^ 24 - 1) r.1.toNat, r.2)

/-- The status bytes that this node freezes (R332). -/
def Dev.ownStat (d : Dev) : List Nat :=
  let b0 := d.g Reg.RT_STAT_STATE + 4 * d.g Reg.DRG_STAT_ACTING + 8 * d.g Reg.DRG_STAT_DN_DOWN + 16 * d.g Reg.DRG_STAT_UP_DOWN +
    32 * b2n d.drg.leaveAt.isSome
  let incl := if d.lsLeads then d.drg.incl else 0
  [b0, 0, b2n d.lsAvail, d.g Reg.LS_CFG_W] ++ leBytes 2 incl ++ leBytes 2 d.drg.ackIn ++ leBytes 2 d.drg.nakIn ++ [0, 0]

/-- The wheel block of a published wheel (R332): position at start(k) in 2^-32 turns, speed, wheel and STALE. -/
def Dev.wheelBlock (d : Dev) (n : Nat) : List Nat :=
  let w := d.wheel n
  leBytes 8 (ofInt 64 (w.pos / 256)) ++ leBytes 6 (ofInt 48 w.spd) ++ [n + 16 * d.g (Reg.WHL_STAT_STALE n), 0]

/-- The words, blocks and status frozen at start(k) (R331, R352). -/
def Dev.freeze (d : Dev) : Dev :=
  let sc := if d.lsLeads then d.lsScale else (0, d)
  let d := sc.2
  let own := if d.lsLeads then updAt d.drg.own (d.g Reg.LS_CFG_TWORD + 1) (fun _ => sc.1) else d.drg.own
  let stat := d.ownStat
  let whls := (maskBits 16 (d.g Reg.DRG_SLOT_ADM_WHEELS)).map d.wheelBlock
  d.updDrg (fun r =>
    { r with own := own, froz := own, ackIn := 0, nakIn := 0,
             nodes := updAt r.nodes d.me (fun n => { n with stat := stat, whls := whls }) })

/-- The payload of this node's share frame (R332). -/
def Dev.sharePayload (d : Dev) : List Nat :=
  let n := d.rnode d.me
  n.stat ++ n.whls.flatten ++ (d.drg.froz.take (d.g Reg.DRG_SLOT_ADM_NW)).flatMap (leBytes 3)

/-- The ring Bell that this cycle carries (R348): the oldest with a target that has not answered and a WHEN more than one cycle
away. -/
def Dev.ringBell (d : Dev) : Option Bell :=
  d.tb.bells.find? (fun b =>
    b.kind == 2 && (b.w4 % 65536 &&& (65535 - ((b.ack ||| b.nak) &&& 65535))) != 0 &&
      decide (d.tb.rt + 32 * d.drg.cyc < b.w1 * 2 ^ 32 + b.w0))

/-! ## The cycle -/

/-- The Crier that this node sends (R328). -/
def Dev.crierPayload (d : Dev) : List Nat :=
  let k := d.drg.cycNow
  let absent := (List.range 16).filter (fun n => planEn (d.drg.plan.getD n 0) && n != d.me && !(d.g Reg.DRG_PRESENT_PRESENT).testBit n)
  let admitNode := (absent.find? (fun n => decide (d.drg.admitAt ≤ n))).orElse (fun _ => absent.head?)
  let hand := d.on Reg.DRG_STAT_ACTING && decide (256 ≤ d.drg.lockRun)
  let pend := d.drg.planAt.isSome
  let e := if pend then (d.drg.next.getD (k % 16) none).getD 0 else d.drg.plan.getD (k % 16) 0
  leBytes 8 d.tb.rt ++ leBytes 4 0 ++ leBytes 4 k ++ leBytes 2 d.drg.cyc ++ leBytes 2 (d.g Reg.DRG_TIMING_SHR_DONE) ++
    [d.me + 16 * d.g Reg.DRG_STAT_ACTING, admitNode.getD 0 + 16 * b2n admitNode.isSome + 32 * b2n hand,
      if pend then d.drg.nextVer else d.g Reg.DRG_STAT_PLAN_VER, k % 16] ++
    leBytes 4 e ++ leBytes 4 (d.drg.planAt.getD 0)

/-- The master's Criers, one in each direction (R329). -/
def Dev.sendCriers (d : Dev) : Dev :=
  if d.drg.sending then
    let p := d.crierPayload
    let a := p.getD 21 0
    let d := d.updDrg (fun r => { r with admitAt := if a / 16 % 2 = 1 then a % 16 + 1 else 0, lastA := some r.cycNow, lastB := some r.cycNow })
    (d.ringSend 1 false p).ringSend 1 true p
  else d

/-- This node's region of the train: share frame, Bell frame, Telltale frames (R330, R348, R350). -/
def Dev.sendRegion (d : Dev) : Dev :=
  let d := d.ringSend 3 false d.sharePayload
  let d := match (if d.on Reg.DRG_SLOT_ADM_BELL then d.ringBell else none) with
    | some b =>
      let d := d.updDrg (fun r => { r with bellNow := some (b.idx, b.gen) })
      d.ringSend 2 false (leBytes 4 b.w0 ++ leBytes 4 b.w1 ++ leBytes 4 b.w2 ++ leBytes 4 b.w3 ++ leBytes 4 b.w4 ++ [b.idx, b.gen, 0, 0])
    | none => d
  let tts := d.drg.tts.take (d.g Reg.DRG_SLOT_ADM_TT)
  let d := d.each tts (fun d t => d.ringSend 4 false t)
  d.updDrg (fun r => { r with tts := r.tts.drop tts.length })

/-- The Criers that the cycle before did not bring, in each direction and in both (R46, R343, R346). -/
def Dev.crierGap (d : Dev) : Dev :=
  if d.drg.sending ∨ !d.on Reg.DRG_STAT_ADMITTED then d
  else
    let was := d.drg.cycNow
    let a := d.drg.lastA == some was
    let b := d.drg.lastB == some was
    let none_ := !a && !b
    let d := d.updDrg (fun r =>
      { r with missA := if a then 0 else r.missA + 1, missB := if b then 0 else r.missB + 1, gap := if none_ then r.gap + 1 else r.gap })
    if none_ then { d with tb := { d.tb with missCyc := d.tb.missCyc + 1, goodCyc := 0 } } else d

/-- The bypass closes: the node is out of the ring (R19, R342). -/
def Dev.ringOut (d : Dev) : Dev :=
  let d := ((d.s Reg.DRG_STAT_ADMITTED 0).s Reg.DRG_STAT_ACTING 0).updDrg (fun r => { r with sending := false, leaveAt := none })
  (d.s Reg.RT_STAT_STATE 0).s Reg.RT_STAT_MASTER 0

/-- RING_CYCLE_START: start(k) (R329 to R331): a leaving node closes its bypass, a plan takes effect, words and status freeze, and
the node sends its part. -/
def execRingCycleStart (s : State) := s.run fun d =>
  let k := d.cycNo
  let d := d.crierGap
  let d := d.updDrg (fun r => { r with cycNow := k, tx := [], bellWas := r.bellNow, bellNow := none, fwd := [0, 0] })
  let d := match d.drg.leaveAt with
    | some t => if t ≤ k then d.ringOut else d
    | none => d
  if d.on Reg.DRG_STAT_ADMITTED then d.planTake.freeze.sendCriers.sendRegion else d

/-- The received word, wheel blocks and status of this node's inbox for a cycle (R331). -/
def Dev.takeShare (d : Dev) (carried : Bool) (n : Nat) : Dev :=
  let own := n == d.me && d.on Reg.DRG_STAT_ADMITTED
  let f := d.drg.inbox.find? (fun f => f.src == n && f.cyc == d.drg.cycNow % 65536)
  let put (d : Dev) (ws : List Nat) : Dev := d.each ws.zipIdx (fun d p => d.setShareWord n p.2 p.1)
  let show_ (d : Dev) (here : Bool) : Dev :=
    let d := d.s (Reg.NODE_STAT_PRESENT n) (b2n here)
    let p := d.g Reg.DRG_PRESENT_PRESENT
    let d := d.s Reg.DRG_PRESENT_PRESENT (if here then p ||| 2 ^ n else p &&& (65535 - 2 ^ n))
    if here then
      let d := (d.s (Reg.NODE_STAT_AVAIL n) (d.nstat n 2)).s (Reg.NODE_STAT_STATE n) (d.nstat n 0)
      (d.s (Reg.NODE_STAT_NEXT n) (d.nstat n 1)).s (Reg.NODE_STAT_W n) (d.nstat n 3)
    else d
  if own then show_ (put d (d.drg.froz.take (d.g Reg.DRG_SLOT_ADM_NW))) true
  else match f with
    | some f =>
      let d := d.updDrg (fun r => { r with nodes := updAt r.nodes n (fun _ => ⟨f.stat, f.whls, 0⟩) })
      show_ (put d f.words) true
    | none =>
      let planned := planEn (d.drg.plan.getD n 0)
      let d := d.when (carried && planned) (fun d =>
        (d.inc (Reg.NODE_STAT_MISS n)).updDrg (fun r => { r with nodes := updAt r.nodes n (fun x => { x with miss := x.miss + 1 }) }))
      show_ d false

/-- The remote wheels on nodes whose block has come (R351). -/
def Dev.remoteWheels (d : Dev) : Dev :=
  d.each (List.range 16) (fun d n =>
    if d.g (Reg.WHL_CFG_SRC n) = 6 ∧ (d.g Reg.DRG_PRESENT_PRESENT).testBit (d.g (Reg.WHL_CFG_SEL n)) then
      let w := d.g (Reg.WHL_CFG_PORT n)
      match (d.rnode (d.g (Reg.WHL_CFG_SEL n))).whls.find? (fun b => b.getD 14 0 % 16 == w % 16) with
      | some b =>
        if b.getD 14 0 / 16 % 2 = 1 then d
        else d.wheelSample n (toInt 64 (leVal (b.take 8)) * 256) (32 * d.drg.cyc * d.drg.cycNow : Nat) 0
          (some (toInt 48 (leVal ((b.drop 8).take 6))))
      | none => d
    else d)

/-- The answers to the ring Bell of the cycle before (R348, R69): ACK and NAK bits from every node in the buffer. -/
def Dev.bellAnswers (d : Dev) : Dev :=
  match d.drg.bellWas with
  | none => d
  | some (i, gen) =>
    let here := maskBits 16 (d.g Reg.DRG_PRESENT_PRESENT)
    let pick (j : Nat) : Nat :=
      here.foldl (fun a n => if (leVal [d.nstat n j, d.nstat n (j + 1)]).testBit d.me then a + 2 ^ n else a) 0
    let ack := pick 6
    let nak := pick 8
    match d.tb.bells.find? (fun b => b.idx == i && b.gen == gen && b.kind == 2) with
    | none => d
    | some b =>
      let new := (b.nak ||| nak) != b.nak
      let b' := { b with ack := b.ack ||| ack, nak := b.nak ||| nak }
      let d := { d with tb := { d.tb with bells := d.tb.bells.map (fun (x : Bell) => if x.idx = i ∧ x.gen = gen ∧ x.kind = 2 then b' else x) } }
      let shown := d.g Reg.RBELL_HANDLE_INDEX == i && d.g Reg.RBELL_HANDLE_GEN == gen
      let d := d.when shown (fun d => (d.s Reg.RBELL_ACK_ACK b'.ack).s Reg.RBELL_ACK_NAK b'.nak)
      d.when new (fun d => d.raise Err.TB_RING_REFUSED [gen * 256 + i, b'.nak])

/-! ## Load sharing across units (R352 to R354) -/

/-- The leader's view of one member at c(k): a drop-out with its cause (1 AVAIL clear, 2 frame missing), or a return (R353). -/
def Dev.lsMember (d : Dev) (n : Nat) : Dev :=
  let gone := decide (2 ≤ (d.rnode n).miss)
  let avail := (if n = d.me then d.nstat d.me 2 else d.nstat n 2) % 2 == 1
  let bit := 2 ^ n
  let isIn := d.drg.incl.testBit n
  let wasDown := d.drg.down.testBit n
  if avail && !gone then
    d.updDrg (fun r => { r with incl := r.incl ||| bit, down := r.down &&& (65535 - bit), kept := r.kept &&& (65535 - bit) })
  else if isIn && !wasDown then
    let d := (d.updDrg (fun r => { r with down := r.down ||| bit })).raise Err.DRG_LS_DROP [n, Config.recordNumber Err.DRG_LS_DROP (if gone then 2 else 1)]
    if d.assistMode 3 = 0 then d.updDrg (fun r => { r with incl := r.incl &&& (65535 - bit) })
    else
      let d := (d.updDrg (fun r => { r with kept := r.kept ||| bit })).s Reg.LS_STAT_PEND 1
      if (d.proposal 3 0x10).isNone then (d.raise Err.DRG_PROPOSE [n, 1]).propose 3 0x10 1 else d
  else d

/-- The redistribution decision on the leader: 1 drops the members that went, 2 keeps them (R353). -/
def Dev.lsDecision (d : Dev) (code : Nat) : Dev :=
  let d := d.s Reg.LS_STAT_PEND 0
  if code = 1 then d.updDrg (fun r => { r with incl := r.incl &&& (65535 - r.kept), kept := 0 })
  else d.updDrg (fun r => { r with kept := 0 })

/-- DECIDE_SHARE of the ring group (R353, R355). -/
def Dev.drgDecide (d : Dev) (code who : Nat) : Nat × Dev :=
  if !d.on Reg.LS_STAT_PEND then (Err.DRG_CMD_REFUSED, d.drgRefuse 2 3)
  else if code < 1 ∨ 2 < code then (Err.DRG_CMD_REFUSED, d.drgRefuse 2 4)
  else (0, ((d.decided 3 0x10 code who).lsDecision code).setWord Reg.DRG_CMD_RESULT 0)

/-- DRG_DECIDE_SHARE, as a command of the supervisor. -/
def execDrgDecideShare (code : Nat) (s : State) := s.run fun d => (d.drgDecide code 0).2

/-- The deadline of a ring-group proposal (R353). -/
def Dev.drgDeadline (d : Dev) (p : Proposal) : Dev :=
  let code := if p.mode = 1 then 1 else 2
  (d.deadlineTaken 3 0x10 code).lsDecision code

/-- A write to an LS port, where it is enabled. -/
def Dev.lsPort (d : Dev) (en ctx port : RF) (v : Int) : Dev :=
  if d.on en then d.ctxPort (d.g ctx) (d.g port) (ofInt 24 v) else d

/-- The member's part at c(k): t, the echo on the leader, and a lost leader (R352, R354). Rounding is open (log 2). -/
def Dev.lsApply (d : Dev) : Dev :=
  let l := d.g Reg.LS_CFG_LEADER
  if l ≠ d.me ∧ 2 ≤ (d.rnode l).miss then
    d.when (!d.on Reg.LS_STAT_LEADER_LOST) (fun d => (d.s Reg.LS_STAT_LEADER_LOST 1).raise Err.DRG_LS_LEADER_LOST [l])
  else
    let d := d.when ((d.rnode l).miss == 0) (fun d => d.s Reg.LS_STAT_LEADER_LOST 0)
    let t := toInt 24 (d.shareWord l (d.g Reg.LS_CFG_TWORD))
    let sc := d.shareWord l (d.g Reg.LS_CFG_TWORD + 1)
    let incl := leVal [d.nstat l 4, d.nstat l 5]
    let d := (d.s Reg.LS_SCALE_SCALE sc).s Reg.LS_STAT_INCL incl
    let r := if incl.testBit d.me then d.openDiv (t * sc) (2 ^ 20) else (0, d)
    let v := clampInt (-(2 ^ 23)) (2 ^ 23 - 1) r.1
    let d := (r.2.updDrg (fun x => { x with lsT := v })).lsPort Reg.LS_TGT_EN Reg.LS_TGT_CTX Reg.LS_TGT_PORT v
    if l = d.me then
      let q := d.openDiv (t * sc) (2 ^ 20)
      let all := clampInt (-(2 ^ 23)) (2 ^ 23 - 1) q.1
      let e := q.2.openDiv (all * 2 ^ 20) sc
      e.2.lsPort Reg.LS_ECHO_EN Reg.LS_ECHO_CTX Reg.LS_ECHO_PORT e.1
    else d

/-- SHARE_BUFFER_COMPLETE: c(k): the received words of cycle k replace those before; remote wheels, Bell answers and load sharing
follow (R331, R348, R351 to R354). An acting master counts the cycles in which the configured master is LOCKED (R344). -/
def execShareBufferComplete (s : State) := s.run fun d =>
  if d.on Reg.DRG_STAT_ADMITTED then
    let carried := d.drg.sending || d.drg.lastA == some d.drg.cycNow || d.drg.lastB == some d.drg.cycNow
    let d := d.each (List.range 16) (fun d n => d.takeShare carried n)
    let d := d.updDrg (fun r => { r with inbox := [] })
    let d := d.remoteWheels.bellAnswers
    let d := d.when d.lsLeads (fun d => d.each (maskBits 16 (d.g Reg.LS_MEMBERS_MASK)) Dev.lsMember)
    let d := d.when (d.on Reg.LS_CFG_EN) Dev.lsApply
    let locked := (d.g Reg.DRG_PRESENT_PRESENT).testBit d.drg.former && d.nstat d.drg.former 0 % 4 == 2
    d.updDrg (fun r => { r with lockRun := if d.on Reg.DRG_STAT_ACTING && locked then r.lockRun + 1 else 0 })
  else d

/-! ## Frames received -/

/-- A node that sees its own number as SRC while it waits for admission (R340). -/
def Dev.idClash (d : Dev) : Dev :=
  if d.on Reg.DRG_CTL_JOIN && !d.on Reg.DRG_STAT_ADMITTED && !d.on Reg.DRG_STAT_ID_CLASH then
    (d.s Reg.DRG_STAT_ID_CLASH 1).raise Err.DRG_ID_CLASH [d.me]
  else d

/-- SHARE_FRAME_RECEIVED: held for the buffer of its cycle, from the first valid copy (R330 to R332). -/
def execShareFrameReceived (src cyc16 : Nat) (ok : Bool) (stat : List Nat) (whls : List (List Nat)) (words : List Nat) (s : State) :=
  s.run fun d =>
    if !ok then d.ringBad
    else if src = d.me then d.idClash
    else if d.drg.inbox.any (fun f => f.src == src && f.cyc == cyc16) then d
    else d.updDrg (fun r => { r with inbox := r.inbox ++ [⟨src, cyc16, stat, whls, words⟩] })

/-- The time error of a Crier's arrival (R339), RT64 less the ring time: `dIn` is the hop delay on its way in. -/
def Dev.crierErr (d : Dev) (fine tTx corr dIn : Nat) : Int := toInt 64 (ofInt 64 ((d.tb.rt + fine : Int) - (tTx + corr + dIn)))

/-- The hop delay on the way in, in fine ticks: measured, or D_EST before the first measurement (R338, R339). -/
def Dev.hopIn (d : Dev) (dirB : Bool) : Nat :=
  let v := if dirB then d.g Reg.DRG_HOP_DN else d.g Reg.DRG_HOP_UP
  if v = 0 then 32 * d.g Reg.DRG_DLY_D_EST else v

/-- RT64 is disciplined by a Crier's error (R46, R339). -/
def Dev.discipline (d : Dev) (err : Int) : Dev :=
  let d := d.s Reg.DRG_TERR_ERR (ofInt 16 (satInt 16 err))
  let good := decide (err.natAbs ≤ 8)
  let d := { d with tb := { d.tb with slew := -err, goodCyc := if good then d.tb.goodCyc + 1 else 0, missCyc := 0 } }
  let d := d.updDrg (fun r => { r with badCyc := if good then 0 else r.badCyc + 1 })
  let st := d.g Reg.RT_STAT_STATE
  if st = 3 ∨ (st = 2 ∧ 4 ≤ d.drg.badCyc) then { d.s Reg.RT_STAT_STATE 1 with tb := { d.tb with goodCyc := b2n good } } else d

/-- The difference of the two directions' Criers (R339). -/
def Dev.crierSplit (d : Dev) : Dev :=
  if d.drg.lastA == d.drg.lastB && d.drg.lastA.isSome then
    let ab := d.drg.errA - d.drg.errB
    let far := decide (16 < ab.natAbs)
    let n := if far then d.drg.splits + 1 else 0
    let d := (d.s Reg.DRG_TERR_AB (ofInt 16 (satInt 16 ab))).updDrg (fun r => { r with splits := n })
    d.when (decide (16 ≤ n) && !d.on Reg.DRG_STAT_SPLIT) (fun d => (d.s Reg.DRG_STAT_SPLIT 1).raise Err.DRG_TIME_SPLIT [w32 ab])
  else d

/-- The plan entry that a Crier carries (R328, R337). -/
def Dev.crierPlan (d : Dev) (ver node entry planAt shrDone : Nat) : Dev :=
  let d := if ver = d.drg.nextVer then d else d.updDrg (fun r => { r with next := List.replicate 16 none, nextVer := ver, planAt := none })
  let d := d.updDrg (fun r => { r with next := updAt r.next (node % 16) (fun _ => some entry) })
  if ver = d.g Reg.DRG_STAT_PLAN_VER ∧ d.on Reg.DRG_STAT_ADMITTED then d
  else (d.s Reg.DRG_TIMING_SHR_DONE shrDone).updDrg (fun r => { r with planAt := some planAt })

/-- Admission (R340, R47): the bypass opens, RT64 steps to the ring time, and the node sends from the next cycle. -/
def Dev.admitNode (d : Dev) (err : Int) : Dev :=
  let es := d.drg.next.map (fun e => e.getD 0)
  let ver := d.drg.nextVer
  let rt := ofInt 64 ((d.tb.rt : Int) - err)
  let d := { d with tb := { d.tb with rt := rt, slew := 0, goodCyc := 0, missCyc := 0, admitted := true } }
  let d := ((d.s Reg.DRG_STAT_ADMITTED 1).s Reg.RT_STAT_STATE 1).s Reg.RT_STAT_STEPPED 1
  let d := d.updDrg (fun r => { r with plan := es, planAt := none, cycNow := rt / (32 * r.cyc), gap := 0, missA := 0, missB := 0 })
  (d.s Reg.DRG_STAT_PLAN_VER ver).planShow (d.g Reg.DRG_TIMING_SHR_DONE)

/-- A node with the MASTER role that hears a lower-numbered master sends no Criers (R345). -/
def Dev.roleClash (d : Dev) (master : Nat) : Dev :=
  if d.g Reg.DRG_NODE_ROLE = 1 ∧ d.drg.sending ∧ master < d.me then
    ((d.updDrg (fun r => { r with sending := false })).s Reg.RT_STAT_MASTER 0).raise Err.DRG_ROLE_CLASH [master]
  else d

/-- CRIER_RECEIVED: a Crier arrives `fine` fine ticks into the tick, in direction A or B, with WRAP as given; `payload` are its 32
bytes (R328), `residence` the fine ticks until it is forwarded (R339). -/
def execCrierReceived (dirB wrap ok : Bool) (fine residence : Nat) (payload : List Nat) (s : State) := s.run fun d =>
  let f (i n : Nat) : Nat := leVal ((payload.drop i).take n)
  let master := f 20 1 % 16
  if !ok ∨ payload.length ≠ 32 then d.ringBad
  else if d.drg.sending ∧ master = d.me then d
  else
    let k := f 12 4
    let dIn := d.hopIn dirB
    let err := d.crierErr fine (f 0 8) (f 8 4) dIn
    let d := d.when (d.on Reg.DRG_STAT_ADMITTED) (fun d =>
      d.ringSend 1 dirB (payload.take 8 ++ leBytes 4 (f 8 4 + dIn + residence) ++ payload.drop 12))
    if wrap then d
    else
      let d := d.roleClash master
      let gap := d.drg.gap
      let d := d.when (decide (0 < gap) && d.on Reg.DRG_STAT_ADMITTED) (fun d =>
        (d.updDrg (fun r => { r with gap := 0 })).raise Err.DRG_CRIER_MISS [gap])
      let first := d.drg.lastA != some k && d.drg.lastB != some k
      let d := d.updDrg (fun r =>
        let r := { r with cyc := max 1 (f 16 2) }
        if dirB then { r with lastB := some k, errB := err } else { r with lastA := some k, errA := err })
      let d := d.s Reg.DRG_STAT_MASTER master
      let d := d.crierPlan (f 22 1) (f 23 1) (f 24 4) (f 28 4) (f 18 2)
      if d.on Reg.DRG_STAT_ADMITTED then
        let d := d.updDrg (fun r => { r with handoff := f 21 1 / 32 % 2 == 1 })
        let d := d.crierSplit
        let useB := d.on Reg.DRG_STAT_UP_DOWN || decide (0 < d.drg.missA)
        if !d.drg.sending && (if dirB then first && useB else true) then d.discipline err else d
      else if d.on Reg.DRG_CTL_JOIN && !d.on Reg.DRG_STAT_ID_CLASH && f 21 1 % 32 == d.me + 16 &&
          d.drg.next.all Option.isSome && planEn ((d.drg.next.getD d.me none).getD 0) then
        d.admitNode err
      else d

/-! ## Hop delay (R338) -/

/-- DELAY_REQUEST: every 64 cycles an admitted node sends a Delay request with t1 (R338); `fine` is the instant in the tick. -/
def execDelayRequest (fine : Nat) (s : State) := s.run fun d =>
  if d.on Reg.DRG_STAT_ADMITTED then
    (d.updDrg (fun r => { r with askAt := some (d.tb.rt + fine) })).ringSend 6 false (leBytes 8 (d.tb.rt + fine))
  else d

/-- A measured hop delay beyond D_MAX on the master recomputes the plan (R336; log 36): a plan that fails is refused, and the plan
in force stays. -/
def Dev.planRecheck (d : Dev) (dFine : Int) : Dev :=
  let dm := (dFine.toNat + 31) / 32
  if d.drg.sending ∧ d.g Reg.DRG_DLY_D_MAX < dm then
    let x := planExcess d.planRegs dm d.drg.cyc (d.g Reg.DRG_CYC_BULK_MIN)
    if x ≠ 0 then d.planRefuse d.planRegs x else d
  else d

/-- DELAY_FRAME_RECEIVED: a request from upstream (`answer` false) is answered, with the neighbour's own value `val` shown in UP;
an answer with t2 and t3 gives d, whose mean over the last 8 is DN (R338). Roundings are open (log 2). -/
def execDelayFrameReceived (answer ok : Bool) (t1 t2 t3 fine val : Nat) (s : State) := s.run fun d =>
  if !ok then d.ringBad
  else if !answer then
    let t := d.tb.rt + fine
    (d.s Reg.DRG_HOP_UP val).ringSend 6 true (leBytes 8 t1 ++ leBytes 8 t ++ leBytes 8 t)
  else match d.drg.askAt with
    | none => d
    | some t0 =>
      let t4 : Int := d.tb.rt + fine
      let r := d.openDiv ((t4 - t0) - ((t3 : Int) - t2)) 2
      let hops := (r.1 :: d.drg.hops).take 8
      let d := r.2.updDrg (fun x => { x with hops := hops, askAt := none })
      let m := d.openDiv (hops.foldl (· + ·) 0) hops.length
      let d := m.2.s Reg.DRG_HOP_DN (clampInt 0 65535 m.1).toNat
      let d := if (32 * d.g Reg.DRG_DLY_D_MAX : Int) < r.1 then
          (d.s Reg.DRG_STAT_HOP_LONG 1).raise Err.DRG_HOP_LONG [hopNumber false, (clampInt 0 65535 r.1).toNat] else d
      d.planRecheck r.1

/-! ## Joining, leaving, masters -/

/-- The node number and role of the tally come into force (R325). -/
def Dev.nodeFromTally (d : Dev) : Dev := d.setWord Reg.DRG_NODE ((d.tly.entries.getD 0 ⟨[0], true, 0, 0⟩).value.headD 0 % 64)

/-- JOIN: a write of JOIN (R340): it clears ID_CLASH and lets the node listen for admission; a change of the tally's node number and
role takes effect (R325). -/
def execJoin (v : Nat) (s : State) := s.run fun d =>
  let d := (d.s Reg.DRG_CTL_JOIN (v % 2)).s Reg.DRG_STAT_ID_CLASH 0
  if v % 2 = 1 then d.nodeFromTally else d

/-- LEAVE: the status carries the leaving bit from the next cycle k, and the bypass closes before start(k + 2) (R342). -/
def execLeave (s : State) := s.run fun d =>
  if d.on Reg.DRG_STAT_ADMITTED && d.drg.leaveAt.isNone then d.updDrg (fun r => { r with leaveAt := some (r.cycNow + 3) }) else d

/-- RING_START: a MASTER or BACKUP with JOIN = 1 that has heard no Crier starts the ring (R341); its plan is the PLAN_n registers,
or its own entry only where they are refused (R336). -/
def execRingStart (s : State) := s.run fun d =>
  let role := d.g Reg.DRG_NODE_ROLE
  if d.on Reg.DRG_CTL_JOIN && !d.on Reg.DRG_STAT_ADMITTED && !d.on Reg.DRG_STAT_ID_CLASH && (role == 1 || role == 2) then
    let cyc := d.g Reg.DRG_CYC_CYC
    let es := d.planRegs
    let x := planExcess es (d.g Reg.DRG_DLY_D_MAX) cyc (d.g Reg.DRG_CYC_BULK_MIN)
    let d := if x ≠ 0 then d.planRefuse es x else d
    let es := if x ≠ 0 then (List.range 16).map (fun n => if n = d.me then es.getD n 0 else 0) else es
    let ver := (d.g Reg.DRG_STAT_PLAN_VER + 1) % 256
    let d := d.updDrg (fun r =>
      { r with plan := es, next := es.map some, nextVer := ver, planAt := none, cyc := cyc, sending := true, cycNow := d.tb.rt / (32 * cyc) })
    let d := ((d.s Reg.DRG_STAT_ADMITTED 1).s Reg.DRG_STAT_MASTER d.me).s Reg.DRG_STAT_ACTING (b2n (role == 2))
    let d := ((d.s Reg.RT_STAT_STATE 2).s Reg.RT_STAT_MASTER 1).s Reg.DRG_STAT_PLAN_VER ver
    { d with tb := { d.tb with admitted := true } }.planShow (planDone es (d.g Reg.DRG_DLY_D_MAX))
  else d

/-- DRG_MASTER_LOST: the backup acts after two cycles without a Crier (R343). -/
def execDrgMasterLost (s : State) := s.run fun d =>
  if d.on Reg.DRG_STAT_ADMITTED && d.g Reg.DRG_NODE_ROLE == 2 && !d.drg.sending && decide (2 ≤ d.drg.gap) then
    let old := d.g Reg.DRG_STAT_MASTER
    let gap := d.drg.gap
    let d := d.updDrg (fun r => { r with sending := true, former := old, lockRun := 0, gap := 0 })
    let d := ((d.s Reg.DRG_STAT_ACTING 1).s Reg.DRG_STAT_MASTER d.me).s Reg.RT_STAT_MASTER 1
    ((d.s Reg.RT_STAT_STATE 2).raise Err.DRG_CRIER_MISS [gap]).raise Err.DRG_MASTER_LOST [old]
  else d

/-- DRG_MASTER_CHANGE: the handoff that a Crier announced takes place (R344). `new` is the configured master. -/
def execDrgMasterChange (new : Nat) (s : State) := s.run fun d =>
  let acting := d.on Reg.DRG_STAT_ACTING && decide (256 ≤ d.drg.lockRun) && new == d.drg.former
  let other := !d.drg.sending && d.drg.handoff
  if d.on Reg.DRG_STAT_ADMITTED && (acting || other) then
    let mine := new % 16 == d.me
    let d := d.updDrg (fun r => { r with sending := mine, handoff := false, lockRun := 0 })
    let d := ((d.s Reg.DRG_STAT_ACTING 0).s Reg.DRG_STAT_MASTER new).s Reg.RT_STAT_MASTER (b2n mine)
    (if acting then d.s Reg.RT_STAT_STATE 1 else d).raise Err.DRG_MASTER_CHANGE [new % 16]
  else d

/-- DRG_WRAP: a hop is declared down and the node loops its traffic back (R346). `up` names the upstream hop; cause 1 no sync,
2 Criers missing on that pair, 3 the fault ordered set. -/
def execDrgWrap (up : Bool) (cause : Nat) (s : State) := s.run fun d =>
  let miss := if up then d.drg.missA else d.drg.missB
  let other := if up then d.drg.missB else d.drg.missA
  let seen := cause == 1 || cause == 3 || (cause == 2 && decide (2 ≤ miss) && other == 0)
  let was := if up then d.on Reg.DRG_STAT_WRAP_UP else d.on Reg.DRG_STAT_WRAP_DN
  if d.on Reg.DRG_STAT_ADMITTED && seen && !was then
    let d := if up then (d.s Reg.DRG_STAT_UP_DOWN 1).s Reg.DRG_STAT_WRAP_UP 1 else (d.s Reg.DRG_STAT_DN_DOWN 1).s Reg.DRG_STAT_WRAP_DN 1
    d.raise Err.DRG_WRAP [hopNumber up, Config.recordNumber Err.DRG_WRAP cause]
  else d

/-- DRG_UNWRAP: after 16 cycles of valid Criers both ways the node unwraps at a cycle boundary (R347). -/
def execDrgUnwrap (up : Bool) (s : State) := s.run fun d =>
  let was := if up then d.on Reg.DRG_STAT_WRAP_UP else d.on Reg.DRG_STAT_WRAP_DN
  if was then
    let d := if up then (d.s Reg.DRG_STAT_UP_DOWN 0).s Reg.DRG_STAT_WRAP_UP 0 else (d.s Reg.DRG_STAT_DN_DOWN 0).s Reg.DRG_STAT_WRAP_DN 0
    d.raise Err.DRG_UNWRAP [hopNumber up]
  else d

/-! ## Bulk (R333 to R335, R349) -/

/-- A bulk discard is counted and recorded (R333, R335). -/
def Dev.bulkDrop (d : Dev) (chan src : Nat) : Dev := (d.inc Reg.DRG_CNT_BULK_DROP).raise Err.DRG_BULK_DROP [chan, src]

/-- An own message is queued for the bulk window (R334, R349). -/
def Dev.bulkQueue (d : Dev) (chan dest : Nat) (bcast : Bool) (data : List Nat) : Dev :=
  let i := chan - 1
  let n := d.drg.msgNo.getD i 0
  d.updDrg (fun r =>
    { r with bulkOut := r.bulkOut ++ [⟨chan, dest, bcast, n, 0, data⟩], msgNo := updAt r.msgNo i (fun _ => (n + 1) % 65536) })

/-- The ticks from now to the next Crier (R333). -/
def Dev.crierDue (d : Dev) : Nat := (32 * d.drg.cyc - d.tb.rt % (32 * d.drg.cyc)) / 32

/-- BULK_FRAME_SEND: the next fragment of the oldest own message goes out, where the forwarding buffers are empty and the frame
ends 64 ticks before the next Crier (R333, R334). -/
def execBulkFrameSend (s : State) := s.run fun d =>
  match d.drg.bulkOut with
  | [] => d
  | m :: rest =>
    let frag := (m.data.drop m.ofs).take 1016
    let ticks := 14 + 8 + frag.length
    if d.on Reg.DRG_STAT_ADMITTED && d.drg.fwd == [0, 0] && decide (ticks + 64 ≤ d.crierDue) then
      let hdr := [m.chan, m.dest + 16 * b2n m.bcast] ++ leBytes 2 m.msg ++ leBytes 2 m.ofs ++ leBytes 2 m.data.length
      let done := decide (m.data.length ≤ m.ofs + 1016)
      let d := d.updDrg (fun r => { r with bulkOut := if done then rest else { m with ofs := m.ofs + 1016 } :: rest })
      d.ringSend 5 (d.on Reg.DRG_STAT_WRAP_DN) (hdr ++ frag)
    else d

/-- A bulk frame forwarded in a direction: at once where it ends in time, else held for the next cycle; a full buffer discards it
(R333). -/
def Dev.bulkForward (d : Dev) (dirB : Bool) (chan src len : Nat) : Dev :=
  let i := b2n dirB
  if len + 64 ≤ d.crierDue ∧ d.drg.fwd.getD i 0 = 0 then d
  else if 2048 < d.drg.fwd.getD i 0 + len then d.bulkDrop chan src
  else d.updDrg (fun r => { r with fwd := updAt r.fwd i (· + len) })

/-- A message for firmware is written to the ring-message buffer as one record (R335). -/
def Dev.rrxPut (d : Dev) (src : Nat) (bcast : Bool) (msg : List Nat) : Dev :=
  let size := d.g Reg.RRX_CFG_SIZE
  let put := d.g Reg.RRX_PUT_PUT
  let get := d.g Reg.RRX_GET_GET
  let base := d.word Reg.RRX_ADDR
  let pad := (msg.length + 3) / 4 * 4
  let need := 4 + pad
  let free := if put < get then get - put else size - put + get
  let skip := decide (size < put + need)
  let total := if skip then size - put + need else need
  let fits := decide (total + 4 ≤ free) && (!skip || decide (get ≤ put))
  if !d.on Reg.RRX_CFG_EN || !fits then d.bulkDrop 2 src
  else
    let d := if skip then d.setMem32 (base + put) (src + 0xFFFF0000) else d
    let at_ := if skip then 0 else put
    let d := d.setMem32 (base + at_) (src + 16 * b2n bcast + msg.length * 65536)
    let d := d.setBytes (base + at_ + 4) (msg ++ List.replicate (pad - msg.length) 0)
    d.s Reg.RRX_PUT_PUT (if at_ + need = size then 0 else at_ + need)

/-- BULK_MESSAGE_TIMEOUT: a message incomplete 64 cycles after its first fragment is discarded (R335). -/
def execBulkMessageTimeout (src chan : Nat) (s : State) := s.run fun d =>
  let late (m : BulkIn) : Bool := m.src == src && m.chan == chan && decide (m.cyc + 64 ≤ d.drg.cycNow)
  if d.drg.bulkIn.any late then
    (d.updDrg (fun r => { r with bulkIn := r.bulkIn.filter (fun m => !late m) })).bulkDrop chan src
  else d

/-- The bytes of a message whose fragments are all there. -/
def BulkIn.whole (m : BulkIn) : Option (List Nat) :=
  let r := (List.range 5).foldl (fun a _ => match m.got.find? (fun g => g.1 == a.length) with
    | some g => if a.length < m.mlen then a ++ g.2 else a
    | none => a) []
  if r.length = m.mlen then some r else none

/-- A bulk fragment is taken (R335): the message it completes, if any. -/
def Dev.bulkTake (d : Dev) (src chan msg fofs mlen : Nat) (bcast : Bool) (data : List Nat) : Option (List Nat) × Dev :=
  let mine (m : BulkIn) : Bool := m.src == src && m.chan == chan
  let old := d.drg.bulkIn.find? mine
  let lost := match old with | some m => m.msg != msg | none => false
  let d := d.when lost (fun d => d.bulkDrop chan src)
  let cur : BulkIn := match (if lost then none else old) with
    | some m => m
    | none => ⟨src, chan, msg, mlen, d.drg.cycNow, bcast, []⟩
  let m := { cur with got := cur.got ++ [(fofs, data)] }
  let rest := d.drg.bulkIn.filter (fun x => !mine x)
  match m.whole with
  | some r => (some r, d.updDrg (fun x => { x with bulkIn := rest }))
  | none => (none, d.updDrg (fun x => { x with bulkIn := rest ++ [m] }))

/-! ## Writes -/

/-- A register write to the DRG block by its offset (R355), but for JOIN and LEAVE and the commands, which have rows of their own.
DRG_NODE programs the tally and is written there. -/
def Dev.drgWrite (d : Dev) (off v : Nat) : Dev :=
  let a := 0x300E0000 + off
  let store (d : Dev) (locked : FieldSpec → Bool) : Dev := d.regStore a a 0x300E0000 v locked Err.DRG_RWL_REFUSED
  if off = 0x140 ∨ off = 0x144 then
    let was := d.on Reg.RRX_CFG_EN
    let d := store d (lockIf was)
    if off = 0x144 ∧ !was ∧ d.on Reg.RRX_CFG_EN then (d.s Reg.RRX_PUT_PUT 0).s Reg.RRX_GET_GET 0 else d
  else if 0x40 ≤ off ∧ off < 0x50 then
    let old := d.g Reg.LS_CFG_CH
    let new := if off = 0x40 then (if 5 < v % 8 then 0 else v % 8) else old
    let d := store d (lockIf (!(d.on (Reg.PWM_CH_STAT_SAFE old) && d.on (Reg.PWM_CH_STAT_SAFE new))))
    d.updDrg (fun r => if d.lsLeads then r else { r with incl := 0, kept := 0, down := 0 })
  else store d (lockIf (d.on Reg.DRG_STAT_ADMITTED))

end Sys2Proof.Machine
end

