-- ==== Sys2Proof/Machine/Engine.lean ====
section
/-! DEFINITION. Machine/Engine.lean: the control engine array in operation: triggers and snapshots, runs, the output latch, LATE runs,
contexts in FAULT, shadows and handover, engine failures and migration, debug halts (R76 to R84, R89 to R100, R128 to R132, R522). -/

namespace Sys2Proof.Machine

/-! ## Contexts -/

/-- STATE of a context (R76): 0 EMPTY, 1 STOPPED, 2 RUN, 3 SHADOW, 4 FAULT, 5 MIGRATING. -/
def Dev.ctxState (d : Dev) (c : Nat) : Nat := d.g (Reg.CTX_W0_STATE c)

/-- The contexts, by number: entry 0 holds none (R77). -/
def ctxNumbers : List Nat := (List.range 255).map (· + 1)

/-- The engine that holds a context. -/
def Dev.ctxEng (d : Dev) (c : Nat) : Nat := d.g (Reg.CTX_W0_ENG c)

/-- The channels bound to a context, as a mask. -/
def Dev.ctxBind (d : Dev) (c : Nat) : Nat := d.g (Reg.CTX_W1_BIND c)

/-- The non-EMPTY contexts of an engine. -/
def Dev.engCtxs (d : Dev) (e : Nat) : List Nat := ctxNumbers.filter (fun c => d.ctxState c != 0 && d.ctxEng c == e)

/-- The spare engine (CE_CFG.SPARE), 15 for none. -/
def Dev.spare (d : Dev) : Nat := d.g Reg.CE_CFG_SPARE

/-- The shadows of a context. -/
def Dev.shadowsOf (d : Dev) (c : Nat) : List Nat :=
  ctxNumbers.filter (fun x => d.ctxState x == 3 && d.g (Reg.CTX_W0_SHADOW_OF x) == c)

/-- Context `a` ranks above `b` (R86): a lower PRIO, or an equal one and a lower number. -/
def Dev.ranksAbove (d : Dev) (a b : Nat) : Bool :=
  let pa := d.g (Reg.CTX_W0_PRIO a)
  let pb := d.g (Reg.CTX_W0_PRIO b)
  decide (pa < pb) || (pa == pb && decide (a < b))

/-- Contexts in rank order: by PRIO, then by number. -/
def Dev.byRank (d : Dev) (l : List Nat) : List Nat :=
  (List.range 16).flatMap (fun p => l.filter (fun c => d.g (Reg.CTX_W0_PRIO c) == p))

/-- The effective divisor. -/
def Dev.ctxDiv (d : Dev) (c : Nat) : Nat := max 1 (d.g (Reg.CTX_W1_DIV c))

/-- A run taken off every engine's queue. -/
def Dev.unqueue (d : Dev) (c : Nat) : Dev :=
  { d with ce := { d.ce with engs := d.ce.engs.map (fun g => { g with queue := g.queue.filter (fun q => q.ctx != c) }) } }

/-- Whatever a context has under way is dropped: its queued run, its output write, its comparison. A run already on an engine goes
on, and writes nothing. -/
def Dev.ctxDrop (d : Dev) (c : Nat) : Dev :=
  (d.unqueue c).updCtx c (fun x =>
    { x with phase := .idle, role := .discard, outDue := none, cmpOwn := none, cmpLive := none, stopReq := false, holdStop := false,
             handover := none })

/-- A context enters FAULT with a cause (R522): the record, and its channels forced to the safe state. -/
def Dev.ctxFault (d : Dev) (c cause : Nat) : Dev :=
  if d.ctxState c = 0 ∨ d.ctxState c = 4 then d
  else
    let d := (d.ctxDrop c).s (Reg.CTX_W0_STATE c) 4
    let d := d.raise Err.CE_CTX_FAULT [c, cause, d.ctxBind c]
    let armed := (maskBits 6 (d.ctxBind c)).foldl (fun a n => if d.on (Reg.PWM_CH_STAT_SAFE n) then a else a + 2 ^ n) 0
    let d := d.when (cause == 1) (fun d => d.noteFault (0x300 + c) armed)
    d.forceMask (d.ctxBind c) 5 (1000 + c)

/-- A context leaves FAULT: its forcing condition ends. -/
def Dev.ctxUnfault (d : Dev) (c : Nat) : Dev := d.forceOff 5 (1000 + c)

/-! ## Ports (R78, R128) -/

/-- Whether a word is a listed input source (R78). -/
def Dev.inSourceOk (d : Dev) (w : Nat) : Bool :=
  let i := w % 65536
  match w / 2 ^ 28 with
  | 0 => true
  | 1 => (d.meaSource i).isSome
  | 2 => (d.posSource i).isSome
  | 3 => true
  | 4 => decide (i < 1024)
  | 5 => decide (i < 16)
  | 6 => decide (i < 4)
  | _ => false

/-- The value of an input source at port `p` of context `c`, 24 bits (R78). -/
def Dev.inSource (d : Dev) (c p w : Nat) : Nat :=
  let i := w % 65536
  match w / 2 ^ 28 with
  | 1 => (d.meaSource i).getD 0
  | 2 => (d.posSource i).getD 0
  | 3 => storeGet (fun _ => 0) (d.ctx c).inPorts p
  | 4 => d.shareWord (i / 64) (i % 64)
  | 5 => d.g (Reg.SPC_OUT_VALUE (i % 16))
  | 6 => d.g (Reg.GEN_OUT_VALUE (i % 4))
  | _ => 0

/-- Whether a word is a listed output target (R78). -/
def Dev.outTargetOk (_d : Dev) (w : Nat) : Bool :=
  let i := w % 65536
  match w / 2 ^ 28 with
  | 0 => true
  | 1 => pwmTargetOk i
  | 2 => decide (i < 64)
  | 3 => decide (i < 16384)
  | 4 => decide (i < 64)
  | 5 => axTargetOk i
  | 6 => dclTargetOk i || (i / 32 == 0x500 && decide (i % 16 ≤ 1))
  | _ => false

/-- A value written to an output target (R78, R82). -/
def Dev.outTarget (d : Dev) (w v : Nat) : Dev :=
  let i := w % 65536
  match w / 2 ^ 28 with
  | 1 => d.pwmTarget i v
  | 2 => if v % 2 ^ 24 = 0 then d else d.each (maskBits 6 i) Dev.setCommit
  | 3 => if d.portOwned (i / 64) (i % 64) then d else d.ctxPort (i / 64) (i % 64) v
  | 4 => d.shareOut (i % 64) v
  | 5 => d.axTarget i v
  | 6 => if i / 4096 = 0xA then d.cmuTargetWrite i v else d.dclTarget i v
  | _ => d

/-! ## Generators (R101, R147) -/

/-- A generator. -/
def Dev.gen (d : Dev) (k : Nat) : Gen := d.ce.gens.getD k {}

/-- The device with a generator changed. -/
def Dev.updGen (d : Dev) (k : Nat) (f : Gen → Gen) : Dev := { d with ce := { d.ce with gens := updBank 4 {} d.ce.gens k f } }

/-- Samples per step of a generator. -/
def Dev.genLen (d : Dev) (k : Nat) : Nat := max 1 (d.g (Reg.GEN_LEN_LEN k))

/-- AMP × sin of a phase, its last digit free (log 2). -/
def Dev.genSine (d : Dev) (k phase : Nat) : Dev :=
  let v := pickNear (d.sg (Reg.GEN_AMP_VALUE k) * sinFix phase) (2 ^ 60) 1 d.freeVal
  d.tookFree.s (Reg.GEN_OUT_VALUE k) (ofInt 24 (satInt 24 v))

/-- The present sample in OUT (R101). The bits of the PRBS are free values: the spec names no polynomial (log 2). -/
def Dev.genShow (d : Dev) (k : Nat) : Dev :=
  let g := d.gen k
  let amp := d.sg (Reg.GEN_AMP_VALUE k)
  match d.g (Reg.GEN_CFG_TYPE k) with
  | 1 =>
    let d := if g.k % d.genLen k = 0 then d.tookFree.updGen k (fun g => { g with prbs := d.freeVal % 2 }) else d
    d.s (Reg.GEN_OUT_VALUE k) (ofInt 24 (satInt 24 (if (d.gen k).prbs = 1 then amp else -amp)))
  | 2 => if d.genLen k ≤ g.k then (d.s (Reg.GEN_CFG_RUN k) 0).s (Reg.GEN_OUT_VALUE k) 0 else d.genSine k g.phase
  | 3 => d.s (Reg.GEN_OUT_VALUE k) (if g.k < d.genLen k then 0 else ofInt 24 amp)
  | 4 => d.genSine k g.phase
  | _ => d.s (Reg.GEN_OUT_VALUE k) 0

/-- A run of the advancing context begins: a generator written RUN = 1 presents sample 0 (R147). -/
def Dev.genStart (d : Dev) (c : Nat) : Dev :=
  d.each (List.range 4) (fun d k =>
    if d.g (Reg.GEN_CFG_CTX k) = c ∧ d.on (Reg.GEN_CFG_RUN k) ∧ (d.gen k).wait then
      (d.updGen k (fun g => { g with wait := false, k := 0, phase := 0 })).genShow k
    else d)

/-- A run of the advancing context has ended: the generator advances by one sample (R101). The rounding of a chirp's increment is
open (log 2). -/
def Dev.genAdvance (d : Dev) (c : Nat) : Dev :=
  d.each (List.range 4) (fun d k =>
    if d.g (Reg.GEN_CFG_CTX k) = c ∧ d.on (Reg.GEN_CFG_RUN k) ∧ !(d.gen k).wait then
      let f0 : Int := d.g (Reg.GEN_F0_INC k)
      let f1 : Int := d.g (Reg.GEN_F1_INC k)
      let i := if d.g (Reg.GEN_CFG_TYPE k) = 2 then d.openDiv ((f1 - f0) * (d.gen k).k) (d.genLen k) else (0, d)
      (i.2.updGen k (fun g => { g with k := g.k + 1, phase := ofInt 24 ((g.phase : Int) + f0 + i.1) })).genShow k
    else d)

/-! ## Triggers (R79, R80, R89) -/

/-- The input buffer of a run that starts its cycle now (R80, R128). -/
def Dev.snapshot (d : Dev) (c : Nat) : Snap :=
  let bank := match (d.ctx c).bankWas with
    | some (old, w) => if w = d.tick then old else d.g (Reg.CTX_W0_BANK c)
    | none => d.g (Reg.CTX_W0_BANK c)
  { ins := (List.range 64).map (fun p => d.inSource c p (d.word (Reg.CTX_IN c p)))
    wpos := (List.range 16).map (fun n => ofInt 24 ((d.wheel n).pos / 2 ^ 16))
    wtrn := (List.range 16).map (fun n => ofInt 24 ((d.wheel n).pos / 2 ^ 40))
    wspd := (List.range 16).map (fun n => ofInt 24 (satInt 24 (Int.fdiv (d.wheel n).spd 256)))
    t0 := d.tb.rt / 32 % 2 ^ 24
    bank := bank
    x7 := d.g (Reg.CTX_W6_STATE_BASE c)
    x6 := if bank = 0 then d.g (Reg.CTX_W7_BANK0_BASE c) else d.g (Reg.CTX_W7_BANK1_BASE c) }

/-- A run enters an engine's queue: by PRIO, then by context number (R81). -/
def enqueueRun (q : QRun) : List QRun → List QRun
  | [] => [q]
  | h :: t => if q.prio < h.prio ∨ (q.prio = h.prio ∧ q.ctx < h.ctx) then q :: h :: t else h :: enqueueRun q t

/-- A trigger that runs (R80): the snapshot, and the run in its engine's queue; a warm copy runs on the spare as a shadow (R95). -/
def Dev.ctxRun (d : Dev) (c : Nat) : Dev :=
  let d := d.genStart c
  let snap := d.snapshot c
  let q : QRun := ⟨d.g (Reg.CTX_W0_PRIO c), c⟩
  let put (e : Nat) (d : Dev) : Dev := d.updEng e (fun g => { g with queue := enqueueRun q (g.queue.filter (fun x => x.ctx != c)) })
  let d := d.updCtx c (fun x =>
    { x with t0 := d.tick, t0rt := d.tb.rt, phase := .queued, role := .normal, late := false, snap := snap, cmpOwn := none })
  let d := put (d.ctxEng c) d
  if (d.ctx c).warm ∧ d.spare < 12 ∧ d.spare ≠ d.ctxEng c then put d.spare d else d

/-- Whether triggers of a context start no run: its engine is halted or failed (R94, R99), or it is MIGRATING (R76). -/
def Dev.ctxBlocked (d : Dev) (c : Nat) : Bool :=
  d.ctxState c == 5 || d.on (Reg.ENG_STAT_HALT (d.ctxEng c)) || d.on (Reg.ENG_STAT_FAULT (d.ctxEng c))

/-- An accepted trigger of a context (R79): DIV_CNT advances, and at DIV the context runs. `true` where it runs. -/
def Dev.ctxAccept (d : Dev) (c : Nat) : Bool × Dev :=
  let n := d.g (Reg.CTX_STAT_DIV_CNT c) + 1
  let d := d.updCtx c (fun x => { x with lastTrig := some d.tick })
  if d.ctxDiv c ≤ n then (true, (d.s (Reg.CTX_STAT_DIV_CNT c) 0).ctxRun c) else (false, d.s (Reg.CTX_STAT_DIV_CNT c) n)

/-- A handover armed for this run (R91): the outgoing context's outputs are discarded and the incoming one's written; a pair that no
longer fits raises CE_HO_BAD. -/
def Dev.handoverRun (d : Dev) (c : Nat) : Dev :=
  match (d.ctx c).handover with
  | none => d
  | some i =>
    if d.ctxState i = 3 ∧ d.g (Reg.CTX_W0_SHADOW_OF i) = c then
      if (d.ctx i).phase = .queued then
        (d.updCtx c (fun x => { x with role := .discard })).updCtx i (fun x => { x with role := .incoming c })
      else d
    else (d.updCtx c (fun x => { x with handover := none })).raise Err.CE_HO_BAD [c, i]

/-- A trigger reaches a context (R79, R89, R94, R99): accepted, dropped within T_MIN, or counted as missed; its shadows run on every
trigger that it accepts. -/
def Dev.ctxTrigger (d : Dev) (c : Nat) : Dev :=
  let st := d.ctxState c
  if st ≠ 2 ∧ st ≠ 5 then d
  else if st = 5 ∨ d.on (Reg.ENG_STAT_HALT (d.ctxEng c)) then d.inc (Reg.CTX_MISS_CNT_COUNT c)
  else
    let gap := (d.ctx c).lastTrig.map (fun t => d.tick - t)
    match gap with
    | some g =>
      if g < d.g (Reg.CTX_W2_T_MIN c) then (d.inc (Reg.CTX_MISS_CNT_COUNT c)).raise Err.CE_TRIG_FAST [c, g] else go d
    | none => go d
where
  go (d : Dev) : Dev :=
    if d.on (Reg.ENG_STAT_FAULT (d.ctxEng c)) then
      (d.updCtx c (fun x => { x with lastTrig := some d.tick })).inc (Reg.CTX_MISS_CNT_COUNT c)
    else
      let a := d.ctxAccept c
      let d := a.2.each (a.2.shadowsOf c) (fun d x =>
        if d.ctxBlocked x then d.inc (Reg.CTX_MISS_CNT_COUNT x)
        else ((d.ctxAccept x).2).updCtx x (fun y => { y with cmpLive := none }))
      if a.1 then d.handoverRun c else d

/-- CONTEXT_TRIGGER: a trigger reaches a context. -/
def execContextTrigger (c : Nat) (s : State) := s.run fun d => if 0 < c ∧ c < 256 then d.ctxTrigger c else d

/-- The contexts that a trigger compare triggers (R77). -/
def Dev.trigCtxs (d : Dev) (n k : Nat) : List Nat :=
  ctxNumbers.filter (fun c => d.g (Reg.CTX_W1_TRIG_SRC c) == 1 && d.g (Reg.CTX_W1_TRIG_CH c) == n && d.g (Reg.CTX_W1_TRIG_CMP c) == k)

/-- A conversion sequence's trigger (R188, R189). -/
def Dev.seqTrigger (d : Dev) (q : Nat) : Dev :=
  if (d.mea.seqs.getD q none).isSome then
    let d := d.inc (Reg.SEQ_OVR_COUNT q)
    d.raise Err.MEA_SEQ_OVR [q, d.g (Reg.SEQ_OVR_COUNT q)]
  else { d with mea := { d.mea with seqs := updBank 8 none d.mea.seqs q (fun _ => some 0) } }

/-- TRIGGER_COMPARE_FIRE: trigger compare `k` of a channel fires with the counter at its value; it triggers its contexts and
starts its conversion sequences (R161). -/
def execTriggerCompareFire (n k : Nat) (s : State) := s.run fun d =>
  let v := d.g (Reg.PWM_TRIG_ACT_VAL n k)
  if n < 6 ∧ k < 4 ∧ d.on (Reg.PWM_TRIG_ACT_EN n k) ∧ v < (d.pch n).len then
    let d := d.s (Reg.PWM_CNT_COUNT n) v
    let d := d.each ((List.range 8).filter (fun q =>
      d.on (Reg.SEQ_CFG_EN q) && d.g (Reg.SEQ_CFG_TCH q) == n && d.g (Reg.SEQ_CFG_TCMP q) == k)) Dev.seqTrigger
    d.each (d.trigCtxs n k) Dev.ctxTrigger
  else d

/-! ## Runs (R81, R107, R132) -/

/-- PROGRAM_START: the head of an engine's queue starts with the registers of R107. A run that can no longer end in time does not
start (R83). -/
def execProgramStart (e : Nat) (s : State) := s.run fun d =>
  let g := d.eng e
  if 12 ≤ e ∨ g.run.isSome ∨ d.on (Reg.ENG_STAT_HALT e) ∨ d.on (Reg.ENG_STAT_FAULT e) then d
  else match g.queue with
    | [] => d
    | q :: t =>
      let c := q.ctx
      let x := d.ctx c
      if x.t0 + d.g (Reg.CTX_W3_OUTPHASE c) < d.tick + d.g (Reg.CTX_W4_N c) then d
      else
        let d := d.updEng e (fun g => { ({} : Eng) with
          x := [0, 0, 0, 0, 0, 0, x.snap.x6, x.snap.x7], sticky := d.word (Reg.CTX_FLAGS c) % 8,
          pc := d.g (Reg.CTX_W5_PROG_BASE c), run := some c, queue := t, lastEnd := g.lastEnd, sigDue := g.sigDue })
        if d.ctxEng c = e then d.updCtx c (fun x => { x with phase := .running }) else d

/-- The largest difference of two sets of OUT values over a mask, with its port (R90). -/
def outDiff (mask : Nat) (a b : List (Option Nat)) : Nat × Nat :=
  (maskBits 32 mask).foldl (fun (m : Nat × Nat) o =>
    let df := match a.getD o none, b.getD o none with
      | some x, some y => (toInt 24 x - toInt 24 y).natAbs
      | none, none => 0
      | _, _ => 0xFFFFFF
    if m.1 < df then (df, o) else m) (0, 0)

/-- The comparison of a shadow with its live context after a run of both (R90). -/
def Dev.shadowCompare (d : Dev) (x : Nat) : Dev :=
  match (d.ctx x).cmpOwn, (d.ctx x).cmpLive with
  | some a, some b =>
    let m := outDiff (d.word (Reg.CTX_SHD_MASK x)) a b
    let d := (d.s (Reg.CTX_SHD_DIFF_DIFF x) m.1).s (Reg.CTX_SHD_DIFF_PORT x) m.2
    let d := if m.1 ≤ d.g (Reg.CTX_SHD_TOL_TOL x) then d.inc (Reg.CTX_STAT_SHD_MATCH x) else d.s (Reg.CTX_STAT_SHD_MATCH x) 0
    d.updCtx x (fun y => { y with cmpOwn := none, cmpLive := none })
  | _, _ => d

/-- The OUT values of a run reach the comparisons that use them. -/
def Dev.shadowOuts (d : Dev) (c : Nat) (outs : List (Option Nat)) : Dev :=
  let d := if d.ctxState c = 3 then (d.updCtx c (fun x => { x with cmpOwn := some outs })).shadowCompare c else d
  d.each (d.shadowsOf c) (fun d x => (d.updCtx x (fun y => { y with cmpLive := some outs })).shadowCompare x)

/-- A run of a context has ended in time (R132): the flags merge (R115), the OUT values go to the latch, CONSEC_LATE returns to 0; a
memory range violation puts the context into FAULT (R127). -/
def Dev.runEnded (d : Dev) (c : Nat) (g : Eng) : Dev :=
  let saved := d.word (Reg.CTX_FLAGS c) % 8
  let d := d.setWord (Reg.CTX_FLAGS c) ((saved &&& (7 ^^^ (g.clrd % 8))) ||| (g.setd % 8))
  let d := d.s (Reg.CTX_STAT_CONSEC_LATE c) 0
  let d := if g.viol then d.ctxFault c 2
    else (d.updCtx c (fun x => { x with phase := .idle, outDue := some x.t0, latch := g.outs })).shadowOuts c g.outs
  d.genAdvance c

/-! ## Engine failures and migration (R93 to R97) -/

/-- Why the spare is not free for an engine, or 0 (R97). -/
def Dev.spareBusy (d : Dev) (e : Nat) : Nat :=
  if 12 ≤ d.spare then 2
  else if d.on (Reg.ENG_STAT_HALT d.spare) then 3
  else if d.on (Reg.ENG_STAT_FAULT d.spare) then 4
  else if d.on Reg.CE_MIG_STAT_ABSORBED ∨ d.ce.mig.any (fun m => m.eng != e) then 5
  else 0

/-- Why an engine's contexts cannot migrate, or 0 (R97). -/
def Dev.spareWhy (d : Dev) (e : Nat) : Nat := if !d.on Reg.CE_CFG_MIG_EN then 1 else d.spareBusy e

/-- A context becomes EMPTY, its entry at its reset values (R77, R85). -/
def Dev.ctxEmpty (d : Dev) (c : Nat) : Dev :=
  let d := (d.ctxDrop c).ctxUnfault c
  let d := d.each (List.range 8) (fun d w => d.setWord (Reg.CTX_W0 c + 4 * w) (regReset (Reg.CTX_W0 c + 4 * w)).toNat)
  let d := d.updCtx c (fun _ => {})
  let held := ctxNumbers.any (fun x => (d.ctx x).moved)
  d.when (!held) (fun d => d.s Reg.CE_MIG_STAT_ABSORBED 0)

/-- The words of a context's program, state and banks copied from one engine's memories to another's, at the same addresses. -/
def Dev.copyCtx (d : Dev) (c src dst : Nat) : Dev :=
  let pb := d.g (Reg.CTX_W5_PROG_BASE c)
  let copyDm (d : Dev) (base len : Nat) : Dev := d.each (List.range len) (fun d i => d.setDm dst (base + i) (d.dmWord src (base + i)))
  let d := d.each (List.range (d.g (Reg.CTX_W5_PROG_LEN c))) (fun d i => d.setPm dst (pb + i) (d.pmWord src (pb + i)))
  let d := copyDm d (d.g (Reg.CTX_W6_STATE_BASE c)) (d.g (Reg.CTX_W6_STATE_LEN c))
  let d := copyDm d (d.g (Reg.CTX_W7_BANK0_BASE c)) (d.g (Reg.CTX_W4_BANK_LEN c))
  copyDm d (d.g (Reg.CTX_W7_BANK1_BASE c)) (d.g (Reg.CTX_W4_BANK_LEN c))

/-- A context stands on the spare in the state it had (R95, R96, R98; log 41). -/
def Dev.ctxMoved (d : Dev) (c : Nat) : Dev :=
  let st := (d.ctx c).migFrom
  ((d.s (Reg.CTX_W0_ENG c) d.spare).s (Reg.CTX_W0_STATE c) st).updCtx c (fun x => { x with warm := false, moved := true, evac := false })

/-- The migration's counts shown. -/
def Dev.migShow (d : Dev) : Dev :=
  match d.ce.mig with
  | some m => ((d.s Reg.CE_MIG_STAT_SRC_ENG m.eng).s Reg.CE_MIG_STAT_MOVED m.moved).s Reg.CE_MIG_STAT_LOST m.lost
  | none => d

/-- Migration proceeds (R94): the spare drops what it holds besides warm copies of this engine's contexts; warm copies take over
(R95); cold copies wait in rank order (R96). -/
def Dev.migProceed (d : Dev) (e : Nat) : Dev :=
  match d.ce.mig with
  | none => d
  | some m =>
    let sp := d.spare
    let foreign := d.engCtxs sp
    let d := d.each foreign Dev.ctxEmpty
    let d := d.each ctxNumbers (fun d c => if (d.ctx c).warm ∧ d.ctxEng c ≠ e then d.updCtx c (fun x => { x with warm := false }) else d)
    let d := d.updEng sp (fun g => { g with queue := g.queue.filter (fun q => d.ctxEng q.ctx == e) })
    let todo := d.byRank ((d.engCtxs e).filter (fun c => d.ctxState c == 5))
    let warm := todo.filter (fun c => (d.ctx c).warm)
    let cold := todo.filter (fun c => !(d.ctx c).warm)
    let d := d.each warm Dev.ctxMoved
    let lost := (d.engCtxs e).filter (fun c => d.ctxState c == 4)
    let d := { d with ce := { d.ce with
      mig := some { m with waiting := false, todo := cold, moved := warm.length, lost := lost.length, dropped := foreign } } }
    (d.s Reg.CE_MIG_STAT_ACTIVE 1).migShow

/-- The spare has failed (R97): its shadows and warm copies are unloaded, its migrated contexts enter FAULT. -/
def Dev.spareFailed (d : Dev) : Dev :=
  let d := d.each (d.engCtxs d.spare) (fun d c => if d.ctxState c = 3 ∧ !(d.ctx c).moved then d.ctxEmpty c else d.ctxFault c 3)
  let d := d.each ctxNumbers (fun d c => if (d.ctx c).warm then d.updCtx c (fun x => { x with warm := false }) else d)
  d.raise Err.CE_MIG_FAIL [d.spare, 4]

/-- The contexts of a failed engine that may migrate: FAULT, migration at once, or a proposal (R94). -/
def Dev.migDecide (d : Dev) (e : Nat) : Dev :=
  let cs := (d.engCtxs e).filter (fun c => d.ctxState c != 4)
  if cs = [] then d
  else
    let why := d.spareWhy e
    if why ≠ 0 then (d.each cs (fun d c => d.ctxFault c 3)).raise Err.CE_MIG_FAIL [e, why]
    else
      let bind := (d.engCtxs e).foldl (fun a c => a ||| d.ctxBind c) 0
      let d := d.each cs (fun d c =>
        (d.updCtx c (fun x => { x with migFrom := d.ctxState c })).s (Reg.CTX_W0_STATE c) 5)
      let d := { d with ce := { d.ce with mig := some ⟨e, true, [], 0, 0, []⟩ } }
      if d.assistMode 9 = 0 then d.migProceed e
      else (d.each (maskBits 6 bind) Dev.makeSafe).propose 9 e 1

/-- An engine is declared failed (R93, R94): nothing more is written, and its contexts fault or migrate. -/
def Dev.engFail (d : Dev) (e src : Nat) : Dev :=
  if d.on (Reg.ENG_STAT_FAULT e) then d
  else
    let d := ((d.s (Reg.ENG_STAT_FAULT e) 1).s (Reg.ENG_STAT_FAULT_SRC e) src).raise Err.CE_ENG_FAULT [e, src]
    let d := d.each (d.engCtxs e) (fun d c => d.updCtx c (fun x => { x with outDue := none, phase := .idle, evac := false }))
    let d := d.updEng e (fun g => { g with run := none, ended := none, flight := [], queue := [] })
    -- a failure ends an evacuation of this engine
    let d := match d.ce.busy with
      | some b => if b.op = 10 ∧ b.eng = e then
          { (d.s Reg.CE_CMD_RESULT_BUSY 0) with ce := { d.ce with busy := none, resultRead := false } } else d
      | none => d
    if e = d.spare then d.spareFailed
    else
      let d := d.each (d.engCtxs e) (fun d c => if d.g (Reg.CTX_W0_MIG c) = 0 then d.ctxFault c 3 else d)
      d.migDecide e

/-- CE_ENG_FAULT: an engine failure is detected, with its FAULT_SRC; a correctable memory error (`src` 0) is corrected in place and
recorded with its address (R93). -/
def execCeEngFault (e src a : Nat) (s : State) := s.run fun d =>
  if 12 ≤ e ∨ 5 < src then d else if src = 0 then d.raise Err.CE_ECC_CORR [e, a] else d.engFail e src

/-- The migration proposal of an engine is decided (R94): 1 MIGRATE, 2 LEAVE. -/
def Dev.migDecision (d : Dev) (e code : Nat) : Dev :=
  if d.ce.mig.any (fun m => m.eng == e && m.waiting) then
    if code = 1 then d.migProceed e
    else
      let cs := (d.engCtxs e).filter (fun c => d.ctxState c == 5)
      let d := d.each cs (fun d c => d.ctxFault c 3)
      { d with ce := { d.ce with mig := none } }
  else d

/-- MIGRATION_PROCEED: the migration that waits proceeds, by the host's decision. -/
def execMigrationProceed (e : Nat) (s : State) := s.run fun d =>
  if d.ce.mig.any (fun m => m.eng == e && m.waiting) then (d.decided 9 e 1 0).migDecision e 1 else d

/-- The decision at the deadline (R432): MIGRATE in ASSIST, LEAVE in HOST. -/
def Dev.ceDeadline (d : Dev) (p : Proposal) : Dev :=
  let code := if p.mode = 1 then 1 else 2
  (d.deadlineTaken 9 p.unit code).migDecision p.unit code

/-- COLD_COPY_COMPLETE: the copy of the first context that waits completes (R96); `ok` false: an uncorrectable error in its own
regions. -/
def execColdCopyComplete (c : Nat) (ok : Bool) (s : State) := s.run fun d =>
  match d.ce.mig with
  | none => d
  | some m =>
    if m.waiting ∨ m.todo.head? ≠ some c then d
    else if ok then
      let d := (d.copyCtx c m.eng d.spare).ctxMoved c
      { d with ce := { d.ce with mig := some { m with todo := m.todo.tail, moved := m.moved + 1 } } }.migShow
    else
      let d := d.ctxFault c 4
      { d with ce := { d.ce with mig := some { m with todo := m.todo.tail, lost := m.lost + 1 } } }.migShow

/-- The engine domain of an engine reset (R23): its registers and its queue; the runs on it are lost. -/
def Dev.engReset (d : Dev) (e : Nat) : Dev :=
  let d := d.each (d.engCtxs e) (fun d c => d.updCtx c (fun x => { x with phase := .idle, outDue := none }))
  d.updEng e (fun g => { ({} : Eng) with sigDue := g.sigDue })

/-- Four bytes per word, from bits [7:0]. -/
def packBytes : List Nat → List Nat
  | [] => []
  | [a] => [a]
  | [a, b] => [a + 256 * b]
  | [a, b, c] => [a + 256 * b + 65536 * c]
  | a :: b :: c :: x :: t => (a + 256 * b + 65536 * c + 2 ^ 24 * x) :: packBytes t

/-- The CE_MIG_DONE records of a migration (R97): up to 16 unloaded contexts each. -/
def Dev.migRecords (d : Dev) (m : Migration) : Dev :=
  let u := m.dropped.length
  let n := max 1 ((u + 15) / 16)
  d.each (List.range n) (fun d i =>
    d.raise Err.CE_MIG_DONE ([m.eng, m.moved, m.lost, u] ++ (packBytes ((m.dropped.drop (16 * i)).take 16) ++ [0, 0, 0, 0]).take 4))

/-- CE_MIG_DONE: when the copies have finished the failed engine is reset, ABSORBED is set and the migration recorded (R97). -/
def execCeMigDone (s : State) := s.run fun d =>
  match d.ce.mig with
  | none => d
  | some m =>
    if m.waiting ∨ m.todo ≠ [] then d
    else
      let d := (((d.migShow.engReset m.eng).s Reg.CE_MIG_STAT_ACTIVE 0).s Reg.CE_MIG_STAT_ABSORBED 1).migRecords m
      { d with ce := { d.ce with mig := none } }

/-- PROGRAM_END: the end of a program (R132): at cycle e + 3 after END in cycle e, where that is the context's N; an end at another
cycle, or no END by cycle N, fails the engine (R93). -/
def execProgramEnd (e : Nat) (s : State) := s.run fun d =>
  if 12 ≤ e ∨ d.on (Reg.ENG_STAT_HALT e) ∨ d.on (Reg.ENG_STAT_FAULT e) then d
  else
    let g := d.eng e
    match g.run with
    | none => d
    | some c =>
      let n := d.g (Reg.CTX_W4_N c)
      match g.ended with
      | none => if n ≤ g.cyc then d.engFail e 3 else d
      | some k =>
        if k + 3 ≠ n then d.engFail e 3
        else
          let g := g.landFrom g.cyc (k + 4 - g.cyc)
          let d := d.updEng e (fun x => { x with run := none, ended := none, flight := [], lastEnd := some d.tick })
          if d.ctxEng c ≠ e ∨ (d.ctx c).phase ≠ .running then d else d.runEnded c g

/-! ## Output writes (R82, R91, R102, R129, R148) -/

/-- A residual checker at an output write of its model context in which its port carries a mark (R102, R148). -/
def Dev.resCheck (d : Dev) (k v : Nat) : Dev :=
  let r := d.ce.res.getD k {}
  let put (d : Dev) (f : ResChk → ResChk) : Dev := { d with ce := { d.ce with res := updAt d.ce.res k f } }
  let next := toInt 24 v
  match r.pred with
  | none => put d (fun r => { r with pred := some next })
  | some p =>
    let m := toInt 24 (d.inSource (d.g (Reg.RES_CFG_CTX k)) (d.word (Reg.RES_MEAS k) % 64) (d.word (Reg.RES_MEAS k)))
    let a := (m - p).natAbs
    let n := if d.g (Reg.RES_LIM_THR k) < a then r.count + 1 else 0
    let d := put d (fun _ => ⟨some next, n⟩)
    let d := d.s (Reg.RES_STAT_MAXR k) (max (d.g (Reg.RES_STAT_MAXR k)) (min a 0xFFFFFF))
    if n = max 1 (d.g (Reg.RES_LIM_CNT k)) then
      let d := (d.s (Reg.RES_STAT_EXCEED k) 1).raise Err.CE_RES_EXCEED [k, d.g (Reg.RES_STAT_MAXR k)]
      if d.on (Reg.RES_CFG_ACT k) then d.ctxFault (d.g (Reg.RES_CFG_TGT k)) 5 else d
    else d

/-- The wheels that a context's output write updates (R51, R53, R129). The sample instant is the write's (log 42). -/
def Dev.wheelOuts (d : Dev) (c : Nat) (outs : List (Option Nat)) : Dev :=
  d.each (List.range 16) (fun d n =>
    if d.g (Reg.WHL_CFG_SRC n) = 4 ∧ d.g (Reg.WHL_CFG_SEL n) = c ∧ d.on (Reg.WHL_CFG_EN n) then
      let a := d.g (Reg.WHL_CFG_PORT n)
      match outs.getD a none with
      | none => d
      | some v =>
        let spd := match outs.getD (a + 1) none with
          | some u => toInt 24 u * 2 ^ d.g (Reg.WHL_CFG_SPD_SHIFT n)
          | none => (d.wheel n).spd
        d.wheelSample n ((v : Int) * 2 ^ 16) d.tb.rt turn (some spd)
    else d)

/-- Each marked port of a latch written to its bound target, OUT0 first, then its wheels and residual checkers. -/
def Dev.writeOuts (d : Dev) (c : Nat) (outs : List (Option Nat)) : Dev :=
  let d := d.each (List.range 32) (fun d o =>
    match outs.getD o none with
    | some v => d.outTarget (d.word (Reg.CTX_OUT c o)) v
    | none => d)
  let d := d.wheelOuts c outs
  d.each (List.range 32) (fun d k =>
    if d.on (Reg.RES_CFG_EN k) ∧ d.g (Reg.RES_CFG_CTX k) = c then
      match outs.getD (d.g (Reg.RES_CFG_PORT k)) none with
      | some v => d.resCheck k v
      | none => d
    else d)

/-- The incoming context of a handover has written: the roles change (R91). -/
def Dev.handoverDone (d : Dev) (o i : Nat) : Dev :=
  if d.ctxState o = 2 ∧ d.ctxState i = 3 then
    let d := ((d.s (Reg.CTX_W0_STATE i) 2).s (Reg.CTX_W0_STATE o) 3).s (Reg.CTX_W0_SHADOW_OF o) i
    d.updCtx o (fun x => { x with handover := none })
  else d

/-- What awaits a context's output write: a STOP, or an evacuation (R85, R98). -/
def Dev.afterWrite (d : Dev) (c : Nat) : Dev :=
  let x := d.ctx c
  let d := if x.evac then
      let e := d.ctxEng c
      let d := d.updCtx c (fun x => { x with migFrom := d.ctxState c })
      (d.copyCtx c e d.spare).ctxMoved c
    else d
  let held := (maskBits 6 (d.ctxBind c)).all (fun n => !d.on (Reg.DCL_CH_CFG_SL n) || d.g (Reg.DCL_CH_STAT_SLSTATE n) == 3)
  if x.stopReq ∨ (x.holdStop ∧ held) then
    (d.s (Reg.CTX_W0_STATE c) 1).updCtx c (fun x => { x with stopReq := false, holdStop := false, phase := .idle })
  else d

/-- OUTPUT_WRITE: at t0 + OUTPHASE the output latch is written (R82); a shadow, and the outgoing context of a handover run, write
nothing (R89, R91). -/
def execOutputWrite (c : Nat) (s : State) := s.run fun d =>
  let x := d.ctx c
  match x.outDue with
  | none => d
  | some _ =>
    let d := d.updCtx c (fun x => { x with outDue := none })
    let d := match x.role with
      | .normal => if d.ctxState c = 2 then d.writeOuts c x.latch else d
      | .discard => d
      | .incoming o => (d.writeOuts c x.latch).handoverDone o c
    d.afterWrite c

/-! ## LATE runs (R83, R84, R92) -/

/-- CE_CTX_LATE: a queued run can no longer end in time (R83); `delay` is s − t0 − 4 for the tick s in which it would have started. -/
def execCeCtxLate (c delay : Nat) (s : State) := s.run fun d =>
  let x := d.ctx c
  if x.phase ≠ .queued then d
  else
    let e := d.ctxEng c
    let d := d.updEng e (fun g => { g with queue := g.queue.filter (fun q => q.ctx != c) })
    let d := d.updCtx c (fun x => { x with phase := .idle, late := true, cmpOwn := none, cmpLive := none })
    let d := (d.inc (Reg.CTX_LATE_CNT_COUNT c)).inc (Reg.CTX_STAT_CONSEC_LATE c)
    let d := d.raise Err.CE_CTX_LATE ([c, e] ++ rtWords x.t0rt ++ [delay])
    let d := if d.ctxState c = 3 then d.s (Reg.CTX_STAT_SHD_MATCH c) 0 else d
    let d := d.each (d.shadowsOf c) (fun d y => (d.s (Reg.CTX_STAT_SHD_MATCH y) 0).updCtx y (fun z => { z with cmpOwn := none, cmpLive := none }))
    -- a late incoming context moves the handover, and the outgoing one writes where its tick has not passed
    let d := match x.role with
      | .incoming o =>
        let d := d.updCtx o (fun y => { y with role := .normal })
        d.when (d.ctx o).late (fun d => d.raise Err.CE_HO_BAD [o, c])
      | _ => match x.handover with
        | some i => d.when (x.role == .discard && (d.ctx i).late) (fun d => d.raise Err.CE_HO_BAD [c, i])
        | none => d
    if d.g (Reg.CTX_W1_LATE_MAX c) ≤ d.g (Reg.CTX_STAT_CONSEC_LATE c) then d.ctxFault c 1 else d

/-! ## Debug (R99, R100) -/

/-- Whether the debug lock is OPEN (R475): entry 15 of the tally. -/
def Dev.debugOpen (d : Dev) : Bool := ((d.tly.entries.getD 15 ⟨[0], false, 0, 0⟩).value.headD 0) == 0

/-- The channels bound to the contexts of an engine. -/
def Dev.engBind (d : Dev) (e : Nat) : Nat := (d.engCtxs e).foldl (fun a c => a ||| d.ctxBind c) 0

/-- ENGINE_HALT: a debug halt (R100); refused unless the debug lock is OPEN (R99). Results in flight land, and the channels bound to
the engine's contexts go safe (R173). -/
def execEngineHalt (e : Nat) (s : State) := s.run fun d =>
  if e < 12 ∧ d.debugOpen ∧ !d.on (Reg.ENG_STAT_HALT e) then
    let d := d.updEng e (fun g => if g.run.isSome then g.landFrom g.cyc 4 else g)
    (d.s (Reg.ENG_STAT_HALT e) 1).forceMask (d.engBind e) 2 (e + 1)
  else d

/-- ENGINE_RESUME: an interrupted run is abandoned and queued runs are dropped, each counted as missed (R100). -/
def execEngineResume (e : Nat) (s : State) := s.run fun d =>
  if e < 12 ∧ d.on (Reg.ENG_STAT_HALT e) then
    let g := d.eng e
    let d := d.each ((g.queue.map (·.ctx)).filter (fun c => d.ctxEng c == e)) (fun d c =>
      (d.inc (Reg.CTX_MISS_CNT_COUNT c)).updCtx c (fun x => { x with phase := .idle }))
    let d := match g.run with
      | some c => d.updCtx c (fun x => { x with phase := .idle })
      | none => d
    let d := d.updEng e (fun _ => { ({} : Eng) with lastEnd := some d.tick, sigDue := d.tick })
    (d.s (Reg.ENG_STAT_HALT e) 0).forceOff 2 (e + 1)
  else d

/-- SIGNATURE_TEST: the test of an engine completes in idle time (R93). -/
def execSignatureTest (e : Nat) (pass : Bool) (s : State) := s.run fun d =>
  if e < 12 ∧ !d.on (Reg.ENG_STAT_HALT e) ∧ !d.on (Reg.ENG_STAT_FAULT e) ∧ (d.eng e).run.isNone then
    if pass then d.updEng e (fun g => { g with sigDue := d.tick }) else d.engFail e 4
  else d

/-- CE_SIG_STARVED: the test of an engine has not completed within 10 periods (R93). -/
def execCeSigStarved (e : Nat) (s : State) := s.run fun d =>
  if e < 12 ∧ !d.on (Reg.ENG_STAT_HALT e) ∧ 10 * d.g Reg.CE_CFG_SIG_PERIOD ≤ msBetween (d.eng e).sigDue d.tick then
    (d.updEng e (fun g => { g with sigDue := d.tick })).raise Err.CE_SIG_STARVED [e]
  else d

end Sys2Proof.Machine
end

