-- ==== Sys2Proof/Machine/ConathWord.lean ====
section
/-! DEFINITION. Machine/ConathWord.lean: the 48-bit words of the engines: the formats and reserved encodings (R119 to R122), the
instruction that a word stands for and the word of an instruction, the cycle count of a program (R133), and a single step of a halted
engine (R99). -/

namespace Sys2Proof.Machine

/-- The operation code of a word. -/
def cwOp (w : Nat) : Nat := bits w 47 42
/-- The predicate of a word. -/
def cwPred (w : Nat) : Nat := bits w 41 39
/-- Field D of formats FR, FI, FM and FP. -/
def cwD (w : Nat) : Nat := bits w 38 35
/-- Field A. -/
def cwA (w : Nat) : Nat := bits w 34 31
/-- Field B. -/
def cwB (w : Nat) : Nat := bits w 30 27
/-- Field C. -/
def cwC (w : Nat) : Nat := bits w 26 23
/-- Field E. -/
def cwE (w : Nat) : Nat := bits w 22 19
/-- Field SHF, signed. -/
def cwShf (w : Nat) : Int := toInt 6 (bits w 15 10)
/-- Field T. -/
def cwT (w : Nat) : Bool := w.testBit 9
/-- Field Q22 of format FR. -/
def cwQ (w : Nat) : Bool := w.testBit 8
/-- Field F. -/
def cwF (w : Nat) : Nat := bits w 7 4
/-- Field IMM of format FI. -/
def cwImm (w : Nat) : Nat := bits w 23 0
/-- Field XN of formats FI and FM. -/
def cwXn (w : Nat) : Nat := bits w 30 28
/-- Field DISP of format FM, signed. -/
def cwDisp (w : Nat) : Int := toInt 12 (bits w 23 12)
/-- Field OFS of format FB, signed. -/
def cwOfs (w : Nat) : Int := toInt 13 (bits w 38 26)
/-- Field COUNT of format FB. -/
def cwCount (w : Nat) : Nat := bits w 25 10
/-- Field PORT of format FP. -/
def cwPort (w : Nat) : Nat := bits w 23 16

/-- The bits of a field from `hi` to `lo`. -/
def fieldMask (hi lo : Nat) : Nat := (2 ^ (hi - lo + 1) - 1) * 2 ^ lo

/-- The bits [38:0] that an instruction uses (R119, R121), `none` for a reserved operation code. -/
def conathUsed (op : Nat) : Option Nat :=
  let d := fieldMask 38 35
  let a := fieldMask 34 31
  let b := fieldMask 30 27
  let c := fieldMask 26 23
  let shf := fieldMask 15 10
  let q := 2 ^ 8
  let imm := fieldMask 23 0
  let imm15 := fieldMask 14 0
  let xn := fieldMask 30 28
  let fm := xn + fieldMask 27 27 + fieldMask 23 12
  if op ≤ 1 ∨ op = 4 then some 0
  else if op = 2 ∨ op = 3 then some (fieldMask 38 26)
  else if op = 5 then some (fieldMask 38 10)
  else if op = 6 then some 7
  else if op = 7 ∨ op = 0xD then some d
  else if op = 8 ∨ op = 0xC ∨ op = 0x12 ∨ op = 0x13 ∨ op = 0x31 then some (d + a)
  else if op = 9 then some (d + imm)
  else if op = 0xA then some (d + a + b + fieldMask 18 16)
  else if op = 0xB then some (d + a + shf + 2 ^ 9)
  else if op = 0x16 then some (d + a + b + c)
  else if op = 0x17 ∨ op = 0x22 ∨ op = 0x26 then some (d + a + imm)
  else if op = 0x18 then some (a + b)
  else if op = 0x19 then some (a + imm)
  else if op = 0x1A ∨ op = 0x1C ∨ op = 0x27 ∨ op = 0x33 ∨ op = 0x34 then some (d + a + shf)
  else if (0xE ≤ op ∧ op ≤ 0x15) ∨ op = 0x1B ∨ op = 0x20 ∨ op = 0x21 ∨ (0x23 ≤ op ∧ op ≤ 0x25) ∨ op = 0x30 then some (d + a + b)
  else if 0x28 ≤ op ∧ op ≤ 0x2A then some (d + a + b + q)
  else if op = 0x2B then some (d + a + b + c + fieldMask 22 19 + q + fieldMask 7 4)
  else if 0x2C ≤ op ∧ op ≤ 0x2E then some (d + a + fm + 2 ^ 11)
  else if op = 0x2F ∨ op = 0x3E then some (fieldMask 38 8)
  else if op = 0x32 then some (d + a + b + c + 2 ^ 9)
  else if op = 0x35 then some (d + fm)
  else if op = 0x36 then some (a + fm)
  else if op = 0x37 ∨ op = 0x3A then some (xn + imm15)
  else if op = 0x38 then some (a + xn)
  else if op = 0x39 then some (a + xn + imm15)
  else if op = 0x3B then some (d + fieldMask 23 16)
  else if op = 0x3C then some (a + fieldMask 23 16)
  else if op = 0x3D then some (d + fieldMask 15 6)
  else none

/-- Whether the field values of a word lie in the ranges of its instruction, and no forbidden pairing is present (R119 to R122). -/
def conathRange (w : Nat) : Bool :=
  let op := cwOp w
  let accD := decide (cwD w < 4)
  let accA := decide (cwA w < 4)
  let accB := decide (cwB w < 4)
  let s := cwShf w
  let within (lo hi : Int) : Bool := decide (lo ≤ s) && decide (s ≤ hi)
  if op = 5 then cwCount w != 0
  else if op = 0xB then accA && within (-16) 15
  else if op = 0xC ∨ op = 0xD then accD
  else if op = 0xE ∨ op = 0xF then accD && accA && accB
  else if op = 0x1A ∨ op = 0x27 then within (-23) 23
  else if op = 0x1C then accD && accA
  else if (0x28 ≤ op ∧ op ≤ 0x2A) ∨ (0x2C ≤ op ∧ op ≤ 0x2E) then accD
  else if op = 0x2B then accD && decide (cwE w < 4) && cwD w != cwE w
  else if op = 0x2F ∨ op = 0x3E then bits w 38 37 != bits w 23 22 && bits w 32 30 != bits w 17 15
  else if op = 0x31 ∨ op = 0x32 then cwD w % 2 == 0
  else if op = 0x33 ∨ op = 0x34 then within 0 23
  else if op = 0x39 then decide (cwA w < 8)
  else if op = 0x3A then decide (cwXn w < 4)
  else if op = 0x3B then portListed (cwPort w)
  else if op = 0x3C then decide (0x40 ≤ cwPort w) && decide (cwPort w < 0x60)
  else true

/-- Whether a 48-bit word is no reserved encoding (R120). -/
def conathOk (w : Nat) : Bool :=
  match conathUsed (cwOp w) with
  | none => false
  | some used => (w % 2 ^ 39 &&& (2 ^ 39 - 1 - used)) == 0 && conathRange w

/-- The instruction that a word stands for on an engine, by its operation code and fields (R119, R121). -/
def conathFields (w e : Nat) : Instr :=
  let p := cwPred w
  let d := cwD w
  let a := cwA w
  let b := cwB w
  let c := cwC w
  let q := cwQ w
  let imm := cwImm w
  let xn := cwXn w
  let pm := w.testBit 27
  let disp := cwDisp w
  let qm := w.testBit 11
  match cwOp w with
  | 0x00 => .nop e p
  | 0x01 => .endProgram e
  | 0x02 => .br e (cwOfs w)
  | 0x03 => .call e (cwOfs w)
  | 0x04 => .ret e
  | 0x05 => .loop e (cwCount w) (cwOfs w)
  | 0x06 => .clrf e p (imm % 8)
  | 0x07 => .rdf e p d
  | 0x08 => .mov e p d a
  | 0x09 => .movk e p d imm
  | 0x0A => .sel e p (bits w 18 16) d a b
  | 0x0B => .movs e p d a (cwShf w) (cwT w)
  | 0x0C => .lda e p d a
  | 0x0D => .clra e p d
  | 0x0E => .adda e p d a b
  | 0x0F => .suba e p d a b
  | 0x10 => .add e p d a b
  | 0x11 => .sub e p d a b
  | 0x12 => .neg e p d a
  | 0x13 => .abs e p d a
  | 0x14 => .min e p d a b
  | 0x15 => .max e p d a b
  | 0x16 => .clmp e p d a b c
  | 0x17 => .addk e p d a imm
  | 0x18 => .cmp e p a b
  | 0x19 => .cmpk e p a imm
  | 0x1A => .ash e p d a (cwShf w)
  | 0x1B => .hyst e p d a b
  | 0x1C => .sha e p d a (cwShf w)
  | 0x20 => .iadd e p d a b
  | 0x21 => .isub e p d a b
  | 0x22 => .iaddk e p d a imm
  | 0x23 => .andBits e p d a b
  | 0x24 => .orBits e p d a b
  | 0x25 => .xorBits e p d a b
  | 0x26 => .andk e p d a imm
  | 0x27 => .lsh e p d a (cwShf w)
  | 0x28 => .mpy e p d a b q
  | 0x29 => .mac e p d a b q
  | 0x2A => .msu e p d a b q
  | 0x2B => .dmac e p d a b (cwE w) c (cwF w) q
  | 0x2C => .mpyx e p d a xn pm disp qm
  | 0x2D => .macx e p d a xn pm disp qm
  | 0x2E => .msux e p d a xn pm disp qm
  | 0x2F => .dmacx e p (bits w 38 37) (bits w 36 33) (bits w 32 30) (toInt 6 (bits w 29 24)) (bits w 23 22) (bits w 21 18)
      (bits w 17 15) (toInt 6 (bits w 14 9)) q
  | 0x30 => .muli e p d a b
  | 0x31 => .sincos e p d a
  | 0x32 => .rot e p d a b c (cwT w)
  | 0x33 => .recip e p d a (bits w 15 10)
  | 0x34 => .rsqrt e p d a (bits w 15 10)
  | 0x35 => .ld e p d xn pm disp
  | 0x36 => .st e p a xn pm disp
  | 0x37 => .ldx e p xn imm
  | 0x38 => .movx e p xn a
  | 0x39 => .addx e p xn a imm
  | 0x3A => .movm e p xn imm
  | 0x3B => .inPort e p d (cwPort w)
  | 0x3C => .outPort e p (cwPort w) a
  | 0x3D => .rdsh e p d (bits w 15 12) (bits w 11 6)
  | _ => .dmpyx e p (bits w 38 37) (bits w 36 33) (bits w 32 30) (toInt 6 (bits w 29 24)) (bits w 23 22) (bits w 21 18)
      (bits w 17 15) (toInt 6 (bits w 14 9)) q

/-- The instruction that a word stands for; none for a reserved encoding (R120). -/
def conathInstr (w e : Nat) : Option Instr := if conathOk w then some (conathFields w e) else none

/-! ## Encoding (R119, R121) -/

/-- A word of an operation code, a predicate and the bits [38:0]. -/
def cwMake (op p rest : Nat) : Nat := op * 2 ^ 42 + p * 2 ^ 39 + rest

/-- Fields D, A and B of formats FR, FI and FP. -/
def cwDab (d a b : Nat) : Nat := d * 2 ^ 35 + a * 2 ^ 31 + b * 2 ^ 27

/-- Field SHF of format FR. -/
def cwPutShf (s : Int) : Nat := ofInt 6 s * 2 ^ 10

/-- Fields XN, PM and DISP of format FM. -/
def cwPutMem (xn : Nat) (pm : Bool) (disp : Int) : Nat := xn * 2 ^ 28 + b2n pm * 2 ^ 27 + ofInt 12 disp * 2 ^ 12

/-- The fields of format FD. -/
def cwPutDual (ad ga x1 : Nat) (s1 : Int) (ae gb x2 : Nat) (s2 : Int) (q : Bool) : Nat :=
  ad * 2 ^ 37 + ga * 2 ^ 33 + x1 * 2 ^ 30 + ofInt 6 s1 * 2 ^ 24 + ae * 2 ^ 22 + gb * 2 ^ 18 + x2 * 2 ^ 15 + ofInt 6 s2 * 2 ^ 9 + b2n q * 2 ^ 8

/-- The word of an engine instruction; none for another command. -/
def conathWord : Instr → Option Nat
  | .nop _ p => some (cwMake 0x00 p 0)
  | .endProgram _ => some (cwMake 0x01 0 0)
  | .br _ ofs => some (cwMake 0x02 0 (ofInt 13 ofs * 2 ^ 26))
  | .call _ ofs => some (cwMake 0x03 0 (ofInt 13 ofs * 2 ^ 26))
  | .ret _ => some (cwMake 0x04 0 0)
  | .loop _ count ofs => some (cwMake 0x05 0 (ofInt 13 ofs * 2 ^ 26 + count * 2 ^ 10))
  | .clrf _ p m => some (cwMake 0x06 p m)
  | .rdf _ p gd => some (cwMake 0x07 p (cwDab gd 0 0))
  | .mov _ p gd ga => some (cwMake 0x08 p (cwDab gd ga 0))
  | .movk _ p gd imm => some (cwMake 0x09 p (cwDab gd 0 0 + imm))
  | .sel _ p cc gd ga gb => some (cwMake 0x0A p (cwDab gd ga gb + cc * 2 ^ 16))
  | .movs _ p gd ad sh trunc => some (cwMake 0x0B p (cwDab gd ad 0 + cwPutShf sh + b2n trunc * 2 ^ 9))
  | .lda _ p ad ga => some (cwMake 0x0C p (cwDab ad ga 0))
  | .clra _ p ad => some (cwMake 0x0D p (cwDab ad 0 0))
  | .adda _ p ad aa ab => some (cwMake 0x0E p (cwDab ad aa ab))
  | .suba _ p ad aa ab => some (cwMake 0x0F p (cwDab ad aa ab))
  | .add _ p gd ga gb => some (cwMake 0x10 p (cwDab gd ga gb))
  | .sub _ p gd ga gb => some (cwMake 0x11 p (cwDab gd ga gb))
  | .neg _ p gd ga => some (cwMake 0x12 p (cwDab gd ga 0))
  | .abs _ p gd ga => some (cwMake 0x13 p (cwDab gd ga 0))
  | .min _ p gd ga gb => some (cwMake 0x14 p (cwDab gd ga gb))
  | .max _ p gd ga gb => some (cwMake 0x15 p (cwDab gd ga gb))
  | .clmp _ p gd ga gb gc => some (cwMake 0x16 p (cwDab gd ga gb + gc * 2 ^ 23))
  | .addk _ p gd ga imm => some (cwMake 0x17 p (cwDab gd ga 0 + imm))
  | .cmp _ p ga gb => some (cwMake 0x18 p (cwDab 0 ga gb))
  | .cmpk _ p ga imm => some (cwMake 0x19 p (cwDab 0 ga 0 + imm))
  | .ash _ p gd ga sh => some (cwMake 0x1A p (cwDab gd ga 0 + cwPutShf sh))
  | .hyst _ p gd ga gb => some (cwMake 0x1B p (cwDab gd ga gb))
  | .sha _ p ad aa sh => some (cwMake 0x1C p (cwDab ad aa 0 + cwPutShf sh))
  | .iadd _ p gd ga gb => some (cwMake 0x20 p (cwDab gd ga gb))
  | .isub _ p gd ga gb => some (cwMake 0x21 p (cwDab gd ga gb))
  | .iaddk _ p gd ga imm => some (cwMake 0x22 p (cwDab gd ga 0 + imm))
  | .andBits _ p gd ga gb => some (cwMake 0x23 p (cwDab gd ga gb))
  | .orBits _ p gd ga gb => some (cwMake 0x24 p (cwDab gd ga gb))
  | .xorBits _ p gd ga gb => some (cwMake 0x25 p (cwDab gd ga gb))
  | .andk _ p gd ga imm => some (cwMake 0x26 p (cwDab gd ga 0 + imm))
  | .lsh _ p gd ga sh => some (cwMake 0x27 p (cwDab gd ga 0 + cwPutShf sh))
  | .mpy _ p ad ga gb q => some (cwMake 0x28 p (cwDab ad ga gb + b2n q * 2 ^ 8))
  | .mac _ p ad ga gb q => some (cwMake 0x29 p (cwDab ad ga gb + b2n q * 2 ^ 8))
  | .msu _ p ad ga gb q => some (cwMake 0x2A p (cwDab ad ga gb + b2n q * 2 ^ 8))
  | .dmac _ p ad ga gb ae gc gf q =>
    some (cwMake 0x2B p (cwDab ad ga gb + gc * 2 ^ 23 + ae * 2 ^ 19 + b2n q * 2 ^ 8 + gf * 2 ^ 4))
  | .mpyx _ p ad ga xn pm disp q => some (cwMake 0x2C p (cwDab ad ga 0 + cwPutMem xn pm disp + b2n q * 2 ^ 11))
  | .macx _ p ad ga xn pm disp q => some (cwMake 0x2D p (cwDab ad ga 0 + cwPutMem xn pm disp + b2n q * 2 ^ 11))
  | .msux _ p ad ga xn pm disp q => some (cwMake 0x2E p (cwDab ad ga 0 + cwPutMem xn pm disp + b2n q * 2 ^ 11))
  | .dmacx _ p ad ga x1 s1 ae gb x2 s2 q => some (cwMake 0x2F p (cwPutDual ad ga x1 s1 ae gb x2 s2 q))
  | .muli _ p gd ga gb => some (cwMake 0x30 p (cwDab gd ga gb))
  | .sincos _ p gd ga => some (cwMake 0x31 p (cwDab gd ga 0))
  | .rot _ p gd ga gb gc inv => some (cwMake 0x32 p (cwDab gd ga gb + gc * 2 ^ 23 + b2n inv * 2 ^ 9))
  | .recip _ p gd ga k => some (cwMake 0x33 p (cwDab gd ga 0 + k * 2 ^ 10))
  | .rsqrt _ p gd ga k => some (cwMake 0x34 p (cwDab gd ga 0 + k * 2 ^ 10))
  | .ld _ p gd xn pm disp => some (cwMake 0x35 p (cwDab gd 0 0 + cwPutMem xn pm disp))
  | .st _ p ga xn pm disp => some (cwMake 0x36 p (cwDab 0 ga 0 + cwPutMem xn pm disp))
  | .ldx _ p xd imm => some (cwMake 0x37 p (xd * 2 ^ 28 + imm))
  | .movx _ p xd ga => some (cwMake 0x38 p (cwDab 0 ga 0 + xd * 2 ^ 28))
  | .addx _ p xd xa imm => some (cwMake 0x39 p (cwDab 0 xa 0 + xd * 2 ^ 28 + imm))
  | .movm _ p mn imm => some (cwMake 0x3A p (mn * 2 ^ 28 + imm))
  | .inPort _ p gd port => some (cwMake 0x3B p (cwDab gd 0 0 + port * 2 ^ 16))
  | .outPort _ p port ga => some (cwMake 0x3C p (cwDab 0 ga 0 + port * 2 ^ 16))
  | .rdsh _ p gd node word => some (cwMake 0x3D p (cwDab gd 0 0 + node * 2 ^ 12 + word * 2 ^ 6))
  | .dmpyx _ p ad ga x1 s1 ae gb x2 s2 q => some (cwMake 0x3E p (cwPutDual ad ga x1 s1 ae gb x2 s2 q))
  | _ => none

/-- The effect of the instruction that a valid word stands for, on an engine (R121). -/
def conathExec (w e : Nat) (s : State) : Host.Outcome State Fault Refusal :=
  let p := cwPred w
  let d := cwD w
  let a := cwA w
  let b := cwB w
  let c := cwC w
  let q := cwQ w
  let imm := cwImm w
  let xn := cwXn w
  let pm := w.testBit 27
  let disp := cwDisp w
  let qm := w.testBit 11
  match cwOp w with
  | 0x00 => execNop e p s
  | 0x01 => execEnd e s
  | 0x02 => execBr e (cwOfs w) s
  | 0x03 => execCall e (cwOfs w) s
  | 0x04 => execRet e s
  | 0x05 => execLoop e (cwCount w) (cwOfs w) s
  | 0x06 => execClrf e p (imm % 8) s
  | 0x07 => execRdf e p d s
  | 0x08 => execMov e p d a s
  | 0x09 => execMovk e p d imm s
  | 0x0A => execSel e p (bits w 18 16) d a b s
  | 0x0B => execMovs e p d a (cwShf w) (cwT w) s
  | 0x0C => execLda e p d a s
  | 0x0D => execClra e p d s
  | 0x0E => execAdda e p d a b s
  | 0x0F => execSuba e p d a b s
  | 0x10 => execAdd e p d a b s
  | 0x11 => execSub e p d a b s
  | 0x12 => execNeg e p d a s
  | 0x13 => execAbs e p d a s
  | 0x14 => execMin e p d a b s
  | 0x15 => execMax e p d a b s
  | 0x16 => execClmp e p d a b c s
  | 0x17 => execAddk e p d a imm s
  | 0x18 => execCmp e p a b s
  | 0x19 => execCmpk e p a imm s
  | 0x1A => execAsh e p d a (cwShf w) s
  | 0x1B => execHyst e p d a b s
  | 0x1C => execSha e p d a (cwShf w) s
  | 0x20 => execIadd e p d a b s
  | 0x21 => execIsub e p d a b s
  | 0x22 => execIaddk e p d a imm s
  | 0x23 => execAnd e p d a b s
  | 0x24 => execOr e p d a b s
  | 0x25 => execXor e p d a b s
  | 0x26 => execAndk e p d a imm s
  | 0x27 => execLsh e p d a (cwShf w) s
  | 0x28 => execMpy e p d a b q s
  | 0x29 => execMac e p d a b q s
  | 0x2A => execMsu e p d a b q s
  | 0x2B => execDmac e p d a b (cwE w) c (cwF w) q s
  | 0x2C => execMpyx e p d a xn pm disp qm s
  | 0x2D => execMacx e p d a xn pm disp qm s
  | 0x2E => execMsux e p d a xn pm disp qm s
  | 0x2F => execDmacx e p (bits w 38 37) (bits w 36 33) (bits w 32 30) (toInt 6 (bits w 29 24)) (bits w 23 22) (bits w 21 18)
      (bits w 17 15) (toInt 6 (bits w 14 9)) q s
  | 0x30 => execMuli e p d a b s
  | 0x31 => execSincos e p d a s
  | 0x32 => execRot e p d a b c (cwT w) s
  | 0x33 => execRecip e p d a (bits w 15 10) s
  | 0x34 => execRsqrt e p d a (bits w 15 10) s
  | 0x35 => execLd e p d xn pm disp s
  | 0x36 => execSt e p a xn pm disp s
  | 0x37 => execLdx e p xn imm s
  | 0x38 => execMovx e p xn a s
  | 0x39 => execAddx e p xn a imm s
  | 0x3A => execMovm e p xn imm s
  | 0x3B => execIn e p d (cwPort w) s
  | 0x3C => execOut e p (cwPort w) a s
  | 0x3D => execRdsh e p d (bits w 15 12) (bits w 11 6) s
  | _ => execDmpyx e p (bits w 38 37) (bits w 36 33) (bits w 32 30) (toInt 6 (bits w 29 24)) (bits w 23 22) (bits w 21 18)
      (bits w 17 15) (toInt 6 (bits w 14 9)) q s

/-- The device after the instruction of a word. -/
def Dev.conathStep (d : Dev) (w e : Nat) : Dev :=
  match conathExec w e ⟨d, []⟩ with
  | .next s => s.dev
  | .fault _ => d
  | .refused _ => d

/-- ENGINE_SINGLE_STEP: a halted engine executes one cycle (R99): what is due lands, and the word at the program counter issues. A
reserved encoding fails the engine (R120); after END the cycle only drains. -/
def execEngineSingleStep (e : Nat) (s : State) := s.run fun d =>
  if e < 12 ∧ d.debugOpen ∧ d.on (Reg.ENG_STAT_HALT e) ∧ (d.eng e).run.isSome then
    let g := d.eng e
    if g.ended.isSome then (d.landed e).updEng e (fun g => { g with cyc := g.cyc + 1 })
    else
      let w := d.pmWord e g.pc
      if conathOk w then ((d.s (Reg.ENG_STAT_HALT e) 0).conathStep w e).s (Reg.ENG_STAT_HALT e) 1
      else d.engFail e 5
  else d

/-! ## The cycle count (R133) -/

/-- The walk's state: the word address, the cycles counted, the delay slots and their target, the open loops (start, stop, left) and
the return addresses. -/
structure Walk where
  pc     : Int
  c      : Nat
  slots  : Nat
  target : Int
  loops  : List (Int × Int × Nat)
  rets   : List Int

/-- The end of a walk's step in its loops: the word that follows, and the loops that stay open. -/
def walkLoops (pc next : Int) : List (Int × Int × Nat) → Int × List (Int × Int × Nat)
  | [] => (next, [])
  | (st, sp, left) :: t =>
    if sp = pc then
      if 1 < left then (st, (st, sp, left - 1) :: t) else walkLoops pc next t
    else (next, (st, sp, left) :: t)

/-- One step of the walk: the word refused, the count found, or the walk's next state. -/
def walkStep (prog : Nat → Nat) (len : Nat) (k : Walk) : Except Nat (Sum Nat Walk) :=
  if (len : Int) ≤ k.pc then .error (len - 1)
  else
    let here := k.pc.toNat
    let w := prog here
    let op := cwOp w
    let flow := decide (1 ≤ op) && decide (op ≤ 5)
    if flow && (decide (0 < k.slots) || cwPred w != 0) then .error here
    else if decide (2 ≤ op) && decide (op ≤ 4) && !k.loops.isEmpty then .error here
    else if 1048573 < k.c + 1 then .error here
    else
      let c := k.c + 1
      let next := k.pc + 1
      let branch (target : Int) (rets : List Int) : Except Nat (Sum Nat Walk) :=
        if target < 0 ∨ (len : Int) ≤ target then .error here
        else
          let r := walkLoops k.pc next k.loops
          .ok (.inr ⟨r.1, c, 2, target, r.2, rets⟩)
      let plain (loops : List (Int × Int × Nat)) : Except Nat (Sum Nat Walk) :=
        let next := if k.slots = 1 then k.target else next
        let r := walkLoops k.pc next loops
        .ok (.inr ⟨r.1, c, k.slots - 1, k.target, r.2, k.rets⟩)
      match op with
      | 1 => if k.loops.isEmpty then .ok (.inl (c + 2)) else .error here
      | 2 => branch (k.pc + cwOfs w) k.rets
      | 3 => if k.rets.length = 4 then .error here else branch (k.pc + cwOfs w) ((k.pc + 3) :: k.rets)
      | 4 => match k.rets with
        | [] => .error here
        | t :: r => branch t r
      | 5 =>
        let stop := k.pc + cwOfs w
        let inner := match k.loops with
          | [] => (len : Int) - 1
          | (_, sp, _) :: _ => sp
        if cwCount w = 0 ∨ cwOfs w < 1 ∨ k.loops.length = 4 ∨ (len : Int) - 1 < stop ∨ inner < stop then .error here
        else plain ((k.pc + 1, stop, cwCount w) :: k.loops)
      | _ => plain k.loops

/-- The walk, at most `fuel` steps: N, or the word at which it is refused. -/
def walkFrom (prog : Nat → Nat) (len : Nat) (k : Walk) : Nat → Except Nat Nat
  | 0 => .error k.pc.toNat
  | n + 1 =>
    match walkStep prog len k with
    | .error w => .error w
    | .ok (.inl c) => .ok c
    | .ok (.inr k') => walkFrom prog len k' n

/-- count_cycles of R133. -/
def countCycles (prog : Nat → Nat) (len : Nat) : Except Nat Nat := walkFrom prog len ⟨0, 0, 0, 0, [], []⟩ 1048576

end Sys2Proof.Machine
end

