-- ==== Sys2Proof/Machine/CeLoad.lean ====
section
/-! DEFINITION. Machine/CeLoad.lean: CE commands, the program image and admission, engine memory writes, the writes of the CE block,
and the setpoint conditioners (R77, R78, R85 to R88, R98, R103, R134). -/

namespace Sys2Proof.Machine

/-! ## The image (R134) -/

/-- What a loader finds in an image. -/
structure ImageInfo where
  prog  : Nat
  state : Nat
  bank  : Nat
  n     : Nat
  deriving DecidableEq, Repr

/-- A program word of the image at an address. -/
def Dev.imgWord (d : Dev) (a i : Nat) : Nat := d.mem32 (a + 0x20 + 8 * i) + d.mem32 (a + 0x24 + 8 * i) % 65536 * 2 ^ 32

/-- The offset of the first header word that is out of range (R134). -/
def Dev.imgHeader (d : Dev) (a : Nat) : Option Nat :=
  let w (o : Nat) := d.mem32 (a + o)
  if w 0 ≠ 0x48544E43 then some 0
  else if w 4 ≠ 1 then some 4
  else if w 8 % 65536 = 0 ∨ 8192 < w 8 % 65536 ∨ 32767 < w 8 / 65536 then some 8
  else if 4095 < w 12 then some 12
  else if 0xFFFFF < w 16 then some 16
  else if w 24 ≠ 0 then some 24
  else if w 28 ≠ 0 then some 28
  else none

/-- A flow instruction (BR, CALL, RET, LOOP, END) with a predicate other than AL, which the loader refuses wherever it stands (R116). -/
def flowPredicated (w : Nat) : Bool := decide (1 ≤ cwOp w) && decide (cwOp w ≤ 5) && cwPred w != 0

/-- The checks of the loader on an image (R134): its contents, or the offset at which it is refused. -/
def Dev.imgCheck (d : Dev) (a : Nat) : Except Nat ImageInfo :=
  match d.imgHeader a with
  | some o => .error o
  | none =>
    let p := d.mem32 (a + 8) % 65536
    let s := d.mem32 (a + 8) / 65536
    let b := d.mem32 (a + 12)
    let bad := (List.range p).find? (fun i =>
      decide (65535 < d.mem32 (a + 0x24 + 8 * i)) || !conathOk (d.imgWord a i))
    match bad with
    | some i => .error (0x20 + 8 * i)
    | none =>
      let all := d.bytes a (0x20 + 8 * p + 4 * s + 8 * b)
      if crc32c (all.take 0x14 ++ [0, 0, 0, 0] ++ all.drop 0x18) ≠ d.mem32 (a + 0x14) then .error 0x14
      else if 32768 < s + 2 * b then .error 12
      else match countCycles (d.imgWord a) p with
        | .error w => .error (0x20 + 8 * w)
        | .ok n =>
          match (List.range p).find? (fun i => flowPredicated (d.imgWord a i)) with
          | some i => .error (0x20 + 8 * i)
          | none => if n = d.mem32 (a + 16) then .ok ⟨p, s, b, n⟩ else .error 16

/-! ## Admission (R86) -/

/-- A context's region: its first word and its length. -/
abbrev Region := Nat × Nat

/-- Whether two regions overlap. -/
def Region.meets (a b : Region) : Bool := decide (a.1 < b.1 + b.2) && decide (b.1 < a.1 + a.2)

/-- The contexts whose words stand on an engine: its own, and on the spare the warm copies. -/
def Dev.occupants (d : Dev) (e : Nat) : List Nat :=
  d.engCtxs e ++ (if e = d.spare then ctxNumbers.filter (fun c => (d.ctx c).warm && d.ctxEng c != e) else [])

/-- The program region of a context. -/
def Dev.progRegion (d : Dev) (c : Nat) : Region := (d.g (Reg.CTX_W5_PROG_BASE c), d.g (Reg.CTX_W5_PROG_LEN c))

/-- The data regions of a context: state, bank 0, bank 1. -/
def Dev.dataRegions (d : Dev) (c : Nat) : List Region :=
  let l := d.g (Reg.CTX_W4_BANK_LEN c)
  [(d.g (Reg.CTX_W6_STATE_BASE c), d.g (Reg.CTX_W6_STATE_LEN c)), (d.g (Reg.CTX_W7_BANK0_BASE c), l),
    (d.g (Reg.CTX_W7_BANK1_BASE c), l)]

/-- The first words at which `len` words are free among `size`. -/
def freeBases (used : List Region) (size len : Nat) : List Nat :=
  (List.range (size + 1 - len)).filter (fun b => used.all (fun r => !Region.meets (b, len) r))

/-- The longest free run among `size` words. -/
def longestFree (used : List Region) (size : Nat) : Nat :=
  ((List.range size).foldl (fun (acc : Nat × Nat) i =>
    if used.any (fun r => Region.meets (i, 1) r) then (0, acc.2) else (acc.1 + 1, max acc.2 (acc.1 + 1))) (0, 0)).2

/-- A note of admission: its kind (0 CE_ADM_CYCLES, 1 CE_ADM_MIG, 2 CE_ADM_UTIL, 3 CE_ADM_MEM), engine, context, shortfall. -/
structure AdmNote where
  kind  : Nat
  eng   : Nat
  ctx   : Nat
  short : Nat
  deriving DecidableEq, Repr

/-- The error code of a note. -/
def AdmNote.code (n : AdmNote) : Nat := [Err.CE_ADM_CYCLES, Err.CE_ADM_MIG, Err.CE_ADM_UTIL, Err.CE_ADM_MEM].getD n.kind 0

/-- The class in which the notes of several engines are compared. -/
def AdmNote.rank (n : AdmNote) : Nat := n.kind - 1

/-- The chosen note (R86): by kind, then by least shortfall, then the lower engine; `l` is in engine order. -/
def chooseNote : List AdmNote → Option AdmNote
  | [] => none
  | a :: t => match chooseNote t with
    | none => some a
    | some b => if a.rank < b.rank ∨ (a.rank = b.rank ∧ a.short ≤ b.short) then some a else some b

/-- N of a context, that of the context under admission given apart. -/
def Dev.admN (d : Dev) (c n j : Nat) : Nat := if j = c then n else d.g (Reg.CTX_W4_N j)

/-- P(j) of R86. -/
def Dev.admP (d : Dev) (j : Nat) : Nat := d.ctxDiv j * d.g (Reg.CTX_W2_T_MIN j)

/-- Whether two contexts have the same trigger (R86). -/
def Dev.sameTrigger (d : Dev) (a b : Nat) : Bool :=
  d.g (Reg.CTX_W1_TRIG_SRC a) == 1 && d.g (Reg.CTX_W1_TRIG_SRC b) == 1 && d.g (Reg.CTX_W1_TRIG_CH a) == d.g (Reg.CTX_W1_TRIG_CH b) &&
    d.g (Reg.CTX_W1_TRIG_CMP a) == d.g (Reg.CTX_W1_TRIG_CMP b)

/-- The iteration of start_bound (R86). -/
def boundFrom (f : Nat → Nat) (limit w : Nat) : Nat → Nat
  | 0 => w
  | k + 1 => let w' := f w; if w' = w ∨ limit < 4 + w' then w' else boundFrom f limit w' k

/-- start_bound(e, k) of R86, over the contexts `l` of the engine. -/
def Dev.startBound (d : Dev) (l : List Nat) (c n k : Nat) : Nat :=
  let cyc (j : Nat) := d.admN c n j + 2
  let b := (l.filter (fun j => j != k && d.ranksAbove k j && !d.sameTrigger j k)).foldl (fun m j => max m (cyc j - 1)) 0
  let above := l.filter (fun j => j != k && d.ranksAbove j k)
  let limit := d.g (Reg.CTX_W3_OUTPHASE k) - d.admN c n k
  boundFrom (fun w => b + above.foldl (fun s j => s + (w / max 1 (d.admP j) + 1) * cyc j) 0) limit b
    (d.g (Reg.CTX_W3_OUTPHASE k) + 1)

/-- The CE_ADM_CYCLES shortfall of a context, 0 where it fits. -/
def Dev.cycleShort (d : Dev) (l : List Nat) (c n k : Nat) : Nat :=
  4 + d.startBound l c n k + d.admN c n k - d.g (Reg.CTX_W3_OUTPHASE k)

/-- u(j) of R86 in 1/1024. -/
def Dev.utilOf (d : Dev) (c n j : Nat) : Nat := ((d.admN c n j + 2) * 1024 + d.admP j - 1) / max 1 (d.admP j)

/-- The utilisation of an engine as ENG_n_STAT shows it. -/
def Dev.engUtil (d : Dev) (e : Nat) : Nat := (d.engCtxs e).foldl (fun s j => s + d.utilOf 0 0 j) 0

/-- The copy time of a context in ticks (R96). -/
def Dev.copyTicks (d : Dev) (c : Nat) (im : ImageInfo) (j : Nat) : Nat :=
  let words := if j = c then im.prog + im.state + 2 * im.bank
    else d.g (Reg.CTX_W5_PROG_LEN j) + d.g (Reg.CTX_W6_STATE_LEN j) + 2 * d.g (Reg.CTX_W4_BANK_LEN j)
  (words + 1) / 2

/-- The largest copy_check shortfall of an engine, with its context (R96). `mig` is the MIG under which `c` would stand. -/
def Dev.copyCheck (d : Dev) (l : List Nat) (c mig : Nat) (im : ImageInfo) : Nat × Nat :=
  let cold := l.filter (fun j => (if j = c then mig else d.g (Reg.CTX_W0_MIG j)) == 1)
  cold.foldl (fun (m : Nat × Nat) j =>
    let s := (cold.filter (fun x => x == j || d.ranksAbove x j)).foldl (fun a x => a + d.copyTicks c im x) 0
    let short := 16 + s - d.admP j
    if m.1 < short then (short, j) else m) (0, 0)

/-- Where a context would stand on an engine: the first words of its program and of its state, bank 0 and bank 1, which follow one
another. The choice among the free places is open (log 2). -/
structure Placing where
  eng  : Nat
  prog : Nat
  data : Nat
  warm : Bool
  denied : Bool
  deriving DecidableEq, Repr

/-- Admission of a context on one engine (R86). -/
def Dev.admitOn (d : Dev) (e c : Nat) (im : ImageInfo) (f1 f2 : Nat) : Except AdmNote Placing :=
  let occ := d.occupants e
  let pUsed := occ.map d.progRegion
  let dUsed := occ.flatMap d.dataRegions
  let words := im.state + 2 * im.bank
  let pb := freeBases pUsed 8192 im.prog
  let db := freeBases dUsed 32768 words
  if pb = [] ∨ db = [] then
    .error ⟨3, e, c, (im.prog - longestFree pUsed 8192) + (words - longestFree dUsed 32768)⟩
  else
    let p := pb.getD (f1 % pb.length) 0
    let s := db.getD (f2 % db.length) 0
    let l := d.engCtxs e ++ [c]
    let util := l.foldl (fun a j => a + d.utilOf c im.n j) 0
    if d.g Reg.CE_CFG_UTIL_MAX < util then .error ⟨2, e, c, util - d.g Reg.CE_CFG_UTIL_MAX⟩
    else
      let worst := l.foldl (fun (m : Nat × Nat) k => let x := d.cycleShort l c im.n k; if m.1 < x then (x, k) else m) (0, 0)
      if worst.1 ≠ 0 then .error ⟨0, e, worst.2, worst.1⟩
      else
        let sp := d.spare
        let wants := d.g (Reg.CTX_W0_MIG c) == 2 && decide (sp < 12) && sp != e
        let onSp := d.occupants sp
        let clash := onSp.any (fun x => Region.meets (p, im.prog) (d.progRegion x)) ||
          (onSp.flatMap d.dataRegions).any (fun r => Region.meets (s, words) r)
        let denied := wants && clash
        let mig := if denied then 1 else d.g (Reg.CTX_W0_MIG c)
        let cc := d.copyCheck l c mig im
        if cc.1 ≠ 0 then .error ⟨1, e, cc.2, cc.1⟩ else .ok ⟨e, p, s, wants && !clash, denied⟩

/-! ## Commands (R85) -/

/-- A CE command is refused with a code; nothing else changes. -/
def Dev.ceRefuse (d : Dev) (code : Nat) (ctx : List Nat) : Dev :=
  let d := (d.s Reg.CE_CMD_RESULT_BUSY 0).s Reg.CE_CMD_RESULT_RESULT code
  { d with ce := { d.ce with resultRead := false } }.raise code ctx

/-- A CE command is carried out. -/
def Dev.ceDone (d : Dev) : Dev :=
  let d := (d.s Reg.CE_CMD_RESULT_BUSY 0).s Reg.CE_CMD_RESULT_RESULT 0
  { d with ce := { d.ce with busy := none, resultRead := false } }

/-- A CE command goes on: BUSY stays 1. -/
def Dev.ceBegin (d : Dev) (b : CeBusy) : Dev :=
  let d := (d.s Reg.CE_CMD_RESULT_BUSY 1).s Reg.CE_CMD_RESULT_RESULT 0
  { d with ce := { d.ce with busy := some b } }

/-- A command from a state that R85 does not list. -/
def Dev.ceState (d : Dev) (op c : Nat) : Dev := d.ceRefuse Err.CE_CTX_STATE [c, d.ctxState c, op]

/-- The first field of a context's entry that LOAD refuses, by its word; the image address and the engine, which are no words
of the entry, by open numbers (log 33). -/
def Dev.loadParam (d : Dev) (c eng : Nat) : Option Nat :=
  let a := d.word Reg.CE_IMG_ADDR
  if c = 0 ∨ d.g (Reg.CTX_W0_MIG c) = 3 then some 0
  else if 1 < d.g (Reg.CTX_W1_TRIG_SRC c) ∨ 5 < d.g (Reg.CTX_W1_TRIG_CH c) then some 1
  else if d.g (Reg.CTX_W2_T_MIN c) < 256 then some 2
  else if d.g (Reg.CTX_W2_T_MIN c) < d.g (Reg.CTX_W3_OUTPHASE c) then some 3
  else if a % 8 ≠ 0 ∨ a < 0x18000000 ∨ 0x180FFFFF < a then some (Config.recordNumber Err.CE_ADM_PARAM 8)
  else if 11 < eng ∧ eng ≠ 15 then some (Config.recordNumber Err.CE_ADM_PARAM 9)
  else none

/-- The engines that LOAD tries (R86). -/
def Dev.candidates (d : Dev) (eng : Nat) : List Nat :=
  if eng = 15 then (List.range 12).filter (fun e => e != d.spare && !d.on (Reg.ENG_STAT_FAULT e))
  else if d.on (Reg.ENG_STAT_FAULT eng) then [] else [eng]

/-- The loader's fields of a context's entry (R77). -/
def Dev.ctxPlace (d : Dev) (c : Nat) (im : ImageInfo) (p : Placing) : Dev :=
  let d := (d.s (Reg.CTX_W0_ENG c) p.eng).s (Reg.CTX_W0_BANK c) 0
  let d := if p.denied then (d.s (Reg.CTX_W0_MIG c) 1).raise Err.CE_WARM_DENIED [c] else d
  let d := (d.s (Reg.CTX_W4_BANK_LEN c) im.bank).s (Reg.CTX_W4_N c) im.n
  let d := (d.s (Reg.CTX_W5_PROG_LEN c) im.prog).s (Reg.CTX_W5_PROG_BASE c) p.prog
  let d := (d.s (Reg.CTX_W6_STATE_LEN c) im.state).s (Reg.CTX_W6_STATE_BASE c) p.data
  let d := (d.s (Reg.CTX_W7_BANK0_BASE c) (p.data + im.state)).s (Reg.CTX_W7_BANK1_BASE c) (p.data + im.state + im.bank)
  d.updCtx c (fun _ => { warm := p.warm })

/-- LOAD (R86): the checks in their order, then admission on the candidate engines. -/
def Dev.ceLoad (d : Dev) (c eng : Nat) : Dev :=
  match d.loadParam c eng with
  | some w => d.ceRefuse Err.CE_ADM_PARAM [c, w]
  | none =>
    if d.ctxState c ≠ 0 then d.ceState 1 c
    else match d.imgCheck (d.word Reg.CE_IMG_ADDR) with
      | .error o => d.ceRefuse Err.CE_IMG_BAD [c, o]
      | .ok im =>
        let es := d.candidates eng
        if es = [] then d.ceRefuse Err.CE_ADM_PARAM [c, Config.recordNumber Err.CE_ADM_PARAM 9]
        else
          let f1 := d.freeVal
          let d := d.tookFree
          let f2 := d.freeVal
          let d := d.tookFree
          let tries := es.map (fun e => d.admitOn e c im f1 f2)
          match tries.findSome? (fun t => match t with | .ok p => some p | .error _ => none) with
          | some p => (d.ctxPlace c im p).ceBegin ⟨1, p.eng, c, 0⟩
          | none =>
            match chooseNote (tries.filterMap (fun t => match t with | .error n => some n | .ok _ => none)) with
            | none => d
            | some n =>
              let d := ((d.s Reg.CE_ADM_INFO_ENG n.eng).s Reg.CE_ADM_INFO_CTX n.ctx).s Reg.CE_ADM_INFO_SHORT (min n.short 0xFFFFF)
              d.ceRefuse n.code [n.eng, n.ctx, n.short]

/-- The words of the image at CE_IMG_ADDR copied to an engine (R86, R134). -/
def Dev.copyImage (d : Dev) (c e : Nat) : Dev :=
  let a := d.word Reg.CE_IMG_ADDR
  let p := d.g (Reg.CTX_W5_PROG_LEN c)
  let s := d.g (Reg.CTX_W6_STATE_LEN c)
  let b := d.g (Reg.CTX_W4_BANK_LEN c)
  let data := a + 0x20 + 8 * p
  let put (d : Dev) (base from_ len : Nat) : Dev :=
    d.each (List.range len) (fun d i => d.setDm e (base + i) (d.mem32 (data + 4 * (from_ + i)) % 2 ^ 24))
  let d := d.each (List.range p) (fun d i => d.setPm e (d.g (Reg.CTX_W5_PROG_BASE c) + i) (d.imgWord a i))
  let d := put d (d.g (Reg.CTX_W6_STATE_BASE c)) 0 s
  let d := put d (d.g (Reg.CTX_W7_BANK0_BASE c)) s b
  put d (d.g (Reg.CTX_W7_BANK1_BASE c)) (s + b) b

/-- CE_LOAD_COMPLETE: the copy ends and the context stands STOPPED on its engine (R86). -/
def execCeLoadComplete (s : State) := s.run fun d =>
  match d.ce.busy with
  | some b =>
    if b.op = 1 then
      let d := d.copyImage b.ctx b.eng
      let d := if (d.ctx b.ctx).warm then d.copyImage b.ctx d.spare else d
      (d.s (Reg.CTX_W0_STATE b.ctx) 1).ceDone
    else d
  | none => d

/-- START (R85). -/
def Dev.ceStart (d : Dev) (c : Nat) : Dev :=
  if d.ctxState c ≠ 1 ∨ d.ctxEng c = d.spare then d.ceState 2 c else (d.s (Reg.CTX_W0_STATE c) 2).ceDone

/-- The armed channels bound to a context, as a mask. -/
def Dev.armedBind (d : Dev) (c : Nat) : Nat :=
  (maskBits 6 (d.ctxBind c)).foldl (fun a n => if d.on (Reg.PWM_CH_STAT_SAFE n) then a else a + 2 ^ n) 0

/-- STOP (R85): after the current run's output write. -/
def Dev.ceStop (d : Dev) (c : Nat) : Dev :=
  if d.ctxState c ≠ 2 ∧ d.ctxState c ≠ 3 then d.ceState 3 c
  else if d.armedBind c ≠ 0 then d.ceRefuse Err.CE_CTX_BOUND [c, d.armedBind c]
  else
    let x := d.ctx c
    if x.phase = .idle ∧ x.outDue = none then (d.s (Reg.CTX_W0_STATE c) 1).ceDone
    else (d.updCtx c (fun x => { x with stopReq := true })).ceDone

/-- UNLOAD (R85). -/
def Dev.ceUnload (d : Dev) (c : Nat) : Dev :=
  if d.ctxState c ≠ 1 ∧ d.ctxState c ≠ 4 then d.ceState 4 c
  else if d.armedBind c ≠ 0 then d.ceRefuse Err.CE_CTX_BOUND [c, d.armedBind c]
  else (d.ctxEmpty c).ceDone

/-- SHADOW (R85, R89). -/
def Dev.ceShadow (d : Dev) (c : Nat) : Dev :=
  let l := d.g (Reg.CTX_W0_SHADOW_OF c)
  if d.ctxState c ≠ 1 ∨ l = 0 ∨ d.ctxState l ≠ 2 then d.ceState 5 c
  else if d.g (Reg.CTX_W1_TRIG_SRC c) ≠ d.g (Reg.CTX_W1_TRIG_SRC l) ∨ d.g (Reg.CTX_W1_TRIG_CH c) ≠ d.g (Reg.CTX_W1_TRIG_CH l) ∨
      d.g (Reg.CTX_W1_TRIG_CMP c) ≠ d.g (Reg.CTX_W1_TRIG_CMP l) ∨ d.ctxDiv c ≠ d.ctxDiv l then d.ceRefuse Err.CE_ADM_PARAM [c, 1]
  else if d.g (Reg.CTX_W2_T_MIN c) ≠ d.g (Reg.CTX_W2_T_MIN l) then d.ceRefuse Err.CE_ADM_PARAM [c, 2]
  else ((d.s (Reg.CTX_W0_STATE c) 3).s (Reg.CTX_STAT_DIV_CNT c) (d.g (Reg.CTX_STAT_DIV_CNT l))).ceDone

/-- Whether a handover to a context may be armed: it is SHADOW of a context in RUN (R91). -/
def Dev.handoverOk (d : Dev) (i : Nat) : Bool :=
  let o := d.g (Reg.CTX_W0_SHADOW_OF i)
  d.ctxState i == 3 && o != 0 && d.ctxState o == 2

/-- A handover to a shadow is armed (R91). -/
def Dev.armHandover (d : Dev) (i : Nat) : Dev :=
  d.updCtx (d.g (Reg.CTX_W0_SHADOW_OF i)) (fun x => { x with handover := some i })

/-- HANDOVER (R85, R91). -/
def Dev.ceHandover (d : Dev) (i : Nat) : Dev :=
  if d.ctxState i ≠ 3 then d.ceState 6 i
  else if d.handoverOk i then (d.armHandover i).ceDone
  else d.ceRefuse Err.CE_HO_BAD [d.g (Reg.CTX_W0_SHADOW_OF i), i]

/-- A bank becomes active (R87): for triggers of later ticks by a command, at once by a Bell. -/
def Dev.bankSwap (d : Dev) (c b : Nat) (bell : Bool) : Dev :=
  let old := d.g (Reg.CTX_W0_BANK c)
  (d.s (Reg.CTX_W0_BANK c) b).updCtx c (fun x => { x with bankWas := if bell then none else some (old, d.tick) })

/-- BANK (R85). -/
def Dev.ceBank (d : Dev) (c arg : Nat) : Dev :=
  let st := d.ctxState c
  if st = 1 ∨ st = 2 ∨ st = 3 then (d.bankSwap c (arg % 2) false).ceDone else d.ceState 7 c

/-- CLEAR (R84, R85). -/
def Dev.ceClear (d : Dev) (c : Nat) : Dev :=
  if d.ctxState c = 4 then (((d.s (Reg.CTX_W0_STATE c) 1).s (Reg.CTX_STAT_CONSEC_LATE c) 0).ctxUnfault c).ceDone else d.ceState 8 c

/-- DIVSYNC (R79): the next accepted trigger runs. -/
def Dev.ceDivsync (d : Dev) (c : Nat) : Dev :=
  let st := d.ctxState c
  if st = 2 ∨ st = 3 then (d.s (Reg.CTX_STAT_DIV_CNT c) (d.ctxDiv c - 1)).ceDone else d.ceState 9 c

/-- The shortfall of a context's evacuation gap (R98). -/
def Dev.gapShort (d : Dev) (c : Nat) : Nat :=
  (d.g (Reg.CTX_W6_STATE_LEN c) + 1) / 2 + 4 + d.g (Reg.CTX_W3_OUTPHASE c) - d.admP c

/-- EVACUATE (R98): refused, or every context moves: one that does not run at once, the others at their next output write. -/
def Dev.ceEvacuate (d : Dev) (e c : Nat) : Dev :=
  if 11 < e then d.ceRefuse Err.CE_ADM_PARAM [c, Config.recordNumber Err.CE_ADM_PARAM 9]
  else if e = d.spare then d.ceState 10 c
  else
    let l := d.engCtxs e
    let refuse (x short : Nat) : Dev :=
      let d := ((d.s Reg.CE_ADM_INFO_ENG e).s Reg.CE_ADM_INFO_CTX x).s Reg.CE_ADM_INFO_SHORT (min short 0xFFFFF)
      d.ceRefuse Err.CE_ADM_MIG [e, x, short]
    match l.find? (fun x => d.gapShort x != 0) with
    | some x => refuse x (d.gapShort x)
    | none =>
      let clash := l.find? (fun x =>
        let others := (d.occupants d.spare).filter (fun y => y != x)
        others.any (fun y => Region.meets (d.progRegion x) (d.progRegion y) ||
          (d.dataRegions x).any (fun r => (d.dataRegions y).any (fun q => Region.meets r q))))
      if d.spareBusy e ≠ 0 ∨ d.on (Reg.ENG_STAT_FAULT e) then refuse 0 0
      else match clash with
        | some x => refuse x 0
        | none =>
          let d := d.each l (fun d x =>
            if d.ctxState x = 2 ∨ d.ctxState x = 3 then d.updCtx x (fun y => { y with evac := true })
            else ((d.updCtx x (fun y => { y with migFrom := d.ctxState x })).copyCtx x e d.spare).ctxMoved x)
          d.ceBegin ⟨10, e, c, 0⟩

/-- EVACUATE_COMPLETE: the last context stands on the spare (R98). -/
def execEvacuateComplete (s : State) := s.run fun d =>
  match d.ce.busy with
  | some b =>
    if b.op = 10 ∧ d.engCtxs b.eng = [] then
      (d.when (ctxNumbers.any (fun c => (d.ctx c).moved)) (fun d => d.s Reg.CE_MIG_STAT_ABSORBED 1)).ceDone
    else d
  | none => d

/-- RESET_ENG (R23, R85): the bound channels go safe, then the engine is reset. -/
def Dev.ceResetEng (d : Dev) (e c : Nat) : Dev :=
  if 11 < e then d.ceRefuse Err.CE_ADM_PARAM [c, Config.recordNumber Err.CE_ADM_PARAM 9]
  else ((d.forceMask (d.engBind e) 5 (2000 + e)).engReset e).ceBegin ⟨11, e, c, 0⟩

/-- RESET_ENG_COMPLETE: the reset and its closing signature test end; FAULT clears when the test passes (R97). -/
def execResetEngComplete (pass : Bool) (s : State) := s.run fun d =>
  match d.ce.busy with
  | some b =>
    if b.op = 11 then
      let d := ((d.engReset b.eng).forceOff 5 (2000 + b.eng)).ceDone
      if pass then (d.s (Reg.ENG_STAT_FAULT b.eng) 0).s (Reg.ENG_STAT_FAULT_SRC b.eng) 0 else d.engFail b.eng 4
    else d
  | none => d

/-- A CE command, ignored while BUSY (R85). -/
def Dev.ceOp (d : Dev) (op eng arg c : Nat) : Dev :=
  if d.on Reg.CE_CMD_RESULT_BUSY then d
  else match op with
    | 1 => d.ceLoad c eng
    | 2 => d.ceStart c
    | 3 => d.ceStop c
    | 4 => d.ceUnload c
    | 5 => d.ceShadow c
    | 6 => d.ceHandover c
    | 7 => d.ceBank c arg
    | 8 => d.ceClear c
    | 9 => d.ceDivsync c
    | 10 => d.ceEvacuate eng c
    | 11 => d.ceResetEng eng c
    | _ => d.ceRefuse Err.CE_ADM_PARAM [c, Config.recordNumber Err.CE_ADM_PARAM 10]

/-- A write of CE_CMD. -/
def Dev.ceCmd (d : Dev) (v : Nat) : Dev := d.ceOp (bits v 31 28) (bits v 27 24) (bits v 15 8) (v % 256)

/-- CE_LOAD. -/
def execCeLoad (c eng : Nat) (s : State) := s.run fun d => d.ceOp 1 (eng % 16) 0 (c % 256)
/-- CE_START. -/
def execCeStart (c : Nat) (s : State) := s.run fun d => d.ceOp 2 0 0 (c % 256)
/-- CE_STOP. -/
def execCeStop (c : Nat) (s : State) := s.run fun d => d.ceOp 3 0 0 (c % 256)
/-- CE_UNLOAD. -/
def execCeUnload (c : Nat) (s : State) := s.run fun d => d.ceOp 4 0 0 (c % 256)
/-- CE_SHADOW. -/
def execCeShadow (c : Nat) (s : State) := s.run fun d => d.ceOp 5 0 0 (c % 256)
/-- CE_HANDOVER. -/
def execCeHandover (c : Nat) (s : State) := s.run fun d => d.ceOp 6 0 0 (c % 256)
/-- CE_BANK. -/
def execCeBank (c arg : Nat) (s : State) := s.run fun d => d.ceOp 7 0 arg (c % 256)
/-- CE_CLEAR. -/
def execCeClear (c : Nat) (s : State) := s.run fun d => d.ceOp 8 0 0 (c % 256)
/-- DIVSYNC. -/
def execDivsync (c : Nat) (s : State) := s.run fun d => d.ceOp 9 0 0 (c % 256)
/-- EVACUATE. -/
def execEvacuate (eng : Nat) (s : State) := s.run fun d => d.ceOp 10 (eng % 16) 0 0
/-- RESET_ENG. -/
def execResetEng (eng : Nat) (s : State) := s.run fun d => d.ceOp 11 (eng % 16) 0 0

/-! ## Engine memory writes (R88) -/

/-- Whether a context lets a data word of its regions be written: STOPPED, or the word in its inactive bank. -/
def Dev.dmFree (d : Dev) (c a : Nat) : Bool :=
  let base := if d.g (Reg.CTX_W0_BANK c) = 0 then d.g (Reg.CTX_W7_BANK1_BASE c) else d.g (Reg.CTX_W7_BANK0_BASE c)
  d.ctxState c == 1 || inSpan a base (d.g (Reg.CTX_W4_BANK_LEN c)) || !d.mayRead c a

/-- A 32-bit write to engine memory at its bus address (R31, R88). -/
def Dev.engMemWrite (d : Dev) (a v : Nat) : Dev :=
  let e := (a - 0x20000000) / 0x40000
  let o := (a - 0x20000000) % 0x40000
  if o < 0x20000 then
    let w := o / 8
    if (d.occupants e).any (fun c => inSpan w (d.progRegion c).1 (d.progRegion c).2) then d.raise Err.CE_WR_GUARD [a]
    else
      let old := d.pmWord e w
      d.setPm e w (if o % 8 = 0 then old / 2 ^ 32 * 2 ^ 32 + v % 2 ^ 32 else v % 65536 * 2 ^ 32 + old % 2 ^ 32)
  else
    let w := (o - 0x20000) / 4
    if (d.occupants e).all (fun c => d.dmFree c w) then d.setDm e w (v % 2 ^ 24) else d.raise Err.CE_WR_GUARD [a]

/-- ENGINE_MEMORY_WRITE: a supervisor write to an aligned word of engine program or data memory. -/
def execEngineMemoryWrite (a v : Nat) (s : State) := s.run fun d =>
  let o := (a - 0x20000000) % 0x40000
  if 0x20000000 ≤ a ∧ a < 0x20300000 ∧ a % 4 = 0 ∧ (o < 0x10000 ∨ 0x20000 ≤ o) then d.engMemWrite a v else d

/-! ## Setpoint conditioners (R103, R146) -/

/-- The source value of a conditioner and whether it is valid; `none` while it is off. -/
def Dev.spcSource (d : Dev) (j : Nat) : Option (Int × Bool) :=
  let i := d.g (Reg.SPC_CFG_INDEX j)
  match d.g (Reg.SPC_CFG_KIND j) with
  | 1 => some (d.sg (Reg.SAR_RES_VALUE (16 + i % 16)), !d.on (Reg.SAR_RES_INVALID (16 + i % 16)))
  | 2 => some (d.sg (Reg.PLS_RES_VALUE (i % 4)), !d.on (Reg.PLS_RES_INVALID (i % 4)))
  | 3 => some (toInt 24 (d.shareWord (i / 64) (i % 64)), true)
  | 4 => some (d.sg (Reg.SPC_HOST_VALUE j), true)
  | _ => none

/-- One conditioner's update (R103). The rounding of SCALE × x is open (log 2). -/
def Dev.spcUpdate (d : Dev) (j : Nat) : Dev :=
  match d.spcSource j with
  | none => d
  | some (x, ok) =>
    if ok then
      let q := d.openDiv (d.sg (Reg.SPC_SCALE_SCALE j) * x) (2 ^ 24)
      let d := q.2
      let y := satInt 24 (q.1 + d.sg (Reg.SPC_OFS_VALUE j))
      let db : Int := d.g (Reg.SPC_DB_DB j)
      let inDb := decide ((y.natAbs : Int) ≤ db)
      let y := if inDb then 0 else if 0 < y then y - db else y + db
      let out := d.sg (Reg.SPC_OUT_VALUE j)
      let rate := d.sg (Reg.SPC_RATE_VALUE j)
      let r : Int := rate.natAbs
      let z := if rate = 0 then y else out + clampInt (-r) r (y - out)
      let d := (d.s (Reg.SPC_OUT_VALUE j) (ofInt 24 z)).s (Reg.SPC_STAT_INVALID j) 0
      (d.s (Reg.SPC_STAT_LIMITING j) (b2n (z != y))).s (Reg.SPC_STAT_IN_DB j) (b2n inDb)
    else if d.on (Reg.SPC_STAT_INVALID j) then d
    else (d.s (Reg.SPC_STAT_INVALID j) 1).raise Err.CE_SPC_INVALID [j]

/-- SPC_UPDATE: every 10 µs each conditioner takes its source value. -/
def execSpcUpdate (s : State) := s.run fun d => d.each (List.range 16) Dev.spcUpdate

/-! ## Writes of the CE block -/

/-- A write to a context's entry word (R77): RWL(E) fields only while EMPTY, RWL(S) fields only while EMPTY or STOPPED. -/
def Dev.entryWrite (d : Dev) (off v : Nat) : Dev :=
  let c := (off - 0x2000) / 0x20
  let w := (off - 0x2000) % 0x20 / 4
  let st := d.ctxState c
  let onlyE (f : FieldSpec) : Bool := decide (2 ≤ w) || (w == 0 && decide (18 ≤ f.lo)) || (w == 1 && decide (16 ≤ f.lo))
  let locked (f : FieldSpec) : Bool := f.acc == .rwl && (if onlyE f then st != 0 else decide (1 < st))
  if c = 0 then d
  else d.regStore (0x30030000 + off) (0x30030000 + off) 0x30030000 v locked Err.CE_RWL_REFUSED

/-- A write to a binding of the selected context (R78). -/
def Dev.bindWrite (d : Dev) (off v : Nat) : Dev :=
  let c := d.g Reg.CTX_SEL_CTX
  let w := v &&& 0xF000FFFF
  let ok := if off < 0x300 then d.inSourceOk w else d.outTargetOk w
  let key := 0x100000000 + 0x1000 * c + off
  if (1 < d.ctxState c ∧ d.word key ≠ w) ∨ !ok then d.raise Err.CE_RWL_REFUSED [off]
  else if 1 < d.ctxState c then d
  else d.setWord key w

/-- A write of a generator's CFG (R101, R147): RUN = 1 starts it at the next run; RUN = 0 or TYPE = 0 returns the output to 0. -/
def Dev.genCfgWrite (d : Dev) (off v : Nat) : Dev :=
  let k := (off - 0x4000) / 0x20
  let a := 0x30030000 + off
  let d := d.regStore a a 0x30030000 v unlocked Err.CE_RWL_REFUSED
  (d.updGen k (fun g => { g with wait := true, k := 0, phase := 0 })).s (Reg.GEN_OUT_VALUE k) 0

/-- Whether SPARE may be stored: the engine named and the present spare hold no context other than shadows. -/
def Dev.spareFree (d : Dev) (e : Nat) : Bool :=
  let free (e : Nat) := (d.occupants e).all (fun c => d.ctxState c == 3)
  (decide (11 < e) || free e) && (decide (11 < d.spare) || free d.spare)

/-- A register write to the CE block by its offset. -/
def Dev.ceWrite (d : Dev) (off v : Nat) : Dev :=
  let a := 0x30030000 + off
  let st (locked : FieldSpec → Bool) := d.regStore a a 0x30030000 v locked Err.CE_RWL_REFUSED
  if off = 0 then
    if 12 ≤ v % 16 ∧ v % 16 ≤ 14 then
      d.regStore a a 0x30030000 (v / 16 * 16 + d.spare) unlocked Err.CE_RWL_REFUSED
    else st (lockIf (!d.spareFree (v % 16)))
  else if off = 4 then d.ceCmd v
  else if 0x104 ≤ off ∧ off < 0x200 then
    d.regStore (0x100000000 + 0x1000 * d.g Reg.CTX_SEL_CTX + off) a 0x30030000 v unlocked Err.CE_RWL_REFUSED
  else if 0x200 ≤ off ∧ off < 0x380 then d.bindWrite off v
  else if 0x2000 ≤ off ∧ off < 0x4000 then d.entryWrite off v
  else if 0x4000 ≤ off ∧ off < 0x4080 ∧ off % 0x20 = 0 then d.genCfgWrite off v
  else if 0x4100 ≤ off ∧ off < 0x4300 then
    let k := (off - 0x4100) / 16
    let was := d.on (Reg.RES_CFG_EN k)
    let ex := d.on (Reg.RES_STAT_EXCEED k)
    let d := st unlocked
    let d := if !was ∧ d.on (Reg.RES_CFG_EN k) then
        { (d.s (Reg.RES_STAT_MAXR k) 0) with ce := { d.ce with res := updAt d.ce.res k (fun _ => {}) } } else d
    if ex ∧ !d.on (Reg.RES_STAT_EXCEED k) then d.s (Reg.RES_STAT_MAXR k) 0 else d
  else st unlocked

end Sys2Proof.Machine
end

