-- ==== Sys2Proof/Machine/Thermal.lean ====
section
/-! DEFINITION. Machine/Thermal.lean: the die sensors with their cross-check, derating, the thermal limits and the thermal latch
(R480 to R487, R498). -/

namespace Sys2Proof.Machine

/-- One bit of a register field set to a value. -/
def Dev.sBit (d : Dev) (f : RF) (i : Nat) (b : Bool) : Dev :=
  if b then d.s f (d.g f ||| 2 ^ i) else if (d.g f).testBit i then d.s f (d.g f - 2 ^ i) else d

/-- One bit of a register field. -/
def Dev.gBit (d : Dev) (f : RF) (i : Nat) : Bool := (d.g f).testBit i

/-- The neighbours of a die sensor (R480). -/
def tsNeighbours (s : Nat) : List Nat :=
  match s with
  | 0 => [1, 5, 7] | 1 => [0, 2, 3] | 2 => [1, 3, 4] | 3 => [1, 2, 6] | 4 => [2, 5] | 5 => [0, 4, 6]
  | 6 => [3, 5, 7] | 7 => [0, 6] | 8 => [9, 11] | 9 => [8, 10] | 10 => [9, 11] | 11 => [8, 10]
  | _ => []

/-- The sensors of a die: 0 the control die, 1 the HV die. -/
def dieSensors (die : Nat) : List Nat := if die = 0 then List.range 8 else [8, 9, 10, 11]

/-- A sensor is valid while it is neither BROKEN nor STALE (R481) and has been read. -/
def Dev.tsValid (d : Dev) (s : Nat) : Bool :=
  !d.on (Reg.TS_VAL_BROKEN s) && !d.on (Reg.TS_VAL_STALE s) && d.therm.hasRead.getD s false

/-- A sensor's latest raw reading in 1/16 °C. -/
def Dev.tsRaw (d : Dev) (s : Nat) : Int := d.sg (Reg.TS_RAW_TEMP s)

/-- The largest of a list of temperatures. -/
def maxTemp (l : List Int) : Option Int := l.foldl (fun m x => some (match m with | none => x | some y => max x y)) none

/-- The smallest of a list of temperatures. -/
def minTemp (l : List Int) : Option Int := l.foldl (fun m x => some (match m with | none => x | some y => min x y)) none

/-- The cross-check of a new reading (R483); where the mean is no whole number its value in the record is open (log 2). -/
def Dev.tsCheck (d : Dev) (s : Nat) : Dev :=
  let ns := (tsNeighbours s).filter d.tsValid
  let rs := ns.map d.tsRaw
  let d := d.s (Reg.TS_VAL_NOCHK s) (b2n (decide (ns.length < 2)))
  if ns.length < 2 ∨ d.on (Reg.TS_VAL_BROKEN s) then d
  else
    let k : Int := ns.length
    let sum := rs.foldl (· + ·) 0
    let spread := (maxTemp rs).getD 0 - (minTemp rs).getD 0
    if 64 < spread then d
    else
      let far := decide (128 * k < ((d.tsRaw s) * k - sum).natAbs)
      let n := if far then d.therm.dev.getD s 0 + 1 else 0
      let d := { d with therm := { d.therm with dev := updAt d.therm.dev s (fun _ => n) } }
      if 3 ≤ n then
        let m := d.openDiv sum k
        ((m.2.s (Reg.TS_VAL_BROKEN s) 1).sBit Reg.THM_STAT_BROKEN s true).raise Err.THM_SENSOR_BROKEN [s, w32 (d.tsRaw s), w32 m.1]
      else d

/-- What a sensor reports (R483): its reading, or for a broken one the neighbours' mean, or the highest valid reading of its die,
plus its offset. -/
def Dev.tsReport (d : Dev) (s : Nat) : Dev :=
  if d.on (Reg.TS_VAL_BROKEN s) then
    let rs := ((tsNeighbours s).filter d.tsValid).map d.tsRaw
    let die := ((dieSensors (s / 8)).filter d.tsValid).map d.tsRaw
    let ofs := d.sg (Reg.TS_OFS_TEMP s)
    if rs = [] then
      match maxTemp die with
      | some t => d.s (Reg.TS_VAL_TEMP s) (ofInt 16 (t + ofs))
      | none => d
    else
      let m := d.openDiv (rs.foldl (· + ·) 0) rs.length
      m.2.s (Reg.TS_VAL_TEMP s) (ofInt 16 (m.1 + ofs))
  else d.s (Reg.TS_VAL_TEMP s) (ofInt 16 (d.tsRaw s))

/-- The maximum of a die in this reading (R481): its valid sensors, and the substituted readings of its broken ones. -/
def Dev.dieMax (d : Dev) (die : Nat) : Option Int :=
  let l := dieSensors die
  if l.any d.tsValid then
    maxTemp ((l.filter (fun s => d.tsValid s || (d.on (Reg.TS_VAL_BROKEN s) && !d.on (Reg.TS_VAL_STALE s)))).map
      (fun s => d.sg (Reg.TS_VAL_TEMP s)))
  else none

/-- The filtered temperature of a die: the mean of the last four maxima, 125 °C without a valid sensor (R481, R483). -/
def Dev.dieFilter (d : Dev) (maxima : List Int) (any : Bool) : Int × Dev :=
  if any then d.openDiv (maxima.foldl (· + ·) 0) maxima.length else (2000, d)

/-- THERM_LATCH is set (R487). -/
def Dev.thermLatch (d : Dev) (s : Nat) : Dev :=
  let ctx := [s, w32 (d.tsRaw s)]
  let d := (d.s Reg.THM_STAT_LATCH 1).raise Err.THM_LATCH ctx
  let d := { d with therm := { d.therm with latchCtx := ctx } }
  let d := d.each (List.range 6) (fun d c => if d.on (Reg.DCL_CH_CFG_SL c) then d.brakeOn c else d)
  (d.forceMask 63 7 1).auxThermStop

/-- The raw counts of a reading at 140 °C and 150 °C (R487); `seen`: the control die has received it. -/
def Dev.tsHot (d : Dev) (s : Nat) (raw : Int) (seen : Bool) : Dev :=
  let t := d.therm
  let t := if seen then { t with hot := updAt t.hot s (fun n => if 2240 ≤ raw then n + 1 else 0) } else t
  { d with therm := { t with hot150 := updAt t.hot150 s (fun n => if 2400 ≤ raw then n + 1 else 0) } }

/-- One sensor's part of a reading: the raw value, the cross-check, the reported value and the latch (R483, R487). -/
def Dev.tsRead (d : Dev) (s : Nat) : Dev :=
  let d := (d.tsCheck s).tsReport s
  if 3 ≤ d.therm.hot.getD s 0 && d.tsValid s && !d.on Reg.THM_STAT_LATCH then d.thermLatch s else d

/-- The twelve sensors have converted, with raw readings in 1/16 °C (R481, R483, R487). `lost` names those of TS8 to TS11 whose reading
a bad frame has lost. -/
def Dev.temperatures (d : Dev) (raws : List Int) (lost : Nat) : Dev :=
  let away (i : Nat) : Bool := decide (8 ≤ i) && (d.sys.d2dLost || lost.testBit i)
  let raw (i : Nat) : Int := satInt 16 (raws.getD i 0)
  let all := List.range 12
  let d := d.each all (fun d i => (d.tsHot i (raw i) (!away i)).s (Reg.TS_VAL_STALE i) (b2n (decide (8 ≤ i) && d.sys.d2dLost)))
  let d := d.s Reg.THM_STAT_HV_STALE (b2n d.sys.d2dLost)
  let d := d.each all (fun d i =>
    if away i then d
    else { (d.s (Reg.TS_RAW_TEMP i) (ofInt 16 (raw i))) with therm := { d.therm with hasRead := updAt d.therm.hasRead i (fun _ => true) } })
  let d := d.each (all.filter (fun i => !away i)) Dev.tsRead
  -- the HV die's own limit
  let hv : List Nat := [8, 9, 10, 11]
  let hold := if d.therm.hvHold then hv.any (fun i => decide (2240 ≤ raw i)) else hv.any (fun i => decide (2 ≤ d.therm.hot150.getD i 0))
  let d := { d with therm := { d.therm with hvHold := hold } }
  -- the filtered die temperatures
  let m0 := d.dieMax 0
  let m1 := d.dieMax 1
  let push (l : List Int) (m : Option Int) : List Int := match m with | some x => (x :: l).take 4 | none => l
  let d := { d with therm := { d.therm with maxCd := push d.therm.maxCd m0, maxHv := push d.therm.maxHv m1 } }
  let a := d.dieFilter d.therm.maxCd m0.isSome
  let b := a.2.dieFilter a.2.therm.maxHv m1.isSome
  ((b.2.s Reg.THM_TJ_T_CD (ofInt 16 a.1)).s Reg.THM_TJ_T_HV (ofInt 16 b.1)).hbsApply

/-- T_CD in 1/16 °C. -/
def Dev.tCd (d : Dev) : Int := d.sg Reg.THM_TJ_T_CD

/-- The junction temperature (R481). -/
def Dev.tJ (d : Dev) : Int := max d.tCd (d.sg Reg.THM_TJ_T_HV)

/-! ## Derating -/

/-- The derating curve (R484) in unsigned Q1.15, rounded to nearest as the example of R486 shows (log 40). -/
def derate (t dr mx : Int) : Nat :=
  if t ≤ dr then 0x8000
  else if mx ≤ t then 0
  else ((2 * (mx - t) * 0x8000 + (mx - dr)) / (2 * (mx - dr))).toNat

/-- The external factor of a channel, and whether its input has reached EXT_MAX (R484, R486). -/
def Dev.extFactor (d : Dev) (c : Nat) : Nat :=
  if d.on (Reg.THM_CH_TCFG_EXT_EN c) then
    let n := d.g (Reg.THM_CH_TCFG_TIN c)
    if d.on (Reg.TIN_VAL_INVALID n) then min (d.therm.fExt.getD c 0x8000) 0x4000
    else derate (d.sg (Reg.TIN_VAL_TEMP n)) (d.sg (Reg.THM_CH_TTHR_EXT_DR c)) (d.sg (Reg.THM_CH_TTHR_EXT_MAX c))
  else 0x8000

/-- The external limit of a channel after an update: entered at EXT_MAX, left 5 °C below (R486). -/
def Dev.extHard (d : Dev) (c : Nat) : Bool :=
  let was := d.therm.tinHard.getD c false
  let n := d.g (Reg.THM_CH_TCFG_TIN c)
  if d.on (Reg.THM_CH_TCFG_EXT_EN c) && d.on (Reg.TIN_CFG_EN n) then
    if d.on (Reg.TIN_VAL_INVALID n) then was
    else
      let t := d.sg (Reg.TIN_VAL_TEMP n)
      let mx := d.sg (Reg.THM_CH_TTHR_EXT_MAX c)
      if was then !decide (t ≤ mx - 80) else decide (mx ≤ t)
  else false

/-- The factor of a channel that is at a limit: 0, or F_SL until a suspended-load channel has reached HELD (R486). -/
def Dev.hardApp (d : Dev) (c : Nat) : Nat :=
  if d.on (Reg.DCL_CH_CFG_SL c) && d.g (Reg.DCL_CH_STAT_SLSTATE c) != 3 then d.g (Reg.THM_CH_TCFG_F_SL c) else 0

/-- The device with a channel's thermal flags changed. -/
def Dev.setRestoring (d : Dev) (c : Nat) (b : Bool) : Dev :=
  { d with therm := { d.therm with restoring := updAt d.therm.restoring c (fun _ => b) } }

/-- F_APP moves (R485): it falls at once; it rises in AUTO, or after a restore decision, by RISE; else it holds and the rise is
proposed. -/
def Dev.moveApp (d : Dev) (c fc : Nat) : Dev :=
  let app := d.g (Reg.THM_CH_DER_F_APP c)
  let done (d : Dev) : Dev := (d.sBit Reg.THM_STAT_PEND c false).setRestoring c false
  if d.gBit Reg.THM_STAT_CH_HARD c then (d.s (Reg.THM_CH_DER_F_APP c) (d.hardApp c)).setRestoring c false
  else if fc < app then d.s (Reg.THM_CH_DER_F_APP c) fc
  else if d.assistMode 5 = 0 ∧ !d.gBit Reg.THM_STAT_PEND c ∨ d.therm.restoring.getD c false then
    let next := min fc (app + max 1 (d.g Reg.THM_CFG_RISE))
    let d := d.s (Reg.THM_CH_DER_F_APP c) next
    if next = fc then done d else d
  else if app + 512 ≤ fc ∧ !d.gBit Reg.THM_STAT_PEND c then (d.sBit Reg.THM_STAT_PEND c true).propose 5 c 1
  else d

/-- One channel's update (R484 to R486). THM_DERATE's source, 0 the die or 1 the external input, is shown by an open number (log 33). -/
def Dev.derateCh (d : Dev) (c : Nat) (dieHard : Bool) : Dev :=
  let fe := d.extFactor c
  let fd := derate d.tJ 1840 2000
  let eh := d.extHard c
  let inval := d.on (Reg.TIN_VAL_INVALID (d.g (Reg.THM_CH_TCFG_TIN c)))
  let reached := decide (2000 ≤ d.tJ) || (d.on (Reg.THM_CH_TCFG_EXT_EN c) && !inval && fe == 0)
  let raw := min fd fe
  let fc := if d.on (Reg.DCL_CH_CFG_SL c) && !reached then max raw (d.g (Reg.THM_CH_TCFG_F_SL c)) else raw
  let wasHard := d.gBit Reg.THM_STAT_CH_HARD c
  let hard := dieHard || eh
  let newExt := eh && !d.therm.tinHard.getD c false
  let d := { d with therm := { d.therm with fExt := updAt d.therm.fExt c (fun _ => fe),
                                            tinHard := updAt d.therm.tinHard c (fun _ => eh) } }
  let d := (d.s (Reg.THM_CH_DER_F_CALC c) fc).sBit Reg.THM_STAT_CH_HARD c hard
  let d := d.when newExt (fun d => d.raise Err.THM_HARD [c, w32 (d.sg (Reg.TIN_VAL_TEMP (d.g (Reg.THM_CH_TCFG_TIN c))))])
  let d := d.when (hard && !wasHard && d.on (Reg.DCL_CH_CFG_SL c)) (fun d =>
    (d.slBrake c 5).when (!newExt) (fun d => d.raise Err.THM_HARD [c, w32 d.tJ]))
  let before := d.g (Reg.THM_CH_DER_F_APP c)
  let d := d.moveApp c fc
  let app := d.g (Reg.THM_CH_DER_F_APP c)
  d.when (before == 0x8000 && decide (app < 0x8000)) (fun d => d.raise Err.THM_DERATE [c, app, Config.recordNumber Err.THM_DERATE (b2n (decide (fe < fd)))])

/-- DERATING_UPDATE: every 10 µs the factors and limits of every channel (R484 to R486). The record of the die limit names
the die, 0 control or 1 HV, by an open number (log 33). -/
def execDeratingUpdate (s : State) := s.run fun d =>
  let was := d.on Reg.THM_STAT_DIE_HARD
  let hard := if was then !decide (d.tJ ≤ 1920) else decide (2000 ≤ d.tJ)
  let d := d.s Reg.THM_STAT_DIE_HARD (b2n hard)
  let d := d.when (hard && !was) (fun d => d.raise Err.THM_HARD [Config.recordNumber Err.THM_HARD (b2n (decide (d.tCd < d.tJ))), w32 d.tJ])
  d.each (List.range 6) (fun d c => d.derateCh c hard)

/-- CLEAR_BROKEN: BROKEN and the counts of the named sensors are cleared (R483). -/
def Dev.clearBroken (d : Dev) (mask : Nat) : Dev :=
  d.each (maskBits 12 mask) (fun d s =>
    { ((d.s (Reg.TS_VAL_BROKEN s) 0).sBit Reg.THM_STAT_BROKEN s false) with
      therm := { d.therm with dev := updAt d.therm.dev s (fun _ => 0) } })

/-- THM_CMD CLEAR_BROKEN. -/
def execClearBroken (mask : Nat) (s : State) := s.run fun d => d.clearBroken mask

/-- RESTORE of the named channels: F_APP may rise to F_CALC (R485); `who` is who decided (R434). -/
def Dev.thmRestore (d : Dev) (mask who : Nat) : Dev :=
  d.each (maskBits 6 mask) (fun d c =>
    if d.gBit Reg.THM_STAT_PEND c then (d.decided 5 c 1 who).setRestoring c true else d)

/-- THM_CMD RESTORE. -/
def execRestore (mask : Nat) (s : State) := s.run fun d => d.thmRestore mask 0

/-! ## Writes -/

/-- A write to a register of the THM block (R498). -/
def Dev.thmWrite (d : Dev) (off v : Nat) : Dev :=
  let a := 0x30010000 + off
  let st (lock : Bool) := d.regStore a a 0x30010000 v (lockIf lock) Err.THM_RWL_REFUSED
  if off = 8 then
    match v / 2 ^ 28 with
    | 1 => d.clearBroken (v % 4096)
    | 2 => d.thmRestore (v % 64) 0
    | _ => d
  else if 0x100 ≤ off ∧ off < 0x180 then
    let n := (off - 0x100) / 16
    let was := d.on (Reg.TIN_CFG_EN n)
    let d := st was
    d.when (off % 16 == 0 && !was && d.on (Reg.TIN_CFG_EN n)) (fun d =>
      { d with therm := { d.therm with tinLast := updAt d.therm.tinLast n (fun _ => d.tick) } })
  else if 0x200 ≤ off ∧ off < 0x260 then
    let c := (off - 0x200) / 16
    let safe := d.on (Reg.PWM_CH_STAT_SAFE c)
    if off % 16 = 4 ∧ safe ∧ toInt 16 (v / 65536) ≤ toInt 16 v then d.raise Err.THM_CFG_BAD [c] else st (!safe)
  else st false

end Sys2Proof.Machine
end

