-- ==== Sys2Proof/Machine/Memory.lean ====
section
/-! DEFINITION. Machine/Memory.lean: protected SRAM and its scrubber (R449, R450), the LPDDR4 and flash controllers (R451 to R453),
and what the recorder's streams take (R454 to R457). -/

namespace Sys2Proof.Machine

/-! ## Protected SRAM (R449, R450) -/

/-- The words of each protected region. The scheduler and the context table share 128 KB, of which the model protects the words that
it knows: 256 Bell entries of 5 words, and 256 context entries of 8 (log 43). -/
def eccWords (r : Nat) : Nat := [0x80000, 0x40000, 1280, 2048, 0x6000, 0x6000].getD r 1

/-- The bus address of a word of a region; the scheduler's entries have none (log 43). -/
def eccAddr (r i : Nat) : Option Nat :=
  match r with
  | 0 => some (0x10000000 + 4 * i)
  | 1 => some (0x18000000 + 4 * i)
  | 3 => some (0x30032000 + 4 * i)
  | 4 => some (0x30050000 + 4 * i)
  | 5 => some (0x30140000 + 4 * i)
  | _ => none

/-- The descriptor or entries of a pattern table hold a word of its channel's memory (R163). -/
def Dev.patHolds (d : Dev) (n t w : Nat) : Bool :=
  w / 2 == t || inSpan w (d.patBase n t) (d.patCount n t)

/-- An uncorrectable word of pattern memory (R449): every table that holds it loses VALID, and a channel in pattern mode on such a
table enters the safe state. -/
def Dev.patBad (d : Dev) (n w : Nat) : Dev :=
  let hit := (List.range 16).filter (fun t => d.patHolds n t w)
  let d := hit.foldl (fun d t => d.s (Reg.PWM_PAT_STAT_VALID n) (d.g (Reg.PWM_PAT_STAT_VALID n) &&& (65535 - 2 ^ t))) d
  if d.on (Reg.PWM_CH_STAT_MODE n) && hit.contains (d.pch n).tbl then d.makeSafe n else d

/-- An uncorrectable word of a CAN buffer (R449): its element is discarded, and counts as a lost frame of its object or entry. -/
def Dev.canBad (d : Dev) (n ofs : Nat) : Dev :=
  if ofs < 0x1400 then (d.s (Reg.CAN_OBJ_STAT_NEW n (ofs / 80)) 0).s (Reg.CAN_OBJ_STAT_LOST n (ofs / 80)) 1
  else if ofs < 0x2800 then
    let e := (ofs - 0x1400) / 640
    let l := d.g (Reg.CAN_HP_STAT_LEVEL n e)
    if l = 0 then d else (d.s (Reg.CAN_HP_STAT_LEVEL n e) (l - 1)).inc (Reg.CAN_HP_STAT_OVR n e)
  else
    let l := d.g (Reg.CAN_FIFO_LEVEL n)
    if ofs < 0x5000 ∧ l ≠ 0 then (d.s (Reg.CAN_FIFO_LEVEL n) (l - 1)).inc (Reg.CAN_FIFO_OVR n) else d

/-- The effect of an uncorrectable word on its requester, by region (R449). -/
def Dev.eccEffect (d : Dev) (r i : Nat) : Dev :=
  match r with
  | 2 =>
    match d.tb.bells.find? (fun b => b.idx == i / 5) with
    | some b =>
      let d := { d with tb := { d.tb with bells := d.tb.bells.filter (fun x => x.idx != b.idx) } }
      d.raise Err.TB_ACTION_FAIL [b.gen % 256 * 256 + b.idx, b.w2 % 65536, bits b.w2 23 16]
    | none => d
  | 3 => if i / 8 ≠ 0 ∧ d.ctxState (i / 8) ≠ 0 then d.ctxFault (i / 8) 6 else d
  | 4 => d.patBad (i / 4096) (i % 4096)
  | 5 => d.canBad (i / 6144) (i % 6144 * 4)
  | _ => d

/-- The address word of a record about a region's word; a free value where the word has no bus address (log 2). -/
def Dev.eccShow (d : Dev) (r i : Nat) : Nat × Dev :=
  match eccAddr r i with
  | some a => (a, d)
  | none => (d.freeVal, d.tookFree)

/-- A word of a region is read with an error: 1 correctable, 2 uncorrectable (R449). Which number a master has is open (log 2). -/
def Dev.eccRead (d : Dev) (r i outcome : Nat) : Dev :=
  let a := d.eccShow r i
  match outcome with
  | 1 => (a.2.inc Reg.MEM_ECC_CORR).raise Err.MEM_ECC_CORR [a.1]
  | 2 =>
    let d := (a.2.inc Reg.MEM_ECC_UNCORR).s Reg.MEM_ECC_ADDR_ADDR a.1
    let d := (d.raise Err.MEM_ECC_UNCORR [a.1, r, d.freeVal]).tookFree
    let d := if r ≤ 1 ∧ !d.mm.badWords.contains a.1 then { d with mm := { d.mm with badWords := d.mm.badWords ++ [a.1] } } else d
    d.eccEffect r i
  | _ => d

/-- SCRUB_READ: the scrubber reads the next word of each region (R450), with the outcome given for each in the order of R449's table
(0 no error, 1 correctable, 2 uncorrectable). -/
def execScrubRead (outcomes : List Nat) (s : State) := s.run fun d =>
  d.each (List.range 6) (fun d r =>
    let i := d.mm.scrub.getD r 0
    let d := { d with mm := { d.mm with scrub := updAt d.mm.scrub r (fun _ => (i + 1) % eccWords r) } }
    d.eccRead r i (outcomes.getD r 0))

/-- A word that is written can be read again (R449). -/
def Dev.eccWritten (d : Dev) (a n : Nat) : Dev :=
  if d.mm.badWords = [] then d
  else { d with mm := { d.mm with badWords := d.mm.badWords.filter (fun w => decide (w + 4 ≤ a) || decide (a + n ≤ w)) } }

/-- Bytes written by a DMA transfer. -/
def Dev.dmaWrite (d : Dev) (k : Nat) (l : List Nat) : Dev := (d.setBytes k l).eccWritten k l.length

/-! ## LPDDR4 (R451) -/

/-- The bytes of the part, 0 before TRAINED = 1. -/
def Dev.ddrSize (d : Dev) : Nat := if d.on Reg.DDR_CTL_TRAINED then 2 ^ (25 + d.g Reg.DDR_CTL_SIZE) else 0

/-- DDR_TRAIN: a write of TRAIN = 1 begins the training (R451); TRAINED is 0 meanwhile (log 44). -/
def Dev.ddrTrain (d : Dev) : Dev :=
  if d.mm.training then d else { d.s Reg.DDR_CTL_TRAINED 0 with mm := { d.mm with training := true } }

/-- DDR_TRAIN. -/
def execDdrTrain (s : State) := s.run Dev.ddrTrain

/-- DDR_TRAIN_DONE: the training ends, with the density code that mode register 8 gave, or with the step at which it failed. -/
def execDdrTrainDone (ok : Bool) (size step : Nat) (s : State) := s.run fun d =>
  if d.mm.training ∧ 1 ≤ size ∧ size ≤ 4 then
    let d := { d with mm := { d.mm with training := false } }
    if ok then (d.s Reg.DDR_CTL_TRAINED 1).s Reg.DDR_CTL_SIZE size
    else (d.s Reg.DDR_CTL_TRAINED 0).raise Err.MEM_DDR_TRAIN_FAIL [step]
  else d

/-- A write of DDR_CTL. -/
def Dev.ddrCtlWrite (d : Dev) (v : Nat) : Dev :=
  let d := d.s Reg.DDR_CTL_DDR_WIN_SEL (bits v 8 8)
  if v.testBit 30 then d.ddrTrain else d

/-! ## Flash (R452, R453) -/

/-- The window of R453: the die temperature at −10 to +90 °C, in 1/16 °C. -/
def Dev.flashWindow (d : Dev) : Bool := decide (-160 ≤ d.tCd) && decide (d.tCd ≤ 1440)

/-- Whether a range of the flash touches what R453 protects: the boot state, ACTIVE and FALLBACK. -/
def flashProt (ofs len : Nat) : Bool :=
  decide (ofs < 0x2000) || (decide (ofs < 0x5000000) && decide (0x1000000 < ofs + len))

/-- A range of the flash erased. -/
def Dev.flashErase (d : Dev) (ofs len : Nat) : Dev :=
  { d with mem := d.mem.filter (fun c => decide (c.1 < flashKey ofs) || decide (flashKey (ofs + len) ≤ c.1)) }

/-- Bytes programmed: bits go from 1 to 0 only (PRESUMED of NOR flash, log 45). -/
def Dev.flashProgram (d : Dev) (ofs : Nat) (l : List Nat) : Dev :=
  d.setBytes (flashKey ofs) ((l.zip (d.bytes (flashKey ofs) l.length)).map (fun p => p.1 &&& p.2))

/-- Bytes of a flash range that a failed operation leaves open (log 2). -/
def Dev.flashOpen (d : Dev) (ofs len : Nat) : Dev :=
  { d.setBytes (flashKey ofs) ((List.range len).map (fun i => Config.freeValue (d.free + i) % 256)) with free := d.free + len }

/-- OSPI_RESULT is written. -/
def Dev.ospiResult (d : Dev) (busy code : Nat) : Dev :=
  let d := (d.s Reg.OSPI_RESULT_BUSY busy).s Reg.OSPI_RESULT_RESULT code
  { d with mm := { d.mm with ospiRead := false } }

/-- The bytes that an operation of OSPI_CMD covers. -/
def ospiLen (op : Nat) : Nat := if op = 1 then 0x1000 else if op = 2 then 0x10000 else 256

/-- An operation of OSPI_CMD (R453), ignored while one runs; the offset is aligned down to the operation (log 45). A code that the
table does not list is refused with a code that the spec does not name (log 2). -/
def Dev.ospiOp (d : Dev) (op : Nat) : Dev :=
  if d.on Reg.OSPI_RESULT_BUSY then d
  else if op = 0 ∨ 3 < op then (d.ospiResult 0 d.freeVal).tookFree
  else
    let len := ospiLen op
    let ofs := d.g Reg.OSPI_ADDR_OFS / len * len
    if !d.flashWindow then (d.ospiResult 0 Err.MEM_FLASH_TEMP).raise Err.MEM_FLASH_TEMP [w32 d.tCd, op]
    else if flashProt ofs len then (d.ospiResult 0 Err.MEM_FLASH_PROT).raise Err.MEM_FLASH_PROT [ofs]
    else
      let d := d.ospiResult 1 0
      { d with mm := { d.mm with flashOp := some ⟨op, ofs⟩ } }

/-- OSPI_ERASE_4K. -/
def execOspiErase4k (s : State) := s.run fun d => d.ospiOp 1
/-- OSPI_ERASE_64K. -/
def execOspiErase64k (s : State) := s.run fun d => d.ospiOp 2
/-- OSPI_PROGRAM. -/
def execOspiProgram (s : State) := s.run fun d => d.ospiOp 3

/-- OSPI_OPERATION_DONE: the running operation ends as the part reports (R452). -/
def execOspiOperationDone (ok : Bool) (s : State) := s.run fun d =>
  match d.mm.flashOp with
  | none => d
  | some f =>
    let d := { d with mm := { d.mm with flashOp := none } }
    if ok then
      let d := if f.op = 3 then d.flashProgram f.ofs (d.bytes (d.word Reg.OSPI_SRC) 256) else d.flashErase f.ofs (ospiLen f.op)
      d.ospiResult 0 0
    else
      ((d.flashOpen f.ofs (ospiLen f.op)).ospiResult 0 Err.MEM_FLASH_ERR).raise Err.MEM_FLASH_ERR [f.ofs, f.op]

/-! ## Recorder: starting (R454, R455, R457) -/

/-- The class of a stream's source. -/
def Dev.recClass (d : Dev) (s : Nat) : Nat := d.word (Reg.REC_SRC s) / 2 ^ 28

/-- Bytes of a stream's record (R455). -/
def Dev.recSize (d : Dev) (s : Nat) : Nat := if d.recClass s = 8 then 16 else 8

/-- Whether SRC and CFG name a source and a trigger that exist (R454). TRIG 1 belongs to class 0x7 only. -/
def Dev.recValid (d : Dev) (s : Nat) : Bool :=
  let w := d.word (Reg.REC_SRC s)
  let i := w % 65536
  let cls := d.recClass s
  let trig := d.g (Reg.REC_CFG_TRIG s)
  bits w 27 16 == 0 &&
  (if cls = 7 then decide (i < 16384) && decide (i / 64 ≠ 0) && decide (i % 64 < 32)
   else if cls = 8 then decide (i < 16)
   else if cls = 3 then decide (i < 16384)
   else cls != 0 && d.inSourceOk w) &&
  (trig != 1 || cls == 7) && (trig != 0 || decide (d.g (Reg.REC_CFG_TCH s) ≤ 5))

/-- Whether a stream's buffer lies in its memory, 16-byte aligned and with room for a record. -/
def Dev.recBuffer (d : Dev) (s : Nat) : Bool :=
  let b := d.g (Reg.REC_BASE_BASE s)
  let n := d.g (Reg.REC_SIZE_SIZE s)
  b % 16 == 0 && decide (16 + d.recSize s ≤ n) &&
  (if d.on (Reg.REC_CFG_DDR s) then decide (b + n ≤ d.ddrSize) else decide (0x18000000 ≤ b) && decide (b + n ≤ 0x18100000))

/-- The bandwidth of a stream in B/s (R457). -/
def Dev.recRate (d : Dev) (s : Nat) : Nat :=
  let m := max 1 (d.g (Reg.REC_MINT_MIN_INT s))
  d.recSize s * ((250000000 + m - 1) / m)

/-- The memory key of an offset in a stream's buffer. -/
def Dev.recKey (d : Dev) (s ofs : Nat) : Nat :=
  if d.on (Reg.REC_CFG_DDR s) then ddrKey (d.g (Reg.REC_BASE_BASE s) + ofs) else d.g (Reg.REC_BASE_BASE s) + ofs

/-- A refused start: its bit in REC_REFUSED; the caller reports REC_RESULT. -/
def Dev.recRefuse (d : Dev) (s : Nat) : Dev := d.s Reg.REC_REFUSED_MASK (d.g Reg.REC_REFUSED_MASK ||| 2 ^ s)

/-- The start of one stream (R457): the code of its refusal, or 0. A running stream is left as it is. -/
def Dev.recStart (d : Dev) (s : Nat) : Nat × Dev :=
  if d.on (Reg.REC_STAT_RUN s) then (0, d)
  else if !d.recValid s || !d.recBuffer s then (Err.REC_MEM_BAD, (d.recRefuse s).raise Err.REC_MEM_BAD [s])
  else
    let rate := d.recRate s
    let used := d.g Reg.REC_BW_USED_BPS
    if 838860800 < used + rate then (Err.REC_BW_REFUSED, (d.recRefuse s).raise Err.REC_BW_REFUSED [s, rate, used])
    else
      let d := d.s Reg.REC_BW_USED_BPS (used + rate)
      let d := d.s Reg.REC_REFUSED_MASK (d.g Reg.REC_REFUSED_MASK &&& (2 ^ 32 - 1 - 2 ^ s))
      let d := ((d.setWord (Reg.REC_STAT s) (d.word (Reg.REC_STAT s) % 65536 / 4 * 4)).s (Reg.REC_STAT_RUN s) 1).s (Reg.REC_PUT_VALUE s) 16
      let d := d.updStream s (fun _ => { last := none, post := 0, fasted := false, rate := rate })
      (0, d.dmaWrite (d.recKey s 0) (leBytes 8 d.tb.rt ++ leBytes 4 (d.word (Reg.REC_SRC s)) ++ leBytes 4 (d.word (Reg.REC_CFG s))))

/-- Starts requested together, in ascending stream number (R457): the code of the lowest refused stream, or 0, and REC_RESULT. -/
def Dev.recStartMask (d : Dev) (mask : Nat) : Nat × Dev :=
  let r := (maskBits 32 mask).foldl (fun (a : Nat × Nat × Dev) s =>
    let x := a.2.2.recStart s
    if x.1 ≠ 0 ∧ a.1 = 0 then (x.1, s, x.2) else (a.1, a.2.1, x.2)) (0, 0, d)
  (r.1, (r.2.2.s Reg.REC_RESULT_STREAM r.2.1).s Reg.REC_RESULT_RESULT r.1)

/-- REC_START: a write of REC_START. -/
def execRecStart (mask : Nat) (s : State) := s.run fun d => (d.recStartMask (mask % 2 ^ 32)).2

/-- REC_STOP: a write of REC_STOP. -/
def execRecStop (mask : Nat) (s : State) := s.run fun d => d.each (maskBits 32 mask) Dev.recStop

/-! ## Recorder: records (R454 to R456) -/

/-- The bytes of the record that a stream takes now; `none` where a class-0x7 port carries no written mark. -/
def Dev.recBytes (d : Dev) (s : Nat) : Option (List Nat) :=
  let w := d.word (Reg.REC_SRC s)
  let i := w % 65536
  let t := d.tb.rt / 32 % 2 ^ 32
  let plain (v : Nat) := leBytes 4 (ofInt 32 (toInt 24 v)) ++ leBytes 4 t
  match d.recClass s with
  | 7 => ((d.ctx (i / 64)).latch.getD (i % 64) none).map plain
  | 8 =>
    let x := d.wheel (i % 16)
    some (leBytes 8 (ofInt 64 (x.pos / 256)) ++ leBytes 4 (ofInt 32 x.spd) ++ leBytes 4 t)
  | _ => some (plain (d.inSource (i / 64) (i % 64) w))

/-- A record put at PUT (R455), and what follows: a full linear buffer stops, a ring wraps, and POST counts down (R456). -/
def Dev.recPut (d : Dev) (s : Nat) (l : List Nat) : Dev :=
  let put := d.g (Reg.REC_PUT_VALUE s)
  let d := d.dmaWrite (d.recKey s put) l
  let next := put + l.length
  let full := decide (d.g (Reg.REC_SIZE_SIZE s) < next + l.length)
  let ring := d.on (Reg.REC_CFG_RING s)
  let d := d.s (Reg.REC_PUT_VALUE s) (if full && ring then 16 else next)
  if full && !ring then d.recEnd s
  else if d.on (Reg.REC_STAT_STOPPING s) then
    let d := d.updStream s (fun x => { x with post := x.post - 1 })
    if (d.stream s).post = 0 then d.recEnd s else d
  else d

/-- REC_RECORD_TAKEN: a trigger of a running stream: a record is taken, or dropped when it comes too soon (R454). -/
def execRecRecordTaken (n : Nat) (s : State) := s.run fun d =>
  if 32 ≤ n ∨ !d.on (Reg.REC_STAT_RUN n) then d
  else match d.recBytes n with
    | none => d
    | some l =>
      let gap := (d.stream n).last.map (fun t => d.tick - t)
      let soon : Bool := match gap with
        | some g => decide (g < d.g (Reg.REC_MINT_MIN_INT n))
        | none => false
      if soon then
        let d := d.inc (Reg.REC_STAT_DROP n)
        if (d.stream n).fasted then d
        else (d.updStream n (fun x => { x with fasted := true })).raise Err.REC_FAST [n, gap.getD 0]
      else (d.updStream n (fun x => { x with last := some d.tick })).recPut n l

/-! ## Writes -/

/-- A write to the MEM and REC block (R477). -/
def Dev.memWrite (d : Dev) (off v : Nat) : Dev :=
  let a := 0x30100000 + off
  if off = 0x10 then d.ddrCtlWrite v
  else if off = 0x20 then d.ospiOp (bits v 31 28)
  else if off = 0x100 then (d.recStartMask (v % 2 ^ 32)).2
  else if off = 0x104 then d.each (maskBits 32 v) Dev.recStop
  else if 0x200 ≤ off ∧ off < 0x600 then
    d.regStore a a 0x30100000 v (lockIf (d.on (Reg.REC_STAT_RUN ((off - 0x200) / 0x20)))) Err.REC_RWL_REFUSED
  else d.regStore a a 0x30100000 v unlocked Err.MEM_RWL_REFUSED

end Sys2Proof.Machine
end

