-- ==== Sys2Proof/Machine/Tally.lean ====
section
/-! DEFINITION. Machine/Tally.lean: the tally, its refusals, its programming and its log (R473 to R476). -/

namespace Sys2Proof.Machine

/-- A tally entry. -/
def Dev.tlyEntry (d : Dev) (e : Nat) : TlyEntry := d.tly.entries.getD e ⟨[], true, 0, 0⟩

/-- The value of an entry as a number, its bytes little-endian. -/
def Dev.tlyNum (d : Dev) (e : Nat) : Nat := leVal (d.tlyEntry e).value

/-- The debug lock: 0 OPEN, 1 LOCKED, 2 SEALED (R475). -/
def Dev.tlyLock (d : Dev) : Nat := d.tlyNum 15

/-- The changes that an entry was made with (R473). -/
def tlyTotal (e : Nat) : Nat := [32, 16, 16, 16, 16, 16, 16, 8, 256, 16, 2, 2, 2, 2, 64, 2].getD e 0

/-- TLY_STAT is written. -/
def Dev.tlyStat (d : Dev) (busy code : Nat) : Dev :=
  let d := (d.s Reg.TLY_STAT_BUSY busy).s Reg.TLY_STAT_RESULT code
  { d with tly := { d.tly with statRead := false } }

/-- The key slots that are neither blank nor revoked. -/
def Dev.validKeys (d : Dev) : List Nat := (List.range 4).filter (fun k => (d.tlyEntry (10 + k)).state == 1)

/-- Whether an operation asks for what the entry holds already: 0 writes a value, 1 revokes a key slot. -/
def Dev.tlySame (d : Dev) (e op : Nat) (value : List Nat) : Bool :=
  let x := d.tlyEntry e
  if 10 ≤ e ∧ e ≤ 13 then (if op = 1 then x.state == 2 else x.state == 1 && x.value == value) else !x.blank && x.value == value

/-- The first refusal of a tally write, in the order of R474: its code and record context. `key`: the write came through TLY_KEY. -/
def Dev.tlyRefusal (d : Dev) (e op : Nat) (value : List Nat) (key : Bool) : Option (Nat × List Nat) :=
  let x := d.tlyEntry e
  let slot := decide (10 ≤ e ∧ e ≤ 13)
  let lower : Bool := (e == 15 || e == 14) && decide (leVal value < leVal x.value)
  if d.tCd < 0 ∨ 1360 < d.tCd then some (Err.TLY_TEMP, [e, w32 d.tCd])
  else if key ∧ d.tlyLock ≠ 0 then some (Err.TLY_LOCKED, [e, d.tlyLock])
  else if lower || (slot && op == 0 && x.state == 2) then some (Err.TLY_ONE_WAY, [e])
  else if slot && op == 1 && d.validKeys == [e - 10] then some (Err.TLY_LAST_KEY, [e - 10])
  else if x.left = 0 ∨ (slot && op == 0 && x.state == 1) then some (Err.TLY_EXHAUSTED, [e])
  else none

/-- A tally write (R474): the code of its refusal, or 0. BUSY is checked first; then a write of the current value is accepted without
programming (log 46). -/
def Dev.tlyWrite (d : Dev) (e op : Nat) (value : List Nat) (src : Nat) (key : Bool) : Nat × Dev :=
  if d.tly.ops ≠ [] then (Err.TLY_BUSY, (d.tlyStat 1 Err.TLY_BUSY).raise Err.TLY_BUSY [e])
  else if d.tlySame e op value then (0, d.tlyStat 0 0)
  else match d.tlyRefusal e op value key with
    | some (c, ctx) => (c, (d.tlyStat 0 c).raise c ctx)
    | none =>
      let d := d.tlyStat 1 0
      (0, { d with tly := { d.tly with ops := [⟨e, op, value, src⟩] } })

/-- The bytes of an entry's value that a write through its register programs. -/
def tlyBytes (e v : Nat) : List Nat := if e = 0 ∨ 14 ≤ e then [v % 256] else if e = 7 then leBytes 3 v else leBytes 2 v

/-- TLY_WRITE, as TALLY_WRITE of the table: a write of entry 0 (DRG_NODE), 1 to 6 (TLY_CEIL), 7 (TLY_PINMAP) or 15 (TLY_DEBUG) with the
source of TLY_CTL. A role or a lock of 3 leaves the entry unchanged. -/
def Dev.tlyRegWrite (d : Dev) (e v : Nat) : Dev :=
  let v := if e = 0 then v % 64 else if e = 15 then v % 4 else if e = 7 then v % 2 ^ 24 else v % 65536
  if (e = 0 ∧ v / 16 = 3) ∨ (e = 15 ∧ v = 3) then d else (d.tlyWrite e 0 (tlyBytes e v) (d.g Reg.TLY_CTL_SRC) false).2

/-- TALLY_WRITE. -/
def execTallyWrite (e v : Nat) (s : State) := s.run fun d => if e ≤ 7 ∨ e = 15 then d.tlyRegWrite e v else d

/-- A key slot programmed from the staged hash (R473). -/
def Dev.keyProgram (d : Dev) (slot : Nat) : Dev := (d.tlyWrite (10 + slot % 4) 0 d.tly.keyStage (d.g Reg.TLY_CTL_SRC) true).2

/-- TLY_KEY_PROGRAM. -/
def execTlyKeyProgram (slot : Nat) (s : State) := s.run fun d => (d.s Reg.TLY_KEY_SEL slot).keyProgram slot

/-- A key slot revoked (R473). -/
def Dev.keyRevoke (d : Dev) (slot : Nat) : Dev :=
  (d.tlyWrite (10 + slot % 4) 1 (d.tlyEntry (10 + slot % 4)).value (d.g Reg.TLY_CTL_SRC) true).2

/-- TLY_KEY_REVOKE. -/
def execTlyKeyRevoke (slot : Nat) (s : State) := s.run fun d => (d.s Reg.TLY_KEY_SEL slot).keyRevoke slot

/-- The first 16 bytes of SHA-256 of a value (R476). -/
def hash16 (l : List Nat) : List Nat := (sha256n l).take 16

/-- The entry after an accepted change. -/
def TlyEntry.after (x : TlyEntry) (o : TlyOp) : TlyEntry :=
  { value := o.value, blank := false, left := x.left - 1,
    state := if 10 ≤ o.entry ∧ o.entry ≤ 13 then (if o.op = 1 then 2 else 1) else x.state }

/-- The device with a tally entry changed. -/
def Dev.setEntry (d : Dev) (e : Nat) (f : TlyEntry → TlyEntry) : Dev :=
  { d with tly := { d.tly with entries := updAt d.tly.entries e f } }

/-- An accepted change is carried out at once: the entry, its log record and TLY_CHANGED (R476). -/
def Dev.tlyApply (d : Dev) (o : TlyOp) : Dev :=
  let x := d.tlyEntry o.entry
  let index := d.tly.log.length + 1
  let log := leBytes 4 index ++ leBytes 8 d.tb.rt ++ [o.entry, o.src, x.left - 1, 0] ++ hash16 x.value ++ hash16 o.value
  let d := d.setEntry o.entry (fun x => x.after o)
  { d with tly := { d.tly with log := d.tly.log ++ [log] } }.raise Err.TLY_CHANGED [index, o.entry, o.src]

/-- TALLY_PROGRAM_DONE: the programming under way ends (R474): the change takes effect, or it failed and consumed a change. -/
def execTallyProgramDone (ok : Bool) (s : State) := s.run fun d =>
  match d.tly.ops with
  | [] => d
  | o :: rest =>
    let d := { d with tly := { d.tly with ops := rest } }
    let d := d.tlyStat (b2n (rest != [])) 0
    if ok then d.tlyApply o
    else
      let x := d.tlyEntry o.entry
      (d.setEntry o.entry (fun x => { x with left := x.left - 1 })).raise Err.TLY_PROG_FAIL [o.entry, tlyTotal o.entry - x.left]

/-! ## Registers -/

/-- What a TLY register reads that shows the tally itself; `none` for a stored register. -/
def Dev.tlyView (d : Dev) (off : Nat) : Option Nat :=
  let left (e : Nat) := (d.tlyEntry e).left
  if off = 0x10C then some d.tly.log.length
  else if 0x110 ≤ off ∧ off < 0x140 then
    let r := d.tly.log.getD (d.g Reg.TLY_LOG_SEL_INDEX - 1) []
    some (leVal ((r.drop (off - 0x110)).take 4))
  else if 0x140 ≤ off ∧ off < 0x158 then
    let e := 1 + (off - 0x140) / 4
    some (left e * 2 ^ 27 + d.tlyNum e)
  else if off = 0x158 then some (left 7 * 2 ^ 28 + d.tlyNum 7)
  else if off = 0x15C then some (left 0 * 2 ^ 26 + left 8 % 512 * 2 ^ 16 + left 9 * 2 ^ 8 + left 14)
  else if off = 0x160 then some (left 15 * 4 + d.tlyLock)
  else if off = 0x164 then
    some (d.g Reg.TLY_KEY_SEL * 256 + (List.range 4).foldl (fun a k => a + (d.tlyEntry (10 + k)).state * 4 ^ k) 0)
  else if 0x170 ≤ off ∧ off < 0x1A0 then
    some (leVal (((d.tlyEntry (10 + d.g Reg.TLY_KEY_SEL)).value.drop (off - 0x170)).take 4))
  else none

/-- A write to the TLY registers. -/
def Dev.tlyRegs (d : Dev) (off v : Nat) : Dev :=
  let a := 0x30110000 + off
  if 0x140 ≤ off ∧ off < 0x158 then d.tlyRegWrite (1 + (off - 0x140) / 4) v
  else if off = 0x158 then d.tlyRegWrite 7 v
  else if off = 0x160 then d.tlyRegWrite 15 v
  else if off = 0x164 then
    let d := d.s Reg.TLY_KEY_SEL (bits v 9 8)
    match v / 2 ^ 28 with
    | 1 => d.keyProgram (bits v 9 8)
    | 2 => d.keyRevoke (bits v 9 8)
    | _ => d
  else if 0x170 ≤ off ∧ off < 0x1A0 then
    let k := off - 0x170
    { d with tly := { d.tly with keyStage := d.tly.keyStage.take k ++ leBytes 4 v ++ d.tly.keyStage.drop (k + 4) } }
  else d.regStore a a 0x30110000 v unlocked Err.MEM_RWL_REFUSED

end Sys2Proof.Machine
end

