-- ==== Sys2Proof/Machine/HostPort.lean ====
section
/-! DEFINITION. Machine/HostPort.lean: the host ports: frames and their checks, queues, replies and events (R423 to R431, R445). -/

namespace Sys2Proof.Machine

/-- A host port. -/
def Dev.hport (d : Dev) (p : Nat) : HostPort := d.hst.ports.getD p {}

/-- The device with a host port changed. -/
def Dev.updPort (d : Dev) (p : Nat) (f : HostPort → HostPort) : Dev :=
  { d with hst := { d.hst with ports := updBank 3 {} d.hst.ports p f } }

/-! ## Frames (R428) -/

/-- The bytes of a frame. -/
def HostFrame.bytes (f : HostFrame) : List Nat :=
  let b := [0xD1, 0xA5, 1 + f.kind % 16 * 16, f.node % 16 + b2n f.remote * 16] ++ leBytes 2 f.tag ++ leBytes 2 f.code ++
    leBytes 2 f.payload.length ++ leBytes 2 f.oseq ++ f.payload
  b ++ leBytes 4 (crc32c b)

/-- The frame that bytes spell, or the cause of HST_FRAME_BAD: 1 sync, version or kind, 2 length, 3 CRC. -/
def parseFrame (kinds : List Nat) (b : List Nat) (addr : Nat) : Except Nat HostFrame :=
  let w (i n : Nat) := leVal ((b.drop i).take n)
  let len := w 8 2
  if w 0 2 ≠ 0xA5D1 ∨ w 2 1 % 16 ≠ 1 ∨ !kinds.contains (w 2 1 / 16) then .error 1
  else if 4160 < len ∨ b.length ≠ 16 + len then .error 2
  else if crc32c (b.take (12 + len)) ≠ w (12 + len) 4 then .error 3
  else .ok ⟨w 2 1 / 16, w 3 1 % 16, (w 3 1).testBit 4, w 4 2, w 6 2, (b.drop 12).take len, w 10 2, addr⟩

/-- The words of a payload: its items, one 32-bit word each where the spec gives no width (log 47). -/
def HostFrame.word (f : HostFrame) (i : Nat) : Nat := leVal ((f.payload.drop (4 * i)).take 4)

/-- A payload of words. -/
def payload (l : List Nat) : List Nat := l.flatMap (fun w => leBytes 4 w)

/-! ## Outbound (R431) -/

/-- An outbound frame of a port: numbered, or lost while the link is down. -/
def Dev.portOut (d : Dev) (p kind node tag code addr : Nat) (data : List Nat) : Dev :=
  if (d.hport p).linkUp then
    d.updPort p (fun q => { q with
      outq := q.outq ++ [⟨kind, node, false, tag, code, data, q.oseq, addr⟩], oseq := (q.oseq + 1) % 65536 })
  else d.inc (Reg.PORT_CNT_EVT_LOST p)

/-- A reply to an outstanding command (R430). Origins 0 to 2 are the ports; origin 3 + n is ring node n, to which the reply returns
over the ring (R429). -/
def Dev.reply (d : Dev) (o tag addr code : Nat) (data : List Nat) : Dev :=
  if o < 3 then
    (d.updPort o (fun q => { q with pend := q.pend.filter (fun t => t.1 != tag) })).portOut o 2 d.me tag code addr data
  else d.bulkQueue 1 (o - 3) false (HostFrame.bytes ⟨2, d.me, false, tag, code, data, 0, 0⟩)

/-- HST_ARG_BAD with the byte offset of the failing item (R430). -/
def Dev.argBad (d : Dev) (o : Nat) (f : HostFrame) (ofs : Nat) : Dev :=
  (d.raise Err.HST_ARG_BAD [o, f.tag, ofs]).reply o f.tag f.addr Err.HST_ARG_BAD (payload [ofs])

/-- The words of an event frame (R431). -/
def Dev.eventOut (d : Dev) (p : Nat) (r : ErrRec) : Dev := d.portOut p 3 d.me 0 0 (d.hport p).evtDest (payload r.words)

/-- One record sent to one port as an event: lost where the outbound queue has only the slots held for replies; the first event after
a loss is preceded by HST_EVT_LOST (R431). -/
def Dev.eventTo (d : Dev) (p : Nat) (r : ErrRec) : Dev :=
  let q := d.hport p
  if !q.linkUp ∨ 48 ≤ q.outq.length then
    (d.inc (Reg.PORT_CNT_EVT_LOST p)).updPort p (fun q => { q with lostNow := q.lostNow + 1 })
  else if q.lostNow = 0 then d.eventOut p r
  else
    let lost : ErrRec := ⟨d.errSeq, d.tb.rt, Err.HST_EVT_LOST, errSev Err.HST_EVT_LOST, 0, 0, [p, q.lostNow]⟩
    let d := (d.raise Err.HST_EVT_LOST [p, q.lostNow]).updPort p (fun q => { q with lostNow := 0 })
    (d.eventOut p lost).eventOut p r

/-- Whether a port's subscription covers a record (R431). -/
def Dev.covers (d : Dev) (p : Nat) (r : ErrRec) : Bool :=
  (d.g Reg.HST_CTL_EN).testBit p && decide (d.g (Reg.PORT_SUB_MIN_SEV p) ≤ r.sev) && (d.g (Reg.PORT_SUB_SUBSYS p)).testBit (r.code / 256 - 1)

/-- The record of the lowest SEQ that awaits sending. -/
def firstEvent : List ErrRec → Option ErrRec
  | [] => none
  | r :: t => match firstEvent t with
    | none => some r
    | some q => if q.seq < r.seq then some q else some r

/-- EVENT_SEND: firmware sends the next record whose handling is complete to every port that covers it, in ascending SEQ (R431). -/
def execEventSend (s : State) := s.run fun d =>
  if !d.on Reg.HST_CTL_SV_READY then d
  else match firstEvent d.hst.events with
    | none => d
    | some r =>
      let d := { d with hst := { d.hst with events := d.hst.events.erase r } }
      d.each (List.range 3) (fun d p => if d.covers p r then d.eventTo p r else d)

/-! ## Inbound (R424 to R429) -/

/-- The command codes of R430. -/
def hostCodes : List Nat :=
  [1, 2, 3, 4, 0x10, 0x11, 0x20, 0x30, 0x31, 0x32, 0x33, 0x40, 0x50, 0x51, 0x52, 0x53, 0x54, 0x55, 0x56, 0x60, 0x70, 0x71]

/-- The codes that ROM recovery serves (R469). -/
def recoveryCodes : List Nat := [1, 0x50, 0x51, 0x52, 0x53, 0x54, 0x55, 0x56]

/-- A command accepted from an origin: an unlisted code is answered, a command for another node forwarded, any other waits (R429,
R430). -/
def Dev.hostAccept (d : Dev) (o : Nat) (f : HostFrame) : Dev :=
  let codes := if d.img.recovery then recoveryCodes else hostCodes
  if f.remote ∧ f.node ≠ d.me ∧ o < 3 then
    if (d.g Reg.DRG_PRESENT_PRESENT).testBit f.node then
      let d := d.bulkQueue 1 f.node false f.bytes
      { d with hst := { d.hst with fwd := d.hst.fwd ++ [⟨o, f.tag, f.addr, f.node⟩] } }
    else (d.argBad o f d.freeVal).tookFree
  else if !codes.contains f.code then
    (d.raise Err.HST_CMD_UNKNOWN [o, f.code]).reply o f.tag f.addr Err.HST_CMD_UNKNOWN []
  else if o < 3 then d.updPort o (fun q => { q with inq := q.inq ++ [f] })
  else { d with hst := { d.hst with ringIn := d.hst.ringIn ++ [f] } }

/-- A frame received on a port: the checks of R428 in their order. -/
def Dev.hostFrame (d : Dev) (p addr : Nat) (b : List Nat) : Dev :=
  if 3 ≤ p ∨ !(d.g Reg.HST_CTL_EN).testBit p then d
  else match parseFrame [1] b addr with
    | .error cause =>
      ((d.inc (Reg.PORT_CNT_BAD p)).updPort p (fun q => { q with lastBad := true })).raise Err.HST_FRAME_BAD [p, cause]
    | .ok f =>
      let d := d.updPort p (fun q => { q with lastBad := false })
      let q := d.hport p
      let answer (d : Dev) (code : Nat) (data : List Nat) := d.portOut p 2 d.me f.tag code addr data
      if !d.on Reg.HST_CTL_SV_READY then answer d Err.HST_SV_ABSENT []
      else if q.pend.any (fun t => t.1 == f.tag) then answer (d.raise Err.HST_TAG_DUP [p, f.tag]) Err.HST_TAG_DUP []
      else if 16 ≤ q.inq.length then
        answer ((d.inc (Reg.PORT_CNT_BUSY p)).raise Err.HST_BUSY [p, f.tag, q.inq.length]) Err.HST_BUSY (payload [q.inq.length])
      else (d.updPort p (fun q => { q with pend := q.pend ++ [(f.tag, addr)] })).hostAccept p f

/-- HOST_FRAME_RECEIVED: a host frame of port p, from a source address. -/
def execHostFrameReceived (p addr : Nat) (b : List Nat) (s : State) := s.run fun d => d.hostFrame p addr b

/-- HSPI_WRITE_FRAME: a write transaction delivers its frame at the rise of HSPI_CS_N (R425). -/
def execHspiWriteFrame (b : List Nat) (s : State) := s.run fun d => d.hostFrame 0 0 b

/-- HSPI_READ_FRAME: a read transaction of `n` bytes after the first four removes the oldest outbound frame where all of its bytes were
clocked (R425). -/
def execHspiReadFrame (n : Nat) (s : State) := s.run fun d =>
  match (d.hport 0).outq with
  | f :: t => if (d.g Reg.HST_CTL_EN).testBit 0 ∧ f.bytes.length ≤ n then d.updPort 0 (fun q => { q with outq := t }) else d
  | [] => d

/-- HSPI_STATUS: a transaction that reads the status only (OP 0x03), or with another OP, which counts as bad (R424, R425). -/
def execHspiStatus (op : Nat) (s : State) := s.run fun d =>
  if !(d.g Reg.HST_CTL_EN).testBit 0 ∨ op % 256 = 1 ∨ op % 256 = 2 ∨ op % 256 = 3 then d
  else (d.inc (Reg.PORT_CNT_BAD 0)).raise Err.HST_FRAME_BAD [0, 4]

/-! ## Ethernet (R426, R431) -/

/-- A datagram complete in its fragments: its bytes. -/
def IpFrag.whole (f : IpFrag) : Option (List Nat) :=
  match f.len with
  | none => none
  | some n =>
    let at_ (i : Nat) : Option Nat := f.got.findSome? (fun g => if g.1 ≤ i ∧ i < g.1 + g.2.length then g.2[i - g.1]? else none)
    let l := (List.range n).filterMap at_
    if l.length = n then some l else none

/-- A fragment joins its datagram, or begins one where fewer than four are in reassembly (R426). -/
def joinFrag (l : List IpFrag) (id ofs : Nat) (more : Bool) (data : List Nat) : List IpFrag :=
  let add (f : IpFrag) : IpFrag :=
    { f with got := f.got ++ [(ofs, data)], len := if more then f.len else some (ofs + data.length) }
  if l.any (fun f => f.id == id) then l.map (fun f => if f.id = id then add f else f)
  else if l.length < 4 then l ++ [add ⟨id, [], none⟩]
  else l

/-- The first datagram that is complete, at most 4,200 bytes, and the others. -/
def Dev.wholeFrag (d : Dev) (p id : Nat) : Option (List Nat) :=
  ((d.hport p).frags.find? (fun f => f.id == id)).bind IpFrag.whole

/-! ## Resets and the link -/

/-- A host port reset (R27): its queues are discarded without replies, and RST_CNT counts. -/
def Dev.portReset (d : Dev) (p : Nat) : Dev :=
  let d := d.inc (Reg.PORT_STAT_RST_CNT p)
  let d := { d with hst := { d.hst with
    fwd := d.hst.fwd.filter (fun f => f.port != p)
    tunes := d.hst.tunes.filter (fun t => t.port != p)
    ceWait := d.hst.ceWait.filter (fun w => w.1 != p)
    safWait := d.hst.safWait.filter (fun w => w.1 != p) } }
  d.updPort p (fun q => { linkUp := q.linkUp, oseq := q.oseq, evtDest := q.evtDest })

/-- HOST_PORT_RESET_REQUEST (R27). -/
def execHostPortResetRequest (p : Nat) (s : State) := s.run fun d => if p < 3 then d.portReset p else d

/-- HST_LINK_DOWN: an Ethernet link goes down (R431). -/
def execHstLinkDown (p : Nat) (s : State) := s.run fun d =>
  if (p = 1 ∨ p = 2) ∧ (d.hport p).linkUp then
    (d.updPort p (fun q => { q with linkUp := false })).raise Err.HST_LINK_DOWN [p]
  else d

/-- ETH_LINK_UP: the link is up again. -/
def execEthLinkUp (p : Nat) (s : State) := s.run fun d =>
  if p = 1 ∨ p = 2 then d.updPort p (fun q => { q with linkUp := true }) else d

/-- The supervisor reset as the ports see it (R445): every outstanding command is answered HST_SV_RESTART. -/
def Dev.hostAbsent (d : Dev) : Dev :=
  let d := d.s Reg.HST_CTL_SV_READY 0
  let d := d.each (List.range 3) (fun d p =>
    let l := (d.hport p).pend
    let d := d.each l (fun d t => d.reply p t.1 t.2 Err.HST_SV_RESTART [])
    d.updPort p (fun q => { q with inq := [] }))
  { d with hst := { d.hst with fwd := [], tunes := [], ringIn := [], ceWait := none, safWait := none } }

/-! ## The ring as an origin (R429) -/

/-- A host message that came over the ring from a node: a command for this node, or the reply to a command forwarded. -/
def Dev.hostRing (d : Dev) (src : Nat) (b : List Nat) : Dev :=
  match parseFrame [1, 2] b src with
  | .error _ => d
  | .ok f =>
    if f.kind = 1 then
      if d.on Reg.HST_CTL_SV_READY then d.hostAccept (3 + src) f else d.reply (3 + src) f.tag src Err.HST_SV_ABSENT []
    else match d.hst.fwd.find? (fun x => x.node == src && x.tag == f.tag) with
      | none => d
      | some x =>
        let d := { d with hst := { d.hst with fwd := d.hst.fwd.erase x } }
        (d.updPort x.port (fun q => { q with pend := q.pend.filter (fun t => t.1 != f.tag) })).portOut x.port 2 src f.tag f.code x.addr f.payload

/-! ## Commands (R430) -/

/-- The command that waits at an origin under a TAG and a code, taken from its queue. -/
def Dev.hostTake (d : Dev) (o tag code : Nat) : Option (HostFrame × Dev) :=
  let hit (f : HostFrame) : Bool := f.tag == tag && f.code == code
  if o < 3 then
    ((d.hport o).inq.find? hit).map (fun f => (f, d.updPort o (fun q => { q with inq := q.inq.erase f })))
  else
    (d.hst.ringIn.find? (fun f => hit f && f.addr == o - 3)).map (fun f =>
      (f, { d with hst := { d.hst with ringIn := d.hst.ringIn.erase f } }))

/-- Firmware carries out the command that waits at an origin under a TAG and a code; nothing where none waits or firmware is absent. -/
def Dev.hostRun (d : Dev) (o tag code : Nat) (f : HostFrame → Dev → Dev) : Dev :=
  if !d.on Reg.HST_CTL_SV_READY && !d.img.recovery then d
  else match d.hostTake o tag code with
    | none => d
    | some (fr, d) => f fr d

/-- The island has answered a message with this header: the reply of the host's SAFETY command (R430). -/
def Dev.safAnswer (d : Dev) (header resp : Nat) : Dev :=
  match d.hst.safWait with
  | some (o, tag, addr, h) =>
    if h = header then { d with hst := { d.hst with safWait := none } }.reply o tag addr (resp % 65536) (payload [resp]) else d
  | none => d

/-- The CE command of a host has ended: its reply (R430). -/
def Dev.ceAnswer (d : Dev) : Dev :=
  match d.hst.ceWait with
  | some (o, tag, addr) =>
    if d.on Reg.CE_CMD_RESULT_BUSY then d
    else { d with hst := { d.hst with ceWait := none } }.reply o tag addr (d.g Reg.CE_CMD_RESULT_RESULT)
      (payload [d.word Reg.CE_CMD_RESULT, d.word Reg.CE_ADM_INFO])
  | none => d

/-- A reply with words. -/
def Dev.answer (d : Dev) (o : Nat) (f : HostFrame) (code : Nat) (words : List Nat) : Dev := d.reply o f.tag f.addr code (payload words)

end Sys2Proof.Machine
end

