-- ==== Sys2Proof/Machine/Images.lean ====
section
/-! DEFINITION. Machine/Images.lean: the boot-state record, the manifest, updates over the host ports, the boot decision and its
confirmation (R458 to R472). -/

namespace Sys2Proof.Machine

/-- The device with its image block changed. -/
def Dev.updImg (d : Dev) (f : Img → Img) : Dev := { d with img := f d.img }

/-! ## The boot state (R459) -/

/-- The SEQ of a copy of the boot-state record, where its CRC is valid. -/
def Dev.bootSeq (d : Dev) (copy : Nat) : Option Nat :=
  let b := d.bytes (flashKey (0x1000 * copy)) 16
  if crc32c (b.take 12) = leVal (b.drop 12) then some (leVal (b.take 4)) else none

/-- The copy that holds the newest valid record. -/
def Dev.bootCopy (d : Dev) : Option Nat :=
  match d.bootSeq 0, d.bootSeq 1 with
  | none, none => none
  | some _, none => some 0
  | none, some _ => some 1
  | some a, some b => some (if a ≤ b then 1 else 0)

/-- The current boot-state record, read into the image block; none valid is IDLE (R466). -/
def Dev.bootLoad (d : Dev) : Dev :=
  match d.bootCopy with
  | none => d.updImg (fun i => { i with phase := 0, trialCnt := 0, stagingBad := false, reject := false, deferred := false, pendSvn := 0 })
  | some c =>
    let b := d.bytes (flashKey (0x1000 * c)) 16
    let f := b.getD 6 0
    d.updImg (fun i => { i with phase := b.getD 4 0 % 8, trialCnt := b.getD 5 0, stagingBad := f.testBit 0, reject := f.testBit 1,
                                deferred := f.testBit 2, pendSvn := leVal ((b.drop 8).take 4) })

/-- The boot-state record written to the copy that does not hold the newest valid one, with SEQ + 1 (R459). -/
def Dev.bootStore (d : Dev) : Dev :=
  let seq := match d.bootCopy with
    | some c => ((d.bootSeq c).getD 0 + 1) % 2 ^ 32
    | none => 1
  let tgt := match d.bootCopy with
    | some 0 => 1
    | _ => 0
  let i := d.img
  let b := leBytes 4 seq ++ [i.phase, i.trialCnt, b2n i.stagingBad + 2 * b2n i.reject + 4 * b2n i.deferred, 0] ++ leBytes 4 i.pendSvn
  (d.flashErase (0x1000 * tgt) 0x1000).flashProgram (0x1000 * tgt) (b ++ leBytes 4 (crc32c b))

/-- The boot state changed and written. -/
def Dev.bootPut (d : Dev) (f : Img → Img) : Dev := (d.updImg f).bootStore

/-! ## The manifest (R460, R461) -/

/-- The flash offset of a slot: 0 ACTIVE, 1 FALLBACK, 2 STAGING (R458). -/
def slotOfs (slot : Nat) : Nat := 0x1000000 + 0x2000000 * slot

/-- Bytes of a slot. -/
def Dev.slotBytes (d : Dev) (slot ofs n : Nat) : List Nat := d.bytes (flashKey (slotOfs slot + ofs)) n

/-- A little-endian field of a slot's manifest. -/
def Dev.manWord (d : Dev) (slot ofs n : Nat) : Nat := leVal (d.slotBytes slot ofs n)

/-- The offset of the first manifest byte that breaks check 1 of R461. -/
def Dev.manifestBad (d : Dev) (slot : Nat) : Option Nat :=
  let w := d.manWord slot
  let zero (ofs n : Nat) := (List.range n).findSome? (fun i => if d.manWord slot (ofs + i) 1 ≠ 0 then some (ofs + i) else none)
  if w 0 4 ≠ 0x53464E4D then some 0
  else if w 4 2 ≠ 1 then some 4
  else if w 6 2 ≠ 5 then some 6
  else match zero 0x19 7, zero 0x50 48 with
    | some o, _ => some o
    | none, some o => some o
    | none, none =>
      (List.range 5).findSome? (fun i =>
        let e := 0xE0 + 64 * i
        if w e 4 ≠ i + 1 then some e else if w (e + 12) 4 ≠ 0 then some (e + 12) else none)

/-- The offset and length of a part. -/
def Dev.partOf (d : Dev) (slot i : Nat) : Nat × Nat := (d.manWord slot (0xE4 + 64 * i) 4, d.manWord slot (0xE8 + 64 * i) 4)

/-- Whether a part is in its place: aligned, past the manifest, within the slot and clear of the others. -/
def Dev.partOk (d : Dev) (slot i : Nat) : Bool :=
  let p := d.partOf slot i
  p.1 % 0x1000 == 0 && decide (0x1000 ≤ p.1) && decide (p.1 + p.2 ≤ 0x2000000) &&
    (List.range 5).all (fun j => j == i || decide (p.1 + p.2 ≤ (d.partOf slot j).1) ||
      decide ((d.partOf slot j).1 + (d.partOf slot j).2 ≤ p.1))

/-- The verification of the image in a slot (R461): the code of the first check that fails with its record context. -/
def Dev.verify (d : Dev) (slot : Nat) : Option (Nat × List Nat) :=
  match d.manifestBad slot with
  | some o => some (Err.IMG_MANIFEST_BAD, [slot, o])
  | none =>
    let key := d.manWord slot 0x16 1
    let pub := d.slotBytes slot 0x80 96
    let e := d.tlyEntry (10 + key)
    let counter := d.tlyNum 14
    let svn := d.manWord slot 8 4
    if 3 < key ∨ e.state ≠ 1 ∨ sha384 pub ≠ e.value then some (Err.IMG_KEY_BAD, [slot, key])
    else if !ecdsaValid pub (sha384 (d.slotBytes slot 0 0x220)) (d.slotBytes slot 0x220 96) then some (Err.IMG_SIG_BAD, [slot])
    else if svn < counter ∨ 64 < svn then some (Err.IMG_ROLLBACK, [slot, svn, counter])
    else match firstWhere 5 (fun i => !d.partOk slot i) with
      | some i => some (Err.IMG_PART_BAD, [slot, i])
      | none =>
        match firstWhere 5 (fun i =>
          let p := d.partOf slot i
          sha384 (d.slotBytes slot p.1 p.2) != d.slotBytes slot (0xF0 + 64 * i) 48) with
        | some i => some (Err.IMG_PART_BAD, [slot, i])
        | none => none

/-- A verification whose failure is shown in VCODE (R466). -/
def Dev.verifySlot (d : Dev) (slot : Nat) : Bool × Dev :=
  match d.verify slot with
  | none => (true, d)
  | some (c, _) => (false, d.updImg (fun i => { i with vcode := c }))

/-! ## Updates (R462 to R465) -/

/-- The source of a session and its node, of a command's origin. -/
def updSource (o : Nat) : Nat × Nat := if o < 3 then (o, 0) else (3, o - 3)

/-- A command of the open session, whose number is a payload's first item (R462). -/
def Dev.updRun (d : Dev) (o : Nat) (f : HostFrame) (named : Nat) (g : Session → Dev → Dev) : Dev :=
  match d.img.session with
  | some s => if named = d.img.number then g s d else (d.raise Err.IMG_SESSION [named]).answer o f Err.IMG_SESSION []
  | none => (d.raise Err.IMG_SESSION [named]).answer o f Err.IMG_SESSION []

/-- UPD_OPEN (R463). -/
def execUpdOpen (o tag : Nat) (s : State) := s.run fun d => d.hostRun o tag 0x50 fun f d =>
  let total := f.word 0
  let src := updSource o
  if f.payload.length ≠ 4 ∨ total < 4096 ∨ 0x2000000 < total then d.argBad o f 0
  else match d.img.session with
    | some x =>
      (d.raise Err.IMG_BUSY [src.1, x.src, d.img.number]).answer o f Err.IMG_BUSY [x.src, x.node, d.img.number]
    | none =>
      let d := if d.img.phase = 1 then d.bootPut (fun i => { i with phase := 0 }) else d
      let d := d.updImg (fun i => { i with number := (i.number + 1) % 65536, session := some ⟨src.1, src.2, total, [], [], false, d.tick⟩ })
      d.answer o f 0 [d.img.number]

/-- The session with a field changed. -/
def Dev.updSession (d : Dev) (f : Session → Session) : Dev := d.updImg (fun i => { i with session := i.session.map f })

/-- The bytes that a block at an offset must have, or `none` where the offset is bad (R464). -/
def blockLen (total ofs : Nat) : Option Nat := if ofs % 4096 = 0 ∧ ofs < total then some (min 4096 (total - ofs)) else none

/-- A block accepted: its sector erased at the first block that lands there, its data programmed (R464). -/
def Dev.blockStore (d : Dev) (x : Session) (ofs : Nat) (data : List Nat) : Dev :=
  let sec := ofs / 0x10000
  let d := if x.erased.contains sec then d else d.flashErase (slotOfs 2 + 0x10000 * sec) 0x10000
  (d.flashProgram (slotOfs 2 + ofs) data).updSession (fun x => { x with
    blocks := x.blocks ++ [ofs], erased := if x.erased.contains sec then x.erased else x.erased ++ [sec], verified := false })

/-- UPD_BLOCK (R464). -/
def execUpdBlock (o tag : Nat) (s : State) := s.run fun d => d.hostRun o tag 0x51 fun f d =>
  let ofs := f.word 1
  let len := f.word 2
  let data := f.payload.drop 16
  if f.payload.length < 16 ∨ data.length ≠ len then d.argBad o f 8
  else d.updRun o f (f.word 0 % 65536) fun x d =>
    if blockLen x.total ofs ≠ some len then (d.raise Err.IMG_OFFSET_BAD [ofs, len]).answer o f Err.IMG_OFFSET_BAD []
    else if crc32c data ≠ f.word 3 then (d.raise Err.IMG_BLOCK_CRC [ofs]).answer o f Err.IMG_BLOCK_CRC []
    else if !d.flashWindow then (d.raise Err.MEM_FLASH_TEMP [w32 d.tCd, Config.recordNumber Err.MEM_FLASH_TEMP 3]).answer o f Err.MEM_FLASH_TEMP []
    else if x.blocks.contains ofs then
      if data.map (· % 256) = d.slotBytes 2 ofs len then (d.updSession (fun x => { x with last := d.tick })).answer o f 0 []
      else (d.raise Err.IMG_BLOCK_CONFLICT [ofs]).answer o f Err.IMG_BLOCK_CONFLICT []
    else ((d.blockStore x ofs data).updSession (fun x => { x with last := d.tick })).answer o f 0 []

/-- UPD_STATUS: the blocks received and the lowest missing offset (R462). -/
def execUpdStatus (o tag : Nat) (s : State) := s.run fun d => d.hostRun o tag 0x52 fun f d =>
  if f.payload.length ≠ 4 then d.argBad o f 0
  else d.updRun o f (f.word 0 % 65536) fun x d =>
    let n := (x.total + 4095) / 4096
    let missing := ((List.range n).map (4096 * ·)).find? (fun b => !x.blocks.contains b)
    d.answer o f 0 [x.blocks.length, missing.getD x.total]

/-- UPD_VERIFY: the result of R461 on STAGING and the failing part (R462). -/
def execUpdVerify (o tag : Nat) (s : State) := s.run fun d => d.hostRun o tag 0x53 fun f d =>
  if f.payload.length ≠ 4 then d.argBad o f 0
  else d.updRun o f (f.word 0 % 65536) fun _ d =>
    let d := d.updSession (fun x => { x with last := d.tick })
    match d.verify 2 with
    | none => (d.updSession (fun x => { x with verified := true })).answer o f 0 [0, 0]
    | some (c, ctx) =>
      let d := (d.updImg (fun i => { i with vcode := c })).raise c ctx
      d.answer o f c [c, if c = Err.IMG_PART_BAD then ctx.getD 1 0 else 0]

/-- Entries of the flash moved from one slot to another (R466): a copy of 32 MB. -/
def Dev.copySlot (d : Dev) (src dst : Nat) : Dev :=
  let a := flashKey (slotOfs src)
  let b := flashKey (slotOfs dst)
  let n := 0x2000000
  let moved := (d.mem.filter (fun c => decide (a ≤ c.1) && decide (c.1 < a + n))).map (fun c => (c.1 - a + b, c.2))
  { d with mem := d.mem.filter (fun c => decide (c.1 < b)) ++ moved ++ d.mem.filter (fun c => decide (b + n ≤ c.1)) }

/-- UPD_ACTIVATE (R465); in recovery it copies STAGING to ACTIVE (R469). -/
def execUpdActivate (o tag : Nat) (s : State) := s.run fun d => d.hostRun o tag 0x54 fun f d =>
  if f.payload.length ≠ 4 then d.argBad o f 0
  else d.updRun o f (f.word 0 % 65536) fun x d =>
    if !x.verified then (d.raise Err.IMG_NOT_VERIFIED [d.img.number]).answer o f Err.IMG_NOT_VERIFIED []
    else
      let d := d.updImg (fun i => { i with session := none })
      let d := if d.img.recovery then (d.bootPut (fun i => { i with phase := 3, stagingBad := false })).updImg (fun i => { i with copying := true })
        else d.bootPut (fun i => { i with phase := 1, stagingBad := false })
      d.answer o f 0 []

/-- UPD_ABORT: the session ends (R465). -/
def execUpdAbort (o tag : Nat) (s : State) := s.run fun d => d.hostRun o tag 0x55 fun f d =>
  if f.payload.length ≠ 4 then d.argBad o f 0
  else d.updRun o f (f.word 0 % 65536) fun _ d => (d.updImg (fun i => { i with session := none })).answer o f 0 []

/-- IMG_LAPSED: 60 s after its last accepted command the session lapses (R465). -/
def execImgLapsed (s : State) := s.run fun d =>
  match d.img.session with
  | some x =>
    if 60000 ≤ msBetween x.last d.tick then
      (d.updImg (fun i => { i with session := none })).raise Err.IMG_LAPSED [d.img.number, x.src]
    else d
  | none => d

/-! ## Registers of the image block -/

/-- IMG_STAT. -/
def Dev.imgStat (d : Dev) : Nat :=
  let i := d.img
  i.booted * 2 ^ 30 + b2n i.trial * 2 ^ 29 + i.trialCnt % 4 * 2 ^ 27 + i.phase * 2 ^ 24 + b2n i.deferred * 2 ^ 23 +
    b2n i.restored * 2 ^ 22 + b2n i.stagingBad * 2 ^ 21 + i.vcode

/-- IMG_SESS. -/
def Dev.imgSess (d : Dev) : Nat :=
  match d.img.session with
  | some x =>
    2 ^ 31 + x.src * 2 ^ 28 + x.node % 16 * 2 ^ 24 + min 255 (msBetween x.last d.tick / 1000) * 65536 + d.img.number
  | none => d.img.number

/-- What an IMG register reads. -/
def Dev.imgView (d : Dev) (off : Nat) : Option Nat :=
  match off with
  | 0 => some d.imgStat
  | 4 => some (b2n d.img.confirmWait)
  | 8 => some d.img.ver
  | 12 => some (d.tlyNum 14 * 65536 + d.img.svn % 256)
  | 16 => some d.imgSess
  | 20 => some (d.img.drive % 65536 * 65536 + d.img.safety % 65536)
  | _ => none

/-- IMG_INFO: IMG_STAT, version and SVN of each slot, key-slot states and hashes, session (R462). -/
def execImgInfo (o tag : Nat) (s : State) := s.run fun d => d.hostRun o tag 0x56 fun f d =>
  if f.payload.length ≠ 0 then d.argBad o f 0
  else
    let slots := (List.range 3).flatMap (fun k => [d.manWord k 0xC 4, d.manWord k 8 4])
    let keys := (List.range 4).foldl (fun a k => a + (d.tlyEntry (10 + k)).state * 4 ^ k) 0
    let hashes := (List.range 4).flatMap (fun k => (d.tlyEntry (10 + k)).value)
    d.reply o f.tag f.addr 0 (payload ([d.imgStat] ++ slots ++ [keys]) ++ hashes ++ payload [d.imgSess])

/-! ## The boot decision (R466) -/

/-- An image boots: the device runs it, and shows its version, SVN and settings formats. -/
def Dev.bootSlot (d : Dev) (slot : Nat) (trial : Bool) : Dev :=
  let d := d.updImg (fun i => { i with
    booted := slot, trial := trial, recovery := false, copying := false, ver := d.manWord slot 0xC 4, svn := d.manWord slot 8 4,
    drive := d.manWord slot 0x12 2, safety := d.manWord slot 0x14 2 })
  let d := d.when trial (fun d => d.updImg (fun i => { i with recs := i.recs ++ [(Err.IMG_TRIAL, [i.trialCnt, i.ver])] }))
  -- the HV-die trim is written with the pin-function map of the tally (R520); a blank entry reads 0x3F_FFFF
  let map := if (d.tlyEntry 7).blank then 0x3FFFFF else d.tlyNum 7 % 2 ^ 22
  { d with sys := { d.sys with run := .running, pinMap := map } }

/-- ROM recovery (R469). -/
def Dev.bootRecovery (d : Dev) : Dev :=
  let d := d.updImg (fun i => { i with booted := 2, trial := false, recovery := true, copying := false })
  { d with sys := { d.sys with run := .absent } }.raise Err.IMG_RECOVERY [d.sys.bootMode, d.img.vcode]

/-- The record of a deferred activation. -/
def Dev.bootDefer (d : Dev) : Dev :=
  let d := d.bootPut (fun i => { i with deferred := true })
  d.updImg (fun i => { i with recs := i.recs ++ [(Err.IMG_UPD_DEFERRED_TEMP, [i.phase, w32 d.tCd])] })

/-- A copy of R466 begins: the device stays absent until it ends (R467). -/
def Dev.bootCopying (d : Dev) (phase : Nat) : Dev :=
  let d := (d.bootPut (fun i => { i with phase := phase, deferred := false })).updImg (fun i => { i with copying := true, recovery := false })
  { d with sys := { d.sys with run := .absent } }

/-- RESTORE (R466). `cause` is that of IMG_FALLBACK. -/
def Dev.bootRestore (d : Dev) (cause : Nat) : Dev :=
  let d := d.updImg (fun i => { i with phase := 5 })
  let v := d.verifySlot 1
  if !v.1 then v.2.bootStore.bootRecovery
  else if !d.flashWindow then v.2.bootStore.bootSlot 1 false
  else (v.2.bootCopying 5).updImg (fun i => { i with recs := i.recs ++ [(Err.IMG_FALLBACK, [cause])] })

/-- No phase is under way: ACTIVE, else FALLBACK through RESTORE, else recovery (R466). -/
def Dev.bootIdle (d : Dev) : Dev :=
  let a := d.verifySlot 0
  if a.1 then a.2.bootSlot 0 false
  else
    let b := a.2.verifySlot 1
    if b.1 then b.2.bootRestore 3 else b.2.bootRecovery

/-- TRIAL (R466). -/
def Dev.bootTrial (d : Dev) : Dev :=
  if d.img.reject then d.bootRestore 2
  else if d.img.trialCnt = 3 then d.bootRestore 1
  else (d.bootPut (fun i => { i with trialCnt := i.trialCnt + 1 })).bootSlot 0 true

/-- COPY_ACT (R466). -/
def Dev.bootCopyAct (d : Dev) : Dev := if d.flashWindow then d.bootCopying 3 else d.bootDefer.bootSlot 1 false

/-- COPY_FB (R466). -/
def Dev.bootCopyFb (d : Dev) : Dev := if d.flashWindow then d.bootCopying 2 else d.bootDefer.bootSlot 0 false

/-- The decision from the phase of the boot state. -/
def Dev.bootPhase (d : Dev) : Dev :=
  match d.img.phase with
  | 1 =>
    let v := d.verifySlot 2
    if !v.1 then (v.2.bootPut (fun i => { i with stagingBad := true, phase := 0 })).bootIdle
    else if d.flashWindow then v.2.bootCopying 2
    else v.2.bootDefer.bootSlot 0 false
  | 2 => d.bootCopyFb
  | 3 => d.bootCopyAct
  | 4 => d.bootTrial
  | 5 => d.bootRestore 1
  | _ => d.bootIdle

/-- A counter that waited for its window is programmed at a start without CONFIRM (R468). -/
def Dev.bootSvn (d : Dev) : Dev :=
  let n := d.img.pendSvn
  if n = 0 ∨ d.img.trial then d
  else
    let r := d.tlyWrite 14 0 [n % 256] 7 false
    if r.1 = 0 then r.2.bootPut (fun i => { i with pendSvn := 0 }) else d

/-- BOOT_DECISION: the boot ROM decides (R466). BOOT_MODE 0b11, and 0b10 while the debug lock is SEALED, act as 0b00. -/
def execBootDecision (s : State) := s.run fun d =>
  if d.sys.run ≠ .absent ∨ d.img.copying then d
  else
    let d := (d.bootLoad).updImg (fun i => { i with restored := false, vcode := 0, recs := [], confirmWait := false })
    if d.sys.bootMode = 1 then d.bootRecovery
    else if d.sys.bootMode = 2 ∧ d.tlyLock ≠ 2 then d.bootSlot 1 false
    else
      let d := d.bootPhase
      if d.sys.run = .running then d.bootSvn else d

/-- IMAGE_COPY_DONE: a copy of R466 ends and is verified; a copy that fails its verification is made again (log 49). -/
def execImageCopyDone (ok : Bool) (s : State) := s.run fun d =>
  if !d.img.copying then d
  else if !ok then d
  else match d.img.phase with
    | 2 => ((d.copySlot 0 1).bootPut (fun i => { i with phase := 3 })).bootCopyAct
    | 3 => ((d.copySlot 2 0).bootPut (fun i => { i with phase := 4, trialCnt := 0 })).bootTrial
    | 5 =>
      let d := (d.copySlot 1 0).bootPut (fun i => { i with stagingBad := true, reject := false, phase := 0 })
      (d.updImg (fun i => { i with restored := true })).bootSlot 0 false
    | _ => d

/-! ## Confirmation (R468) -/

/-- A tally change at CONFIRM, queued behind those before it, or refused as R474 says. -/
def Dev.confirmWrite (d : Dev) (e op : Nat) (value : List Nat) : Dev :=
  if d.tlySame e op value then d
  else match d.tlyRefusal e op value false with
    | some (c, ctx) => (d.tlyStat (b2n (d.tly.ops != [])) c).raise c ctx
    | none => { d.tlyStat 1 0 with tly := { d.tly with ops := d.tly.ops ++ [⟨e, op, value, 7⟩] } }

/-- The effects of CONFIRM (R468): PHASE IDLE, the counter raised or left in PEND_SVN, the key slots of the manifest. -/
def Dev.confirmNow (d : Dev) : Dev :=
  let slot := d.img.booted
  let svn := d.img.svn
  let d := d.updImg (fun i => { i with phase := 0, trial := false, confirmWait := false, fmtDrop := true })
  let raiseSvn := decide (d.tlyNum 14 < svn)
  let cold := decide (d.tCd < 0 ∨ 1360 < d.tCd)
  let d := d.updImg (fun i => { i with pendSvn := if raiseSvn && cold then svn else 0 })
  let d := d.bootStore
  let d := if raiseSvn then d.confirmWrite 14 0 [svn % 256] else d
  let own := d.manWord slot 0x16 1
  let d := d.each ((maskBits 4 (d.manWord slot 0x17 1)).filter (fun k => k != own)) (fun d k =>
    d.confirmWrite (10 + k) 1 (d.tlyEntry (10 + k)).value)
  let new := d.manWord slot 0x18 1
  if new < 4 then d.confirmWrite (10 + new) 0 (d.slotBytes slot 0x20 48) else d

/-- CONFIRM written to IMG_CTL: it waits while the flash is outside its window (R468). -/
def Dev.confirm (d : Dev) : Dev :=
  if !d.img.trial then d.raise Err.IMG_NOT_TRIAL [Config.recordNumber Err.IMG_NOT_TRIAL 1]
  else if d.flashWindow then d.confirmNow
  else (d.updImg (fun i => { i with confirmWait := true })).raise Err.MEM_FLASH_TEMP [w32 d.tCd, Config.recordNumber Err.MEM_FLASH_TEMP 3]

/-- CONFIRM. -/
def execConfirm (s : State) := s.run Dev.confirm

/-- REJECT sets REJECT in the boot state, on trial only; the warm reset that it requests is the caller's (R468). -/
def Dev.rejectMark (d : Dev) : Dev := d.bootPut (fun i => { i with reject := true })

/-- TEMPERATURE_READING: the sensors have converted (R481, R483, R487); a CONFIRM that waits completes when the window returns (R468). -/
def execTemperatureReading (raws : List Int) (lost : Nat) (s : State) := s.run fun d =>
  let d := d.temperatures raws lost
  if d.img.confirmWait && d.flashWindow then d.confirmNow else d

end Sys2Proof.Machine
end

