-- ==== Sys2Proof/Machine/Library.lean ====
section
/-! DEFINITION. Machine/Library.lean: the commands of the drive library's contexts and their status words (R215 to R217, R220, R225,
R228 to R231, R238). A library context's run is a Conath program like any other; what is given here is how it answers a command. -/

namespace Sys2Proof.Machine

/-- The address of a context's status word in its engine's data memory: state offset 0 (R216). -/
def Dev.libAddr (d : Dev) (c : Nat) : Nat := d.g (Reg.CTX_W6_STATE_BASE c)

/-- A library context's status word (R216). -/
def Dev.libStatus (d : Dev) (c : Nat) : Nat := d.dmWord (d.ctxEng c) (d.libAddr c)

/-- STATE and REASON of a status word. -/
def libState (w : Nat) : Nat := bits w 19 16
def libReason (w : Nat) : Nat := bits w 15 8

/-- The device with a library context's status word set. -/
def Dev.libPut (d : Dev) (c w : Nat) : Dev := d.setDm (d.ctxEng c) (d.libAddr c) w

/-- The CMD word of an operation: SEQ differs from the word that stands (R215). -/
def cmdWord (old op arg : Nat) : Nat := (1 - bits old 22 22) * 2 ^ 22 + op % 16 * 2 ^ 16 + arg % 65536

/-- Whether a context that acts on commands is bound to a conditioner that passes them unchanged (R215). -/
def Dev.libBound (d : Dev) (c j : Nat) : Bool :=
  d.g (Reg.SPC_CFG_KIND j) == 4 && d.word (Reg.SPC_SCALE j) == 0x1000000 && d.word (Reg.SPC_OFS j) == 0 &&
    d.word (Reg.SPC_DB j) == 0 && d.word (Reg.SPC_RATE j) == 0 &&
    (List.range 64).any (fun p => d.word (Reg.CTX_IN c p) == 0x50000000 + j)

/-- Whether a context runs: in RUN or SHADOW. -/
def Dev.libRuns (d : Dev) (c : Nat) : Bool := d.ctxState c == 2 || d.ctxState c == 3

/-- A command word written to its conditioner, delivered, and seen by the context in its next run (R215, R217): SEQ_ACK shows it, and
`act` gives the new STATE, or the REASON of a refusal, from the status word before. -/
def Dev.libCommand (d : Dev) (c j op arg : Nat) (act : Nat → Except Nat Nat) : Dev :=
  if 16 ≤ j ∨ c = 0 ∨ 256 ≤ c then d
  else
    let w := cmdWord (d.g (Reg.SPC_HOST_VALUE j)) op arg
    let d := (d.s (Reg.SPC_HOST_VALUE j) w).spcUpdate j
    if !d.libBound c j || !d.libRuns c then d
    else
      let old := d.libStatus c
      let ack := setBits old 22 22 (bits w 22 22)
      match act old with
      | .error reason => d.libPut c (setBits ack 15 8 reason)
      | .ok st => d.libPut c (setBits (setBits ack 19 16 st) 15 8 0)

/-- The state that START leads to (R220, R225, R228, R238): an image that lists no such command in its state refuses it. -/
def libStart (k : LibImage) (st : Nat) : Except Nat Nat :=
  match k, st with
  | .focPm, 0 => .ok 1
  | .afeI, 0 => .ok 1
  | .focIm, 0 => .ok 2
  | .gpll, _ => .ok 0
  | .fly, 0 => .ok 1
  | .hvc, 0 => .ok 1
  | _, _ => .error 3

/-- The state that STOP leads to. -/
def libStop (k : LibImage) (st : Nat) : Except Nat Nat :=
  match k, st with
  | .focPm, 1 => .ok 0
  | .afeI, 1 => .ok 0
  | .focIm, 1 => .ok 0
  | .focIm, 2 => .ok 0
  | .hvc, 1 => .ok 3
  | .hvc, 2 => .ok 3
  | _, _ => .error 3

/-- The state that CLEAR leads to: it returns a current loop's FAULT to FOLLOW (R220). -/
def libClear (k : LibImage) (st : Nat) : Except Nat Nat :=
  match k, st with
  | .focPm, 3 => .ok 0
  | .focIm, 3 => .ok 0
  | .afeI, 3 => .ok 0
  | _, _ => .error 3

/-- LIB_START: START to a library context through conditioner j (R215). -/
def execLibStart (k : LibImage) (c j arg : Nat) (s : State) := s.run fun d =>
  d.libCommand c j 1 arg (fun w => libStart k (libState w))

/-- LIB_STOP. -/
def execLibStop (k : LibImage) (c j arg : Nat) (s : State) := s.run fun d =>
  d.libCommand c j 2 arg (fun w => libStop k (libState w))

/-- LIB_CLEAR. -/
def execLibClear (k : LibImage) (c j arg : Nat) (s : State) := s.run fun d =>
  d.libCommand c j 4 arg (fun w => libClear k (libState w))

/-! ## Flying start (R228 to R231) -/

/-- The decision that the table gives for an estimate (R229): 0 START, 1 CATCH, 2 CATCH_BRAKE, 3 WAIT, 4 RETRY, 5 REFUSE. `cap` is
IN5 ≠ 0. -/
def flyDecision (e : FlyEstimate) (cap : Bool) : Nat :=
  if !e.valid then (if e.attempt < 3 then 4 else 5)
  else if decide (-e.nStill ≤ e.n) && decide (e.n ≤ e.nStill) then 0
  else if decide (e.nOver < e.n) then 3
  else if decide (0 < e.n) then 1
  else if decide (-e.nRev ≤ e.n) then 2
  else if cap then 2 else 3

/-- The state that a decision leads to: START, CATCH and CATCH_BRAKE wait for the current loop in CATCH (DEDUCED, log 50). -/
def flyNext (code : Nat) : Nat := if code ≤ 2 then 4 else if code = 5 then 7 else 6

/-- A DECIDE of a FLY context in state DECIDE (R230, R231): the status word after it. An expired estimate takes it back to SENSE with
REASON 0x05; a code that the table does not permit is refused with REASON 0x04. -/
def flyDecide (e : FlyEstimate) (cap : Bool) (code : Nat) (w : Nat) : Nat :=
  if libState w ≠ 3 then setBits w 15 8 3
  else if e.expired then setBits (setBits (setBits w 19 16 1) 15 8 5) 7 7 0
  else if code ≠ flyDecision e cap then setBits w 15 8 4
  else setBits (setBits (setBits w 19 16 (flyNext code)) 15 8 (if code = 5 then 0x0A else 0)) 7 7 0

/-- Whether a FLY context has braking capacity: IN5 of its last run (R228). -/
def Dev.flyCap (d : Dev) (c : Nat) : Bool := (d.ctx c).snap.ins.getD 5 0 != 0

/-- A host's decision passed to a FLY context through conditioner j (R230): the REASON that the context shows and the device. -/
def Dev.libDecide (d : Dev) (k : LibImage) (c j code : Nat) (e : FlyEstimate) (who : Nat) : Nat × Dev :=
  if 16 ≤ j ∨ c = 0 ∨ 256 ≤ c then (3, d)
  else
    let w := cmdWord (d.g (Reg.SPC_HOST_VALUE j)) 3 code
    let d := (d.s (Reg.SPC_HOST_VALUE j) w).spcUpdate j
    if !d.libBound c j || !d.libRuns c then (3, d)
    else
      let ack := setBits (d.libStatus c) 22 22 (bits w 22 22)
      let new := if k = .fly then flyDecide e (d.flyCap c) code ack else setBits ack 15 8 3
      let d := d.libPut c new
      let done : Bool := k == .fly && libState ack == 3 && libState new != 3
      (libReason new, if done then d.decided 1 (0x100 + c) code who else d)

/-- LIB_DECIDE: DECIDE to a library context (R230). -/
def execLibDecide (k : LibImage) (c j code : Nat) (e : FlyEstimate) (s : State) := s.run fun d => (d.libDecide k c j code e 0).2

/-! ## The status poll (R216) -/

/-- The status word that firmware read last. -/
def Dev.libSeen (d : Dev) (c : Nat) : Nat := ((d.hst.libs.find? (fun x => x.ctx == c)).map LibSeen.word).getD 0

/-- The device with the status word noted as read. -/
def Dev.libNote (d : Dev) (k : LibImage) (c w : Nat) : Dev :=
  { d with hst := { d.hst with libs := d.hst.libs.filter (fun x => x.ctx != c) ++ [⟨c, k, w⟩] } }

/-- The channels that a context is bound to are disarmed: firmware's answer to a current loop in FAULT (R220); those that were armed are
noted (R438). -/
def Dev.libDisarm (d : Dev) (c : Nat) : Dev :=
  d.each (maskBits 6 (d.ctxBind c)) (fun d n => (d.noteFault n (if d.on (Reg.PWM_CH_STAT_SAFE n) then 0 else 2 ^ n)).makeSafe n)

/-- LIB_STATUS_POLL: firmware reads a library context's status word (R216): a change of STATE or REASON raises ERR_LIB_STATUS; a FLY
context that sets PROPOSE makes its proposal (R230), the code of its OUT4; a current loop that enters FAULT has its channels disarmed. -/
def execLibStatusPoll (k : LibImage) (c : Nat) (s : State) := s.run fun d =>
  if c = 0 ∨ 256 ≤ c ∨ !d.libRuns c ∨ !d.on Reg.HST_CTL_SV_READY then d
  else
    let w := d.libStatus c
    let old := d.libSeen c
    let d := d.libNote k c w
    let d := if libState w ≠ libState old ∨ libReason w ≠ libReason old then
        d.raiseFw 0 Err.ERR_LIB_STATUS (errSev Err.ERR_LIB_STATUS) [c, old, w] else d
    let d := if k = .fly ∧ w.testBit 7 ∧ !old.testBit 7 then d.propose 1 (0x100 + c) (((d.ctx c).latch.getD 4 none).getD 0) else d
    if (k = .focPm ∨ k = .focIm ∨ k = .afeI) ∧ libState w = 3 ∧ libState old ≠ 3 then d.libDisarm c else d

end Sys2Proof.Machine
end

