-- ==== Sys2Proof/Machine/Wheels.lean ====
section
/-! DEFINITION. Machine/Wheels.lean: the start of a wheel, its source updates and staleness (R51 to R56, R206, R523). -/

namespace Sys2Proof.Machine

/-- A step axis's sample at a wheel (R54): the axis position and speed times SCALE. The rounding below 2^-40 turns is open (log 2). -/
def Dev.axisSample (d : Dev) (n : Nat) : Dev :=
  let a := d.axis (d.g (Reg.WHL_CFG_SEL n) % 4)
  let k : Int := d.word (Reg.WHL_SCALE n)
  let p := d.openDiv (a.p * k) (2 ^ 40)
  let v := p.2.openDiv (a.dir * a.v * k) (2 ^ 40)
  v.2.wheelSample n p.1 d.tb.rt 0 (some v.1)

/-- A write of WHL_n_CFG: the source fields are stored while EN = 0 (R8), and setting EN starts the wheel (R523). -/
def Dev.whlCfgWrite (d : Dev) (n v : Nat) : Dev :=
  let a := 0x30020100 + 0x40 * n
  let was := d.on (Reg.WHL_CFG_EN n)
  let d := d.regStore a a 0x30020000 v (lockIf was) Err.TB_RWL_REFUSED
  if !was && d.on (Reg.WHL_CFG_EN n) then
    let d := d.wheelStart n
    if d.g (Reg.WHL_CFG_SRC n) = 5 then d.axisSample n else d
  else d

/-- WHEEL_START: a write of WHL_n_CFG. -/
def execWheelStart (n v : Nat) (s : State) := s.run fun d => if n < 16 then d.whlCfgWrite n v else d

/-- The encoder's sample (R206): the count times SCALE, at the last counted edge, or now where none came since the last update. -/
def Dev.encSample (d : Dev) (n : Nat) : Dev :=
  let i := d.g (Reg.WHL_CFG_SEL n)
  let e := d.enc i
  let p : Int := e.cnt * (d.word (Reg.ENC_SCALE i) : Int) * 256
  let t := if e.fresh then e.edge else d.tb.rt
  (d.wheelSample n p t 0 none).updEnc i (fun e => { e with fresh := false })

/-- An SSI port's sample (R206): turns and fraction at the first falling clock edge; a frame in error gives none (R200). -/
def Dev.ssiSample (d : Dev) (n : Nat) : Dev :=
  let i := d.g (Reg.WHL_CFG_SEL n)
  let x := d.ssi i
  let tb := d.g (Reg.SSI_CFG_TURN_BITS i)
  let p : Int := (d.word (Reg.SSI_POS_HI i) : Int) * turn + (d.g (Reg.SSI_POS_LO_FRAC i) : Int) * 2 ^ 16
  if x.last ∨ x.ended.isNone then d else d.wheelSample n p x.at_ (2 ^ tb * turn) none

/-- A resolver's sample (R206): the angle within one turn; none while it is INVALID (R198). -/
def Dev.rsvSample (d : Dev) (n : Nat) : Dev :=
  let i := d.g (Reg.WHL_CFG_SEL n)
  if d.on (Reg.RSV_ANG_INVALID i) then d
  else d.wheelSample n ((d.g (Reg.RSV_ANG_ANGLE i) : Int) * 2 ^ 16) (d.mea.rsvs.getD i {}).at_ turn none

/-- WHEEL_SOURCE_UPDATE: the wheel's source delivers its sample (R51, R52): an encoder every 250 ticks, a resolver with each conversion,
an SSI port with each frame, a step axis every tick. Engine outputs and remote wheels deliver theirs in OUTPUT_WRITE and in
SHARE_BUFFER_COMPLETE. -/
def execWheelSourceUpdate (n : Nat) (s : State) := s.run fun d =>
  if n < 16 ∧ d.on (Reg.WHL_CFG_EN n) then
    match d.g (Reg.WHL_CFG_SRC n) with
    | 1 => if d.g (Reg.WHL_CFG_SEL n) < 6 then d.encSample n else d
    | 2 => if d.g (Reg.WHL_CFG_SEL n) < 3 then d.rsvSample n else d
    | 3 => if d.g (Reg.WHL_CFG_SEL n) < 4 then d.ssiSample n else d
    | 5 => d.axisSample n
    | _ => d
  else d

/-- TB_WHEEL_STALE: AGE exceeds WHL_LIM.STALE (R56); a pattern on the wheel goes stale with it (R167). -/
def execTbWheelStale (n : Nat) (s : State) := s.run fun d =>
  let age := d.whlAge n
  if n < 16 ∧ d.on (Reg.WHL_CFG_EN n) ∧ goesStale (d.g (Reg.WHL_CFG_SRC n)) ∧ !d.on (Reg.WHL_STAT_STALE n) ∧
      d.g (Reg.WHL_LIM_STALE n) < age then
    ((d.s (Reg.WHL_STAT_STALE n) 1).raise Err.TB_WHEEL_STALE [n, age]).patStale n
  else d

end Sys2Proof.Machine
end

