-- ==== Sys2Proof/Machine/Bells.lean ====
section
/-! DEFINITION. Machine/Bells.lean: the Bell scheduler: posts and cancels, launches and their actions, ring Bells, and the debug halt of
the time base (R49, R57, R60 to R70, R348, R349). -/

namespace Sys2Proof.Machine

/-- The device with its time base changed. -/
def Dev.updTb (d : Dev) (f : Tb → Tb) : Dev := { d with tb := f d.tb }

/-! ## An entry (R60) -/

/-- WHEN of a time Bell, in RT64. -/
def Bell.when (b : Bell) : Nat := b.w1 * 2 ^ 32 + b.w0
/-- The angle of an angle Bell, in 2^-40 turns. -/
def Bell.angle (b : Bell) : Int := toInt 64 (b.w1 * 2 ^ 32 + b.w0) * 256
/-- The fields of W2. -/
def Bell.wheel (b : Bell) : Nat := bits b.w2 31 28
def Bell.dir (b : Bell) : Nat := bits b.w2 27 26
def Bell.isAngle (b : Bell) : Bool := b.w2.testBit 25
def Bell.ring (b : Bell) : Bool := b.w2.testBit 24
def Bell.action (b : Bell) : Nat := bits b.w2 23 16
def Bell.tag (b : Bell) : Nat := b.w2 % 65536
/-- The handle (R68). -/
def Bell.handle (b : Bell) : Nat := b.gen % 256 * 256 + b.idx
/-- Whether the entry repeats: INTERVAL ≠ 0 on a local Bell (R60, R63). -/
def Bell.repeats (b : Bell) : Bool := !b.ring && b.w4 != 0

/-- The entries in use. -/
def Dev.occ (d : Dev) : Nat := d.tb.bells.length

/-- The device with a Bell entry changed or freed. -/
def Dev.setBell (d : Dev) (idx : Nat) (b : Option Bell) : Dev :=
  d.updTb (fun t => { t with bells := t.bells.filterMap (fun x => if x.idx = idx then b else some x) })

/-- The lowest free entry. -/
def Dev.freeEntry (d : Dev) : Option Nat := firstWhere 256 (fun i => !d.tb.bells.any (fun b => b.idx == i))

/-- A Bell takes the lowest free entry; the entry's generation counts its uses (R68). -/
def Dev.bellPut (d : Dev) (idx : Nat) (w : List Nat) (kind org orgH : Nat) : Dev :=
  let g := d.tb.gens.getD idx 0
  let b : Bell := ⟨idx, g, w.getD 0 0, w.getD 1 0, w.getD 2 0, w.getD 3 0, w.getD 4 0, kind, none, org, orgH, 0, 0⟩
  d.updTb (fun t => { t with
    bells := t.bells.filter (fun x => x.idx < idx) ++ [b] ++ t.bells.filter (fun x => idx < x.idx),
    gens := updAt t.gens idx (fun _ => (g + 1) % 256) })

/-! ## Checks (R61, R66) -/

/-- The bits that ARG may use, by action, and whether a value within them is in range (R61). -/
def argOk (action arg : Nat) : Bool :=
  let within (m : Nat) : Bool := arg &&& (2 ^ 32 - 1 - m) == 0
  match action with
  | 1 => within 0xFF
  | 2 => within 0x3F
  | 3 => within 0xFF17 && decide (arg % 8 ≤ 5) && decide (bits arg 15 8 ≤ 15)
  | 4 => within 0x1FF
  | 5 => within 0xFFFF
  | 6 => within 0xF3 && decide (1 ≤ bits arg 7 4) && decide (bits arg 7 4 ≤ 3)
  | 7 => within 0x11F
  | 8 => within 0x10F
  | 9 => within 0xFFFF
  | 10 => within 0xFF && decide (arg ≤ 7)
  | _ => false

/-- The contexts that an action names (R66). -/
def actionCtxs (action arg : Nat) : List Nat :=
  match action with
  | 1 => [arg % 256]
  | 4 => [arg % 256]
  | 5 => [arg % 256, bits arg 15 8]
  | _ => []

/-- Check 1: the number of the first word in error (R66, log 51). -/
def Dev.bellBad (d : Dev) (b : Bell) : Option Nat :=
  if b.action = 0 ∨ 10 < b.action then some 2
  else if b.isAngle && (b.dir == 0 || b.ring || !d.on (Reg.WHL_CFG_EN b.wheel)) then some 2
  else if !b.isAngle && (b.dir != 0 || b.wheel != 0) then some 2
  else if !argOk b.action b.w3 then some 3
  else if (actionCtxs b.action b.w3).any (fun c => d.ctxState c == 0) then some 3
  else if b.ring && (b.w4 % 65536 == 0 || decide (65535 < b.w4)) then some 4
  else if b.isAngle && b.w4 != 0 && b.dir == 3 then some 4
  else none

/-- A wheel's position as 64 bits, in 2^-32 turns. -/
def Dev.posWord (d : Dev) (n : Nat) : Nat := ofInt 64 ((d.wheel n).pos / 256)

/-- Check 2: the entry has passed already (R66). -/
def Dev.bellPast (d : Dev) (b : Bell) : Bool :=
  if b.isAngle then
    let p := (d.wheel b.wheel).pos
    (b.dir == 1 && decide (b.angle ≤ p)) || (b.dir == 2 && decide (p ≤ b.angle))
  else decide (b.when < d.tb.rt + 64)

/-- The refusal of a post: its code with its record context (R66, R74). -/
def Dev.bellRefusal (d : Dev) (core : Nat) (b : Bell) : Option (Nat × List Nat) :=
  match d.bellBad b with
  | some w => some (Err.TB_BELL_BAD, [core, b.tag, w])
  | none =>
    if d.bellPast b then
      some (Err.TB_BELL_PAST, [core, b.tag, b.w0, b.w1] ++ (if b.isAngle then rtWords (d.posWord b.wheel) else rtWords d.tb.rt))
    else if b.ring && decide (b.when < d.tb.rt + 96 * d.drg.cyc) then
      some (Err.TB_RING_LEAD, [core, b.tag, (b.when - d.tb.rt) / 32])
    else if 256 - d.g Reg.SCHED_CFG_RING_RES ≤ d.occ then some (Err.TB_BELL_FULL, [core, b.tag, d.occ])
    else none

/-! ## Posting and cancelling (R66 to R69) -/

/-- An accepted post (R67 to R69): a ring Bell shows its handle and clears the answers, and its own node accepts at once. -/
def Dev.bellAccept (d : Dev) (w : List Nat) : Nat × Dev :=
  let idx := (d.freeEntry).getD 0
  let h := d.tb.gens.getD idx 0 * 256 + idx
  let ring := (w.getD 2 0).testBit 24
  if ring then
    let own := if (w.getD 4 0).testBit d.me then 2 ^ d.me else 0
    let d := d.bellPut idx w 2 d.me h
    let d := d.updTb (fun t => { t with bells := t.bells.map (fun (b : Bell) => if b.idx = idx then { b with ack := own } else b) })
    (h, (d.setWord Reg.RBELL_HANDLE h).setWord Reg.RBELL_ACK own)
  else (h, d.bellPut idx w 0 0 0)

/-- The decision on a post of a core (R66, R67): RESULT and the handle. -/
def Dev.bellPost (d : Dev) (core : Nat) (w : List Nat) : Nat × Nat × Dev :=
  let b : Bell := ⟨0, 0, w.getD 0 0, w.getD 1 0, w.getD 2 0, w.getD 3 0, w.getD 4 0, 0, none, 0, 0, 0, 0⟩
  let occ := d.occ
  let r : Nat × Nat × Dev := match d.bellRefusal core b with
    | some (c, ctx) => (c, d.word (Reg.BELL_HANDLE core), d.raise c ctx)
    | none => let a := d.bellAccept w; (0, a.1, a.2)
  let d := ((r.2.2.s (Reg.BELL_RESULT_BUSY core) 0).s (Reg.BELL_RESULT_OCC core) occ).s (Reg.BELL_RESULT_RESULT core) r.1
  (r.1, r.2.1, if r.1 = 0 then d.setWord (Reg.BELL_HANDLE core) r.2.1 else d)

/-- The decision on a cancel of a core (R68): a Bell that has launched, or whose generation differs, is gone. -/
def Dev.bellCancel (d : Dev) (core handle : Nat) : Nat × Dev :=
  let occ := d.occ
  let hit := d.tb.bells.find? (fun b => b.handle == handle)
  let r : Nat × Dev := match hit with
    | some b => (0, d.setBell b.idx none)
    | none => (Err.TB_BELL_GONE, d.raise Err.TB_BELL_GONE [core, handle])
  (r.1, ((r.2.s (Reg.BELL_RESULT_BUSY core) 0).s (Reg.BELL_RESULT_OCC core) occ).s (Reg.BELL_RESULT_RESULT core) r.1)

/-- A request of a core, ignored while one is being decided (R66). -/
def Dev.bellAsk (d : Dev) (core : Nat) (cancel : Option Nat) : Dev :=
  if d.on (Reg.BELL_RESULT_BUSY core) ∨ 2 ≤ core then d
  else
    let w := (List.range 5).map (fun i => d.word (Reg.BELL_W core i))
    (d.s (Reg.BELL_RESULT_BUSY core) 1).updTb (fun t => { t with reqs := t.reqs ++ [⟨core, cancel, w⟩] })

/-- BELL_POST: a write of 1 submits the staged entry. -/
def execBellPost (core v : Nat) (s : State) := s.run fun d => if v % 2 = 1 then d.bellAsk core none else d

/-- BELL_CANCEL: a write of a handle. -/
def execBellCancel (core handle : Nat) (s : State) := s.run fun d => d.bellAsk core (some (handle % 65536))

/-- The request of a core that awaits its decision, taken. -/
def Dev.bellTake (d : Dev) (core : Nat) : Option (BellReq × Dev) :=
  (d.tb.reqs.find? (fun r => r.core == core)).map (fun r => (r, d.updTb (fun t => { t with reqs := t.reqs.erase r })))

/-- BELL_POST_DECISION: the scheduler decides a core's post (R66). -/
def execBellPostDecision (core : Nat) (s : State) := s.run fun d =>
  match d.bellTake core with
  | some (r, d') => if r.cancel.isNone then (d'.bellPost core r.words).2.2 else d
  | none => d

/-- BELL_CANCEL_DECISION: the scheduler decides a core's cancel (R68). -/
def execBellCancelDecision (core : Nat) (s : State) := s.run fun d =>
  match d.bellTake core with
  | some (r, d') => match r.cancel with
    | some h => (d'.bellCancel core h).2
    | none => d
  | none => d

/-! ## Actions (R61, R64) -/

/-- STEP (R61). -/
def Dev.bellStep (d : Dev) (arg : Nat) : Bool × Dev :=
  match bits arg 7 4 with
  | 1 => d.axStart (arg % 4)
  | 2 => d.axStop (arg % 4)
  | _ => d.axInvert (arg % 4)

/-- CAPTURE (R456). -/
def Dev.bellCapture (d : Dev) (arg : Nat) : Bool × Dev :=
  if arg.testBit 8 then
    let r := d.recStartMask (2 ^ (arg % 32))
    (r.1 == 0, r.2)
  else (true, d.recStop (arg % 32))

/-- GPO: an output set or cleared; a firmware write in the same tick does not undo it (R65, R12). -/
def Dev.bellGpo (d : Dev) (arg : Nat) : Dev :=
  let bit := 2 ^ (arg % 16)
  let old := d.g Reg.GO_OUT_LEVEL &&& (65535 - bit)
  (d.s Reg.GO_OUT_LEVEL (if arg.testBit 8 then old + bit else old)).updTb (fun t => { t with goBell := t.goBell ||| bit })

/-- RING_TX: the descriptor's message is queued on channel 2 (R349). -/
def Dev.bellRingTx (d : Dev) (k : Nat) : Bool × Dev :=
  if d.on (Reg.RTX_CFG_EN k) then
    (true, d.bulkQueue 2 (d.g (Reg.RTX_CFG_DEST k)) (d.on (Reg.RTX_CFG_BCAST k)) (d.bytes (d.word (Reg.RTX_ADDR k)) (max 1 (d.g (Reg.RTX_CFG_LEN k)))))
  else (false, d)

/-- The action of a Bell: whether it could be carried out, and its effect. -/
def Dev.bellAct (d : Dev) (b : Bell) : Bool × Dev :=
  let a := b.w3
  match b.action with
  | 1 =>
    let st := d.ctxState (a % 256)
    (st == 2 || st == 3 || st == 5, d.ctxTrigger (a % 256))
  | 2 => (true, d.each (maskBits 6 a) Dev.setCommit)
  | 3 => d.pwmMode (a % 8) (bits a 4 4) (bits a 15 8)
  | 4 =>
    let st := d.ctxState (a % 256)
    if st = 1 ∨ st = 2 ∨ st = 3 then (true, d.bankSwap (a % 256) (bits a 8 8) true) else (false, d)
  | 5 =>
    let i := bits a 15 8
    if d.handoverOk i && d.g (Reg.CTX_W0_SHADOW_OF i) == a % 256 then (true, d.armHandover i)
    else (false, d.raise Err.CE_HO_BAD [a % 256, i])
  | 6 => d.bellStep a
  | 7 => d.bellCapture a
  | 8 => (true, d.bellGpo a)
  | 9 => (true, d.raise Err.ERR_EVENT [a % 65536, b.handle, b.tag])
  | 10 => d.bellRingTx (a % 8)
  | _ => (false, d)

/-! ## Launching (R57, R62, R63) -/

/-- Whether an angle Bell's crossing lies in this tick (R57). -/
def Dev.crosses (d : Dev) (b : Bell) : Bool :=
  let w := d.wheel b.wheel
  let up := decide (w.prev < b.angle) && decide (b.angle ≤ w.pos)
  let down := decide (b.angle < w.prev) && decide (w.pos ≤ b.angle)
  d.on (Reg.WHL_CFG_EN b.wheel) && !d.on (Reg.WHL_STAT_STALE b.wheel) && !w.skip &&
    ((b.dir.testBit 0 && up) || (b.dir.testBit 1 && down))

/-- Whether a Bell is due in this tick: carried over, past its WHEN, or crossed. -/
def Dev.bellDue (d : Dev) (b : Bell) : Bool :=
  b.carried.isSome || (if b.isAngle then d.crosses b else decide (b.when ≤ d.tb.rt))

/-- The class of an action in the launch order, with its place within the class (R62): the GPO clears follow the sets. -/
def Bell.rank (b : Bell) : Nat :=
  match b.action with
  | 3 => 10 | 4 => 11 | 5 => 12
  | 2 => 20
  | 1 => 30
  | 6 => 40 | 7 => 41
  | 8 => if b.w3.testBit 8 then 50 else 51
  | 9 => 60
  | _ => 61

/-- Whether `a` launches before `b` (R62): carried ones first, in the order they kept. -/
def Bell.before (a b : Bell) : Bool :=
  let local_ : Bool := decide (a.rank < b.rank) || (a.rank == b.rank && decide (a.idx < b.idx))
  match a.carried, b.carried with
  | some x, some y => decide (x < y) || (x == y && local_)
  | some _, none => true
  | none, some _ => false
  | none, none => local_

/-- The first Bell of a list in the launch order. -/
def firstBell : List Bell → Option Bell
  | [] => none
  | b :: t => match firstBell t with
    | none => some b
    | some c => if c.before b then some c else some b

/-- The Bell that launches next in this tick. -/
def Dev.nextBell (d : Dev) : Option Bell := firstBell (d.tb.bells.filter d.bellDue)

/-- The entry after a launch: re-armed where it repeats, else free (R63). -/
def Bell.after (b : Bell) : Option Bell :=
  if b.repeats then
    let next : Nat :=
      if b.isAngle then
        let step : Int := (b.w4 : Int) * 2 ^ 16
        let a := toInt 64 (b.w1 * 2 ^ 32 + b.w0)
        ofInt 64 (if b.dir = 2 then a - step else a + step)
      else (b.when + 32 * b.w4) % 2 ^ 64
    some { b with w0 := next % 2 ^ 32, w1 := next / 2 ^ 32, carried := none }
  else none

/-- The posting entry of a ring Bell at its WHEN: targets without an answer are entered in NAK (R348). -/
def Dev.ringClose (d : Dev) (b : Bell) : Dev :=
  let open_ := b.w4 % 65536 &&& (65535 - (b.ack ||| b.nak))
  if open_ = 0 then d
  else
    let shown := d.word Reg.RBELL_HANDLE == b.handle
    let d := d.when shown (fun d => d.s Reg.RBELL_ACK_NAK (b.nak ||| open_))
    d.raise Err.TB_RING_REFUSED [b.handle, b.nak ||| open_]

/-- The launch of a Bell (R62 to R64). -/
def Dev.bellLaunch (d : Dev) (b : Bell) : Dev :=
  let late := b.carried.isSome || (!b.isAngle && decide (b.when + d.tb.lastInc ≤ d.tb.rt))
  let delay := match b.carried with
    | some t => d.tick - t
    | none => (d.tb.rt - b.when) / 32
  let d := d.setBell b.idx b.after
  let d := d.updTb (fun t => { t with launched := t.launched + 1 })
  let d := if b.kind = 2 then d.ringClose b else d
  if b.kind = 2 ∧ !b.w4.testBit d.me then d
  else
    let d := d.when late (fun d => (d.inc Reg.LATE_CNT_COUNT).raise Err.TB_BELL_LATE [b.handle, b.tag, delay])
    let r := d.bellAct b
    r.2.when (!r.1) (fun d => d.raise Err.TB_ACTION_FAIL [b.handle, b.tag, b.action])

/-- The launch of the Bell next in order, where it is of the kind given and fewer than eight have launched in this tick. -/
def Dev.launchNext (d : Dev) (angle : Bool) : Dev :=
  if d.tb.halted ∨ 8 ≤ d.tb.launched then d
  else match d.nextBell with
    | some b => if b.isAngle = angle then d.bellLaunch b else d
    | none => d

/-- TIME_BELL_LAUNCH: the time Bell that is next in the launch order launches (R62). -/
def execTimeBellLaunch (s : State) := s.run fun d => d.launchNext false

/-- ANGLE_BELL_LAUNCH: the angle Bell that is next in the launch order launches (R62). -/
def execAngleBellLaunch (s : State) := s.run fun d => d.launchNext true

/-- The Bells that are due at a tick's end and have not launched move to the next tick (R62). -/
def Dev.bellCarry (d : Dev) : Dev :=
  if d.tb.halted then d
  else d.updTb (fun t => { t with launched := 0, goBell := 0, bells := t.bells.map (fun (b : Bell) =>
    if b.carried.isNone && d.bellDue b && (b.isAngle || decide (8 ≤ t.launched)) then { b with carried := some d.tick } else b) })

/-! ## Ring Bells received (R69, R70, R348) -/

/-- RING_BELL_RECEIVED: a Bell frame with an origin, the handle there and the entry's words. -/
def execRingBellReceived (org h w0 w1 w2 w3 w4 : Nat) (s : State) := s.run fun d =>
  let tag := w2 % 65536
  let nak (d : Dev) : Dev := d.updDrg (fun r => { r with nakIn := r.nakIn ||| 2 ^ org })
  let ack (d : Dev) : Dev := d.updDrg (fun r => { r with ackIn := r.ackIn ||| 2 ^ org })
  if 16 ≤ org ∨ org = d.me ∨ !w4.testBit d.me ∨ !d.on Reg.DRG_STAT_ADMITTED then d
  else if d.tb.bells.any (fun b => b.kind == 1 && b.org == org && b.orgH == h) then ack d
  else if w1 * 2 ^ 32 + w0 < d.tb.rt then nak (d.raise Err.TB_RING_LATE [org, tag])
  else match d.freeEntry with
    | none => nak (d.raise Err.TB_BELL_FULL [org, tag, d.occ])
    | some i => ack (d.bellPut i [w0, w1, w2, w3, w4] 1 org h)

/-! ## Debug halt (R49, R173) -/

/-- TB_DEBUG_HALT: the debugger halts the time base: launches and extrapolation stop and every channel goes to the safe state. -/
def execTbDebugHalt (s : State) := s.run fun d =>
  if d.debugOpen && !d.tb.halted then (d.updTb (fun t => { t with halted := true })).forceMask 63 2 0 else d

/-- TB_DEBUG_RELEASE: the halt ends. -/
def execTbDebugRelease (s : State) := s.run fun d =>
  if d.tb.halted then (d.updTb (fun t => { t with halted := false })).forceOff 2 0 else d

/-! ## Get-home (R233) -/

/-- GETHOME_HANDOVER_POST: an encoder error on a channel with get-home enabled: firmware posts one HANDOVER Bell for each pair, both
with the WHEN given. -/
def execGethomeHandoverPost (n when_ : Nat) (s : State) := s.run fun d =>
  let g := d.hst.getHome.getD n ⟨false, 0, 0, 0, 0⟩
  if n < 6 ∧ g.en ∧ d.on Reg.HST_CTL_SV_READY then
    let post (d : Dev) (o i : Nat) : Dev := (d.bellPost 0 (rtWords when_ ++ [5 * 65536, o + 256 * i, 0])).2.2
    post (post d g.foc g.ghFoc) g.spd g.ghSpd
  else d

end Sys2Proof.Machine
end

