-- ==== Sys2Proof/Machine/Bulk.lean ====
section
/-! DEFINITION. Machine/Bulk.lean: a bulk frame of the ring: taken, forwarded, reassembled and handed on (R333 to R335, R429). -/

namespace Sys2Proof.Machine

/-- A complete message: channel 1 is a host frame that came over the ring, channel 2 a message for firmware (R335). -/
def Dev.bulkDeliver (d : Dev) (src chan : Nat) (bcast : Bool) (msg : List Nat) : Dev :=
  if chan = 1 then d.hostRing src msg else d.rrxPut src bcast msg

/-- BULK_FRAME_RECEIVED: a bulk frame from a node arrives in a direction, with its payload and whether its CRC was good (R334). Its
source discards it when it returns; the node named takes a unicast frame; every other node forwards it. -/
def execBulkFrameReceived (dirB : Bool) (src : Nat) (ok : Bool) (pl : List Nat) (s : State) := s.run fun d =>
  if !d.on Reg.DRG_STAT_ADMITTED then d
  else if !ok then d.ringBad
  else if src % 16 = d.me then d
  else
    let src := src % 16
    let chan := pl.getD 0 0 % 16
    let dest := pl.getD 1 0 % 16
    let bcast := (pl.getD 1 0).testBit 4
    let msg := leVal ((pl.drop 2).take 2)
    let fofs := leVal ((pl.drop 4).take 2)
    let mlen := leVal ((pl.drop 6).take 2)
    let frag := pl.drop 8
    if (chan ≠ 1 ∧ chan ≠ 2) ∨ pl.length < 8 ∨ mlen < fofs + frag.length then d.ringBad
    else
      let mine := bcast || dest == d.me
      let d := if bcast || dest != d.me then d.bulkForward dirB chan src (14 + pl.length) else d
      if mine then
        let r := d.bulkTake src chan msg fofs mlen bcast frag
        match r.1 with
        | some m => r.2.bulkDeliver src chan bcast m
        | none => r.2
      else d

end Sys2Proof.Machine
end

