-- ==== Sys2Proof/Machine/Can.lean ====
section
/-! DEFINITION. Machine/Can.lean: the CAN FD controllers (R407 to R422). Bit-level bus traffic is outside the model: a frame's end,
a received frame and a protocol error arrive as commands. -/

namespace Sys2Proof.Machine

/-- A controller. -/
def Dev.can (d : Dev) (n : Nat) : CanCtl := d.cans.getD n {}

/-- The device with a controller changed. -/
def Dev.updCan (d : Dev) (n : Nat) (f : CanCtl → CanCtl) : Dev := { d with cans := updBank 4 {} d.cans n f }

/-- The key of a word of a controller's message RAM (R30, R411). -/
def canRam (n ofs : Nat) : Nat := 0x30140000 + n * 0x6000 + ofs

/-- A word of an object's element. -/
def Dev.objWord (d : Dev) (n k w : Nat) : Nat := d.mem32 (canRam n (80 * k + 4 * w))

/-- An event flag of CAN_IR. -/
def Dev.canIr (d : Dev) (n bit : Nat) : Dev := d.s (Reg.CAN_IR_EVENTS n) (d.g (Reg.CAN_IR_EVENTS n) ||| 2 ^ bit)

/-! ## Transmission -/

/-- The arbitration value of an element's frame, lower wins: base identifier, RTR or SRR, IDE, extension, RTR. -/
def arbValue (w0 : Nat) : Nat :=
  let base := bits w0 28 18
  if w0.testBit 31 then base * 2 ^ 21 + 2 ^ 20 + 2 ^ 19 + bits w0 17 0 * 2 + bits w0 30 30
  else base * 2 ^ 21 + bits w0 30 30 * 2 ^ 20

/-- A request ends with a RESULT (R412). -/
def Dev.canEnd (d : Dev) (n k result : Nat) : Dev :=
  ((d.s (Reg.CAN_OBJ_STAT_TXREQ n k) 0).s (Reg.CAN_OBJ_STAT_RESULT n k) result).when (result == 1) (fun d => d.canIr n 0)

/-- The objects that request transmission (R412). -/
def Dev.canRequests (d : Dev) (n : Nat) : List Nat :=
  (List.range 64).filter (fun k =>
    d.on (Reg.CAN_OBJ_CFG_EN n k) && d.on (Reg.CAN_OBJ_CFG_DIR n k) && d.on (Reg.CAN_OBJ_STAT_TXREQ n k))

/-- The start of an arbitration: a requested FD frame that FD_EN forbids ends with RESULT 5; of the others, the frame that would win
on the bus, the lower object where two tie (R412). Nothing is sent in INIT, in bus monitoring or in restricted operation. -/
def Dev.canArbitrate (d : Dev) (n : Nat) : Dev :=
  let fd := d.on (Reg.CAN_CTL_FD_EN n)
  let free := d.on (Reg.CAN_STAT_ON_BUS n) && !d.on (Reg.CAN_CTL_INIT n) && d.g (Reg.CAN_STAT_STATE n) != 2 &&
    !d.on (Reg.CAN_CTL_MON n) && !d.on (Reg.CAN_CTL_REST n) && (d.can n).cand.isNone
  if free then
    let rs := d.canRequests n
    let d := d.each (rs.filter (fun k => (d.objWord n k 1).testBit 31 && !fd)) (fun d k => d.canEnd n k 5)
    let ok := rs.filter (fun k => fd || !(d.objWord n k 1).testBit 31)
    let best := ok.foldl (fun (a : Option (Nat × Nat)) k =>
      let v := arbValue (d.objWord n k 0)
      match a with
      | some b => if v < b.1 then some (v, k) else a
      | none => some (v, k)) none
    d.updCan n (fun c => { c with cand := best.map (fun b => b.2), abort := false })
  else d

/-- The end of the frame in progress: a pending INIT takes effect (R408), else the next arbitration starts. -/
def Dev.canFrameEnd (d : Dev) (n : Nat) : Dev :=
  let d := d.updCan n (fun c => { c with cand := none, abort := false })
  if (d.can n).stop then (d.s (Reg.CAN_STAT_ON_BUS n) 0).updCan n (fun c => { c with stop := false })
  else d.canArbitrate n

/-- CAN_TX_REQUEST: a write of 1 to TXREQ (R412). -/
def Dev.canRequest (d : Dev) (n k : Nat) : Dev := (d.s (Reg.CAN_OBJ_STAT_TXREQ n k) 1).canArbitrate n

/-- CAN_TX_REQUEST. -/
def execCanTxRequest (n k : Nat) (s : State) := s.run fun d => if n < 4 ∧ k < 64 then d.canRequest n k else d

/-- A write of 1 to ABORT (R413). -/
def Dev.canAbort (d : Dev) (n k : Nat) : Dev :=
  if d.on (Reg.CAN_OBJ_STAT_TXREQ n k) then
    if (d.can n).cand = some k then d.updCan n (fun c => { c with abort := true }) else d.canEnd n k 2
  else d

/-- CAN_TX_ABORT. -/
def execCanTxAbort (n k : Nat) (s : State) := s.run fun d => if n < 4 ∧ k < 64 then d.canAbort n k else d

/-! ## Error state -/

/-- The state after the counters change (R416): 2 bus-off, 1 error passive, 0 error active, with its records and flags. -/
def Dev.canState (d : Dev) (n : Nat) : Dev :=
  let tec := d.g (Reg.CAN_ECNT_TEC n)
  let rec_ := d.g (Reg.CAN_ECNT_REC n)
  let was := d.g (Reg.CAN_STAT_STATE n)
  let st := if was = 2 ∨ 255 < tec then 2 else if 128 ≤ tec ∨ 128 ≤ rec_ then 1 else 0
  if st = was then d
  else
    let d := (d.s (Reg.CAN_STAT_STATE n) st).canIr n 4
    match st with
    | 2 =>
      let auto := d.on (Reg.CAN_CTL_AUTO_REC n)
      let d := ((d.canIr n 5).s (Reg.CAN_STAT_ON_BUS n) 0).updCan n (fun c =>
        { c with cand := none, abort := false, stop := false, clCnt := 0, noack := 0, recov := auto })
      (if auto then d else d.s (Reg.CAN_CTL_INIT n) 1).raise Err.CAN_BUS_OFF [n, tec, d.g (Reg.CAN_STAT_LEC n)]
    | 1 => d.raise Err.CAN_ERR_PASSIVE [n, tec, rec_]
    | _ => d.raise Err.CAN_ERR_ACTIVE [n]

/-- An acknowledged transmission or a valid frame received ends NO_PEER and its count (R418). -/
def Dev.canPeer (d : Dev) (n : Nat) : Dev := (d.s (Reg.CAN_STAT_NO_PEER n) 0).updCan n (fun c => { c with noack := 0 })

/-- A measured transmitter delay (R410). -/
def Dev.canTdc (d : Dev) (n k : Nat) (tdcv : Nat) : Dev :=
  let w1 := d.objWord n k 1
  if d.on (Reg.CAN_DBT_TDC_EN n) && w1.testBit 31 && w1.testBit 30 then
    let d := d.s (Reg.CAN_TDC_TDCV n) tdcv
    d.when (decide (127 < tdcv % 128 + d.g (Reg.CAN_TDC_TDCO n))) (fun d =>
      (d.s (Reg.CAN_TDC_TDC_SAT n) 1).raise Err.CAN_TDC_SAT [n, tdcv % 128])
  else d

/-- CAN_TX_COMPLETE: the frame on the bus ends acknowledged (R412): RESULT 1, the SOF instant in W2 and W3, TEC one less. `sof` is
RT64 at SOF; `tdcv` the delay measured in an FD frame with BRS (R410). -/
def execCanTxComplete (n sof tdcv : Nat) (s : State) := s.run fun d =>
  match (d.can n).cand with
  | none => d
  | some k =>
    let d := d.canTdc n k tdcv
    let t := sof / 32 * 32
    let d := (d.setMem32 (canRam n (80 * k + 8)) (t % 2 ^ 32)).setMem32 (canRam n (80 * k + 12)) (t / 2 ^ 32 % 2 ^ 32)
    let d := (d.canEnd n k 1).updCan n (fun c => { c with clObj := k, clCnt := 0 })
    let d := (d.s (Reg.CAN_ECNT_TEC n) (d.g (Reg.CAN_ECNT_TEC n) - 1)).canState n
    (d.canPeer n).canFrameEnd n

/-- The consecutive bit errors of one object that it detects itself in data or CRC (R417): at the limit the request ends with RESULT
3. -/
def Dev.canClash (d : Dev) (n k : Nat) (hit : Bool) : Dev :=
  let c := d.can n
  let cnt := if hit then (if c.clObj = k then c.clCnt + 1 else 1) else 0
  let d := d.updCan n (fun c => { c with clObj := k, clCnt := cnt })
  if hit ∧ max 1 (d.g (Reg.CAN_LIM_ID_CLASH_LIMIT n)) ≤ cnt then
    let w0 := d.objWord n k 0
    let id := bits w0 28 0
    let xtd := bits w0 31 31
    let d := ((d.canEnd n k 3).s (Reg.CAN_CLASH_ID n) id).s (Reg.CAN_CLASH_XTD n) xtd
    ((d.canIr n 6).updCan n (fun c => { c with clCnt := 0 })).raise Err.CAN_ID_CLASH [n, id, xtd, k]
  else d

/-- The consecutive ACK errors over all objects (R418). -/
def Dev.canNoAck (d : Dev) (n k : Nat) (ack : Bool) : Dev :=
  let cnt := if ack then (d.can n).noack + 1 else 0
  let d := d.updCan n (fun c => { c with noack := cnt })
  let d := if ack ∧ max 1 (d.g (Reg.CAN_LIM_NOACK_LIMIT n)) ≤ cnt ∧ !d.on (Reg.CAN_STAT_NO_PEER n) then
      ((d.s (Reg.CAN_STAT_NO_PEER n) 1).canIr n 7).raise Err.CAN_NO_PEER [n, k]
    else d
  if ack && d.on (Reg.CAN_STAT_NO_PEER n) && d.on (Reg.CAN_CTL_NOACK_ABORT n) && d.on (Reg.CAN_OBJ_STAT_TXREQ n k) then
    d.canEnd n k 4
  else d

/-- CAN_PROTOCOL_ERROR: `tx` as transmitter, of kind LEC 1 to 6, in the data phase or not; `body`: in the data field or the CRC
field; `step` is what ISO 11898-1 adds to the counter (0, 1 or 8). An ACK error in error passive adds nothing (R416 to R418). -/
def execCanProtocolError (n kind step : Nat) (tx dataPhase body : Bool) (s : State) := s.run fun d =>
  if n < 4 ∧ d.on (Reg.CAN_STAT_ON_BUS n) ∧ 1 ≤ kind ∧ kind ≤ 6 then
    let d := (d.s (Reg.CAN_STAT_LEC n) kind).s (Reg.CAN_STAT_LEC_DATA n) (b2n dataPhase)
    let passive := d.g (Reg.CAN_STAT_STATE n) == 1
    match (if tx then (d.can n).cand else none) with
    | some k =>
      let add := if kind = 3 ∧ passive then 0 else step
      let d := d.s (Reg.CAN_ECNT_TEC n) (min 256 (d.g (Reg.CAN_ECNT_TEC n) + add))
      let d := d.canClash n k ((kind == 4 || kind == 5) && body)
      let d := d.canNoAck n k (kind == 3)
      let d := d.when ((d.can n).abort && d.on (Reg.CAN_OBJ_STAT_TXREQ n k)) (fun d => d.canEnd n k 2)
      (d.canState n).canFrameEnd n
    | none => (d.s (Reg.CAN_ECNT_REC n) (min 255 (d.g (Reg.CAN_ECNT_REC n) + step))).canState n
  else d

/-! ## INIT (R408, R409) -/

/-- CAN_INIT_SET: INIT takes effect at the end of the frame in progress, or at once (R408). -/
def Dev.canInitSet (d : Dev) (n : Nat) : Dev :=
  let d := d.s (Reg.CAN_CTL_INIT n) 1
  if (d.can n).cand.isSome then d.updCan n (fun c => { c with stop := true }) else d.s (Reg.CAN_STAT_ON_BUS n) 0

/-- CAN_INIT_SET. -/
def execCanInitSet (n : Nat) (s : State) := s.run fun d => if n < 4 then d.canInitSet n else d

/-- The first failing field of R409, in its order: 1 NTSEG1, 2 NTSEG2, 3 NSJW, 4 DSJW, 5 the nominal bit, 6 the data bit; 0 where
all hold. The number that the record shows for each is open (log 33). -/
def Dev.canCfgBad (d : Dev) (n : Nat) : Nat :=
  let nt1 := d.g (Reg.CAN_NBT_NTSEG1 n) + 1
  let nt2 := d.g (Reg.CAN_NBT_NTSEG2 n) + 1
  let ntq := 1 + nt1 + nt2
  let dtq := 3 + d.g (Reg.CAN_DBT_DTSEG1 n) + d.g (Reg.CAN_DBT_DTSEG2 n)
  if nt1 < 2 then 1
  else if nt2 < 2 then 2
  else if nt2 < d.g (Reg.CAN_NBT_NSJW n) + 1 then 3
  else if d.g (Reg.CAN_DBT_DTSEG2 n) < d.g (Reg.CAN_DBT_DSJW n) then 4
  else if ntq < 8 ∨ (d.g (Reg.CAN_NBT_NBRP n) + 1) * ntq < 80 then 5
  else if dtq < 5 ∨ (d.g (Reg.CAN_DBT_DBRP n) + 1) * dtq < 10 then 6
  else 0

/-- A clear of INIT: refused on bad timing (R409), else integration or bus-off recovery begins (R408). -/
def Dev.canInitClear (d : Dev) (n : Nat) : Dev :=
  let bad := d.canCfgBad n
  if bad ≠ 0 then d.raise Err.CAN_CFG_BAD [n, Config.recordNumber Err.CAN_CFG_BAD bad]
  else (d.s (Reg.CAN_CTL_INIT n) 0).updCan n (fun c => { c with stop := false, recov := d.g (Reg.CAN_STAT_STATE n) == 2 })

/-- CAN_INIT_CLEAR. -/
def execCanInitClear (n : Nat) (s : State) := s.run fun d => if n < 4 ∧ d.on (Reg.CAN_CTL_INIT n) then d.canInitClear n else d

/-- CAN_BUS_JOIN: after 11 recessive bits the controller takes part in the bus (R408). -/
def execCanBusJoin (n : Nat) (s : State) := s.run fun d =>
  if n < 4 ∧ !d.on (Reg.CAN_CTL_INIT n) ∧ d.g (Reg.CAN_STAT_STATE n) ≠ 2 then (d.s (Reg.CAN_STAT_ON_BUS n) 1).canArbitrate n else d

/-- CAN_BUS_OFF_RECOVERY: after 128 occurrences of 11 recessive bits the counters are 0 and the state error active (R408). -/
def execCanBusOffRecovery (n : Nat) (s : State) := s.run fun d =>
  if n < 4 ∧ d.g (Reg.CAN_STAT_STATE n) = 2 ∧ (d.can n).recov then
    let d := ((d.s (Reg.CAN_ECNT_TEC n) 0).s (Reg.CAN_ECNT_REC n) 0).s (Reg.CAN_STAT_STATE n) 0
    let d := ((d.canIr n 4).raise Err.CAN_ERR_ACTIVE [n]).updCan n (fun c => { c with recov := false })
    (d.s (Reg.CAN_STAT_ON_BUS n) 1).canArbitrate n
  else d

/-! ## Reception -/

/-- The bytes that a DLC stands for. -/
def dlcLen (fdf : Bool) (dlc : Nat) : Nat :=
  if dlc ≤ 8 then dlc else if !fdf then 8 else [12, 16, 20, 24, 32, 48, 64].getD (dlc - 9) 64

/-- An element written by the controller (R411); bytes past the data stay as they are (log 37). -/
def Dev.canStore (d : Dev) (n ofs w0 w1 match_ sof : Nat) (data : List Nat) : Dev :=
  let t := sof / 32 * 32
  let d := (d.setMem32 (canRam n ofs) w0).setMem32 (canRam n (ofs + 4)) (setBits w1 15 8 match_)
  let d := (d.setMem32 (canRam n (ofs + 8)) (t % 2 ^ 32)).setMem32 (canRam n (ofs + 12)) (t / 2 ^ 32 % 2 ^ 32)
  d.setBytes (canRam n (ofs + 16)) data

/-- Whether a filter takes a frame (R414). -/
def canMatch (id xtd fId fXtd mMask mXtd : Nat) : Bool := (id ^^^ fId) &&& mMask == 0 && (xtd == fXtd || mXtd == 0)

/-- A frame for a high-priority entry (R415). -/
def Dev.canHp (d : Dev) (n e w0 w1 sof : Nat) (data : List Nat) : Dev :=
  let lvl := d.g (Reg.CAN_HP_STAT_LEVEL n e)
  if 8 ≤ lvl then
    let d := (d.inc (Reg.CAN_HP_STAT_OVR n e)).canIr n 8
    d.raise Err.CAN_HP_OVR [n, e, d.g (Reg.CAN_HP_STAT_OVR n e)]
  else
    let put := d.g (Reg.CAN_HP_STAT_PUT n e)
    let d := d.canStore n (0x1400 + 640 * e + 80 * put) w0 w1 (0x80 + e) sof data
    (d.s (Reg.CAN_HP_STAT_PUT n e) (put + 1)).s (Reg.CAN_HP_STAT_LEVEL n e) (lvl + 1)

/-- A frame for the receive FIFO (R415). -/
def Dev.canFifo (d : Dev) (n k w0 w1 sof : Nat) (data : List Nat) : Dev :=
  let lvl := d.g (Reg.CAN_FIFO_LEVEL n)
  if 128 ≤ lvl then
    let d := (d.inc (Reg.CAN_FIFO_OVR n)).canIr n 3
    d.raise Err.CAN_FIFO_OVR [n, d.g (Reg.CAN_FIFO_OVR n)]
  else
    let put := d.g (Reg.CAN_FIFO_PUT n)
    let d := d.canStore n (0x2800 + 80 * put) w0 w1 k sof data
    ((d.s (Reg.CAN_FIFO_PUT n) (put + 1)).s (Reg.CAN_FIFO_LEVEL n) (lvl + 1)).canIr n 2

/-- A frame for an object without FIFO (R415). -/
def Dev.canObj (d : Dev) (n k w0 w1 sof : Nat) (data : List Nat) : Dev :=
  let was := d.on (Reg.CAN_OBJ_STAT_NEW n k)
  let d := ((d.canStore n (80 * k) w0 w1 k sof data).s (Reg.CAN_OBJ_STAT_NEW n k) 1).canIr n 1
  d.when was (fun d => ((d.s (Reg.CAN_OBJ_STAT_LOST n k) 1).canIr n 9).raise Err.CAN_RX_LOST [n, k])

/-- REC after a valid frame (ISO 11898-1): one less, or a value from 119 to 127 that the standard leaves open (log 2). -/
def Dev.canRecOk (d : Dev) (n : Nat) : Dev :=
  let r := d.g (Reg.CAN_ECNT_REC n)
  if 127 < r then (d.s (Reg.CAN_ECNT_REC n) (119 + d.freeVal % 9)).tookFree else d.s (Reg.CAN_ECNT_REC n) (r - 1)

/-- CAN_FRAME_RECEIVED: a frame from another node becomes valid (R414, R415). `w0` and `w1` are as in an element (R411); `sof` is RT64
at SOF. An FD frame while FD_EN = 0 is a form error (R407). -/
def execCanFrameReceived (n w0 w1 sof : Nat) (data : List Nat) (s : State) := s.run fun d =>
  if n < 4 ∧ d.on (Reg.CAN_STAT_ON_BUS n) then
    let fdf := w1.testBit 31
    if fdf && !d.on (Reg.CAN_CTL_FD_EN n) then
      let d := (d.s (Reg.CAN_STAT_LEC n) 2).s (Reg.CAN_STAT_LEC_DATA n) 0
      (d.s (Reg.CAN_ECNT_REC n) (min 255 (d.g (Reg.CAN_ECNT_REC n) + 1))).canState n
    else
      let d := ((d.canRecOk n).canState n).canPeer n
      let data := data.take (if w0.testBit 30 then 0 else dlcLen fdf (bits w1 19 16))
      let id := bits w0 28 0
      let xtd := bits w0 31 31
      let e := firstWhere 8 (fun e => d.on (Reg.CAN_HP_CFG_EN n e) &&
        canMatch id xtd (d.g (Reg.CAN_HP_ID_ID n e)) (d.g (Reg.CAN_HP_ID_XTD n e)) (d.g (Reg.CAN_HP_MASK_MASK n e)) (d.g (Reg.CAN_HP_MASK_XTD n e)))
      let k := firstWhere 64 (fun k => d.on (Reg.CAN_OBJ_CFG_EN n k) && !d.on (Reg.CAN_OBJ_CFG_DIR n k) &&
        canMatch id xtd (d.g (Reg.CAN_OBJ_ID_ID n k)) (d.g (Reg.CAN_OBJ_ID_XTD n k)) (d.g (Reg.CAN_OBJ_MASK_MASK n k))
          (d.g (Reg.CAN_OBJ_MASK_XTD n k)))
      let d := match e, k with
        | some e, _ => d.canHp n e w0 w1 sof data
        | none, some k => if d.on (Reg.CAN_OBJ_CFG_FIFO n k) then d.canFifo n k w0 w1 sof data else d.canObj n k w0 w1 sof data
        | none, none => d.inc (Reg.CAN_CNT_NOMATCH n)
      d.canFrameEnd n
  else d

/-- Elements released by a write of ACK (R415). -/
def Dev.canFifoAck (d : Dev) (n k : Nat) : Dev :=
  let m := min k (d.g (Reg.CAN_FIFO_LEVEL n))
  (d.s (Reg.CAN_FIFO_GET n) (d.g (Reg.CAN_FIFO_GET n) + m)).s (Reg.CAN_FIFO_LEVEL n) (d.g (Reg.CAN_FIFO_LEVEL n) - m)

/-- CAN_FIFO_ACK. -/
def execCanFifoAck (n k : Nat) (s : State) := s.run fun d => if n < 4 then d.canFifoAck n (k % 256) else d

/-- Elements of a high-priority entry released (R415). -/
def Dev.hpAck (d : Dev) (n e k : Nat) : Dev :=
  let m := min k (d.g (Reg.CAN_HP_STAT_LEVEL n e))
  (d.s (Reg.CAN_HP_STAT_GET n e) (d.g (Reg.CAN_HP_STAT_GET n e) + m)).s (Reg.CAN_HP_STAT_LEVEL n e) (d.g (Reg.CAN_HP_STAT_LEVEL n e) - m)

/-- HP_ACK. -/
def execHpAck (n e k : Nat) (s : State) := s.run fun d => if n < 4 ∧ e < 8 then d.hpAck n e (k % 16) else d

/-! ## Writes -/

/-- A write of a word of message RAM: discarded past 0x5000 (R411) and in the element of an object with TXREQ = 1 (R412). -/
def Dev.canRamWrite (d : Dev) (n ofs v : Nat) : Dev :=
  if 0x5000 ≤ ofs then d
  else if ofs / 80 < 64 ∧ d.on (Reg.CAN_OBJ_STAT_TXREQ n (ofs / 80)) then d.raise Err.CAN_WR_GUARD [n, ofs]
  else d.setMem32 (canRam n ofs) v

/-- CAN_MESSAGE_RAM_WRITE. -/
def execCanMessageRamWrite (n ofs v : Nat) (s : State) := s.run fun d =>
  if n < 4 ∧ ofs < 0x6000 then d.canRamWrite n (ofs / 4 * 4) v else d

/-- A register write to a controller by its offset (R420). -/
def Dev.canWrite (d : Dev) (n off v : Nat) : Dev :=
  let a := 0x300D0000 + n * 0x1000 + off
  let store (d : Dev) (locked : Bool) : Dev :=
    match regRow a with
    | none => d
    | some row =>
      let r := writeFields row (lockIf locked) (d.word a) v
      (d.setWord a r.1).when r.2 (fun d => d.raise Err.CAN_RWL_REFUSED [n, off])
  if off = 0 then
    let was := d.g (Reg.CAN_CTL_INIT n)
    let d := (store d false).s (Reg.CAN_CTL_INIT n) was
    if v % 2 = 1 ∧ was = 0 then d.canInitSet n
    else if v % 2 = 0 ∧ was = 1 then d.canInitClear n
    else d
  else if off = 0x2C then d.canFifoAck n (v % 256)
  else if off < 0x100 then store d (!d.on (Reg.CAN_CTL_INIT n))
  else if off < 0x500 then
    let k := (off - 0x100) / 0x10
    let d := store d (d.on (Reg.CAN_OBJ_CFG_EN n k) || d.on (Reg.CAN_OBJ_STAT_TXREQ n k))
    if off % 0x10 = 0xC then
      let d := if v.testBit 31 then d.canRequest n k else d
      if v.testBit 30 then d.canAbort n k else d
    else d
  else
    let e := (off - 0x600) / 0x10
    let d := store d (d.on (Reg.CAN_HP_CFG_EN n e))
    if off % 0x10 = 8 then d.hpAck n e (v % 16) else d

end Sys2Proof.Machine
end

