-- ==== Sys2Proof/Machine/Island.lean ====
section
/-! DEFINITION. Machine/Island.lean: the safety island (R358 to R387): its links, inputs, taps and speeds, its safety functions, safe
outputs and their tests, its supervision of itself, and the safety tick. -/

namespace Sys2Proof.Machine

/-! ## Configuration parameters (R389) -/

/-- The parameters: ID, instances, lowest and highest value, default. -/
def safPars : List (Nat × Nat × Nat × Nat × Nat) :=
  [(0x010, 12, 0, 4, 0), (0x011, 12, 1, 7, 1), (0x012, 12, 1, 0x3F, 0x3F), (0x013, 12, 1, 400, 4), (0x014, 12, 1, 25, 3),
   (0x020, 6, 0, 2, 0), (0x021, 6, 1, 0x3F, 1), (0x022, 6, 1, 100, 5), (0x023, 6, 1, 3600, 10), (0x024, 6, 200, 800, 400),
   (0x025, 6, 50, 200, 100), (0x030, 2, 0, 6, 6), (0x031, 6, 0, 2, 0), (0x032, 6, 4, 65535, 4096), (0x033, 6, 1, 32, 1),
   (0x034, 6, 0, 7, 0), (0x035, 6, 1, 255, 13), (0x036, 6, 0, 0xFFFFFFFF, 300), (0x037, 6, 0, 0xFFFFFFFF, 50),
   (0x038, 6, 0, 255, 13), (0x039, 6, 1, 400, 8), (0x040, 6, 0, 1, 0), (0x041, 6, 10, 60000, 5000), (0x042, 6, 1, 65535, 3000),
   (0x043, 6, 0, 0xFFFFFFFF, 300), (0x044, 6, 0, 2000, 100), (0x045, 6, 0, 0xFFFFFFFF, 20), (0x050, 6, 1, 65535, 256)] ++
  [(0x051, 6, 0, 0xFFFFFFFF, 20), (0x052, 6, 0, 0xFFFFFFFF, 0), (0x053, 6, 0, 0xFFFFFFFF, 0), (0x054, 6, 0, 0xFFFFFFFF, 0),
   (0x055, 6, 0, 0xFFFFFFFF, 0), (0x056, 6, 0, 10000, 1000), (0x057, 6, 0, 1, 0), (0x058, 6, 1, 2, 1), (0x059, 6, 1, 65535, 256),
   (0x060, 6, 0, 1, 0), (0x061, 6, 50, 5000, 300), (0x062, 6, 1, 65535, 64), (0x063, 6, 50, 30000, 2000), (0x068, 6, 100, 10000, 2000),
   (0x069, 6, 1, 65535, 64), (0x06A, 6, 1, 255, 26), (0x06B, 6, 1, 8760, 168), (0x070, 6, 0, 1, 1), (0x071, 6, 0, 7, 1),
   (0x080, 8, 0, 2, 0), (0x081, 8, 0, 2, 0), (0x082, 8, 0, 0xFFFFFFFF, 0), (0x083, 8, 2, 1000, 100), (0x084, 8, 1, 500, 20),
   (0x085, 8, 0, 15, 0), (0x090, 128, 0, 4, 0), (0x091, 128, 1, 7, 1), (0x092, 128, 1, 0x3F, 0x3F)]

/-- The value of a parameter in a configuration: the record's, or the default (R388). -/
def cfgGet (cfg : List (Nat × Nat)) (id inst : Nat) : Nat :=
  match cfg.find? (fun p => p.1 == id * 256 + inst) with
  | some p => p.2
  | none => match safPars.find? (fun p => p.1 == id) with
    | some p => p.2.2.2.2
    | none => 0

/-- A parameter of the configuration in force. -/
def Dev.sp (d : Dev) (id inst : Nat) : Nat := cfgGet d.saf.cfg id inst

/-! ## The island's parts -/

/-- The device with the island changed. -/
def Dev.updSaf (d : Dev) (f : Saf → Saf) : Dev := { d with saf := f d.saf }

/-- A channel as a core evaluates it. -/
def Dev.safCh (d : Dev) (k n : Nat) : SafCh := (d.saf.cores.getD k {}).chs.getD n {}

/-- The device with a channel of a core changed. -/
def Dev.updSafCh (d : Dev) (k n : Nat) (f : SafCh → SafCh) : Dev :=
  d.updSaf fun s => { s with cores := updBank 2 {} s.cores k fun c => { c with chs := updBank 6 {} c.chs n f } }

/-- A safe-output pair. -/
def Dev.safPair (d : Dev) (i : Nat) : SafPair := d.saf.pairs.getD i {}

/-- The device with a safe-output pair changed. -/
def Dev.updPair (d : Dev) (i : Nat) (f : SafPair → SafPair) : Dev := d.updSaf fun s => { s with pairs := updBank 6 {} s.pairs i f }

/-- A Telltale connection. -/
def Dev.conn (d : Dev) (c : Nat) : SafConn := d.saf.conns.getD c {}

/-- The device with a Telltale connection changed. -/
def Dev.updConn (d : Dev) (c : Nat) (f : SafConn → SafConn) : Dev := d.updSaf fun s => { s with conns := updBank 8 {} s.conns c f }

/-- The SBC pair of a channel (R368), if it has one. -/
def Dev.sbcPair (d : Dev) (n : Nat) : Option Nat :=
  (List.range 6).find? (fun i => d.sp 0x020 i == 1 && maskBits 6 (d.sp 0x021 i) == [n])

/-- The position of a channel (R374): the count of its tap `j` ticks earlier. -/
def Dev.posAgo (d : Dev) (n j : Nat) : Int :=
  match d.sp 0x031 n with
  | 0 => 0
  | k + 1 =>
    let h := (d.saf.taps.getD k {}).hist
    h.getD j (h.getLastD 0)

/-- The speeds of a channel. -/
def Dev.safSpd (d : Dev) (n : Nat) : SafSpd := d.saf.spds.getD n {}

/-- The monitored speed n_safe (R376). -/
def Dev.nSafe (d : Dev) (n : Nat) : Int :=
  let x := d.safSpd n
  max (x.ne.natAbs : Int) (if x.nv then x.ns else 0)

/-! ## Outputs -/

/-- Whether a channel carries a demand: of a stopping function or of a monitor. -/
def SafCh.demanded (c : SafCh) : Bool := (c.st != 0 && c.st != 6) || c.lat != 0

/-- Whether a core commands its switch of a pair closed by the pair's role (R368, R369, R382). -/
def Dev.pairCmd (d : Dev) (k i : Nat) : Bool :=
  let ch (n : Nat) := d.safCh k n
  let mask := maskBits 6 (d.sp 0x021 i)
  d.saf.st == 2 && !(d.safPair i).fault &&
    match d.sp 0x020 i with
    | 1 => mask.all (fun n => (ch n).st != 1 && (ch n).st != 5 && (ch n).st != 6)
    | 2 => mask.all (fun n => !(ch n).demanded)
    | _ => false

/-- A tick at most 100 ms from now: which one the spec leaves open (R372, log 2). -/
def Dev.soon (d : Dev) : Nat := d.saf.ticks + 1 + d.freeVal % 400

/-- A pair follows its role (R368). A demand never waits for a test (R372): off during a dark test leaves it unjudged until its regular
time; on during a light test aborts it, and the switch is tested again within 100 ms. -/
def Dev.pairStep (d : Dev) (i : Nat) : Dev :=
  let x := d.safPair i
  let p := d.pairCmd 0 i
  let m := d.pairCmd 1 i
  let t := d.saf.ticks
  if p = x.p ∧ m = x.m then d
  else match x.test with
    | some ts =>
      if ts.dark then d.updPair i fun x => { x with p := p, m := m, chgP := t, chgM := t, test := none }
      else d.tookFree.updPair i fun x => { x with p := p, m := m, chgP := t, chgM := t, test := none, sw := ts.sw, next := d.soon }
    | none => d.updPair i fun x =>
      { x with p := p, m := m, chgP := if p = x.p then x.chgP else t, chgM := if m = x.m then x.chgM else t }

/-- The GDEN commands of both cores (R359, R361, R377): high in RUN unless the channel is in STO; in FAULT only while a Safe Hoist Hold
of the entry runs (R362). -/
def Dev.gdNow (d : Dev) : Nat :=
  if d.saf.st = 2 ∨ d.saf.st = 3 then
    (List.range 12).foldl (fun a i => if (d.safCh (i / 6) (i % 6)).st = 1 then a else a + 2 ^ i) 0
  else 0

/-- The island drives its outputs: the pairs, GDEN, and through the trip network the channels whose GDEN a core holds low
(R173, R361, R377; ARM_WHY 4). -/
def Dev.safDrive (d : Dev) : Dev :=
  let d := d.each (List.range 6) Dev.pairStep
  let g := d.gdNow
  let d := d.updSaf fun s => { s with gd := g }
  d.each (List.range 6) fun d n =>
    let high := g.testBit n && g.testBit (6 + n)
    let has := d.pwm.conds.contains ⟨n, 4, 0⟩
    if high && has then d.forceOffCh n 4 0 else if !high && !has then d.forceOn n 4 0 else d

/-- The level that a switch is commanded to, 0 P and 1 M, its test included (R370). -/
def SafPair.cmd (x : SafPair) (sw : Nat) : Bool :=
  let base := if sw = 0 then x.p else x.m
  match x.test with
  | some t => if t.sw = sw then !t.dark else base
  | none => base

/-! ## Safety functions -/

/-- The functions of a channel that do not end yet: those that run to STO or SOS (R383, R386). -/
def SafCh.held (c : SafCh) : Nat :=
  match c.st with
  | 5 => 255
  | 2 => if c.ss1 then 4 + 32 else 4
  | 3 => 8
  | _ => 0

/-- The functions of a mask end, and with them the violations, completions and limits that they brought. -/
def SafCh.drop (c : SafCh) (m : Nat) : SafCh :=
  let m := m - (m &&& c.held)
  let lat := c.lat - (c.lat &&& m)
  let ss1 := c.ss1 && lat.testBit 5
  { c with
    lat := lat, vio := c.vio &&& lat, ss1 := ss1, done1 := c.done1 && (lat.testBit 2 || ss1), done2 := c.done2 && lat.testBit 3,
    slsIdx := if lat.testBit 5 then c.slsIdx else 0, slsLim := if lat.testBit 5 then c.slsLim else none,
    slsDue := if lat.testBit 5 then c.slsDue else none }

/-- Whether a channel's speeds disagree now (R376): in discrepancy, or a tap error on its tap. -/
def Dev.spdDisc (d : Dev) (n : Nat) : Bool :=
  let x := d.safSpd n
  let a : Int := x.ne.natAbs
  d.sp 0x031 n != 0 && x.nv && decide ((d.sp 0x036 n : Int) ≤ a) &&
    decide (256 * (d.sp 0x037 n : Int) + a * d.sp 0x038 n < 256 * ((a - x.ns).natAbs : Int))

/-- A tap error on a channel's tap in this tick (R373). -/
def Dev.tapErr (d : Dev) (n : Nat) : Bool := match d.sp 0x031 n with
  | 0 => false
  | k + 1 => (d.saf.taps.getD k {}).err

/-- An acknowledge of a channel that has no source reading safe (R385): its functions that are over end, and the latched faults whose
causes have ended clear. -/
def Dev.safAck (d : Dev) (n : Nat) (c : SafCh) : SafCh :=
  let c := c.drop 255
  { c with init := false, spd := c.spd && (d.spdDisc n || d.tapErr n), sbtFail := false }

/-- Whether the channel's SBC pair has its fault latched (R369, R371). -/
def Dev.sbcFault (d : Dev) (n : Nat) : Bool := match d.sbcPair n with
  | some i => (d.safPair i).fault
  | none => false

/-- Whether STO is demanded on a channel. -/
def SafCh.stoDue (c : SafCh) (pairFault : Bool) : Bool :=
  c.init || c.lat.testBit 1 || c.lat.testBit 7 || c.vio != 0 || c.done1 || c.spd || pairFault

/-- A function begins to be carried out, with the cause of its demand. -/
def Dev.safBegin (d : Dev) (n st cause : Nat) (c : SafCh) : SafCh :=
  { c with
    st := st, t0 := d.saf.ticks, n0 := d.nSafe n, p0 := d.posAgo n 0, bad := 0, cause := cause,
    still := b2n (decide (d.nSafe n ≤ d.sp 0x045 n)), slip := c.slip && st == 1, sbtPh := 0 }

/-- The channel carries out its highest-ranking demand (R386); STO on a channel with HOIST as Safe Hoist Hold (R377). `by_` gives the
cause of a function's sources. -/
def Dev.safSettle (d : Dev) (by_ : Nat → Nat) (n : Nat) (c : SafCh) : SafCh :=
  let pf := d.sbcFault n
  let byTest := match d.sbcPair n with
    | some i => (d.safPair i).byTest
    | none => false
  let c1 := if by_ 1 ≠ 0 then by_ 1 else if by_ 7 ≠ 0 then by_ 7 else if c.vio ≠ 0 then 4 else if c.spd then 5
    else if pf then (if byTest then 7 else 6) else if c.init then 8 else c.cause
  if c.stoDue pf then
    if c.st = 1 ∨ c.st = 5 then c else d.safBegin n (if d.sp 0x060 n = 1 then 5 else 1) c1 c
  else if c.lat.testBit 2 || c.ss1 then
    if c.st = 2 then c else d.safBegin n 2 (if by_ 2 ≠ 0 then by_ 2 else 4) c
  else if c.lat.testBit 3 then
    let st := if c.done2 then 4 else 3
    if c.st = st then c else d.safBegin n st (if by_ 3 ≠ 0 then by_ 3 else c.cause) c
  else if c.lat.testBit 4 then
    if c.st = 4 then c else d.safBegin n 4 (if by_ 4 ≠ 0 then by_ 4 else c.cause) c
  else if c.st = 0 ∨ (c.st = 6 ∧ c.lat = 0) then c
  else { c with st := 0, cause := 0, slip := false }

/-- ACK_PEND (R385): a function that is over waits for an acknowledge, or a latched fault whose cause has ended does. -/
def Dev.ackDue (d : Dev) (n : Nat) (c : SafCh) : Bool :=
  let isOver := c.lat - (c.lat &&& (c.src ||| c.held))
  let rb := match d.sbcPair n with
    | some i => (d.safPair i).fault && !d.saf.rb.testBit i && !d.saf.rb.testBit (6 + i)
    | none => false
  c.init || (isOver != 0 && d.sp 0x070 n == 1) || (c.src == 0 && ((c.spd && !(d.spdDisc n || d.tapErr n)) || rb))

/-- An event of the island: a code with its record context. -/
abbrev SafEvs := List (Nat × List Nat)

/-- A violation of a function (R378 to R381): the functions of the mask demand STO; recorded once. -/
def SafCh.violate (c : SafCh) (n f mask : Nat) (v : Int) : SafCh × SafEvs :=
  let mask := mask &&& c.lat
  if mask = 0 ∨ c.vio &&& mask = mask then (c, []) else ({ c with vio := c.vio ||| mask }, [(Err.SAF_LIMIT, [n, f, w32 v])])

/-- The speed comparison (R376). -/
def Dev.monSpd (d : Dev) (n : Nat) (c : SafCh) : SafCh × SafEvs :=
  let run := if d.spdDisc n then c.spdRun + 1 else 0
  let c := { c with spdRun := run }
  if !c.spd && (decide (d.sp 0x039 n ≤ run) || d.tapErr n) then
    ({ c with spd := true }, [(Err.SAF_SPEED_DISC, [n, w32 (d.safSpd n).ne, w32 (d.safSpd n).ns])])
  else (c, [])

/-- Whether n_safe exceeds the ramp limit L(t) (R378). -/
def Dev.aboveRamp (d : Dev) (n : Nat) (c : SafCh) : Bool :=
  let dt : Int := d.saf.ticks - c.t0 - 4 * d.sp 0x044 n
  let l : Int := if dt < 0 then c.n0 * 4000 else max (c.n0 * 4000 - d.sp 0x042 n * dt) 0
  decide (l + d.sp 0x043 n * 4000 < d.nSafe n * 4000)

/-- The functions that SS1 or SS2 under way stands for. -/
def SafCh.rampMask (c : SafCh) : Nat := if c.st = 3 then 8 else if c.ss1 then 4 + 32 else 4

/-- SS1-r and SS2 under way (R378). -/
def Dev.monRamp (d : Dev) (n : Nat) (c : SafCh) : SafCh × SafEvs :=
  if (c.st = 2 ∧ d.sp 0x040 n = 1) ∨ c.st = 3 then
    let bad := if d.aboveRamp n c then c.bad + 1 else 0
    let still := if d.nSafe n ≤ d.sp 0x045 n then c.still + 1 else 0
    let c := { c with bad := bad, still := still }
    if 2 ≤ bad then c.violate n (if c.st = 3 then 3 else 2) c.rampMask (d.nSafe n)
    else if 2 ≤ still then (if c.st = 2 then { c with done1 := true } else { c with done2 := true }, [])
    else (c, [])
  else (c, [])

/-- SOS under way (R379). -/
def Dev.monSos (d : Dev) (n : Nat) (c : SafCh) : SafCh × SafEvs :=
  if c.st = 4 then
    let p := d.posAgo n 0
    let far := decide ((d.sp 0x050 n : Int) < (p - c.p0).natAbs)
    let c := { c with bad := if far || decide ((d.sp 0x051 n : Int) < d.nSafe n) then c.bad + 1 else 0 }
    if 2 ≤ c.bad then c.violate n 4 (8 + 16) (if far then p else d.nSafe n) else (c, [])
  else (c, [])

/-- The speed limit that an index selects (R380). -/
def Dev.slsLimit (d : Dev) (n i : Nat) : Nat := d.sp (0x052 + i) n

/-- SLS while demanded (R380), with the index that the select inputs give. -/
def Dev.monSls (d : Dev) (n idx : Nat) (c : SafCh) (was : Bool) : SafCh × SafEvs :=
  if c.lat.testBit 5 then
    let t := d.saf.ticks
    let new := d.slsLimit n idx
    let grace := if d.sp 0x056 n = 0 then none else some (t + 4 * d.sp 0x056 n)
    let c :=
      if !was then { c with slsIdx := idx, slsLim := if grace.isSome then none else some new, slsDue := grace, slsBad := 0 }
      else if idx = c.slsIdx then c
      else match c.slsLim with
        | none => { c with slsIdx := idx }
        | some cur =>
          if cur ≤ new ∨ grace.isNone then { c with slsIdx := idx, slsLim := some new, slsDue := none }
          else { c with slsIdx := idx, slsDue := if idx < c.slsIdx ∨ c.slsDue.isNone then grace else c.slsDue }
    let above := match c.slsLim with
      | some l => decide ((l : Int) < d.nSafe n)
      | none => false
    let c := { c with slsBad := if above then c.slsBad + 1 else 0 }
    if 2 ≤ c.slsBad then
      if d.sp 0x057 n = 0 then c.violate n 5 32 (d.nSafe n)
      else if c.ss1 then (c, []) else ({ c with ss1 := true }, [(Err.SAF_LIMIT, [n, 5, w32 (d.nSafe n)])])
    else (c, [])
  else (c, [])

/-- SDI while demanded (R381). -/
def Dev.monSdi (d : Dev) (n : Nat) (c : SafCh) (was : Bool) : SafCh × SafEvs :=
  if c.lat.testBit 6 then
    let p := d.posAgo n 0
    let pos := d.sp 0x058 n = 1
    let p0 := if !was then p else if pos then max c.sdiP p else min c.sdiP p
    let c := { c with sdiP := p0 }
    if (d.sp 0x059 n : Int) < (if pos then p0 - p else p - p0) then c.violate n 6 64 p else (c, [])
  else (c, [])

/-- Whether the position has moved at most SHH_WIN counts over the last 200 ticks (R383). -/
def Dev.shhStill (d : Dev) (n : Nat) : Bool := decide ((d.posAgo n 0 - d.posAgo n 200).natAbs ≤ d.sp 0x062 n)

/-- Safe Hoist Hold after a slip: its test in every tick (R383). -/
def Dev.monShh (d : Dev) (n : Nat) (c : SafCh) : SafCh := if c.st = 5 ∧ c.slip ∧ d.shhStill n then { c with st := 1 } else c

/-- The torque phase of a brake test (R384): movement, and ticks without current. -/
def Dev.monSbt (d : Dev) (n : Nat) (c : SafCh) : SafCh :=
  if c.st = 6 ∧ c.sbtPh = 2 then
    { c with
      sbtMove := c.sbtMove || decide (d.sp 0x069 n < (d.posAgo n 0 - c.sbtP).natAbs), sbtN := c.sbtN + 1,
      sbtLow := c.sbtLow + b2n (decide (8 * (d.safSpd n).peak < d.sp 0x06A n)) }
  else c

/-- A brake test that a demand abandons (R384): NOT_RUN. -/
def sbtLost (n : Nat) (old new : SafCh) : SafCh × SafEvs :=
  if old.st = 6 ∧ new.st ≠ 6 then ({ new with sbtPh := 0, sbtFail := true }, [(Err.SAF_SBT_FAIL, [n, Config.recordNumber Err.SAF_SBT_FAIL 2])]) else (new, [])

/-! ## Inputs -/

/-- The demands that the inputs and virtual inputs of a core make now (R365): function, channels, CAUSE. -/
def Dev.demands (d : Dev) (k : Nat) : List (Nat × Nat × Nat) :=
  let ins := (d.saf.cores.getD k {}).ins
  let one (i : Nat) : List (Nat × Nat × Nat) :=
    let x := ins.getD i {}
    if d.sp 0x010 i = 1 ∧ !(x.a && x.b && !x.disc) then [(d.sp 0x011 i, d.sp 0x012 i, if d.saf.v24 then 1 else 10)] else []
  let vi (c : Nat) : List (Nat × Nat × Nat) :=
    let x := d.conn c
    if d.sp 0x080 c = 2 then
      (List.range 16).flatMap fun b =>
        let j := 16 * c + b
        if d.sp 0x090 j = 1 ∧ !(x.st == 2 && x.vi.testBit b) then [(d.sp 0x091 j, d.sp 0x092 j, if x.st = 2 then 2 else 9)] else []
    else []
  (List.range 12).flatMap one ++ (List.range 8).flatMap vi

/-- The SLS index of a channel (R380): SEL1 and SEL0, each 1 where every select input of its role on the channel reads active. -/
def Dev.slsIndex (d : Dev) (k n : Nat) : Nat :=
  let ins := (d.saf.cores.getD k {}).ins
  let sel (r : Nat) : Bool :=
    let l := (List.range 12).filter (fun i => d.sp 0x010 i == r && (d.sp 0x012 i).testBit n)
    let v := (List.range 8).flatMap (fun c =>
      if d.sp 0x080 c = 2 then
        ((List.range 16).filter (fun b => d.sp 0x090 (16 * c + b) == r && (d.sp 0x092 (16 * c + b)).testBit n)).map (fun b => (c, b))
      else [])
    (!l.isEmpty || !v.isEmpty) && l.all (fun i => let x := ins.getD i {}; x.a && x.b && !x.disc) &&
      v.all (fun x => (d.conn x.1).st == 2 && (d.conn x.1).vi.testBit x.2)
  2 * b2n (sel 3) + b2n (sel 2)

/-- A tick takes the levels of an input (R365 to R367, R385): the input, whether a late second channel latches DISC, whether both
channels fell after a time active that acknowledges. -/
def SiIn.take (tdisc t : Nat) (a b : Bool) (x : SiIn) : SiIn × Bool × Bool :=
  if a = b then
    let late := !x.judged && (match x.first with | some t1 => decide (tdisc < t - t1) | none => false)
    let ok := !x.judged && !late
    let disc := (x.disc || late) && !(a && x.common && ok)
    let ack := !a && !disc && decide (2 ≤ x.act) && decide (x.act ≤ 4000)
    ({ a := a, b := b, old := a, first := none, judged := false, disc := disc,
       common := disc && ((x.common && !late) || !a), act := if a && !disc then x.act + 1 else 0 }, late, ack)
  else ({ x with a := a, b := b, first := some (x.first.getD t) }, false, false)

/-- The channel that lags in a change of an input: 0 A, 1 B. -/
def SiIn.lag (x : SiIn) : Nat := if x.a = x.old then 0 else 1

/-- A core takes its inputs at the start of a tick: the channels that the ACK inputs acknowledge (R385). An input without a role and
an island that is not in RUN judge no discrepancy. -/
def Dev.takeInputs (d : Dev) (k : Nat) : Nat × Dev :=
  let c := d.saf.cores.getD k {}
  let t := d.saf.ticks
  (List.range 12).foldl (fun (a, d) i =>
    let lv (j : Nat) : Bool := (c.filt.getD j {}).lvl && d.saf.v24
    let x := c.ins.getD i {}
    let r : SiIn × Bool × Bool :=
      if d.saf.st = 2 ∧ d.sp 0x010 i ≠ 0 then x.take (d.sp 0x013 i) t (lv i) (lv (12 + i))
      else ({ a := lv i, b := lv (12 + i), old := lv i && lv (12 + i) }, false, false)
    let d := d.updSaf fun s => { s with cores := updBank 2 {} s.cores k fun c => { c with ins := updBank 12 {} c.ins i fun _ => r.1 } }
    let d := d.when (r.2.1 && k == 0) fun d => d.raiseSaf Err.SAF_DISC [i, Config.recordNumber Err.SAF_DISC ({ x with a := lv i }).lag]
    (if r.2.2 ∧ d.sp 0x010 i = 4 then a ||| d.sp 0x012 i else a, d)) (0, d)

/-- One channel in a tick (R377 to R386): `l` are the demands, `ackI` and `ackV` the channels that inputs and virtual inputs
acknowledge. -/
def Dev.safEval (d : Dev) (l : List (Nat × Nat × Nat)) (ackI ackV idx n : Nat) (c : SafCh) : SafCh × SafEvs :=
  let mine := l.filter (fun x => x.2.1.testBit n)
  let src := mine.foldl (fun m x => m ||| 2 ^ x.1) (if c.host then 2 else 0)
  let by_ (f : Nat) : Nat := match mine.find? (fun x => x.1 == f) with
    | some x => x.2.2
    | none => if f = 1 ∧ c.host then 3 else 0
  let sls := c.lat.testBit 5
  let sdi := c.lat.testBit 6
  let c0 := c
  let c := { c with lat := c.lat ||| src, src := src }
  let e1 := d.monSpd n c
  let src_ := d.sp 0x071 n
  let ack := (src_.testBit 0 && ackI.testBit n) || (src_.testBit 1 && ackV.testBit n)
  let c := if ack && src == 0 then d.safAck n e1.1 else e1.1
  let c := if d.sp 0x070 n = 0 then c.drop (c.lat - (c.lat &&& src)) else c
  let e2 := d.monSls n idx c sls
  let e3 := d.monSdi n e2.1 sdi
  let e4 := d.monRamp n e3.1
  let e5 := d.monSos n e4.1
  let c := d.monSbt n (d.monShh n e5.1)
  let e6 := sbtLost n c0 (d.safSettle by_ n c)
  let c := e6.1
  ({ c with ackPend := d.ackDue n c }, e1.2 ++ e2.2 ++ e3.2 ++ e4.2 ++ e5.2 ++ e6.2)

/-- The events of core A are recorded; core B's evaluation repeats them. -/
def Dev.safRecord (d : Dev) (k : Nat) (l : SafEvs) : Dev :=
  if k = 0 then d.each l (fun d e => d.raiseSaf e.1 e.2) else d

/-- An acknowledge clears the output faults of the channel's pairs once both switches read OPEN (R369, R385). -/
def Dev.pairAck (d : Dev) (n : Nat) : Dev :=
  d.each (List.range 6) fun d i =>
    let x := d.safPair i
    if x.fault ∧ (d.sp 0x021 i).testBit n ∧ !d.saf.rb.testBit i ∧ !d.saf.rb.testBit (6 + i) then
      d.updPair i fun x => { x with fault := false, byTest := false }
    else d

/-- A core evaluates every channel. -/
def Dev.safEvalCore (d : Dev) (k ackI ackV : Nat) : Dev :=
  let l := d.demands k
  d.each (List.range 6) fun d n =>
    let src_ := d.sp 0x071 n
    let free_ := !(d.safCh k n).host && !(l.any (fun x => x.2.1.testBit n))
    let d := d.when (free_ && ((src_.testBit 0 && ackI.testBit n) || (src_.testBit 1 && ackV.testBit n))) fun d => d.pairAck n
    let r := d.safEval l ackI ackV (d.slsIndex k n) n (d.safCh k n)
    (d.updSafCh k n fun _ => r.1).safRecord k r.2

/-- A channel of each core changed between evaluations, settled with the sources it had (rows of an expiry, and commands). -/
def Dev.safAgain (d : Dev) (n : Nat) (f : SafCh → SafCh × SafEvs) : Dev :=
  let d := d.each [0, 1] fun d k =>
    let c0 := d.safCh k n
    let r := f c0
    let l := (d.demands k).filter (fun x => x.2.1.testBit n)
    let by_ (j : Nat) : Nat := match l.find? (fun x => x.1 == j) with
      | some x => x.2.2
      | none => if j = 1 ∧ r.1.host then 3 else 0
    let e := sbtLost n c0 (d.safSettle by_ n r.1)
    (d.updSafCh k n fun _ => { e.1 with ackPend := d.ackDue n e.1 }).safRecord k (r.2 ++ e.2)
  d.safDrive

/-! ## Faults and reset of the island -/

/-- The island enters FAULT (R361, R362): channels without HOIST go to STO; a channel with HOIST that was not in STO gets Safe Hoist
Hold, where the island was in RUN. -/
def Dev.safFault (d : Dev) (cause : Nat) : Dev :=
  if d.saf.st = 3 then d
  else
    let run := d.saf.st == 2
    let t := d.saf.ticks
    let d := d.updSaf fun s => { s with st := 3, fcause := cause, faultAt := t }
    let d := d.each (List.range 12) fun d i =>
      d.updSafCh (i / 6) (i % 6) fun c =>
        if run ∧ d.sp 0x060 (i % 6) = 1 ∧ c.st ≠ 1 then { c with st := 5, t0 := t, cause := 8, sbtPh := 0 }
        else { c with st := 1, cause := 8, sbtPh := 0 }
    d.safDrive

/-- The mailbox's keys. -/
def safKey (k : Nat) : Bool := decide (0x30200000 ≤ k) && decide (k < 0x30210000)

/-- The island is reset (R40, R361, R362, R392): every GDEN low and every switch open at once; it restarts in START. A lock of entry
restarts its 10 minutes; the command FIFO stands in the SYS block and stays. -/
def Dev.islandReset (d : Dev) : Dev :=
  let d := { d with regs := d.regs.filter (fun r => !safKey r.1) }
  let d := d.updSaf fun s =>
    { v24 := s.v24, words := s.words, msgs := s.msgs, ovr := s.ovr, logIdx := s.logIdx,
      lockAt := if s.lockAt.isSome then some 0 else none, fails := if s.lockAt.isSome then 5 else 0 }
  d.safDrive

/-- ISLAND_SELF_TEST_DONE: the self-tests of START pass, or put the island into FAULT (R361). Until both cores have counted FCLK as good
the island stays in START (R495). -/
def execIslandSelfTestDone (ok : Bool) (s : State) := s.runNoClk fun d =>
  if d.saf.st ≠ 0 then d
  else if !ok then d.safFault 5
  else if d.saf.clkOk.all (fun n => n == 4) then d.updSaf fun s => { s with st := 1 }
  else d

/-- ISLAND_WATCHDOG_EXPIRY: a missed service of the window watchdog resets the island (R362). -/
def execIslandWatchdogExpiry (s : State) := s.runNoClk Dev.islandReset

/-! ## Links and supply -/

/-- A frame's sample of one channel of an input meets its filter (R364). -/
def SiFilt.step (n : Nat) (v : Bool) (f : SiFilt) : SiFilt :=
  if v = f.lvl then { f with run := 0 } else if n ≤ f.run + 1 then ⟨v, 0⟩ else { f with run := f.run + 1 }

/-- The filters of a core meet the samples of a frame; the frame that repeats the previous sample steps them as well. -/
def Dev.linkSamples (d : Dev) (k : Nat) (v : Nat → Bool) : Dev :=
  d.updSaf fun s => { s with cores := updBank 2 {} s.cores k fun c =>
    { c with filt := c.filt.zipIdx.map fun x => x.1.step (cfgGet s.cfg 0x014 (x.2 % 12)) (v x.2) } }

/-- A test's read-back meets its level (R370). -/
def Dev.testSeen (d : Dev) : Dev :=
  d.each (List.range 6) fun d i => match (d.safPair i).test with
    | some t =>
      let closed := d.saf.rb.testBit (6 * t.sw + i)
      d.when (closed != t.dark) fun d => d.updPair i fun x => { x with test := some { t with seen := true } }
    | none => d

/-- SAFETY_LINK_FRAME: a frame of a safety link (0 A, 1 B) with the samples of both channels of every input (SI_i_A in bit i, SI_i_B in
bit 12 + i) and the read-back of its six switches; a bad frame is counted and repeats the previous sample (R16, R364). Without
V24_SI every input reads safe and every switch is open (R21); a pair that the pin-function map leaves unused stays open (R520). -/
def execSafetyLinkFrame (link si rb : Nat) (ok : Bool) (s : State) := s.runNoClk fun d =>
  let k := link % 2
  if ok then
    let si := if d.saf.v24 then si else 0
    let rb := if d.saf.v24 then rb % 64 &&& d.sys.pinMap / 2 ^ 16 else 0
    let d := d.linkSamples k fun j => si.testBit j
    let d := d.updSaf fun s =>
      { s with linkBad := updAt s.linkBad k fun _ => 0,
               rb := if k = 0 then s.rb / 64 * 64 + rb else s.rb % 64 + 64 * rb }
    d.testSeen
  else
    let c := d.saf.cores.getD k {}
    let d := d.linkSamples k fun j => let f := c.filt.getD j {}; if f.run = 0 then f.lvl else !f.lvl
    d.updSaf fun s => { s with linkBad := updAt s.linkBad k (· + 1), linkErr := updAt s.linkErr k (satInc 65535) }

/-- SAFETY_LINK_LOST: after 5 bad or missing frames in a row the link's switches open and the island enters FAULT (R18, R361). -/
def execSafetyLinkLost (link : Nat) (s : State) := s.runNoClk fun d =>
  let k := link % 2
  if 5 ≤ d.saf.linkBad.getD k 0 then
    let d := d.updSaf fun s => { s with rb := if k = 0 then s.rb / 64 * 64 else s.rb % 64 }
    (d.raiseSaf Err.SAF_LINK_LOST [Config.recordNumber Err.SAF_LINK_LOST k]).safFault (3 + k)
  else d

/-- V24_SI_LOSS: every safe input reads safe and every safe-output switch opens (R21, R362). -/
def execV24SiLoss (s : State) := s.runNoClk fun d =>
  if d.saf.v24 then (d.updSaf fun s => { s with v24 := false, rb := 0 }).raiseSaf Err.SAF_V24_LOST [] else d

/-! ## The safety tick -/

/-- The decisions in which the cores differ: the channels whose STATE differs. -/
def Dev.decisionDiff (d : Dev) : Nat :=
  (List.range 6).foldl (fun a n => if (d.safCh 0 n).st = (d.safCh 1 n).st then a else a + 2 ^ n) 0

/-- The cores exchange their decisions at the end of a tick (R359). `diff`: the channels in which a core failed to decide as it should. -/
def Dev.safExchange (d : Dev) (diff : Nat) : Dev :=
  let m := d.decisionDiff ||| diff % 64
  let n := if d.saf.st = 2 ∧ m ≠ 0 then d.saf.differ + 1 else 0
  let d := d.updSaf fun s => { s with differ := n }
  if 2 ≤ n then (d.raiseSaf Err.SAF_CORE_MISMATCH [m]).safFault 1 else d

/-- SAF_STAT. -/
def Dev.safStat (d : Dev) : Nat :=
  let s := d.saf
  s.st * 2 ^ 28 + s.fcause * 2 ^ 24 + b2n s.v24 * 2 ^ 23 + b2n s.stagedOk * 2 ^ 22 + (d.tly.entries.getD 8 ⟨[], true, 0, 0⟩).left % 512

/-- SAF_CH_n as core A holds the channel. -/
def Dev.safChWord (d : Dev) (n : Nat) : Nat :=
  let c := d.safCh 0 n
  let on := match d.sbcPair n with
    | some i => (d.safPair i).p && (d.safPair i).m
    | none => false
  let valid := d.saf.st == 2 && d.sp 0x031 n != 0 && !c.spd
  c.st * 2 ^ 28 + b2n (c.lat.testBit 5) * 2 ^ 27 + b2n (c.lat.testBit 6) * 2 ^ 26 + c.slsIdx * 2 ^ 24 + b2n c.ackPend * 2 ^ 23 +
    b2n c.host * 2 ^ 22 + b2n valid * 2 ^ 21 + b2n c.sbtOk * 2 ^ 20 + b2n c.sbtDue * 2 ^ 19 + b2n c.slip * 2 ^ 18 + b2n on * 2 ^ 17 +
    b2n (d.saf.gd.testBit n && d.saf.gd.testBit (6 + n)) * 2 ^ 16 + c.cause * 2 ^ 8

/-- Seconds of the entry lock remaining (R392). -/
def Dev.lockLeft (d : Dev) : Nat := match d.saf.lockAt with
  | some t => 600 - (d.saf.ticks - t) / 4000
  | none => 0

/-- The mask of the indices below `n` that satisfy a test. -/
def maskOf (n : Nat) (p : Nat → Bool) : Nat := (List.range n).foldl (fun a i => if p i then a + 2 ^ i else a) 0

/-- The words of the mailbox that hold the island's state, by key (R404). -/
def Dev.safWords (d : Dev) : List (Nat × Nat) :=
  let s := d.saf
  let core (k : Nat) := s.cores.getD k {}
  let lvl (k : Nat) := maskOf 12 fun i => (((core k).filt.getD (i + 12 * k) {}).lvl)
  let ins := (core 0).ins
  let le (l : List Nat) (i : Nat) := leVal ((l.drop (4 * i)).take 4)
  let spd (n : Nat) := let x := d.safSpd n
    (if x.nv then min 65535 x.ns.toNat else 0) * 65536 + ofInt 16 (satInt 16 x.ne)
  let tt (c : Nat) := let x := d.conn c
    x.st * 2 ^ 30 + x.err * 2 ^ 16 + x.seq
  let buf (c j : Nat) := let x := d.conn c
    if j = 0 then (if x.buf = [] then 0 else x.buf.length * 65536 + leVal ((x.buf.drop 4).take 2)) else le x.buf (j - 1)
  [(Reg.SAF_STAT, d.safStat), (Reg.SAF_RESP, s.resp),
   (Reg.SAF_PW, b2n (!(d.tly.entries.getD 9 ⟨[], true, 0, 0⟩).blank) * 2 ^ 31 + b2n s.entered * 2 ^ 30 + b2n s.lockAt.isSome * 2 ^ 29 +
     s.fails * 65536 + d.lockLeft),
   (Reg.SAF_CFGERR, s.cfgErr.1 * 65536 + s.cfgErr.2), (Reg.SAF_IN, lvl 1 * 65536 + lvl 0),
   (Reg.SAF_DISC, maskOf 12 (fun i => (ins.getD i {}).common) * 65536 + maskOf 12 (fun i => (ins.getD i {}).disc)),
   (Reg.SAF_OUT, s.rb / 64 * 2 ^ 24 + s.rb % 64 * 2 ^ 16 + maskOf 6 (fun i => (d.safPair i).fault) * 2 ^ 8 +
     maskOf 6 (fun i => (d.safPair i).p && (d.safPair i).m)),
   (Reg.SAF_LINK, s.linkErr.getD 1 0 * 65536 + s.linkErr.getD 0 0), (Reg.SAF_LOG, b2n s.logPend * 2 ^ 31 + s.logShow % 65536)] ++
  (List.range 2).map (fun c => (Reg.SAF_TAP c, ofInt 32 (s.taps.getD c {}).cnt)) ++
  (List.range 6).flatMap (fun n => [(Reg.SAF_CH n, d.safChWord n), (Reg.SAF_SPD n, spd n)]) ++
  (List.range 8).flatMap (fun w => [(Reg.SAF_HASH w, le s.hash w), (Reg.SAF_SHASH w, le s.shash w)]) ++
  (List.range 21).map (fun i => (Reg.SAF_LOGREC i, le s.logRec i)) ++
  (List.range 8).flatMap (fun c => (Reg.SAF_TT c, tt c) :: (List.range 13).map (fun j => (Reg.SAF_TTBUF c j, buf c j)))

/-- The island rewrites the mailbox at the end of a tick and increments SAF_TICK (R404). -/
def Dev.safPublish (d : Dev) : Dev :=
  let new := d.word Reg.SAF_RESP != d.saf.resp % 2 ^ 32
  let d := d.each d.safWords fun d w => d.setWord w.1 w.2
  (d.incWrap Reg.SAF_TICK_COUNT).updSaf fun s => { s with respNew := s.respNew || new }

/-- The Telltale connections at the start of a tick: LOST returns to WAIT, received inputs take effect, and a fall of a virtual ACK
input acknowledges (R385, R399, R400). -/
def Dev.connTick (d : Dev) : Dev :=
  d.each (List.range 8) fun d c =>
    if d.sp 0x080 c ≠ 2 then d
    else
      let x := d.conn c
      let st := if x.st = 3 then 1 else x.st
      let vi := if st = 2 then x.viIn else 0
      let acks := (List.range 16).foldl (fun a b =>
        let n := x.act.getD b 0
        if !vi.testBit b && decide (2 ≤ n) && decide (n ≤ 4000) && d.sp 0x090 (16 * c + b) == 4 then a ||| d.sp 0x092 (16 * c + b) else a) 0
      d.updConn c fun x =>
        { x with st := st, vi := vi, acks := acks, act := x.act.zipIdx.map fun n => if vi.testBit n.2 then n.1 + 1 else 0 }

/-- A tap takes its counts since the last tick (R373, R374); TAP_ENC 6 is off. -/
def Dev.tapTake (d : Dev) (i : Nat) (dc : Int) (err : Bool) : Dev :=
  let off := d.sp 0x030 i = 6
  d.updSaf fun s => { s with taps := updBank 2 {} s.taps i fun x =>
    let c := if off then x.cnt else x.cnt + dc
    ⟨c, (c :: x.hist).take 201, err && !off⟩ }

/-- A sample of a ΣΔ tap (R375): its time in periods of the island's oscillator and its value in 1/32. -/
def SafSpd.sample (imin : Int) (x : SafSpd) (t : Nat) (v : Int) : SafSpd :=
  let cross := x.low && decide (imin ≤ 8 * v)
  { x with
    low := if cross then false else x.low || decide (8 * v ≤ -imin), x1 := if cross then some t else x.x1,
    x2 := if cross then x.x1 else x.x2, peak := max x.peak v.natAbs }

/-- The speeds of a channel at the start of a tick (R374, R375), from the samples of the tick before. -/
def Dev.spdTake (d : Dev) (n : Nat) (sd : List (Nat × Int)) : Dev :=
  let t := d.saf.ticks
  let x := { d.safSpd n with peak := 0 }
  let x := sd.foldl (fun x s => x.sample (d.sp 0x035 n) ((t - 1) * 25000 + s.1 % 25000) s.2) x
  let e := d.openDiv ((d.posAgo n 0 - d.posAgo n 4) * 600000) (d.sp 0x032 n)
  let ne := if d.sp 0x031 n = 0 then (0, d) else e
  let nv := match x.x1, x.x2 with
    | some t1, some t2 => decide (t2 < t1) && decide (t * 25000 - t1 ≤ 40000000)
    | _, _ => false
  let s := ne.2.openDiv (60000000000 : Int) (((x.x1.getD 0 - x.x2.getD 0) * d.sp 0x033 n : Nat))
  let ns := if nv then s else (0, ne.2)
  ns.2.updSaf fun s => { s with spds := updBank 6 {} s.spds n fun _ => { x with ne := ne.1, ns := ns.1, nv := nv } }

/-- The island checks its clock: a count of FCLK periods outside ±1 % in 2 ticks in a row (R362), once a core has counted 4 good ticks in
a row (R495). -/
def Dev.clkCheck (d : Dev) (k n : Nat) : Dev :=
  let bad := decide (n < 61875) || decide (63125 < n)
  if d.saf.clkOk.getD k 0 < 4 then d.updSaf fun s => { s with clkOk := updAt s.clkOk k fun g => if bad then 0 else g + 1 }
  else
  let r := if bad then d.saf.clkBad.getD k 0 + 1 else 0
  let d := d.updSaf fun s => { s with clkBad := updAt s.clkBad k fun _ => r }
  if 2 ≤ r ∧ d.saf.st ≠ 3 then (d.raiseSaf Err.SAF_CLK_FAULT [n]).safFault 2 else d

/-- The island checks the read-back of its GDEN outputs (R362); the gate of THERM_LATCH drives every one low (R487). -/
def Dev.gdCheck (d : Dev) (back i : Nat) : Dev :=
  let back := if d.on Reg.THM_STAT_LATCH then 0 else back
  let r := if back.testBit i != d.saf.gd.testBit i then d.saf.gdBad.getD i 0 + 1 else 0
  let d := d.updSaf fun s => { s with gdBad := updAt s.gdBad i fun _ => r }
  if 2 ≤ r ∧ d.saf.st ≠ 3 then (d.raiseSaf Err.SAF_GDEN_FAULT [i % 6, Config.recordNumber Err.SAF_GDEN_FAULT (i / 6)]).safFault 6 else d

/-- The read-back of a pair's switches against their commands (R369); suspended without V24_SI (R362) and for a switch under test. -/
def Dev.pairCheck (d : Dev) (i : Nat) : Dev :=
  let x := d.safPair i
  let t := d.saf.ticks
  let bad (sw : Nat) : Bool :=
    let chg := if sw = 0 then x.chgP else x.chgM
    let testing := match x.test with | some ts => ts.sw == sw | none => false
    !testing && decide (chg + 4 * d.sp 0x022 i ≤ t) && d.saf.rb.testBit (6 * sw + i) != x.cmd sw
  if d.saf.st = 2 ∧ d.saf.v24 ∧ d.sp 0x020 i ≠ 0 ∧ !x.fault then
    match [0, 1].find? bad with
    | some sw => (d.updPair i fun x => { x with fault := true, byTest := false, test := none }).raiseSaf Err.SAF_OUT_FAULT [i, Config.recordNumber Err.SAF_OUT_FAULT sw]
    | none => d
  else d

/-- The start of output tests (R370, R372): of the pairs whose time has come the first starts one, unless its state changed in this
tick, which reschedules it. -/
def Dev.testStart (d : Dev) : Dev :=
  let t := d.saf.ticks
  let due := (List.range 6).filter fun i =>
    let x := d.safPair i
    d.saf.st == 2 && d.saf.v24 && d.sp 0x020 i != 0 && !x.fault && x.test.isNone && decide (x.next ≤ t) && x.p == x.m
  let changed (i : Nat) := let x := d.safPair i; x.chgP == t || x.chgM == t
  let d := d.each (due.filter changed) fun d i => d.tookFree.updPair i fun x => { x with next := d.soon }
  match due.find? (fun i => !changed i) with
  | some i => d.updPair i fun x =>
    { x with test := some ⟨x.sw, x.p, false⟩, next := t + 4000 * d.sp 0x023 i, sw := 1 - x.sw }
  | none => d

/-- The evaluation of a tick in RUN. -/
def Dev.safRun (d : Dev) : Dev :=
  let a := d.takeInputs 0
  let b := a.2.takeInputs 1
  let d := b.2
  let ackV := (List.range 8).foldl (fun m c => m ||| (d.conn c).acks) 0
  let d := d.each (List.range 6) Dev.pairCheck
  let d := (d.safEvalCore 0 a.1 ackV).safEvalCore 1 b.1 ackV
  d.safDrive.testStart

/-- A message whose OP names no command is refused in the tick that takes it (R402). -/
def Dev.badOp (d : Dev) : Dev := match d.saf.msgs with
  | (w :: _) :: rest =>
    let op := w / 2 ^ 24 % 256
    if op = 0 ∨ 13 < op then
      let sq := w / 65536 % 256
      let resp := op * 2 ^ 24 + sq * 65536 + Err.SAF_CMD_REFUSED
      ((d.updSaf fun s => { s with msgs := rest, took := true, resp := resp }).safAnswer w resp).raiseSaf Err.SAF_CMD_REFUSED [op, sq]
    else d
  | _ => d

/-- An activated configuration is in force from the tick after (R393): every channel carries STO with ACK_PEND, and every receive
connection restarts in WAIT. -/
def Dev.cfgTake (d : Dev) : Dev := match d.saf.next with
  | none => d
  | some cfg =>
    let d := d.updSaf fun s =>
      { s with cfg := cfg, next := none,
               cores := s.cores.map fun c => { c with chs := c.chs.map fun x => { x with init := true, ackPend := true } } }
    d.each (List.range 8) fun d c =>
      d.updConn c fun x => match d.sp 0x080 c with
        | 2 => { x with st := 1, good := none, vi := 0, viIn := 0 }
        | 1 => { x with st := 2 }
        | _ => { x with st := 0 }

/-- SAFETY_TICK: the end of one safety tick and the start of the next (R359, R364, R374, R404). First the cores exchange their decisions
and the island rewrites the mailbox; then each core takes its inputs, evaluates every function and drives its outputs. `diff`: the
channels in which a core fails to decide as it should. The counts of the taps since the last tick with their errors (bit 0 TAP0, bit
1 TAP1), the ΣΔ samples per channel with their time in the tick, each core's count of FCLK periods, and the read-back of GDEN. -/
def execSafetyTick (diff : Nat) (tap0 tap1 : Int) (tapErr : Nat) (sd : List (List (Nat × Int))) (fclkA fclkB gden : Nat) (s : State) :=
  s.runNoClk fun d =>
    let d := (d.safExchange diff).safPublish
    let d := d.updSaf fun s => { s with ticks := s.ticks + 1, took := false }
    let d := d.badOp.cfgTake.connTick
    let d := ((d.clkCheck 0 fclkA).clkCheck 1 fclkB).each (List.range 12) fun d i => d.gdCheck gden i
    let d := (d.tapTake 0 tap0 (tapErr.testBit 0)).tapTake 1 tap1 (tapErr.testBit 1)
    let d := d.each (List.range 6) fun d n => d.spdTake n (sd.getD n [])
    if d.saf.st = 2 then d.safRun else ((d.takeInputs 0).2.takeInputs 1).2

/-! ## Expiries -/

/-- SAF_DISC: the second channel of an input has not followed by tick t1 + T_DISC + 1 (R366). -/
def execSafDisc (i : Nat) (s : State) := s.runNoClk fun d =>
  d.each [0, 1] fun d k =>
    let x := (d.saf.cores.getD k {}).ins.getD i {}
    let late := match x.first with
      | some t1 => !x.judged && decide (x.a ≠ x.b) && decide (t1 + d.sp 0x013 i + 1 ≤ d.saf.ticks)
      | none => false
    if late then
      let d := d.updSaf fun s => { s with cores := updBank 2 {} s.cores k fun c =>
        { c with ins := updBank 12 {} c.ins i fun x => { x with judged := true, disc := true, common := false, act := 0 } } }
      d.safRecord k [(Err.SAF_DISC, [i, Config.recordNumber Err.SAF_DISC x.lag])]
    else d

/-- OUTPUT_TEST_END: a dark or light test ends and is judged (R370, R371). -/
def execOutputTestEnd (i : Nat) (s : State) := s.runNoClk fun d =>
  match (d.safPair i).test with
  | none => d
  | some t =>
    let now := d.saf.ticks
    let d := d.updPair i fun x =>
      { x with test := none, chgP := if t.sw = 0 then now else x.chgP, chgM := if t.sw = 0 then x.chgM else now }
    if t.seen then d
    else
      let d := (d.updPair i fun x => { x with fault := true, byTest := true }).raiseSaf Err.SAF_TEST_FAIL [i, Config.recordNumber Err.SAF_OUT_FAULT t.sw, Config.recordNumber Err.SAF_TEST_FAIL (b2n (!t.dark))]
      (d.each (maskBits 6 (d.sp 0x021 i)) fun d n => d.safAgain n fun c => (c, [])).safDrive

/-- SS1_TIMER_EXPIRY: T_SS1 after the demand SS1-t is complete, and SS1-r or SS2 that is not complete is in violation (R378). -/
def execSs1TimerExpiry (n : Nat) (s : State) := s.runNoClk fun d =>
  if d.saf.st ≠ 2 then d
  else d.safAgain n fun c =>
    if (c.st = 2 ∨ c.st = 3) ∧ c.t0 + 4 * d.sp 0x041 n ≤ d.saf.ticks then
      if c.st = 2 ∧ d.sp 0x040 n = 0 then ({ c with done1 := true }, [])
      else c.violate n (if c.st = 3 then 3 else 2) c.rampMask (d.nSafe n)
    else (c, [])

/-- SLS_GRACE_EXPIRY: SLS_T after a lower limit was selected it is in force (R380). -/
def execSlsGraceExpiry (n : Nat) (s : State) := s.runNoClk fun d =>
  d.each [0, 1] fun d k => d.updSafCh k n fun c => match c.slsDue with
    | some t => if t ≤ d.saf.ticks then { c with slsLim := some (d.slsLimit n c.slsIdx), slsDue := none } else c
    | none => c

/-- SHH_BRAKE_TIME_EXPIRY: at T_SHH STO follows where the load stands, else it slips (R383); in FAULT GDEN goes low (R362). -/
def execShhBrakeTimeExpiry (n : Nat) (s : State) := s.runNoClk fun d =>
  let d := d.each [0, 1] fun d k =>
    let c := d.safCh k n
    if c.st = 5 ∧ !c.slip ∧ c.t0 + 4 * d.sp 0x061 n ≤ d.saf.ticks then
      if d.saf.st = 3 ∨ d.shhStill n then d.updSafCh k n fun c => { c with st := 1 }
      else (d.updSafCh k n fun c => { c with slip := true }).safRecord k
        [(Err.SAF_SHH_SLIP, [n, (d.posAgo n 0 - d.posAgo n 200).natAbs])]
    else d
  d.safDrive

/-- SHH_MAX_EXPIRY: at T_SHH_MAX STO follows (R383). -/
def execShhMaxExpiry (n : Nat) (s : State) := s.runNoClk fun d =>
  let d := d.each [0, 1] fun d k => d.updSafCh k n fun c =>
    if c.st = 5 ∧ c.t0 + 4 * d.sp 0x063 n ≤ d.saf.ticks then { c with st := 1 } else c
  d.safDrive

/-- The result of a brake test (R384): FAIL 1, NOT_RUN 2, PASS 0. -/
def SafCh.sbtResult (c : SafCh) : Nat := if c.sbtMove then 1 else if c.sbtN < 2 * c.sbtLow then 2 else 0

/-- SBT_PHASE_END: the engagement phase of a brake test ends, or its torque phase, which is judged (R384). -/
def execSbtPhaseEnd (n : Nat) (s : State) := s.runNoClk fun d =>
  let t := d.saf.ticks
  let d := d.each [0, 1] fun d k =>
    let c := d.safCh k n
    if c.st ≠ 6 then d
    else if c.sbtPh = 1 ∧ c.t0 + 4 * d.sp 0x061 n ≤ t then
      d.updSafCh k n fun c => { c with sbtPh := 2, t0 := t, sbtP := d.posAgo n 0, sbtN := 0, sbtLow := 0, sbtMove := false }
    else if c.sbtPh = 2 ∧ c.t0 + 4 * d.sp 0x068 n ≤ t then
      let r := c.sbtResult
      let d := d.updSafCh k n fun c =>
        { c with st := 0, sbtPh := 0, sbtOk := if r = 0 then true else if r = 1 then false else c.sbtOk,
                 sbtDue := c.sbtDue && r != 0, sbtFail := c.sbtFail || r != 0, sbtPass := if r = 0 then t else c.sbtPass }
      d.safRecord k (if r = 0 then [] else [(Err.SAF_SBT_FAIL, [n, Config.recordNumber Err.SAF_SBT_FAIL r])])
    else d
  d.safDrive

/-- SAF_SBT_DUE: SBT_PER hours of running time after the last PASS the brake test is due (R384). -/
def execSafSbtDue (n : Nat) (s : State) := s.runNoClk fun d =>
  if d.saf.st ≠ 2 then d
  else d.each [0, 1] fun d k =>
    let c := d.safCh k n
    if c.sbtOk ∧ !c.sbtDue ∧ c.sbtPass + 14400000 * d.sp 0x06B n ≤ d.saf.ticks then
      (d.updSafCh k n fun c => { c with sbtDue := true }).safRecord k [(Err.SAF_SBT_DUE, [n])]
    else d

/-- PASSWORD_SESSION_TIMEOUT: 10 minutes without an accepted command end the session (R392). -/
def execPasswordSessionTimeout (s : State) := s.runNoClk fun d =>
  if d.saf.entered ∧ d.saf.cmdAt + 2400000 ≤ d.saf.ticks then d.updSaf fun s => { s with entered := false } else d

/-- PASSWORD_LOCK_END: the lock of entry ends after 10 minutes and FAILS returns to 0 (R392). -/
def execPasswordLockEnd (s : State) := s.runNoClk fun d => match d.saf.lockAt with
  | some t => if t + 2400000 ≤ d.saf.ticks then d.updSaf fun s => { s with lockAt := none, fails := 0 } else d
  | none => d

end Sys2Proof.Machine
end

