-- ==== Sys2Proof/Machine/Telltale.lean ====
section
/-! DEFINITION. Machine/Telltale.lean: Telltale frames: their transmission, their reception and the loss of a connection
(R395 to R400). -/

namespace Sys2Proof.Machine

/-- The CRC of a Telltale frame (R396). -/
def ttCrc (l : List Nat) : Nat := crcMsb 32 0x741B8CD7 0xFFFFFFFF l

/-- The content of a transmit connection (R397), from core A's view. -/
def Dev.ttData (d : Dev) : List Nat :=
  let ins := (d.saf.cores.getD 0 {}).ins
  let act := maskOf 12 fun i => let x := ins.getD i {}; x.a && x.b && !x.disc
  let fault (n : Nat) := let c := d.safCh 0 n; c.spd || c.sbtFail || d.sbcFault n
  let ch (n : Nat) : Nat :=
    let c := d.safCh 0 n
    b2n (c.st == 1) + 2 * b2n (c.st == 2) + 4 * b2n (c.st == 3 || c.st == 4) + 8 * b2n (c.lat.testBit 5) + 16 * b2n (c.lat.testBit 6) +
      32 * b2n (c.st == 5) + 64 * b2n (d.saf.st == 2 && d.sp 0x031 n != 0 && !c.spd) + 128 * b2n (fault n)
  leBytes 2 act ++ (List.range 6).map ch ++ [maskOf 6 fun i => (d.safPair i).p && (d.safPair i).m]

/-- A Telltale frame (R395). -/
def ttFrame (id seq wd : Nat) (data : List Nat) : List Nat :=
  let h := leBytes 4 id ++ leBytes 2 seq ++ leBytes 2 wd ++ [data.length, 1] ++ data
  h ++ leBytes 4 (ttCrc h)

/-- A transmit connection sends a frame: to the ring's hand-over buffer, or into its mailbox buffer for firmware to send
(R398). -/
def Dev.ttSend (d : Dev) (c : Nat) : Dev :=
  let x := d.conn c
  let data := d.ttData
  let f := ttFrame (d.sp 0x082 c) x.tx (d.sp 0x083 c) data
  let ring := d.sp 0x081 c = 0
  let t := d.saf.ticks
  let d := d.updConn c fun x =>
    { x with st := 2, seq := x.tx, tx := (x.tx + 1) % 65536, at_ := t, sent := true, data := data, buf := f, wait := !ring }
  if ring then d.updDrg fun r => { r with tts := r.tts ++ [f] } else d

/-- TELLTALE_TRANSMIT: every TT_PERIOD ms, and after a change of content but not within 4 ticks of the last frame (R397). -/
def execTelltaleTransmit (c : Nat) (s : State) := s.runNoClk fun d =>
  let x := d.conn c
  let dt := d.saf.ticks - x.at_
  let due := !x.sent || decide (4 * d.sp 0x084 c ≤ dt) || (x.data != d.ttData && decide (4 ≤ dt))
  if d.saf.st = 2 ∧ d.sp 0x080 c = 1 ∧ due then d.ttSend c else d

/-- A frame that fails a check of R399 is discarded and counted. -/
def Dev.ttErr (d : Dev) (c : Nat) : Dev := d.updConn c fun x => { x with err := satInc 255 x.err }

/-- Checks 1 to 4 of R399. A receive connection requires LEN ≥ 2 (R397). -/
def Dev.ttGood (d : Dev) (c : Nat) (f : List Nat) : Bool :=
  let len := f.getD 8 0
  decide (14 + len ≤ f.length) && decide (len ≤ 32) && decide (2 ≤ len) && f.getD 9 0 == 1 &&
    leVal ((f.drop (10 + len)).take 4) == ttCrc (f.take (10 + len)) && leVal (f.take 4) == d.sp 0x082 c &&
    leVal ((f.drop 6).take 2) == d.sp 0x083 c

/-- A frame is accepted: it restarts the watchdog, and its virtual inputs take effect in the next tick (R399). -/
def Dev.ttAccept (d : Dev) (c : Nat) (f : List Nat) : Dev :=
  let t := d.saf.ticks
  d.updConn c fun x =>
    { x with st := 2, seq := leVal ((f.drop 4).take 2), at_ := t, good := none, viIn := leVal ((f.drop 10).take 2),
             buf := f.take (14 + f.getD 8 0) }

/-- A received frame meets its connection (R399, R400). -/
def Dev.ttReceive (d : Dev) (c : Nat) (f : List Nat) : Dev :=
  let x := d.conn c
  let seq := leVal ((f.drop 4).take 2)
  match x.st with
  | 2 =>
    if !d.ttGood c f then d.ttErr c
    else
      let k := (seq + 65536 - x.seq) % 65536
      if k = 0 then d else if k ≤ 4 then d.ttAccept c f else d.ttErr c
  | 1 =>
    if !d.ttGood c f then d.ttErr c
    else if x.good = some ((seq + 65535) % 65536) then d.ttAccept c f
    else d.updConn c fun x => { x with good := some seq }
  | _ => d

/-- TELLTALE_FRAME_RECEIVED: a Telltale frame from the ring is handed to the island, to the receive connections on the ring that name its
source node (R350, R398). -/
def execTelltaleFrameReceived (src : Nat) (ok : Bool) (f : List Nat) (s : State) := s.run fun d =>
  if !ok then d.ringBad
  else d.each (List.range 8) fun d c =>
    if d.saf.st = 2 ∧ d.sp 0x080 c = 2 ∧ d.sp 0x081 c = 0 ∧ d.sp 0x085 c = src then d.ttReceive c f else d

/-- SAF_TT_LOST: TT_WD ms without an accepted frame (R400). Its virtual inputs read safe. -/
def execSafTtLost (c : Nat) (s : State) := s.runNoClk fun d =>
  let x := d.conn c
  if x.st = 2 ∧ d.sp 0x080 c = 2 ∧ x.at_ + 4 * d.sp 0x083 c ≤ d.saf.ticks then
    (d.updConn c fun x => { x with st := 3, good := none, vi := 0, viIn := 0 }).raiseSaf Err.SAF_TT_LOST [c]
  else d

end Sys2Proof.Machine
end

