-- ==== Sys2Proof/Machine/IslandCmd.lean ====
section
/-! DEFINITION. Machine/IslandCmd.lean: the command channel of the safety island and its commands: password, configuration, activation,
requests, acknowledge, brake test and Telltale frames (R388 to R394, R401 to R403). -/

namespace Sys2Proof.Machine

/-! ## The command FIFO (R401) -/

/-- The words that the FIFO holds. -/
def Saf.level (s : Saf) : Nat := s.msgs.foldl (fun a m => a + m.length) s.words.length

/-- SAF_CMD_STAT. -/
def Dev.safCmdStat (d : Dev) : Nat := b2n d.saf.ovr * 2 ^ 17 + b2n (!d.saf.msgs.isEmpty) * 2 ^ 16 + d.saf.level

/-- SAF_CMD_DATA_WRITE: a word is pushed; a full FIFO sets OVR, and with OVR every word is discarded. -/
def Dev.safPush (d : Dev) (v : Nat) : Dev :=
  if d.saf.ovr then d
  else if 256 ≤ d.saf.level then d.updSaf fun s => { s with ovr := true }
  else d.updSaf fun s => { s with words := s.words ++ [v % 2 ^ 32] }

/-- GO: the words since the last GO are one message. -/
def Dev.safGo (d : Dev) : Dev := match d.saf.words with
  | [] => d
  | _ :: _ => d.updSaf fun s => { s with msgs := s.msgs ++ [s.words], words := [] }

/-- FLUSH: the unclosed words are discarded and OVR clears. -/
def Dev.safFlush (d : Dev) : Dev := d.updSaf fun s => { s with words := [], ovr := false }

/-- SAF_CMD_DATA_WRITE. -/
def execSafCmdDataWrite (v : Nat) (s : State) := s.run fun d => d.safPush v

/-- GO. -/
def execGo (s : State) := s.run Dev.safGo

/-- FLUSH. -/
def execFlush (s : State) := s.run Dev.safFlush

/-- The island takes the message at the head of its FIFO where it carries the command `op`, one per tick, and answers (R401, R402): the
header's PORT and the payload go to `f`, which answers the RESULT. A message whose length is not 1 + LEN is refused. -/
def Dev.safCmd (d : Dev) (op : Nat) (f : Dev → Nat → List Nat → Nat × Dev) : Dev :=
  match d.saf.took, d.saf.msgs with
  | false, (w :: p) :: rest =>
    if w / 2 ^ 24 % 256 ≠ op then d
    else
      let d := d.updSaf fun s => { s with msgs := rest, took := true }
      let r := if p.length = w % 256 then f d (w / 256 % 256) p else (Err.SAF_CMD_REFUSED, d)
      let resp := w / 65536 % 65536 * 65536 + r.1
      let d := (r.2.updSaf fun s => { s with resp := resp }).safAnswer w resp
      if r.1 = 0 then let t := d.saf.ticks; d.updSaf fun s => { s with cmdAt := t }
      else d.when (r.1 == Err.SAF_CMD_REFUSED) fun d => d.raiseSaf r.1 [op, w / 65536 % 256]
  | _, _ => d

/-- A refusal without effect. -/
def Dev.safNo (d : Dev) : Nat × Dev := (Err.SAF_CMD_REFUSED, d)

/-- The bytes of payload words, little-endian (R4). -/
def wordBytes (l : List Nat) : List Nat := l.flatMap (leBytes 4)

/-! ## Password (R392) -/

/-- The password of a payload: its length in word 1, 8 to 32, then its bytes, 4 per word. -/
def passOf (p : List Nat) : Option (List Nat) :=
  let n := p.getD 0 0 % 64
  if 8 ≤ n ∧ n ≤ 32 ∧ p.length = 1 + (n + 3) / 4 then some ((wordBytes (p.drop 1)).take n) else none

/-- ENTER with a password. -/
def Dev.safEnter (d : Dev) (pw : List Nat) : Nat × Dev :=
  let e := (d.tlyEntry 9).value
  if d.saf.lockAt.isSome then (Err.SAF_PW_LOCK, d.raiseSaf Err.SAF_PW_LOCK [d.lockLeft])
  else if (d.tlyEntry 9).blank ∨ d.saf.entered then d.safNo
  else if sha256n (e.take 16 ++ pw) = e.drop 16 then (0, d.updSaf fun s => { s with entered := true, fails := 0 })
  else
    let n := d.saf.fails + 1
    let t := d.saf.ticks
    let d := (d.updSaf fun s => { s with fails := n }).raiseSaf Err.SAF_PW_FAIL [n]
    if 5 ≤ n then
      let d := d.updSaf fun s => { s with lockAt := some t }
      (Err.SAF_PW_FAIL, d.raiseSaf Err.SAF_PW_LOCK [d.lockLeft])
    else (Err.SAF_PW_FAIL, d)

/-- ENTER. -/
def execEnter (s : State) := s.runNoClk fun d => d.safCmd 0x01 fun d _ p => match passOf p with
  | some pw => d.safEnter pw
  | none => d.safNo

/-- EXIT. -/
def execExit (s : State) := s.runNoClk fun d => d.safCmd 0x02 fun d _ p =>
  if d.saf.entered ∧ p = [] then (0, d.updSaf fun s => { s with entered := false }) else d.safNo

/-- A log record of the island (R394). -/
def Dev.safLog (d : Dev) (kind port rt : Nat) (before after : List Nat) : Dev :=
  let i := d.saf.logIdx + 1
  let b := leBytes 4 i ++ leBytes 8 rt ++ [kind, port, 0, 0] ++ (before ++ List.replicate 32 0).take 32 ++
    (after ++ List.replicate 32 0).take 32
  d.updSaf fun s => { s with logIdx := i, logShow := i, logPend := true, logRec := b ++ leBytes 4 (ttCrc b) }

/-- A salt from the island's random source: 16 free values (log 2). -/
def Dev.safSalt (d : Dev) : List Nat × Dev :=
  ((List.range 16).map (fun i => Config.freeValue (d.free + i) % 256), { d with free := d.free + 16 })

/-- SET_PW: a new salt and hash go to the tally, and a log record is created (R392, R394). -/
def execSetPw (s : State) := s.runNoClk fun d => d.safCmd 0x03 fun d port p => match passOf p with
  | none => d.safNo
  | some pw =>
    if !(d.saf.entered || (d.tlyEntry 9).blank) || d.saf.logPend then d.safNo
    else
      let s := d.safSalt
      let w := s.2.tlyWrite 9 0 (s.1 ++ sha256n (s.1 ++ pw)) port false
      if w.1 ≠ 0 then w else (0, w.2.safLog 2 port 0 [] [])

/-! ## Configuration (R388 to R391) -/

/-- The number of a configuration record's bytes. -/
def recLen : Nat := 8

/-- The staged block with words written at an offset: offset 0 begins a new block (DEDUCED, log 52). Bytes that no CFG_LOAD has
brought are open: free values (log 2). -/
def Dev.stage (d : Dev) (ofs : Nat) (data : List Nat) : Dev :=
  let old := if ofs = 0 then [] else d.saf.staged
  let gap := ofs - old.length
  let fill := (List.range gap).map (fun i => Config.freeValue (d.free + i) % 256)
  let d := { d with free := d.free + gap }
  d.updSaf fun s => { s with staged := (old ++ fill).take ofs ++ data ++ old.drop (ofs + data.length), stagedOk := false }

/-- Whether CFG_LOAD and CFG_CHECK are accepted now (R403). -/
def Dev.mayStage (d : Dev) : Bool := d.saf.entered || d.saf.st == 1

/-- CFG_LOAD. -/
def execCfgLoad (s : State) := s.runNoClk fun d => d.safCmd 0x04 fun d _ p =>
  let o := p.getD 0 0
  let data := wordBytes (p.drop 1)
  if d.mayStage ∧ 1 ≤ p.length ∧ o % 4 = 0 ∧ o ≤ 4108 ∧ o + data.length ≤ 4112 then (0, d.stage o data) else d.safNo

/-- A record of a block: ID, instance, its byte 3 and its value. -/
def cfgRec (b : List Nat) (i : Nat) : Nat × Nat × Nat × Nat :=
  let r := (b.drop (16 + recLen * i)).take recLen
  (leVal (r.take 2), r.getD 2 0, r.getD 3 0, leVal (r.drop 4))

/-- The records of a block. -/
def cfgRecs (b : List Nat) : List (Nat × Nat × Nat × Nat) := (List.range (leVal ((b.drop 6).take 2))).map (cfgRec b)

/-- The parameters that a block's records name, by 256 × ID + instance. -/
def cfgVals (b : List Nat) : List (Nat × Nat) := (cfgRecs b).map fun r => (r.1 * 256 + r.2.1, r.2.2.2)

/-- Whether a block's header and length are as R388 gives them. -/
def cfgHead (b : List Nat) : Bool :=
  let n := leVal ((b.drop 6).take 2)
  leVal (b.take 4) == 0x43464153 && leVal ((b.drop 4).take 2) == 1 && decide (1 ≤ n) && decide (n ≤ 512) &&
    (b.drop 8).take 8 == List.replicate 8 0 && b.length == 16 + recLen * n

/-- The first failing condition of one record by itself, after those before it: REASON 2, 3 or 4, else 0. -/
def recReason (cfg : List (Nat × Nat)) (before : List (Nat × Nat × Nat × Nat)) (r : Nat × Nat × Nat × Nat) : Nat :=
  match safPars.find? (fun p => p.1 == r.1) with
  | none => 2
  | some p =>
    let v := r.2.2.2
    let i := r.2.1
    if p.2.1 ≤ i ∨ r.2.2.1 ≠ 0 then 2
    else if v < p.2.2.1 ∨ p.2.2.2.1 < v then 3
    else if r.1 = 0x063 ∧ v < cfgGet cfg 0x061 i then 3
    else if r.1 = 0x061 ∧ cfgGet cfg 0x063 i < v then 3
    else if (r.1 = 0x020 ∨ r.1 = 0x021) ∧ cfgGet cfg 0x020 i = 1 ∧ (maskBits 6 (cfgGet cfg 0x021 i)).length ≠ 1 then 3
    else if before.any (fun x => x.1 == r.1 && x.2.1 == i) then 4
    else 0

/-- Whether a configuration gives a channel an SBC pair. -/
def cfgSbc (cfg : List (Nat × Nat)) (n : Nat) : Bool :=
  (List.range 6).any fun i => cfgGet cfg 0x020 i == 1 && (cfgGet cfg 0x021 i).testBit n

/-- Whether a record's parameter fails one of the conditions that concern several parameters: REASON 5 to 9, else 0. -/
def crossReason (cfg : List (Nat × Nat)) (before : List (Nat × Nat × Nat × Nat)) (r : Nat × Nat × Nat × Nat) : Nat :=
  let g := cfgGet cfg
  let i := r.2.1
  let noTap (m : Nat) : Bool := (maskBits 6 m).any fun n => g 0x031 n == 0
  let ramp (m : Nat) : Bool := (maskBits 6 m).any fun n => g 0x031 n == 0 && g 0x040 n == 1
  let inFn := r.1 = 0x010 ∨ r.1 = 0x011 ∨ r.1 = 0x012
  let viFn := r.1 = 0x090 ∨ r.1 = 0x091 ∨ r.1 = 0x092
  let fn := g 0x011 i
  let vf := g 0x091 i
  let ringTx (x : Nat × Nat × Nat × Nat) : Bool := x.1 == 0x080 && x.2.2.2 == 1 && g 0x081 x.2.1 == 0
  if inFn ∧ g 0x010 i = 1 ∧ ((3 ≤ fn ∧ fn ≤ 6 ∧ noTap (g 0x012 i)) ∨ (fn = 2 ∧ ramp (g 0x012 i))) then 5
  else if viFn ∧ g 0x090 i = 1 ∧ ((3 ≤ vf ∧ noTap (g 0x092 i)) ∨ (vf = 2 ∧ ramp (g 0x092 i))) then 5
  else if r.1 = 0x060 ∧ g 0x060 i = 1 ∧ g 0x031 i = 0 then 5
  else if r.1 = 0x031 ∧ r.2.2.2 ≠ 0 ∧ g 0x030 (r.2.2.2 - 1) = 6 then 5
  else if r.1 = 0x060 ∧ g 0x060 i = 1 ∧ !cfgSbc cfg i then 6
  else if inFn ∧ g 0x010 i = 1 ∧ fn = 7 ∧ (maskBits 6 (g 0x012 i)).any (fun n => g 0x060 n == 0) then 6
  else if (r.1 = 0x083 ∨ r.1 = 0x084 ∨ r.1 = 0x080) ∧ g 0x080 i ≠ 0 ∧ g 0x083 i < 2 * g 0x084 i then 7
  else if ringTx r ∧ 3 ≤ (before.filter ringTx).length then 8
  else if 0x052 ≤ r.1 ∧ r.1 ≤ 0x055 ∧ (g 0x053 i < g 0x052 i ∨ g 0x054 i < g 0x053 i ∨ g 0x055 i < g 0x054 i) then 9
  else 0

/-- The first failing record with its REASON (R390); `none` where the block passes. -/
def cfgBad (b : List Nat) : Option (Nat × Nat) :=
  if !cfgHead b then some (0, 1)
  else
    let recs := cfgRecs b
    let cfg := cfgVals b
    let scan (f : List (Nat × Nat × Nat × Nat) → Nat × Nat × Nat × Nat → Nat) : Option (Nat × Nat) :=
      recs.zipIdx.findSome? fun x => let y := f (recs.take x.2) x.1; if y = 0 then none else some (x.2, y)
    (scan (recReason cfg)).orElse fun _ => scan (crossReason cfg)

/-- CFG_CHECK: the staged block is accepted with its hash, or refused with the first failing record (R390). -/
def execCfgCheck (s : State) := s.runNoClk fun d => d.safCmd 0x05 fun d _ p =>
  if !d.mayStage || !p.isEmpty then d.safNo
  else match cfgBad d.saf.staged with
    | none => (0, d.updSaf fun s => { s with stagedOk := true, shash := sha256n s.staged, cfgErr := (0, 0) })
    | some e =>
      (Err.SAF_CFG_REFUSED, (d.updSaf fun s => { s with stagedOk := false, cfgErr := e }).raiseSaf Err.SAF_CFG_REFUSED [e.1, e.2])

/-- The island enters RUN with the staged configuration (R361, R385): every channel starts in STO with ACK_PEND set; the brake tests of
channels with an SBC pair are due (R384). -/
def Dev.enterRun (d : Dev) : Dev :=
  let t := d.saf.ticks
  let d := d.updSaf fun s =>
    { s with st := 2, cfg := cfgVals s.staged, hash := s.shash, cores := s.cores.map fun c => { c with
               chs := c.chs.map fun _ => { cause := 8 }, ins := c.ins.map fun _ => {} } }
  let d := d.each (List.range 6) fun d i => d.updPair i fun _ => { chgP := t, chgM := t, next := t + 4000 * d.sp 0x023 i }
  let d := d.each (List.range 8) fun d c => d.updConn c fun x => { x with st := match d.sp 0x080 c with | 2 => 1 | 1 => 2 | _ => 0 }
  let d := d.each (List.range 6) fun d n =>
    if (d.sbcPair n).isSome then
      (d.each [0, 1] fun d k => d.updSafCh k n fun c => { c with sbtDue := true }).raiseSaf Err.SAF_SBT_DUE [n]
    else d
  d.safDrive

/-- CFG_START: only with a staged block that passed CFG_CHECK and whose hash the tally holds (R391). -/
def execCfgStart (s : State) := s.runNoClk fun d => d.safCmd 0x06 fun d _ p =>
  if !p.isEmpty then d.safNo
  else if d.saf.st = 1 ∧ d.saf.stagedOk ∧ !(d.tlyEntry 8).blank ∧ (d.tlyEntry 8).value = d.saf.shash then (0, d.enterRun)
  else (Err.SAF_CFG_REFUSED, d.raiseSaf Err.SAF_CFG_REFUSED [d.saf.cfgErr.1, d.saf.cfgErr.2])

/-- Whether every channel is in island STO, in both cores. -/
def Dev.allSto (d : Dev) : Bool := (List.range 12).all fun i => (d.safCh (i / 6) (i % 6)).st == 1

/-- ACTIVATE: the staged hash goes to the tally, a log record is created, and the configuration is in force from the next tick
(R393). In WAIT_CFG the activated block then awaits CFG_START. -/
def execActivate (s : State) := s.runNoClk fun d => d.safCmd 0x07 fun d port p =>
  let want := wordBytes (p.drop 2)
  if d.saf.entered ∧ d.saf.stagedOk ∧ p.length = 10 ∧ want = d.saf.shash ∧ d.allSto ∧ !d.saf.logPend then
    let before := if (d.tlyEntry 8).blank then [] else (d.tlyEntry 8).value
    let w := d.tlyWrite 8 0 d.saf.shash port false
    if w.1 ≠ 0 then w
    else
      let rt := p.getD 0 0 + 2 ^ 32 * p.getD 1 0
      let d := w.2.safLog 1 port rt before d.saf.shash
      let d := d.raiseSaf Err.SAF_CFG_ACTIVE [d.saf.logIdx]
      (0, if d.saf.st = 2 then d.updSaf fun s => { s with next := some (cfgVals s.staged), hash := s.shash } else d)
  else d.safNo

/-- LOG_ACK: the pending record is released (R394). -/
def execLogAck (s : State) := s.runNoClk fun d => d.safCmd 0x08 fun d _ p =>
  if p = [d.saf.logIdx] ∧ d.saf.logPend then (0, d.updSaf fun s => { s with logPend := false }) else d.safNo

/-! ## Requests (R385, R386, R403) -/

/-- REQ_STO: the host's own STO demand on the named channels. -/
def execReqSto (s : State) := s.runNoClk fun d => d.safCmd 0x09 fun d _ p =>
  if d.saf.st = 2 ∧ p.length = 1 then
    (0, d.each (maskBits 6 (p.getD 0 0)) fun d n =>
      d.safAgain n fun c => ({ c with host := true, lat := c.lat ||| 2, src := c.src ||| 2 }, []))
  else d.safNo

/-- REL_STO: the host's demand ends; others stand (R386). -/
def execRelSto (s : State) := s.runNoClk fun d => d.safCmd 0x0A fun d _ p =>
  if d.saf.st = 2 ∧ p.length = 1 then
    (0, d.each (maskBits 6 (p.getD 0 0)) fun d n => d.each [0, 1] fun d k => d.updSafCh k n fun c => { c with host := false })
  else d.safNo

/-- Whether a source of a channel reads safe now, in either core. -/
def Dev.safHeld (d : Dev) (n : Nat) : Bool :=
  [0, 1].any fun k => (d.safCh k n).host || (d.demands k).any (fun x => x.2.1.testBit n)

/-- ISLAND_ACK: the ACK command acknowledges the named channels; refused where ACK_SRC bit 2 of one is 0 or one still has a source that
reads safe (R385, R403). -/
def execIslandAck (s : State) := s.runNoClk fun d => d.safCmd 0x0B fun d _ p =>
  let m := maskBits 6 (p.getD 0 0)
  if p.length = 1 ∧ m.all (fun n => (d.sp 0x071 n).testBit 2 && !d.safHeld n) then
    (0, d.each m fun d n => (d.pairAck n).safAgain n fun c => (d.safAck n { c with src := 0 }, []))
  else d.safNo

/-- SBT_START: a safe brake test begins with the SBC pair off, or is refused (R384). -/
def execSbtStart (s : State) := s.runNoClk fun d => d.safCmd 0x0C fun d _ p =>
  let n := p.getD 0 0 % 8
  let free_ (k : Nat) : Bool := let c := d.safCh k n; c.st == 0 && c.lat == 0 && !c.ackPend
  if d.saf.st = 2 ∧ p.length = 1 ∧ n < 6 ∧ free_ 0 ∧ free_ 1 ∧ (d.sbcPair n).isSome ∧ d.sp 0x031 n ≠ 0 then
    let t := d.saf.ticks
    let d := d.each [0, 1] fun d k => d.updSafCh k n fun c => { c with st := 6, sbtPh := 1, t0 := t }
    (0, d.safDrive)
  else d.safNo

/-- TT_RX: firmware hands over a received Telltale frame of a connection on CAN FD or Ethernet (R398, R399). -/
def execTtRx (s : State) := s.runNoClk fun d => d.safCmd 0x0D fun d _ p =>
  let c := p.getD 0 0 % 8
  let n := p.getD 0 0 / 256 % 256
  if n ≤ 48 ∧ p.length = 1 + (n + 3) / 4 ∧ d.sp 0x080 c = 2 ∧ d.sp 0x081 c ≠ 0 then
    (0, d.ttReceive c ((wordBytes (p.drop 1)).take n))
  else d.safNo

end Sys2Proof.Machine
end

