-- ==== Sys2Proof/Machine/Ptp.lean ====
section
/-! DEFINITION. Machine/Ptp.lean: the PTP clocks of the Ethernet MACs and their frames (R48, R426, R427). -/

namespace Sys2Proof.Machine

/-! ## The clocks (R427) -/

/-- The device with a PTP clock changed. -/
def Dev.updPtp (d : Dev) (m : Nat) (f : PtpClock → PtpClock) : Dev :=
  { d with hst := { d.hst with ptp := updBank 2 {} d.hst.ptp m f } }

/-- A clock of a MAC with a number of ns added; its seconds wrap at 48 bits. -/
def PtpClock.add (c : PtpClock) (ns : Int) : PtpClock :=
  let t := ((c.sec : Int) * 1000000000 + c.ns + ns) % (2 ^ 48 * 1000000000)
  { c with sec := (t / 1000000000).toNat, ns := (t % 1000000000).toNat }

/-- One tick of a PTP clock: 4 ns, adjusted by RATE in 2^-40 (R427). -/
def Dev.ptpTick (d : Dev) (m : Nat) : Dev :=
  let step := 4 * (2 ^ 40 + d.sg (Reg.PTP_RATE_RATE m))
  d.updPtp m fun c =>
    let f := step.toNat + c.frac
    { (c.add ((f / 2 ^ 40 : Nat) : Int)) with frac := f % 2 ^ 40 }

/-- The time error of a ring master that follows a PTP clock, which it slews away (R48): 8 × PTP ns + RT_PTP_OFS − RT64. -/
def Dev.ptpFollow (d : Dev) : Dev :=
  if d.tb.ptpOn && d.on Reg.RT_STAT_MASTER && d.on Reg.RT_CFG_PTP_SRC then
    let m := d.g Reg.RT_CFG_PTP_SRC - 1
    let ofs := d.word Reg.RT_PTP_OFS_HI * 2 ^ 32 + d.word Reg.RT_PTP_OFS_LO
    let err := toInt 64 (ofInt 64 (8 * (d.ptpNs m : Int) + (ofs : Nat) - (d.tb.rt : Nat)))
    let rate := (d.sg (Reg.PTP_RATE_RATE m)).natAbs
    -- PTP_LOCK: a rate offset of at most 1 ppm, taken as that of RATE (DEDUCED, log 56)
    ({ d with tb := { d.tb with slew := err } }).s Reg.RT_STAT_PTP_LOCK (b2n (decide (rate * 1000000 ≤ 2 ^ 40)))
  else d.s Reg.RT_STAT_PTP_LOCK 0

/-- A step of a MAC's clock by a signed number of ns. -/
def Dev.ptpStep (d : Dev) (m v : Nat) : Dev := d.updPtp m fun c => c.add (toInt 32 (v % 2 ^ 32))

/-- PTP_STEP: a write to PTP_m_STEP (R427). -/
def execPtpStep (m v : Nat) (s : State) := s.run fun d => if m < 2 then d.ptpStep m v else d

/-- A read of PTP_m_SEC_LO: it snapshots SEC_HI and NS. -/
def Dev.ptpRead (d : Dev) (m : Nat) : Dev :=
  let c := d.hst.ptp.getD m {}
  ((d.setWord (Reg.PTP_SEC_LO m) (c.sec % 2 ^ 32)).setWord (Reg.PTP_SEC_HI m) (c.sec / 2 ^ 32 % 65536)).setWord (Reg.PTP_NS m) c.ns

/-- PTP_SEC_READ. -/
def execPtpSecRead (m : Nat) (s : State) := s.run fun d => if m < 2 then d.ptpRead m else d

/-! ## Frames (R426, R427) -/

/-- The stamp of a frame received now: the PHY's latency goes off, in RT64 and in the PTP clock. -/
def Dev.stampRx (d : Dev) (m : Nat) : Dev :=
  let l := d.g (Reg.PTP_LAT_RX m)
  d.updPtp m fun c => { c with rxRt := ofInt 64 ((d.tb.rt : Int) - 8 * l), rxNs := (c.sec : Int) * 1000000000 + c.ns - l }

/-- The stamp of a frame sent now: the PHY's latency comes on top. -/
def Dev.stampTx (d : Dev) (m : Nat) : Dev :=
  let l := d.g (Reg.PTP_LAT_TX m)
  d.updPtp m fun c => { c with txRt := (d.tb.rt + 8 * l) % 2 ^ 64, txNs := (c.sec : Int) * 1000000000 + c.ns + l }

/-- An Ethernet port whose link is up sends its oldest outbound frame (DESIGN CHOICE, log 54: one in each tick). -/
def Dev.ethSend (d : Dev) (p : Nat) : Dev :=
  match (d.hport p).outq with
  | [] => d
  | _ :: t => if (d.hport p).linkUp then (d.stampTx (p - 1)).updPort p fun q => { q with outq := t } else d

/-- A datagram of the host protocol, or one of its fragments (R426): its bytes are checked as a frame once all are there. -/
def Dev.ethHost (d : Dev) (p addr id ofs : Nat) (more : Bool) (data : List Nat) : Dev :=
  if ofs = 0 ∧ !more then d.hostFrame p addr data
  else
    let d := d.updPort p fun q => { q with frags := joinFrag q.frags id ofs more data }
    match d.wholeFrag p id with
    | none => d
    | some b =>
      let d := d.updPort p fun q => { q with frags := q.frags.filter (fun f => f.id != id) }
      if b.length ≤ 4200 then d.hostFrame p addr b else d

/-- ETH_FRAME_RECEIVED: a frame on Ethernet port p is stamped; a datagram on UDP port 47201 goes to the host protocol. What the MAC
carries beside it (0 host protocol, 1 Telltale, 2 PTP, 3 ARP and ICMP echo) is firmware's; any other frame is discarded (R426, R427). -/
def execEthFrameReceived (p kind addr id ofs : Nat) (more : Bool) (data : List Nat) (s : State) := s.run fun d =>
  if (p = 1 ∨ p = 2) ∧ (d.hport p).linkUp then
    let d := d.stampRx (p - 1)
    if kind = 0 then d.ethHost p addr id ofs more data else d
  else d

/-- ETH_FRAGMENT_TIMEOUT: a datagram incomplete 100 ms after its first fragment is discarded (R426). -/
def execEthFragmentTimeout (p id : Nat) (s : State) := s.run fun d =>
  d.updPort p fun q => { q with frags := q.frags.filter (fun f => f.id != id) }

end Sys2Proof.Machine
end

