-- ==== Sys2Proof/Machine/Interrupts.lean ====
section
/-! DEFINITION. Machine/Interrupts.lean: the interrupt sources of the supervisor, each level-sensitive, and the interrupt controller's
claim and completion (R35 to R37 and the source tables of the blocks' chapters). -/

namespace Sys2Proof.Machine

/-- Some index below `n` satisfies a test. -/
def anyOf (n : Nat) (p : Nat → Bool) : Bool := (List.range n).any p

/-- Sources 0 to 15, SYS (R500). -/
def Dev.irqSys (d : Dev) (i : Nat) : Bool :=
  match i with
  | 0 => d.on Reg.SYS_WDT_CFG_EN && decide (3 * 250000 * d.g Reg.SYS_WDT_CFG_TIMEOUT < 4 * (d.tick - d.sys.wdtLast))
  | 1 => bits (d.word Reg.SYS_CLK_STAT) 7 4 != 0
  | 2 => d.word Reg.SYS_RST_CAUSE != 0
  | 3 => d.unread [Err.SYS_BUS_ERR]
  | 4 => d.unread [Err.SYS_D2D_CRC, Err.SYS_D2D_LOST]
  | 5 => d.unread [Err.SYS_RST_REFUSED]
  | 6 => d.on Reg.SYS_SVH_STAT_EXPIRED
  | 7 => d.saf.ovr
  | _ => false

/-- Sources 16 to 23, THM (R501). -/
def Dev.irqThm (d : Dev) (i : Nat) : Bool :=
  match i with
  | 0 => d.on Reg.THM_STAT_PEND
  | 1 => anyOf 6 (fun c => decide (d.g (Reg.THM_CH_DER_F_APP c) < 0x8000))
  | 2 => d.on Reg.THM_STAT_DIE_HARD || d.on Reg.THM_STAT_CH_HARD
  | 3 => d.on Reg.THM_STAT_BROKEN || d.on Reg.THM_STAT_HV_STALE
  | 4 => anyOf 8 (fun n => d.on (Reg.TIN_CFG_EN n) && d.on (Reg.TIN_VAL_INVALID n))
  | 5 => d.on Reg.THM_STAT_LATCH
  | 6 => d.unread [Err.THM_CFG_BAD, Err.THM_RWL_REFUSED]
  | _ => false

/-- Sources 24 to 39, TB (R75). -/
def Dev.irqTb (d : Dev) (i : Nat) : Bool :=
  match i with
  | 0 => d.unread [Err.ERR_EVENT]
  | 1 => d.unread [Err.TB_BELL_FULL, Err.TB_BELL_PAST, Err.TB_BELL_BAD, Err.TB_RING_LEAD, Err.TB_BELL_GONE]
  | 2 => d.g Reg.LATE_CNT_COUNT != d.tb.lateRead
  | 3 => d.on Reg.RBELL_ACK_NAK
  | 4 => anyOf 16 (fun n => d.on (Reg.WHL_STAT_STALE n))
  | 5 => anyOf 16 (fun n => d.on (Reg.WHL_STAT_JUMP n))
  | 6 => d.tb.admitted && d.g Reg.RT_STAT_STATE != 2
  | 7 => anyOf 8 (fun g => d.on (Reg.LG_CTL_ALIGN_EN g) && !d.on (Reg.LG_CTL_ALIGNED g))
  | _ => false

/-- Sources 40 to 55, CE (R105). -/
def Dev.irqCe (d : Dev) (i : Nat) : Bool :=
  match i with
  | 0 => !d.ce.resultRead
  | 1 => anyOf 256 (fun c => d.on (Reg.CTX_STAT_CONSEC_LATE c))
  | 2 => anyOf 256 (fun c => d.g (Reg.CTX_W0_STATE c) == 4)
  | 3 => d.unread [Err.CE_TRIG_FAST]
  | 4 => anyOf 12 (fun e => d.on (Reg.ENG_STAT_FAULT e))
  | 5 => d.on Reg.CE_MIG_STAT_ACTIVE
  | 6 => d.unread [Err.CE_MIG_DONE, Err.CE_MIG_FAIL]
  | 7 => anyOf 32 (fun k => d.on (Reg.RES_STAT_EXCEED k))
  | 8 => anyOf 16 (fun j => d.on (Reg.SPC_STAT_INVALID j))
  | 9 => d.unread [Err.CE_WR_GUARD]
  | 10 => d.unread [Err.CE_SIG_STARVED]
  | _ => false

/-- Sources 56 to 79, PWM channel n from 56 + 4n (R180). -/
def Dev.irqPwm (d : Dev) (n i : Nat) : Bool :=
  match i with
  | 0 => d.on (Reg.PWM_CH_STAT_SAFE n)
  | 1 => d.on (Reg.PWM_CH_STAT_ARM_REF n)
  | 2 => d.errs.any (fun q => q.queue.any (fun r =>
      [Err.PWM_MODE_DONE, Err.PWM_SYNC_WAIT, Err.PWM_PAT_BAD, Err.PWM_PAT_STALE].contains r.code && r.ctx.getD 0 6 == n))
  | _ => d.on (Reg.PWM_CH_STAT_PAIR_STALE n) || d.on (Reg.PWM_CH_STAT_DT_RANGE n) || d.on (Reg.PWM_CH_STAT_TRIG_RANGE n) ||
      d.on (Reg.PWM_CH_STAT_HR_FAIL n) || d.on (Reg.PWM_LEG_STAT_CONFLICT n) || d.on (Reg.PWM_LEG_STAT_NPC_ILL n)

/-- Sources 80 to 87, TRP (R181). -/
def Dev.irqTrp (d : Dev) (i : Nat) : Bool :=
  match i with
  | 0 => d.on Reg.TRP_STAT_LATCH
  | 1 => d.on Reg.TRP_CLR_RESULT_REFUSED
  | 2 => d.on Reg.TRP_STAT_CLK_LOSS
  | 3 => d.unread [Err.TRP_FORCED]
  | 4 => d.unread [Err.TRP_CHOP_EXCL, Err.TRP_RWL_REFUSED]
  | 5 => anyOf 3 (fun i => d.on (Reg.TRP_SRC_ACT_ACT i))
  | _ => false

/-- Sources 88 to 103, MEA and POS (R210, R211). -/
def Dev.irqMea (d : Dev) (i : Nat) : Bool :=
  match i with
  | 0 => anyOf 48 (fun k => d.on (Reg.SD_RES_STUCK k))
  | 1 => d.unread [Err.MEA_SEQ_OVR]
  | 2 => anyOf 40 (fun c => d.on (Reg.SAR_RES_INVALID c))
  | 3 => anyOf 40 (fun c => d.on (Reg.SAR_RES_PRED c))
  | 4 => anyOf 48 (fun k => d.on (Reg.SD_RES_CMP k))
  | 5 => d.unread [Err.MEA_RWL_REFUSED]
  | 8 => anyOf 6 (fun n => d.on (Reg.ENC_STAT_ILLEGAL n) || d.on (Reg.ENC_STAT_ZERR n))
  | 9 => anyOf 3 (fun r => d.on (Reg.RSV_STAT_LOS r))
  | 10 => anyOf 4 (fun p => d.on (Reg.SSI_STAT_INVALID p))
  | 11 => d.unread [Err.POS_SSI_ERR]
  | 12 => anyOf 8 (fun c => d.on (Reg.CAP_STAT_LEVEL c))
  | 13 => d.unread [Err.POS_CAP_OVR]
  | 14 => anyOf 4 (fun q => d.on (Reg.PLS_RES_INVALID q))
  | 15 => d.unread [Err.POS_RWL_REFUSED, Err.POS_CFG_BAD]
  | _ => false

/-- Sources 104 to 127, STP, CMU and AUX (R293, R270). -/
def Dev.irqAux (d : Dev) (i : Nat) : Bool :=
  match i with
  | 0 | 1 | 2 | 3 => d.g (Reg.STP_STAT_STATE i) == 5
  | 4 => d.unread [Err.STP_HOME_DONE, Err.STP_HOME_FAIL]
  | 5 => anyOf 4 (fun n => d.on (Reg.STP_STAT_LIM_LO_ACT n) || d.on (Reg.STP_STAT_LIM_HI_ACT n))
  | 6 => anyOf 4 (fun n => d.on (Reg.STP_STAT_STALL n) || d.on (Reg.STP_STAT_LAG n) || d.on (Reg.STP_STAT_VSAT n) ||
      d.on (Reg.STP_STAT_VCLAMP n) || d.on (Reg.STP_STAT_TCLAMP n))
  | 7 => d.unread [Err.STP_CMD_REFUSED, Err.STP_CFG_BAD, Err.STP_RWL_REFUSED]
  | 8 => d.on (Reg.CMU_STAT_PROPOSE 0)
  | 9 => d.g (Reg.CMU_STAT_STATE 0) == 8
  | 10 => d.on (Reg.CMU_STAT_PROPOSE 1)
  | 11 => d.g (Reg.CMU_STAT_STATE 1) == 8
  | 12 => d.unread [Err.CMU_CMD_REFUSED, Err.CMU_DECIDE_REFUSED, Err.CMU_CFG_BAD, Err.CMU_RWL_REFUSED]
  | 13 => anyOf 2 (fun k => d.on (Reg.CMU_STAT_MISS k))
  | 16 => d.auxLatches != 0
  | 17 => anyOf 16 (fun n => d.on (Reg.HB_STAT_BS_REFRESH n))
  | 18 => d.on Reg.AUX_STAT_VBR_UV
  | 19 => !d.on Reg.AUX_STAT_EN
  | 20 => anyOf 16 (fun n => d.on (Reg.HB_LEAK_DONE n))
  | 21 => anyOf 16 (fun n => d.on (Reg.HB_STAT_ILIM_ACT n))
  | 22 => d.unread [Err.AUX_LEAK_REFUSED, Err.AUX_RWL_REFUSED]
  | _ => false

/-- Sources 128 to 135, DCL (R321). -/
def Dev.irqDcl (d : Dev) (i : Nat) : Bool :=
  match i with
  | 0 => anyOf 4 (fun m => d.on (Reg.DL_STAT_WARN m) || d.on (Reg.DL_STAT_TRIP m))
  | 1 => anyOf 4 (fun m => d.on (Reg.DL_STAT_CHOP_FAIL m) || d.on (Reg.DL_STAT_INVALID m))
  | 2 => anyOf 6 (fun c => d.on (Reg.DCL_CH_STAT_SLSTATE c))
  | 3 => d.on Reg.PB_STAT_FLR
  | 4 => anyOf 6 (fun c => d.on (Reg.DCL_CH_CFG_PB_EN c) && d.on (Reg.DCL_CH_GRANT_REASON c))
  | 5 => d.hst.proposals.any (fun p => p.func == 4 || p.func == 7 || (p.func == 3 && decide (p.unit < 0x10)))
  | 6 => d.unread [Err.DCL_CMD_REFUSED, Err.DCL_RWL_REFUSED, Err.DCL_CFG_BAD]
  | _ => false

/-- Sources 136 to 167, CAN controller n from 136 + 8n (R422). -/
def Dev.irqCan (d : Dev) (n e : Nat) : Bool :=
  d.on (Reg.CAN_HP_STAT_LEVEL n e) ||
    (d.g (Reg.CAN_IE_GEN_LINE n) == e && (d.g (Reg.CAN_IR_EVENTS n) &&& d.g (Reg.CAN_IE_EVENTS n)) != 0)

/-- Sources 168 to 175, DRG (R357). -/
def Dev.irqDrg (d : Dev) (i : Nat) : Bool :=
  match i with
  | 0 => d.on Reg.DRG_CTL_JOIN && !d.on Reg.DRG_STAT_ADMITTED
  | 1 => d.on Reg.DRG_STAT_WRAP_DN || d.on Reg.DRG_STAT_WRAP_UP || d.on Reg.DRG_STAT_DN_DOWN || d.on Reg.DRG_STAT_UP_DOWN
  | 2 => d.unread [Err.DRG_CRIER_MISS, Err.DRG_MASTER_LOST, Err.DRG_MASTER_CHANGE, Err.DRG_ROLE_CLASH]
  | 3 => d.g Reg.DRG_PRESENT_PRESENT != d.g Reg.DRG_PRESENT_PLANNED
  | 4 => d.on Reg.LS_STAT_PEND || d.on Reg.LS_STAT_LEADER_LOST
  | 5 => d.on Reg.DRG_STAT_HOP_LONG || d.on Reg.DRG_STAT_SPLIT || d.on Reg.DRG_STAT_ID_CLASH
  | 6 => d.unread [Err.DRG_PLAN_REFUSED, Err.DRG_SLOT_SHORT, Err.DRG_BULK_DROP]
  | _ => d.unread [Err.DRG_CMD_REFUSED, Err.DRG_RWL_REFUSED] || d.g Reg.RRX_PUT_PUT != d.g Reg.RRX_GET_GET

/-- Sources 176 to 183, HST (R448). -/
def Dev.irqHst (d : Dev) (i : Nat) : Bool :=
  match i with
  | 0 | 1 | 2 => !(d.hport i).inq.isEmpty
  | 3 => anyOf 10 (fun f => d.on (Reg.ASSIST_CFG_PEND f))
  | 4 => anyOf 3 (fun p => decide (64 ≤ (d.hport p).outq.length))
  | 5 => !(d.hport 1).linkUp || !(d.hport 2).linkUp
  | _ => false

/-- Sources 184 to 199, MEM and REC, IMG and TLY (R479). -/
def Dev.irqMem (d : Dev) (i : Nat) : Bool :=
  match i with
  | 0 => d.unread [Err.MEM_ECC_UNCORR, Err.MEM_DDR_TRAIN_FAIL]
  | 1 => !d.mm.ospiRead
  | 2 => d.unread [Err.MEM_FLASH_TEMP, Err.MEM_FLASH_PROT, Err.MEM_FLASH_ERR, Err.MEM_RWL_REFUSED]
  | 3 => anyOf 32 (fun s => d.on (Reg.REC_STAT_DONE s))
  | 4 => d.on Reg.REC_REFUSED_MASK
  | 5 => d.unread [Err.REC_FAST, Err.REC_RWL_REFUSED]
  | 8 => d.img.session.isSome
  | 9 => d.unread [Err.IMG_LAPSED, Err.IMG_BUSY, Err.IMG_SESSION, Err.IMG_BLOCK_CRC, Err.IMG_OFFSET_BAD, Err.IMG_BLOCK_CONFLICT,
      Err.IMG_MANIFEST_BAD, Err.IMG_KEY_BAD, Err.IMG_SIG_BAD, Err.IMG_ROLLBACK, Err.IMG_PART_BAD, Err.IMG_NOT_VERIFIED]
  | 10 => d.img.trial
  | 11 => d.unread [Err.IMG_FALLBACK, Err.IMG_UPD_DEFERRED_TEMP, Err.IMG_PARAM_UNREADABLE]
  | 12 => !d.tly.statRead
  | 13 => d.unread [Err.TLY_EXHAUSTED, Err.TLY_TEMP, Err.TLY_LOCKED, Err.TLY_ONE_WAY, Err.TLY_BUSY, Err.TLY_LAST_KEY, Err.TLY_PROG_FAIL]
  | _ => false

/-- Sources 208 to 215, the SAF mailbox (R406): what it asserts changes with the words that the island rewrites. -/
def Dev.irqSaf (d : Dev) (i : Nat) : Bool :=
  match i with
  | 0 => d.saf.respNew
  | 1 => anyOf 6 (fun n => d.on (Reg.SAF_CH_STATE n))
  | 2 => d.on Reg.SAF_DISC_DISC || d.on Reg.SAF_OUT_FAULT || anyOf 6 (fun n => (d.safCh 0 n).spd) ||
      anyOf 8 (fun c => d.g (Reg.SAF_TT_STATE c) == 3)
  | 3 => d.g Reg.SAF_STAT_STATE != 2
  | 4 => anyOf 8 (fun c => (d.conn c).wait)
  | 5 => anyOf 6 (fun n => d.on (Reg.SAF_CH_ACK_PEND n))
  | 6 => d.on Reg.SAF_LOG_PEND
  | _ => anyOf 6 (fun n => d.on (Reg.SAF_CH_SBT_DUE n) || d.on (Reg.SAF_CH_SLIP n)) || d.on Reg.SAF_PW_LOCKED

/-- Whether interrupt source `s` is asserted (R35): the sources by block. -/
def Dev.irqLevel (d : Dev) (s : Nat) : Bool :=
  if s < 16 then d.irqSys s
  else if s < 24 then d.irqThm (s - 16)
  else if s < 40 then d.irqTb (s - 24)
  else if s < 56 then d.irqCe (s - 40)
  else if s < 80 then d.irqPwm ((s - 56) / 4) ((s - 56) % 4)
  else if s < 88 then d.irqTrp (s - 80)
  else if s < 104 then d.irqMea (s - 88)
  else if s < 128 then d.irqAux (s - 104)
  else if s < 136 then d.irqDcl (s - 128)
  else if s < 168 then d.irqCan ((s - 136) / 8) ((s - 136) % 8)
  else if s < 176 then d.irqDrg (s - 168)
  else if s < 184 then d.irqHst (s - 176)
  else if s < 200 then d.irqMem (s - 184)
  else if s < 208 then d.errLine ((s - 200) / 4) ((s - 200) % 4)
  else d.irqSaf (s - 208)

/-- Whether a source is offered to a core (R35, R36): enabled, with a priority, targeted at it, asserted, and not claimed. -/
def Dev.irqOffered (d : Dev) (core s : Nat) : Bool :=
  let t := d.g (Reg.IRQ_CFG_TARGET s)
  d.on (Reg.IRQ_CFG_EN s) && d.on (Reg.IRQ_CFG_PRIO s) && (t == 2 || t == core) && !(d.sys.claimed.any (fun c => c.1 == s)) && d.irqLevel s

/-- The source that a claim returns: the highest priority, and among equals the lowest number (R36). -/
def Dev.irqBest (d : Dev) (core : Nat) : Option Nat :=
  (List.range 216).foldl (fun best s =>
    if d.irqOffered core s then
      match best with
      | some b => if d.g (Reg.IRQ_CFG_PRIO b) < d.g (Reg.IRQ_CFG_PRIO s) then some s else best
      | none => some s
    else best) none

/-- The claim register of a core. -/
def irqClaimReg (core : Nat) : RF := if core = 0 then Reg.IRQ_CLAIM_C0_SRC else Reg.IRQ_CLAIM_C1_SRC

/-- A core reads its claim register (R35, R37): the source returned stands in the register and is claimed; 0xFFF where there is none. -/
def Dev.irqClaim (d : Dev) (core : Nat) : Dev := match d.irqBest core with
  | some b => { d.s (irqClaimReg core) b with sys := { d.sys with claimed := d.sys.claimed ++ [(b, core)] } }
  | none => d.s (irqClaimReg core) 0xFFF

/-- A core writes a number to its completion register (R36): a source that it claimed is offered again; any other is ignored. -/
def Dev.irqDone (d : Dev) (core s : Nat) : Dev :=
  { d with sys := { d.sys with claimed := d.sys.claimed.filter (fun c => !(c.1 == s % 4096 && c.2 == core)) } }

/-- IRQ_CLAIM. -/
def execIrqClaim (core : Nat) (s : State) := s.run fun d => d.irqClaim (core % 2)

/-- IRQ_DONE. -/
def execIrqDone (core src : Nat) (s : State) := s.run fun d => d.irqDone (core % 2) src

end Sys2Proof.Machine
end

