-- ==== Sys2Proof/Machine/Resets.lean ====
section
/-! DEFINITION. Machine/Resets.lean: die links, supplies, resets and their domains, clocks, the supervisor watchdog and the absence of the
supervisor (R16 to R27, R174, R300, R445, R468, R489 to R497). -/

namespace Sys2Proof.Machine

/-! ## The supervisor die link (R16, R17) -/

/-- D2D_FRAME_RECEIVED: a frame of the supervisor die link; a bad or missing one is discarded and counted (R16). -/
def execD2dFrameReceived (ok : Bool) (s : State) := s.run fun d =>
  if ok then { d with sys := { d.sys with d2dBad := 0, d2dGood := min 16 (d.sys.d2dGood + 1), d2dLost := false } }
  else
    let n := d.sys.d2dErrs + 1
    { d with sys := { d.sys with d2dBad := d.sys.d2dBad + 1, d2dGood := 0, d2dErrs := n } }.raise Err.SYS_D2D_CRC [n]

/-- SYS_D2D_LOST: after 4 bad or missing frames in a row the link is lost in a direction (R17). -/
def execSysD2dLost (dir : Nat) (s : State) := s.run fun d =>
  if 4 ≤ d.sys.d2dBad ∧ !d.sys.d2dLost then
    ({ d with sys := { d.sys with d2dLost := true } }.auxLinkLost).raise Err.SYS_D2D_LOST [dir]
  else d

/-! ## Device and warm reset (R20, R22, R26, R40, R491, R492) -/

/-- What the island keeps over its own reset (R392). -/
def Saf.kept (s : Saf) : Saf :=
  { v24 := s.v24, logIdx := s.logIdx, lockAt := if s.lockAt.isSome then some 0 else none, fails := if s.lockAt.isSome then 5 else 0 }

/-- The whole device in reset. The byte memories, the tally and THERM_LATCH stay (R22, R473; log 53), the causes of resets become
`cause`, the pins, supplies and links stand as they are outside. -/
def Dev.resetAll (d : Dev) (cause : Nat) (keepLatch : Bool) : Dev :=
  let b := Dev.reset
  let latch := keepLatch && d.on Reg.THM_STAT_LATCH
  let e : Dev := { b with
    mem := d.mem, tick := d.tick, free := d.free, saf := d.saf.kept,
    tly := { d.tly with statRead := true, keyStage := b.tly.keyStage },
    sys := { run := .inReset, porstLow := d.sys.porstLow, rstLow := d.sys.rstLow, bootMode := d.sys.bootMode,
             suppliesLost := d.sys.suppliesLost },
    hst := { b.hst with ports := d.hst.ports.map (fun p => { linkUp := p.linkUp }), getHome := d.hst.getHome },
    therm := { b.therm with latchCtx := if latch then d.therm.latchCtx else [] } }
  let e := e.setWord Reg.SYS_RST_CAUSE cause
  if latch then
    let e := e.s Reg.THM_STAT_LATCH 1
    { e with pwm := { e.pwm with conds := e.pwm.conds ++ (List.range 6).map fun n => ⟨n, 7, 1⟩ } }
  else e

/-- The device starts out of reset, absent until an image runs (R40, R495); THM_LATCH is raised again while the latch is set (R487). -/
def Dev.start (d : Dev) : Dev :=
  let d := { d with sys := { d.sys with run := .absent } }
  if d.on Reg.THM_STAT_LATCH then d.raise Err.THM_LATCH d.therm.latchCtx else d

/-- The supplies whose loss resets the whole device (R20). -/
def Supply.device : Supply → Bool
  | .vddCore | .vddSaf | .vdda18 | .vddio33 => true
  | _ => false

/-- The device leaves reset once no reset pin is low and no device supply is lost. -/
def Dev.tryStart (d : Dev) : Dev :=
  if d.sys.run = .inReset ∧ !d.sys.porstLow ∧ !d.sys.rstLow ∧ !d.sys.suppliesLost.any Supply.device then d.start else d

/-- A warm reset with the bit of its cause (R491, R492). -/
def Dev.warmReset (d : Dev) (bit : Nat) : Dev := (d.resetAll (d.word Reg.SYS_RST_CAUSE ||| 2 ^ bit) true).tryStart

/-- PORST_N_ASSERTED: a qualified low resets the device domain; SYS_RST_CAUSE shows PORST only (R491, R492). -/
def execPorstNAsserted (s : State) := s.runAny fun d =>
  ({ d with sys := { d.sys with porstLow := true } }).resetAll 1 true

/-- RST_N_ASSERTED: a qualified low resets the warm domain (R491). -/
def execRstNAsserted (s : State) := s.runAny fun d =>
  ({ d with sys := { d.sys with rstLow := true } }).warmReset 2

/-- RESET_RELEASE: the first rising edge of PORST_N or RST_N releases reset and samples BOOT_MODE (R491). -/
def execResetRelease (porst : Bool) (bootMode : Nat) (s : State) := s.runAny fun d =>
  let was := if porst then d.sys.porstLow else d.sys.rstLow
  if was then
    ({ d with sys := { d.sys with
        porstLow := d.sys.porstLow && !porst, rstLow := d.sys.rstLow && porst, bootMode := bootMode % 4 } }).tryStart
  else d

/-! ## Domain resets -/

/-- The supervisor domain is reset (R25, R445, R496): SV_READY clears, the ports answer what is outstanding, the unclosed words of the
island's command FIFO are discarded (R401). An absence under way goes on. `bit` is that of SYS_RST_CAUSE, and the cause that
HST_SV_RESTART carries. -/
def Dev.svReset (d : Dev) (bit : Option Nat) : Dev :=
  let d := match bit with
    | some b => d.setWord Reg.SYS_RST_CAUSE (d.word Reg.SYS_RST_CAUSE ||| 2 ^ b)
    | none => d
  let d := d.hostAbsent.safFlush
  if d.sys.absentFrom.isSome then { d with sys := { d.sys with absentCause := bit.getD 1 } }
  else { d.s Reg.SYS_SVH_STAT_EXPIRED 0 with
    sys := { d.sys with absentFrom := some d.tick, absentCause := bit.getD 1, svhDone := false } }

/-- The ring domain is reset: the bypass closes at once, and the DRG block stands at its reset values (R19). -/
def Dev.ringReset (d : Dev) : Dev :=
  let d := d.ringOut
  let keep (k : Nat) : Bool := decide (k < 0x300E0000) || decide (0x300F0000 ≤ k)
  { d with drg := {}, regs := d.regs.filter fun r => keep r.1 }

/-- Whether the reset of the island that a supervisor requests may be carried out (R24). -/
def Dev.islandMayReset (d : Dev) : Bool := anyOf 6 (fun n => !d.on (Reg.PWM_CH_STAT_SAFE n)) == false && d.saf.gd == 0

/-- A request to reset the safety island (R24): refused unless every channel is safe and every GDEN output low. -/
def Dev.islandRequest (d : Dev) : Dev :=
  if d.islandMayReset then d.islandReset else d.raise Err.SYS_RST_REFUSED [0x14]

/-- A write to SYS_RST_REQ (R494): a domain reset with the key 0xA5; other keys and domains are ignored. -/
def Dev.rstRequest (d : Dev) (v : Nat) : Dev :=
  if v / 2 ^ 24 % 256 ≠ 0xA5 then d
  else match v % 256 with
    | 0x00 => d.warmReset 3
    | 0x01 => d.svReset (some 7)
    | 0x10 => d.ringReset
    | 0x11 => d.portReset 0
    | 0x12 => d.portReset 1
    | 0x13 => d.portReset 2
    | 0x14 => d.islandRequest
    | _ => d

/-- WARM_RESET_REQUEST: SYS_RST_REQ written with domain 0x00 and a key (R494). -/
def execWarmResetRequest (key : Nat) (s : State) := s.run fun d => if key = 0xA5 then d.warmReset 3 else d

/-- SUPERVISOR_RESET_REQUEST: SYS_RST_REQ written with domain 0x01 and a key (R445, R494). -/
def execSupervisorResetRequest (key : Nat) (s : State) := s.run fun d => if key = 0xA5 then d.svReset (some 7) else d

/-- RING_RESET_REQUEST: SYS_RST_REQ written with domain 0x10 and a key (R19, R494). -/
def execRingResetRequest (key : Nat) (s : State) := s.run fun d => if key = 0xA5 then d.ringReset else d

/-- ISLAND_RESET_REQUEST: SYS_RST_REQ written with domain 0x14 and a key (R24, R494). -/
def execIslandResetRequest (key : Nat) (s : State) := s.run fun d => if key = 0xA5 then d.islandRequest else d

/-- REJECT written to IMG_CTL (R468): on trial only, the boot state takes it and a warm reset follows. -/
def execReject (s : State) := s.run fun d =>
  if d.img.trial then d.rejectMark.warmReset 3 else d.raise Err.IMG_NOT_TRIAL [Config.recordNumber Err.IMG_NOT_TRIAL 2]

/-! ## Supplies (R20 to R22, R505) -/

/-- A supply falls below its monitor threshold (R20, R21). THERM_LATCH clears with the loss of VDD_CORE (R22). -/
def Dev.supplyLost (d : Dev) (x : Supply) : Dev :=
  if d.sys.suppliesLost.contains x then d
  else
    let d := { d with sys := { d.sys with suppliesLost := d.sys.suppliesLost ++ [x] } }
    match x with
    | .vddCore => d.resetAll 2 false
    | .vddSaf | .vdda18 | .vddio33 => d.resetAll 2 true
    | .vddSrd => if d.sys.run = .inReset then d else d.ringReset
    | .vddio18 | .vddqDdr => if d.sys.run = .inReset then d else d.svReset none
    | .v24si =>
      if d.sys.run = .inReset then d.updSaf fun s => { s with v24 := false, rb := 0 }
      else if d.saf.v24 then (d.updSaf fun s => { s with v24 := false, rb := 0 }).raiseSaf Err.SAF_V24_LOST []
      else d

/-- SUPPLY_LOSS. -/
def execSupplyLoss (x : Supply) (s : State) := s.runAny fun d => d.supplyLost x

/-- SUPPLY_RESTORED: a supply is above its rising threshold again (R505, R506). -/
def execSupplyRestored (x : Supply) (s : State) := s.runAny fun d =>
  let d := { d with sys := { d.sys with suppliesLost := d.sys.suppliesLost.filter (fun y => y != x) } }
  let d := d.when (x == .v24si) fun d => d.updSaf fun s => { s with v24 := true }
  d.tryStart

/-! ## Clocks (R174, R300, R305, R489, R490) -/

/-- FCLK is lost: every channel is safe until a reset, with ARM_WHY 3 and no record yet; a chopper leg whose H is off goes Hi-Z, and
brakes of suspended-load channels are commanded. -/
def Dev.fclkLoss (d : Dev) : Dev :=
  if d.sys.fclkLost.isSome then d
  else
    let d := d.s Reg.SYS_CLK_STAT_FEDGE 1
    let d := d.each (List.range 6) fun d c => d.when (d.on (Reg.DCL_CH_CFG_SL c)) fun d => d.brakeOn c
    let d := d.each (List.range 6) fun d n =>
      let d := d.makeSafe n
      if d.pwm.conds.contains ⟨n, 3, 0⟩ then d else { d with pwm := { d.pwm with conds := d.pwm.conds ++ [⟨n, 3, 0⟩] } }
    let d := d.each (List.range 4) fun d m => match (d.mon m).desig with
      | some l => if (d.leg (l / 6) (l % 6)).onH then d else d.disarmMask (2 ^ l)
      | none => d
    { d with sys := { d.sys with fclkLost := some d.tick } }

/-- FCLK_LOSS. -/
def execFclkLoss (s : State) := s.runNoClk Dev.fclkLoss

/-- LPDDR4 content after an absence of the clock (R490): whether the part kept it is open, and each byte that it lost is a free value
(log 2, log 61). -/
def Dev.ddrDecay (d : Dev) : Dev :=
  let d' := { d with free := d.free + 1 + d.mem.length }
  if d.freeVal % 2 = 0 then d'
  else { d' with mem := d.mem.zipIdx.filterMap fun c =>
    if c.1.1 < ddrKey 0 ∨ flashKey 0 ≤ c.1.1 then some c.1
    else
      let v : Byte := BitVec.ofNat 8 (Config.freeValue (d.free + 1 + c.2))
      if v = byteDflt c.1.1 then none else some (c.1.1, v) }

/-- FCLK_RETURN: the clock returns after `ns` nanoseconds (R174, R490): the records of the loss are raised; the duration saturates. -/
def execFclkReturn (ns : Nat) (s : State) := s.runNoClk fun d =>
  match d.sys.fclkLost with
  | none => d
  | some _ =>
    let d := d.ddrDecay
    let ns := min ns (2 ^ 32 - 1)
    let recs := d.sys.clkRecs
    let d := { d with sys := { d.sys with fclkLost := none, clkRecs := [] } }
    let d := d.each recs fun d r => d.raise r.1 [if r.1 = Err.SYS_XTAL_LOST then ns else r.2]
    (d.s Reg.TRP_STAT_CLK_LOSS 1).raise Err.TRP_CLK_LOSS [ns]

/-- A clock fault of R489 whose record waits for the clock to return. -/
def Dev.clkRec (d : Dev) (code v : Nat) : Dev := { d with sys := { d.sys with clkRecs := d.sys.clkRecs ++ [(code, v)] } }

/-- SYS_XTAL_LOST: the crystal is lost; the PLLs are held in reset and FCLK loss follows (R489). -/
def execSysXtalLost (s : State) := s.runNoClk fun d =>
  let d := ((d.s Reg.SYS_CLK_STAT_XTAL 1).s Reg.SYS_CLK_STAT_XTAL_OK 0).s Reg.SYS_CLK_STAT_SYS_LOCK 0
  ((d.s Reg.SYS_CLK_STAT_DDR_LOCK 0).clkRec Err.SYS_XTAL_LOST 0).fclkLoss

/-- SYS_PLL_UNLOCK: PLL_SYS (0), with FCLK loss, or PLL_DDR (1) reports loss of lock (R489). -/
def execSysPllUnlock (pll : Nat) (s : State) := s.runNoClk fun d =>
  let d := d.s Reg.SYS_CLK_STAT_PLL 1
  if pll = 0 then ((d.s Reg.SYS_CLK_STAT_SYS_LOCK 0).clkRec Err.SYS_PLL_UNLOCK (Config.recordNumber Err.SYS_PLL_UNLOCK 0)).fclkLoss
  else
    let d := d.s Reg.SYS_CLK_STAT_DDR_LOCK 0
    if d.sys.fclkLost.isSome then d.clkRec Err.SYS_PLL_UNLOCK (Config.recordNumber Err.SYS_PLL_UNLOCK 1) else d.raise Err.SYS_PLL_UNLOCK [Config.recordNumber Err.SYS_PLL_UNLOCK 1]

/-- SYS_FCLK_FREQ: FCLK is outside 250 MHz ± 15 % in 2 windows in a row: as its loss (R489). -/
def execSysFclkFreq (count : Nat) (s : State) := s.runNoClk fun d =>
  ((d.s Reg.SYS_CLK_STAT_FREQ 1).clkRec Err.SYS_FCLK_FREQ count).fclkLoss

/-- CLOCK_CHECK_GOOD: a check becomes good again (R489): bit 0 MCLK, 1 the crystal, 2 PLL_SYS, 3 PLL_DDR, as in SYS_CLK_STAT. -/
def execClockCheckGood (check : Nat) (s : State) := s.runNoClk fun d =>
  match check with
  | 0 => d.s Reg.SYS_CLK_STAT_MCLK_OK 1
  | 1 => d.s Reg.SYS_CLK_STAT_XTAL_OK 1
  | 2 => d.s Reg.SYS_CLK_STAT_SYS_LOCK 1
  | 3 => d.s Reg.SYS_CLK_STAT_DDR_LOCK 1
  | _ => d

/-! ## Watchdog and lockstep (R493) -/

/-- The watchdog expires: the supervisor domain is reset; a second time without a service between, the warm domain. -/
def Dev.wdtExpire (d : Dev) : Dev :=
  if d.sys.wdtBarked then d.warmReset 4
  else
    let d := (d.svReset (some 5)).raise Err.SYS_WDT [1]
    { d with sys := { d.sys with wdtBarked := true, wdtLast := d.tick } }

/-- WDT_ENABLE: EN is set, and cleared only by a reset (R493). -/
def Dev.wdtEnable (d : Dev) : Dev :=
  if d.on Reg.SYS_WDT_CFG_EN then d
  else { d.s Reg.SYS_WDT_CFG_EN 1 with sys := { d.sys with wdtLast := d.tick, wdtBarked := false } }

/-- A write to SYS_WDT_SVC: 0x5A serves; any other value, and a service within WIN_MIN ms of the one before, counts as early. -/
def Dev.wdtService (d : Dev) (v : Nat) : Dev :=
  if !d.on Reg.SYS_WDT_CFG_EN then d
  else if v % 256 = 0x5A ∧ 250000 * d.g Reg.SYS_WDT_CFG_WIN_MIN ≤ d.tick - d.sys.wdtLast then
    { d with sys := { d.sys with wdtLast := d.tick, wdtBarked := false } }
  else d.wdtExpire

/-- WDT_ENABLE. -/
def execWdtEnable (s : State) := s.run Dev.wdtEnable

/-- WDT_SERVICE. -/
def execWdtService (v : Nat) (s : State) := s.run fun d => d.wdtService v

/-- SYS_WDT: TIMEOUT ms have passed without a service. -/
def execSysWdt (s : State) := s.run fun d =>
  if d.on Reg.SYS_WDT_CFG_EN ∧ d.sys.wdtLast + 250000 * d.g Reg.SYS_WDT_CFG_TIMEOUT ≤ d.tick then d.wdtExpire else d

/-- SYS_LOCKSTEP: a mismatch of a supervisor core resets the supervisor domain (R493). -/
def execSysLockstep (core : Nat) (s : State) := s.run fun d => (d.svReset (some 6)).raise Err.SYS_LOCKSTEP [core]

/-! ## Supervisor absence (R496, R497) -/

/-- A context falls back to STOPPED (R497): channels in BIND without the suspended-load attribute go safe at once (ARM_WHY 5); those with
it receive a HOLD, and the context runs on until they are HELD. -/
def Dev.fallStop (d : Dev) (c : Nat) : Dev :=
  let bind := maskBits 6 (d.ctxBind c)
  let sl := bind.filter fun n => d.on (Reg.DCL_CH_CFG_SL n)
  let d := d.each (bind.filter fun n => !d.on (Reg.DCL_CH_CFG_SL n)) fun d n =>
    ((d.forceOn n 5 (3000 + c)).forceOffCh n 5 (3000 + c)).s (Reg.PWM_CH_STAT_ARM_WHY n) 5
  let d := d.each sl fun d n => d.slBrake n 5
  if sl ≠ [] then d.updCtx c fun x => { x with holdStop := true }
  else if (d.ctx c).phase = .idle ∧ (d.ctx c).outDue = none then d.s (Reg.CTX_W0_STATE c) 1
  else d.updCtx c fun x => { x with stopReq := true }

/-- A context in RUN applies its fallback (R497). -/
def Dev.fallBack (d : Dev) (c : Nat) : Dev :=
  match d.g (Reg.CTX_W0_FBK c) with
  | 0 => d
  | 2 =>
    let i := d.g (Reg.CTX_W0_FBK_CTX c)
    if d.handoverOk i ∧ d.g (Reg.CTX_W0_SHADOW_OF i) = c then d.armHandover i else (d.raise Err.CE_HO_BAD [c, i]).fallStop c
  | _ => d.fallStop c

/-- SYS_SV_HOLD_EXPIRED: SV_HOLD ms of an absence have passed with SV_READY still 0 (R497). -/
def execSysSvHoldExpired (s : State) := s.run fun d =>
  match d.sys.absentFrom with
  | none => d
  | some t =>
    if d.sys.svhDone ∨ d.on Reg.HST_CTL_SV_READY ∨ d.tick < t + 250000 * d.g Reg.SYS_SVH_SV_HOLD then d
    else
      let run := ctxNumbers.filter fun c => d.ctxState c == 2
      let n := (run.filter fun c => d.g (Reg.CTX_W0_FBK c) != 0).length
      let d := d.each run Dev.fallBack
      let d := (d.s Reg.SYS_SVH_STAT_EXPIRED 1).s Reg.SYS_SVH_STAT_FALLBACKS n
      { d with sys := { d.sys with svhDone := true } }.raise Err.SYS_SV_HOLD_EXPIRED [n, d.g Reg.SYS_SVH_SV_HOLD]

end Sys2Proof.Machine
end

