-- ==== Sys2Proof/Machine/Supervise.lean ====
section
/-! DEFINITION. Machine/Supervise.lean: what firmware does of itself: the return of the supervisor (R446), the restart of faults that are
not safety faults (R438), and identification runs (R439). -/

namespace Sys2Proof.Machine

/-- A command carried out as part of another: its effect on the device. -/
def Dev.via (d : Dev) (f : State → Host.Outcome State Fault Refusal) : Dev :=
  match f ⟨d, []⟩ with
  | .next t => t.dev
  | _ => d

/-! ## The supervisor's return (R435, R446) -/

/-- Whether a function's deadline for a unit is timed by firmware (R432). -/
def fwTimed (f unit : Nat) : Bool := f == 2 || f == 5 || f == 6 || f == 8 || (f == 1 && decide (0x100 ≤ unit))

/-- The proposals that firmware times are raised again, their deadlines counted afresh (R435). -/
def Dev.reproposed (d : Dev) : Dev :=
  let l := d.hst.proposals.filter (fun p => fwTimed p.func p.unit)
  let d := { d with hst := { d.hst with
    proposals := d.hst.proposals.map (fun (p : Proposal) => if fwTimed p.func p.unit then { p with since := d.tick } else p) } }
  d.each l (fun d p => d.raiseFw 0 Err.HST_PROPOSE (errSev Err.HST_PROPOSE) [p.func, p.unit, p.code, p.deadline])

/-- SV_READY is set (R446): an absence ends with HST_SV_RESTART, and the records of the boot decision are raised (R466). -/
def Dev.svReady (d : Dev) : Dev :=
  if d.on Reg.HST_CTL_SV_READY ∨ d.sys.run ≠ .running ∨ d.sys.suppliesLost.any (fun x => x == .vddio18 || x == .vddqDdr) then d
  else
    let d := d.s Reg.HST_CTL_SV_READY 1
    let d := match d.sys.absentFrom with
      | none => d
      | some t =>
        let ms := msBetween t d.tick
        let n := if d.sys.svhDone then d.g Reg.SYS_SVH_STAT_FALLBACKS else 0
        let d := (d.inc Reg.HST_STAT_RESTARTS).s Reg.HST_STAT_ABSENT_MS (min 65535 ms)
        let d := d.raiseFw 0 Err.HST_SV_RESTART (errSev Err.HST_SV_RESTART) [ms, Config.recordNumber Err.HST_SV_RESTART d.sys.absentCause, n]
        { d with sys := { d.sys with absentFrom := none } }.reproposed
    let l := d.img.recs
    let d := { d with img := { d.img with recs := [] } }
    d.each l (fun d r => d.raiseFw 0 r.1 (errSev r.1) r.2)

/-- SV_READY_SET: firmware writes SV_READY = 1. -/
def execSvReadySet (s : State) := s.run Dev.svReady

/-! ## Restart of a fault (R438) -/

/-- The current-loop context of a channel whose library status shows FAULT with a REASON that R438 lists, with its image. -/
def Dev.loopFault (d : Dev) (n : Nat) : Option LibSeen :=
  d.hst.libs.find? (fun x =>
    (x.img == .focPm || x.img == .focIm || x.img == .afeI) && (d.ctxBind x.ctx).testBit n &&
      libState (d.libStatus x.ctx) == 3 && (libReason (d.libStatus x.ctx) == 1 || libReason (d.libStatus x.ctx) == 7))

/-- Whether a unit stands in a fault that R438 lists. -/
def Dev.restartable (d : Dev) (kind inst : Nat) : Bool :=
  match kind with
  | 0 => decide (inst < 6) && (d.loopFault inst).isSome
  | 1 => decide (inst < 2) && d.cmState inst == cmFault && [3, 5, 6, 7].contains (d.g (Reg.CMU_STAT_REASON inst))
  | 2 => decide (inst < 4) && d.axState inst == axFault && [6, 7, 8].contains (d.g (Reg.STP_STAT_REASON inst))
  | 3 => decide (0 < inst) && decide (inst < 256) && d.ctxState inst == 4 && d.hst.faults.any (fun x => x.1 == 0x300 + inst)
  | _ => false

/-- The conditioner that passes commands to a context (R215). -/
def Dev.libVia (d : Dev) (c : Nat) : Option Nat := (List.range 16).find? (fun j => d.libBound c j)

/-- A unit is cleared and started again (R438; for an axis CLEAR, ENABLE and START, log 57). -/
def Dev.unitAgain (d : Dev) (kind inst : Nat) : Dev :=
  match kind with
  | 0 =>
    match d.loopFault inst with
    | some x =>
      match d.libVia x.ctx with
      | some j => (d.via (execLibClear x.img x.ctx j 0)).via (execLibStart x.img x.ctx j 0)
      | none => d
    | none => d
  | 1 => (d.via (execCmuClear inst)).via (execCmuStart inst)
  | 2 => (((d.axClear inst).2.axEnable inst).2.axStart inst).2
  | _ => (d.ceOp 8 0 0 inst).ceOp 2 0 0 inst

/-- The channels of a mask are armed again, up to the first one that is refused (R169, R438). -/
def Dev.rearm (d : Dev) (mask : Nat) : Dev :=
  ((maskBits 6 mask).foldl (fun (a : Bool × Dev) n =>
    if a.1 then ((a.2.armWhy n).isNone, a.2.via (execChArm n)) else a) (true, d)).2

/-- RESTART of a unit (R438). -/
def Dev.restart (d : Dev) (kind inst : Nat) : Dev :=
  let unit := kind * 256 + inst
  let mask := ((d.hst.faults.find? (fun x => x.1 == unit)).map Prod.snd).getD 0
  let d := d.unitAgain kind inst
  let d := { d with hst := { d.hst with
    faults := d.hst.faults.filter (fun x => x.1 != unit), restarts := d.hst.restarts ++ [Restart.mk kind inst d.tick] } }
  d.rearm mask

/-- The restarts of a unit within the last 10 minutes. -/
def Dev.restartsOf (d : Dev) (kind inst : Nat) : Nat :=
  (d.hst.restarts.filter (fun r => r.kind == kind && r.inst == inst && decide (d.tick < r.tick + 150000000000))).length

/-- FAULT_RESTART: firmware deals with a unit's fault, in AUTO 1 s after it: a restart, at most 3 in 10 minutes; in ASSIST and HOST it
proposes RESTART (R432, R438). -/
def execFaultRestart (kind inst : Nat) (s : State) := s.run fun d =>
  let unit := kind * 256 + inst
  if !d.on Reg.HST_CTL_SV_READY || !d.restartable kind inst then d
  else if d.assistMode 8 = 0 then
    let n := d.restartsOf kind inst
    if n < 3 then d.restart kind inst else d.raise Err.HST_RESTART_LIMIT [kind, inst, n]
  else if (d.proposal 8 unit).isSome then d
  else d.propose 8 unit 1

/-! ## Identification runs (R439) -/

/-- A generator's run, started with its context or stopped (R101, R147). -/
def Dev.genRun (d : Dev) (k c : Nat) (on : Bool) : Dev :=
  let d := (d.s (Reg.GEN_CFG_CTX k) c).s (Reg.GEN_CFG_RUN k) (b2n on)
  (d.updGen k (fun g => { g with wait := true, k := 0, phase := 0 })).s (Reg.GEN_OUT_VALUE k) 0

/-- The data address of the inactive bank of a context (R87). -/
def Dev.idleBank (d : Dev) (c : Nat) : Nat :=
  if d.g (Reg.CTX_W0_BANK c) = 0 then d.g (Reg.CTX_W7_BANK1_BASE c) else d.g (Reg.CTX_W7_BANK0_BASE c)

/-- The gains that firmware computed, offset and value, written to the inactive bank. -/
def Dev.writeGains (d : Dev) (c : Nat) (gains : List (Nat × Nat)) : Dev :=
  d.each gains (fun d g =>
    if g.1 < d.g (Reg.CTX_W4_BANK_LEN c) then d.setDm (d.ctxEng c) (d.idleBank c + g.1) (g.2 % 2 ^ 24) else d)

/-- Apply (R439): a BANK_SWAP Bell swaps the banks; its WHEN, which the spec does not give, lies at least 2 ticks ahead (log 58). -/
def Dev.tuneApply (d : Dev) (c : Nat) : Dev :=
  let when_ := (d.tb.rt + 64 + d.freeVal % 2 ^ 32) % 2 ^ 64
  let bank := 1 - d.g (Reg.CTX_W0_BANK c)
  (d.tookFree.bellPost 0 (rtWords when_ ++ [4 * 65536, c + 256 * bank, 0])).2.2

/-- TUNE_RUN_END: an identification run ends: the gains that firmware computed go to the inactive bank and are proposed; the reply carries
the proposal. In AUTO they are applied (R432, R439). -/
def execTuneRunEnd (o tag : Nat) (gains : List (Nat × Nat)) (s : State) := s.run fun d =>
  match d.hst.tunes.find? (fun t => t.port == o && t.tag == tag) with
  | none => d
  | some t =>
    let d := { d with hst := { d.hst with tunes := d.hst.tunes.erase t } }
    let d := (d.genRun t.gen t.ctx false).writeGains t.ctx gains
    let d := if d.assistMode 6 = 0 then d.tuneApply t.ctx else d.propose 6 t.ctx 1
    d.reply o tag t.addr 0 (payload (1 :: gains.flatMap (fun g => [g.1, g.2])))

end Sys2Proof.Machine
end

