-- ==== Sys2Proof/Machine/Bus.lean ====
section
/-! DEFINITION. Machine/Bus.lean: the supervisor bus: the memory map (R30 to R34), what a read of an address returns and does, and what a
write does (R6 to R10). -/

namespace Sys2Proof.Machine

/-! ## The memory map (R30) -/

/-- The regions of the supervisor address space. -/
inductive BusRegion where
  | rom | sram | engine | reg | canRam | saf | ddr | flash
  deriving DecidableEq, Repr

/-- The region of an address (R30). -/
def busRegion (a : Nat) : Option BusRegion :=
  if a < 0x10000 then some .rom
  else if 0x10000000 ≤ a ∧ a < 0x10200000 then some .sram
  else if 0x18000000 ≤ a ∧ a < 0x18100000 then some .sram
  else if 0x20000000 ≤ a ∧ a < 0x20300000 then
    if (a - 0x20000000) % 0x40000 < 0x10000 ∨ 0x20000 ≤ (a - 0x20000000) % 0x40000 then some .engine else none
  else if 0x30000000 ≤ a ∧ a < 0x30140000 then some .reg
  else if 0x30140000 ≤ a ∧ a < 0x30158000 then some .canRam
  else if 0x30200000 ≤ a ∧ a < 0x30210000 then some .saf
  else if 0x80000000 ≤ a ∧ a < 0x90000000 then some .ddr
  else if 0x90000000 ≤ a ∧ a < 0xA0000000 then some .flash
  else none

/-- A bus error that is recorded (R34): the address and the requesting master, taken as the core (log 55). -/
def Dev.busError (d : Dev) (core a : Nat) : Dev := d.raise Err.SYS_BUS_ERR [a, core]

/-- Whether an access to a register is neither narrow nor unaligned (R6). -/
def wordAccess (a size : Nat) : Bool := size == 4 && a % 4 == 0

/-- The offset in the LPDDR4 part that an address of its window shows (R32). -/
def Dev.ddrOfs (d : Dev) (a : Nat) : Nat :=
  (a - 0x80000000) + (if d.g Reg.DDR_CTL_SIZE = 4 ∧ d.on Reg.DDR_CTL_DDR_WIN_SEL then 0x10000000 else 0)

/-- A 32-bit word of an engine's memory (R31): a program word's lower or upper half, or a data word sign-extended. -/
def Dev.engWord (d : Dev) (a : Nat) : Nat :=
  let e := (a - 0x20000000) / 0x40000
  let o := (a - 0x20000000) % 0x40000
  if o < 0x20000 then
    let w := d.pmWord e (o / 8)
    if o % 8 / 4 = 0 then w % 2 ^ 32 else w / 2 ^ 32
  else ofInt 32 (toInt 24 (d.dmWord e ((o - 0x20000) / 4)))

/-- Bytes of a word from a byte offset on. -/
def wordPart (w ofs size : Nat) : Nat := w / 2 ^ (8 * ofs) % 2 ^ (8 * size)

/-- A word with bytes from a byte offset on replaced. -/
def wordMerge (w ofs size v : Nat) : Nat := setBits w (min 31 (8 * (ofs + size) - 1)) (8 * ofs) v

/-! ## Reads -/

/-- What a register reads that its unit computes; `none` for a register that is stored. -/
def Dev.regView (d : Dev) (a : Nat) : Option Nat :=
  if 0x30000400 ≤ a ∧ a < 0x30000760 then
    let s := (a - 0x30000400) / 4
    some (setBits (d.word a) 16 16 (b2n (d.irqLevel s)))
  else if a = 0x30000C08 then some d.safCmdStat
  else if a = Reg.SCHED_STAT then
    some ((d.tb.bells.filter (fun b => b.kind == 1)).length * 65536 + d.occ)
  else if 0x30020100 ≤ a ∧ a < 0x30020500 ∧ (a - 0x30020100) % 0x40 = 0x30 then
    let n := (a - 0x30020100) / 0x40
    some (d.word a % 65536 + d.whlAge n * 65536)
  else if 0x30030040 ≤ a ∧ a < 0x30030070 then
    let e := (a - 0x30030040) / 4
    let w := setBits (d.word a) 25 16 (min 1023 (d.engUtil e))
    some (setBits (setBits w 15 8 (d.engCtxs e).length) 2 2 (b2n (decide (e = d.spare))))
  else if 0x300F0010 ≤ a ∧ a < 0x300F0040 ∧ a % 16 = 0 then
    let q := d.hport ((a - 0x300F0010) / 16)
    some (d.word a / 2 ^ 24 * 2 ^ 24 + q.outq.length * 2 ^ 16 + q.pend.length * 2 ^ 11 + q.inq.length)
  else if a = Reg.DRG_NODE then some ((d.tlyNum 0) % 64)
  else if 0x30110000 ≤ a ∧ a < 0x30110100 then d.imgView (a - 0x30110000)
  else if 0x30110100 ≤ a ∧ a < 0x30120000 then d.tlyView (a - 0x30110000)
  else if 0x30120000 ≤ a ∧ a < 0x30120100 then d.errView a
  else none

/-- Where a register's word is kept: per core, per context, or at its address. -/
def Dev.regKey (d : Dev) (core a : Nat) : Nat :=
  if 0x30020040 ≤ a ∧ a < 0x30020064 then 0x200000000 + 0x1000 * (core % 2) + (a - 0x30020000)
  else if 0x30120100 ≤ a ∧ a < 0x30120128 then 0x200000000 + 0x1000 * (core % 2) + (a - 0x30120000)
  else if 0x30030104 ≤ a ∧ a < 0x30030380 then 0x100000000 + 0x1000 * d.g Reg.CTX_SEL_CTX + (a - 0x30030000)
  else a

/-- What a read of a register does before its word is returned (R33, R36, R50, R202, R427, R442; the units' read-cleared conditions). -/
def Dev.readEffect (d : Dev) (a : Nat) : Dev :=
  if a = 0x30000800 then d.irqClaim 0
  else if a = 0x30000808 then d.irqClaim 1
  else if a = Reg.RT_LO then d.via execRtLoRead
  else if a = Reg.LATE_CNT then { d with tb := { d.tb with lateRead := d.g Reg.LATE_CNT_COUNT } }
  else if 0x30020100 ≤ a ∧ a < 0x30020500 ∧ (a - 0x30020100) % 0x40 = 0x20 then d.via (execWheelPosRead ((a - 0x30020100) / 0x40))
  else if a = Reg.CE_CMD_RESULT then { d with ce := { d.ce with resultRead := true } }
  else if a = Reg.CAP_LO 0 ∨ (0x30080300 ≤ a ∧ a < 0x30080380 ∧ a % 16 = Reg.CAP_LO 0 % 16) then
    d.via (execCapturePop ((a - 0x30080300) / 16))
  else if a = Reg.PTP_SEC_LO 0 then d.ptpRead 0
  else if a = Reg.PTP_SEC_LO 1 then d.ptpRead 1
  else if a = Reg.OSPI_RESULT then { d with mm := { d.mm with ospiRead := true } }
  else if a = Reg.TLY_STAT then { d with tly := { d.tly with statRead := true } }
  else if a = Reg.ERR_CLAIM 0 then d.via (execErrClaim 0)
  else if a = Reg.ERR_CLAIM 1 then d.via (execErrClaim 1)
  else d

/-- What a read of the mailbox does (R404, R406). -/
def Dev.mailEffect (d : Dev) (a : Nat) : Dev :=
  if a = Reg.SAF_RESP then d.updSaf fun s => { s with respNew := false }
  else match (List.range 8).find? (fun c => a == Reg.SAF_TTBUF c 0) with
    | some c => d.updConn c fun x => { x with wait := false }
    | none => d

/-- A read of the supervisor bus by a core: the value, or `none` on a bus error, and the device after it. -/
def Dev.busRead (d : Dev) (core a size : Nat) : Option Nat × Dev :=
  let bytes (k : Nat) : Nat := leVal (d.bytes k size)
  match busRegion a with
  | none => (none, d.busError core a)
  | some .rom => (some (leVal ((List.range size).map (fun i => Config.bootRom (a + i) % 256))), d)
  | some .sram =>
    if d.mm.badWords.any (fun w => decide (w < a + size) && decide (a < w + 4)) then (none, d) else (some (bytes a), d)
  | some .engine => (some (wordPart (d.engWord a) (a % 4) size), d)
  | some .reg =>
    if !wordAccess a size then (none, d.busError core a)
    else
      let d := d.readEffect a
      (some ((d.regView a).getD (d.word (d.regKey core a))), d)
  | some .canRam => if wordAccess a size then (some (d.mem32 a), d) else (none, d.busError core a)
  | some .saf =>
    if wordAccess a size then (some (d.word a), d.mailEffect a) else (none, d.busError core a)
  | some .ddr => if d.ddrOfs a + size ≤ d.ddrSize then (some (bytes (ddrKey (d.ddrOfs a))), d) else (none, d)
  | some .flash => (some (bytes (flashKey (a - 0x90000000))), d)

/-! ## Writes of registers -/

/-- A write to the SYS block (R35, R401, R489 to R494). -/
def Dev.sysWrite (d : Dev) (off v : Nat) : Dev :=
  let a := 0x30000000 + off
  if off = 0x004 then d.rstRequest v
  else if off = 0x008 then
    let en := d.on Reg.SYS_WDT_CFG_EN
    let d := d.s Reg.SYS_WDT_CFG_WIN_MIN (bits v 23 16)
    let d := if en then d else d.s Reg.SYS_WDT_CFG_TIMEOUT (max 1 (bits v 15 0))
    d.when (v.testBit 31) Dev.wdtEnable
  else if off = 0x00C then d.wdtService v
  else if off = 0x804 then d.irqDone 0 v
  else if off = 0x80C then d.irqDone 1 v
  else if off = 0xC00 then d.safPush v
  else if off = 0xC04 then (d.when (v.testBit 1) Dev.safFlush).when (v.testBit 0) Dev.safGo
  else d.regStore a a 0x30000000 v unlocked 0

/-- A write to the TB block (R44 to R74). -/
def Dev.tbWrite (d : Dev) (core off v : Nat) : Dev :=
  let a := 0x30020000 + off
  let n := (off - 0x100) / 0x40
  if off = 0x0C then d.via (execPtpSrcWrite v)
  else if 0x40 ≤ off ∧ off < 0x54 then d.setWord (d.regKey core a) v
  else if off = 0x54 then d.via (execBellPost (core % 2) v)
  else if off = 0x60 then d.via (execBellCancel (core % 2) v)
  else if off = 0x7C then d.via (execGoCtlWrite v)
  else if off = 0x80 then d.via (execLgMapWrite v)
  else if 0x100 ≤ off ∧ off < 0x500 then
    match (off - 0x100) % 0x40 with
    | 0x00 => d.whlCfgWrite n v
    | 0x10 => d.via (execWheelSpeedSet n false v)
    | 0x14 => d.via (execWheelSpeedSet n true v)
    | 0x1C => d.via (execWheelPreset n v)
    | _ => d.regStore a a 0x30020000 v unlocked Err.TB_RWL_REFUSED
  else d.regStore a a 0x30020000 v unlocked Err.TB_RWL_REFUSED

/-- A write to a PWM channel, its COMMIT, ARM and CHECK included (R158, R164, R169). -/
def Dev.chWrite (d : Dev) (n off v : Nat) : Dev :=
  let check := d.on (Reg.PWM_PAT_CTL_CHECK n)
  let d := d.pwmWrite n off v
  if off = 0 then (d.when (v.testBit 4) (fun d => d.setCommit n)).when (v.testBit 0) (fun d => d.via (execChArm n))
  else if off = 0x110 ∧ v.testBit 16 ∧ !check then d.via (execPatternCheck n (bits v 11 8))
  else d

/-- A write to a step axis (R275, R291): another OP is refused. -/
def Dev.stpWrite (d : Dev) (n off v : Nat) : Dev :=
  if off = 4 then
    match bits v 31 28 with
    | 1 => (d.axEnable n).2
    | 2 => (d.axDisable n).2
    | 3 => (d.axStart n).2
    | 4 => (d.axStop n).2
    | 5 => (d.axHome n).2
    | 6 => (d.axClear n).2
    | 7 => (d.axSetPos n).2
    | op => (d.axRefuse n op).2
  else d.axWrite n off v

/-- A write to a commutator (R264, R268): another OP is refused. -/
def Dev.cmWrite (d : Dev) (k off v : Nat) : Dev :=
  if off = 4 then
    match bits v 31 28 with
    | 1 => d.via (execCmuStart k)
    | 2 => d.via (execCmuStop k (v.testBit 0))
    | 3 => (d.cmuDecide k (bits v 10 8) (bits v 23 16) 0).2
    | 4 => d.via (execCmuClear k)
    | op => d.cmuRefuse k op
  else d.cmuWrite k off v

/-- A write to the AUX block, the leakage test's START included (R251). -/
def Dev.bridgeWrite (d : Dev) (off v : Nat) : Dev :=
  let d := d.auxWrite off v
  if 0x100 ≤ off ∧ off < 0x300 ∧ (off - 0x100) % 0x20 = 0x10 ∧ v.testBit 31 then
    d.via (execLeakTestStart ((off - 0x100) / 0x20) (bits v 30 30) (bits v 23 16))
  else d

/-- A write to the POS block, an encoder's CLR and SSI_p_CFG included. -/
def Dev.encWrite (d : Dev) (off v : Nat) : Dev :=
  if off < 0xC0 ∧ off % 0x20 = 0x18 then d.via (execEncoderClr (off / 0x20) v)
  else if 0x200 ≤ off ∧ off < 0x280 ∧ off % 0x20 = 0 then d.via (execSsiCfgWrite ((off - 0x200) / 0x20) v)
  else d.posWrite off v

/-- A write to the DRG block, its commands included (R325, R336, R340, R342, R353). -/
def Dev.ringWrite (d : Dev) (off v : Nat) : Dev :=
  if off = 0 then (d.via (execJoin v)).when (v.testBit 1) (fun d => d.via execLeave)
  else if off = 4 then d.tlyRegWrite 0 v
  else if off = 0x2C then
    match bits v 31 28 with
    | 1 => d.applyPlan
    | 2 => (d.drgDecide (v % 4) 0).2
    | 3 => d.drgCntClear
    | op => d.drgRefuse op 1
  else d.drgWrite off v

/-- A PTP rate adjustment, clamped to ±500 ppm in units of 2^-40 (R427). -/
def ptpRate (v : Nat) : Nat := ofInt 32 (clampInt (-549755813) 549755813 (toInt 32 (v % 2 ^ 32)))

/-- A write to the HST block (R423 to R432). -/
def Dev.hstWrite (d : Dev) (off v : Nat) : Dev :=
  let a := 0x300F0000 + off
  if off = 0 then
    let d := d.s Reg.HST_CTL_EN (v % 8)
    if v.testBit 3 then d.svReady else d.s Reg.HST_CTL_SV_READY 0
  else if off = 0x20C ∨ off = 0x22C then d.setWord a (ptpRate v)
  else if off = 0x210 then d.ptpStep 0 v
  else if off = 0x230 then d.ptpStep 1 v
  else d.regStore a a 0x300F0000 v unlocked 0

/-- A write to the IMG and TLY registers (R468, R473). -/
def Dev.imgWrite (d : Dev) (off v : Nat) : Dev :=
  if off = 4 then (d.when (v.testBit 0) Dev.confirm).when (v.testBit 1) (fun d => d.via execReject)
  else if 0x100 ≤ off then d.tlyRegs off v
  else d

/-- A write to the error manager (R441 to R444). -/
def Dev.errWrite (d : Dev) (core off v : Nat) : Dev :=
  let a := 0x30120000 + off
  if off = 0 then d.regStore a a 0x30120000 v unlocked 0
  else if off = 0x44 then d.via (execErrDone 0 v)
  else if off = 0x84 then d.via (execErrDone 1 v)
  else if off = 0x100 then d.setWord (d.regKey core a) (v / 2 ^ 14 % 2 ^ 18 * 2 ^ 14)
  else if 0x104 ≤ off ∧ off < 0x124 then d.setWord (d.regKey core a) v
  else if off = 0x124 then d.via (execErrRaiseGo (core % 2) v)
  else d

/-- A write of a word to a register (R6 to R10, R33). An address in a block that no register has is ignored (log 55). -/
def Dev.regWrite (d : Dev) (core a v : Nat) : Dev :=
  if a < 0x30010000 then d.sysWrite (a - 0x30000000) v
  else if a < 0x30020000 then d.thmWrite (a - 0x30010000) v
  else if a < 0x30030000 then d.tbWrite core (a - 0x30020000) v
  else if a < 0x30040000 then d.ceWrite (a - 0x30030000) v
  else if a < 0x30046000 then d.chWrite ((a - 0x30040000) / 0x1000) (a % 0x1000) v
  else if a < 0x30050000 then d
  else if a < 0x30068000 then d.via (execPatternMemoryWrite ((a - 0x30050000) / 0x4000) (a % 0x4000 / 4) v)
  else if a < 0x30070000 then d
  else if a < 0x30080000 then d.meaWrite (a - 0x30070000) v
  else if a < 0x30090000 then d.encWrite (a - 0x30080000) v
  else if a < 0x30090400 then d.stpWrite ((a - 0x30090000) / 0x100) (a % 0x100) v
  else if a < 0x300A0000 then d
  else if a < 0x300A0080 then d.cmWrite ((a - 0x300A0000) / 0x40) (a % 0x40) v
  else if a < 0x300B0000 then d
  else if a < 0x300C0000 then d.bridgeWrite (a - 0x300B0000) v
  else if a < 0x300D0000 then d.dclWrite (a - 0x300C0000) v
  else if a < 0x300D4000 then d.canWrite ((a - 0x300D0000) / 0x1000) (a % 0x1000) v
  else if a < 0x300E0000 then d
  else if a < 0x300F0000 then d.ringWrite (a - 0x300E0000) v
  else if a < 0x30100000 then d.hstWrite (a - 0x300F0000) v
  else if a < 0x30110000 then d.memWrite (a - 0x30100000) v
  else if a < 0x30120000 then d.imgWrite (a - 0x30110000) v
  else if a < 0x30130000 then d.errWrite core (a - 0x30120000) v
  else if a = Reg.TRP_CLR then d.via (execTrpClr v)
  else d.trpWrite (a - 0x30130000) v

/-- A write of the supervisor bus by a core: whether it completed, and the device after it. -/
def Dev.busWrite (d : Dev) (core a size v : Nat) : Bool × Dev :=
  match busRegion a with
  | some .sram => (true, d.dmaWrite a (leBytes size v))
  | some .engine => (true, d.engMemWrite (a / 4 * 4) (wordMerge (d.engWord a) (a % 4) size v))
  | some .reg =>
    if wordAccess a size && (regRow a).isSome then (true, d.regWrite core a (v % 2 ^ 32))
    else if wordAccess a size && decide (0x30050000 ≤ a) && decide (a < 0x30068000) then (true, d.regWrite core a (v % 2 ^ 32))
    else if wordAccess a size then (true, d)
    else (false, d.busError core a)
  | some .canRam =>
    if wordAccess a size then (true, d.canRamWrite ((a - 0x30140000) / 0x6000) ((a - 0x30140000) % 0x6000) (v % 2 ^ 32))
    else (false, d.busError core a)
  | some .ddr =>
    if d.ddrOfs a + size ≤ d.ddrSize then (true, d.setBytes (ddrKey (d.ddrOfs a)) (leBytes size v)) else (false, d)
  | _ => (false, d.busError core a)

/-- REGISTER_WRITE: a core writes `size` bytes to an address (R7, R30, R34). A write to a register with a row of its own does what that
row does. -/
def execRegisterWrite (core a size v : Nat) (s : State) := s.run fun d =>
  if core < 2 ∧ (size = 1 ∨ size = 2 ∨ size = 4) then (d.busWrite core a size v).2 else d

end Sys2Proof.Machine
end

