-- ==== Sys2Proof/Machine/Decide.lean ====
section
/-! DEFINITION. Machine/Decide.lean: host decisions and the deadlines of proposals (R432 to R439). -/

namespace Sys2Proof.Machine

/-! ## DECIDE (R434) -/

/-- The last decision of a function and unit. -/
def Dev.lastDecided (d : Dev) (f unit : Nat) : Option Decided := d.hst.decided.find? (fun x => x.func == f && x.unit == unit)

/-- What a DECIDE that the unit takes up answers: HST_ARG_BAD for a code that a function of the firmware or of CE does not permit
(log 59), else CODE, RESULT and the device. -/
inductive Taken where
  | bad
  | done (code : Nat) (d : Dev)

/-- A homing decision (R436): codes 1 HOME and 2 LEAVE; the axis refuses another. -/
def Dev.homingDecide (d : Dev) (n code who : Nat) : Nat × Dev :=
  if code = 1 ∨ code = 2 then (0, (d.decided 2 n code who).homingApply n code)
  else (Err.STP_CMD_REFUSED, d.raise Err.STP_CMD_REFUSED [n, code, d.axState n])

/-- A decision passed to its unit as the unit's own command (R434). -/
def Dev.unitDecide (d : Dev) (f code unit arg who : Nat) (e : FlyEstimate) : Taken :=
  let of (r : Nat × Dev) : Taken := .done r.1 r.2
  match f with
  | 0 => of (d.cmuDecide (unit % 2) code arg who)
  | 1 =>
    if unit < 0x100 then of (d.cmuDecide (unit % 2) code 0 who)
    else
      let c := unit - 0x100
      of (d.libDecide .fly c ((d.libVia c).getD 16) code e who)
  | 2 => of (d.homingDecide unit code who)
  | 3 => of (if unit = 0x10 then d.drgDecide code who else d.decideShare unit code who)
  | 4 => of (if code = 1 ∧ unit < 6 then d.acceptPb (2 ^ unit) who else (Err.DCL_CMD_REFUSED, d.dclRefuse 3 unit 1))
  | 5 => if code = 1 then .done 0 (d.thmRestore (2 ^ unit) who) else .bad
  | 6 =>
    if code = 1 then .done 0 ((d.decided 6 unit 1 who).tuneApply unit)
    else if code = 2 then .done 0 (d.decided 6 unit 2 who)
    else .bad
  | 7 => of (d.decideChop unit code who)
  | 8 =>
    if code = 1 then .done 0 ((d.decided 8 unit 1 who).restart (unit / 256) (unit % 256))
    else if code = 2 then .done 0 (d.decided 8 unit 2 who)
    else .bad
  | _ => if code = 1 ∨ code = 2 then .done 0 ((d.decided 9 unit code who).migDecision unit code) else .bad

/-- Whether a unit number exists for a function (R432). -/
def unitOk (f unit : Nat) : Bool :=
  match f with
  | 0 => decide (unit < 2)
  | 1 => decide (unit < 2) || (decide (0x100 < unit) && decide (unit < 0x200))
  | 2 => decide (unit < 4)
  | 3 => (decide (0 < unit) && decide (unit < 4)) || unit == 0x10
  | 4 => decide (unit < 6)
  | 5 => decide (unit < 6)
  | 6 => decide (0 < unit) && decide (unit < 256)
  | 7 => decide (unit < 4)
  | 8 => decide (unit < 0x400)
  | _ => decide (unit < 12)

/-- Whether a function is decided by firmware or by CE with a proposal only: such a DECIDE without a proposal is refused (log 59). -/
def proposalOnly (f : Nat) : Bool := f == 2 || f == 5 || f == 6 || f == 8 || f == 9

/-- DECIDE: a decision already taken is answered as late, or as decided by another port; else the unit decides (R434). `e` is the
estimate that a FLY context holds. -/
def execDecide (o tag : Nat) (e : FlyEstimate) (s : State) := s.run fun d => d.hostRun o tag 0x30 fun f d =>
  let func := f.word 0
  let code := f.word 1
  let unit := f.word 2
  let to_ : Dev := match d.unitDecide func code unit (f.word 3) (o + 1) e with
    | .bad => d.argBad o f 4
    | .done r d => d.answer o f r [r]
  if f.payload.length ≠ 16 ∨ 9 < func then d.argBad o f 0
  else if !unitOk func unit then d.argBad o f 8
  else if (d.proposal func unit).isSome then to_
  else match d.lastDecided func unit with
    | some ⟨_, _, c, 0⟩ =>
      (d.raise Err.HST_DECIDE_LATE [func, unit, c]).answer o f Err.HST_DECIDE_LATE [c]
    | some ⟨_, _, _, p + 1⟩ =>
      (d.raise Err.HST_DECIDE_NONE [func, unit, p]).answer o f Err.HST_DECIDE_NONE [p]
    | none => if proposalOnly func then d.argBad o f 8 else to_

/-! ## Deadlines (R432, R433) -/

/-- Whether the deadline of a proposal has come, in ticks, to the tolerance of its timer (R433): ±10 µs in hardware, ±1 ms in firmware. -/
def Dev.deadlineDue (d : Dev) (p : Proposal) : Bool :=
  decide (p.since + 250000 * p.deadline ≤ d.tick + (if fwTimed p.func p.unit then 250000 else 2500))

/-- A FLY context's decision at its deadline: its proposal, or WAIT (R230, R432). -/
def Dev.flyDeadline (d : Dev) (p : Proposal) : Dev :=
  let c := p.unit - 0x100
  let code := if p.mode = 1 then p.code else 3
  let d := d.deadlineTaken 1 p.unit code
  let w := d.libStatus c
  if libState w = 3 ∧ d.libRuns c then
    d.libPut c (setBits (setBits (setBits w 19 16 (flyNext code)) 15 8 (if code = 5 then 0x0A else 0)) 7 7 0)
  else d

/-- The decision of a proposal at its deadline: in ASSIST the proposal, in HOST the function's default (R432). -/
def Dev.deadline (d : Dev) (p : Proposal) : Dev :=
  let assist := p.mode == 1
  match p.func with
  | 0 => d.cmuDeadline p.unit p
  | 1 => if p.unit < 0x100 then d.cmuDeadline p.unit p else d.flyDeadline p
  | 2 =>
    let code := if assist then 1 else 2
    (d.deadlineTaken 2 p.unit code).homingApply p.unit code
  | 3 => if p.unit = 0x10 then d.drgDeadline p else d.dclDeadline p
  | 4 => d.dclDeadline p
  | 5 =>
    if assist then (d.deadlineTaken 5 p.unit 1).thmRestore (2 ^ p.unit) 0
    else d.deadlineTaken 5 p.unit 0
  | 6 =>
    if assist then (d.deadlineTaken 6 p.unit 1).tuneApply p.unit
    else d.deadlineTaken 6 p.unit 2
  | 7 => d.dclDeadline p
  | 8 =>
    if assist then (d.deadlineTaken 8 p.unit 1).restart (p.unit / 256) (p.unit % 256)
    else d.deadlineTaken 8 p.unit 2
  | _ => d.ceDeadline p

/-- DECISION_DEADLINE: the deadline of a proposal expires (R433, R435): a deadline that firmware times needs firmware. -/
def execDecisionDeadline (f unit : Nat) (s : State) := s.run fun d =>
  match d.proposal f unit with
  | none => d
  | some p =>
    if !d.deadlineDue p ∨ (fwTimed f unit ∧ !d.on Reg.HST_CTL_SV_READY) then d else d.deadline p

end Sys2Proof.Machine
end

