-- ==== Sys2Proof/Machine/HostCmd.lean ====
section
/-! DEFINITION. Machine/HostCmd.lean: the host commands that firmware serves (R430 to R432, R439, R456): a row names the origin and the TAG
of the command that waits there. -/

namespace Sys2Proof.Machine

/-- PING: node, stepping, firmware version and RT64. -/
def execPing (o tag : Nat) (s : State) := s.run fun d => d.hostRun o tag 1 fun f d =>
  if f.payload.length ≠ 0 then d.argBad o f 0
  else d.answer o f 0 ([d.me, Config.stepping, Config.firmwareVersion] ++ rtWords d.tb.rt)

/-! ## Words of the memory map -/

/-- Words read one after the other up to a bus error: whether all were read, the words, the device. -/
def Dev.readWords (d : Dev) : List Nat → List Nat → Bool × List Nat × Dev
  | [], got => (true, got, d)
  | a :: l, got => match d.busRead 0 a 4 with
    | (some w, d) => d.readWords l (got ++ [w])
    | (none, d) => (false, got, d)

/-- HOST_READ: words from an address, as firmware of core 0 reads them. -/
def execHostRead (o tag : Nat) (s : State) := s.run fun d => d.hostRun o tag 2 fun f d =>
  let n := f.word 1
  if f.payload.length ≠ 8 then d.argBad o f 0
  else if n < 1 ∨ 1024 < n then d.argBad o f 4
  else
    let r := d.readWords ((List.range n).map (fun i => f.word 0 + 4 * i)) []
    r.2.2.answer o f (if r.1 then 0 else Err.SYS_BUS_ERR) r.2.1

/-- The codes with which a unit refuses a write or the command that a write carries. -/
def refusals : List Nat :=
  [Err.SYS_BUS_ERR, Err.SYS_RST_REFUSED, Err.THM_CFG_BAD, Err.THM_RWL_REFUSED, Err.TB_RWL_REFUSED, Err.CE_ADM_PARAM, Err.CE_ADM_MEM,
   Err.CE_ADM_UTIL, Err.CE_ADM_CYCLES, Err.CE_ADM_MIG, Err.CE_IMG_BAD, Err.CE_CTX_STATE, Err.CE_WARM_DENIED, Err.CE_WR_GUARD,
   Err.CE_RWL_REFUSED, Err.CE_CTX_BOUND] ++
  [Err.PWM_PAIR_STALE, Err.PWM_LEG_CONFLICT, Err.PWM_DT_RANGE, Err.PWM_TRIG_RANGE, Err.PWM_ARM_REFUSED, Err.PWM_PAT_BAD,
   Err.PWM_RWL_REFUSED, Err.TRP_CLR_ACTIVE, Err.TRP_CLR_EARLY, Err.TRP_CHOP_EXCL, Err.TRP_RWL_REFUSED, Err.MEA_RWL_REFUSED,
   Err.POS_RWL_REFUSED, Err.POS_CFG_BAD, Err.STP_CMD_REFUSED, Err.STP_CFG_BAD, Err.STP_RWL_REFUSED] ++
  [Err.CMU_CFG_BAD, Err.CMU_CMD_REFUSED, Err.CMU_DECIDE_REFUSED, Err.CMU_RWL_REFUSED, Err.AUX_LEAK_REFUSED, Err.AUX_RWL_REFUSED,
   Err.DCL_CMD_REFUSED, Err.DCL_RWL_REFUSED, Err.DCL_CFG_BAD, Err.CAN_CFG_BAD, Err.CAN_WR_GUARD, Err.CAN_RWL_REFUSED,
   Err.DRG_PLAN_REFUSED, Err.DRG_CMD_REFUSED, Err.DRG_RWL_REFUSED] ++
  [Err.MEM_FLASH_TEMP, Err.MEM_FLASH_PROT, Err.MEM_RWL_REFUSED, Err.REC_BW_REFUSED, Err.REC_MEM_BAD, Err.REC_RWL_REFUSED,
   Err.IMG_NOT_TRIAL, Err.TLY_EXHAUSTED, Err.TLY_TEMP, Err.TLY_LOCKED, Err.TLY_ONE_WAY, Err.TLY_BUSY, Err.TLY_CHANGED, Err.TLY_LAST_KEY]

/-- Words written one after the other: the first refusal, its code and the index of its word, and the device. -/
def Dev.writeWords (d : Dev) : List (Nat × Nat × Nat) → Option (Nat × Nat) → Option (Nat × Nat) × Dev
  | [], bad => (bad, d)
  | (i, a, v) :: l, bad =>
    let n := d.raised.length
    let r := d.busWrite 0 a 4 v
    let code := if r.1 then (r.2.raised.drop n).findSome? (fun e => if refusals.contains e.code then some e.code else none)
      else some Err.SYS_BUS_ERR
    r.2.writeWords l (match bad with | some b => some b | none => code.map (fun c => (c, i)))

/-- HOST_WRITE: words written with firmware's rights; the first refusal is answered, later words are still written. -/
def execHostWrite (o tag : Nat) (s : State) := s.run fun d => d.hostRun o tag 3 fun f d =>
  let n := f.payload.length / 4 - 1
  if f.payload.length % 4 ≠ 0 ∨ f.payload.length < 8 ∨ 1024 < n then d.argBad o f 0
  else
    let r := d.writeWords ((List.range n).map (fun i => (i, f.word 0 + 4 * i, f.word (i + 1)))) none
    match r.1 with
    | none => r.2.answer o f 0 []
    | some (c, i) => r.2.answer o f c [c, i]

/-! ## Events, Bells, engines -/

/-- SUBSCRIBE: the port's severity and subsystem mask; events go to the source of the latest one (R426, R431). A node of the ring has no
port to subscribe (log 60). -/
def execSubscribe (o tag : Nat) (s : State) := s.run fun d => d.hostRun o tag 4 fun f d =>
  if f.payload.length ≠ 8 ∨ 3 ≤ o ∨ 3 < f.word 0 then d.argBad o f 0
  else if 0x1FFFFF < f.word 1 then d.argBad o f 4
  else
    let d := (d.s (Reg.PORT_SUB_MIN_SEV o) (f.word 0)).s (Reg.PORT_SUB_SUBSYS o) (f.word 1)
    (d.updPort o (fun q => { q with evtDest := f.addr })).answer o f 0 []

/-- HOST_BELL: a Bell posted for the host by core 0 (R60, R66). -/
def execHostBell (o tag : Nat) (s : State) := s.run fun d => d.hostRun o tag 0x10 fun f d =>
  if f.payload.length ≠ 20 then d.argBad o f 0
  else
    let r := d.bellPost 0 ((List.range 5).map f.word)
    r.2.2.answer o f r.1 [r.2.2.word (Reg.BELL_RESULT 0), r.2.1]

/-- HOST_BELL_CANCEL: a Bell cancelled for the host (R68). -/
def execHostBellCancel (o tag : Nat) (s : State) := s.run fun d => d.hostRun o tag 0x11 fun f d =>
  if f.payload.length ≠ 4 then d.argBad o f 0
  else
    let r := d.bellCancel 0 (f.word 0 % 65536)
    r.2.answer o f r.1 [r.2.word (Reg.BELL_RESULT 0)]

/-- HOST_CE: a CE command; its reply waits for its end (R85). It waits itself while another one runs. -/
def execHostCe (o tag : Nat) (s : State) := s.run fun d =>
  if d.on Reg.CE_CMD_RESULT_BUSY ∨ d.hst.ceWait.isSome then d
  else d.hostRun o tag 0x20 fun f d =>
    if f.payload.length ≠ 8 then d.argBad o f 0
    else
      let d := (d.setWord Reg.CE_IMG_ADDR (f.word 1)).ceCmd (f.word 0)
      { d with hst := { d.hst with ceWait := some (o, tag, f.addr) } }.ceAnswer

/-! ## Firmware's functions -/

/-- ASSIST_SET: the mode and deadline of a decision function, from its next proposal on (R432, R433). -/
def execAssistSet (o tag : Nat) (s : State) := s.run fun d => d.hostRun o tag 0x31 fun f d =>
  if f.payload.length ≠ 12 ∨ 9 < f.word 0 then d.argBad o f 0
  else if 2 < f.word 1 then d.argBad o f 4
  else if f.word 2 < 1 ∨ 65535 < f.word 2 then d.argBad o f 8
  else ((d.s (Reg.ASSIST_CFG_MODE (f.word 0)) (f.word 1)).s (Reg.ASSIST_CFG_DEADLINE (f.word 0)) (f.word 2)).answer o f 0 []

/-- TUNE: an identification run of a context with a generator; the reply waits for its end (R439). -/
def execTune (o tag : Nat) (s : State) := s.run fun d => d.hostRun o tag 0x32 fun f d =>
  let c := f.word 0
  let k := f.word 1
  if f.payload.length ≠ 12 ∨ c < 1 ∨ 255 < c then d.argBad o f 0
  else if 3 < k then d.argBad o f 4
  else
    let d := d.genRun k c true
    { d with hst := { d.hst with tunes := d.hst.tunes ++ [⟨o, tag, f.addr, c, k, f.word 2⟩] } }

/-- Whether a number names a loaded context. -/
def Dev.loaded (d : Dev) (c : Nat) : Bool := decide (1 ≤ c) && decide (c ≤ 255) && d.ctxState c != 0

/-- Whether a context is the SHADOW of another. -/
def Dev.shadowOf (d : Dev) (c act : Nat) : Bool := d.ctxState c == 3 && d.g (Reg.CTX_W0_SHADOW_OF c) == act

/-- The byte offset of the first field at which GETHOME fails (R233). -/
def Dev.getHomeBad (d : Dev) (n en foc spd ghFoc ghSpd : Nat) : Option Nat :=
  if 5 < n then some 0
  else if 1 < en then some 4
  else if en = 0 then none
  else if d.on (Reg.DCL_CH_CFG_SL n) then some 0
  else if !d.loaded foc then some 8
  else if !d.loaded spd then some 12
  else if !d.loaded ghFoc || !d.shadowOf ghFoc foc then some 16
  else if !d.loaded ghSpd || !d.shadowOf ghSpd spd then some 20
  else none

/-- GETHOME: get-home operation of a channel is enabled or disabled (R233). -/
def execGethome (o tag : Nat) (s : State) := s.run fun d => d.hostRun o tag 0x33 fun f d =>
  if f.payload.length ≠ 24 then d.argBad o f 0
  else match d.getHomeBad (f.word 0) (f.word 1) (f.word 2) (f.word 3) (f.word 4) (f.word 5) with
    | some ofs => d.argBad o f ofs
    | none =>
      let g : GetHome := if f.word 1 = 1 then ⟨true, f.word 2, f.word 3, f.word 4, f.word 5⟩
        else { d.hst.getHome.getD (f.word 0) ⟨false, 0, 0, 0, 0⟩ with en := false }
      { d with hst := { d.hst with getHome := updBank 6 ⟨false, 0, 0, 0, 0⟩ d.hst.getHome (f.word 0) (fun _ => g) } }.answer o f 0 []

/-- SAFETY: one island message with the receiving port's number as its PORT; its reply waits for the island's answer (R401, R402, R430).
It waits itself while the FIFO is not ready for a message or another host message is unanswered. -/
def execSafety (o tag : Nat) (s : State) := s.run fun d =>
  if d.hst.safWait.isSome ∨ d.saf.ovr ∨ !d.saf.words.isEmpty ∨ 256 ≤ d.saf.level then d
  else d.hostRun o tag 0x40 fun f d =>
    if f.payload.length < 4 ∨ f.payload.length % 4 ≠ 0 ∨ 256 < d.saf.level + f.payload.length / 4 then d.argBad o f 0
    else
      let header := setBits (f.word 0) 15 8 (min o 3)
      let ws := header :: (List.range (f.payload.length / 4 - 1)).map (fun i => f.word (i + 1))
      let d := (d.each ws Dev.safPush).safGo
      { d with hst := { d.hst with safWait := some (o, tag, f.addr, header) } }

/-- ERR_LOG: of `count` records from a SEQ on, those that firmware retains. -/
def execErrLog (o tag : Nat) (s : State) := s.run fun d => d.hostRun o tag 0x70 fun f d =>
  if f.payload.length ≠ 8 then d.argBad o f 0
  else if 64 < f.word 1 then d.argBad o f 4
  else
    let l := (List.range (f.word 1)).filterMap (fun i => d.hst.retained.find? (fun r => r.seq == (f.word 0 + i) % 2 ^ 32))
    d.answer o f 0 (l.flatMap ErrRec.words)

/-- HOST_RESET: a domain reset requested by the host (R24, R494); it is answered before it is carried out. -/
def execHostReset (o tag : Nat) (s : State) := s.run fun d => d.hostRun o tag 0x71 fun f d =>
  let x := f.word 0
  if f.payload.length ≠ 4 ∨ !([0x00, 0x01, 0x10, 0x11, 0x12, 0x13, 0x14].contains x) then d.argBad o f 0
  else if x = 0x14 ∧ !d.islandMayReset then (d.raise Err.SYS_RST_REFUSED [0x14]).answer o f Err.SYS_RST_REFUSED []
  else (d.answer o f 0 []).rstRequest (0xA5000000 + x)

/-- HOST_REC_START: streams started as a write to REC_START starts them; the reply is the refusal of the lowest stream (R456, log 48). -/
def execHostRecStart (o tag : Nat) (s : State) := s.run fun d => d.hostRun o tag 0x60 fun f d =>
  if f.payload.length ≠ 4 then d.argBad o f 0
  else
    let r := d.recStartMask (f.word 0)
    r.2.answer o f r.1 (if r.1 = 0 then [] else [r.2.word Reg.REC_RESULT])

end Sys2Proof.Machine
end

