-- ==== Sys2Proof/Machine/Dispatch.lean ====
section
/-! DEFINITION. Machine/Dispatch.lean: the command of each row of the opcode table to its meaning. -/

namespace Sys2Proof.Machine

def exec (i : Instr) (s : State) : Host.Outcome State Fault Refusal :=
  match i with
  | .registerWrite core a size v => Sys2Proof.Machine.execRegisterWrite core a size v s
  | .irqClaim core => Sys2Proof.Machine.execIrqClaim core s
  | .irqDone core src => Sys2Proof.Machine.execIrqDone core src s
  | .d2dFrameReceived ok => Sys2Proof.Machine.execD2dFrameReceived ok s
  | .sysD2dLost dir => Sys2Proof.Machine.execSysD2dLost dir s
  | .safetyLinkFrame link si rb ok => Sys2Proof.Machine.execSafetyLinkFrame link si rb ok s
  | .safetyLinkLost link => Sys2Proof.Machine.execSafetyLinkLost link s
  | .supplyLoss x => Sys2Proof.Machine.execSupplyLoss x s
  | .v24SiLoss => Sys2Proof.Machine.execV24SiLoss s
  | .porstNAsserted => Sys2Proof.Machine.execPorstNAsserted s
  | .rstNAsserted => Sys2Proof.Machine.execRstNAsserted s
  | .resetRelease porst bootMode => Sys2Proof.Machine.execResetRelease porst bootMode s
  | .warmResetRequest key => Sys2Proof.Machine.execWarmResetRequest key s
  | .supervisorResetRequest key => Sys2Proof.Machine.execSupervisorResetRequest key s
  | .ringResetRequest key => Sys2Proof.Machine.execRingResetRequest key s
  | .hostPortResetRequest p => Sys2Proof.Machine.execHostPortResetRequest p s
  | .islandResetRequest key => Sys2Proof.Machine.execIslandResetRequest key s
  | .rtLoRead => Sys2Proof.Machine.execRtLoRead s
  | .ptpSrcWrite v => Sys2Proof.Machine.execPtpSrcWrite v s
  | .rtLockedEntry => Sys2Proof.Machine.execRtLockedEntry s
  | .tbRtHoldover => Sys2Proof.Machine.execTbRtHoldover s
  | .tbDebugHalt => Sys2Proof.Machine.execTbDebugHalt s
  | .tbDebugRelease => Sys2Proof.Machine.execTbDebugRelease s
  | .timeBellLaunch => Sys2Proof.Machine.execTimeBellLaunch s
  | .angleBellLaunch => Sys2Proof.Machine.execAngleBellLaunch s
  | .bellPost core v => Sys2Proof.Machine.execBellPost core v s
  | .bellPostDecision core => Sys2Proof.Machine.execBellPostDecision core s
  | .bellCancel core handle => Sys2Proof.Machine.execBellCancel core handle s
  | .bellCancelDecision core => Sys2Proof.Machine.execBellCancelDecision core s
  | .ringBellReceived org h w0 w1 w2 w3 w4 => Sys2Proof.Machine.execRingBellReceived org h w0 w1 w2 w3 w4 s
  | .goCtlWrite v => Sys2Proof.Machine.execGoCtlWrite v s
  | .lgMapWrite v => Sys2Proof.Machine.execLgMapWrite v s
  | .wheelStart n v => Sys2Proof.Machine.execWheelStart n v s
  | .wheelSourceUpdate n => Sys2Proof.Machine.execWheelSourceUpdate n s
  | .tbWheelStale n => Sys2Proof.Machine.execTbWheelStale n s
  | .wheelPreset n v => Sys2Proof.Machine.execWheelPreset n v s
  | .wheelSpeedSet n hi v => Sys2Proof.Machine.execWheelSpeedSet n hi v s
  | .wheelPosRead n => Sys2Proof.Machine.execWheelPosRead n s
  | .contextTrigger c => Sys2Proof.Machine.execContextTrigger c s
  | .programStart e => Sys2Proof.Machine.execProgramStart e s
  | .resultLands e => Sys2Proof.Machine.execResultLands e s
  | .programEnd e => Sys2Proof.Machine.execProgramEnd e s
  | .outputWrite c => Sys2Proof.Machine.execOutputWrite c s
  | .ceCtxLate c delay => Sys2Proof.Machine.execCeCtxLate c delay s
  | .ceLoad c eng => Sys2Proof.Machine.execCeLoad c eng s
  | .ceLoadComplete => Sys2Proof.Machine.execCeLoadComplete s
  | .ceStart c => Sys2Proof.Machine.execCeStart c s
  | .ceStop c => Sys2Proof.Machine.execCeStop c s
  | .ceUnload c => Sys2Proof.Machine.execCeUnload c s
  | .ceShadow c => Sys2Proof.Machine.execCeShadow c s
  | .ceHandover c => Sys2Proof.Machine.execCeHandover c s
  | .ceBank c arg => Sys2Proof.Machine.execCeBank c arg s
  | .ceClear c => Sys2Proof.Machine.execCeClear c s
  | .divsync c => Sys2Proof.Machine.execDivsync c s
  | .evacuate eng => Sys2Proof.Machine.execEvacuate eng s
  | .evacuateComplete => Sys2Proof.Machine.execEvacuateComplete s
  | .resetEng eng => Sys2Proof.Machine.execResetEng eng s
  | .resetEngComplete pass => Sys2Proof.Machine.execResetEngComplete pass s
  | .engineMemoryWrite a v => Sys2Proof.Machine.execEngineMemoryWrite a v s
  | .ceEngFault e src a => Sys2Proof.Machine.execCeEngFault e src a s
  | .signatureTest e pass => Sys2Proof.Machine.execSignatureTest e pass s
  | .ceSigStarved e => Sys2Proof.Machine.execCeSigStarved e s
  | .migrationProceed e => Sys2Proof.Machine.execMigrationProceed e s
  | .coldCopyComplete c ok => Sys2Proof.Machine.execColdCopyComplete c ok s
  | .ceMigDone => Sys2Proof.Machine.execCeMigDone s
  | .engineHalt e => Sys2Proof.Machine.execEngineHalt e s
  | .engineResume e => Sys2Proof.Machine.execEngineResume e s
  | .engineSingleStep e => Sys2Proof.Machine.execEngineSingleStep e s
  | .spcUpdate => Sys2Proof.Machine.execSpcUpdate s
  | .nop e p => Sys2Proof.Machine.execNop e p s
  | .endProgram e => Sys2Proof.Machine.execEnd e s
  | .br e ofs => Sys2Proof.Machine.execBr e ofs s
  | .call e ofs => Sys2Proof.Machine.execCall e ofs s
  | .ret e => Sys2Proof.Machine.execRet e s
  | .loop e count ofs => Sys2Proof.Machine.execLoop e count ofs s
  | .clrf e p m => Sys2Proof.Machine.execClrf e p m s
  | .rdf e p gd => Sys2Proof.Machine.execRdf e p gd s
  | .mov e p gd ga => Sys2Proof.Machine.execMov e p gd ga s
  | .movk e p gd imm => Sys2Proof.Machine.execMovk e p gd imm s
  | .sel e p cc gd ga gb => Sys2Proof.Machine.execSel e p cc gd ga gb s
  | .movs e p gd ad sh trunc => Sys2Proof.Machine.execMovs e p gd ad sh trunc s
  | .lda e p ad ga => Sys2Proof.Machine.execLda e p ad ga s
  | .clra e p ad => Sys2Proof.Machine.execClra e p ad s
  | .adda e p ad aa ab => Sys2Proof.Machine.execAdda e p ad aa ab s
  | .suba e p ad aa ab => Sys2Proof.Machine.execSuba e p ad aa ab s
  | .add e p gd ga gb => Sys2Proof.Machine.execAdd e p gd ga gb s
  | .sub e p gd ga gb => Sys2Proof.Machine.execSub e p gd ga gb s
  | .neg e p gd ga => Sys2Proof.Machine.execNeg e p gd ga s
  | .abs e p gd ga => Sys2Proof.Machine.execAbs e p gd ga s
  | .min e p gd ga gb => Sys2Proof.Machine.execMin e p gd ga gb s
  | .max e p gd ga gb => Sys2Proof.Machine.execMax e p gd ga gb s
  | .clmp e p gd ga gb gc => Sys2Proof.Machine.execClmp e p gd ga gb gc s
  | .addk e p gd ga imm => Sys2Proof.Machine.execAddk e p gd ga imm s
  | .cmp e p ga gb => Sys2Proof.Machine.execCmp e p ga gb s
  | .cmpk e p ga imm => Sys2Proof.Machine.execCmpk e p ga imm s
  | .ash e p gd ga sh => Sys2Proof.Machine.execAsh e p gd ga sh s
  | .hyst e p gd ga gb => Sys2Proof.Machine.execHyst e p gd ga gb s
  | .sha e p ad aa sh => Sys2Proof.Machine.execSha e p ad aa sh s
  | .iadd e p gd ga gb => Sys2Proof.Machine.execIadd e p gd ga gb s
  | .isub e p gd ga gb => Sys2Proof.Machine.execIsub e p gd ga gb s
  | .iaddk e p gd ga imm => Sys2Proof.Machine.execIaddk e p gd ga imm s
  | .andBits e p gd ga gb => Sys2Proof.Machine.execAnd e p gd ga gb s
  | .orBits e p gd ga gb => Sys2Proof.Machine.execOr e p gd ga gb s
  | .xorBits e p gd ga gb => Sys2Proof.Machine.execXor e p gd ga gb s
  | .andk e p gd ga imm => Sys2Proof.Machine.execAndk e p gd ga imm s
  | .lsh e p gd ga sh => Sys2Proof.Machine.execLsh e p gd ga sh s
  | .mpy e p ad ga gb q => Sys2Proof.Machine.execMpy e p ad ga gb q s
  | .mac e p ad ga gb q => Sys2Proof.Machine.execMac e p ad ga gb q s
  | .msu e p ad ga gb q => Sys2Proof.Machine.execMsu e p ad ga gb q s
  | .dmac e p ad ga gb ae gc gf q => Sys2Proof.Machine.execDmac e p ad ga gb ae gc gf q s
  | .mpyx e p ad ga xn pm disp q => Sys2Proof.Machine.execMpyx e p ad ga xn pm disp q s
  | .macx e p ad ga xn pm disp q => Sys2Proof.Machine.execMacx e p ad ga xn pm disp q s
  | .msux e p ad ga xn pm disp q => Sys2Proof.Machine.execMsux e p ad ga xn pm disp q s
  | .dmacx e p ad ga x1 s1 ae gb x2 s2 q => Sys2Proof.Machine.execDmacx e p ad ga x1 s1 ae gb x2 s2 q s
  | .muli e p gd ga gb => Sys2Proof.Machine.execMuli e p gd ga gb s
  | .sincos e p gd ga => Sys2Proof.Machine.execSincos e p gd ga s
  | .rot e p gd ga gb gc inv => Sys2Proof.Machine.execRot e p gd ga gb gc inv s
  | .recip e p gd ga k => Sys2Proof.Machine.execRecip e p gd ga k s
  | .rsqrt e p gd ga k => Sys2Proof.Machine.execRsqrt e p gd ga k s
  | .ld e p gd xn pm disp => Sys2Proof.Machine.execLd e p gd xn pm disp s
  | .st e p ga xn pm disp => Sys2Proof.Machine.execSt e p ga xn pm disp s
  | .ldx e p xd imm => Sys2Proof.Machine.execLdx e p xd imm s
  | .movx e p xd ga => Sys2Proof.Machine.execMovx e p xd ga s
  | .addx e p xd xa imm => Sys2Proof.Machine.execAddx e p xd xa imm s
  | .movm e p mn imm => Sys2Proof.Machine.execMovm e p mn imm s
  | .inPort e p gd port => Sys2Proof.Machine.execIn e p gd port s
  | .outPort e p port ga => Sys2Proof.Machine.execOut e p port ga s
  | .rdsh e p gd node word => Sys2Proof.Machine.execRdsh e p gd node word s
  | .dmpyx e p ad ga x1 s1 ae gb x2 s2 q => Sys2Proof.Machine.execDmpyx e p ad ga x1 s1 ae gb x2 s2 q s
  | .periodBoundary n => Sys2Proof.Machine.execPeriodBoundary n s
  | .chCommit n => Sys2Proof.Machine.execChCommit n s
  | .chArm n => Sys2Proof.Machine.execChArm n s
  | .triggerCompareFire n k => Sys2Proof.Machine.execTriggerCompareFire n k s
  | .compareMatch n m low => Sys2Proof.Machine.execCompareMatch n m low s
  | .deadTimeElapsed n m high => Sys2Proof.Machine.execDeadTimeElapsed n m high s
  | .hrCalibration n trim atEnd => Sys2Proof.Machine.execHrCalibration n trim atEnd s
  | .patternCheck n tbl => Sys2Proof.Machine.execPatternCheck n tbl s
  | .patternCheckDone n => Sys2Proof.Machine.execPatternCheckDone n s
  | .patternMemoryWrite n a v => Sys2Proof.Machine.execPatternMemoryWrite n a v s
  | .patternEntry n => Sys2Proof.Machine.execPatternEntry n s
  | .modeSwitch n => Sys2Proof.Machine.execModeSwitch n s
  | .syncWindowExit n => Sys2Proof.Machine.execSyncWindowExit n s
  | .tripSourceQualified src active => Sys2Proof.Machine.execTripSourceQualified src active s
  | .npcStageExpiry n p => Sys2Proof.Machine.execNpcStageExpiry n p s
  | .fclkLoss => Sys2Proof.Machine.execFclkLoss s
  | .fclkReturn ns => Sys2Proof.Machine.execFclkReturn ns s
  | .trpClr v => Sys2Proof.Machine.execTrpClr v s
  | .sdComparatorActive k active => Sys2Proof.Machine.execSdComparatorActive k active s
  | .meaSdStuck k => Sys2Proof.Machine.execMeaSdStuck k s
  | .sdStuckClear k => Sys2Proof.Machine.execSdStuckClear k s
  | .sequenceTrigger q => Sys2Proof.Machine.execSequenceTrigger q s
  | .backgroundScanStart => Sys2Proof.Machine.execBackgroundScanStart s
  | .sarSlotStart adc t => Sys2Proof.Machine.execSarSlotStart adc t s
  | .sarConversionDone adc code => Sys2Proof.Machine.execSarConversionDone adc code s
  | .resolverConversion r sn cs neg t => Sys2Proof.Machine.execResolverConversion r sn cs neg t s
  | .encoderEdge n a b rt => Sys2Proof.Machine.execEncoderEdge n a b rt s
  | .encoderIndex n rt => Sys2Proof.Machine.execEncoderIndex n rt s
  | .encoderClr n v => Sys2Proof.Machine.execEncoderClr n v s
  | .ssiFrameStart p rt => Sys2Proof.Machine.execSsiFrameStart p rt s
  | .ssiFrameDone p word high low => Sys2Proof.Machine.execSsiFrameDone p word high low s
  | .ssiCfgWrite p v => Sys2Proof.Machine.execSsiCfgWrite p v s
  | .pulseInputEdge q t high => Sys2Proof.Machine.execPulseInputEdge q t high s
  | .posPlsTimeout q => Sys2Proof.Machine.execPosPlsTimeout q s
  | .captureEdge c rising rt => Sys2Proof.Machine.execCaptureEdge c rising rt s
  | .capturePop c => Sys2Proof.Machine.execCapturePop c s
  | .libStart k c j arg => Sys2Proof.Machine.execLibStart k c j arg s
  | .libStop k c j arg => Sys2Proof.Machine.execLibStop k c j arg s
  | .libDecide k c j code e => Sys2Proof.Machine.execLibDecide k c j code e s
  | .libClear k c j arg => Sys2Proof.Machine.execLibClear k c j arg s
  | .libStatusPoll k c => Sys2Proof.Machine.execLibStatusPoll k c s
  | .gethomeHandoverPost n when_ => Sys2Proof.Machine.execGethomeHandoverPost n when_ s
  | .auxCarrierBoundary c => Sys2Proof.Machine.execAuxCarrierBoundary c s
  | .auxGdUv mv => Sys2Proof.Machine.execAuxGdUv mv s
  | .bootstrapUvlo n => Sys2Proof.Machine.execBootstrapUvlo n s
  | .bootstrapUvRelease n => Sys2Proof.Machine.execBootstrapUvRelease n s
  | .currentLimitHit n => Sys2Proof.Machine.execCurrentLimitHit n s
  | .auxOc n => Sys2Proof.Machine.execAuxOc n s
  | .auxVbrUv mv => Sys2Proof.Machine.execAuxVbrUv mv s
  | .vbrUvRelease mv => Sys2Proof.Machine.execVbrUvRelease mv s
  | .auxVbrOv mv => Sys2Proof.Machine.execAuxVbrOv mv s
  | .auxEnLow => Sys2Proof.Machine.execAuxEnLow s
  | .auxEnClear => Sys2Proof.Machine.execAuxEnClear s
  | .leakTestStart n side tTest => Sys2Proof.Machine.execLeakTestStart n side tTest s
  | .leakTestDone n rise opened => Sys2Proof.Machine.execLeakTestDone n rise opened s
  | .zeroCrossing k t code => Sys2Proof.Machine.execZeroCrossing k t code s
  | .commutation k => Sys2Proof.Machine.execCommutation k s
  | .sectorMiss k => Sys2Proof.Machine.execSectorMiss k s
  | .cmuStart k => Sys2Proof.Machine.execCmuStart k s
  | .cmuStop k brk => Sys2Proof.Machine.execCmuStop k brk s
  | .cmuDecide k code iovr => Sys2Proof.Machine.execCmuDecide k code iovr s
  | .cmuClear k => Sys2Proof.Machine.execCmuClear k s
  | .senseEnd k => Sys2Proof.Machine.execSenseEnd k s
  | .brakeEnd k late peak => Sys2Proof.Machine.execBrakeEnd k late peak s
  | .alignEnd k => Sys2Proof.Machine.execAlignEnd k s
  | .rampEnd k => Sys2Proof.Machine.execRampEnd k s
  | .lockAchieved k => Sys2Proof.Machine.execLockAchieved k s
  | .cmuStartFail k => Sys2Proof.Machine.execCmuStartFail k s
  | .cmuWaitEnd k => Sys2Proof.Machine.execCmuWaitEnd k s
  | .stpEnable n => Sys2Proof.Machine.execStpEnable n s
  | .stpDisable n => Sys2Proof.Machine.execStpDisable n s
  | .stpStart n => Sys2Proof.Machine.execStpStart n s
  | .stpStop n => Sys2Proof.Machine.execStpStop n s
  | .stpHome n => Sys2Proof.Machine.execStpHome n s
  | .stpClear n => Sys2Proof.Machine.execStpClear n s
  | .setPos n => Sys2Proof.Machine.execSetPos n s
  | .stpHwLimit n hi => Sys2Proof.Machine.execStpHwLimit n hi s
  | .homingPhaseEnd n => Sys2Proof.Machine.execHomingPhaseEnd n s
  | .holdStandby n => Sys2Proof.Machine.execHoldStandby n s
  | .stpLag n => Sys2Proof.Machine.execStpLag n s
  | .dclUpdate => Sys2Proof.Machine.execDclUpdate s
  | .dlEnableWrite m v => Sys2Proof.Machine.execDlEnableWrite m v s
  | .chopperCommandChange m => Sys2Proof.Machine.execChopperCommandChange m s
  | .dclWarn m => Sys2Proof.Machine.execDclWarn m s
  | .dcLinkWarnClear m => Sys2Proof.Machine.execDcLinkWarnClear m s
  | .dclTrip m => Sys2Proof.Machine.execDclTrip m s
  | .dclMeasLost m => Sys2Proof.Machine.execDclMeasLost m s
  | .dclChopFail m src => Sys2Proof.Machine.execDclChopFail m src s
  | .chopperFallbackExpiry m => Sys2Proof.Machine.execChopperFallbackExpiry m s
  | .clearDl m => Sys2Proof.Machine.execClearDl m s
  | .decideChop m code => Sys2Proof.Machine.execDecideChop m code s
  | .acceptPb mask => Sys2Proof.Machine.execAcceptPb mask s
  | .dclDecideShare g code => Sys2Proof.Machine.execDclDecideShare g code s
  | .dclHold c => Sys2Proof.Machine.execDclHold c s
  | .clearCh c => Sys2Proof.Machine.execClearCh c s
  | .brakeTimeExpiry c => Sys2Proof.Machine.execBrakeTimeExpiry c s
  | .tripLeadExpiry c => Sys2Proof.Machine.execTripLeadExpiry c s
  | .powerBudgetPass => Sys2Proof.Machine.execPowerBudgetPass s
  | .dclFlr => Sys2Proof.Machine.execDclFlr s
  | .flrRelease => Sys2Proof.Machine.execFlrRelease s
  | .shareSplit g => Sys2Proof.Machine.execShareSplit g s
  | .ringCycleStart => Sys2Proof.Machine.execRingCycleStart s
  | .crierReceived dirB wrap ok fine residence payload => Sys2Proof.Machine.execCrierReceived dirB wrap ok fine residence payload s
  | .shareFrameReceived src cyc16 ok stat whls words => Sys2Proof.Machine.execShareFrameReceived src cyc16 ok stat whls words s
  | .shareBufferComplete => Sys2Proof.Machine.execShareBufferComplete s
  | .telltaleFrameReceived src ok f => Sys2Proof.Machine.execTelltaleFrameReceived src ok f s
  | .bulkFrameReceived dirB src ok pl => Sys2Proof.Machine.execBulkFrameReceived dirB src ok pl s
  | .bulkMessageTimeout src chan => Sys2Proof.Machine.execBulkMessageTimeout src chan s
  | .bulkFrameSend => Sys2Proof.Machine.execBulkFrameSend s
  | .delayRequest fine => Sys2Proof.Machine.execDelayRequest fine s
  | .delayFrameReceived answer ok t1 t2 t3 fine val => Sys2Proof.Machine.execDelayFrameReceived answer ok t1 t2 t3 fine val s
  | .applyPlan => Sys2Proof.Machine.execApplyPlan s
  | .drgDecideShare code => Sys2Proof.Machine.execDrgDecideShare code s
  | .drgCntClear => Sys2Proof.Machine.execDrgCntClear s
  | .join v => Sys2Proof.Machine.execJoin v s
  | .leave => Sys2Proof.Machine.execLeave s
  | .ringStart => Sys2Proof.Machine.execRingStart s
  | .drgMasterLost => Sys2Proof.Machine.execDrgMasterLost s
  | .drgMasterChange new => Sys2Proof.Machine.execDrgMasterChange new s
  | .drgWrap up cause => Sys2Proof.Machine.execDrgWrap up cause s
  | .drgUnwrap up => Sys2Proof.Machine.execDrgUnwrap up s
  | .safetyTick diff tap0 tap1 tapErr sd fclkA fclkB gden => Sys2Proof.Machine.execSafetyTick diff tap0 tap1 tapErr sd fclkA fclkB gden s
  | .islandSelfTestDone ok => Sys2Proof.Machine.execIslandSelfTestDone ok s
  | .islandWatchdogExpiry => Sys2Proof.Machine.execIslandWatchdogExpiry s
  | .safDisc k => Sys2Proof.Machine.execSafDisc k s
  | .outputTestEnd k => Sys2Proof.Machine.execOutputTestEnd k s
  | .ss1TimerExpiry n => Sys2Proof.Machine.execSs1TimerExpiry n s
  | .slsGraceExpiry n => Sys2Proof.Machine.execSlsGraceExpiry n s
  | .shhBrakeTimeExpiry n => Sys2Proof.Machine.execShhBrakeTimeExpiry n s
  | .shhMaxExpiry n => Sys2Proof.Machine.execShhMaxExpiry n s
  | .sbtPhaseEnd n => Sys2Proof.Machine.execSbtPhaseEnd n s
  | .safSbtDue n => Sys2Proof.Machine.execSafSbtDue n s
  | .telltaleTransmit c => Sys2Proof.Machine.execTelltaleTransmit c s
  | .safTtLost c => Sys2Proof.Machine.execSafTtLost c s
  | .passwordSessionTimeout => Sys2Proof.Machine.execPasswordSessionTimeout s
  | .passwordLockEnd => Sys2Proof.Machine.execPasswordLockEnd s
  | .safCmdDataWrite v => Sys2Proof.Machine.execSafCmdDataWrite v s
  | .go => Sys2Proof.Machine.execGo s
  | .flush => Sys2Proof.Machine.execFlush s
  | .enter => Sys2Proof.Machine.execEnter s
  | .exit => Sys2Proof.Machine.execExit s
  | .setPw => Sys2Proof.Machine.execSetPw s
  | .cfgLoad => Sys2Proof.Machine.execCfgLoad s
  | .cfgCheck => Sys2Proof.Machine.execCfgCheck s
  | .cfgStart => Sys2Proof.Machine.execCfgStart s
  | .activate => Sys2Proof.Machine.execActivate s
  | .logAck => Sys2Proof.Machine.execLogAck s
  | .reqSto => Sys2Proof.Machine.execReqSto s
  | .relSto => Sys2Proof.Machine.execRelSto s
  | .islandAck => Sys2Proof.Machine.execIslandAck s
  | .sbtStart => Sys2Proof.Machine.execSbtStart s
  | .ttRx => Sys2Proof.Machine.execTtRx s
  | .canInitSet n => Sys2Proof.Machine.execCanInitSet n s
  | .canInitClear n => Sys2Proof.Machine.execCanInitClear n s
  | .canBusJoin n => Sys2Proof.Machine.execCanBusJoin n s
  | .canBusOffRecovery n => Sys2Proof.Machine.execCanBusOffRecovery n s
  | .canMessageRamWrite n ofs v => Sys2Proof.Machine.execCanMessageRamWrite n ofs v s
  | .canTxRequest n k => Sys2Proof.Machine.execCanTxRequest n k s
  | .canTxAbort n k => Sys2Proof.Machine.execCanTxAbort n k s
  | .canTxComplete n sof tdcv => Sys2Proof.Machine.execCanTxComplete n sof tdcv s
  | .canFrameReceived n w0 w1 sof data => Sys2Proof.Machine.execCanFrameReceived n w0 w1 sof data s
  | .canProtocolError n kind step tx dataPhase body => Sys2Proof.Machine.execCanProtocolError n kind step tx dataPhase body s
  | .canFifoAck n k => Sys2Proof.Machine.execCanFifoAck n k s
  | .hpAck n e k => Sys2Proof.Machine.execHpAck n e k s
  | .hspiWriteFrame b => Sys2Proof.Machine.execHspiWriteFrame b s
  | .hspiReadFrame n => Sys2Proof.Machine.execHspiReadFrame n s
  | .hspiStatus op => Sys2Proof.Machine.execHspiStatus op s
  | .ethFrameReceived p kind addr id ofs more data => Sys2Proof.Machine.execEthFrameReceived p kind addr id ofs more data s
  | .ethFragmentTimeout p id => Sys2Proof.Machine.execEthFragmentTimeout p id s
  | .hstLinkDown p => Sys2Proof.Machine.execHstLinkDown p s
  | .ptpStep m v => Sys2Proof.Machine.execPtpStep m v s
  | .ptpSecRead m => Sys2Proof.Machine.execPtpSecRead m s
  | .hostFrameReceived p addr b => Sys2Proof.Machine.execHostFrameReceived p addr b s
  | .ping o tag => Sys2Proof.Machine.execPing o tag s
  | .hostRead o tag => Sys2Proof.Machine.execHostRead o tag s
  | .hostWrite o tag => Sys2Proof.Machine.execHostWrite o tag s
  | .subscribe o tag => Sys2Proof.Machine.execSubscribe o tag s
  | .hostBell o tag => Sys2Proof.Machine.execHostBell o tag s
  | .hostBellCancel o tag => Sys2Proof.Machine.execHostBellCancel o tag s
  | .hostCe o tag => Sys2Proof.Machine.execHostCe o tag s
  | .hostDecide o tag e => Sys2Proof.Machine.execDecide o tag e s
  | .assistSet o tag => Sys2Proof.Machine.execAssistSet o tag s
  | .tune o tag => Sys2Proof.Machine.execTune o tag s
  | .tuneRunEnd o tag gains => Sys2Proof.Machine.execTuneRunEnd o tag gains s
  | .gethome o tag => Sys2Proof.Machine.execGethome o tag s
  | .safety o tag => Sys2Proof.Machine.execSafety o tag s
  | .errLog o tag => Sys2Proof.Machine.execErrLog o tag s
  | .hostReset o tag => Sys2Proof.Machine.execHostReset o tag s
  | .hostRecStart o tag => Sys2Proof.Machine.execHostRecStart o tag s
  | .eventSend => Sys2Proof.Machine.execEventSend s
  | .decisionDeadline f unit => Sys2Proof.Machine.execDecisionDeadline f unit s
  | .faultRestart kind inst => Sys2Proof.Machine.execFaultRestart kind inst s
  | .errRecordsStored => Sys2Proof.Machine.execErrRecordsStored s
  | .errClaim k => Sys2Proof.Machine.execErrClaim k s
  | .errDone k v => Sys2Proof.Machine.execErrDone k v s
  | .errRaiseGo core v => Sys2Proof.Machine.execErrRaiseGo core v s
  | .svReadySet => Sys2Proof.Machine.execSvReadySet s
  | .scrubRead outcomes => Sys2Proof.Machine.execScrubRead outcomes s
  | .ddrTrain => Sys2Proof.Machine.execDdrTrain s
  | .ddrTrainDone ok size step => Sys2Proof.Machine.execDdrTrainDone ok size step s
  | .ospiErase4k => Sys2Proof.Machine.execOspiErase4k s
  | .ospiErase64k => Sys2Proof.Machine.execOspiErase64k s
  | .ospiProgram => Sys2Proof.Machine.execOspiProgram s
  | .ospiOperationDone ok => Sys2Proof.Machine.execOspiOperationDone ok s
  | .recStart mask => Sys2Proof.Machine.execRecStart mask s
  | .recStop mask => Sys2Proof.Machine.execRecStop mask s
  | .recRecordTaken n => Sys2Proof.Machine.execRecRecordTaken n s
  | .updOpen o tag => Sys2Proof.Machine.execUpdOpen o tag s
  | .updBlock o tag => Sys2Proof.Machine.execUpdBlock o tag s
  | .updStatus o tag => Sys2Proof.Machine.execUpdStatus o tag s
  | .updVerify o tag => Sys2Proof.Machine.execUpdVerify o tag s
  | .updActivate o tag => Sys2Proof.Machine.execUpdActivate o tag s
  | .updAbort o tag => Sys2Proof.Machine.execUpdAbort o tag s
  | .imgInfo o tag => Sys2Proof.Machine.execImgInfo o tag s
  | .imgLapsed => Sys2Proof.Machine.execImgLapsed s
  | .bootDecision => Sys2Proof.Machine.execBootDecision s
  | .imageCopyDone ok => Sys2Proof.Machine.execImageCopyDone ok s
  | .confirm => Sys2Proof.Machine.execConfirm s
  | .reject => Sys2Proof.Machine.execReject s
  | .tallyWrite e v => Sys2Proof.Machine.execTallyWrite e v s
  | .tlyKeyProgram slot => Sys2Proof.Machine.execTlyKeyProgram slot s
  | .tlyKeyRevoke slot => Sys2Proof.Machine.execTlyKeyRevoke slot s
  | .tallyProgramDone ok => Sys2Proof.Machine.execTallyProgramDone ok s
  | .temperatureReading raws lost => Sys2Proof.Machine.execTemperatureReading raws lost s
  | .thmTinInvalid n => Sys2Proof.Machine.execThmTinInvalid n s
  | .deratingUpdate => Sys2Proof.Machine.execDeratingUpdate s
  | .clearBroken mask => Sys2Proof.Machine.execClearBroken mask s
  | .restore mask => Sys2Proof.Machine.execRestore mask s
  | .sysXtalLost => Sys2Proof.Machine.execSysXtalLost s
  | .sysPllUnlock pll => Sys2Proof.Machine.execSysPllUnlock pll s
  | .sysFclkFreq count => Sys2Proof.Machine.execSysFclkFreq count s
  | .clockCheckGood check => Sys2Proof.Machine.execClockCheckGood check s
  | .wdtEnable => Sys2Proof.Machine.execWdtEnable s
  | .wdtService v => Sys2Proof.Machine.execWdtService v s
  | .sysWdt => Sys2Proof.Machine.execSysWdt s
  | .sysLockstep core => Sys2Proof.Machine.execSysLockstep core s
  | .sysSvHoldExpired => Sys2Proof.Machine.execSysSvHoldExpired s
  | .supplyRestored x => Sys2Proof.Machine.execSupplyRestored x s
  | .sdSamplingEdge k b => Sys2Proof.Machine.execSdSamplingEdge k b s
  | .auxCompareMatch n => Sys2Proof.Machine.execAuxCompareMatch n s
  | .axisStopped n => Sys2Proof.Machine.execAxisStopped n s
  | .homeInputEdge n active => Sys2Proof.Machine.execHomeInputEdge n active s
  | .limitInputRelease n hi => Sys2Proof.Machine.execLimitInputRelease n hi s
  | .openLoopCommutation k => Sys2Proof.Machine.execOpenLoopCommutation k s
  | .ethLinkUp p => Sys2Proof.Machine.execEthLinkUp p s

end Sys2Proof.Machine
end

