-- ==== Sys2Proof/Machine/Tick.lean ====
section
/-! DEFINITION. Machine/Tick.lean: what a tick of FCLK does of itself (R3, R44): time, wheels, axes, counters and outputs. An empty queue
lets one tick pass (DESIGN CHOICE, log 1). -/

namespace Sys2Proof.Machine

/-- INC of a tick (R44): 32, or 31 or 33 toward the time error, in one tick of any 256 at most. -/
def Tb.inc (t : Tb) : Nat := if t.sinceSlew < 256 ∨ t.slew = 0 then 32 else if 0 < t.slew then 33 else 31

/-- RT64 advances by INC, and the error that is slewed away shrinks (R44). -/
def Tb.advance (t : Tb) : Tb :=
  { t with
    rt := (t.rt + t.inc) % 2 ^ 64
    lastInc := t.inc
    slew := t.slew - ((t.inc : Int) - 32)
    sinceSlew := if t.inc = 32 then min 256 (t.sinceSlew + 1) else 1 }

/-- Time advances by one tick. -/
def Dev.advance (d : Dev) : Dev := { d with tick := d.tick + 1, tb := d.tb.advance }

/-- The counter of a channel counts up to the end of its period (R149). -/
def Dev.pwmCount (d : Dev) (n : Nat) : Dev :=
  let v := d.g (Reg.PWM_CNT_COUNT n) + 1
  if v < (d.pch n).len then d.s (Reg.PWM_CNT_COUNT n) v else d

/-- An auxiliary carrier counts up to the end of its period (R241). -/
def Dev.acarCount (d : Dev) (c : Nat) : Dev :=
  let v := d.g (Reg.ACAR_CNT_COUNT c) + 1
  if d.on (Reg.ACAR_CFG_EN c) && decide (v < d.g (Reg.ACAR_CFG_PER c)) then d.s (Reg.ACAR_CNT_COUNT c) v else d

/-- A wheel in a tick, with the sample of a step axis where that is its source (R50, R54). -/
def Dev.wheelStep (d : Dev) (n : Nat) : Dev :=
  let d := d.wheelTick n
  if d.on (Reg.WHL_CFG_EN n) && d.g (Reg.WHL_CFG_SRC n) == 5 then d.axisSample n else d

/-- The phases of every channel in a tick. -/
def Dev.phasesTick (d : Dev) : Dev := d.each (List.range 6) fun d n => d.each (List.range 3) fun d p => d.phaseTick n p

/-- The general outputs are driven at the levels of GO_OUT (R65). -/
def Dev.goDrive (d : Dev) : Dev := { d with tb := { d.tb with goPins := d.g Reg.GO_OUT_LEVEL } }

/-- The blocks in a tick. -/
def Dev.blocksTick (d : Dev) : Dev :=
  let d := (d.ptpTick 0).ptpTick 1
  let d := ((d.ptpFollow.ethSend 1).ethSend 2).ceAnswer
  let d := d.each (List.range 4) Dev.axTick
  let d := d.each (List.range 16) Dev.wheelStep
  let d := d.each (List.range 16) Dev.hbTick
  let d := d.phasesTick
  let d := d.each (List.range 6) Dev.encTick
  let d := d.each (List.range 6) Dev.pwmCount
  let d := d.each (List.range 4) Dev.acarCount
  d.chopsSync.goDrive

/-- A tick of the device: nothing in reset; without FCLK only the stages that end without it (R40, R172, R490). -/
def Dev.tickOnce (d : Dev) : Dev :=
  if d.sys.run = .inReset then d
  else if d.sys.fclkLost.isSome then { d with tick := d.tick + 1 }.phasesTick
  else d.bellCarry.advance.blocksTick

end Sys2Proof.Machine
end

