-- ==== Sys2Proof/Safety.lean ====
section
/-! DEFINITION. Safety.lean: the terms that statements about the device are made in: what a command does, what it keeps, and the
states that matter to whole-device rules. -/

namespace Sys2Proof.Machine

/-- A command's effect is carried out: `exec` answers a next state with the same waiting commands, and its device satisfies `P`. -/
def Does (s : State) (i : Instr) (P : Dev → Prop) : Prop :=
  ∃ t, exec i s = .next t ∧ t.pending = s.pending ∧ P t.dev

/-- The parts of a device beside its registers. -/
inductive Part where
  | mem | tick | free | raised | errSeq | errs | sys | therm | tb | ce | pwm | aux | mea | dcl | drg | cans | saf | mm | img | tly | hst
  deriving DecidableEq, Repr

/-- A part is the same in two devices. The byte memories are compared by reading each byte. -/
def Part.same (d t : Dev) : Part → Prop
  | .mem => ∀ a, t.byte a = d.byte a
  | .tick => t.tick = d.tick
  | .free => t.free = d.free
  | .raised => t.raised = d.raised
  | .errSeq => t.errSeq = d.errSeq
  | .errs => t.errs = d.errs
  | .sys => t.sys = d.sys
  | .therm => t.therm = d.therm
  | .tb => t.tb = d.tb
  | .ce => t.ce = d.ce
  | .pwm => t.pwm = d.pwm
  | .aux => t.aux = d.aux
  | .mea => t.mea = d.mea
  | .dcl => t.dcl = d.dcl
  | .drg => t.drg = d.drg
  | .cans => t.cans = d.cans
  | .saf => t.saf = d.saf
  | .mm => t.mm = d.mm
  | .img => t.img = d.img
  | .tly => t.tly = d.tly
  | .hst => t.hst = d.hst

/-- Two fields share no bit. -/
def RF.apart (r f : RF) : Prop := r.key ≠ f.key ∨ f.hi < r.lo ∨ r.hi < f.lo

/-- The whole register of a key, as a field. -/
def RF.whole (k : Nat) : RF := ⟨k, 31, 0⟩

/-- What a field holds of a value written to it: its low bits. -/
def RF.cut (f : RF) (v : Nat) : Nat := v % 2 ^ (f.hi - f.lo + 1)

/-- A record of block hardware with a code, as raised in a device's present tick. -/
def Dev.record (d : Dev) (code : Nat) (ctx : List Nat) : ErrRec := ⟨0, d.tb.rt, code, errSev code, 0, 0, ctx⟩

/-- From `d` to `t` nothing changes but the register fields `fs` and the parts `ps`: every field apart from all of `fs` reads as
before, and every other part is the same. -/
def Dev.keeps (d t : Dev) (fs : List RF) (ps : List Part) : Prop :=
  (∀ r : RF, r.lo ≤ r.hi → (∀ f ∈ fs, r.apart f) → t.g r = d.g r) ∧ ∀ p, p ∉ ps → p.same d t

/-- The records of this tick after one more of block hardware, stamped with RT64 and with its code's severity (R440). -/
def Dev.plusRecord (d : Dev) (code : Nat) (ctx : List Nat) : List ErrRec :=
  d.raised ++ [d.record code ctx]

/-- A record of the safety island with a code, as raised in a device's present tick. -/
def Dev.isle (d : Dev) (code : Nat) (ctx : List Nat) : ErrRec := ⟨0, d.tb.rt, code, errSev code, 0, 3, ctx⟩

/-- The records of this tick after one more of the safety island. -/
def Dev.plusIsland (d : Dev) (code : Nat) (ctx : List Nat) : List ErrRec :=
  d.raised ++ [d.isle code ctx]

/-- The records of this tick after one more of the firmware of a core. -/
def Dev.plusFirmware (d : Dev) (core code sev : Nat) (ctx : List Nat) : List ErrRec :=
  d.raised ++ [⟨0, d.tb.rt, code, sev, 0, core + 1, ctx⟩]

/-- An engine after all results in flight have landed: no result takes more than three cycles (R111). -/
def Eng.settled (e : Eng) : Eng := e.landFrom e.cyc 4

/-- An engine may issue an instruction with a predicate that holds, and nothing is in flight. -/
def Ready (s : State) (e p : Nat) : Prop :=
  s.dev.live = true ∧ s.dev.canIssue e = true ∧ (s.dev.eng e).flight = [] ∧
    predTrue (s.dev.eng e).n (s.dev.eng e).z (s.dev.eng e).v p = true

/-- What an issued instruction that is no branch does beside its result (R111, R130, R131): one cycle passes and the program counter moves;
the run, the other engines, the contexts, the program memories and every part outside the array but `ps` stay. -/
def Dev.issued (d t : Dev) (e : Nat) (ps : List Part) : Prop :=
  (t.eng e).pc = (d.eng e).nextPc.pc ∧ (t.eng e).slots = (d.eng e).nextPc.slots ∧ (t.eng e).loops = (d.eng e).nextPc.loops ∧
    (t.eng e).rets = (d.eng e).rets ∧ (t.eng e).cyc = (d.eng e).cyc + 1 ∧ (t.eng e).run = (d.eng e).run ∧
    (∀ k, k ≠ e → t.eng k = d.eng k) ∧ (∀ k, t.ctx k = d.ctx k) ∧ t.ce.pm = d.ce.pm ∧ d.keeps t [] (.ce :: ps)

/-- The registers of an engine that an instruction leaves: G but `gs`, A but `as`, X but `xs`, M but `ms`, and the OUT ports. -/
def Eng.keepsRegs (g u : Eng) (gs as xs ms : List Nat) : Prop :=
  (∀ k, k ∉ gs → u.g.getD k 0 = g.g.getD k 0) ∧ (∀ k, k ∉ as → u.a.getD k 0 = g.a.getD k 0) ∧
    (∀ k, k ∉ xs → u.x.getD k 0 = g.x.getD k 0) ∧ (∀ k, k ∉ ms → u.m.getD k 0 = g.m.getD k 0)

/-- The flags of an engine: N, Z, V, and the sticky bits SAT, OVF, DZ as bits 0, 1, 2. -/
def Eng.flags (u : Eng) : Bool × Bool × Bool × Nat := (u.n, u.z, u.v, u.sticky % 8)

/-- The device is held in reset with PORST_N low (R40, R491). -/
def State.held (s : State) : Prop :=
  s.dev.sys.run = .inReset ∧ s.dev.sys.porstLow = true

end Sys2Proof.Machine
end

