-- ==== Sys2Proof/Certificates/Slice0/Obligations.lean ====
section
/-! DEFINITION. Certificates/Slice0/Obligations.lean: the statements about the device, from the rules of the spec. A statement over several
commands is a conjunction with one clause per command or case; "keeps" says what stays as it is. -/

open Sys2Proof Sys2Proof.Machine
/-! ## The queue, time and reset -/

/-- A step takes the command at the front of the queue and carries it out on the state whose queue is the rest. -/
def Obligations.StepRunsFrontCommand : Prop :=
  ∀ (c : Instr) (rest : List Instr) (d : Dev), step ⟨d, c :: rest⟩ = exec c ⟨d, rest⟩

/-- With no command waiting a step lets one tick pass (the model's choice, log 1). In reset nothing changes; without FCLK the time base
stands; else RT64 advances by 32, or by 31 or 33 toward the time error (R44). -/
def Obligations.EmptyQueueTicks : Prop :=
  ∀ s : State, s.pending = [] → ∃ t, step s = .next t ∧ t.pending = [] ∧
    (s.dev.sys.run = .inReset → t = s) ∧
    (s.dev.sys.run ≠ .inReset → t.dev.tick = s.dev.tick + 1) ∧
    (s.dev.sys.run ≠ .inReset → s.dev.sys.fclkLost.isSome = true → t.dev.tb = s.dev.tb) ∧
    (s.dev.live = true → t.dev.tb.rt = (s.dev.tb.rt + s.dev.tb.inc) % 2 ^ 64 ∧
      (s.dev.tb.inc = 32 ∨ (s.dev.tb.inc = 33 ∧ 0 < s.dev.tb.slew) ∨ (s.dev.tb.inc = 31 ∧ s.dev.tb.slew < 0)))

/-- The reset values that the spec's register tables give, where they are not 0: the words of one instance of each such register. -/
def resetWords : List (Nat × Nat) :=
  [(Reg.IRQ_CLAIM_C0, 0xFFF), (Reg.IRQ_CLAIM_C1, 0xFFF), (Reg.SCHED_CFG, 0x10), (Reg.LG_CTL 2, 0x1000), (Reg.WHL_LIM 15, 0x10003E8),
   (Reg.CE_CFG, 0x39A0A1B), (Reg.CTX_W1 255, 0x30), (Reg.PWM_CH_CTL 5, 0x100), (Reg.PWM_CH_STAT 0, 0x10000),
   (Reg.PWM_PER_SH 1, 0x100), (Reg.PWM_PER_ACT 1, 0x100), (Reg.TRP_GRP_REARM 7, 0x64)] ++
  [(Reg.SD_CLK 0, 0xA), (Reg.ADC_CTL, 0xA0000), (Reg.SD_CFG 47, 0x801004), (Reg.SD_THR 47, 0x7FFF8000), (Reg.SAR_CFG 39, 0x12C0000),
   (Reg.SAR_LIM 39, 0x3FFF), (Reg.RSV_CFG 2, 0x648000), (Reg.RSV_LIM 2, 0x4000F000), (Reg.SSI_CFG 3, 0x180012), (Reg.SSI_TIM 3, 0x32007D),
   (Reg.SSI_TRG 3, 0x3014), (Reg.PLS_CFG 3, 0xA00), (Reg.PLS_FS 3, 0x2710)] ++
  [(Reg.ACAR_CFG 3, 0x100), (Reg.HB_DT 15, 0xFA0032), (Reg.HB_LEAK 15, 0xA0000), (Reg.HB_LKWIN 15, 0xFF00FF00), (Reg.CMU_CFG 1, 0x5014),
   (Reg.CMU_START 1, 0x40140A40), (Reg.CMU_SPD 1, 0x7D04E20), (Reg.CMU_ZC 1, 0xC640300), (Reg.CMU_CATCH 1, 0x27100A40),
   (Reg.CMU_ILIM 1, 0x80), (Reg.CMU_MP 1, 0x40041000), (Reg.STP_OUT 3, 0x7D00FA), (Reg.STP_DRV 3, 0xF30A0000),
   (Reg.STP_ADAPT 3, 0x4320000), (Reg.STP_LOAD 3, 0x8C06020), (Reg.STP_HOME 3, 0x143200)] ++
  [(Reg.DL_TIM 3, 0x402320A), (Reg.PB_CFG, 0x40000A10), (Reg.DCL_CH_BRK 5, 0xC80001), (Reg.DCL_CH_STAT 5, 0x7FFFFF), (Reg.DRG_CYC, 0x1F4186A),
   (Reg.DRG_DLY, 0x2830), (Reg.SAF_CH 5, 0x10800000), (Reg.CAN_CTL 3, 1), (Reg.CAN_NBT 3, 0x1E013E0F), (Reg.CAN_DBT 3, 0x10D44),
   (Reg.CAN_TDC 3, 0x1E0000), (Reg.CAN_LIM 3, 0x410), (Reg.CAN_IE 3, 0xE0000000), (Reg.PORT_SUB 2, 0x401FFFFF)] ++
  [(Reg.ASSIST_CFG 0, 0x7D0), (Reg.ASSIST_CFG 2, 0x80002710), (Reg.ASSIST_CFG 9, 0x64), (Reg.MEM_SCRUB, 0x100), (Reg.REC_MINT 31, 0xA),
   (Reg.SYS_WDT_CFG, 0x64), (Reg.SYS_SVH, 0xFA), (Reg.THM_CFG, 8), (Reg.TIN_NTC 7, 0xD6B03E8), (Reg.THM_CH_TCFG 5, 0x4000),
   (Reg.THM_CH_DER 5, 0x80008000)] ++
  [(Reg.GO_OUT, 0), (Reg.LG_MAP, 0), (Reg.CTX_W0 1, 0), (Reg.CE_CMD_RESULT, 0), (Reg.TRP_STAT, 0), (Reg.DL_STAT 0, 0), (Reg.ERR_ROUTE, 0),
   (Reg.HST_CTL, 0), (Reg.DDR_CTL, 0), (Reg.SYS_RST_CAUSE, 1)]

/-- After reset the registers read what the spec's register tables give, RT64 is 0, and no command waits, no record is raised and every
memory is empty (the last two are the model's starting point, log 4). -/
def Obligations.ResetValues : Prop :=
  (∀ x ∈ resetWords, State.reset.dev.word x.1 = x.2) ∧ State.reset.dev.tb.rt = 0 ∧ State.reset.pending = [] ∧
  State.reset.dev.raised = [] ∧ State.reset.dev.mem = []

/-! ## Interrupts, the bus, links, supplies and resets -/

/-- R36. Among offered sources of equal priority the lower number is claimed first; a claimed source is not offered again, to either core,
until the core that claimed it writes its number to IRQ_DONE; it is then offered again where it is still asserted; a number that is
not claimed by that core is ignored. -/
def Obligations.InterruptClaims : Prop :=
  (∀ (d : Dev) (core b : Nat), d.irqBest core = some b → d.irqOffered core b = true ∧ b < 216 ∧
    ∀ x < 216, d.irqOffered core x = true → d.g (Reg.IRQ_CFG_PRIO x) ≤ d.g (Reg.IRQ_CFG_PRIO b) ∧
      (d.g (Reg.IRQ_CFG_PRIO x) = d.g (Reg.IRQ_CFG_PRIO b) → b ≤ x)) ∧
  (∀ s : State, s.dev.live = true → ∀ core < 2, ∀ b, s.dev.irqBest core = some b →
    Does s (.irqClaim core) (fun t => t.g (irqClaimReg core) = b ∧ t.sys.claimed = s.dev.sys.claimed ++ [(b, core)] ∧
      (∀ k, t.irqOffered k b = false) ∧ s.dev.keeps t [irqClaimReg core] [.sys] ∧
      { t.sys with claimed := s.dev.sys.claimed } = s.dev.sys)) ∧
  (∀ s : State, s.dev.live = true → ∀ core < 2, s.dev.irqBest core = none →
    Does s (.irqClaim core) (fun t => t.g (irqClaimReg core) = 0xFFF ∧ s.dev.keeps t [irqClaimReg core] [])) ∧
  (∀ s : State, s.dev.live = true → ∀ core < 2, ∀ n < 4096,
    Does s (.irqDone core n) (fun t =>
      (∀ c, c ∈ t.sys.claimed ↔ c ∈ s.dev.sys.claimed ∧ c ≠ (n, core)) ∧ s.dev.keeps t [] [.sys] ∧
      { t.sys with claimed := s.dev.sys.claimed } = s.dev.sys ∧
      ((n, core) ∉ s.dev.sys.claimed → t = s.dev) ∧
      ((∀ c ∈ s.dev.sys.claimed, c.1 = n → c.2 = core) → ∀ k, t.irqOffered k n =
        (t.on (Reg.IRQ_CFG_EN n) && t.on (Reg.IRQ_CFG_PRIO n) && (t.g (Reg.IRQ_CFG_TARGET n) == 2 || t.g (Reg.IRQ_CFG_TARGET n) == k) &&
          t.irqLevel n))))

/-- R6 and R34. A narrow or unaligned access to the register space changes no register and no byte, and raises SYS_BUS_ERR with the
address and the requesting master; so does a write to an address outside every region or in a read-only region. That the master is shown
as the core's number is the model's choice (log 55). -/
def Obligations.BusErrors : Prop :=
  ∀ s : State, s.dev.live = true → ∀ core < 2, ∀ size ∈ [1, 2, 4], ∀ a v,
    ((busRegion a = some .reg ∧ (size ≠ 4 ∨ a % 4 ≠ 0)) ∨ busRegion a ∈ [none, some .rom, some .saf, some .flash]) →
    Does s (.registerWrite core a size v) (fun t => t.raised = s.dev.plusRecord Err.SYS_BUS_ERR [a, core] ∧ s.dev.keeps t [] [.raised])

/-- A supervisor write that completes: to SRAM it stores its bytes, the lowest first, and no other byte; to the preset
of a wheel and to a staged Bell word it stores the word, the latter for the core that writes it (R4, R7, R30). -/
def busWrites : Prop :=
  ∀ s : State, s.dev.live = true → ∀ core < 2, ∀ v,
    (∀ size ∈ [1, 2, 4], ∀ a, busRegion a = some .sram →
      Does s (.registerWrite core a size v) (fun t =>
        (∀ i < size, t.byte (a + i) = v / 256 ^ i % 256) ∧ (∀ k, (k < a ∨ a + size ≤ k) → t.byte k = s.dev.byte k) ∧
        s.dev.keeps t [] [.mem, .mm] ∧ { t.mm with badWords := s.dev.mm.badWords } = s.dev.mm)) ∧
    (∀ n < 16, Does s (.registerWrite core (Reg.WHL_SET_LO n) 4 v) (fun t =>
      t.word (Reg.WHL_SET_LO n) = v % 2 ^ 32 ∧ s.dev.keeps t [RF.whole (Reg.WHL_SET_LO n)] [])) ∧
    (∀ i < 5, Does s (.registerWrite core (0x30020040 + 4 * i) 4 v) (fun t =>
      t.word (Reg.BELL_W core i) = v % 2 ^ 32 ∧ s.dev.keeps t [RF.whole (Reg.BELL_W core i)] []))

/-- The die link and the safety links: a bad frame on the die link counts and raises SYS_D2D_CRC (R16), a good one ends the run of bad
ones; from the fourth bad frame in a row the link is lost, which latches LINK and stops AUX, CMU and STP (R17). A bad frame on a safety
link counts and keeps the read-backs; a good one ends the run of bad ones and brings the core its read-backs while V24_SI is present;
from the fifth bad one in a row the link is lost and the island enters FAULT with cause 3 or 4 (R18, R361). The loss of V24_SI makes
every read-back 0 (R21). -/
def Obligations.LinkEvents : Prop :=
  (∀ s : State, s.dev.live = true →
    Does s (.d2dFrameReceived false) (fun t => t.sys.d2dBad = s.dev.sys.d2dBad + 1 ∧ t.sys.d2dErrs = s.dev.sys.d2dErrs + 1 ∧
      t.raised = s.dev.plusRecord Err.SYS_D2D_CRC [s.dev.sys.d2dErrs + 1] ∧ s.dev.keeps t [] [.sys, .raised]) ∧
    Does s (.d2dFrameReceived true) (fun t => t.sys.d2dBad = 0 ∧ t.sys.d2dErrs = s.dev.sys.d2dErrs ∧ t.sys.d2dLost = false ∧
      s.dev.keeps t [] [.sys]) ∧
    ∀ dir, 4 ≤ s.dev.sys.d2dBad → s.dev.sys.d2dLost = false → Does s (.sysD2dLost dir) (fun t => t.sys.d2dLost = true ∧
      (∃ l, t.raised = l ++ [s.dev.record Err.SYS_D2D_LOST [dir]]) ∧ t.on Reg.AUX_STAT_LINK = true ∧
      ∀ a, t.byte a = s.dev.byte a)) ∧
  (∀ s : State, s.dev.sys.run ≠ .inReset → ∀ k < 2, s.dev.saf.linkBad.length = 2 → s.dev.saf.linkErr.length = 2 → ∀ si rb,
    Does s (.safetyLinkFrame k si rb false) (fun t => t.saf.linkBad.getD k 0 = s.dev.saf.linkBad.getD k 0 + 1 ∧
      t.saf.linkErr.getD k 0 = satInc 65535 (s.dev.saf.linkErr.getD k 0) ∧ t.saf.rb = s.dev.saf.rb ∧ s.dev.keeps t [] [.saf]) ∧
    Does s (.safetyLinkFrame k si rb true) (fun t => t.saf.linkBad.getD k 0 = 0 ∧ t.saf.linkErr = s.dev.saf.linkErr ∧
      bits t.saf.rb (6 * k + 5) (6 * k) = (if s.dev.saf.v24 then rb % 64 &&& s.dev.sys.pinMap / 2 ^ 16 else 0) ∧
      ∀ a, t.byte a = s.dev.byte a) ∧
    (5 ≤ s.dev.saf.linkBad.getD k 0 → s.dev.saf.st ≠ 3 → Does s (.safetyLinkLost k) (fun t => t.saf.st = 3 ∧ t.saf.fcause = 3 + k ∧
      (⟨0, s.dev.tb.rt, Err.SAF_LINK_LOST, errSev Err.SAF_LINK_LOST, 0, 3, [Config.recordNumber Err.SAF_LINK_LOST k]⟩ : ErrRec) ∈ t.raised ∧ ∀ a, t.byte a = s.dev.byte a))) ∧
  (∀ s : State, s.dev.sys.run ≠ .inReset → s.dev.saf.v24 = true → Does s .v24SiLoss (fun t => t.saf.v24 = false ∧ t.saf.rb = 0 ∧
    t.raised = s.dev.plusIsland Err.SAF_V24_LOST [] ∧ s.dev.keeps t [] [.saf, .raised]))

/-- The device and warm resets, from every state: PORST_N low, the loss of a device supply and a warm-reset request put the device at its
reset state but for the parts that the spec keeps; SYS_RST_CAUSE then shows PORST or SUPPLY alone, and a warm reset adds its bit to the
causes (R20, R22, R491, R492). The byte memories and the tally's entries stay (R473; of memory it is the model's choice, log 53). RESET_RELEASE
starts the device and samples BOOT_MODE. -/
def Obligations.DeviceResets : Prop :=
  (∀ s : State, Does s .porstNAsserted (fun t => t.sys.run = .inReset ∧ t.sys.porstLow = true ∧ t.word Reg.SYS_RST_CAUSE = 1 ∧
    t.on Reg.THM_STAT_LATCH = s.dev.on Reg.THM_STAT_LATCH ∧
    (∀ k, k ≠ Reg.SYS_RST_CAUSE → k ≠ Reg.THM_STAT → t.word k = State.reset.dev.word k) ∧
    (∀ a, t.byte a = s.dev.byte a) ∧ t.tly.entries = s.dev.tly.entries ∧ t.tly.log = s.dev.tly.log ∧
    t.tb = State.reset.dev.tb ∧ t.ce = State.reset.dev.ce ∧ t.mea = State.reset.dev.mea ∧ t.dcl = State.reset.dev.dcl ∧
    t.aux = State.reset.dev.aux ∧ t.drg = State.reset.dev.drg ∧ t.errs = State.reset.dev.errs ∧ t.raised = [])) ∧
  (∀ s : State, s.dev.sys.run ≠ .inReset → ∀ x : Supply, Supply.device x = true → x ∉ s.dev.sys.suppliesLost → Does s (.supplyLoss x) (fun t =>
    t.sys.run = .inReset ∧ t.word Reg.SYS_RST_CAUSE = 2 ∧ x ∈ t.sys.suppliesLost ∧
    (t.on Reg.THM_STAT_LATCH = true ↔ x ≠ .vddCore ∧ s.dev.on Reg.THM_STAT_LATCH = true) ∧
    (∀ k, k ≠ Reg.SYS_RST_CAUSE → k ≠ Reg.THM_STAT → t.word k = State.reset.dev.word k) ∧ ∀ a, t.byte a = s.dev.byte a)) ∧
  (∀ s : State, Does s .rstNAsserted (fun t => t.sys.run = .inReset ∧ t.sys.rstLow = true ∧
    t.word Reg.SYS_RST_CAUSE = s.dev.word Reg.SYS_RST_CAUSE ||| 4 ∧ t.on Reg.THM_STAT_LATCH = s.dev.on Reg.THM_STAT_LATCH ∧
    (∀ k, k ≠ Reg.SYS_RST_CAUSE → k ≠ Reg.THM_STAT → t.word k = State.reset.dev.word k) ∧ ∀ a, t.byte a = s.dev.byte a)) ∧
  (∀ s : State, s.dev.sys.run = .inReset → s.dev.sys.porstLow = true → s.dev.sys.rstLow = false →
    s.dev.sys.suppliesLost.any Supply.device = false → ∀ m, Does s (.resetRelease true m) (fun t => t.sys.run = .absent ∧
      t.sys.porstLow = false ∧ t.sys.bootMode = m % 4 ∧ s.dev.keeps t [] [.sys, .raised] ∧
      t.raised = if s.dev.on Reg.THM_STAT_LATCH then s.dev.plusRecord Err.THM_LATCH s.dev.therm.latchCtx else s.dev.raised)) ∧
  (∀ s : State, s.dev.live = true → s.dev.sys.porstLow = false → s.dev.sys.rstLow = false →
    s.dev.sys.suppliesLost.any Supply.device = false → Does s (.warmResetRequest 0xA5) (fun t => t.sys.run = .absent ∧
      t.word Reg.SYS_RST_CAUSE = s.dev.word Reg.SYS_RST_CAUSE ||| 8 ∧
      (∀ k, k ≠ Reg.SYS_RST_CAUSE → k ≠ Reg.THM_STAT → t.word k = State.reset.dev.word k) ∧ ∀ a, t.byte a = s.dev.byte a)) ∧
  (∀ s : State, s.dev.sys.suppliesLost = [.vddSrd] → s.dev.sys.run ≠ .inReset → Does s (.supplyRestored .vddSrd) (fun t =>
    t.sys.suppliesLost = [] ∧ s.dev.keeps t [] [.sys] ∧ { t.sys with suppliesLost := s.dev.sys.suppliesLost } = s.dev.sys))

/-- The resets of a domain that SYS_RST_REQ asks for with the key (R19, R24, R27, R445, R492, R494): the supervisor's clears SV_READY, adds
bit 7 to the causes and touches no engine, no pulse generation and no island decision; the ring's closes the bypass and puts the ring
block at reset; a host port's drops its queues and counts; the island's restarts the island where every channel is safe and every GDEN
low, and is refused else. A write with any other key is ignored. -/
def Obligations.DomainResets : Prop :=
  ∀ s : State, s.dev.live = true →
    Does s (.supervisorResetRequest 0xA5) (fun t => t.on Reg.HST_CTL_SV_READY = false ∧
      t.word Reg.SYS_RST_CAUSE = s.dev.word Reg.SYS_RST_CAUSE ||| 128 ∧ t.sys.absentFrom.isSome = true ∧
      (∀ p < 3, (t.hport p).inq = []) ∧ t.ce = s.dev.ce ∧ t.pwm = s.dev.pwm ∧ t.tb = s.dev.tb ∧ t.aux = s.dev.aux ∧
      t.dcl = s.dev.dcl ∧ t.mea = s.dev.mea ∧ t.saf.cores = s.dev.saf.cores ∧ t.saf.gd = s.dev.saf.gd ∧ t.saf.words = [] ∧
      ∀ a, t.byte a = s.dev.byte a) ∧
    Does s (.ringResetRequest 0xA5) (fun t => t.drg = {} ∧ (∀ k, 0x300E0000 ≤ k → k < 0x300F0000 → t.word k = State.reset.dev.word k) ∧
      s.dev.keeps { t with regs := s.dev.regs } [] [.drg] ∧
      (∀ k, k < 0x300E0000 ∨ 0x300F0000 ≤ k → k ≠ Reg.RT_STAT → t.word k = s.dev.word k) ∧ t.g Reg.RT_STAT_STATE = 0) ∧
    (∀ p < 3, Does s (.hostPortResetRequest p) (fun t => (t.hport p).inq = [] ∧ (t.hport p).outq = [] ∧ (t.hport p).pend = [] ∧
      t.g (Reg.PORT_STAT_RST_CNT p) = satInc 255 (s.dev.g (Reg.PORT_STAT_RST_CNT p)) ∧ (∀ q, q ≠ p → t.hport q = s.dev.hport q) ∧
      t.img.session = s.dev.img.session ∧ s.dev.keeps t [Reg.PORT_STAT_RST_CNT p] [.hst])) ∧
    (s.dev.islandMayReset = false → Does s (.islandResetRequest 0xA5) (fun t => t.raised = s.dev.plusRecord Err.SYS_RST_REFUSED [0x14] ∧
      s.dev.keeps t [] [.raised])) ∧
    (s.dev.islandMayReset = true → Does s (.islandResetRequest 0xA5) (fun t => t.saf.st = 0 ∧ t.saf.cfg = [] ∧
      (∀ k, 0x30200000 ≤ k → k < 0x30210000 → t.word k = State.reset.dev.word k) ∧ t.ce = s.dev.ce ∧ t.tb = s.dev.tb ∧
      ∀ a, t.byte a = s.dev.byte a)) ∧
    ∀ key, key ≠ 0xA5 → ∀ c ∈ ([.warmResetRequest key, .supervisorResetRequest key, .ringResetRequest key, .islandResetRequest key] : List Instr),
      exec c s = .next s

/-! ## Ring time, outputs and lock groups -/

/-- Reads and settings of ring time: RT_LO and its snapshot of RT_HI (R33); the PTP source, whose selection on the master captures
RT64 − 8 × PTP ns (R48) and whose value 3 is ignored; LOCKED after 16 cycles in a row within 1 ns and HOLDOVER after 4 cycles without a
Crier (R46). -/
def Obligations.RingTime : Prop :=
  ∀ s : State, s.dev.live = true →
    Does s .rtLoRead (fun t => t.word Reg.RT_LO = s.dev.tb.rt % 2 ^ 32 ∧ t.word Reg.RT_HI = s.dev.tb.rt / 2 ^ 32 % 2 ^ 32 ∧
      s.dev.keeps t [RF.whole Reg.RT_LO, RF.whole Reg.RT_HI] []) ∧
    (∀ v, v % 4 = 3 → exec (.ptpSrcWrite v) s = .next s) ∧
    (∀ v, v % 4 < 3 → s.dev.on Reg.RT_STAT_MASTER = false → Does s (.ptpSrcWrite v) (fun t => t.g Reg.RT_CFG_PTP_SRC = v % 4 ∧
      s.dev.keeps t [Reg.RT_CFG_PTP_SRC] [])) ∧
    (∀ v, v % 4 = 0 → s.dev.on Reg.RT_STAT_MASTER = true → Does s (.ptpSrcWrite v) (fun t => t.g Reg.RT_CFG_PTP_SRC = 0 ∧
      t.tb.ptpOn = false ∧ t.tb.slew = 0 ∧ t.tb.rt = s.dev.tb.rt ∧ s.dev.keeps t [Reg.RT_CFG_PTP_SRC] [.tb])) ∧
    (∀ v, v % 4 = 1 ∨ v % 4 = 2 → s.dev.on Reg.RT_STAT_MASTER = true → Does s (.ptpSrcWrite v) (fun t => t.g Reg.RT_CFG_PTP_SRC = v % 4 ∧
      t.word Reg.RT_PTP_OFS_HI * 2 ^ 32 + t.word Reg.RT_PTP_OFS_LO =
        ofInt 64 ((s.dev.tb.rt : Int) - 8 * (s.dev.ptpNs (v % 4 - 1) : Int)) ∧ t.tb.ptpOn = true ∧ t.tb.rt = s.dev.tb.rt ∧
      s.dev.keeps t [Reg.RT_CFG_PTP_SRC, RF.whole Reg.RT_PTP_OFS_LO, RF.whole Reg.RT_PTP_OFS_HI] [.tb])) ∧
    (s.dev.g Reg.RT_STAT_STATE = 1 → 16 ≤ s.dev.tb.goodCyc → Does s .rtLockedEntry (fun t => t.g Reg.RT_STAT_STATE = 2 ∧
      s.dev.keeps t [Reg.RT_STAT_STATE] [])) ∧
    (s.dev.g Reg.RT_STAT_STATE = 1 ∨ s.dev.g Reg.RT_STAT_STATE = 2 → 4 ≤ s.dev.tb.missCyc → Does s .tbRtHoldover (fun t =>
      t.g Reg.RT_STAT_STATE = 3 ∧ t.tb = { s.dev.tb with goodCyc := 0 } ∧
      t.raised = s.dev.plusRecord Err.TB_RT_HOLDOVER [s.dev.tb.missCyc] ∧ s.dev.keeps t [Reg.RT_STAT_STATE] [.tb, .raised]))

/-- R72. A write of LG_MAP takes effect only while every channel whose membership it changes is safe; else it is refused whole with
TB_RWL_REFUSED, naming LG_MAP's offset. A membership code above 3 is reserved and leaves the field. -/
def Obligations.LockGroupMap : Prop :=
  ∀ s : State, s.dev.live = true → ∀ v : Nat, ∀ new : Nat → Nat,
    (∀ c < 6, new c = if v / 2 ^ (3 * c) % 8 < 4 then v / 2 ^ (3 * c) % 8 else s.dev.g (Reg.LG_MAP_GRP c)) →
    ((∀ c < 6, new c ≠ s.dev.g (Reg.LG_MAP_GRP c) → s.dev.on (Reg.PWM_CH_STAT_SAFE c) = true) →
      Does s (.lgMapWrite v) (fun t => (∀ c < 6, t.g (Reg.LG_MAP_GRP c) = new c) ∧ s.dev.keeps t [RF.whole Reg.LG_MAP] [])) ∧
    ((∃ c < 6, new c ≠ s.dev.g (Reg.LG_MAP_GRP c) ∧ s.dev.on (Reg.PWM_CH_STAT_SAFE c) = false) →
      Does s (.lgMapWrite v) (fun t => t.raised = s.dev.plusRecord Err.TB_RWL_REFUSED [0x80] ∧ s.dev.keeps t [] [.raised]))

/-- The general outputs (R65): a bit named in SET goes high, in CLR low, in both low; an output that a Bell drove in this tick keeps the
Bell's level (R12). -/
def generalOutputs : Prop :=
  ∀ s : State, s.dev.live = true → ∀ v, Does s (.goCtlWrite v) (fun t =>
    (∀ i < 16, (t.g Reg.GO_OUT_LEVEL).testBit i =
      if s.dev.tb.goBell.testBit i then (s.dev.g Reg.GO_OUT_LEVEL).testBit i
      else if v.testBit (16 + i) then false else v.testBit i || (s.dev.g Reg.GO_OUT_LEVEL).testBit i) ∧
    s.dev.keeps t [Reg.GO_OUT_LEVEL] [])

/-! ## Wheels -/

/-- A wheel's start, preset, speed setting and position read (R50, R55, R58, R523). The write that sets EN stores the source fields and
clears the wheel's history; a ring-time wheel (source 7) stands at WHL_SET with the speed WHL_SPD_SET; a preset and a speed act in the
next tick; a read of POS_LO snapshots the position and the speed. -/
def wheelSettings : Prop :=
  ∀ s : State, s.dev.live = true → ∀ n < 16,
    (∀ v, s.dev.on (Reg.WHL_CFG_EN n) = false → v.testBit 0 = true → bits v 7 4 ≠ 5 → bits v 7 4 ≤ 7 → Does s (.wheelStart n v) (fun t =>
      t.on (Reg.WHL_CFG_EN n) = true ∧ t.g (Reg.WHL_CFG_SRC n) = bits v 7 4 ∧ t.g (Reg.WHL_CFG_SEL n) = bits v 15 8 ∧
      t.on (Reg.WHL_STAT_STALE n) = false ∧ (t.wheel n).samples = [] ∧ (t.wheel n).ofs = 0 ∧ (t.wheel n).lastUpd = s.dev.tick ∧
      (bits v 7 4 = 7 → (t.wheel n).pos = s.dev.whlSet n ∧ (t.wheel n).spd = s.dev.whlSpdSet n) ∧
      (∀ j, j ≠ n → t.wheel j = s.dev.wheel j) ∧
      s.dev.keeps t [RF.whole (Reg.WHL_CFG n), Reg.WHL_STAT_STALE n] [.tb] ∧ { t.tb with wheels := s.dev.tb.wheels } = s.dev.tb)) ∧
    (∀ v, v % 2 = 1 → Does s (.wheelPreset n v) (fun t => t.wheel n = { s.dev.wheel n with presetDue := true } ∧
      (∀ j, j ≠ n → t.wheel j = s.dev.wheel j) ∧ s.dev.keeps t [] [.tb] ∧ { t.tb with wheels := s.dev.tb.wheels } = s.dev.tb)) ∧
    (∀ v, Does s (.wheelSpeedSet n false v) (fun t => t.word (Reg.WHL_SPD_SET_LO n) = v % 2 ^ 32 ∧
      (t.wheel n).spdDue = some (toInt 48 (s.dev.word (Reg.WHL_SPD_SET_HI n) % 65536 * 2 ^ 32 + v % 2 ^ 32)) ∧
      (∀ j, j ≠ n → t.wheel j = s.dev.wheel j) ∧ s.dev.keeps t [RF.whole (Reg.WHL_SPD_SET_LO n)] [.tb])) ∧
    (∀ v, Does s (.wheelSpeedSet n true v) (fun t => t.word (Reg.WHL_SPD_SET_HI n) = v % 65536 ∧
      (t.wheel n).spdDue = some (toInt 48 (v % 65536 * 2 ^ 32 + s.dev.word (Reg.WHL_SPD_SET_LO n))) ∧
      (∀ j, j ≠ n → t.wheel j = s.dev.wheel j) ∧ s.dev.keeps t [RF.whole (Reg.WHL_SPD_SET_HI n)] [.tb])) ∧
    Does s (.wheelPosRead n) (fun t =>
      t.word (Reg.WHL_POS_HI n) * 2 ^ 32 + t.word (Reg.WHL_POS_LO n) = ofInt 64 ((s.dev.wheel n).pos / 256) ∧
      t.word (Reg.WHL_SPD_HI n) * 2 ^ 32 + t.word (Reg.WHL_SPD_LO n) = ofInt 64 (s.dev.wheel n).spd ∧
      s.dev.keeps t [RF.whole (Reg.WHL_POS_LO n), RF.whole (Reg.WHL_POS_HI n), RF.whole (Reg.WHL_SPD_LO n), RF.whole (Reg.WHL_SPD_HI n)] [])

/-- A source's sample at a running wheel (R52, R56): the wheel is updated and no longer stale, its update count advances, and nothing but
that wheel, JUMP and a record may change; an encoder without a new edge places the wheel at its scaled count plus the preset offset
(R206). A wheel that no update has reached for longer than its limit goes stale, with a record (R56). -/
def wheelUpdates : Prop :=
  ∀ s : State, s.dev.live = true → ∀ n < 16, s.dev.on (Reg.WHL_CFG_EN n) = true →
    (((s.dev.g (Reg.WHL_CFG_SRC n) = 1 ∧ s.dev.g (Reg.WHL_CFG_SEL n) < 6) ∨
      (s.dev.g (Reg.WHL_CFG_SRC n) = 2 ∧ s.dev.g (Reg.WHL_CFG_SEL n) < 3 ∧ s.dev.on (Reg.RSV_ANG_INVALID (s.dev.g (Reg.WHL_CFG_SEL n))) = false) ∨
      (s.dev.g (Reg.WHL_CFG_SRC n) = 3 ∧ s.dev.g (Reg.WHL_CFG_SEL n) < 4 ∧ (s.dev.ssi (s.dev.g (Reg.WHL_CFG_SEL n))).last = false ∧
        (s.dev.ssi (s.dev.g (Reg.WHL_CFG_SEL n))).ended.isSome = true) ∨ s.dev.g (Reg.WHL_CFG_SRC n) = 5) →
      Does s (.wheelSourceUpdate n) (fun t => (t.wheel n).lastUpd = s.dev.tick ∧ (t.wheel n).placed = true ∧
        t.on (Reg.WHL_STAT_STALE n) = false ∧ t.g (Reg.WHL_UPD_CNT_COUNT n) = (s.dev.g (Reg.WHL_UPD_CNT_COUNT n) + 1) % 2 ^ 32 ∧
        (∀ j, j ≠ n → t.wheel j = s.dev.wheel j) ∧
        s.dev.keeps t [Reg.WHL_STAT_STALE n, Reg.WHL_UPD_CNT_COUNT n, Reg.WHL_STAT_JUMP n] [.tb, .free, .raised, .mea])) ∧
    (s.dev.g (Reg.WHL_CFG_SRC n) = 1 → s.dev.g (Reg.WHL_CFG_SEL n) < 6 → (s.dev.enc (s.dev.g (Reg.WHL_CFG_SEL n))).fresh = false →
      Does s (.wheelSourceUpdate n) (fun t => (t.wheel n).pos = wrap72 ((s.dev.enc (s.dev.g (Reg.WHL_CFG_SEL n))).cnt *
        (s.dev.word (Reg.ENC_SCALE (s.dev.g (Reg.WHL_CFG_SEL n))) : Int) * 256 + (s.dev.wheel n).ofs))) ∧
    (goesStale (s.dev.g (Reg.WHL_CFG_SRC n)) = true → s.dev.on (Reg.WHL_STAT_STALE n) = false →
      s.dev.g (Reg.WHL_LIM_STALE n) < s.dev.whlAge n → Does s (.tbWheelStale n) (fun t => t.on (Reg.WHL_STAT_STALE n) = true ∧
        s.dev.record Err.TB_WHEEL_STALE [n, s.dev.whlAge n] ∈ t.raised ∧
        t.tb = s.dev.tb ∧ ∀ a, t.byte a = s.dev.byte a))

/-- The wheels: their settings and their updates. -/
def Obligations.Wheels : Prop := wheelSettings ∧ wheelUpdates

/-! ## Bells -/

/-- Posting and cancelling (R66 to R68): a request sets BUSY and waits for its decision, and is ignored while BUSY is 1. A refused post
leaves the scheduler as it was, with its code and the occupancy in BELL_RESULT and a record. An accepted local post takes the
lowest-numbered free entry, answers 0 and gives its handle, whose generation counts the uses of the entry. A cancel frees the Bell of the
handle, or is refused with TB_BELL_GONE. -/
def bellPosts : Prop :=
  ∀ s : State, s.dev.live = true → ∀ core < 2,
    (s.dev.on (Reg.BELL_RESULT_BUSY core) = false →
      Does s (.bellPost core 1) (fun t => t.on (Reg.BELL_RESULT_BUSY core) = true ∧
        t.tb = { s.dev.tb with reqs := s.dev.tb.reqs ++ [⟨core, none, (List.range 5).map (fun i => s.dev.word (Reg.BELL_W core i))⟩] } ∧
        s.dev.keeps t [Reg.BELL_RESULT_BUSY core] [.tb]) ∧
      ∀ h < 65536, Does s (.bellCancel core h) (fun t => t.on (Reg.BELL_RESULT_BUSY core) = true ∧
        t.tb = { s.dev.tb with reqs := s.dev.tb.reqs ++ [⟨core, some h, (List.range 5).map (fun i => s.dev.word (Reg.BELL_W core i))⟩] } ∧
        s.dev.keeps t [Reg.BELL_RESULT_BUSY core] [.tb])) ∧
    (s.dev.on (Reg.BELL_RESULT_BUSY core) = true → ∀ v h, exec (.bellPost core v) s = .next s ∧ exec (.bellCancel core h) s = .next s) ∧
    (∀ w, s.dev.tb.reqs = [⟨core, none, w⟩] → ∀ b : Bell, b = ⟨0, 0, w.getD 0 0, w.getD 1 0, w.getD 2 0, w.getD 3 0, w.getD 4 0, 0, none, 0, 0, 0, 0⟩ →
      (∀ code ctx, s.dev.bellRefusal core b = some (code, ctx) → Does s (.bellPostDecision core) (fun t =>
        t.on (Reg.BELL_RESULT_BUSY core) = false ∧ t.g (Reg.BELL_RESULT_RESULT core) = code % 65536 ∧
        t.g (Reg.BELL_RESULT_OCC core) = s.dev.tb.bells.length % 512 ∧ t.raised = s.dev.plusRecord code ctx ∧
        t.tb = { s.dev.tb with reqs := [] } ∧
        s.dev.keeps t [Reg.BELL_RESULT_BUSY core, Reg.BELL_RESULT_RESULT core, Reg.BELL_RESULT_OCC core] [.tb, .raised])) ∧
      (s.dev.bellRefusal core b = none → b.ring = false → ∀ i, s.dev.freeEntry = some i → Does s (.bellPostDecision core) (fun t =>
        t.on (Reg.BELL_RESULT_BUSY core) = false ∧ t.g (Reg.BELL_RESULT_RESULT core) = 0 ∧
        t.word (Reg.BELL_HANDLE core) = (s.dev.tb.gens.getD i 0 * 256 + i) % 2 ^ 32 ∧
        { b with idx := i, gen := s.dev.tb.gens.getD i 0 } ∈ t.tb.bells ∧
        (∀ x, x.idx ≠ i → (x ∈ t.tb.bells ↔ x ∈ s.dev.tb.bells)) ∧
        s.dev.keeps t [RF.whole (Reg.BELL_RESULT core), RF.whole (Reg.BELL_HANDLE core)] [.tb]))) ∧
    (∀ h w, s.dev.tb.reqs = [⟨core, some h, w⟩] →
      (∀ b, s.dev.tb.bells.find? (fun b => b.handle == h) = some b → Does s (.bellCancelDecision core) (fun t =>
        t.on (Reg.BELL_RESULT_BUSY core) = false ∧ t.g (Reg.BELL_RESULT_RESULT core) = 0 ∧
        t.tb.bells = s.dev.tb.bells.filter (fun x => x.idx != b.idx) ∧
        s.dev.keeps t [Reg.BELL_RESULT_BUSY core, Reg.BELL_RESULT_RESULT core, Reg.BELL_RESULT_OCC core] [.tb])) ∧
      (s.dev.tb.bells.find? (fun b => b.handle == h) = none → Does s (.bellCancelDecision core) (fun t =>
        t.g (Reg.BELL_RESULT_RESULT core) = Err.TB_BELL_GONE ∧ t.raised = s.dev.plusRecord Err.TB_BELL_GONE [core, h] ∧
        t.tb = { s.dev.tb with reqs := [] } ∧
        s.dev.keeps t [Reg.BELL_RESULT_BUSY core, Reg.BELL_RESULT_RESULT core, Reg.BELL_RESULT_OCC core] [.tb, .raised])))

/-- The launch of the Bell that is next in the order (R62 to R65): at most eight in a tick and none while halted; whatever its action, the
Bell is consumed, or re-armed where it repeats, keeping its entry and handle. GPO drives its output; ERR_EVENT raises its record. -/
def bellLaunches : Prop :=
  (∀ s : State, s.dev.tb.halted = true ∨ 8 ≤ s.dev.tb.launched → exec .timeBellLaunch s = .next s ∧ exec .angleBellLaunch s = .next s) ∧
  ∀ s : State, s.dev.live = true → s.dev.tb.halted = false → s.dev.tb.launched < 8 → ∀ b : Bell, s.dev.nextBell = some b →
    ∀ c ∈ ([(.timeBellLaunch, false), (.angleBellLaunch, true)] : List (Instr × Bool)), b.isAngle = c.2 →
      Does s c.1 (fun t => t.tb.launched = s.dev.tb.launched + 1 ∧
        (b.repeats = false → ∀ x ∈ t.tb.bells, x.idx ≠ b.idx) ∧
        (b.repeats = true → ∀ x ∈ t.tb.bells, x.idx = b.idx → x.handle = b.handle ∧ x.carried = none) ∧
        (b.kind ≠ 2 → b.action = 8 → (t.g Reg.GO_OUT_LEVEL).testBit (b.w3 % 16) = b.w3.testBit 8) ∧
        (b.kind ≠ 2 → b.action = 9 → s.dev.record Err.ERR_EVENT [b.w3 % 65536, b.handle, b.tag] ∈ t.raised) ∧
        (b.action ≠ 7 → ∀ a, t.byte a = s.dev.byte a))

/-- A Bell frame that names this node (R69, R348): accepted into the lowest-numbered free entry and acknowledged; refused only where every
entry is taken or its WHEN has passed. -/
def ringBells : Prop :=
  ∀ s : State, s.dev.live = true → s.dev.on Reg.DRG_STAT_ADMITTED = true → ∀ org < 16, org ≠ s.dev.me → ∀ h w0 w1 w2 w3 w4,
    w4.testBit s.dev.me = true → (∀ b ∈ s.dev.tb.bells, ¬ (b.kind = 1 ∧ b.org = org ∧ b.orgH = h)) →
    (w1 * 2 ^ 32 + w0 < s.dev.tb.rt → Does s (.ringBellReceived org h w0 w1 w2 w3 w4) (fun t =>
      t.drg.nakIn = s.dev.drg.nakIn ||| 2 ^ org ∧ t.raised = s.dev.plusRecord Err.TB_RING_LATE [org, w2 % 65536] ∧
      s.dev.keeps t [] [.drg, .raised])) ∧
    (s.dev.tb.rt ≤ w1 * 2 ^ 32 + w0 → s.dev.freeEntry = none → Does s (.ringBellReceived org h w0 w1 w2 w3 w4) (fun t =>
      t.drg.nakIn = s.dev.drg.nakIn ||| 2 ^ org ∧ t.raised = s.dev.plusRecord Err.TB_BELL_FULL [org, w2 % 65536, s.dev.tb.bells.length] ∧
      s.dev.keeps t [] [.drg, .raised])) ∧
    (s.dev.tb.rt ≤ w1 * 2 ^ 32 + w0 → ∀ i, s.dev.freeEntry = some i → Does s (.ringBellReceived org h w0 w1 w2 w3 w4) (fun t =>
      t.drg.ackIn = s.dev.drg.ackIn ||| 2 ^ org ∧
      ⟨i, s.dev.tb.gens.getD i 0, w0, w1, w2, w3, w4, 1, none, org, h, 0, 0⟩ ∈ t.tb.bells ∧
      (∀ x, x.idx ≠ i → (x ∈ t.tb.bells ↔ x ∈ s.dev.tb.bells)) ∧ s.dev.keeps t [] [.drg, .tb]))

/-- Bells: posting and cancelling, launching, and those that arrive over the ring. -/
def Obligations.Bells : Prop := bellPosts ∧ bellLaunches ∧ ringBells

/-- A debug halt of the time base needs the debug lock OPEN; it forces every channel safe, and the halt's end removes that cause
(R49, R173). -/
def debugHalt : Prop :=
  ∀ s : State, s.dev.live = true →
    (s.dev.debugOpen = true → s.dev.tb.halted = false → Does s .tbDebugHalt (fun t => t.tb = { s.dev.tb with halted := true } ∧
      (∀ n < 6, (⟨n, 2, 0⟩ : ForceCond) ∈ t.pwm.conds) ∧ ∀ a, t.byte a = s.dev.byte a)) ∧
    (s.dev.debugOpen = false → exec .tbDebugHalt s = .next s) ∧
    (s.dev.tb.halted = true → Does s .tbDebugRelease (fun t => t.tb = { s.dev.tb with halted := false } ∧
      (∀ c, c ∈ t.pwm.conds ↔ c ∈ s.dev.pwm.conds ∧ ¬ (c.why = 2 ∧ c.inst = 0)) ∧ s.dev.keeps t [] [.tb, .pwm] ∧
      { t.pwm with conds := s.dev.pwm.conds } = s.dev.pwm))

/-- The general outputs and the debug halt of the time base. -/
def Obligations.OutputsAndHalt : Prop := generalOutputs ∧ debugHalt

/-! ## Contexts, runs and the engine array -/

/-- A trigger at a context in RUN (R79, R80): accepted, it restarts T_MIN and counts DIV_CNT; at DIV the run is queued on the context's
engine with the snapshot of this tick. Within T_MIN it is dropped and recorded; at a halted engine and in MIGRATING it is only
counted as missed. -/
def contextTriggers : Prop :=
  ∀ s : State, s.dev.live = true → ∀ c, 0 < c → c < 256 →
    (s.dev.ctxState c = 2 → s.dev.on (Reg.ENG_STAT_HALT (s.dev.ctxEng c)) = false → s.dev.on (Reg.ENG_STAT_FAULT (s.dev.ctxEng c)) = false →
      s.dev.ctxEng c < 12 → (∀ u, (s.dev.ctx c).lastTrig = some u → s.dev.g (Reg.CTX_W2_T_MIN c) ≤ s.dev.tick - u) →
      Does s (.contextTrigger c) (fun t => (t.ctx c).lastTrig = some s.dev.tick ∧
        (s.dev.g (Reg.CTX_STAT_DIV_CNT c) + 1 < s.dev.ctxDiv c → t.g (Reg.CTX_STAT_DIV_CNT c) = s.dev.g (Reg.CTX_STAT_DIV_CNT c) + 1 ∧
          (t.ctx c).phase = (s.dev.ctx c).phase) ∧
        (s.dev.ctxDiv c ≤ s.dev.g (Reg.CTX_STAT_DIV_CNT c) + 1 → t.g (Reg.CTX_STAT_DIV_CNT c) = 0 ∧ (t.ctx c).phase = .queued ∧
          (t.ctx c).t0 = s.dev.tick ∧ (t.ctx c).snap.t0 = s.dev.tb.rt / 32 % 2 ^ 24 ∧
          ∃ q ∈ (t.eng (s.dev.ctxEng c)).queue, q.ctx = c) ∧
        t.tb = s.dev.tb ∧ t.mea = s.dev.mea ∧ t.aux = s.dev.aux ∧ ∀ a, t.byte a = s.dev.byte a)) ∧
    (s.dev.ctxState c = 2 → s.dev.on (Reg.ENG_STAT_HALT (s.dev.ctxEng c)) = false →
      ∀ u, (s.dev.ctx c).lastTrig = some u → s.dev.tick - u < s.dev.g (Reg.CTX_W2_T_MIN c) → Does s (.contextTrigger c) (fun t =>
        t.g (Reg.CTX_MISS_CNT_COUNT c) = satInc (2 ^ 32 - 1) (s.dev.g (Reg.CTX_MISS_CNT_COUNT c)) ∧
        t.raised = s.dev.plusRecord Err.CE_TRIG_FAST [c, s.dev.tick - u] ∧ s.dev.keeps t [Reg.CTX_MISS_CNT_COUNT c] [.raised])) ∧
    (s.dev.ctxState c = 5 ∨ (s.dev.ctxState c = 2 ∧ s.dev.on (Reg.ENG_STAT_HALT (s.dev.ctxEng c)) = true) →
      Does s (.contextTrigger c) (fun t => t.g (Reg.CTX_MISS_CNT_COUNT c) = satInc (2 ^ 32 - 1) (s.dev.g (Reg.CTX_MISS_CNT_COUNT c)) ∧
        s.dev.keeps t [Reg.CTX_MISS_CNT_COUNT c] [])) ∧
    (s.dev.ctxState c ≠ 2 → s.dev.ctxState c ≠ 5 → exec (.contextTrigger c) s = .next s)

/-- A run on an engine (R81, R83, R107, R111, R132): the head of the queue starts with the registers of R107 where it can still end in
time; results land in their cycle; at cycle e + 3 after END, where that is the context's N, the flags merge into CTX_FLAGS, the outputs go to
the latch and CONSEC_LATE returns to 0. -/
def Obligations.ContextRuns : Prop :=
  ∀ s : State, s.dev.live = true → ∀ e < 12,
    (s.dev.on (Reg.ENG_STAT_HALT e) = false → s.dev.on (Reg.ENG_STAT_FAULT e) = false →
      (s.dev.eng e).run = none → ∀ q rest, (s.dev.eng e).queue = q :: rest → q.ctx < 256 →
        s.dev.tick + s.dev.g (Reg.CTX_W4_N q.ctx) ≤ (s.dev.ctx q.ctx).t0 + s.dev.g (Reg.CTX_W3_OUTPHASE q.ctx) →
        Does s (.programStart e) (fun t => t.eng e = { ({} : Eng) with
            x := [0, 0, 0, 0, 0, 0, (s.dev.ctx q.ctx).snap.x6, (s.dev.ctx q.ctx).snap.x7], sticky := s.dev.word (Reg.CTX_FLAGS q.ctx) % 8,
            pc := s.dev.g (Reg.CTX_W5_PROG_BASE q.ctx), run := some q.ctx, queue := rest, lastEnd := (s.dev.eng e).lastEnd,
            sigDue := (s.dev.eng e).sigDue } ∧
          (s.dev.ctxEng q.ctx = e → (t.ctx q.ctx).phase = .running) ∧ (∀ k, k ≠ e → t.eng k = s.dev.eng k) ∧
          (∀ k, k ≠ q.ctx → t.ctx k = s.dev.ctx k) ∧ s.dev.keeps t [] [.ce])) ∧
    Does s (.resultLands e) (fun t => t.eng e = (if (s.dev.eng e).ended.isSome
        then { (s.dev.eng e).landAt (s.dev.eng e).cyc with cyc := (s.dev.eng e).cyc + 1 } else (s.dev.eng e).landAt (s.dev.eng e).cyc) ∧
      (∀ k, k ≠ e → t.eng k = s.dev.eng k) ∧ (∀ k, t.ctx k = s.dev.ctx k) ∧ s.dev.keeps t [] [.ce]) ∧
    (s.dev.on (Reg.ENG_STAT_HALT e) = false → s.dev.on (Reg.ENG_STAT_FAULT e) = false → (s.dev.eng e).viol = false →
      ∀ c, 0 < c → c < 256 → ∀ k, (s.dev.eng e).run = some c → (s.dev.eng e).ended = some k → k + 3 = s.dev.g (Reg.CTX_W4_N c) → s.dev.ctxEng c = e →
        (s.dev.ctx c).phase = .running → s.dev.ctxState c = 2 →
        ∀ g : Eng, g = (s.dev.eng e).landFrom (s.dev.eng e).cyc (k + 4 - (s.dev.eng e).cyc) → Does s (.programEnd e) (fun t =>
          (t.eng e).run = none ∧ (t.ctx c).phase = .idle ∧ (t.ctx c).outDue = some (s.dev.ctx c).t0 ∧ (t.ctx c).latch = g.outs ∧
          t.word (Reg.CTX_FLAGS c) = ((s.dev.word (Reg.CTX_FLAGS c) % 8 &&& (7 ^^^ (g.clrd % 8))) ||| (g.setd % 8)) ∧
          t.g (Reg.CTX_STAT_CONSEC_LATE c) = 0 ∧ t.tb = s.dev.tb ∧ t.pwm = s.dev.pwm ∧ t.raised = s.dev.raised ∧
          ∀ a, t.byte a = s.dev.byte a)) ∧
    (s.dev.on (Reg.ENG_STAT_HALT e) = false → s.dev.on (Reg.ENG_STAT_FAULT e) = false →
      ∀ c k, (s.dev.eng e).run = some c → (s.dev.eng e).ended = some k → k + 3 ≠ s.dev.g (Reg.CTX_W4_N c) →
        Does s (.programEnd e) (fun t => t.on (Reg.ENG_STAT_FAULT e) = true ∧ t.g (Reg.ENG_STAT_FAULT_SRC e) = 3 ∧
          s.dev.record Err.CE_ENG_FAULT [e, 3] ∈ t.raised))

/-- The output write and the LATE run of a context (R82 to R85, R89, R91): a context in RUN writes each marked port to its bound target,
here a compare of a leg, a shadow and the outgoing context of a handover write nothing; a STOP that waited takes effect. A run that is
still queued when it can no longer end in time is LATE: it leaves the queue, is counted and recorded, and at LATE_MAX in a row the context
enters FAULT. -/
def outputsAndLate : Prop :=
  ∀ s : State, s.dev.live = true → ∀ c, 0 < c → c < 256 →
    (∀ u, (s.dev.ctx c).outDue = some u → (s.dev.ctx c).evac = false →
      ((s.dev.ctx c).role = .normal → s.dev.ctxState c = 2 → ∀ o < 32, ∀ n < 6, ∀ m < 6, ∀ v,
        (∀ p, (s.dev.ctx c).latch.getD p none = if p = o then some v else none) → s.dev.word (Reg.CTX_OUT c o) = 0x10000000 + 256 * n + m + 1 →
        Does s (.outputWrite c) (fun t => t.word (Reg.PWM_CMP_SH n m) = 2 ^ 31 + v % 2 ^ 24 ∧ (t.ctx c).outDue = none ∧
          ∀ a, t.byte a = s.dev.byte a)) ∧
      ((s.dev.ctx c).role = .discard ∨ ((s.dev.ctx c).role = .normal ∧ s.dev.ctxState c = 3) →
        (s.dev.ctx c).stopReq = false → (s.dev.ctx c).holdStop = false →
        Does s (.outputWrite c) (fun t => t.ctx c = { s.dev.ctx c with outDue := none } ∧ (∀ k, k ≠ c → t.ctx k = s.dev.ctx k) ∧
          (∀ k, t.eng k = s.dev.eng k) ∧ s.dev.keeps t [] [.ce])) ∧
      ((s.dev.ctx c).role = .discard → (s.dev.ctx c).stopReq = true → Does s (.outputWrite c) (fun t => t.ctxState c = 1 ∧
        (t.ctx c).stopReq = false ∧ s.dev.keeps t [Reg.CTX_W0_STATE c] [.ce]))) ∧
    ((s.dev.ctx c).phase = .queued → (s.dev.ctx c).role = .normal → (s.dev.ctx c).handover = none → s.dev.ctxState c = 2 → s.dev.ctxEng c < 12 →
      ∀ delay, Does s (.ceCtxLate c delay) (fun t => (t.ctx c).phase = .idle ∧
        (∀ q ∈ (t.eng (s.dev.ctxEng c)).queue, q.ctx ≠ c) ∧
        t.g (Reg.CTX_LATE_CNT_COUNT c) = satInc (2 ^ 32 - 1) (s.dev.g (Reg.CTX_LATE_CNT_COUNT c)) ∧
        t.g (Reg.CTX_STAT_CONSEC_LATE c) = satInc 255 (s.dev.g (Reg.CTX_STAT_CONSEC_LATE c)) ∧
        s.dev.record Err.CE_CTX_LATE ([c, s.dev.ctxEng c] ++ rtWords (s.dev.ctx c).t0rt ++ [delay]) ∈ t.raised ∧
        (s.dev.g (Reg.CTX_W1_LATE_MAX c) ≤ satInc 255 (s.dev.g (Reg.CTX_STAT_CONSEC_LATE c)) → t.ctxState c = 4 ∧
          s.dev.record Err.CE_CTX_FAULT [c, 1, s.dev.ctxBind c] ∈ t.raised ∧
          ∀ n < 6, (s.dev.ctxBind c).testBit n = true → (⟨n, 5, 1000 + c⟩ : ForceCond) ∈ t.pwm.conds) ∧
        (satInc 255 (s.dev.g (Reg.CTX_STAT_CONSEC_LATE c)) < s.dev.g (Reg.CTX_W1_LATE_MAX c) → t.ctxState c = 2 ∧ t.pwm = s.dev.pwm)))

/-- The triggers of contexts, their output writes and their LATE runs. -/
def Obligations.ContextScheduling : Prop := contextTriggers ∧ outputsAndLate

/-- The CE commands that act at once (R79, R84, R85, R87, R89, R91): in the states that R85 lists each has its effect and answers RESULT 0; in any
other state it is refused with CE_CTX_STATE, which names the context, its state and the command, and changes nothing. While BUSY is 1
a command is ignored. -/
def ceCommands : Prop :=
  ∀ s : State, s.dev.live = true → ∀ c < 256,
    (s.dev.on Reg.CE_CMD_RESULT_BUSY = true → ∀ i ∈ ([.ceStart c, .ceStop c, .ceUnload c, .ceShadow c, .ceHandover c, .ceBank c 0, .ceClear c,
      .divsync c, .ceLoad c 15, .evacuate 0, .resetEng 0] : List Instr), exec i s = .next s) ∧
    (s.dev.on Reg.CE_CMD_RESULT_BUSY = false →
      (s.dev.ctxState c = 1 → s.dev.ctxEng c ≠ s.dev.spare → Does s (.ceStart c) (fun t => t.ctxState c = 2 ∧ t.g Reg.CE_CMD_RESULT_RESULT = 0 ∧
        (∀ k, t.ctx k = s.dev.ctx k) ∧ (∀ k, t.eng k = s.dev.eng k) ∧
        s.dev.keeps t [Reg.CTX_W0_STATE c, Reg.CE_CMD_RESULT_BUSY, Reg.CE_CMD_RESULT_RESULT] [.ce])) ∧
      (∀ x ∈ ([(.ceStart c, 2, [1]), (.ceStop c, 3, [2, 3]), (.ceUnload c, 4, [1, 4]), (.ceShadow c, 5, [1]), (.ceHandover c, 6, [3]),
          (.ceBank c 1, 7, [1, 2, 3]), (.ceClear c, 8, [4]), (.divsync c, 9, [2, 3])] : List (Instr × Nat × List Nat)),
        s.dev.ctxState c ∉ x.2.2 → Does s x.1 (fun t => t.g Reg.CE_CMD_RESULT_RESULT = Err.CE_CTX_STATE ∧ t.on Reg.CE_CMD_RESULT_BUSY = false ∧
          t.raised = s.dev.plusRecord Err.CE_CTX_STATE [c, s.dev.ctxState c, x.2.1] ∧ t.ce = { s.dev.ce with resultRead := false } ∧
          s.dev.keeps t [Reg.CE_CMD_RESULT_BUSY, Reg.CE_CMD_RESULT_RESULT] [.ce, .raised])) ∧
      (s.dev.ctxState c = 2 ∨ s.dev.ctxState c = 3 → s.dev.armedBind c = 0 →
        ((s.dev.ctx c).phase = .idle → (s.dev.ctx c).outDue = none → Does s (.ceStop c) (fun t => t.ctxState c = 1 ∧
          t.g Reg.CE_CMD_RESULT_RESULT = 0 ∧ (∀ k, t.ctx k = s.dev.ctx k) ∧
          s.dev.keeps t [Reg.CTX_W0_STATE c, Reg.CE_CMD_RESULT_BUSY, Reg.CE_CMD_RESULT_RESULT] [.ce])) ∧
        ((s.dev.ctx c).phase ≠ .idle → Does s (.ceStop c) (fun t => (t.ctx c).stopReq = true ∧ t.g Reg.CE_CMD_RESULT_RESULT = 0 ∧
          s.dev.keeps t [Reg.CE_CMD_RESULT_BUSY, Reg.CE_CMD_RESULT_RESULT] [.ce]))) ∧
      (s.dev.ctxState c = 2 ∨ s.dev.ctxState c = 3 → s.dev.armedBind c ≠ 0 → Does s (.ceStop c) (fun t =>
        t.g Reg.CE_CMD_RESULT_RESULT = Err.CE_CTX_BOUND ∧ t.raised = s.dev.plusRecord Err.CE_CTX_BOUND [c, s.dev.armedBind c] ∧
        s.dev.keeps t [Reg.CE_CMD_RESULT_BUSY, Reg.CE_CMD_RESULT_RESULT] [.ce, .raised])) ∧
      (s.dev.ctxState c = 1 ∨ s.dev.ctxState c = 4 → s.dev.armedBind c = 0 → Does s (.ceUnload c) (fun t => t.ctxState c = 0 ∧
        t.g Reg.CE_CMD_RESULT_RESULT = 0 ∧ (∀ w < 8, t.word (Reg.CTX_W0 c + 4 * w) = State.reset.dev.word (Reg.CTX_W0 c + 4 * w)) ∧
        t.ctx c = {} ∧ (∀ k, k ≠ c → t.ctx k = s.dev.ctx k) ∧ ∀ a, t.byte a = s.dev.byte a)) ∧
      (∀ l, l = s.dev.g (Reg.CTX_W0_SHADOW_OF c) → l ≠ 0 → s.dev.ctxState c = 1 → s.dev.ctxState l = 2 →
        s.dev.g (Reg.CTX_W1_TRIG_SRC c) = s.dev.g (Reg.CTX_W1_TRIG_SRC l) → s.dev.g (Reg.CTX_W1_TRIG_CH c) = s.dev.g (Reg.CTX_W1_TRIG_CH l) →
        s.dev.g (Reg.CTX_W1_TRIG_CMP c) = s.dev.g (Reg.CTX_W1_TRIG_CMP l) → s.dev.ctxDiv c = s.dev.ctxDiv l →
        s.dev.g (Reg.CTX_W2_T_MIN c) = s.dev.g (Reg.CTX_W2_T_MIN l) → Does s (.ceShadow c) (fun t => t.ctxState c = 3 ∧
          t.g (Reg.CTX_STAT_DIV_CNT c) = s.dev.g (Reg.CTX_STAT_DIV_CNT l) ∧ t.g Reg.CE_CMD_RESULT_RESULT = 0 ∧
          s.dev.keeps t [Reg.CTX_W0_STATE c, Reg.CTX_STAT_DIV_CNT c, Reg.CE_CMD_RESULT_BUSY, Reg.CE_CMD_RESULT_RESULT] [.ce])) ∧
      (∀ o, o = s.dev.g (Reg.CTX_W0_SHADOW_OF c) → o ≠ 0 → s.dev.ctxState c = 3 → s.dev.ctxState o = 2 →
        Does s (.ceHandover c) (fun t => (t.ctx o).handover = some c ∧ (∀ k, k ≠ o → t.ctx k = s.dev.ctx k) ∧ t.g Reg.CE_CMD_RESULT_RESULT = 0 ∧
          s.dev.keeps t [Reg.CE_CMD_RESULT_BUSY, Reg.CE_CMD_RESULT_RESULT] [.ce])) ∧
      (s.dev.ctxState c = 1 ∨ s.dev.ctxState c = 2 ∨ s.dev.ctxState c = 3 → ∀ b, Does s (.ceBank c b) (fun t =>
        t.g (Reg.CTX_W0_BANK c) = b % 2 ∧ (t.ctx c).bankWas = some (s.dev.g (Reg.CTX_W0_BANK c), s.dev.tick) ∧
        t.g Reg.CE_CMD_RESULT_RESULT = 0 ∧ s.dev.keeps t [Reg.CTX_W0_BANK c, Reg.CE_CMD_RESULT_BUSY, Reg.CE_CMD_RESULT_RESULT] [.ce])) ∧
      (s.dev.ctxState c = 4 → Does s (.ceClear c) (fun t => t.ctxState c = 1 ∧ t.g (Reg.CTX_STAT_CONSEC_LATE c) = 0 ∧
        t.g Reg.CE_CMD_RESULT_RESULT = 0 ∧ (∀ x, x ∈ t.pwm.conds ↔ x ∈ s.dev.pwm.conds ∧ ¬ (x.why = 5 ∧ x.inst = 1000 + c)) ∧
        s.dev.keeps t [Reg.CTX_W0_STATE c, Reg.CTX_STAT_CONSEC_LATE c, Reg.CE_CMD_RESULT_BUSY, Reg.CE_CMD_RESULT_RESULT] [.ce, .pwm])) ∧
      (s.dev.ctxState c = 2 ∨ s.dev.ctxState c = 3 → Does s (.divsync c) (fun t => t.g (Reg.CTX_STAT_DIV_CNT c) = s.dev.ctxDiv c - 1 ∧
        t.g Reg.CE_CMD_RESULT_RESULT = 0 ∧ s.dev.keeps t [Reg.CTX_STAT_DIV_CNT c, Reg.CE_CMD_RESULT_BUSY, Reg.CE_CMD_RESULT_RESULT] [.ce])))

/-- The CE commands that go on (R23, R85, R86, R98): LOAD of a context that is EMPTY, with parameters and an image that pass and an engine that
admits it, fills its entry and sets BUSY; at its end the engine holds the image's program words and the context is STOPPED. EVACUATE
marks the contexts that run; RESET_ENG forces the bound channels safe and resets the engine; both end with BUSY 0. -/
def ceLongCommands : Prop :=
  ∀ s : State, s.dev.live = true →
    (s.dev.on Reg.CE_CMD_RESULT_BUSY = false →
      (∀ c < 256, ∀ e < 16, ∀ w, s.dev.loadParam c e = some w → Does s (.ceLoad c e) (fun t => t.g Reg.CE_CMD_RESULT_RESULT = Err.CE_ADM_PARAM ∧
        t.raised = s.dev.plusRecord Err.CE_ADM_PARAM [c, w] ∧
        s.dev.keeps t [Reg.CE_CMD_RESULT_BUSY, Reg.CE_CMD_RESULT_RESULT] [.ce, .raised])) ∧
      (∀ c < 256, ∀ e < 12, s.dev.loadParam c e = none → s.dev.ctxState c = 0 → s.dev.on (Reg.ENG_STAT_FAULT e) = false →
        ∀ im, s.dev.imgCheck (s.dev.word Reg.CE_IMG_ADDR) = .ok im → ∀ f : Dev, f = s.dev.tookFree.tookFree →
        ∀ p, f.admitOn e c im s.dev.freeVal s.dev.tookFree.freeVal = .ok p → Does s (.ceLoad c e) (fun t =>
          t.on Reg.CE_CMD_RESULT_BUSY = true ∧ t.ce.busy = some ⟨1, p.eng, c, 0⟩ ∧ t.ctxEng c = (Reg.CTX_W0_ENG c).cut p.eng ∧
          t.g (Reg.CTX_W0_BANK c) = 0 ∧ t.g (Reg.CTX_W4_N c) = (Reg.CTX_W4_N c).cut im.n ∧
          t.g (Reg.CTX_W5_PROG_BASE c) = (Reg.CTX_W5_PROG_BASE c).cut p.prog ∧ t.g (Reg.CTX_W5_PROG_LEN c) = (Reg.CTX_W5_PROG_LEN c).cut im.prog ∧
          t.g (Reg.CTX_W6_STATE_BASE c) = (Reg.CTX_W6_STATE_BASE c).cut p.data ∧ (∀ k, k ≠ c → t.ctx k = s.dev.ctx k) ∧
          ∀ a, t.byte a = s.dev.byte a)) ∧
      (∀ e < 12, e ≠ s.dev.spare → s.dev.spareBusy e = 0 → s.dev.on (Reg.ENG_STAT_FAULT e) = false → s.dev.occupants s.dev.spare = [] →
        (∀ x ∈ s.dev.engCtxs e, s.dev.gapShort x = 0 ∧ (s.dev.ctxState x = 2 ∨ s.dev.ctxState x = 3)) → Does s (.evacuate e) (fun t =>
          t.on Reg.CE_CMD_RESULT_BUSY = true ∧ t.ce.busy = some ⟨10, e, 0, 0⟩ ∧ (∀ x ∈ s.dev.engCtxs e, (t.ctx x).evac = true) ∧
          s.dev.keeps t [Reg.CE_CMD_RESULT_BUSY, Reg.CE_CMD_RESULT_RESULT] [.ce])) ∧
      (∀ e < 12, Does s (.resetEng e) (fun t => t.on Reg.CE_CMD_RESULT_BUSY = true ∧ t.ce.busy = some ⟨11, e, 0, 0⟩ ∧
        t.eng e = { ({} : Eng) with sigDue := (s.dev.eng e).sigDue } ∧ (∀ k, k ≠ e → t.eng k = s.dev.eng k) ∧
        (∀ n < 6, (s.dev.engBind e).testBit n = true → (⟨n, 5, 2000 + e⟩ : ForceCond) ∈ t.pwm.conds) ∧ ∀ a, t.byte a = s.dev.byte a))) ∧
    (∀ b, s.dev.ce.busy = some b →
      (b.op = 1 → b.ctx < 256 → s.dev.g (Reg.CTX_W5_PROG_LEN b.ctx) ≤ 8192 → Does s .ceLoadComplete (fun t => t.ctxState b.ctx = 1 ∧
        t.on Reg.CE_CMD_RESULT_BUSY = false ∧ t.ce.busy = none ∧
        (∀ i < s.dev.g (Reg.CTX_W5_PROG_LEN b.ctx), t.pmWord b.eng (s.dev.g (Reg.CTX_W5_PROG_BASE b.ctx) + i) =
          s.dev.imgWord (s.dev.word Reg.CE_IMG_ADDR) i % 2 ^ 48) ∧
        s.dev.keeps t [Reg.CTX_W0_STATE b.ctx, Reg.CE_CMD_RESULT_BUSY, Reg.CE_CMD_RESULT_RESULT] [.ce])) ∧
      (b.op = 10 → s.dev.engCtxs b.eng = [] → Does s .evacuateComplete (fun t => t.on Reg.CE_CMD_RESULT_BUSY = false ∧ t.ce.busy = none ∧
        t.g Reg.CE_CMD_RESULT_RESULT = 0 ∧
        s.dev.keeps t [Reg.CE_MIG_STAT_ABSORBED, Reg.CE_CMD_RESULT_BUSY, Reg.CE_CMD_RESULT_RESULT] [.ce])) ∧
      (b.op = 11 → b.eng < 12 → Does s (.resetEngComplete true) (fun t => t.on Reg.CE_CMD_RESULT_BUSY = false ∧ t.ce.busy = none ∧
        t.on (Reg.ENG_STAT_FAULT b.eng) = false ∧ (∀ x ∈ t.pwm.conds, ¬ (x.why = 5 ∧ x.inst = 2000 + b.eng)) ∧
        t.eng b.eng = { ({} : Eng) with sigDue := (s.dev.eng b.eng).sigDue } ∧
        s.dev.keeps t [Reg.ENG_STAT_FAULT b.eng, Reg.ENG_STAT_FAULT_SRC b.eng, Reg.CE_CMD_RESULT_BUSY, Reg.CE_CMD_RESULT_RESULT] [.ce, .pwm])))

/-- The CE commands: those that act at once and those that go on. -/
def Obligations.ContextCommands : Prop := ceCommands ∧ ceLongCommands

/-- A supervisor write to engine memory (R31, R88): a data word where every context on the engine lets it be written, half a program word
outside every context's program; else it is refused with CE_WR_GUARD and its address, and nothing changes. -/
def engineMemoryWrites : Prop :=
  ∀ s : State, s.dev.live = true → ∀ e < 12, ∀ v,
    (∀ w < 32768, ∀ a, a = 0x20000000 + 0x40000 * e + 0x20000 + 4 * w →
      ((∀ c ∈ s.dev.occupants e, s.dev.dmFree c w = true) → Does s (.engineMemoryWrite a v) (fun t => t.dmWord e w = v % 2 ^ 24 ∧
        (∀ k j, k < 12 → j < 32768 → (k ≠ e ∨ j ≠ w) → t.dmWord k j = s.dev.dmWord k j) ∧ (∀ k, t.eng k = s.dev.eng k) ∧
        (∀ k, t.ctx k = s.dev.ctx k) ∧ t.ce.pm = s.dev.ce.pm ∧ s.dev.keeps t [] [.ce])) ∧
      ((∃ c ∈ s.dev.occupants e, s.dev.dmFree c w = false) → Does s (.engineMemoryWrite a v) (fun t =>
        t.raised = s.dev.plusRecord Err.CE_WR_GUARD [a] ∧ s.dev.keeps t [] [.raised]))) ∧
    (∀ w < 8192, ∀ h < 2, ∀ a, a = 0x20000000 + 0x40000 * e + 8 * w + 4 * h →
      ((∀ c ∈ s.dev.occupants e, inSpan w (s.dev.progRegion c).1 (s.dev.progRegion c).2 = false) → Does s (.engineMemoryWrite a v) (fun t =>
        t.pmWord e w = (if h = 0 then s.dev.pmWord e w / 2 ^ 32 * 2 ^ 32 + v % 2 ^ 32 else v % 65536 * 2 ^ 32 + s.dev.pmWord e w % 2 ^ 32) ∧
        (∀ k j, k < 12 → j < 8192 → (k ≠ e ∨ j ≠ w) → t.pmWord k j = s.dev.pmWord k j) ∧ t.ce.dm = s.dev.ce.dm ∧ s.dev.keeps t [] [.ce])) ∧
      ((∃ c ∈ s.dev.occupants e, inSpan w (s.dev.progRegion c).1 (s.dev.progRegion c).2 = true) → Does s (.engineMemoryWrite a v) (fun t =>
        t.raised = s.dev.plusRecord Err.CE_WR_GUARD [a] ∧ s.dev.keeps t [] [.raised])))

/-- Supervisor writes to SRAM, to staged registers and to the engine memories. -/
def Obligations.SupervisorMemory : Prop := busWrites ∧ engineMemoryWrites

/-- Engine failures, their tests and migration (R93 to R97): a failure is latched with its source and recorded, ends the engine's run,
and puts every context with MIG 0 into FAULT; a passed test restarts its period; a migration that waits proceeds on its decision; a cold
copy moves its context to the spare in the state it had, or loses it; when all have finished the failed engine is reset and ABSORBED set. A
correctable memory error is recorded and changes nothing else. -/
def engineFailures : Prop :=
  ∀ s : State, s.dev.live = true →
    (∀ e < 12, s.dev.on (Reg.ENG_STAT_FAULT e) = false → ∀ src a, 0 < src → src < 6 → Does s (.ceEngFault e src a) (fun t => t.on (Reg.ENG_STAT_FAULT e) = true ∧
      t.g (Reg.ENG_STAT_FAULT_SRC e) = src ∧ s.dev.record Err.CE_ENG_FAULT [e, src] ∈ t.raised ∧ (t.eng e).run = none ∧
      (e ≠ s.dev.spare → ∀ c ∈ s.dev.engCtxs e, s.dev.g (Reg.CTX_W0_MIG c) = 0 → t.ctxState c = 4) ∧ ∀ a, t.byte a = s.dev.byte a)) ∧
    (∀ e < 12, s.dev.on (Reg.ENG_STAT_FAULT e) = true → ∀ src a, src ≠ 0 → exec (.ceEngFault e src a) s = .next s) ∧
    (∀ e < 12, ∀ a, Does s (.ceEngFault e 0 a) (fun t => t.raised = s.dev.plusRecord Err.CE_ECC_CORR [e, a] ∧ s.dev.keeps t [] [.raised])) ∧
    (∀ e < 12, s.dev.on (Reg.ENG_STAT_HALT e) = false → s.dev.on (Reg.ENG_STAT_FAULT e) = false → (s.dev.eng e).run = none →
      Does s (.signatureTest e true) (fun t => t.eng e = { s.dev.eng e with sigDue := s.dev.tick } ∧ (∀ k, k ≠ e → t.eng k = s.dev.eng k) ∧
        s.dev.keeps t [] [.ce]) ∧
      Does s (.signatureTest e false) (fun t => t.on (Reg.ENG_STAT_FAULT e) = true ∧ t.g (Reg.ENG_STAT_FAULT_SRC e) = 4)) ∧
    (∀ e < 12, s.dev.on (Reg.ENG_STAT_HALT e) = false → 10 * s.dev.g Reg.CE_CFG_SIG_PERIOD ≤ msBetween (s.dev.eng e).sigDue s.dev.tick →
      Does s (.ceSigStarved e) (fun t => t.eng e = { s.dev.eng e with sigDue := s.dev.tick } ∧
        t.raised = s.dev.plusRecord Err.CE_SIG_STARVED [e] ∧ s.dev.keeps t [] [.ce, .raised])) ∧
    (∀ m, s.dev.ce.mig = some m → m.waiting = true → Does s (.migrationProceed m.eng) (fun t => t.on Reg.CE_MIG_STAT_ACTIVE = true ∧
      t.g Reg.CE_MIG_STAT_SRC_ENG = m.eng % 16 ∧ (∃ m', t.ce.mig = some m' ∧ m'.waiting = false ∧ m'.eng = m.eng) ∧
      ∀ a, t.byte a = s.dev.byte a)) ∧
    (∀ m, s.dev.ce.mig = some m → m.waiting = false →
      (∀ c rest, 0 < c → c < 256 → m.todo = c :: rest →
        Does s (.coldCopyComplete c true) (fun t => t.ctxEng c = s.dev.spare ∧ t.ctxState c = (Reg.CTX_W0_STATE c).cut (s.dev.ctx c).migFrom ∧
          (t.ctx c).moved = true ∧ t.ce.mig = some { m with todo := rest, moved := m.moved + 1 } ∧
          s.dev.keeps t [Reg.CTX_W0_ENG c, Reg.CTX_W0_STATE c, RF.whole Reg.CE_MIG_STAT] [.ce]) ∧
        (s.dev.ctxState c = 5 → Does s (.coldCopyComplete c false) (fun t => t.ctxState c = 4 ∧
          s.dev.record Err.CE_CTX_FAULT [c, 4, s.dev.ctxBind c] ∈ t.raised ∧ t.ce.mig = some { m with todo := rest, lost := m.lost + 1 }))) ∧
      (m.todo = [] → m.eng < 12 → Does s .ceMigDone (fun t => t.ce.mig = none ∧ t.on Reg.CE_MIG_STAT_ACTIVE = false ∧
        t.on Reg.CE_MIG_STAT_ABSORBED = true ∧ t.eng m.eng = { ({} : Eng) with sigDue := (s.dev.eng m.eng).sigDue } ∧
        (∃ r ∈ t.raised, r.code = Err.CE_MIG_DONE) ∧ s.dev.keeps t [RF.whole Reg.CE_MIG_STAT] [.ce, .raised])))

/-- The debug of an engine (R99, R100): a halt needs the debug lock OPEN, lets the results in flight land and forces the bound channels
safe; a resume abandons the run, empties the queue and ends the forcing; a step of a halted run carries out the one instruction at its
pc and leaves the engine halted. -/
def engineDebug : Prop :=
  ∀ s : State, s.dev.live = true → ∀ e < 12,
    (s.dev.debugOpen = true → s.dev.on (Reg.ENG_STAT_HALT e) = false → Does s (.engineHalt e) (fun t => t.on (Reg.ENG_STAT_HALT e) = true ∧
      t.eng e = (if (s.dev.eng e).run.isSome then (s.dev.eng e).settled else s.dev.eng e) ∧ (∀ k, k ≠ e → t.eng k = s.dev.eng k) ∧
      (∀ n < 6, (s.dev.engBind e).testBit n = true → (⟨n, 2, e + 1⟩ : ForceCond) ∈ t.pwm.conds) ∧ ∀ a, t.byte a = s.dev.byte a)) ∧
    (s.dev.debugOpen = false → exec (.engineHalt e) s = .next s ∧ exec (.engineSingleStep e) s = .next s) ∧
    (s.dev.on (Reg.ENG_STAT_HALT e) = true → Does s (.engineResume e) (fun t => t.on (Reg.ENG_STAT_HALT e) = false ∧
      t.eng e = { ({} : Eng) with lastEnd := some s.dev.tick, sigDue := s.dev.tick } ∧ (∀ k, k ≠ e → t.eng k = s.dev.eng k) ∧
      (∀ x ∈ t.pwm.conds, ¬ (x.why = 2 ∧ x.inst = e + 1)) ∧ (∀ x ∈ t.pwm.conds, x ∈ s.dev.pwm.conds) ∧ ∀ a, t.byte a = s.dev.byte a)) ∧
    (s.dev.debugOpen = true → s.dev.on (Reg.ENG_STAT_HALT e) = true → (s.dev.eng e).run.isSome = true → (s.dev.eng e).ended = none →
      ∀ i, conathOk (s.dev.pmWord e (s.dev.eng e).pc) = true → conathInstr (s.dev.pmWord e (s.dev.eng e).pc) e = some i →
        ∃ u, exec i ⟨s.dev.s (Reg.ENG_STAT_HALT e) 0, s.pending⟩ = .next ⟨u, s.pending⟩ ∧
          exec (.engineSingleStep e) s = .next ⟨u.s (Reg.ENG_STAT_HALT e) 1, s.pending⟩)

/-- Engine failures and the debug of an engine. -/
def Obligations.EngineFailuresAndDebug : Prop := engineFailures ∧ engineDebug

/-- A setpoint conditioner with a host value (source kind 4) and no rate limit (R103): where SCALE × x is a whole number of LSB, OUT is that
plus OFS, clamped to 24 bits, less the deadband. -/
def Obligations.SetpointConditioners : Prop :=
  ∀ s : State, s.dev.live = true → ∀ j < 16, s.dev.g (Reg.SPC_CFG_KIND j) = 4 → s.dev.g (Reg.SPC_RATE_VALUE j) = 0 →
    ∀ q y : Int, s.dev.sg (Reg.SPC_SCALE_SCALE j) * s.dev.sg (Reg.SPC_HOST_VALUE j) = q * 2 ^ 24 →
      y = satInt 24 (q + s.dev.sg (Reg.SPC_OFS_VALUE j)) → Does s .spcUpdate (fun t =>
        t.g (Reg.SPC_OUT_VALUE j) = ofInt 24 (if (y.natAbs : Int) ≤ s.dev.g (Reg.SPC_DB_DB j) then 0
          else if 0 < y then y - s.dev.g (Reg.SPC_DB_DB j) else y + s.dev.g (Reg.SPC_DB_DB j)) ∧
        t.on (Reg.SPC_STAT_LIMITING j) = false ∧ t.on (Reg.SPC_STAT_INVALID j) = false ∧
        (t.on (Reg.SPC_STAT_IN_DB j) = true ↔ (y.natAbs : Int) ≤ s.dev.g (Reg.SPC_DB_DB j)) ∧
        t.ce = s.dev.ce ∧ t.pwm = s.dev.pwm ∧ t.tb = s.dev.tb ∧ ∀ a, t.byte a = s.dev.byte a)

/-- The engine that an engine instruction runs on; no other command has one. -/
def Sys2Proof.Instr.engine : Instr → Option Nat
  | .nop e _ => some e
  | .endProgram e => some e
  | .br e _ => some e
  | .call e _ => some e
  | .ret e => some e
  | .loop e _ _ => some e
  | .clrf e _ _ => some e
  | .rdf e _ _ => some e
  | .mov e _ _ _ => some e
  | .movk e _ _ _ => some e
  | .sel e _ _ _ _ _ => some e
  | .movs e _ _ _ _ _ => some e
  | .lda e _ _ _ => some e
  | .clra e _ _ => some e
  | .adda e _ _ _ _ => some e
  | .suba e _ _ _ _ => some e
  | .add e _ _ _ _ => some e
  | .sub e _ _ _ _ => some e
  | .neg e _ _ _ => some e
  | .abs e _ _ _ => some e
  | .min e _ _ _ _ => some e
  | .max e _ _ _ _ => some e
  | .clmp e _ _ _ _ _ => some e
  | .addk e _ _ _ _ => some e
  | .cmp e _ _ _ => some e
  | .cmpk e _ _ _ => some e
  | .ash e _ _ _ _ => some e
  | .hyst e _ _ _ _ => some e
  | .sha e _ _ _ _ => some e
  | .iadd e _ _ _ _ => some e
  | .isub e _ _ _ _ => some e
  | .iaddk e _ _ _ _ => some e
  | .andBits e _ _ _ _ => some e
  | .orBits e _ _ _ _ => some e
  | .xorBits e _ _ _ _ => some e
  | .andk e _ _ _ _ => some e
  | .lsh e _ _ _ _ => some e
  | .mpy e _ _ _ _ _ => some e
  | .mac e _ _ _ _ _ => some e
  | .msu e _ _ _ _ _ => some e
  | .dmac e _ _ _ _ _ _ _ _ => some e
  | .mpyx e _ _ _ _ _ _ _ => some e
  | .macx e _ _ _ _ _ _ _ => some e
  | .msux e _ _ _ _ _ _ _ => some e
  | .dmacx e _ _ _ _ _ _ _ _ _ _ => some e
  | .muli e _ _ _ _ => some e
  | .sincos e _ _ _ => some e
  | .rot e _ _ _ _ _ _ => some e
  | .recip e _ _ _ _ => some e
  | .rsqrt e _ _ _ _ => some e
  | .ld e _ _ _ _ _ => some e
  | .st e _ _ _ _ _ => some e
  | .ldx e _ _ _ => some e
  | .movx e _ _ _ => some e
  | .addx e _ _ _ _ => some e
  | .movm e _ _ _ => some e
  | .inPort e _ _ _ => some e
  | .outPort e _ _ _ => some e
  | .rdsh e _ _ _ _ => some e
  | .dmpyx e _ _ _ _ _ _ _ _ _ _ => some e
  | _ => none


/-! ## Conath instructions -/

/-- Whether an exact value lies outside the signed range of `w` bits. -/
def outside (w : Nat) (z : Int) : Bool := decide (z < -(2 ^ (w - 1))) || decide (2 ^ (w - 1) ≤ z)

/-- What each instruction with one G result of latency 1 or 2 gives, from the registers as they stand (R114, R117, R118, R121, R124): the value, V
after it, and the sticky bits that it sets. N and Z follow the value. -/
def gTable (e p gd ga gb gc imm cc : Nat) (sh : Int) (trunc : Bool) (g : Eng) : List (Instr × Int × Bool × Nat) :=
  let A := g.gs ga
  let B := g.gs gb
  let C := g.gs gc
  let K := toInt 24 imm
  let clamped (z : Int) : Int × Bool × Nat := (satInt 24 z, outside 24 z, if outside 24 z then 1 else 0)
  let wrapped (z : Int) : Int × Bool × Nat := (toInt 24 (ofInt 24 z), outside 24 z, if outside 24 z then 2 else 0)
  let plain (z : Int) : Int × Bool × Nat := (z, g.v, 0)
  let m : Int := Min.min (Max.max A B) C
  let h : Int := Min.min (B.natAbs : Int) 0x7FFFFF
  [(.mov e p gd ga, plain A), (.movk e p gd imm, plain K), (.sel e p cc gd ga gb, plain (if predTrue g.n g.z g.v cc then A else B)),
   (.movs e p gd (ga % 4) sh trunc, clamped (movsValue (g.a.getD (ga % 4) 0) sh trunc)), (.add e p gd ga gb, clamped (A + B)),
   (.sub e p gd ga gb, clamped (A - B)), (.neg e p gd ga, clamped (-A)), (.abs e p gd ga, clamped A.natAbs),
   (.min e p gd ga gb, plain (Min.min A B)), (.max e p gd ga gb, plain (Max.max A B)),
   (.clmp e p gd ga gb gc, (m, decide (m ≠ A), if m ≠ A then 1 else 0)), (.addk e p gd ga imm, clamped (A + K))] ++
  [(.ash e p gd ga sh, clamped (if 0 ≤ sh then A * 2 ^ sh.toNat else A.fdiv (2 ^ (-sh).toNat))),
   (.hyst e p gd ga gb, plain (if h < A then 0x7FFFFF else if A < -h then -0x800000 else g.gs gd)),
   (.iadd e p gd ga gb, wrapped (A + B)), (.isub e p gd ga gb, wrapped (A - B)), (.iaddk e p gd ga imm, wrapped (A + K)),
   (.andBits e p gd ga gb, plain (toInt 24 (g.g.getD ga 0 &&& g.g.getD gb 0))), (.orBits e p gd ga gb, plain (toInt 24 (g.g.getD ga 0 ||| g.g.getD gb 0))),
   (.xorBits e p gd ga gb, plain (toInt 24 (g.g.getD ga 0 ^^^ g.g.getD gb 0))), (.andk e p gd ga imm, plain (toInt 24 (g.g.getD ga 0 &&& imm % 2 ^ 24))),
   (.lsh e p gd ga sh, plain (toInt 24 (if 0 ≤ sh then g.g.getD ga 0 * 2 ^ sh.toNat else g.g.getD ga 0 / 2 ^ (-sh).toNat))),
   (.muli e p gd ga gb, wrapped (A * B))]

/-- The instructions with one G result (R114, R117, R118, R121, R124): on an empty pipeline, once the result has landed, Gd holds the value
of `gTable`, N and Z follow it, V and the sticky bits are as the table says, and every other register is as before. -/
def gResults : Prop :=
  ∀ (s : State) (e p : Nat), Ready s e p → ∀ gd < 16, ∀ ga < 16, ∀ gb < 16, ∀ gc < 16, ∀ imm cc sh trunc,
    ∀ x ∈ gTable e p gd ga gb gc imm cc sh trunc (s.dev.eng e), Does s x.1 (fun t =>
      (t.eng e).settled.g.getD gd 0 = ofInt 24 x.2.1 ∧
      (t.eng e).settled.flags = (decide (x.2.1 < 0), decide (x.2.1 = 0), x.2.2.1, (s.dev.eng e).sticky % 8 ||| x.2.2.2) ∧
      (s.dev.eng e).keepsRegs (t.eng e).settled [gd] [] [] [] ∧ t.ce.dm = s.dev.ce.dm ∧ s.dev.issued t e [])

/-- The instructions that write G, X, M or an OUT port and set no flag, and those that set flags alone (R115, R121, R125, R128): RDF, IN and
RDSH read into Gd; LDX, MOVX, ADDX and MOVM write an address register or a modulo length; OUT leaves its value and mark on the port; CMP and
CMPK set N and Z from the exact difference and clear V; CLRF clears the sticky bits named; NOP changes nothing. -/
def plainResults : Prop :=
  ∀ (s : State) (e p : Nat), Ready s e p → ∀ gd < 16, ∀ ga < 16, ∀ gb < 16, ∀ xd < 8, ∀ xa < 8, ∀ mn < 4, ∀ imm port node word g, g = s.dev.eng e →
    (∀ x ∈ ([(.rdf e p gd, b2n g.n * 32 + b2n g.z * 16 + b2n g.v * 8 + g.sticky % 8), (.inPort e p gd port, s.dev.portRead e port),
        (.rdsh e p gd node word, s.dev.shareWord node word)] : List (Instr × Nat)), Does s x.1 (fun t =>
      (t.eng e).settled.g.getD gd 0 = x.2 % 2 ^ 24 ∧ (t.eng e).settled.flags = g.flags ∧ g.keepsRegs (t.eng e).settled [gd] [] [] [] ∧
      t.ce.dm = s.dev.ce.dm ∧ s.dev.issued t e [])) ∧
    (∀ x ∈ ([(.ldx e p xd imm, imm), (.movx e p xd ga, g.g.getD ga 0), (.addx e p xd xa imm, g.x.getD xa 0 + imm)] : List (Instr × Nat)),
      Does s x.1 (fun t => (t.eng e).settled.x.getD xd 0 = x.2 % 2 ^ 15 ∧ (t.eng e).settled.flags = g.flags ∧
        g.keepsRegs (t.eng e).settled [] [] [xd] [] ∧ t.ce.dm = s.dev.ce.dm ∧ s.dev.issued t e [])) ∧
    Does s (.movm e p mn imm) (fun t => (t.eng e).settled.m.getD mn 0 = imm % 2 ^ 15 ∧ (t.eng e).settled.flags = g.flags ∧
      g.keepsRegs (t.eng e).settled [] [] [] [mn] ∧ t.ce.dm = s.dev.ce.dm ∧ s.dev.issued t e []) ∧
    (0x40 ≤ port → port < 0x60 → Does s (.outPort e p port ga) (fun t =>
      (t.eng e).settled.outs.getD (port - 0x40) none = some (g.g.getD ga 0 % 2 ^ 24) ∧
      (∀ k, k ≠ port - 0x40 → (t.eng e).settled.outs.getD k none = g.outs.getD k none) ∧ (t.eng e).settled.flags = g.flags ∧
      g.keepsRegs (t.eng e).settled [] [] [] [] ∧ t.ce.dm = s.dev.ce.dm ∧ s.dev.issued t e [])) ∧
    (∀ x ∈ ([(.cmp e p ga gb, g.gs ga - g.gs gb), (.cmpk e p ga imm, g.gs ga - toInt 24 imm)] : List (Instr × Int)), Does s x.1 (fun t =>
      (t.eng e).settled.flags = (decide (x.2 < 0), decide (x.2 = 0), false, g.sticky % 8) ∧ g.keepsRegs (t.eng e).settled [] [] [] [] ∧
      t.ce.dm = s.dev.ce.dm ∧ s.dev.issued t e [])) ∧
    (∀ m < 8, Does s (.clrf e p m) (fun t => (t.eng e).settled.flags = (g.n, g.z, g.v, g.sticky % 8 &&& (7 - m)) ∧
      g.keepsRegs (t.eng e).settled [] [] [] [] ∧ t.ce.dm = s.dev.ce.dm ∧ s.dev.issued t e [])) ∧
    Does s (.nop e p) (fun t => (t.eng e).settled.flags = g.flags ∧ g.keepsRegs (t.eng e).settled [] [] [] [] ∧ t.ce.dm = s.dev.ce.dm ∧
      s.dev.issued t e [])

/-- The instructions that write a G register, and those that write G, X, M or an OUT port beside. -/
def Obligations.RegisterResults : Prop := gResults ∧ plainResults

/-- What each instruction with one accumulator result gives (R110, R112, R117, R121): the exact value, and whether it accumulates, so that
it clamps to 56 bits. `w` is the data-memory word of the forms that read one. -/
def aTable (e p ad ga gb aa ab xn : Nat) (pm : Bool) (disp sh : Int) (q : Bool) (w : Nat) (g : Eng) : List (Instr × Int × Bool × Bool) :=
  let P : Int := g.gs ga * g.gs gb * (if q then 2 else 1)
  let M : Int := g.gs ga * toInt 24 w * (if q then 2 else 1)
  let D := g.a.getD ad 0
  [(.lda e p ad ga, g.gs ga * 2 ^ 23, false, false), (.adda e p ad aa ab, g.a.getD aa 0 + g.a.getD ab 0, true, false),
   (.suba e p ad aa ab, g.a.getD aa 0 - g.a.getD ab 0, true, false),
   (.sha e p ad aa sh, if 0 ≤ sh then g.a.getD aa 0 * 2 ^ sh.toNat else (g.a.getD aa 0).fdiv (2 ^ (-sh).toNat), true, false),
   (.mpy e p ad ga gb q, P, false, false), (.mac e p ad ga gb q, D + P, true, false), (.msu e p ad ga gb q, D - P, true, false)] ++
  [(.mpyx e p ad ga xn pm disp q, M, false, true), (.macx e p ad ga xn pm disp q, D + M, true, true), (.msux e p ad ga xn pm disp q, D - M, true, true)]

/-- The instructions with one accumulator result (R110, R112, R117, R118, R121, R125, R127): the value, clamped to 56 bits where the instruction
accumulates; N and Z from it; V, SAT and OVF on a clamp; a data-memory operand reads the word, or 0 with a violation outside the context's
regions, and post-modifies its address register. CLRA clears its accumulator and no flag. -/
def accumulatorResults : Prop :=
  ∀ (s : State) (e p : Nat), Ready s e p → ∀ ad < 4, ∀ ga < 16, ∀ gb < 16, ∀ aa < 4, ∀ ab < 4, ∀ xn < 8, ∀ pm disp sh q g, g = s.dev.eng e →
    ∀ r, r = s.dev.loadWord e (memOperand g xn pm disp).1 →
    (∀ x ∈ aTable e p ad ga gb aa ab xn pm disp sh q r.1 g, ∀ z : Int, z = (if x.2.2.1 then satInt 56 x.2.1 else x.2.1) →
      Does s x.1 (fun t => (t.eng e).settled.a.getD ad 0 = z ∧
        (t.eng e).settled.flags = (decide (z < 0), decide (z = 0), if x.2.2.1 then outside 56 x.2.1 else g.v,
          g.sticky % 8 ||| (if x.2.2.1 && outside 56 x.2.1 then 3 else 0)) ∧
        (x.2.2.2 = true → (t.eng e).viol = (g.viol || r.2) ∧
          (t.eng e).settled.x.getD xn 0 = if pm then postModify g xn disp % 2 ^ 15 else g.x.getD xn 0) ∧
        g.keepsRegs (t.eng e).settled [] [ad] (if x.2.2.2 then [xn] else []) [] ∧ t.ce.dm = s.dev.ce.dm ∧ s.dev.issued t e [])) ∧
    Does s (.clra e p ad) (fun t => (t.eng e).settled.a.getD ad 0 = 0 ∧ (t.eng e).settled.flags = g.flags ∧
      g.keepsRegs (t.eng e).settled [] [ad] [] [] ∧ t.ce.dm = s.dev.ce.dm ∧ s.dev.issued t e [])

/-- The dual multiplications (R112, R121, R122): two products, accumulated by DMAC and DMACX and not by DMPYX; N and Z, and V where it
accumulates, from the first; SAT and OVF from either clamp. Both data words are read in the issue cycle (R126). -/
def dualMultiplications : Prop :=
  ∀ (s : State) (e p : Nat), Ready s e p → ∀ ad < 4, ∀ ae < 4, ad ≠ ae → ∀ ga < 16, ∀ gb < 16, ∀ gc < 16, ∀ gf < 16, ∀ x1 < 8, ∀ x2 < 8, x1 ≠ x2 →
    ∀ s1 s2 q g, g = s.dev.eng e → ∀ w1 w2 k, w1 = (s.dev.loadWord e (g.x.getD x1 0)).1 → w2 = (s.dev.loadWord e (g.x.getD x2 0)).1 →
      k = (if q then 2 else 1 : Int) →
    ∀ y ∈ ([(.dmac e p ad ga gb ae gc gf q, g.a.getD ad 0 + g.gs ga * g.gs gb * k, g.a.getD ae 0 + g.gs gc * g.gs gf * k, true, false),
        (.dmacx e p ad ga x1 s1 ae gb x2 s2 q, g.a.getD ad 0 + g.gs ga * toInt 24 w1 * k, g.a.getD ae 0 + g.gs gb * toInt 24 w2 * k, true, true),
        (.dmpyx e p ad ga x1 s1 ae gb x2 s2 q, g.gs ga * toInt 24 w1 * k, g.gs gb * toInt 24 w2 * k, false, true)] :
        List (Instr × Int × Int × Bool × Bool)),
      ∀ u v : Int, u = (if y.2.2.2.1 then satInt 56 y.2.1 else y.2.1) → v = (if y.2.2.2.1 then satInt 56 y.2.2.1 else y.2.2.1) →
      Does s y.1 (fun t => (t.eng e).settled.a.getD ad 0 = u ∧ (t.eng e).settled.a.getD ae 0 = v ∧
        (t.eng e).settled.flags = (decide (u < 0), decide (u = 0), if y.2.2.2.1 then outside 56 y.2.1 else g.v,
          g.sticky % 8 ||| (if y.2.2.2.1 && (outside 56 y.2.1 || outside 56 y.2.2.1) then 3 else 0)) ∧
        (y.2.2.2.2 = true → (t.eng e).settled.x.getD x1 0 = postModify g x1 s1 % 2 ^ 15 ∧
          (t.eng e).settled.x.getD x2 0 = postModify g x2 s2 % 2 ^ 15) ∧
        g.keepsRegs (t.eng e).settled [] [ad, ae] (if y.2.2.2.2 then [x1, x2] else []) [] ∧ t.ce.dm = s.dev.ce.dm ∧ s.dev.issued t e [])

/-- The instructions that write an accumulator, and the dual multiplications. -/
def Obligations.AccumulatorArithmetic : Prop := accumulatorResults ∧ dualMultiplications

/-- LD and ST (R125 to R127): a load gives the word, or 0 with a violation outside the context's state region and banks; a store changes
that one data word within the state region, and outside it nothing but the violation; both post-modify where the form says so. -/
def Obligations.LoadsAndStores : Prop :=
  ∀ (s : State) (e p : Nat), Ready s e p → ∀ gd < 16, ∀ ga < 16, ∀ xn < 8, ∀ pm disp g, g = s.dev.eng e → ∀ a c, a = (memOperand g xn pm disp).1 →
    c = g.run.getD 0 → ∀ x, x = (if pm then postModify g xn disp % 2 ^ 15 else g.x.getD xn 0) →
    Does s (.ld e p gd xn pm disp) (fun t => (t.eng e).settled.g.getD gd 0 = (if s.dev.mayRead c a then s.dev.dmWord e a else 0) ∧
      (t.eng e).viol = (g.viol || !s.dev.mayRead c a) ∧ (t.eng e).settled.x.getD xn 0 = x ∧ (t.eng e).settled.flags = g.flags ∧
      g.keepsRegs (t.eng e).settled [gd] [] [xn] [] ∧ t.ce.dm = s.dev.ce.dm ∧ s.dev.issued t e []) ∧
    Does s (.st e p ga xn pm disp) (fun t => (s.dev.mayWrite c a = true → t.dmWord e a = g.g.getD ga 0 % 2 ^ 24) ∧
      (∀ k b, k < 12 → b < 32768 → (s.dev.mayWrite c a = false ∨ k ≠ e ∨ b ≠ a % 32768) → t.dmWord k b = s.dev.dmWord k b) ∧
      (t.eng e).viol = (g.viol || !s.dev.mayWrite c a) ∧ (t.eng e).settled.x.getD xn 0 = x ∧ (t.eng e).settled.flags = g.flags ∧
      g.keepsRegs (t.eng e).settled [] [] [xn] [] ∧ s.dev.issued t e [])

/-- The long instructions (R123): each result lies within 2 LSB of the exact one, 3 LSB for ROT before it saturates; RECIP of 0 and RSQRT of a value
that is not positive write 0x7F_FFFF and set DZ and SAT. The exact sine and cosine are taken as `sinFix` and `cosFix` in units of 2^-60; which value
within the bound results is left open by the spec and by the model (log 2). -/
def Obligations.LongInstructions : Prop :=
  ∀ (s : State) (e p : Nat), Ready s e p → ∀ gd < 16, ∀ ga < 16, ∀ gb < 16, ∀ gc < 16, ∀ k < 24, ∀ inv g, g = s.dev.eng e →
    (gd % 2 = 0 → Does s (.sincos e p gd ga) (fun t => ∃ x y : Int,
      (x * 2 ^ 60 - sinFix (g.g.getD ga 0) * (2 ^ 23 - 1)).natAbs ≤ 2 * 2 ^ 60 ∧ (y * 2 ^ 60 - cosFix (g.g.getD ga 0) * (2 ^ 23 - 1)).natAbs ≤ 2 * 2 ^ 60 ∧
      (t.eng e).settled.g.getD gd 0 = ofInt 24 (satInt 24 x) ∧ (t.eng e).settled.g.getD (gd + 1) 0 = ofInt 24 (satInt 24 y) ∧
      (t.eng e).settled.flags = g.flags ∧ g.keepsRegs (t.eng e).settled [gd, gd + 1] [] [] [] ∧ t.ce.dm = s.dev.ce.dm ∧ s.dev.issued t e [.free])) ∧
    (gd % 2 = 0 → ∀ sn cs : Int, sn = (if inv then -sinFix (g.g.getD gc 0) else sinFix (g.g.getD gc 0)) → cs = cosFix (g.g.getD gc 0) →
      Does s (.rot e p gd ga gb gc inv) (fun t => ∃ x y : Int,
      (x * 2 ^ 60 - (g.gs ga * cs - g.gs gb * sn)).natAbs ≤ 3 * 2 ^ 60 ∧ (y * 2 ^ 60 - (g.gs ga * sn + g.gs gb * cs)).natAbs ≤ 3 * 2 ^ 60 ∧
      (t.eng e).settled.g.getD gd 0 = ofInt 24 (satInt 24 x) ∧ (t.eng e).settled.g.getD (gd + 1) 0 = ofInt 24 (satInt 24 y) ∧
      (t.eng e).settled.flags = (g.n, g.z, g.v, g.sticky % 8 ||| (if outside 24 x || outside 24 y then 1 else 0)) ∧
      g.keepsRegs (t.eng e).settled [gd, gd + 1] [] [] [] ∧ t.ce.dm = s.dev.ce.dm ∧ s.dev.issued t e [.free])) ∧
    (g.gs ga ≠ 0 → Does s (.recip e p gd ga k) (fun t => ∃ x : Int, (x * g.gs ga - 2 ^ (46 - k)).natAbs ≤ 2 * (g.gs ga).natAbs ∧
      (t.eng e).settled.g.getD gd 0 = ofInt 24 (satInt 24 x) ∧
      (t.eng e).settled.flags = (decide (satInt 24 x < 0), decide (satInt 24 x = 0), g.v, g.sticky % 8 ||| (if outside 24 x then 1 else 0)) ∧
      g.keepsRegs (t.eng e).settled [gd] [] [] [] ∧ t.ce.dm = s.dev.ce.dm ∧ s.dev.issued t e [.free])) ∧
    (0 < g.gs ga → Does s (.rsqrt e p gd ga k) (fun t => ∃ x : Int, 2 ^ (69 - 2 * k) ≤ (x + 2) ^ 2 * g.gs ga ∧ -1 ≤ x ∧
      (2 ≤ x → (x - 2) ^ 2 * g.gs ga ≤ 2 ^ (69 - 2 * k)) ∧ (t.eng e).settled.g.getD gd 0 = ofInt 24 (satInt 24 x) ∧
      (t.eng e).settled.flags = (decide (satInt 24 x < 0), decide (satInt 24 x = 0), g.v, g.sticky % 8 ||| (if outside 24 x then 1 else 0)) ∧
      g.keepsRegs (t.eng e).settled [gd] [] [] [] ∧ t.ce.dm = s.dev.ce.dm ∧ s.dev.issued t e [.free])) ∧
    (∀ x ∈ ([(.recip e p gd ga k, decide (g.gs ga = 0)), (.rsqrt e p gd ga k, decide (g.gs ga ≤ 0))] : List (Instr × Bool)), x.2 = true →
      Does s x.1 (fun t => (t.eng e).settled.g.getD gd 0 = 0x7FFFFF ∧ (t.eng e).settled.flags = (false, false, g.v, g.sticky % 8 ||| 5) ∧
        g.keepsRegs (t.eng e).settled [gd] [] [] [] ∧ t.ce.dm = s.dev.ce.dm ∧ s.dev.issued t e []))

/-- The flow of a program (R130 to R132): BR, CALL and RET take effect after two delay slots, CALL pushes the address after its second slot and RET
pops it, LOOP opens a loop over the words that follow, and END ends the program in its cycle; none of them changes a register or a flag. -/
def programFlow : Prop :=
  ∀ (s : State) (e : Nat), Ready s e 0 → ∀ (ofs : Int) (count : Nat) (g : Eng), g = s.dev.eng e →
    (∀ x ∈ ([(.br e ofs, ofInt 13 ((g.pc : Int) + ofs), g.rets), (.call e ofs, ofInt 13 ((g.pc : Int) + ofs), ((g.pc + 3) % 8192 :: g.rets).take 4),
        (.ret e, g.rets.headD 0, g.rets.tail)] : List (Instr × Nat × List Nat)), Does s x.1 (fun t =>
      (t.eng e).target = x.2.1 ∧ (t.eng e).slots = 2 ∧ (t.eng e).rets = x.2.2 ∧ (t.eng e).cyc = g.cyc + 1 ∧
      (t.eng e).pc = (loopDecide g.pc ((g.pc + 1) % 8192) g.loops).2 ∧ (t.eng e).loops = (loopDecide g.pc ((g.pc + 1) % 8192) g.loops).1 ∧
      (t.eng e).flags = g.flags ∧ g.keepsRegs (t.eng e) [] [] [] [] ∧ (∀ k, k ≠ e → t.eng k = s.dev.eng k) ∧ s.dev.keeps t [] [.ce])) ∧
    (1 ≤ ofs → ofs < 8192 → g.pc < 8192 → g.slots ≠ 1 → Does s (.loop e count ofs) (fun t => (t.eng e).pc = (g.pc + 1) % 8192 ∧
      (t.eng e).loops = (⟨(g.pc + 1) % 8192, ofInt 13 ((g.pc : Int) + ofs), count⟩ :: g.loops).take 4 ∧ (t.eng e).cyc = g.cyc + 1 ∧
      (t.eng e).flags = g.flags ∧ g.keepsRegs (t.eng e) [] [] [] [] ∧ (∀ k, k ≠ e → t.eng k = s.dev.eng k) ∧ s.dev.keeps t [] [.ce])) ∧
    Does s (.endProgram e) (fun t => (t.eng e).ended = some g.cyc ∧ (t.eng e).cyc = g.cyc + 1 ∧ (t.eng e).pc = g.pc ∧
      t.canIssue e = false ∧ (t.eng e).flags = g.flags ∧ g.keepsRegs (t.eng e) [] [] [] [] ∧ (∀ k, k ≠ e → t.eng k = s.dev.eng k) ∧
      s.dev.keeps t [] [.ce])

/-- Delay slots and loops carried out (R130, R131): a branch and two instructions after it reach the target; the last word of a loop's body
leads back to its start until the count is used up, and then past it. -/
def delaySlotsAndLoops : Prop :=
  (∀ (s : State) (e : Nat), Ready s e 0 → (s.dev.eng e).slots = 0 → (s.dev.eng e).loops = [] → ∀ ofs : Int, ∃ t u v,
    exec (.br e ofs) s = .next t ∧ exec (.nop e 0) t = .next u ∧ exec (.nop e 0) u = .next v ∧
      (t.dev.eng e).pc = ((s.dev.eng e).pc + 1) % 8192 ∧ (u.dev.eng e).pc = ((t.dev.eng e).pc + 1) % 8192 ∧
      (v.dev.eng e).pc = ofInt 13 (((s.dev.eng e).pc : Int) + ofs) ∧ (v.dev.eng e).slots = 0) ∧
  (∀ (s : State) (e : Nat), Ready s e 0 → (s.dev.eng e).slots = 0 → ∀ l : Loop, (s.dev.eng e).loops = [l] → (s.dev.eng e).pc = l.stop →
    (1 < l.left → Does s (.nop e 0) (fun t => (t.eng e).pc = l.start ∧ (t.eng e).loops = [{ l with left := l.left - 1 }])) ∧
    (l.left ≤ 1 → Does s (.nop e 0) (fun t => (t.eng e).pc = (l.stop + 1) % 8192 ∧ (t.eng e).loops = [])))

/-- The flow of a program: branches, calls, loops and END, and how delay slots and loops are carried out. -/
def Obligations.ProgramControl : Prop := programFlow ∧ delaySlotsAndLoops

/-- R116 and R111. An instruction whose predicate does not hold takes its cycle and has no other effect. -/
def predication : Prop :=
  ∀ (s : State) (e p : Nat), s.dev.live = true → s.dev.canIssue e = true → (s.dev.eng e).flight = [] →
    predTrue (s.dev.eng e).n (s.dev.eng e).z (s.dev.eng e).v p = false → ∀ gd ga gb imm xn pm disp ad q port,
    ∀ i ∈ ([.mov e p gd ga, .movk e p gd imm, .add e p gd ga gb, .sub e p gd ga gb, .cmp e p ga gb, .iadd e p gd ga gb, .andBits e p gd ga gb,
      .mpy e p ad ga gb q, .mac e p ad ga gb q, .macx e p ad ga xn pm disp q, .lda e p ad ga, .adda e p ad ad ad, .ld e p gd xn pm disp,
      .st e p ga xn pm disp, .ldx e p xn imm, .inPort e p gd port, .outPort e p port ga, .clrf e p imm, .sincos e p gd ga, .recip e p gd ga imm] : List Instr),
    Does s i (fun t => t.eng e = { (s.dev.eng e).nextPc with cyc := (s.dev.eng e).cyc + 1 } ∧ t.ce.dm = s.dev.ce.dm ∧ s.dev.issued t e [])

/-- R111 and R112. A result lands a fixed number of cycles after its issue and not before: a G result in the next cycle, an accumulator
result in the cycle after, a long result in the third; an accumulator's sum takes the accumulators as they stand when it lands. -/
def latencies : Prop :=
  ∀ (s : State) (e : Nat), Ready s e 0 → ∀ gd < 16, ∀ ga < 16, ∀ gb < 16, ∀ ad < 4, ∀ g, g = s.dev.eng e →
    Does s (.add e 0 gd ga gb) (fun t => (t.eng e).g.getD gd 0 = g.g.getD gd 0 ∧
      ((t.eng e).landAt (g.cyc + 1)).g.getD gd 0 = ofInt 24 (satInt 24 (g.gs ga + g.gs gb))) ∧
    Does s (.mpy e 0 ad ga gb false) (fun t => ((t.eng e).landAt (g.cyc + 1)).a.getD ad 0 = g.a.getD ad 0 ∧
      (((t.eng e).landAt (g.cyc + 1)).landAt (g.cyc + 2)).a.getD ad 0 = g.gs ga * g.gs gb) ∧
    Does s (.recip e 0 gd ga 0) (fun t => (((t.eng e).landAt (g.cyc + 1)).landAt (g.cyc + 2)).g.getD gd 0 = g.g.getD gd 0 ∧
      (t.eng e).settled.g.getD gd 0 = ((((t.eng e).landAt (g.cyc + 1)).landAt (g.cyc + 2)).landAt (g.cyc + 3)).g.getD gd 0) ∧
    ∃ t u, exec (.mac e 0 ad ga gb false) s = .next t ∧ exec (.mac e 0 ad ga gb false) t = .next u ∧
      (u.dev.eng e).settled.a.getD ad 0 = satInt 56 (satInt 56 (g.a.getD ad 0 + g.gs ga * g.gs gb) + g.gs ga * g.gs gb)

/-- An instruction whose predicate does not hold has no effect; a result lands a fixed number of cycles after its issue. -/
def Obligations.IssueAndLanding : Prop := predication ∧ latencies

/-- Encoding and decoding agree: every well-formed engine instruction that has a word decodes from it to itself, on every engine, with
every operand at every value the encoding admits (R119 to R122). -/
def Obligations.ConathRoundTrip : Prop :=
  ∀ (i : Instr) (e w : Nat), i.wf = true → conathWord i = some w → i.engine = some e → w < 2 ^ 48 ∧ conathOk w = true ∧ conathInstr w e = some i

/-- Every well-formed instruction of an engine has a word, and the instruction that a word stands for is carried out as that
instruction is (R119 to R121). -/
def Obligations.ConathWords : Prop :=
  (∀ (i : Instr) (e : Nat), i.wf = true → i.engine = some e → (conathWord i).isSome = true) ∧
  (∀ (w e : Nat) (i : Instr) (s : State), conathInstr w e = some i → conathExec w e s = exec i s) ∧
  (∀ w : Nat, conathUsed (cwOp w) = none → ∀ e, conathInstr w e = none)

/-! ## Pulse generation and the trip matrix -/

/-- Commits, arming requests and the period boundary (R71, R149, R158 to R160, R169). COMMIT on one channel is COMMIT for its lock group. ARM is
refused with PWM_ARM_REFUSED and its reason, or stands until the boundary. At the boundary of a group that is not being aligned the
counters return to 0; a committed transfer moves the shadows into the active registers, a signed duty becoming fine ticks of the new
period; a commit that the pair guard holds moves nothing and is counted; a channel whose request stands is armed in every leg but the
chopper legs. -/
def Obligations.PeriodBoundaries : Prop :=
  ∀ s : State, s.dev.live = true → ∀ n < 6, ∀ ms, ms = s.dev.lgMembers n → ∀ per, per = s.dev.g (Reg.PWM_PER_SH_PER (ms.headD 0)) →
    Does s (.chCommit n) (fun t => (∀ c ∈ ms, t.on (Reg.PWM_CH_CTL_COMMIT c) = true) ∧ s.dev.keeps t (ms.map Reg.PWM_CH_CTL_COMMIT) []) ∧
    (s.dev.armWhy n = none → Does s (.chArm n) (fun t => t.on (Reg.PWM_CH_CTL_ARM n) = true ∧ (t.pch n).armTrip = false ∧
      (∀ k, k ≠ n → t.pch k = s.dev.pch k) ∧ t.pwm.conds = s.dev.pwm.conds ∧ s.dev.keeps t [Reg.PWM_CH_CTL_ARM n] [.pwm])) ∧
    (∀ w, s.dev.armWhy n = some w → Does s (.chArm n) (fun t => t.on (Reg.PWM_CH_CTL_ARM n) = false ∧ t.on (Reg.PWM_CH_STAT_ARM_REF n) = true ∧
      t.g (Reg.PWM_CH_STAT_ARM_WHY n) = w ∧ t.raised = s.dev.plusRecord Err.PWM_ARM_REFUSED [n, w] ∧
      s.dev.keeps t [Reg.PWM_CH_CTL_ARM n, Reg.PWM_CH_STAT_ARM_REF n, Reg.PWM_CH_STAT_ARM_WHY n] [.raised])) ∧
    ((s.dev.g (Reg.LG_MAP_GRP n) = 0 ∨ s.dev.on (Reg.LG_CTL_ALIGN_EN (s.dev.g (Reg.LG_MAP_GRP n))) = false) →
      ((∀ c ∈ ms, s.dev.on (Reg.PWM_CH_CTL_ARM c) = false) → (∃ c ∈ ms, s.dev.on (Reg.PWM_CH_CTL_COMMIT c) = true) →
        (∀ c ∈ ms, s.dev.guardHolds c per = false) → Does s (.periodBoundary n) (fun t => (∀ c ∈ ms,
          t.g (Reg.PWM_CNT_COUNT c) = 0 ∧ t.g (Reg.PWM_PER_ACT_PER c) = per ∧ (t.pch c).len = per ∧ t.on (Reg.PWM_CH_CTL_COMMIT c) = false ∧
          t.g (Reg.PWM_CH_STAT_HOLD_CNT c) = 0 ∧ (∀ k < 4, t.word (Reg.PWM_TRIG_ACT c k) = s.dev.word (Reg.PWM_TRIG_SH c k)) ∧
          (∀ m < 6, t.g (Reg.PWM_CMP_ACT_CMP c m) = (if s.dev.on (Reg.PWM_CMP_SH_FMT c m)
              then dutyTicks (s.dev.g (Reg.PWM_CMP_SH_CMP c m) % 2 ^ 24) per else s.dev.g (Reg.PWM_CMP_SH_CMP c m)) ∧
            t.isArmed c m = s.dev.isArmed c m) ∧
          (s.dev.g (Reg.PWM_CH_CFG_MASK_SRC c) = 0 → t.word (Reg.PWM_MASK_ACT c) = s.dev.word (Reg.PWM_MASK_SH c))) ∧
          (∀ c, c ∉ ms → t.pch c = s.dev.pch c) ∧ t.tb = s.dev.tb ∧ t.ce = s.dev.ce ∧ ∀ a, t.byte a = s.dev.byte a)) ∧
      ((∃ c ∈ ms, s.dev.on (Reg.PWM_CH_CTL_COMMIT c) = true) → (∃ c ∈ ms, s.dev.guardHolds c per = true) →
        (∀ c ∈ ms, s.dev.g (Reg.PWM_CH_STAT_HOLD_CNT c) < 16 ∧ s.dev.on (Reg.PWM_CH_CTL_ARM c) = false) → Does s (.periodBoundary n) (fun t => ∀ c ∈ ms,
          t.g (Reg.PWM_CNT_COUNT c) = 0 ∧ t.on (Reg.PWM_CH_STAT_PAIR_HOLD c) = true ∧ t.on (Reg.PWM_CH_CTL_COMMIT c) = s.dev.on (Reg.PWM_CH_CTL_COMMIT c) ∧
          t.g (Reg.PWM_CH_STAT_HOLD_CNT c) = s.dev.g (Reg.PWM_CH_STAT_HOLD_CNT c) + 1 ∧
          t.g (Reg.PWM_PER_ACT_PER c) = s.dev.g (Reg.PWM_PER_ACT_PER c) ∧
          ∀ m < 6, t.g (Reg.PWM_CMP_ACT_CMP c m) = s.dev.g (Reg.PWM_CMP_ACT_CMP c m))) ∧
      ((∀ c ∈ ms, s.dev.on (Reg.PWM_CH_CTL_COMMIT c) = false) → ∀ c ∈ ms, s.dev.on (Reg.PWM_CH_CTL_ARM c) = true → (s.dev.pch c).armTrip = false →
        s.dev.armWhy c = none → Does s (.periodBoundary n) (fun t => t.on (Reg.PWM_CH_CTL_ARM c) = false ∧
          ∀ m < 6, s.dev.isChop c m = false → t.isArmed c m = true)))

/-- The carrier's edges (R150 to R152, R155, R161): a trigger compare triggers the contexts and starts the idle conversion sequences that name it;
at its compare a two-level leg's H request ends and its L request begins, H going off at once; an output whose partner is off turns on
when its dead time has passed, T1 of a phase only with T2; a calibration that finds the line at the end of its range sets HR_FAIL. -/
def carrierEdges : Prop :=
  ∀ s : State, s.dev.live = true → ∀ n < 6,
    (∀ k < 4, s.dev.on (Reg.PWM_TRIG_ACT_EN n k) = true → s.dev.g (Reg.PWM_TRIG_ACT_VAL n k) < (s.dev.pch n).len →
      Does s (.triggerCompareFire n k) (fun t => t.g (Reg.PWM_CNT_COUNT n) = s.dev.g (Reg.PWM_TRIG_ACT_VAL n k) ∧
        (∀ q < 8, s.dev.on (Reg.SEQ_CFG_EN q) = true → s.dev.g (Reg.SEQ_CFG_TCH q) = n → s.dev.g (Reg.SEQ_CFG_TCMP q) = k →
          s.dev.mea.seqs.getD q none = none → t.mea.seqs.getD q none = some 0) ∧
        (∀ c, 0 < c → c < 256 → s.dev.g (Reg.CTX_W1_TRIG_SRC c) = 1 → s.dev.g (Reg.CTX_W1_TRIG_CH c) = n → s.dev.g (Reg.CTX_W1_TRIG_CMP c) = k →
          s.dev.ctxState c = 2 → s.dev.on (Reg.ENG_STAT_HALT (s.dev.ctxEng c)) = false → s.dev.on (Reg.ENG_STAT_FAULT (s.dev.ctxEng c)) = false →
          (∀ u, (s.dev.ctx c).lastTrig = some u → s.dev.g (Reg.CTX_W2_T_MIN c) ≤ s.dev.tick - u) → (t.ctx c).lastTrig = some s.dev.tick) ∧
        t.tb = s.dev.tb ∧ t.pwm = s.dev.pwm ∧ ∀ a, t.byte a = s.dev.byte a)) ∧
    (∀ m < 6, 0 < (s.dev.leg n m).eff → (s.dev.leg n m).eff < 32 * (s.dev.pch n).len → s.dev.isChop n m = false → s.dev.isNpc n (m / 2) = false →
      s.dev.on (Reg.PWM_CH_STAT_MODE n) = false → s.dev.g (Reg.PWM_MASK_ACT_MASK n m) = 0 → s.dev.on (Reg.PWM_LEG_CFG_MODE n m) = false →
      Does s (.compareMatch n m false) (fun t => t.g (Reg.PWM_CNT_COUNT n) = ((s.dev.leg n m).eff / 32) % 2 ^ 24 ∧ (t.leg n m).car = false ∧
        (t.leg n m).reqH = false ∧ (t.leg n m).reqL = true ∧ (t.leg n m).onH = false ∧ (∀ k, k ≠ n → t.pch k = s.dev.pch k) ∧
        s.dev.keeps t [Reg.PWM_CNT_COUNT n, Reg.PWM_LEG_STAT_CONFLICT n, Reg.PWM_LEG_STAT_NPC_ILL n] [.pwm, .raised])) ∧
    (∀ m < 6, s.dev.isArmed n m = true → ∀ l, l = s.dev.leg n m →
      (s.dev.isChop n m = false → s.dev.isNpc n (m / 2) = false →
        (l.reqH = true → l.reqL = false → l.onL = false → Does s (.deadTimeElapsed n m true) (fun t => t.leg n m = { l with onH := true } ∧
          (∀ k, k ≠ m → t.leg n k = s.dev.leg n k) ∧ (∀ k, k ≠ n → t.pch k = s.dev.pch k) ∧ s.dev.keeps t [] [.pwm])) ∧
        (l.reqL = true → l.reqH = false → l.onH = false → Does s (.deadTimeElapsed n m false) (fun t => t.leg n m = { l with onL := true } ∧
          (∀ k, k ≠ m → t.leg n k = s.dev.leg n k) ∧ (∀ k, k ≠ n → t.pch k = s.dev.pch k) ∧ s.dev.keeps t [] [.pwm])) ∧
        (l.onL = true → exec (.deadTimeElapsed n m true) s = .next s) ∧ (l.onH = true → exec (.deadTimeElapsed n m false) s = .next s)) ∧
      (s.dev.isChop n m = false → s.dev.isNpc n (m / 2) = true → m % 2 = 0 → l.reqH = true → (s.dev.leg n (m + 1)).onL = false →
        ((s.dev.leg n (m + 1)).onH = true → Does s (.deadTimeElapsed n m true) (fun t => t.leg n m = { l with onH := true } ∧ s.dev.keeps t [] [.pwm])) ∧
        ((s.dev.leg n (m + 1)).onH = false → exec (.deadTimeElapsed n m true) s = .next s))) ∧
    (∀ trim, Does s (.hrCalibration n trim false) (fun t => t.on (Reg.PWM_CH_STAT_HR_FAIL n) = false ∧ (t.pch n).trim = trim ∧
        (∀ m, t.leg n m = s.dev.leg n m) ∧ (∀ k, k ≠ n → t.pch k = s.dev.pch k) ∧ s.dev.keeps t [Reg.PWM_CH_STAT_HR_FAIL n] [.pwm]) ∧
      Does s (.hrCalibration n trim true) (fun t => t.on (Reg.PWM_CH_STAT_HR_FAIL n) = true ∧
        t.raised = s.dev.plusRecord Err.PWM_HR_FAIL [n, s.dev.pwm.hrLine] ∧ t.pwm.chs = s.dev.pwm.chs ∧
        s.dev.keeps t [Reg.PWM_CH_STAT_HR_FAIL n] [.pwm, .raised]))

/-- Pattern mode (R163 to R166): CHECK starts a validation, whose end sets CHK_ERR to the first failed check and VALID of that table alone; a write
to pattern memory invalidates the tables that hold the word, and is discarded for the table in use; at an entry the pattern legs take the
table's state; an armed change takes place in the sync window with both requests equal to SYNC_STATE, and a window left without it is
counted, the fourth with a record. -/
def patternMode : Prop :=
  ∀ s : State, s.dev.live = true → ∀ n < 6,
    (∀ b, Does s (.patternCheck n b) (fun t => t.g (Reg.PWM_PAT_CTL_TBL n) = b % 16 ∧ t.on (Reg.PWM_PAT_CTL_CHECK n) = true ∧
      (t.pch n).chk = some (b % 16) ∧ (∀ m, t.leg n m = s.dev.leg n m) ∧ (∀ k, k ≠ n → t.pch k = s.dev.pch k) ∧
      s.dev.keeps t [Reg.PWM_PAT_CTL_TBL n, Reg.PWM_PAT_CTL_CHECK n] [.pwm])) ∧
    (∀ b < 16, (s.dev.pch n).chk = some b → Does s (.patternCheckDone n) (fun t => t.g (Reg.PWM_PAT_STAT_CHK_ERR n) = s.dev.patCheck n b ∧
      (t.g (Reg.PWM_PAT_STAT_VALID n)).testBit b = decide (s.dev.patCheck n b = 0) ∧
      (∀ k, k ≠ b → (t.g (Reg.PWM_PAT_STAT_VALID n)).testBit k = (s.dev.g (Reg.PWM_PAT_STAT_VALID n)).testBit k) ∧
      t.on (Reg.PWM_PAT_CTL_CHECK n) = false ∧ (t.pch n).chk = none ∧
      s.dev.keeps t [Reg.PWM_PAT_CTL_CHECK n, Reg.PWM_PAT_STAT_CHK_ERR n, Reg.PWM_PAT_STAT_VALID n] [.pwm])) ∧
    (∀ i < 4096, ∀ v,
      (s.dev.on (Reg.PWM_CH_STAT_MODE n) = true → (s.dev.pch n).tbl ∈ s.dev.patTables n i → Does s (.patternMemoryWrite n i v) (fun t =>
        t.raised = s.dev.plusRecord Err.PWM_RWL_REFUSED [n, 4 * i] ∧ s.dev.keeps t [] [.raised])) ∧
      (s.dev.on (Reg.PWM_CH_STAT_MODE n) = false ∨ (s.dev.pch n).tbl ∉ s.dev.patTables n i → Does s (.patternMemoryWrite n i v) (fun t =>
        t.patWord n i = v % 2 ^ 32 ∧
        (∀ b < 16, (t.g (Reg.PWM_PAT_STAT_VALID n)).testBit b =
          ((s.dev.g (Reg.PWM_PAT_STAT_VALID n)).testBit b && !(s.dev.patTables n i).contains b)) ∧
        s.dev.keeps t [RF.whole (patAddr n i), Reg.PWM_PAT_STAT_VALID n] []))) ∧
    (s.dev.on (Reg.PWM_CH_STAT_MODE n) = true → Does s (.patternEntry n) (fun t =>
      (∀ m < 6, (s.dev.patLegs n (s.dev.pch n).tbl).testBit m = true → (t.leg n m).pat =
        (patState (s.dev.patEntries n (s.dev.pch n).tbl) (s.dev.patAngle n / 256)).testBit m) ∧ (∀ k, k ≠ n → t.pch k = s.dev.pch k) ∧
      s.dev.keeps t [Reg.PWM_LEG_STAT_CONFLICT n, Reg.PWM_LEG_STAT_NPC_ILL n] [.pwm, .raised])) ∧
    (∀ mode < 2, ∀ b < 16, (s.dev.pch n).pend = some (mode, b) → ∀ gov, gov = (if mode = 1 then b else (s.dev.pch n).tbl) →
      ((inSync (s.dev.patEntries n gov) (s.dev.patSync n gov) (s.dev.patAngle n / 256) = true →
        s.dev.modeAsk n (s.dev.g (Reg.PWM_CH_STAT_MODE n)) (s.dev.pch n).tbl &&& s.dev.patLegs n gov =
          s.dev.patSyncState n gov &&& s.dev.patLegs n gov →
        s.dev.modeAsk n mode b &&& s.dev.patLegs n gov = s.dev.patSyncState n gov &&& s.dev.patLegs n gov →
        Does s (.modeSwitch n) (fun t => t.g (Reg.PWM_CH_STAT_MODE n) = mode ∧ t.on (Reg.PWM_CH_STAT_MODE_PEND n) = false ∧
          t.g (Reg.PWM_PAT_STAT_MISS n) = 0 ∧ (t.pch n).pend = none ∧ (t.pch n).tbl = gov ∧ s.dev.record Err.PWM_MODE_DONE [n, mode, gov] ∈ t.raised ∧
          s.dev.keeps t [RF.whole (Reg.PWM_CH_STAT n), Reg.PWM_PAT_STAT_MISS n, Reg.PWM_LEG_STAT_CONFLICT n, Reg.PWM_LEG_STAT_NPC_ILL n]
            [.pwm, .raised]))) ∧
      Does s (.syncWindowExit n) (fun t => t.g (Reg.PWM_PAT_STAT_MISS n) = satInc 15 (s.dev.g (Reg.PWM_PAT_STAT_MISS n)) ∧
        t.raised = (if s.dev.g (Reg.PWM_PAT_STAT_MISS n) = 3 then s.dev.plusRecord Err.PWM_SYNC_WAIT [n, gov, 4] else s.dev.raised) ∧
        s.dev.keeps t [Reg.PWM_PAT_STAT_MISS n] [.raised]))

/-- The edges of the carriers, and pattern mode. -/
def Obligations.EdgesAndPatterns : Prop := carrierEdges ∧ patternMode

/-- The code with which the clear of a trip group is refused, or 0 (R175). -/
def clrCode (d : Dev) (g : Nat) : Nat :=
  if (d.routed g).any d.srcAct then Err.TRP_CLR_ACTIVE
  else match d.grpQuiet g with
    | some q => if q < d.g (Reg.TRP_GRP_REARM_REARM g) then Err.TRP_CLR_EARLY else 0
    | none => 0

/-- The trip matrix (R170, R172, R174, R175): a qualified source latches each of its groups and disarms their legs in the same tick, and the first
source is recorded; an unqualified one clears its bit and no latch. A clear takes each named group that is quiet, refuses the others and
shows the code of the lowest. A stage's end takes T2 and T3 off. The loss of FCLK disarms every leg but the chopper legs and commands the
brake of each suspended-load channel; its return raises TRP_CLK_LOSS. -/
def Obligations.TripsAndClockLoss : Prop :=
  (∀ s : State, s.dev.live = true →
    (∀ src < 96, tripSource src = true → s.dev.on (Reg.TRP_SRC_CFG_EN src) = true →
      Does s (.tripSourceQualified src true) (fun t => t.srcAct src = true ∧
        (∀ g < 8, (s.dev.g (Reg.TRP_SRC_CFG_GRP src)).testBit g = true → (t.g Reg.TRP_STAT_LATCH).testBit g = true ∧
          (∀ i < 36, (s.dev.grpLegs g).testBit i = true → t.isArmed (i / 6) (i % 6) = false) ∧
          ((s.dev.g Reg.TRP_STAT_LATCH).testBit g = false → t.g (Reg.TRP_GRP_FIRST_SRC g) = src ∧ t.on (Reg.TRP_GRP_FIRST_VALID g) = true ∧
            s.dev.record Err.TRP_LATCH [g, src] ∈ t.raised)) ∧
        (∀ g, (s.dev.g (Reg.TRP_SRC_CFG_GRP src)).testBit g = false →
          (t.g Reg.TRP_STAT_LATCH).testBit g = (s.dev.g Reg.TRP_STAT_LATCH).testBit g) ∧
        t.tb = s.dev.tb ∧ t.ce = s.dev.ce ∧ ∀ a, t.byte a = s.dev.byte a) ∧
      Does s (.tripSourceQualified src false) (fun t => t.srcAct src = false ∧ (∀ k < 96, k ≠ src → t.srcAct k = s.dev.srcAct k) ∧
        t.pwm.chs = s.dev.pwm.chs ∧ t.pwm.conds = s.dev.pwm.conds ∧ s.dev.keeps t [Reg.TRP_SRC_ACT_ACT (src / 32)] [.pwm])) ∧
    (∀ v, Does s (.trpClr v) (fun t =>
      (∀ g < 8, (t.g Reg.TRP_CLR_RESULT_REFUSED).testBit g = (v.testBit g && clrCode s.dev g != 0) ∧
        (t.g Reg.TRP_STAT_LATCH).testBit g = ((s.dev.g Reg.TRP_STAT_LATCH).testBit g && !(v.testBit g && clrCode s.dev g == 0)) ∧
        (v.testBit g = true → clrCode s.dev g ≠ 0 → ∃ r ∈ t.raised, r.code = clrCode s.dev g ∧ r.ctx.head? = some g)) ∧
      t.g Reg.TRP_CLR_RESULT_RESULT = (((maskBits 8 v).map (clrCode s.dev)).find? (fun c => c != 0)).getD 0 ∧
      s.dev.keeps t ([Reg.TRP_STAT_LATCH, Reg.TRP_CLR_RESULT_REFUSED, Reg.TRP_CLR_RESULT_RESULT] ++ (List.range 8).map Reg.TRP_GRP_FIRST_VALID)
        [.raised])) ∧
    (∀ n < 6, ∀ p < 3, (s.dev.phase n p).stage.isSome = true → Does s (.npcStageExpiry n p) (fun t => (t.leg n (2 * p + 1)).onH = false ∧
      (t.leg n (2 * p + 1)).onL = false ∧ (t.phase n p).stage = none ∧ (t.phase n p).st = 0 ∧
      (∀ m, m ≠ 2 * p + 1 → t.leg n m = s.dev.leg n m) ∧ (∀ k, k ≠ n → t.pch k = s.dev.pch k) ∧ s.dev.keeps t [] [.pwm]))) ∧
  ∀ s : State, s.dev.sys.run ≠ .inReset →
    (s.dev.sys.fclkLost = none → Does s .fclkLoss (fun t => t.sys.fclkLost = some s.dev.tick ∧ t.on Reg.SYS_CLK_STAT_FEDGE = true ∧
      (∀ n < 6, (⟨n, 3, 0⟩ : ForceCond) ∈ t.pwm.conds ∧ (∀ m < 6, s.dev.isChop n m = false → t.isArmed n m = false) ∧
        (s.dev.on (Reg.DCL_CH_CFG_SL n) = true → t.on (Reg.DCL_CH_STAT_BRK n) = true)) ∧
      t.tb = s.dev.tb ∧ t.ce = s.dev.ce ∧ ∀ a, t.byte a = s.dev.byte a)) ∧
    (∀ u, s.dev.sys.fclkLost = some u → ∀ ns, Does s (.fclkReturn ns) (fun t => t.sys.fclkLost = none ∧ t.on Reg.TRP_STAT_CLK_LOSS = true ∧
      (∃ l, t.raised = l ++ [s.dev.record Err.TRP_CLK_LOSS [Min.min ns (2 ^ 32 - 1)]]) ∧ t.pwm.conds = s.dev.pwm.conds ∧
      (∀ a, a < ddrKey 0 ∨ flashKey 0 ≤ a → t.byte a = s.dev.byte a) ∧ s.dev.keeps t [Reg.TRP_STAT_CLK_LOSS] [.sys, .raised, .mem, .free]))

/-! ## Measurement and position -/

/-- The sigma-delta inputs and SAR converters (R183 to R194): a sampling edge enters both filters; the comparator follows CMP_CNT edges in a
row; 256 equal edges set STUCK, which clears when the filter has refilled; a trigger starts an idle sequence and is counted against a busy
one; the scan queues each channel once and counts those still queued; a slot takes the next entry of the first sequence, else a scanned
channel, and a shunt channel without its window is predicted; a completed conversion gives value and instant, and the fourth code out of limits
in a row sets LIMIT. -/
def Obligations.Conversions : Prop :=
  ∀ s : State, s.dev.live = true →
    (∀ i < 48, ∀ b h, h = (b :: (s.dev.sdIn i).hist).take 768 → s.dev.on (Reg.SD_CLK_EN (i / 8)) = true → s.dev.on (Reg.SD_CFG_EN i) = true →
      Does s (.sdSamplingEdge i b) (fun t => (t.sdIn i).hist = h ∧
        (t.sdIn i).cur = (s.dev.tick, sincResult (s.dev.g (Reg.SD_CFG_CTL_OSR i)) h, sincResult (s.dev.g (Reg.SD_CFG_PROT_OSR i)) h) ∧
        (t.sdIn i).prev = (s.dev.sdIn i).cur ∧ t.g (Reg.SD_RES_RESULT i) = ofInt 24 (sincResult (s.dev.g (Reg.SD_CFG_CTL_OSR i)) h) ∧
        (∀ k, k ≠ i → t.sdIn k = s.dev.sdIn k) ∧ t.tb = s.dev.tb ∧ t.ce = s.dev.ce ∧ t.pwm = s.dev.pwm ∧ ∀ a, t.byte a = s.dev.byte a)) ∧
    (∀ i < 48, s.dev.on (Reg.SD_CFG_CMP_EN i) = true → ∀ n, n = Max.max 1 (s.dev.g (Reg.SD_CFG_CMP_CNT i)) →
      (n ≤ (s.dev.sdIn i).outC → Does s (.sdComparatorActive i true) (fun t => t.on (Reg.SD_RES_CMP i) = true ∧ s.dev.keeps t [Reg.SD_RES_CMP i] [])) ∧
      (n ≤ (s.dev.sdIn i).inC → Does s (.sdComparatorActive i false) (fun t => t.on (Reg.SD_RES_CMP i) = false ∧
        s.dev.keeps t [Reg.SD_RES_CMP i] []))) ∧
    (∀ i < 48, 256 ≤ (s.dev.sdIn i).run → s.dev.on (Reg.SD_RES_STUCK i) = false → Does s (.meaSdStuck i) (fun t =>
      t.on (Reg.SD_RES_STUCK i) = true ∧ t.on (Reg.SD_RES_INVALID i) = true ∧ t.raised = s.dev.plusRecord Err.MEA_SD_STUCK [i] ∧
      s.dev.keeps t [Reg.SD_RES_STUCK i, Reg.SD_RES_INVALID i] [.raised])) ∧
    (∀ i < 48, ∀ n, (s.dev.sdIn i).chg = some n → 3 * s.dev.g (Reg.SD_CFG_CTL_OSR i) - 2 ≤ n → Does s (.sdStuckClear i) (fun t =>
      t.on (Reg.SD_RES_STUCK i) = false ∧ t.on (Reg.SD_RES_INVALID i) = !s.dev.on (Reg.SD_CLK_EN (i / 8)) ∧ (t.sdIn i).chg = none ∧
      s.dev.keeps t [Reg.SD_RES_STUCK i, Reg.SD_RES_INVALID i] [.mea])) ∧
    (∀ q < 8, s.dev.on (Reg.SEQ_CFG_EN q) = true →
      (s.dev.mea.seqs.getD q none = none → Does s (.sequenceTrigger q) (fun t => t.mea.seqs.getD q none = some 0 ∧
        (∀ k, k ≠ q → t.mea.seqs.getD k none = s.dev.mea.seqs.getD k none) ∧ s.dev.keeps t [] [.mea])) ∧
      (s.dev.mea.seqs.getD q none ≠ none → Does s (.sequenceTrigger q) (fun t =>
        t.g (Reg.SEQ_OVR_COUNT q) = satInc (2 ^ 32 - 1) (s.dev.g (Reg.SEQ_OVR_COUNT q)) ∧
        t.raised = s.dev.plusRecord Err.MEA_SEQ_OVR [q, t.g (Reg.SEQ_OVR_COUNT q)] ∧ s.dev.keeps t [Reg.SEQ_OVR_COUNT q] [.raised]))) ∧
    Does s .backgroundScanStart (fun t =>
      (∀ c < 40, t.mea.scan.getD c false = (s.dev.mea.scan.getD c false ||
        (s.dev.on (Reg.SAR_CFG_SCAN c) && (s.dev.g Reg.ADC_CTL_RUN).testBit (sarAdc c)))) ∧
      t.g Reg.MEA_STAT_SCAN_LATE = Min.min 65535 (s.dev.g Reg.MEA_STAT_SCAN_LATE + ((List.range 40).filter (fun c => s.dev.mea.scan.getD c false &&
        s.dev.on (Reg.SAR_CFG_SCAN c) && (s.dev.g Reg.ADC_CTL_RUN).testBit (sarAdc c))).length) ∧
      s.dev.keeps t [Reg.MEA_STAT_SCAN_LATE] [.mea]) ∧
    (∀ adc < 2, (s.dev.g Reg.ADC_CTL_RUN).testBit adc = true → ∀ at_,
      (∀ q e l c, 4 * adc ≤ q → q < 4 * adc + 4 → s.dev.mea.seqs.getD q none = some e →
        (∀ k, 4 * adc ≤ k → k < q → s.dev.mea.seqs.getD k none = none) → l = s.dev.g (Reg.SEQ_LIST_ENTRY q e) → c = sarChannel adc l →
        l < 20 → 16 ≤ c → s.dev.sarClaimed c = false → Does s (.sarSlotStart adc at_) (fun t =>
          t.mea.slots.getD adc none = some (c, at_) ∧
          t.mea.seqs.getD q none = (if e + 1 < Max.max 1 (s.dev.g (Reg.SEQ_CFG_LEN q)) then some (e + 1) else none) ∧ s.dev.keeps t [] [.mea])) ∧
      ((∀ q, 4 * adc ≤ q → q < 4 * adc + 4 → s.dev.mea.seqs.getD q none = none) →
        ∀ l < 20, ∀ c, c = sarChannel adc l → s.dev.mea.scan.getD c false = true →
        (∀ k < l, s.dev.mea.scan.getD (sarChannel adc k) false = false) → s.dev.sarClaimed c = false →
        (16 ≤ c ∨ ((s.dev.hb c).lo = true ∧ s.dev.g (Reg.SAR_CFG_MIN_WIN c) ≤ (s.dev.hb c).lowT) →
          Does s (.sarSlotStart adc at_) (fun t => t.mea.slots.getD adc none = some (c, at_) ∧ t.mea.scan.getD c false = false ∧ s.dev.keeps t [] [.mea])) ∧
        (c < 16 → (s.dev.hb c).lo = false ∨ (s.dev.hb c).lowT < s.dev.g (Reg.SAR_CFG_MIN_WIN c) → s.dev.g (Reg.SAR_RES_PRED_CNT c) < 8 →
          ∀ t1 x1 t2 x2, (s.dev.sar c).v1 = some (t1, x1) → (s.dev.sar c).v2 = some (t2, x2) → t2 < t1 → Does s (.sarSlotStart adc at_) (fun t =>
            t.on (Reg.SAR_RES_PRED c) = true ∧ t.g (Reg.SAR_RES_PRED_CNT c) = s.dev.g (Reg.SAR_RES_PRED_CNT c) + 1 ∧
            t.word (Reg.SAR_TIME c) = rtTick at_ ∧ t.mea.slots = s.dev.mea.slots ∧
            (∃ r : Int, (r - 1) * ((t1 : Int) - t2) < (x1 - x2) * ((at_ : Int) - t1) ∧ (x1 - x2) * ((at_ : Int) - t1) < (r + 1) * ((t1 : Int) - t2) ∧
              t.g (Reg.SAR_RES_VALUE c) = ofInt 24 (satInt 24 (x1 + r))) ∧
            s.dev.keeps t [Reg.SAR_RES_PRED c, Reg.SAR_RES_PRED_CNT c, Reg.SAR_RES_VALUE c, RF.whole (Reg.SAR_TIME c)] [.mea, .free])))) ∧
    (∀ adc < 2, ∀ code < 16384, ∀ c < 40, ∀ at_, s.dev.mea.slots.getD adc none = some (c, at_) → s.dev.on (Reg.SAR_RES_LIMIT c) = false →
      (s.dev.g (Reg.SAR_LIM_LO c) ≤ code → code ≤ s.dev.g (Reg.SAR_LIM_HI c) → Does s (.sarConversionDone adc code) (fun t =>
        t.mea.slots.getD adc none = none ∧ t.g (Reg.SAR_RES_VALUE c) = ofInt 24 (s.dev.sarValue c code) ∧ t.word (Reg.SAR_TIME c) = rtTick at_ ∧
        t.on (Reg.SAR_RES_PRED c) = false ∧ t.g (Reg.SAR_RES_PRED_CNT c) = 0 ∧ t.on (Reg.SAR_RES_LIMIT c) = false ∧
        t.on (Reg.SAR_RES_INVALID c) = (decide (c < 16) && !s.dev.sys.pinMap.testBit c) ∧
        (t.sar c).v1 = some (at_, s.dev.sarValue c code) ∧ (t.sar c).v2 = (s.dev.sar c).v1 ∧ t.tb = s.dev.tb ∧ t.ce = s.dev.ce)) ∧
      (code < s.dev.g (Reg.SAR_LIM_LO c) ∨ s.dev.g (Reg.SAR_LIM_HI c) < code → 3 ≤ (s.dev.sar c).outC → Does s (.sarConversionDone adc code) (fun t =>
        t.on (Reg.SAR_RES_LIMIT c) = true ∧ t.on (Reg.SAR_RES_INVALID c) = true ∧ s.dev.record Err.MEA_LIMIT [c, code] ∈ t.raised ∧
        t.g (Reg.SAR_RES_VALUE c) = ofInt 24 (s.dev.sarValue c code) ∧ t.word (Reg.SAR_TIME c) = rtTick at_)))

/-- The position inputs (R195 to R202, R208): resolver, encoder, SSI, pulse and capture commands. A resolver's angle lies within 2^-13 turn of that of
its pair, and the second amplitude outside the limits makes it INVALID, holding the angle; an encoder counts one state at a time (its sense
is the model's reading, log 24) and treats a double change as illegal; an index saves count and time; a good SSI frame gives turns and fraction,
a bad one changes neither; captures queue in order. -/
def Obligations.Positions : Prop :=
  ∀ s : State, s.dev.live = true →
    (∀ r < 3, s.dev.on (Reg.RSV_CFG_EN r) = true → s.dev.on (Reg.RSV_ANG_INVALID r) = false → ∀ sn cs : Nat, sn < 16384 → cs < 16384 → ∀ neg at_, ∀ y x : Int,
      y = (if neg then -1 else 1) * ((sn : Int) - 8192) * 1024 → x = (if neg then -1 else 1) * ((cs : Int) - 8192) * 1024 →
      ∀ a, a = isqrt (x * x + y * y).toNat / 128 →
      (s.dev.g (Reg.RSV_LIM_LO r) ≤ a → a < s.dev.g (Reg.RSV_LIM_HI r) → (x ≠ 0 ∨ y ≠ 0) → Does s (.resolverConversion r sn cs neg at_) (fun t =>
        (t.g (Reg.RSV_AMP_AMP r) = a ∨ t.g (Reg.RSV_AMP_AMP r) = a + 1) ∧ t.on (Reg.RSV_ANG_INVALID r) = false ∧
        (∃ off : Int, off.natAbs ≤ 2048 ∧ t.g (Reg.RSV_ANG_ANGLE r) = ofInt 24 (atan2Turn y x + off)) ∧
        s.dev.keeps t [Reg.RSV_AMP_AMP r, Reg.RSV_ANG_ANGLE r, Reg.RSV_ANG_INVALID r] [.mea, .free])) ∧
      (a + 1 < s.dev.g (Reg.RSV_LIM_LO r) → 1 ≤ (s.dev.mea.rsvs.getD r {}).bad → Does s (.resolverConversion r sn cs neg at_) (fun t =>
        t.on (Reg.RSV_ANG_INVALID r) = true ∧ t.on (Reg.RSV_STAT_LOS r) = true ∧ t.g (Reg.RSV_ANG_ANGLE r) = s.dev.g (Reg.RSV_ANG_ANGLE r) ∧
        t.raised = s.dev.plusRecord Err.POS_RSV_LOS [r, t.g (Reg.RSV_AMP_AMP r)] ∧
        s.dev.keeps t [Reg.RSV_AMP_AMP r, Reg.RSV_STAT_LOS r, Reg.RSV_ANG_INVALID r] [.mea, .free, .raised]))) ∧
    (∀ n < 6, s.dev.on (Reg.ENC_CFG_EN n) = true → ∀ e, e = s.dev.enc n → ∀ a b rt,
      (s.dev.on (Reg.ENC_CFG_MODE n) = false → (a != e.a) ≠ (b != e.b) → ∀ z, z = wrapCnt (e.cnt + if (quadPos a b - quadPos e.a e.b) % 4 = 1 then 1 else -1) →
        Does s (.encoderEdge n a b rt) (fun t => t.enc n = { e with a := a, b := b, cnt := z, edge := rt, fresh := true } ∧
          t.word (Reg.ENC_CNT n) = ofInt 32 z ∧ (∀ k, k ≠ n → t.enc k = s.dev.enc k) ∧ s.dev.keeps t [RF.whole (Reg.ENC_CNT n)] [.mea])) ∧
      (s.dev.on (Reg.ENC_CFG_MODE n) = false → a ≠ e.a → b ≠ e.b → Does s (.encoderEdge n a b rt) (fun t => t.enc n = { e with a := a, b := b } ∧
        t.on (Reg.ENC_STAT_ILLEGAL n) = true ∧ t.g (Reg.ENC_STAT_ILL_CNT n) = satInc 65535 (s.dev.g (Reg.ENC_STAT_ILL_CNT n)) ∧
        t.raised = (if s.dev.on (Reg.ENC_STAT_ILLEGAL n) then s.dev.raised else s.dev.plusRecord Err.POS_ENC_ILLEGAL [n]) ∧
        s.dev.keeps t [Reg.ENC_STAT_ILLEGAL n, Reg.ENC_STAT_ILL_CNT n] [.mea, .raised])) ∧
      (s.dev.on (Reg.ENC_CFG_MODE n) = true → a = true → e.a = false → Does s (.encoderEdge n a b rt) (fun t =>
        (t.enc n).cnt = wrapCnt (e.cnt + if b then 1 else -1) ∧ s.dev.keeps t [RF.whole (Reg.ENC_CNT n)] [.mea])) ∧
      Does s (.encoderIndex n rt) (fun t => t.word (Reg.ENC_ZCNT n) = ofInt 32 e.cnt ∧ t.word (Reg.ENC_ZTIME n) = rtTick rt ∧
        t.on (Reg.ENC_STAT_ZSEEN n) = true ∧
        (t.enc n).cnt = (if (s.dev.g (Reg.ENC_CFG_Z_MODE n) = 1 ∧ e.zDone = false) ∨ s.dev.g (Reg.ENC_CFG_Z_MODE n) = 2 then 0 else e.cnt) ∧
        (∀ z, e.zPrev = some z → s.dev.g (Reg.ENC_CFG_CPT n) ≠ 0 → (e.cnt - z).natAbs ≠ s.dev.g (Reg.ENC_CFG_CPT n) →
          t.on (Reg.ENC_STAT_ZERR n) = true ∧ t.raised = s.dev.plusRecord Err.POS_ENC_ZERR [n, w32 (e.cnt - z)]) ∧
        (∀ k, k ≠ n → t.enc k = s.dev.enc k) ∧
        s.dev.keeps t [RF.whole (Reg.ENC_ZCNT n), RF.whole (Reg.ENC_ZTIME n), Reg.ENC_STAT_ZSEEN n, Reg.ENC_STAT_ZERR n, RF.whole (Reg.ENC_CNT n)]
          [.mea, .raised])) ∧
    (∀ n < 6, ∀ v, v % 2 = 1 → Does s (.encoderClr n v) (fun t => t.on (Reg.ENC_CTL_CLR n) = true ∧ t.enc n = { s.dev.enc n with clr := true } ∧
      (∀ k, k ≠ n → t.enc k = s.dev.enc k) ∧ s.dev.keeps t [Reg.ENC_CTL_CLR n] [.mea])) ∧
    (∀ p < 4, s.dev.on (Reg.SSI_CFG_EN p) = true → (s.dev.ssi p).start = none → ∀ rt,
      ((∀ u, (s.dev.ssi p).ended = some u → u + s.dev.g (Reg.SSI_TRG_MONO p) * 250 ≤ s.dev.tick) → Does s (.ssiFrameStart p rt) (fun t =>
        t.ssi p = { s.dev.ssi p with start := some rt } ∧ (∀ k, k ≠ p → t.ssi k = s.dev.ssi k) ∧ s.dev.keeps t [] [.mea])) ∧
      (∀ u, (s.dev.ssi p).ended = some u → s.dev.tick < u + s.dev.g (Reg.SSI_TRG_MONO p) * 250 → Does s (.ssiFrameStart p rt) (fun t =>
        t.g (Reg.SSI_STAT_ERR_CNT p) = satInc 65535 (s.dev.g (Reg.SSI_STAT_ERR_CNT p)) ∧ t.raised = s.dev.plusRecord Err.POS_SSI_ERR [p, Config.recordNumber Err.POS_SSI_ERR 5] ∧
        s.dev.keeps t [Reg.SSI_STAT_ERR_CNT p] [.raised]))) ∧
    (∀ p < 4, ∀ rt, (s.dev.ssi p).start = some rt → ∀ len tb sb, len = s.dev.g (Reg.SSI_CFG_LEN p) → tb = s.dev.g (Reg.SSI_CFG_TURN_BITS p) →
      sb = s.dev.g (Reg.SSI_CFG_ST_BITS p) → tb + sb ≤ len → sb ≤ 24 → ∀ word,
      (s.dev.on (Reg.SSI_CFG_GRAY p) = false → s.dev.on (Reg.SSI_CFG_PAR p) = false →
        word % 2 ^ (len - tb - sb) &&& s.dev.g (Reg.SSI_TRG_STAT_MASK p) = 0 → Does s (.ssiFrameDone p word true true) (fun t =>
          t.word (Reg.SSI_POS_HI p) = word % 2 ^ len / 2 ^ (len - tb) % 2 ^ 32 ∧
          t.g (Reg.SSI_POS_LO_FRAC p) = word / 2 ^ (len - tb - sb) % 2 ^ sb * 2 ^ (24 - sb) ∧ t.on (Reg.SSI_STAT_INVALID p) = false ∧
          t.ssi p = { start := none, at_ := rt, ended := some s.dev.tick, errs := 0, last := false } ∧
          s.dev.keeps t [Reg.SSI_STAT_INVALID p, Reg.SSI_POS_LO_FRAC p, RF.whole (Reg.SSI_POS_HI p)] [.mea])) ∧
      (∀ x ∈ ([(false, true, 1), (false, false, 1), (true, false, 2)] : List (Bool × Bool × Nat)), Does s (.ssiFrameDone p word x.1 x.2.1) (fun t =>
        t.on (Reg.SSI_STAT_ERR p) = true ∧ t.g (Reg.SSI_STAT_ERR_CNT p) = satInc 65535 (s.dev.g (Reg.SSI_STAT_ERR_CNT p)) ∧
        s.dev.record Err.POS_SSI_ERR [p, Config.recordNumber Err.POS_SSI_ERR x.2.2] ∈ t.raised ∧ (t.ssi p).errs = (s.dev.ssi p).errs + 1 ∧ (t.ssi p).last = true ∧
        (Max.max 1 (s.dev.g (Reg.SSI_TRG_ERRMAX p)) ≤ (s.dev.ssi p).errs + 1 → t.on (Reg.SSI_STAT_INVALID p) = true) ∧
        s.dev.keeps t [Reg.SSI_STAT_ERR_CNT p, Reg.SSI_STAT_ERR p, Reg.SSI_STAT_INVALID p] [.mea, .raised]))) ∧
    (∀ p < 4, ∀ v, ∀ len, len = Max.max 8 (Min.min 48 (bits v 21 16)) →
      (s.dev.on (Reg.SSI_CFG_EN p) = false → v.testBit 31 = true → len < bits v 12 8 + bits v 4 0 + bits v 29 29 → Does s (.ssiCfgWrite p v) (fun t =>
        t.raised = s.dev.plusRecord Err.POS_CFG_BAD [p, len, bits v 12 8, bits v 4 0, bits v 29 29] ∧ s.dev.keeps t [] [.raised])) ∧
      (s.dev.on (Reg.SSI_CFG_EN p) = false → (v.testBit 31 = false ∨ bits v 12 8 + bits v 4 0 + bits v 29 29 ≤ len) → Does s (.ssiCfgWrite p v) (fun t =>
        t.on (Reg.SSI_CFG_EN p) = v.testBit 31 ∧ t.g (Reg.SSI_CFG_LEN p) = len ∧ t.g (Reg.SSI_CFG_TURN_BITS p) = bits v 12 8 ∧
        t.g (Reg.SSI_CFG_ST_BITS p) = bits v 4 0 ∧ t.on (Reg.SSI_CFG_PAR p) = v.testBit 29 ∧ t.on (Reg.SSI_CFG_GRAY p) = v.testBit 30 ∧
        s.dev.keeps t [RF.whole (Reg.SSI_CFG p)] [.mea])) ∧
      (s.dev.on (Reg.SSI_CFG_EN p) = true → Does s (.ssiCfgWrite p v) (fun t => t.on (Reg.SSI_CFG_EN p) = v.testBit 31 ∧
        s.dev.keeps t [Reg.SSI_CFG_EN p] [.raised]))) ∧
    (∀ q < 4, s.dev.on (Reg.PLS_CFG_EN q) = true →
      (∀ u at_ high, (s.dev.mea.plss.getD q {}).rise = some u → u < at_ → (s.dev.mea.plss.getD q {}).need ≤ 1 → Does s (.pulseInputEdge q at_ high) (fun t =>
        t.on (Reg.PLS_RES_INVALID q) = false ∧ (t.mea.plss.getD q {}).rise = some at_ ∧
        (∃ r : Int, (if s.dev.on (Reg.PLS_CFG_MODE q)
            then (r - 1) * ((at_ : Int) - u) < high * 2 ^ 24 ∧ high * 2 ^ 24 < (r + 1) * ((at_ : Int) - u) ∧
              t.g (Reg.PLS_RES_VALUE q) = ofInt 24 (satInt 24 (r - 2 ^ 23))
            else (r - 1) * (((at_ : Int) - u) * Max.max 1 (s.dev.g (Reg.PLS_FS_FS q) : Int)) < 250000000 * 2 ^ 23 ∧
              250000000 * 2 ^ 23 < (r + 1) * (((at_ : Int) - u) * Max.max 1 (s.dev.g (Reg.PLS_FS_FS q) : Int)) ∧
              t.g (Reg.PLS_RES_VALUE q) = ofInt 24 (satInt 24 (Min.min r (2 ^ 23 - 1))))) ∧
        s.dev.keeps t [Reg.PLS_RES_INVALID q, Reg.PLS_RES_VALUE q] [.mea, .free])) ∧
      (s.dev.on (Reg.PLS_RES_INVALID q) = false → Does s (.posPlsTimeout q) (fun t => t.on (Reg.PLS_RES_INVALID q) = true ∧
        t.mea.plss.getD q {} = { rise := none, need := 2 } ∧ t.raised = s.dev.plusRecord Err.POS_PLS_TIMEOUT [q] ∧
        s.dev.keeps t [Reg.PLS_RES_INVALID q] [.mea, .raised]))) ∧
    (∀ c < 8, ∀ f, f = (s.dev.mea.caps.getD c {}).fifo →
      (s.dev.on (Reg.CAP_CFG_EN c) = true → capPin (s.dev.g (Reg.CAP_CFG_PIN c)) = true → ∀ rising rt,
        (if rising then s.dev.g (Reg.CAP_CFG_EDGE c) % 2 = 1 else s.dev.g (Reg.CAP_CFG_EDGE c) / 2 = 1) →
        (f.length < 4 → Does s (.captureEdge c rising rt) (fun t => (t.mea.caps.getD c {}).fifo = f ++ [rt / 32 * 32 % 2 ^ 64] ∧
          t.g (Reg.CAP_STAT_LEVEL c) = f.length + 1 ∧ s.dev.keeps t [Reg.CAP_STAT_LEVEL c] [.mea])) ∧
        (4 ≤ f.length → Does s (.captureEdge c rising rt) (fun t => t.g (Reg.CAP_STAT_OVR c) = satInc 65535 (s.dev.g (Reg.CAP_STAT_OVR c)) ∧
          t.raised = s.dev.plusRecord Err.POS_CAP_OVR [c] ∧ s.dev.keeps t [Reg.CAP_STAT_OVR c] [.raised]))) ∧
      (∀ x rest, f = x :: rest → rest.length < 4 → Does s (.capturePop c) (fun t => t.word (Reg.CAP_LO c) = x % 2 ^ 32 ∧
        t.word (Reg.CAP_HI c) = x / 2 ^ 32 % 2 ^ 32 ∧ (t.mea.caps.getD c {}).fifo = rest ∧ t.g (Reg.CAP_STAT_LEVEL c) = rest.length ∧
        s.dev.keeps t [RF.whole (Reg.CAP_LO c), RF.whole (Reg.CAP_HI c), Reg.CAP_STAT_LEVEL c] [.mea])) ∧
      (f = [] → Does s (.capturePop c) (fun t => t.word (Reg.CAP_LO c) = 0 ∧ t.word (Reg.CAP_HI c) = 0 ∧
        s.dev.keeps t [RF.whole (Reg.CAP_LO c), RF.whole (Reg.CAP_HI c)] [])))

/-! ## The drive library and the auxiliary bridges -/

/-- Commands to a library context that runs and is bound to its conditioner (R215 to R217, R220, R225, R228 to R231, R238): SEQ toggles and the
status word acknowledges it; START, STOP and CLEAR lead to the state that the image's list gives, and any other command is refused with
REASON 3 and no change of STATE; DECIDE takes a FLY context to the state of the decision it permits. A poll notes the word, reports a change
of STATE or REASON, and disarms the channels of a current loop that entered FAULT. The get-home handover posts its two HANDOVER Bells. -/
def Obligations.LibraryCommands : Prop :=
  ∀ s : State, s.dev.live = true →
    (∀ (k : LibImage) (c j : Nat), 0 < c → c < 256 → j < 16 → s.dev.libBound c j = true → s.dev.libRuns c = true → ∀ old, old = s.dev.libStatus c →
      (∀ arg, ∀ x ∈ ([(.libStart k c j arg, 1, libStart k), (.libStop k c j arg, 2, libStop k), (.libClear k c j arg, 4, libClear k)] :
          List (Instr × Nat × (Nat → Except Nat Nat))), Does s x.1 (fun t =>
        t.g (Reg.SPC_HOST_VALUE j) = cmdWord (s.dev.g (Reg.SPC_HOST_VALUE j)) x.2.1 arg ∧
        bits (t.libStatus c) 22 22 = 1 - bits (s.dev.g (Reg.SPC_HOST_VALUE j)) 22 22 ∧
        (∀ st, x.2.2 (libState old) = .ok st → libState (t.libStatus c) = st ∧ libReason (t.libStatus c) = 0) ∧
        (∀ r, x.2.2 (libState old) = .error r → libState (t.libStatus c) = libState old ∧ libReason (t.libStatus c) = r) ∧
        (∀ e a, e < 12 → a < 32768 → (e ≠ s.dev.ctxEng c ∨ a ≠ s.dev.libAddr c) → t.dmWord e a = s.dev.dmWord e a) ∧ t.tb = s.dev.tb ∧
        t.pwm = s.dev.pwm ∧ ∀ a, t.byte a = s.dev.byte a)) ∧
      (∀ code < 6, ∀ est : FlyEstimate, libState old = 3 →
        (est.expired = true → Does s (.libDecide .fly c j code est) (fun t => libState (t.libStatus c) = 1 ∧ libReason (t.libStatus c) = 5)) ∧
        (est.expired = false → code ≠ flyDecision est (s.dev.flyCap c) → Does s (.libDecide .fly c j code est) (fun t =>
          libState (t.libStatus c) = 3 ∧ libReason (t.libStatus c) = 4 ∧ t.hst = s.dev.hst)) ∧
        (est.expired = false → code = flyDecision est (s.dev.flyCap c) → Does s (.libDecide .fly c j code est) (fun t =>
          libState (t.libStatus c) = flyNext code ∧ (t.libStatus c).testBit 7 = false ∧
          ∀ q ∈ t.hst.proposals, ¬ (q.func = 1 ∧ q.unit = 0x100 + c)))) ∧
      (∀ code est, k ≠ .fly → Does s (.libDecide k c j code est) (fun t => libState (t.libStatus c) = libState old ∧ libReason (t.libStatus c) = 3))) ∧
    (∀ (k : LibImage) (c : Nat), 0 < c → c < 256 → s.dev.libRuns c = true → s.dev.on Reg.HST_CTL_SV_READY = true → ∀ w old, w = s.dev.libStatus c →
      old = s.dev.libSeen c → Does s (.libStatusPoll k c) (fun t => t.libSeen c = w ∧
        (libState w ≠ libState old ∨ libReason w ≠ libReason old →
          (⟨0, s.dev.tb.rt, Err.ERR_LIB_STATUS, errSev Err.ERR_LIB_STATUS, 0, 1, [c, old, w]⟩ : ErrRec) ∈ t.raised) ∧
        (libState w = libState old → libReason w = libReason old → k ≠ .fly → t.raised = s.dev.raised ∧ t.pwm = s.dev.pwm) ∧
        (k = .focPm ∨ k = .focIm ∨ k = .afeI → libState w = 3 → libState old ≠ 3 → ∀ n < 6, (s.dev.ctxBind c).testBit n = true →
          ∀ m < 6, s.dev.isChop n m = false → t.isArmed n m = false) ∧
        t.tb = s.dev.tb ∧ t.ce = s.dev.ce ∧ ∀ a, t.byte a = s.dev.byte a)) ∧
    (∀ n < 6, ∀ when_ < 2 ^ 64, ∀ g : GetHome, s.dev.hst.getHome[n]? = some g → g.en = true → s.dev.on Reg.HST_CTL_SV_READY = true →
      ∀ w1 w2, w1 = rtWords when_ ++ [5 * 65536, g.foc + 256 * g.ghFoc, 0] → w2 = rtWords when_ ++ [5 * 65536, g.spd + 256 * g.ghSpd, 0] →
      ∀ u : Dev, u = (s.dev.bellPost 0 w1).2.2 → u.g (Reg.BELL_RESULT_RESULT 0) = 0 → (u.bellPost 0 w2).1 = 0 →
        Does s (.gethomeHandoverPost n when_) (fun t => t = (u.bellPost 0 w2).2.2 ∧ t.occ = s.dev.occ + 2 ∧ t.ce = s.dev.ce ∧ t.pwm = s.dev.pwm))

/-- The registers that show the half-bridges' state. -/
def hbShown : List RF := (List.range 16).flatMap (fun n => [Reg.HB_STAT_HELD n, Reg.HB_STAT_ACTIVE n])

/-- Both outputs of every half-bridge are low. -/
def Dev.allLow (d : Dev) : Prop := ∀ n < 16, (d.hb n).ho = false ∧ (d.hb n).lo = false

/-- The auxiliary half-bridges (R239 to R252): a carrier's boundary transfers duties; GD_UV, VBR_OV, VBR_UV and AUX_EN low hold every output low, and the
first two halt the commutators and axes that drive them; a bootstrap undervoltage takes HO low, and a second one soon after is a failure;
current limits cut the set or latch; the rise of AUX_EN clears what has ended; leakage tests start, end, and are refused by condition. -/
def Obligations.AuxBridges : Prop :=
  ∀ s : State, s.dev.live = true →
    (∀ c < 4, s.dev.on (Reg.ACAR_CFG_EN c) = true → Does s (.auxCarrierBoundary c) (fun t => t.g (Reg.ACAR_CNT_COUNT c) = 0 ∧
      (∀ n < 16, s.dev.g (Reg.HB_CFG_OWNER n) = 1 → s.dev.on (Reg.HB_CFG_RUN n) = true → s.dev.g (Reg.HB_CFG_CAR n) = c → (s.dev.hb n).leak = false →
        (t.hb n).cmp = auxCompare (s.dev.g (Reg.HB_DUTY_DUTY n)) (s.dev.g (Reg.ACAR_CFG_PER c)) ∧ (t.hb n).want = decide (0 < (t.hb n).cmp) ∧
        (t.hb n).live = true) ∧ t.tb = s.dev.tb ∧ t.pwm = s.dev.pwm ∧ t.ce = s.dev.ce ∧ ∀ a, t.byte a = s.dev.byte a)) ∧
    (∀ n < 16, 0 < (s.dev.hb n).cmp → (s.dev.hb n).cmp < s.dev.g (Reg.ACAR_CFG_PER (s.dev.hbCarrier n)) → Does s (.auxCompareMatch n) (fun t =>
      t.g (Reg.ACAR_CNT_COUNT (s.dev.hbCarrier n)) = (s.dev.hb n).cmp ∧ (t.hb n).want = false ∧ (t.hb n).cut = false ∧
      (s.dev.g (Reg.HB_CFG_OWNER n) = 1 → s.dev.g (Reg.HB_CFG_MODE n) = 0 → (t.hb n).ho = false) ∧
      (∀ k, k ≠ n → t.hb k = s.dev.hb k) ∧
      s.dev.keeps t [Reg.ACAR_CNT_COUNT (s.dev.hbCarrier n), Reg.HB_STAT_HELD n, Reg.HB_STAT_ACTIVE n] [.aux])) ∧
    (∀ mv < 65536,
      (∀ x ∈ ([(.auxGdUv mv, Reg.AUX_STAT_GD_UV, Reg.AUX_VDRV_MV, Err.AUX_GD_UV), (.auxVbrOv mv, Reg.AUX_STAT_VBR_OV, Reg.AUX_VBR_MV, Err.AUX_VBR_OV)] :
          List (Instr × RF × RF × Nat)), Does s x.1 (fun t => t.on x.2.1 = true ∧ t.g x.2.2.1 = mv ∧ Dev.allLow t ∧ s.dev.record x.2.2.2 [mv] ∈ t.raised ∧
        (∀ k < 2, s.dev.on (Reg.CMU_CFG_MAIN k) = false → s.dev.cmState k ≠ 0 → s.dev.cmState k ≠ 8 → t.cmState k = 8 ∧ t.g (Reg.CMU_STAT_REASON k) = 5) ∧
        (∀ n < 4, s.dev.on (Reg.STP_CFG_OUTM n) = false → s.dev.axState n ≠ 0 → s.dev.axState n ≠ 5 → s.dev.on (Reg.STP_STAT_HOMED n) = false →
          t.axState n = 5 ∧ t.g (Reg.STP_STAT_REASON n) = 6) ∧ t.tb = s.dev.tb ∧ t.ce = s.dev.ce ∧ ∀ a, t.byte a = s.dev.byte a)) ∧
      Does s (.auxVbrUv mv) (fun t => t.on Reg.AUX_STAT_VBR_UV = true ∧ t.g Reg.AUX_VBR_MV = mv ∧ Dev.allLow t ∧
        t.raised = s.dev.plusRecord Err.AUX_VBR_UV [mv] ∧ s.dev.keeps t ([Reg.AUX_STAT_VBR_UV, Reg.AUX_VBR_MV] ++ hbShown) [.aux, .raised]) ∧
      Does s (.vbrUvRelease mv) (fun t => t.on Reg.AUX_STAT_VBR_UV = false ∧ t.g Reg.AUX_VBR_MV = mv ∧
        s.dev.keeps t ([Reg.AUX_STAT_VBR_UV, Reg.AUX_VBR_MV] ++ hbShown) [.aux])) ∧
    Does s .auxEnLow (fun t => t.on Reg.AUX_STAT_EN = false ∧ Dev.allLow t ∧ (∀ n < 16, (t.hb n).live = false) ∧
      (∀ k < 2, s.dev.on (Reg.CMU_CFG_MAIN k) = false → s.dev.cmState k ≠ 0 → s.dev.cmState k ≠ 8 → t.cmState k = 8 ∧ t.g (Reg.CMU_STAT_REASON k) = 6) ∧
      t.tb = s.dev.tb ∧ ∀ a, t.byte a = s.dev.byte a) ∧
    Does s .auxEnClear (fun t => t.on Reg.AUX_STAT_EN = true ∧ (∀ n < 16, t.hbLatched n = false) ∧
      t.on Reg.AUX_STAT_GD_UV = (s.dev.on Reg.AUX_STAT_GD_UV && decide (s.dev.g Reg.AUX_VDRV_MV ≤ 8800)) ∧
      t.on Reg.AUX_STAT_VBR_OV = (s.dev.on Reg.AUX_STAT_VBR_OV && decide (62000 ≤ s.dev.g Reg.AUX_VBR_MV)) ∧
      t.on Reg.AUX_STAT_LINK = (s.dev.on Reg.AUX_STAT_LINK && decide (s.dev.sys.d2dGood < 16)) ∧
      t.g Reg.AUX_STAT_CLR_CNT = satInc 255 (s.dev.g Reg.AUX_STAT_CLR_CNT) ∧
      t.raised = s.dev.plusRecord Err.AUX_EN_CLEAR [s.dev.auxLatches - t.auxLatches, t.auxLatches] ∧
      s.dev.keeps t (RF.whole Reg.AUX_STAT :: (List.range 16).map (fun n => RF.whole (Reg.HB_STAT n))) [.aux, .raised]) ∧
    (∀ n < 16,
      Does s (.bootstrapUvlo n) (fun t => t.on (Reg.HB_STAT_BS_OK n) = false ∧ (t.hb n).uv = true ∧ (t.hb n).ho = false ∧
        ((s.dev.hb n).uvPer = none → (t.hb n).rfDue = some (s.dev.tick + 500) ∧ t.raised = s.dev.raised) ∧
        ((s.dev.hb n).uvPer ≠ none → t.on (Reg.HB_STAT_BS_FAIL n) = true ∧ (t.hb n).lo = false ∧ t.raised = s.dev.plusRecord Err.AUX_BS_FAIL [n, Config.recordNumber Err.AUX_BS_FAIL 1]) ∧
        (∀ k, k ≠ n → t.hb k = s.dev.hb k) ∧ s.dev.keeps t [RF.whole (Reg.HB_STAT n)] [.aux, .raised]) ∧
      Does s (.bootstrapUvRelease n) (fun t => t.on (Reg.HB_STAT_BS_OK n) = true ∧ (t.hb n).uv = false ∧ (∀ k, k ≠ n → t.hb k = s.dev.hb k) ∧
        s.dev.keeps t [RF.whole (Reg.HB_STAT n)] [.aux]) ∧
      Does s (.currentLimitHit n) (fun t => t.on (Reg.HB_STAT_ILIM_ACT n) = true ∧
        ((s.dev.g (Reg.HB_CFG_OWNER n) = 1 ∨ s.dev.g (Reg.HB_CFG_OWNER n) = 4) → ∀ m ∈ s.dev.limitSet n, (t.hb m).cut = true ∧ (t.hb m).ho = false) ∧
        (∀ k < 2, s.dev.g (Reg.HB_CFG_OWNER n) = k + 2 → s.dev.cmState k = 3 → ∀ m ∈ s.dev.cmuHbs k, (t.hb m).loCut = true) ∧
        s.dev.keeps t (Reg.HB_STAT_ILIM_ACT n :: hbShown) [.aux]) ∧
      (s.dev.on (Reg.HB_ILIM_IOC n) = true → Does s (.auxOc n) (fun t => t.on (Reg.HB_STAT_OC n) = true ∧ (t.hb n).ho = false ∧ (t.hb n).lo = false ∧
        s.dev.record Err.AUX_OC [n, s.dev.g (Reg.HB_ILIM_IOC n)] ∈ t.raised ∧ t.tb = s.dev.tb ∧ ∀ a, t.byte a = s.dev.byte a)) ∧
      (∀ side < 2, ∀ tt, (s.dev.hb n).leak = false →
        (s.dev.hbActive n = false → (s.dev.hb n).ho = false → (s.dev.hb n).lo = false → (s.dev.hb n).hoOff + 2500 ≤ s.dev.tick →
          (s.dev.hb n).loOff + 2500 ≤ s.dev.tick → s.dev.on Reg.AUX_STAT_EN = true → s.dev.on Reg.AUX_STAT_VDRV_OK = true →
          (side = 1 ∨ s.dev.on (Reg.HB_STAT_BS_OK n) = true) → Does s (.leakTestStart n side tt) (fun t => t.on (Reg.HB_LEAK_START n) = true ∧
            t.g (Reg.HB_LEAK_SIDE n) = side ∧ t.g (Reg.HB_LEAK_T_TEST n) = Max.max 2 (Min.min 40 tt) ∧ t.hb n = { s.dev.hb n with leak := true } ∧
            (∀ k, k ≠ n → t.hb k = s.dev.hb k) ∧ s.dev.keeps t [Reg.HB_LEAK_START n, Reg.HB_LEAK_SIDE n, Reg.HB_LEAK_T_TEST n] [.aux])) ∧
        (s.dev.hbActive n = true → Does s (.leakTestStart n side tt) (fun t => t.on (Reg.HB_LEAK_START n) = false ∧
          t.raised = s.dev.plusRecord Err.AUX_LEAK_REFUSED [n, Config.recordNumber Err.AUX_LEAK_REFUSED 1] ∧
          s.dev.keeps t [Reg.HB_LEAK_START n, Reg.HB_LEAK_SIDE n, Reg.HB_LEAK_T_TEST n] [.raised]))) ∧
      ((s.dev.hb n).leak = true → ∀ rise opened, ∀ code, code = (if opened then 255 else Min.min 255 (rise / 10)) → ∀ lo hi,
        lo = (if s.dev.g (Reg.HB_LEAK_SIDE n) = 0 then s.dev.g (Reg.HB_LKWIN_H_MIN n) else s.dev.g (Reg.HB_LKWIN_L_MIN n)) →
        hi = (if s.dev.g (Reg.HB_LEAK_SIDE n) = 0 then s.dev.g (Reg.HB_LKWIN_H_MAX n) else s.dev.g (Reg.HB_LKWIN_L_MAX n)) →
        Does s (.leakTestDone n rise opened) (fun t => t.g (Reg.HB_LEAK_CODE n) = code ∧ t.on (Reg.HB_LEAK_OPEN n) = opened ∧
          t.on (Reg.HB_LEAK_DONE n) = true ∧ t.on (Reg.HB_LEAK_START n) = false ∧ (t.hb n).leak = false ∧
          (opened = true ∨ code < lo ∨ hi < code → t.on (Reg.HB_STAT_LEAK n) = true ∧ (t.hb n).ho = false ∧ (t.hb n).lo = false ∧
            t.raised = s.dev.plusRecord Err.AUX_LEAK [n, s.dev.g (Reg.HB_LEAK_SIDE n), code, b2n opened]) ∧
          (opened = false → lo ≤ code → code ≤ hi → t.on (Reg.HB_STAT_LEAK n) = s.dev.on (Reg.HB_STAT_LEAK n) ∧ t.raised = s.dev.raised) ∧
          (∀ k, k ≠ n → t.hb k = s.dev.hb k) ∧ s.dev.keeps t [RF.whole (Reg.HB_LEAK n), RF.whole (Reg.HB_STAT n)] [.aux, .raised]))) ∧
    (∀ k < 2, s.dev.on (Reg.CMU_CFG_MAIN k) = true → Does s (.currentLimitHit (16 + k)) (fun t => t.cmu k = { s.dev.cmu k with cut := true } ∧
      t.tb = s.dev.tb ∧ ∀ a, t.byte a = s.dev.byte a))

/-! ## Commutators and step axes -/

/-- The commands of a commutator (R257 to R259, R262, R264, R265): START enters SENSE from IDLE or shows why it may not, STOP ends or brakes, CLEAR leaves
FAULT, and each in another state is refused with its number; a decision in DECIDE is applied where the estimate, or the retry, permits it, and
else refused with REASON 9. -/
def Obligations.CommutatorCommands : Prop :=
  ∀ s : State, s.dev.live = true → ∀ k < 2,
    (s.dev.cmState k = 0 → s.dev.cmuStartBad k = none → Does s (.cmuStart k) (fun t => t.cmState k = 1 ∧ t.g (Reg.CMU_STAT_ATTEMPT k) = 0 ∧
      t.g (Reg.CMU_STAT_REASON k) = 0 ∧ (t.cmu k).seen = [] ∧ (∀ j, j ≠ k → t.cmu j = s.dev.cmu j) ∧ t.tb = s.dev.tb ∧ ∀ a, t.byte a = s.dev.byte a)) ∧
    (∀ r, s.dev.cmState k = 0 → s.dev.cmuStartBad k = some r → Does s (.cmuStart k) (fun t => t.g (Reg.CMU_STAT_REASON k) = r ∧
      t.raised = s.dev.plusRecord Err.CMU_CFG_BAD [k, r] ∧ s.dev.keeps t [Reg.CMU_STAT_REASON k] [.raised])) ∧
    (s.dev.cmState k ≠ 0 → s.dev.cmState k ≠ 8 → Does s (.cmuStop k false) (fun t => t.cmState k = 0 ∧ t.on (Reg.CMU_STAT_PROPOSE k) = false ∧
        (∀ q ∈ t.hst.proposals, ¬ (q.func ≤ 1 ∧ q.unit = k)) ∧ t.aux.axes = s.dev.aux.axes ∧ t.tb = s.dev.tb) ∧
      Does s (.cmuStop k true) (fun t => t.cmState k = 3 ∧ (t.cmu k).toIdle = true ∧ t.on (Reg.CMU_STAT_PROPOSE k) = false ∧ t.tb = s.dev.tb)) ∧
    (s.dev.cmState k = 8 → Does s (.cmuClear k) (fun t => t.cmState k = 0 ∧ t.g (Reg.CMU_STAT_REASON k) = s.dev.g (Reg.CMU_STAT_REASON k) ∧
      t.tb = s.dev.tb ∧ ∀ a, t.byte a = s.dev.byte a)) ∧
    (∀ x ∈ ([(.cmuStart k, 1, [0]), (.cmuStop k true, 2, [1, 2, 3, 4, 5, 6, 7, 9, 10, 11, 12, 13, 14, 15]), (.cmuDecide k 1 0, 3, [2]), (.cmuClear k, 4, [8])] :
        List (Instr × Nat × List Nat)), s.dev.cmState k ∉ x.2.2 → Does s x.1 (fun t =>
      t.raised = s.dev.plusRecord Err.CMU_CMD_REFUSED [k, x.2.1, s.dev.cmState k] ∧ s.dev.keeps t [] [.raised])) ∧
    (s.dev.cmState k = 2 → ∀ code iovr,
      ((s.dev.cmu k).retry = false → code ∈ (s.dev.cmuEstimate k).2 → Does s (.cmuDecide k code iovr) (fun t =>
        t.cmState k = [4, 6, 3, 7].getD code 0 ∧ t.on (Reg.CMU_STAT_PROPOSE k) = false ∧
        (∀ q ∈ t.hst.proposals, ¬ (q.func = 1 ∧ q.unit = k)) ∧ (∀ j, j ≠ k → t.cmu j = s.dev.cmu j) ∧ t.tb = s.dev.tb)) ∧
      ((s.dev.cmu k).retry = true → code = 4 → s.dev.g (Reg.CMU_STAT_ATTEMPT k) ≠ 3 → Does s (.cmuDecide k code iovr) (fun t => t.cmState k = 1 ∧
        t.g (Reg.CMU_STAT_ATTEMPT k) = s.dev.g (Reg.CMU_STAT_ATTEMPT k) + 1 ∧ (t.cmu k).iOvr = iovr ∧ t.tb = s.dev.tb)) ∧
      ((s.dev.cmu k).retry = true → code = 5 → Does s (.cmuDecide k code iovr) (fun t => t.cmState k = 8 ∧ t.g (Reg.CMU_STAT_REASON k) = 2 ∧
        s.dev.record Err.CMU_START_FAIL [k, s.dev.g (Reg.CMU_STAT_ATTEMPT k), 2] ∈ t.raised)) ∧
      ((s.dev.cmu k).retry = false ∧ code ∉ (s.dev.cmuEstimate k).2 ∨
          (s.dev.cmu k).retry = true ∧ code ≠ 5 ∧ (code ≠ 4 ∨ s.dev.g (Reg.CMU_STAT_ATTEMPT k) = 3) →
        Does s (.cmuDecide k code iovr) (fun t => t.g (Reg.CMU_STAT_REASON k) = 9 ∧
          t.raised = s.dev.plusRecord Err.CMU_DECIDE_REFUSED [k, code, s.dev.g (Reg.CMU_STAT_PROPOSAL k)] ∧
          s.dev.keeps t [Reg.CMU_STAT_REASON k] [.raised])))

/-- The starting sequence of a commutator (R257 to R263): SENSE ends in the decision of its estimate, taken at once in AUTO and proposed else; BRAKE, ALIGN,
RAMP and WAIT lead on as the rules say, with FAULT for what fails; lock leads to RUN, and 36 sectors without it to the retry decision. The
sector that a CATCH begins in is the model's reading (log 22). -/
def commutatorSequence : Prop :=
  ∀ s : State, s.dev.live = true → ∀ k < 2,
    (s.dev.cmState k = 1 →
      ((s.dev.cmu k).seen = [] →
        (s.dev.assistMode 1 = 0 → Does s (.senseEnd k) (fun t => t.cmState k = 4 ∧ (t.cmu k).est = 0 ∧ t.tb = s.dev.tb)) ∧
        (s.dev.assistMode 1 ≠ 0 → Does s (.senseEnd k) (fun t => t.cmState k = 2 ∧ t.on (Reg.CMU_STAT_PROPOSE k) = true ∧ t.g (Reg.CMU_STAT_PROPOSAL k) = 0 ∧
          (∃ q ∈ t.hst.proposals, q.func = 1 ∧ q.unit = k ∧ q.code = 0) ∧ s.dev.record Err.CMU_PROPOSE [k, 0, 2 ^ 24 - 1] ∈ t.raised))) ∧
      (∀ x, (s.dev.cmu k).seen = [x] → s.dev.assistMode 1 = 0 → Does s (.senseEnd k) (fun t => t.cmState k = 7 ∧ (t.cmu k).est = 3)) ∧
      (∀ u v c, c < 6 → (s.dev.cmu k).seen = [(u + 3 * v, (c + 3) % 6), (u + 2 * v, (c + 2) % 6), (u + v, (c + 1) % 6), (u, c)] →
        s.dev.on (Reg.CMU_CFG_DIR k) = false → 0 < v → v ≤ s.dev.g (Reg.CMU_CATCH_T_STILL k) * 2500 → v ≤ s.dev.g (Reg.CMU_SPD_T_SYNC k) * 250 →
        s.dev.assistMode 1 = 0 → Does s (.senseEnd k) (fun t => t.cmState k = 6 ∧ t.g (Reg.CMU_TSEC_TICKS k) = v ∧
          t.g (Reg.CMU_STAT_SECTOR k) = (c + 2) % 6 ∧ (t.cmu k).est = 1)) ∧
      (∀ at_ code, Does s (.zeroCrossing k at_ code) (fun t => t.cmu k = { s.dev.cmu k with seen := (at_, code % 6) :: (s.dev.cmu k).seen } ∧
        (∀ j, j ≠ k → t.cmu j = s.dev.cmu j) ∧ s.dev.keeps t [] [.aux]))) ∧
    (s.dev.cmState k = 3 → ∀ peak,
      Does s (.brakeEnd k true peak) (fun t => t.cmState k = 8 ∧ t.g (Reg.CMU_STAT_REASON k) = 10 ∧ s.dev.record Err.CMU_BRAKE_TIMEOUT [k, peak] ∈ t.raised) ∧
      Does s (.brakeEnd k false peak) (fun t => t.cmState k = (if (s.dev.cmu k).toIdle then 0 else 4) ∧ t.tb = s.dev.tb)) ∧
    (s.dev.cmState k = 4 →
      ((s.dev.cmu k).peak < ((s.dev.cmu k).iA * 2 ^ 14 : Nat) → Does s (.alignEnd k) (fun t => t.cmState k = 8 ∧ t.g (Reg.CMU_STAT_REASON k) = 4 ∧
        s.dev.record Err.CMU_MISSING_PHASE [k, [1, 2, 2, 0, 0, 1].getD (s.dev.g (Reg.CMU_STAT_SECTOR k)) 1, 4] ∈ t.raised)) ∧
      (((s.dev.cmu k).iA * 2 ^ 14 : Nat) ≤ (s.dev.cmu k).peak → Does s (.alignEnd k) (fun t => t.cmState k = 5 ∧ t.aux.cmus = s.dev.aux.cmus ∧
        t.tb = s.dev.tb ∧ ∀ a, t.byte a = s.dev.byte a))) ∧
    (s.dev.cmState k = 5 →
      Does s (.rampEnd k) (fun t => t.cmu k = { s.dev.cmu k with lock := true, lockCnt := 0, secCnt := 0, crossed := false } ∧ s.dev.keeps t [] [.aux]) ∧
      ((s.dev.cmu k).lock = true → Max.max 1 (s.dev.g (Reg.CMU_ZC_LOCK_N k)) ≤ (s.dev.cmu k).lockCnt → Does s (.lockAchieved k) (fun t =>
        t.cmState k = 6 ∧ t.g (Reg.CMU_TSEC_TICKS k) = s.dev.g (Reg.CMU_SPD_T_SYNC k) * 250 ∧ t.g (Reg.CMU_STAT_MISS k) = 0 ∧
        (t.cmu k).duty = s.dev.cmuTarget k ∧ t.tb = s.dev.tb)) ∧
      ((s.dev.cmu k).lock = true → 36 ≤ (s.dev.cmu k).secCnt →
        (s.dev.assistMode 0 = 0 → s.dev.g (Reg.CMU_STAT_ATTEMPT k) < 3 → Does s (.cmuStartFail k) (fun t => t.cmState k = 7 ∧ (t.cmu k).bump = true)) ∧
        (s.dev.assistMode 0 = 0 → s.dev.g (Reg.CMU_STAT_ATTEMPT k) = 3 → Does s (.cmuStartFail k) (fun t => t.cmState k = 8 ∧
          t.g (Reg.CMU_STAT_REASON k) = 1 ∧ s.dev.record Err.CMU_START_FAIL [k, 3, 1] ∈ t.raised)) ∧
        (s.dev.assistMode 0 ≠ 0 → Does s (.cmuStartFail k) (fun t => t.cmState k = 2 ∧ (t.cmu k).retry = true ∧
          t.g (Reg.CMU_STAT_PROPOSAL k) = (if s.dev.g (Reg.CMU_STAT_ATTEMPT k) = 3 then 5 else 4) ∧ ∃ q ∈ t.hst.proposals, q.func = 0 ∧ q.unit = k)))) ∧
    (s.dev.cmState k = 7 → s.dev.g (Reg.CMU_STAT_ATTEMPT k) < 3 → Does s (.cmuWaitEnd k) (fun t => t.cmState k = 1 ∧ (t.cmu k).bump = false ∧
      t.g (Reg.CMU_STAT_ATTEMPT k) = s.dev.g (Reg.CMU_STAT_ATTEMPT k) + b2n (s.dev.cmu k).bump ∧ (t.cmu k).seen = [] ∧ t.tb = s.dev.tb))

/-- Commutation (R254 to R256, R261, R263): in RUN a crossing sets the sector time and the instant of the next commutation, a commutation takes the next
sector of the direction and counts, a sector without a crossing counts as missed, and the sixth in a row loses lock; RAMP commutates on
time. What is stated of a commutation in RUN is of one at which no missing-phase test is due. -/
def commutations : Prop :=
  ∀ s : State, s.dev.live = true → ∀ k < 2,
    (s.dev.cmState k = 6 → ∀ u at_ code, (s.dev.cmu k).lastX = some u → u < at_ → s.dev.tick ≤ at_ → s.dev.g (Reg.CMU_CFG_ADV k) ≤ 30 →
      ∀ ts : Nat, ts = Min.min (at_ - u) (2 ^ 24 - 1) → Does s (.zeroCrossing k at_ code) (fun t => t.g (Reg.CMU_TSEC_TICKS k) = ts ∧
        t.g (Reg.CMU_STAT_MISS k) = 0 ∧ (t.cmu k).lastX = some at_ ∧ (t.cmu k).crossed = true ∧
        60 * ((t.cmu k).dueAt - at_) < ts * (30 - s.dev.g (Reg.CMU_CFG_ADV k)) + 60 ∧ ts * (30 - s.dev.g (Reg.CMU_CFG_ADV k)) < 60 * ((t.cmu k).dueAt - at_) + 60 ∧
        s.dev.keeps t [Reg.CMU_TSEC_TICKS k, Reg.CMU_STAT_MISS k] [.aux, .free])) ∧
    (s.dev.cmState k = 6 → (s.dev.cmu k).comms + 1 < 6 * Max.max 1 (s.dev.g (Reg.CMU_MP_MP_TURNS k)) →
      ((s.dev.cmu k).crossed = true → Does s (.commutation k) (fun t => t.cmState k = 6 ∧ t.g (Reg.CMU_STAT_SECTOR k) = s.dev.nextSector k ∧
        t.g (Reg.CMU_CNT_COUNT k) = (s.dev.g (Reg.CMU_CNT_COUNT k) + 1) % 2 ^ 32 ∧ (t.cmu k).crossed = false ∧
        (t.cmu k).comms = (s.dev.cmu k).comms + 1 ∧ (∀ j, j ≠ k → t.cmu j = s.dev.cmu j) ∧ t.tb = s.dev.tb ∧ ∀ a, t.byte a = s.dev.byte a)) ∧
      ((s.dev.cmu k).crossed = false → s.dev.g (Reg.CMU_STAT_MISS k) < 5 → Does s (.sectorMiss k) (fun t => t.cmState k = 6 ∧
        t.g (Reg.CMU_STAT_SECTOR k) = s.dev.nextSector k ∧ t.g (Reg.CMU_STAT_MISS k) = s.dev.g (Reg.CMU_STAT_MISS k) + 1)) ∧
      ((s.dev.cmu k).crossed = false → s.dev.g (Reg.CMU_STAT_MISS k) = 5 → Does s (.sectorMiss k) (fun t => t.cmState k = 8 ∧
        t.g (Reg.CMU_STAT_REASON k) = 3 ∧ s.dev.record Err.CMU_LOST [k, s.dev.g (Reg.CMU_TSEC_TICKS k), s.dev.nextSector k] ∈ t.raised))) ∧
    (s.dev.cmState k = 5 → Does s (.openLoopCommutation k) (fun t => t.cmState k = 5 ∧ t.g (Reg.CMU_STAT_SECTOR k) = s.dev.nextSector k ∧
      t.g (Reg.CMU_CNT_COUNT k) = (s.dev.g (Reg.CMU_CNT_COUNT k) + 1) % 2 ^ 32 ∧
      ((s.dev.cmu k).lock = true → (t.cmu k).lockCnt = (if (s.dev.cmu k).crossed then (s.dev.cmu k).lockCnt + 1 else 0) ∧
        (t.cmu k).secCnt = (s.dev.cmu k).secCnt + 1) ∧ (∀ j, j ≠ k → t.cmu j = s.dev.cmu j) ∧ t.tb = s.dev.tb))

/-- A commutator from its start to its commutations. -/
def Obligations.CommutatorRuns : Prop := commutatorSequence ∧ commutations

/-- The registers that a command of axis n may show its effect in: its own status, position and speed, and what its half-bridges show. -/
def axShown (n : Nat) : List RF := [RF.whole (Reg.STP_STAT n), RF.whole (Reg.STP_POS n), RF.whole (Reg.STP_SPD n)] ++ hbShown

/-- The commands of a step axis (R272, R274, R275, R282, R285): each is taken in the state that R275 names for it, and else refused with its number and the
state; ENABLE needs owned half-bridges and a running carrier, START with gearing an enabled wheel that is not its own; SET_POS makes
the position TARGET and homes; HOME begins with SEEK, or with BACKOFF at an active input. -/
def axisCommands : Prop :=
  ∀ s : State, s.dev.live = true → ∀ n < 4, ∀ a, a = s.dev.axis n → ∀ st, st = s.dev.axState n →
    (∀ x ∈ ([(.stpEnable n, 1, [0]), (.stpDisable n, 2, [1, 5]), (.stpStart n, 3, [1]), (.stpStop n, 4, [2, 4]), (.stpHome n, 5, [1]),
        (.stpClear n, 6, [5]), (.setPos n, 7, [1])] : List (Instr × Nat × List Nat)), st ∉ x.2.2 → Does s x.1 (fun t =>
      t.raised = s.dev.plusRecord Err.STP_CMD_REFUSED [n, x.2.1, st] ∧ s.dev.keeps t [] [.raised])) ∧
    (st = 0 →
      ((s.dev.on (Reg.STP_CFG_OUTM n) = true ∨ ((∀ i < 4, s.dev.g (Reg.HB_CFG_OWNER (4 * n + i)) = 4) ∧
          s.dev.on (Reg.ACAR_CFG_EN (s.dev.g (Reg.STP_CFG_CAR n))) = true)) → Does s (.stpEnable n) (fun t => t.axState n = 1 ∧ (t.axis n).v = 0 ∧
        (t.axis n).p = a.p ∧ (∀ i < 4, (t.hb (4 * n + i)).live = false) ∧ (∀ k, k ≠ n → t.axis k = s.dev.axis k) ∧ s.dev.keeps t (axShown n) [.aux])) ∧
      (s.dev.on (Reg.STP_CFG_OUTM n) = false → (∃ i < 4, s.dev.g (Reg.HB_CFG_OWNER (4 * n + i)) ≠ 4) → Does s (.stpEnable n) (fun t =>
        t.raised = s.dev.plusRecord Err.STP_CFG_BAD [n, Config.recordNumber Err.STP_CFG_BAD 1] ∧ s.dev.keeps t [] [.raised]))) ∧
    (st = 1 ∨ st = 5 → Does s (.stpDisable n) (fun t => t.axState n = 0 ∧ (t.axis n).v = 0 ∧ (t.axis n).p = a.p ∧
      t.on (Reg.STP_STAT_HOMED n) = (s.dev.on (Reg.STP_STAT_HOMED n) && s.dev.on (Reg.STP_CFG_OUTM n)) ∧
      (∀ k, k ≠ n → t.axis k = s.dev.axis k) ∧ s.dev.keeps t (axShown n) [.aux])) ∧
    (st = 1 → s.dev.on (Reg.STP_CFG_OUTM n) = false →
      (s.dev.on (Reg.STP_CFG_MODE n) = false → Does s (.stpStart n) (fun t => t.axState n = 2 ∧ (t.axis n).p = a.p ∧
        (∀ k, k ≠ n → t.axis k = s.dev.axis k) ∧ s.dev.keeps t (axShown n) [.aux])) ∧
      (s.dev.on (Reg.STP_CFG_MODE n) = true → ∀ w, w = s.dev.g (Reg.STP_GEAR_WHEEL n) → s.dev.on (Reg.WHL_CFG_EN w) = true →
        ¬ (s.dev.g (Reg.WHL_CFG_SRC w) = 5 ∧ s.dev.g (Reg.WHL_CFG_SEL w) = n) → Does s (.stpStart n) (fun t => t.axState n = 2 ∧ (t.axis n).p = a.p ∧
          (t.axis n).gorg = a.p ∧ (t.axis n).wref = (s.dev.wheel w).pos / 256 ∧ (t.axis n).neg = false ∧ t.on (Reg.STP_GEAR_SIGN n) = false)) ∧
      (s.dev.on (Reg.STP_CFG_MODE n) = true → s.dev.on (Reg.WHL_CFG_EN (s.dev.g (Reg.STP_GEAR_WHEEL n))) = false → Does s (.stpStart n) (fun t =>
        t.raised = s.dev.plusRecord Err.STP_CFG_BAD [n, Config.recordNumber Err.STP_CFG_BAD 3] ∧ s.dev.keeps t [] [.raised]))) ∧
    (st = 2 →
      (a.v ≠ 0 → Does s (.stpStop n) (fun t => t.axState n = 3 ∧ (t.axis n).p = a.p ∧ (t.axis n).v = a.v ∧ s.dev.keeps t (axShown n) [.aux])) ∧
      (a.v = 0 → Does s (.stpStop n) (fun t => t.axState n = 1 ∧ t.word (Reg.STP_TARGET n) = w32 (a.p / mstep) ∧
        s.dev.keeps t (RF.whole (Reg.STP_TARGET n) :: axShown n) [.aux]))) ∧
    (st = 1 → s.dev.g (Reg.STP_LIMSRC_HOME_SRC n) % 64 ≠ 63 → Does s (.stpHome n) (fun t => t.axState n = 4 ∧
      t.g (Reg.STP_STAT_HSTEP n) = (if a.homeIn then 2 else 1) ∧ t.g (Reg.STP_STAT_BOUNCE n) = 0 ∧ (t.axis n).pStart = a.p ∧ (t.axis n).rev = false ∧
      s.dev.keeps t (axShown n) [.aux])) ∧
    (st = 5 → Does s (.stpClear n) (fun t => t.axState n = 0 ∧ t.axis n = a ∧ s.dev.keeps t (axShown n) [.aux])) ∧
    (st = 1 → Does s (.setPos n) (fun t => (t.axis n).p = s.dev.sg (Reg.STP_TARGET_VALUE n) * mstep ∧
      t.word (Reg.STP_POS n) = s.dev.word (Reg.STP_TARGET n) ∧ t.on (Reg.STP_STAT_HOMED n) = true ∧ t.axState n = 1 ∧
      (∀ k, k ≠ n → t.axis k = s.dev.axis k) ∧ s.dev.keeps t (axShown n) [.aux]))

/-- The events of a step axis (R275, R281, R284, R285): a limit switch shows and is recorded, and its release clears it; the home input enters the axis; a
homing phase ends on its condition, SLOW with the position referred to the edge and HOMED set; at rest a stop ends in HOLD with TARGET at the
position, and a finished homing in HOLD with its record; standby and the gearing lag are shown. -/
def axisEvents : Prop :=
  ∀ s : State, s.dev.live = true → ∀ n < 4, ∀ a, a = s.dev.axis n → ∀ st, st = s.dev.axState n →
    (∀ hi : Bool, (if hi then s.dev.g (Reg.STP_LIMSRC_LIM_HI_SRC n) else s.dev.g (Reg.STP_LIMSRC_LIM_LO_SRC n)) / 128 = 1 → st ≠ 4 →
      Does s (.stpHwLimit n hi) (fun t => t.on (if hi then Reg.STP_STAT_LIM_HI_ACT n else Reg.STP_STAT_LIM_LO_ACT n) = true ∧
        t.raised = s.dev.plusRecord Err.STP_HW_LIMIT [n, Config.recordNumber Err.STP_HW_LIMIT (b2n hi), w32 (a.p / mstep)] ∧
        s.dev.keeps t [if hi then Reg.STP_STAT_LIM_HI_ACT n else Reg.STP_STAT_LIM_LO_ACT n] [.raised])) ∧
    (∀ hi : Bool, Does s (.limitInputRelease n hi) (fun t => t.on (if hi then Reg.STP_STAT_LIM_HI_ACT n else Reg.STP_STAT_LIM_LO_ACT n) = false ∧
      s.dev.keeps t [if hi then Reg.STP_STAT_LIM_HI_ACT n else Reg.STP_STAT_LIM_LO_ACT n] [])) ∧
    (∀ active, Does s (.homeInputEdge n active) (fun t => (t.axis n).homeIn = active ∧ (t.axis n).p = a.p ∧
      (st = 4 → s.dev.g (Reg.STP_STAT_HSTEP n) = 3 → (t.axis n).pEdge = if active then some a.p else none) ∧
      (∀ k, k ≠ n → t.axis k = s.dev.axis k) ∧ s.dev.keeps t [Reg.STP_STAT_BOUNCE n] [.aux])) ∧
    (st = 4 → a.fail = 0 → a.decel = false → a.v ≠ 0 →
      (s.dev.g (Reg.STP_STAT_HSTEP n) = 1 → Does s (.homingPhaseEnd n) (fun t => t.axis n = { a with homeIn := true, decel := true } ∧
        s.dev.keeps t [] [.aux])) ∧
      (s.dev.g (Reg.STP_STAT_HSTEP n) = 2 → a.homeIn = false → Does s (.homingPhaseEnd n) (fun t => t.axis n = { a with decel := true } ∧
        s.dev.keeps t [] [.aux])) ∧
      (∀ e, s.dev.g (Reg.STP_STAT_HSTEP n) = 3 → a.pEdge = some e → Does s (.homingPhaseEnd n) (fun t =>
        t.axis n = { a with p := a.p - e + s.dev.sg (Reg.STP_HOFS_VALUE n) * mstep, decel := true } ∧ t.on (Reg.STP_STAT_HOMED n) = true ∧
        t.g (Reg.STP_STAT_HSTEP n) = 4 ∧ s.dev.keeps t [Reg.STP_STAT_HOMED n, Reg.STP_STAT_HSTEP n] [.aux]))) ∧
    (a.v = 0 → a.fail = 0 →
      (st = 3 → Does s (.axisStopped n) (fun t => t.axState n = 1 ∧ t.word (Reg.STP_TARGET n) = w32 (a.p / mstep) ∧ (t.axis n).p = a.p ∧
        s.dev.keeps t (RF.whole (Reg.STP_TARGET n) :: axShown n) [.aux])) ∧
      (∀ e, st = 4 → a.decel = true → s.dev.g (Reg.STP_STAT_HSTEP n) = 4 → a.pEdge = some e → Does s (.axisStopped n) (fun t => t.axState n = 1 ∧
        t.g (Reg.STP_STAT_HSTEP n) = 0 ∧ t.raised = s.dev.plusRecord Err.STP_HOME_DONE [n, w32 (e / mstep), s.dev.g (Reg.STP_STAT_BOUNCE n)] ∧
        s.dev.keeps t (axShown n) [.aux, .raised]))) ∧
    (st = 1 → a.v = 0 → Does s (.holdStandby n) (fun t => t.axis n = { a with standby := true } ∧
      s.dev.keeps t [Reg.STP_IEFF_I n, Reg.STP_IEFF_LAGF n] [.aux])) ∧
    (st = 2 → s.dev.on (Reg.STP_CFG_MODE n) = true → s.dev.g (Reg.STP_GEAR_LAG_MAX n) ≠ 0 →
      (s.dev.g (Reg.STP_GEAR_LAG_MAX n) : Int) * mstep < (a.g - a.p).natAbs → s.dev.on (Reg.STP_STAT_LAG n) = false → Does s (.stpLag n) (fun t =>
        t.on (Reg.STP_STAT_LAG n) = true ∧ t.raised = s.dev.plusRecord Err.STP_LAG [n, w32 (satInt 32 ((a.g - a.p) / mstep))] ∧
        s.dev.keeps t [Reg.STP_STAT_LAG n] [.raised]))

/-- The commands and the events of the step axes. -/
def Obligations.StepAxes : Prop := axisCommands ∧ axisEvents

/-! ## DC link, braking and power budget -/

/-- A suspended-load channel is braking or held: its brake is commanded, with a state and a cause. -/
def Dev.slIs (t : Dev) (c st cause : Nat) : Prop :=
  t.g (Reg.DCL_CH_STAT_SLSTATE c) = st ∧ t.g (Reg.DCL_CH_STAT_CAUSE c) = cause ∧ t.on (Reg.DCL_CH_STAT_BRK c) = true

/-- The DC-link monitors and their choppers (R294 to R301, R319): a monitor is enabled only with ordered thresholds; two edges beyond CH_ON or CH_OFF turn
the chopper command, and its leg's request with it; WARN brakes the suspended loads; the trip forces every other member safe and holds the
suspended loads; a lost measurement ends chopping and trips; a failed chopper limits at once; CLEAR_DL and DECIDE_CHOP end what they name or
are refused with the condition. -/
def Obligations.DcLinkMonitors : Prop :=
  (∀ s : State, s.dev.live = true → ∀ m < 4,
    (∀ v, s.dev.on (Reg.DL_CFG_EN m) = false → s.dev.dlFree m = true → v.testBit 31 = true → bits v 13 8 ≤ 35 →
      (∀ j < 4, j ≠ m → s.dev.g (Reg.DL_CFG_MEMBERS j) &&& bits v 5 0 = 0) →
      (s.dev.dlOrder m = 0 → Does s (.dlEnableWrite m v) (fun t => t.on (Reg.DL_CFG_EN m) = true ∧ t.g (Reg.DL_CFG_MEMBERS m) = bits v 5 0 ∧
        t.g (Reg.DL_CFG_VSRC m) = bits v 29 24 ∧ t.on (Reg.DL_CFG_CHOP_EN m) = v.testBit 30 ∧
        (t.mon m).desig = (if v.testBit 30 then some (bits v 13 8) else none) ∧
        (v.testBit 30 = true → (s.dev.mon m).desig = none → t.isChop (bits v 13 8 / 6) (bits v 13 8 % 6) = true ∧
          ∀ g < 7, (t.grpLegs g).testBit (bits v 13 8) = false) ∧ t.tb = s.dev.tb ∧ t.ce = s.dev.ce ∧ ∀ a, t.byte a = s.dev.byte a)) ∧
      (s.dev.dlOrder m ≠ 0 → Does s (.dlEnableWrite m v) (fun t => t.on (Reg.DL_CFG_EN m) = false ∧
        s.dev.record Err.DCL_CFG_BAD [m, Config.recordNumber Err.DCL_CFG_BAD (s.dev.dlOrder m)] ∈ t.raised))) ∧
    (s.dev.on (Reg.DL_CFG_EN m) = true → s.dev.on (Reg.DL_STAT_INVALID m) = false →
      (∀ u, (s.dev.mon m).chgAt = some u → u + 250 * s.dev.g (Reg.DL_TIM_CH_MIN m) ≤ s.dev.tick) → ∀ on, on = s.dev.on (Reg.DL_STAT_CHOP_ON m) →
      2 ≤ (if on then (s.dev.mon m).offC else (s.dev.mon m).onC) → Does s (.chopperCommandChange m) (fun t => t.on (Reg.DL_STAT_CHOP_ON m) = !on ∧
        (t.mon m).chgAt = some s.dev.tick ∧ (∀ l < 36, (s.dev.mon m).desig = some l → (s.dev.g Reg.TRP_STAT_LATCH).testBit 7 = false →
          s.dev.on (Reg.DL_STAT_CHOP_FAIL m) = false → s.dev.on Reg.TRP_STAT_CLK_LOSS = false →
          (t.leg (l / 6) (l % 6)).reqH = !on ∧ t.isArmed (l / 6) (l % 6) = true ∧ (on = true → (t.leg (l / 6) (l % 6)).onH = false)) ∧
        t.tb = s.dev.tb ∧ t.raised = s.dev.raised ∧ ∀ a, t.byte a = s.dev.byte a)) ∧
    (s.dev.on (Reg.DL_CFG_EN m) = true → s.dev.on (Reg.DL_STAT_WARN m) = false → s.dev.dlCode m (s.dev.dlWarn m) ≤ s.dev.dlProt m →
      Does s (.dclWarn m) (fun t => t.on (Reg.DL_STAT_WARN m) = true ∧ (∃ v, s.dev.record Err.DCL_WARN [m, v] ∈ t.raised) ∧
        (∀ c ∈ s.dev.dlSl m, s.dev.g (Reg.DCL_CH_STAT_SLSTATE c) ≤ 1 → Dev.slIs t c 2 2 ∧ (t.dch c).drop = 1) ∧
        t.pwm = s.dev.pwm ∧ t.tb = s.dev.tb ∧ ∀ a, t.byte a = s.dev.byte a)) ∧
    (s.dev.on (Reg.DL_CFG_EN m) = true → s.dev.dlProt m ≤ s.dev.dlWarnOff m → Does s (.dcLinkWarnClear m) (fun t => t.on (Reg.DL_STAT_WARN m) = false ∧
      s.dev.keeps t [Reg.DL_STAT_WARN m] [])) ∧
    (s.dev.on (Reg.DL_CFG_EN m) = true → s.dev.on (Reg.DL_STAT_TRIP m) = false →
      ∀ x ∈ ([(.dclTrip m, 3, Max.max 1 (s.dev.g (Reg.DL_TIM_TRIP_CNT m)) ≤ (s.dev.mon m).tripC),
          (.dclMeasLost m, 4, s.dev.on (Reg.DL_STAT_INVALID m) = false ∧ s.dev.sdInvalid (s.dev.g (Reg.DL_CFG_VSRC m)) = true)] : List (Instr × Nat × Prop)),
        x.2.2 → Does s x.1 (fun t => t.on (Reg.DL_STAT_TRIP m) = true ∧
          (x.2.1 = 4 → t.on (Reg.DL_STAT_INVALID m) = true ∧ t.on (Reg.DL_STAT_CHOP_ON m) = false ∧ s.dev.record Err.DCL_MEAS_LOST [m] ∈ t.raised) ∧
          (x.2.1 = 3 → ∃ v, s.dev.record Err.DCL_TRIP [m, v] ∈ t.raised) ∧
          (∀ c ∈ s.dev.dlMembers m, s.dev.on (Reg.DCL_CH_CFG_SL c) = false → (⟨c, 7, 300 + m⟩ : ForceCond) ∈ t.pwm.conds ∧
            ∀ k < 6, s.dev.isChop c k = false → t.isArmed c k = false) ∧
          (∀ c ∈ s.dev.dlSl m, s.dev.g (Reg.DCL_CH_STAT_SLSTATE c) ≠ 3 →
            (s.dev.on (Reg.PWM_CH_STAT_SAFE c) = true ∨ ∃ k < 6, s.dev.isArmed c k = true ∧ s.dev.isChop c k = false) →
            Dev.slIs t c 3 x.2.1 ∧ (t.dch c).drop = if x.2.1 = 3 then 2 else 1) ∧ t.tb = s.dev.tb ∧ ∀ a, t.byte a = s.dev.byte a)) ∧
    (s.dev.on (Reg.DL_CFG_EN m) = true → s.dev.on (Reg.DL_CFG_CHOP_EN m) = true → s.dev.on (Reg.DL_STAT_CHOP_FAIL m) = false →
      ∀ src, (src = 2 ∧ (s.dev.g Reg.TRP_STAT_LATCH).testBit 7 = true ∨ src = 1 ∧ s.dev.on (Reg.DL_STAT_CHOP_ON m) = true ∧
        ∃ l, (s.dev.mon m).desig = some l ∧ (s.dev.leg (l / 6) (l % 6)).onH = true ∧
          (s.dev.sdIn (s.dev.g (Reg.DL_CFG_ISRC m))).cur.2.2 < toInt 16 (s.dev.g (Reg.DL_CHI_CH_IMIN m)) * 256) → Does s (.dclChopFail m src) (fun t =>
        t.on (Reg.DL_STAT_CHOP_FAIL m) = true ∧ t.g (Reg.DL_STAT_FAIL_SRC m) = src ∧ s.dev.record Err.DCL_CHOP_FAIL [m, src] ∈ t.raised ∧
        t.g (Reg.DL_STAT_REACT m) = (if s.dev.assistMode 7 = 0 then s.dev.chopProposal m else 1) ∧
        (s.dev.assistMode 7 ≠ 0 → t.on (Reg.DL_STAT_PROPOSE m) = true ∧ ∃ q ∈ t.hst.proposals, q.func = 7 ∧ q.unit = m) ∧
        t.tb = s.dev.tb ∧ ∀ a, t.byte a = s.dev.byte a)) ∧
    (s.dev.dlCtl m ≤ s.dev.dlWarnOff m → (s.dev.on (Reg.DL_STAT_CHOP_FAIL m) = false ∨ (s.dev.g Reg.TRP_STAT_LATCH).testBit 7 = false) →
      Does s (.clearDl m) (fun t => t.on (Reg.DL_STAT_TRIP m) = false ∧ t.on (Reg.DL_STAT_CHOP_FAIL m) = false ∧ (t.mon m).tripC = 0 ∧
        t.g Reg.DCL_CMD_RESULT_RESULT = 0 ∧ (∀ x ∈ t.pwm.conds, x ∈ s.dev.pwm.conds ∧ ¬ (x.why = 7 ∧ x.inst = 300 + m)) ∧
        t.raised = s.dev.raised ∧ t.tb = s.dev.tb)) ∧
    (∀ x ∈ ([(.clearDl m, 1, 2, s.dev.dlWarnOff m < s.dev.dlCtl m), (.decideChop m 1, 2, 4, s.dev.on (Reg.DL_STAT_PROPOSE m) = false),
        (.decideChop m 0, 2, 1, s.dev.on (Reg.DL_STAT_PROPOSE m) = true)] : List (Instr × Nat × Nat × Prop)), x.2.2.2 → Does s x.1 (fun t =>
      t.g Reg.DCL_CMD_RESULT_RESULT = Err.DCL_CMD_REFUSED ∧ t.raised = s.dev.plusRecord Err.DCL_CMD_REFUSED [x.2.1, m, Config.recordNumber Err.DCL_CMD_REFUSED x.2.2.1] ∧
      s.dev.keeps t [Reg.DCL_CMD_RESULT_RESULT] [.raised])) ∧
    (s.dev.on (Reg.DL_STAT_PROPOSE m) = true → ∀ code, 1 ≤ code → code ≤ 3 → Does s (.decideChop m code) (fun t =>
      t.g (Reg.DL_STAT_REACT m) = code ∧ t.on (Reg.DL_STAT_PROPOSE m) = false ∧ t.g Reg.DCL_CMD_RESULT_RESULT = 0 ∧
      (∀ q ∈ t.hst.proposals, ¬ (q.func = 7 ∧ q.unit = m)) ∧
      (code = 2 → ∀ c ∈ s.dev.dlMembers m, s.dev.on (Reg.DCL_CH_CFG_SL c) = false → (⟨c, 7, 200 + m⟩ : ForceCond) ∈ t.pwm.conds) ∧
      (code ≠ 2 → t.pwm = s.dev.pwm)))) ∧
  ∀ s : State, s.dev.sys.run ≠ .inReset → ∀ m < 4, ∀ l < 36, ∀ u, (s.dev.mon m).desig = some l → s.dev.sys.fclkLost = some u →
    Does s (.chopperFallbackExpiry m) (fun t => t.leg (l / 6) (l % 6) = { s.dev.leg (l / 6) (l % 6) with reqH := false, onH := false } ∧
      (∀ n k, (n ≠ l / 6 ∨ k ≠ l % 6) → t.leg n k = s.dev.leg n k) ∧ s.dev.keeps t [] [.pwm])

/-- Suspended loads (R304 to R309) and the 10 us update (R294, R302, R303, R306): HOLD brakes; when the brake time or the lead has passed torque is removed
through the trip network and the channel is HELD; CLEAR_CH ends a hold where nothing bars it. The update follows the link voltage, moves a
running override toward 0 by its ramp, and delivers the current scale and the braking capacity to the ports named. -/
def Obligations.SuspendedLoads : Prop :=
  ∀ s : State, s.dev.live = true →
    (∀ c < 6,
      (s.dev.on (Reg.DCL_CH_CFG_SL c) = true → s.dev.g (Reg.DCL_CH_STAT_SLSTATE c) ≤ 1 → Does s (.dclHold c) (fun t => Dev.slIs t c 2 5 ∧
        (t.dch c).drop = 1 ∧ (t.dch c).ovr.isSome = true ∧ t.g Reg.DCL_CMD_RESULT_RESULT = 0 ∧ t.pwm = s.dev.pwm ∧ t.tb = s.dev.tb)) ∧
      (s.dev.on (Reg.DCL_CH_CFG_SL c) = false → Does s (.dclHold c) (fun t => t.g Reg.DCL_CMD_RESULT_RESULT = Err.DCL_CMD_REFUSED ∧
        t.raised = s.dev.plusRecord Err.DCL_CMD_REFUSED [5, c, Config.recordNumber Err.DCL_CMD_REFUSED 8] ∧ s.dev.keeps t [Reg.DCL_CMD_RESULT_RESULT] [.raised])) ∧
      (∀ x ∈ ([(.brakeTimeExpiry c, 1), (.tripLeadExpiry c, 2)] : List (Instr × Nat)), (s.dev.dch c).drop = x.2 → Does s x.1 (fun t =>
        t.g (Reg.DCL_CH_STAT_SLSTATE c) = 3 ∧ t.g (Reg.DCL_CH_STAT_CAUSE c) = s.dev.g (Reg.DCL_CH_STAT_CAUSE c) ∧ (t.dch c).drop = 0 ∧
        (⟨c, 7, 100 + c⟩ : ForceCond) ∈ t.pwm.conds ∧ (∀ k < 6, s.dev.isChop c k = false → t.isArmed c k = false) ∧
        t.tb = s.dev.tb ∧ ∀ a, t.byte a = s.dev.byte a)) ∧
      (s.dev.clearChBar c = 0 → (s.dev.g (Reg.DCL_CH_STAT_SLSTATE c) = 1 ∨ s.dev.g (Reg.DCL_CH_STAT_SLSTATE c) = 3) → Does s (.clearCh c) (fun t =>
        t.g (Reg.DCL_CH_STAT_SLSTATE c) = 0 ∧ t.g (Reg.DCL_CH_STAT_CAUSE c) = 0 ∧ t.on (Reg.DCL_CH_STAT_BRK c) = false ∧ (t.dch c).ovr = none ∧
        t.g Reg.DCL_CMD_RESULT_RESULT = 0 ∧ (∀ x ∈ t.pwm.conds, x ∈ s.dev.pwm.conds ∧ ¬ (x.ch = c ∧ x.why = 7 ∧ x.inst = 100 + c)) ∧
        t.raised = s.dev.raised ∧ t.tb = s.dev.tb)) ∧
      (s.dev.clearChBar c ≠ 0 → Does s (.clearCh c) (fun t => t.g Reg.DCL_CMD_RESULT_RESULT = Err.DCL_CMD_REFUSED ∧
        t.raised = s.dev.plusRecord Err.DCL_CMD_REFUSED [6, c, Config.recordNumber Err.DCL_CMD_REFUSED (s.dev.clearChBar c)] ∧ s.dev.keeps t [Reg.DCL_CMD_RESULT_RESULT] [.raised]))) ∧
    Does s .dclUpdate (fun t =>
      (∀ m < 4, s.dev.on (Reg.DL_CFG_EN m) = true → s.dev.sdInvalid (s.dev.g (Reg.DL_CFG_VSRC m)) = false →
        t.on (Reg.DL_STAT_OVC m) = decide (s.dev.dlCode m (s.dev.dlOvc m) < s.dev.dlCtl m) ∧ t.on (Reg.DL_STAT_INVALID m) = false ∧
        ∃ r : Int, (r - 1) * 2 ^ 23 < s.dev.dlCtl m * s.dev.g (Reg.DL_VFS_VFS m) ∧ s.dev.dlCtl m * s.dev.g (Reg.DL_VFS_VFS m) < (r + 1) * 2 ^ 23 ∧
          t.g (Reg.DL_STAT_VDC m) = (clampInt 0 65535 r).toNat) ∧
      (∀ c < 6, ∀ v, (s.dev.dch c).ovr = some v → ∀ r : Int, r = Max.max 1 (s.dev.g (Reg.DCL_CH_RAMP_RAMP c) : Int) →
        (t.dch c).ovr = some (if 0 ≤ v then v - Min.min r v else v + Min.min r (-v))) ∧
      (∀ c < 6, t.g (Reg.DCL_CH_STAT_S c) = Min.min 0x7FFFFF (Min.min (s.dev.dch c).sBud (s.dev.g (Reg.THM_CH_DER_F_APP c) * 256))) ∧
      (∀ c < 6, ∀ k, (k = 0 ∨ k = 2) → s.dev.on (Reg.DCL_CH_DLV_EN c k) = true → ∀ x p, x = s.dev.g (Reg.DCL_CH_DLV_CTX c k) →
        p = s.dev.g (Reg.DCL_CH_DLV_PORT c k) → (∀ c' < 6, ∀ k' < 4, (c' ≠ c ∨ k' ≠ k) → s.dev.on (Reg.DCL_CH_DLV_EN c' k') = true →
          ¬ (s.dev.g (Reg.DCL_CH_DLV_CTX c' k') = x ∧ s.dev.g (Reg.DCL_CH_DLV_PORT c' k') = p)) →
        storeGet (fun _ => 0) (t.ctx x).inPorts p = (if k = 0 then t.g (Reg.DCL_CH_STAT_S c) else s.dev.brakeCap c)) ∧
      t.tb = s.dev.tb ∧ t.pwm = s.dev.pwm ∧ ∀ a, t.byte a = s.dev.byte a)

/-- The power budget and the share groups (R310 to R316): a pass never divides out more than the budget; a lower grant is applied at once, and a higher one in
AUTO; ACCEPT_PB applies the grants it names if each awaits; FLR_N scales the budget; a split gives every available member the torque that
keeps the group's total, and a member that drops out is recorded; DECIDE_SHARE answers for the group that asks. -/
def Obligations.PowerAndShares : Prop :=
  (∀ (classes : List (List (Nat × Nat × Bool))) (b : Nat), ((pbDivide classes b).map (fun r => r.2.1)).sum ≤ b) ∧
  ∀ s : State, s.dev.live = true →
    (s.dev.on Reg.PB_CFG_EN = true → ∀ cls : Nat → List (Nat × Nat × Bool), (∀ k, cls k = ((List.range 6).filter (fun c =>
        s.dev.on (Reg.DCL_CH_CFG_PB_EN c) && s.dev.g (Reg.DCL_CH_CFG_CLASS c) == k)).map (fun c =>
          (c, s.dev.g (Reg.DCL_CH_PREQ_KW c), s.dev.on (Reg.DCL_CH_CFG_ON_SHORT c)))) → Does s .powerBudgetPass (fun t =>
      t.g Reg.PB_STAT_B = s.dev.pbBudget % 2 ^ 24 ∧
      (∀ x ∈ pbDivide ((List.range 4).map cls) s.dev.pbBudget,
        (s.dev.g (Reg.DCL_CH_GRANT_REASON x.1) ≠ 3 ∨ s.dev.g (Reg.DCL_CH_PREQ_KW x.1) ≠ 0) →
        (x.2.1 ≤ s.dev.g (Reg.DCL_CH_GRANT_GRANT x.1) ∨ (s.dev.assistMode 4 = 0 ∧ s.dev.proposal 4 x.1 = none)) →
        t.g (Reg.DCL_CH_GRANT_GRANT x.1) = x.2.1 ∧ t.g (Reg.DCL_CH_GRANT_REASON x.1) = x.2.2.1 ∧ t.g (Reg.DCL_CH_GRANT_BY x.1) = x.2.2.2 ∧
        t.on (Reg.DCL_CH_GRANT_PEND x.1) = false) ∧
      (∀ c < 6, s.dev.on (Reg.DCL_CH_CFG_PB_EN c) = false → (t.dch c).sBud = 2 ^ 23) ∧ t.tb = s.dev.tb ∧ t.pwm = s.dev.pwm)) ∧
    (∀ mask,
      ((∀ c ∈ maskBits 6 mask, s.dev.on (Reg.DCL_CH_GRANT_PEND c) = true) → Does s (.acceptPb mask) (fun t =>
        (∀ c ∈ maskBits 6 mask, ∀ g r b, (s.dev.dch c).want = some (g, r, b) → t.g (Reg.DCL_CH_GRANT_GRANT c) = g % 2 ^ 24 ∧
          t.g (Reg.DCL_CH_GRANT_REASON c) = r % 4 ∧ t.g (Reg.DCL_CH_GRANT_BY c) = b % 4 ∧ t.on (Reg.DCL_CH_GRANT_PEND c) = false ∧ (t.dch c).want = none) ∧
        t.g Reg.DCL_CMD_RESULT_RESULT = 0 ∧ t.raised = s.dev.raised ∧ t.pwm = s.dev.pwm)) ∧
      ((∃ c ∈ maskBits 6 mask, s.dev.on (Reg.DCL_CH_GRANT_PEND c) = false) → Does s (.acceptPb mask) (fun t =>
        t.g Reg.DCL_CMD_RESULT_RESULT = Err.DCL_CMD_REFUSED ∧ t.raised = s.dev.plusRecord Err.DCL_CMD_REFUSED [3, 0, Config.recordNumber Err.DCL_CMD_REFUSED 4] ∧
        s.dev.keeps t [Reg.DCL_CMD_RESULT_RESULT] [.raised]))) ∧
    Does s .dclFlr (fun t => t.on Reg.PB_STAT_FLR = true ∧ t.raised = s.dev.plusRecord Err.DCL_FLR [t.pbBudget] ∧
      s.dev.keeps t [Reg.PB_STAT_FLR] [.raised]) ∧
    Does s .flrRelease (fun t => t.on Reg.PB_STAT_FLR = false ∧ s.dev.keeps t [Reg.PB_STAT_FLR] []) ∧
    (∀ g, 1 ≤ g → g ≤ 3 →
      (s.dev.on (Reg.SG_CFG_PEND g) = true → ∀ code, code = 1 ∨ code = 2 → Does s (.dclDecideShare g code) (fun t => t.on (Reg.SG_CFG_PEND g) = false ∧
        t.g Reg.DCL_CMD_RESULT_RESULT = 0 ∧ (∀ c < 6, (t.dch c).keep = if code = 1 ∧ c ∈ s.dev.sgMembers g then false else (s.dev.dch c).keep) ∧
        (∀ q ∈ t.hst.proposals, ¬ (q.func = 3 ∧ q.unit = g)) ∧ t.pwm = s.dev.pwm ∧ t.raised = s.dev.raised)) ∧
      (s.dev.on (Reg.SG_CFG_PEND g) = false → ∀ code, Does s (.dclDecideShare g code) (fun t => t.g Reg.DCL_CMD_RESULT_RESULT = Err.DCL_CMD_REFUSED ∧
        t.raised = s.dev.plusRecord Err.DCL_CMD_REFUSED [4, g, Config.recordNumber Err.DCL_CMD_REFUSED 4] ∧ s.dev.keeps t [Reg.DCL_CMD_RESULT_RESULT] [.raised])) ∧
      (s.dev.on (Reg.SG_CFG_EN g) = true → (s.dev.grp g).due = true → Does s (.shareSplit g) (fun t => (t.grp g).due = false ∧
        (∀ c ∈ s.dev.sgMembers g, (t.dch c).avail = s.dev.sgAvail c ∧ ((s.dev.dch c).avail = true → s.dev.sgAvail c = false →
          s.dev.record Err.DCL_SHARE_DROP [g, c] ∈ t.raised)) ∧
        ((∀ c ∈ s.dev.sgMembers g, s.dev.sgAvail c = true) → (∃ c ∈ s.dev.sgMembers g, s.dev.g (Reg.DCL_CH_SHW_W c) ≠ 0) →
          (t.grp g).w = clampInt (-(2 ^ 23)) (2 ^ 23 - 1) (s.dev.grp g).t ∧
          storeGet (fun _ => 0) (t.ctx (s.dev.g (Reg.SG_CFG_CTX g))).inPorts (s.dev.g (Reg.SG_CFG_PORT g)) = ofInt 24 (t.grp g).w) ∧
        t.tb = s.dev.tb ∧ t.pwm = s.dev.pwm ∧ ∀ a, t.byte a = s.dev.byte a)))

/-! ## Duin ring -/

/-- The cycle of an admitted node (R329 to R332, R336, R337, R342): at its start the words freeze and the share frame goes out, on the master behind a
Crier in each direction that carries RT64 and the cycle's number; a complete plan takes effect in its cycle, and a leaving node closes its
bypass; at the end of the share region the received words replace those before, each node shows whether it is present, and a planned
frame that is missing is counted. -/
def ringCycles : Prop :=
  ∀ s : State, s.dev.live = true →
    (s.dev.on Reg.DRG_STAT_ADMITTED = true → s.dev.drg.leaveAt = none → Does s .ringCycleStart (fun t => t.drg.cycNow = s.dev.cycNo ∧
      (s.dev.drg.sending = true → ∃ p, t.drg.tx.take 3 = [⟨1, false, p⟩, ⟨1, true, p⟩, ⟨3, false, t.sharePayload⟩] ∧
        p.take 16 = leBytes 8 s.dev.tb.rt ++ leBytes 4 0 ++ leBytes 4 s.dev.cycNo) ∧
      (s.dev.drg.sending = false → t.drg.tx.head? = some ⟨3, false, t.sharePayload⟩) ∧
      (s.dev.lsLeads = false → t.drg.froz = s.dev.drg.own) ∧
      (∀ k, s.dev.drg.planAt = some k → k ≤ s.dev.cycNo → s.dev.drg.next.all Option.isSome = true →
        t.drg.plan = s.dev.drg.next.map (fun e => e.getD 0) ∧ t.drg.planAt = none ∧ t.g Reg.DRG_STAT_PLAN_VER = s.dev.drg.nextVer % 256) ∧
      (s.dev.drg.planAt = none → t.drg.plan = s.dev.drg.plan) ∧
      t.tb.rt = s.dev.tb.rt ∧ t.pwm = s.dev.pwm ∧ t.ce = s.dev.ce ∧ ∀ a, t.byte a = s.dev.byte a)) ∧
    (∀ k, s.dev.drg.leaveAt = some k → k ≤ s.dev.cycNo → Does s .ringCycleStart (fun t => t.on Reg.DRG_STAT_ADMITTED = false ∧
      t.drg.sending = false ∧ t.drg.leaveAt = none ∧ t.drg.tx = [] ∧ t.g Reg.RT_STAT_STATE = 0 ∧ t.on Reg.RT_STAT_MASTER = false ∧
      t.tb.rt = s.dev.tb.rt ∧ t.pwm = s.dev.pwm ∧ ∀ a, t.byte a = s.dev.byte a)) ∧
    (s.dev.on Reg.DRG_STAT_ADMITTED = true → s.dev.drg.froz.length = 64 → Does s .shareBufferComplete (fun t => t.drg.inbox = [] ∧
      (∀ n < 16, n ≠ s.dev.me → ∀ f, s.dev.drg.inbox.find? (fun f => f.src == n && f.cyc == s.dev.drg.cycNow % 65536) = some f →
        t.on (Reg.NODE_STAT_PRESENT n) = true ∧ (t.g Reg.DRG_PRESENT_PRESENT).testBit n = true ∧
        (f.words.length ≤ 64 → ∀ w < f.words.length, t.shareWord n w = f.words.getD w 0 % 2 ^ 24)) ∧
      (∀ n < 16, n ≠ s.dev.me → s.dev.drg.inbox.find? (fun f => f.src == n && f.cyc == s.dev.drg.cycNow % 65536) = none →
        t.on (Reg.NODE_STAT_PRESENT n) = false ∧ (t.g Reg.DRG_PRESENT_PRESENT).testBit n = false ∧
        (planEn (s.dev.drg.plan.getD n 0) = true →
          (s.dev.drg.sending = true ∨ s.dev.drg.lastA = some s.dev.drg.cycNow ∨ s.dev.drg.lastB = some s.dev.drg.cycNow) →
          t.g (Reg.NODE_STAT_MISS n) = satInc 65535 (s.dev.g (Reg.NODE_STAT_MISS n))) ∧
        ∀ w < 64, t.shareWord n w = s.dev.shareWord n w) ∧
      (∀ w < 64, w < s.dev.g Reg.DRG_SLOT_ADM_NW → t.shareWord s.dev.me w = s.dev.drg.froz.getD w 0 % 2 ^ 24) ∧
      t.tb.rt = s.dev.tb.rt ∧ t.pwm = s.dev.pwm ∧ ∀ a, t.byte a = s.dev.byte a))

/-- The Crier that a ring frame carries: little-endian fields of its 32 bytes (R328). -/
def crierField (p : List Nat) (i n : Nat) : Nat := leVal ((p.drop i).take n)

/-- Frames received (R326, R328 to R335, R338 to R340, R46, R47): a bad frame is discarded and counted; a Crier is passed on with its correction, disciplines RT64
without a step, and admits the node that it names, whose RT64 steps to ring time; a share frame waits for its buffer, and one with this
node's number clashes while it waits; a Delay request is answered and an answer gives the hop delay; a bulk frame from this node ends,
one for another node passes, and a message for firmware lands in the ring-message buffer. -/
def ringFrames : Prop :=
  ∀ s : State, s.dev.live = true →
    (∀ (b c : Bool) (i j k l m : Nat) (p q : List Nat) (w : List (List Nat)), ∀ x ∈ ([.crierReceived b c false i j p, .shareFrameReceived i j false p w q,
        .telltaleFrameReceived i false p, .delayFrameReceived b false i j k l m] ++
        (if s.dev.on Reg.DRG_STAT_ADMITTED then [.bulkFrameReceived b i false p] else []) : List Instr), Does s x (fun t =>
      t.g Reg.DRG_CNT_CRC_ERR = satInc 65535 (s.dev.g Reg.DRG_CNT_CRC_ERR) ∧ s.dev.keeps t [Reg.DRG_CNT_CRC_ERR] [])) ∧
    (∀ (dirB : Bool) (fine res : Nat) (p : List Nat), p.length = 32 → s.dev.drg.sending = false → s.dev.on Reg.DRG_STAT_ADMITTED = true →
      ∀ fwd, fwd = (⟨1, dirB, p.take 8 ++ leBytes 4 (crierField p 8 4 + s.dev.hopIn dirB + res) ++ p.drop 12⟩ : RingTx) →
      Does s (.crierReceived dirB true true fine res p) (fun t => t.drg = { s.dev.drg with tx := s.dev.drg.tx ++ [fwd] } ∧ s.dev.keeps t [] [.drg]) ∧
      (dirB = false → ∀ err, err = s.dev.crierErr fine (crierField p 0 8) (crierField p 8 4) (s.dev.hopIn false) →
        Does s (.crierReceived false false true fine res p) (fun t => t.drg.tx = s.dev.drg.tx ++ [fwd] ∧ t.tb.slew = -err ∧ t.tb.rt = s.dev.tb.rt ∧
          t.tb.missCyc = 0 ∧ t.tb.goodCyc = (if s.dev.g Reg.RT_STAT_STATE = 3 ∨ (s.dev.g Reg.RT_STAT_STATE = 2 ∧ 8 < err.natAbs ∧ 3 ≤ s.dev.drg.badCyc) then
            (if err.natAbs ≤ 8 then 1 else 0) else if err.natAbs ≤ 8 then s.dev.tb.goodCyc + 1 else 0) ∧
          t.g Reg.DRG_TERR_ERR = ofInt 16 (satInt 16 err) ∧ t.g Reg.DRG_STAT_MASTER = crierField p 20 1 % 16 ∧
          t.drg.lastA = some (crierField p 12 4) ∧ t.drg.gap = 0 ∧
          (0 < s.dev.drg.gap → s.dev.record Err.DRG_CRIER_MISS [s.dev.drg.gap] ∈ t.raised) ∧ t.pwm = s.dev.pwm ∧ ∀ a, t.byte a = s.dev.byte a))) ∧
    (∀ (dirB : Bool) (fine res : Nat) (p : List Nat), p.length = 32 → s.dev.drg.sending = false → s.dev.on Reg.DRG_STAT_ADMITTED = false →
      s.dev.on Reg.DRG_CTL_JOIN = true → s.dev.on Reg.DRG_STAT_ID_CLASH = false → crierField p 21 1 % 32 = s.dev.me + 16 →
      crierField p 22 1 = s.dev.drg.nextVer → s.dev.drg.next.all Option.isSome = true → crierField p 23 1 % 16 ≠ s.dev.me →
      planEn ((s.dev.drg.next.getD s.dev.me none).getD 0) = true → Does s (.crierReceived dirB false true fine res p) (fun t =>
        t.on Reg.DRG_STAT_ADMITTED = true ∧ t.tb.admitted = true ∧ t.g Reg.RT_STAT_STATE = 1 ∧ t.on Reg.RT_STAT_STEPPED = true ∧
        t.tb.rt = ofInt 64 ((s.dev.tb.rt : Int) - s.dev.crierErr fine (crierField p 0 8) (crierField p 8 4) (s.dev.hopIn dirB)) ∧
        t.drg.tx = s.dev.drg.tx ∧ t.g Reg.DRG_STAT_PLAN_VER = s.dev.drg.nextVer % 256 ∧ t.pwm = s.dev.pwm ∧ ∀ a, t.byte a = s.dev.byte a)) ∧
    (∀ src cyc stat whls words, src ≠ s.dev.me →
      (s.dev.drg.inbox.any (fun f => f.src == src && f.cyc == cyc) = false → Does s (.shareFrameReceived src cyc true stat whls words) (fun t =>
        t.drg = { s.dev.drg with inbox := s.dev.drg.inbox ++ [⟨src, cyc, stat, whls, words⟩] } ∧ s.dev.keeps t [] [.drg])) ∧
      (s.dev.drg.inbox.any (fun f => f.src == src && f.cyc == cyc) = true → exec (.shareFrameReceived src cyc true stat whls words) s = .next s)) ∧
    (∀ cyc stat whls words, s.dev.on Reg.DRG_CTL_JOIN = true → s.dev.on Reg.DRG_STAT_ADMITTED = false → s.dev.on Reg.DRG_STAT_ID_CLASH = false →
      Does s (.shareFrameReceived s.dev.me cyc true stat whls words) (fun t => t.on Reg.DRG_STAT_ID_CLASH = true ∧
        t.raised = s.dev.plusRecord Err.DRG_ID_CLASH [s.dev.me] ∧ s.dev.keeps t [Reg.DRG_STAT_ID_CLASH] [.raised])) ∧
    (∀ fine, s.dev.on Reg.DRG_STAT_ADMITTED = true → Does s (.delayRequest fine) (fun t => t.drg.askAt = some (s.dev.tb.rt + fine) ∧
      t.drg.tx = s.dev.drg.tx ++ [⟨6, false, leBytes 8 (s.dev.tb.rt + fine)⟩] ∧ s.dev.keeps t [] [.drg])) ∧
    (∀ t1 t2 t3 fine val, Does s (.delayFrameReceived false true t1 t2 t3 fine val) (fun t => t.g Reg.DRG_HOP_UP = val % 65536 ∧
      t.drg.tx = s.dev.drg.tx ++ [⟨6, true, leBytes 8 t1 ++ leBytes 8 (s.dev.tb.rt + fine) ++ leBytes 8 (s.dev.tb.rt + fine)⟩] ∧
      s.dev.keeps t [Reg.DRG_HOP_UP] [.drg])) ∧
    (∀ t0 t1 t2 t3 fine val dly : Nat, s.dev.drg.askAt = some t0 → s.dev.drg.hops = [] → dly ≤ 65535 → s.dev.drg.sending = false →
      ((s.dev.tb.rt + fine : Nat) : Int) - t0 - ((t3 : Int) - t2) = 2 * dly →
      Does s (.delayFrameReceived true true t1 t2 t3 fine val) (fun t => t.g Reg.DRG_HOP_DN = dly ∧ t.drg.askAt = none ∧ t.drg.hops = [(dly : Int)] ∧
        (dly ≤ 32 * s.dev.g Reg.DRG_DLY_D_MAX → s.dev.keeps t [Reg.DRG_HOP_DN] [.drg]) ∧
        (32 * s.dev.g Reg.DRG_DLY_D_MAX < dly → t.on Reg.DRG_STAT_HOP_LONG = true ∧ t.raised = s.dev.plusRecord Err.DRG_HOP_LONG [hopNumber false, dly] ∧
          s.dev.keeps t [Reg.DRG_HOP_DN, Reg.DRG_STAT_HOP_LONG] [.drg, .raised]))) ∧
    (∀ (dirB : Bool) src ch fofs msg mlen flags (frag : List Nat) pl, s.dev.on Reg.DRG_STAT_ADMITTED = true → src < 16 → ch = 1 ∨ ch = 2 → flags < 32 →
      pl = [ch, flags] ++ leBytes 2 msg ++ leBytes 2 fofs ++ leBytes 2 mlen ++ frag → msg < 65536 → fofs < 65536 → mlen < 65536 → fofs + frag.length ≤ mlen →
      (src = s.dev.me → exec (.bulkFrameReceived dirB src true pl) s = .next s) ∧
      (src ≠ s.dev.me → flags < 16 → flags ≠ s.dev.me → s.dev.drg.fwd.getD (b2n dirB) 0 = 0 → 22 + frag.length + 64 ≤ s.dev.crierDue →
        exec (.bulkFrameReceived dirB src true pl) s = .next s) ∧
      (src ≠ s.dev.me → flags = s.dev.me → ch = 2 → fofs = 0 → frag.length = mlen → (∀ b ∈ frag, b < 256) →
        s.dev.drg.bulkIn.any (fun m => m.src == src && m.chan == 2) = false → ∀ put get size base need, put = s.dev.g Reg.RRX_PUT_PUT →
        get = s.dev.g Reg.RRX_GET_GET → size = s.dev.g Reg.RRX_CFG_SIZE → base = s.dev.word Reg.RRX_ADDR → need = 4 + (mlen + 3) / 4 * 4 →
        s.dev.on Reg.RRX_CFG_EN = true → get ≤ put → put + need ≤ size → need + 4 ≤ size - put + get →
        Does s (.bulkFrameReceived dirB src true pl) (fun t => t.mem32 (base + put) = src + mlen * 65536 ∧
          (∀ i < mlen, t.byte (base + put + 4 + i) = frag.getD i 0) ∧ t.g Reg.RRX_PUT_PUT = (if put + need = size then 0 else put + need) ∧
          (∀ a, (a < base + put ∨ base + put + need ≤ a) → t.byte a = s.dev.byte a) ∧ s.dev.keeps t [Reg.RRX_PUT_PUT] [.mem]))) ∧
    (∀ src ch m, m ∈ s.dev.drg.bulkIn → m.src = src → m.chan = ch → m.cyc + 64 ≤ s.dev.drg.cycNow → Does s (.bulkMessageTimeout src ch) (fun t =>
      m ∉ t.drg.bulkIn ∧ t.g Reg.DRG_CNT_BULK_DROP = satInc 65535 (s.dev.g Reg.DRG_CNT_BULK_DROP) ∧
      t.raised = s.dev.plusRecord Err.DRG_BULK_DROP [ch, src] ∧ s.dev.keeps t [Reg.DRG_CNT_BULK_DROP] [.drg, .raised])) ∧
    (∀ m rest, s.dev.drg.bulkOut = m :: rest → s.dev.on Reg.DRG_STAT_ADMITTED = true → s.dev.drg.fwd = [0, 0] →
      22 + ((m.data.drop m.ofs).take 1016).length + 64 ≤ s.dev.crierDue → Does s .bulkFrameSend (fun t =>
        t.drg = { s.dev.drg with
          bulkOut := if m.data.length ≤ m.ofs + 1016 then rest else { m with ofs := m.ofs + 1016 } :: rest
          tx := s.dev.drg.tx ++ [⟨5, s.dev.on Reg.DRG_STAT_WRAP_DN, [m.chan, m.dest + 16 * b2n m.bcast] ++ leBytes 2 m.msg ++ leBytes 2 m.ofs ++
            leBytes 2 m.data.length ++ (m.data.drop m.ofs).take 1016⟩] } ∧ s.dev.keeps t [] [.drg]))

/-- The ring: its cycles and its frames. -/
def Obligations.RingTraffic : Prop := ringCycles ∧ ringFrames

/-- The ring's commands (R325, R336, R340 to R344, R346, R347, R353, R355): a plan that fits is announced for a cycle 40 ahead and any other refused; JOIN, LEAVE and
the start of a ring; the backup that takes over, the change back; wrap and unwrap of a hop; the decision for the ring's share group; the
counters' clear. -/
def Obligations.RingCommands : Prop :=
  ∀ s : State, s.dev.live = true →
    (s.dev.drg.sending = true → ∀ x, x = planExcess s.dev.planRegs (s.dev.g Reg.DRG_DLY_D_MAX) s.dev.drg.cyc (s.dev.g Reg.DRG_CYC_BULK_MIN) →
      (x = 0 → Does s .applyPlan (fun t => t.drg.next = s.dev.planRegs.map some ∧ t.drg.planAt = some (s.dev.cycNo + 40) ∧ t.drg.plan = s.dev.drg.plan ∧
        t.word Reg.DRG_CMD_RESULT = 0 ∧ s.dev.keeps t [RF.whole Reg.DRG_CMD_RESULT] [.drg])) ∧
      (x ≠ 0 → Does s .applyPlan (fun t => t.g Reg.DRG_CMD_RESULT_RESULT = Err.DRG_PLAN_REFUSED ∧ t.g Reg.DRG_CMD_RESULT_EXCESS = Min.min 4095 x ∧
        t.raised = s.dev.plusRecord Err.DRG_PLAN_REFUSED [planLargest s.dev.planRegs, x] ∧
        s.dev.keeps t [RF.whole Reg.DRG_CMD_RESULT] [.raised]))) ∧
    (∀ x ∈ ([(.applyPlan, 1, 2, s.dev.drg.sending = false), (.drgDecideShare 1, 2, 3, s.dev.on Reg.LS_STAT_PEND = false),
        (.drgDecideShare 3, 2, 4, s.dev.on Reg.LS_STAT_PEND = true)] : List (Instr × Nat × Nat × Prop)), x.2.2.2 → Does s x.1 (fun t =>
      t.word Reg.DRG_CMD_RESULT = Err.DRG_CMD_REFUSED ∧ t.raised = s.dev.plusRecord Err.DRG_CMD_REFUSED [x.2.1, Config.recordNumber Err.DRG_CMD_REFUSED x.2.2.1] ∧
      s.dev.keeps t [RF.whole Reg.DRG_CMD_RESULT] [.raised])) ∧
    (s.dev.on Reg.LS_STAT_PEND = true → ∀ code, code = 1 ∨ code = 2 → Does s (.drgDecideShare code) (fun t => t.on Reg.LS_STAT_PEND = false ∧
      t.word Reg.DRG_CMD_RESULT = 0 ∧ t.drg.kept = 0 ∧
      t.drg.incl = (if code = 1 then s.dev.drg.incl &&& (65535 - s.dev.drg.kept) else s.dev.drg.incl) ∧
      (∀ q ∈ t.hst.proposals, ¬ (q.func = 3 ∧ q.unit = 0x10)) ∧ s.dev.keeps t [Reg.LS_STAT_PEND, RF.whole Reg.DRG_CMD_RESULT] [.drg, .hst])) ∧
    Does s .drgCntClear (fun t => t.word Reg.DRG_CNT = 0 ∧ t.word Reg.DRG_CMD_RESULT = 0 ∧
      s.dev.keeps t [RF.whole Reg.DRG_CNT, RF.whole Reg.DRG_CMD_RESULT] []) ∧
    (∀ v, Does s (.join v) (fun t => t.g Reg.DRG_CTL_JOIN = v % 2 ∧ t.on Reg.DRG_STAT_ID_CLASH = false ∧
      t.word Reg.DRG_NODE = (if v % 2 = 1 then (s.dev.tly.entries.getD 0 ⟨[0], true, 0, 0⟩).value.headD 0 % 64 else s.dev.word Reg.DRG_NODE) ∧
      s.dev.keeps t [Reg.DRG_CTL_JOIN, Reg.DRG_STAT_ID_CLASH, RF.whole Reg.DRG_NODE] [])) ∧
    (s.dev.on Reg.DRG_STAT_ADMITTED = true → s.dev.drg.leaveAt = none → Does s .leave (fun t =>
      t.drg = { s.dev.drg with leaveAt := some (s.dev.drg.cycNow + 3) } ∧ s.dev.keeps t [] [.drg])) ∧
    (s.dev.on Reg.DRG_CTL_JOIN = true → s.dev.on Reg.DRG_STAT_ADMITTED = false → s.dev.on Reg.DRG_STAT_ID_CLASH = false →
      (s.dev.g Reg.DRG_NODE_ROLE = 1 ∨ s.dev.g Reg.DRG_NODE_ROLE = 2) →
      ∀ x, x = planExcess s.dev.planRegs (s.dev.g Reg.DRG_DLY_D_MAX) (s.dev.g Reg.DRG_CYC_CYC) (s.dev.g Reg.DRG_CYC_BULK_MIN) →
      Does s .ringStart (fun t => t.drg.sending = true ∧ t.on Reg.DRG_STAT_ADMITTED = true ∧ t.tb.admitted = true ∧ t.g Reg.DRG_STAT_MASTER = s.dev.me ∧
        t.g Reg.RT_STAT_STATE = 2 ∧ t.on Reg.RT_STAT_MASTER = true ∧ t.on Reg.DRG_STAT_ACTING = decide (s.dev.g Reg.DRG_NODE_ROLE = 2) ∧
        t.drg.cyc = s.dev.g Reg.DRG_CYC_CYC ∧ (x = 0 → t.drg.plan = s.dev.planRegs) ∧
        (x ≠ 0 → s.dev.record Err.DRG_PLAN_REFUSED [planLargest s.dev.planRegs, x] ∈ t.raised ∧ ∀ n, n ≠ s.dev.me → t.drg.plan.getD n 0 = 0) ∧
        t.tb.rt = s.dev.tb.rt ∧ t.pwm = s.dev.pwm ∧ ∀ a, t.byte a = s.dev.byte a)) ∧
    (s.dev.on Reg.DRG_STAT_ADMITTED = true → s.dev.g Reg.DRG_NODE_ROLE = 2 → s.dev.drg.sending = false → 2 ≤ s.dev.drg.gap →
      Does s .drgMasterLost (fun t => t.drg = { s.dev.drg with sending := true, former := s.dev.g Reg.DRG_STAT_MASTER, lockRun := 0, gap := 0 } ∧
        t.on Reg.DRG_STAT_ACTING = true ∧ t.g Reg.DRG_STAT_MASTER = s.dev.me ∧ t.on Reg.RT_STAT_MASTER = true ∧ t.g Reg.RT_STAT_STATE = 2 ∧
        t.raised = s.dev.raised ++ [s.dev.record Err.DRG_CRIER_MISS [s.dev.drg.gap], s.dev.record Err.DRG_MASTER_LOST [s.dev.g Reg.DRG_STAT_MASTER]] ∧
        s.dev.keeps t [Reg.DRG_STAT_ACTING, Reg.DRG_STAT_MASTER, Reg.RT_STAT_MASTER, Reg.RT_STAT_STATE] [.drg, .raised])) ∧
    (∀ new < 16, s.dev.on Reg.DRG_STAT_ADMITTED = true →
      ((s.dev.on Reg.DRG_STAT_ACTING = true ∧ 256 ≤ s.dev.drg.lockRun ∧ new = s.dev.drg.former) ∨ (s.dev.drg.sending = false ∧ s.dev.drg.handoff = true)) →
      Does s (.drgMasterChange new) (fun t => t.drg = { s.dev.drg with sending := new == s.dev.me, handoff := false, lockRun := 0 } ∧
        t.on Reg.DRG_STAT_ACTING = false ∧ t.g Reg.DRG_STAT_MASTER = new ∧ t.on Reg.RT_STAT_MASTER = (new == s.dev.me) ∧
        t.raised = s.dev.plusRecord Err.DRG_MASTER_CHANGE [new] ∧
        s.dev.keeps t [Reg.DRG_STAT_ACTING, Reg.DRG_STAT_MASTER, Reg.RT_STAT_MASTER, Reg.RT_STAT_STATE] [.drg, .raised])) ∧
    (∀ up : Bool, ∀ w dn, (w, dn) = (if up then (Reg.DRG_STAT_WRAP_UP, Reg.DRG_STAT_UP_DOWN) else (Reg.DRG_STAT_WRAP_DN, Reg.DRG_STAT_DN_DOWN)) →
      (∀ cause, s.dev.on Reg.DRG_STAT_ADMITTED = true → s.dev.on w = false →
        (cause = 1 ∨ cause = 3 ∨ (cause = 2 ∧ 2 ≤ (if up then s.dev.drg.missA else s.dev.drg.missB) ∧
          (if up then s.dev.drg.missB else s.dev.drg.missA) = 0)) → Does s (.drgWrap up cause) (fun t => t.on w = true ∧ t.on dn = true ∧
        t.raised = s.dev.plusRecord Err.DRG_WRAP [hopNumber up, Config.recordNumber Err.DRG_WRAP cause] ∧ s.dev.keeps t [w, dn] [.raised])) ∧
      (s.dev.on w = true → Does s (.drgUnwrap up) (fun t => t.on w = false ∧ t.on dn = false ∧
        t.raised = s.dev.plusRecord Err.DRG_UNWRAP [hopNumber up] ∧ s.dev.keeps t [w, dn] [.raised])))

/-! ## Safety island -/

/-- The safety tick and the island's faults (R359, R361, R362, R364 to R366, R368 to R371, R376 to R386, R404): the mailbox shows the state of the tick that ends; cores that
decide differently twice fault; in RUN a channel whose sources, inputs or entry demand STO is in STO or in Safe Hoist Hold, GDEN is high exactly
where a core is not in STO, and the trip network holds exactly the channels whose GDEN is low; self-tests, the watchdog, discrepancies and
output tests. -/
def Obligations.IslandTicks : Prop :=
  ∀ s : State, s.dev.sys.run ≠ .inReset →
    (∀ diff tap0 tap1 tapErr sd fclkA fclkB gden, Does s (.safetyTick diff tap0 tap1 tapErr sd fclkA fclkB gden) (fun t =>
      t.saf.ticks = s.dev.saf.ticks + 1 ∧ t.g Reg.SAF_TICK_COUNT = (s.dev.g Reg.SAF_TICK_COUNT + 1) % 2 ^ 32 ∧
      (∀ w ∈ (s.dev.safExchange diff).safWords, t.word w.1 = w.2 % 2 ^ 32) ∧
      (s.dev.saf.st = 2 → (∃ n < 6, diff.testBit n = true ∨ (s.dev.safCh 0 n).st ≠ (s.dev.safCh 1 n).st) → 1 ≤ s.dev.saf.differ →
        t.saf.st = 3 ∧ t.saf.fcause = 1 ∧ ∃ m, s.dev.isle Err.SAF_CORE_MISMATCH [m] ∈ t.raised) ∧
      (t.saf.st = 2 → ∀ k < 2, ∀ n < 6,
        ((t.safCh k n).init = true ∨ (t.safCh k n).lat.testBit 1 = true ∨ (∃ x ∈ t.demands k, x.1 = 1 ∧ x.2.1.testBit n = true) →
          (t.safCh k n).st = 1 ∨ (t.safCh k n).st = 5) ∧
        t.saf.gd.testBit (6 * k + n) = decide ((t.safCh k n).st ≠ 1) ∧
        ((⟨n, 4, 0⟩ : ForceCond) ∈ t.pwm.conds ↔ ¬ (t.saf.gd.testBit n = true ∧ t.saf.gd.testBit (6 + n) = true))) ∧
      t.tb = s.dev.tb ∧ t.ce = s.dev.ce ∧ ∀ a, t.byte a = s.dev.byte a)) ∧
    (s.dev.saf.st = 0 →
      Does s (.islandSelfTestDone false) (fun t => t.saf.st = 3 ∧ t.saf.fcause = 5 ∧ t.saf.gd = 0 ∧ (∀ k < 2, ∀ n < 6, (t.safCh k n).st = 1) ∧
        (∀ n < 6, (⟨n, 4, 0⟩ : ForceCond) ∈ t.pwm.conds) ∧ t.tb = s.dev.tb ∧ t.ce = s.dev.ce) ∧
      ((∀ n ∈ s.dev.saf.clkOk, n = 4) → Does s (.islandSelfTestDone true) (fun t => t.saf = { s.dev.saf with st := 1 } ∧ s.dev.keeps t [] [.saf])) ∧
      ((∃ n ∈ s.dev.saf.clkOk, n ≠ 4) → exec (.islandSelfTestDone true) s = .next s)) ∧
    Does s .islandWatchdogExpiry (fun t => t.saf.st = 0 ∧ t.saf.gd = 0 ∧ t.saf.cfg = [] ∧ (∀ i < 6, (t.safPair i).p = false ∧ (t.safPair i).m = false) ∧
      (∀ n < 6, (⟨n, 4, 0⟩ : ForceCond) ∈ t.pwm.conds) ∧ (∀ a, 0x30200000 ≤ a → a < 0x30210000 → t.word a = (regReset a).toNat) ∧
      t.saf.words = s.dev.saf.words ∧ t.saf.msgs = s.dev.saf.msgs ∧ t.tly = s.dev.tly ∧ t.tb = s.dev.tb ∧ t.ce = s.dev.ce ∧ ∀ a, t.byte a = s.dev.byte a) ∧
    (∀ i < 12, ∀ k < 2, ∀ x t1, x = (s.dev.saf.cores.getD k {}).ins.getD i {} → x.first = some t1 → x.judged = false → x.a ≠ x.b →
      t1 + s.dev.sp 0x013 i + 1 ≤ s.dev.saf.ticks → Does s (.safDisc i) (fun t =>
        (t.saf.cores.getD k {}).ins.getD i {} = { x with judged := true, disc := true, common := false, act := 0 } ∧
        (k = 0 → t.raised = s.dev.plusIsland Err.SAF_DISC [i, Config.recordNumber Err.SAF_DISC x.lag]) ∧ s.dev.keeps t [] [.saf, .raised])) ∧
    (∀ i < 6, ∀ x, (s.dev.safPair i).test = some x →
      (x.seen = true → Does s (.outputTestEnd i) (fun t => (t.safPair i).test = none ∧ (t.safPair i).fault = (s.dev.safPair i).fault ∧
        (∀ j, j ≠ i → t.safPair j = s.dev.safPair j) ∧ t.saf.cores = s.dev.saf.cores ∧ s.dev.keeps t [] [.saf])) ∧
      (x.seen = false → Does s (.outputTestEnd i) (fun t => (t.safPair i).test = none ∧ (t.safPair i).fault = true ∧ (t.safPair i).byTest = true ∧
        (t.safPair i).p = false ∧ (t.safPair i).m = false ∧ s.dev.isle Err.SAF_TEST_FAIL [i, Config.recordNumber Err.SAF_OUT_FAULT x.sw, Config.recordNumber Err.SAF_TEST_FAIL (b2n (!x.dark))] ∈ t.raised ∧ t.tb = s.dev.tb ∧ t.ce = s.dev.ce)))

/-- The expiries of the island's functions and its Telltale connections (R378, R380, R383, R384, R392, R397 to R400): SS1-t ends in STO, SS2 that is not complete is
in violation; a limit comes into force after its grace; Safe Hoist Hold ends in STO where the load stands, and slips where it moves;
the brake test's phases and its result; a frame sent, accepted, or missed for TT_WD; the password session and the lock of entry. -/
def Obligations.IslandFunctions : Prop :=
  ∀ s : State, s.dev.sys.run ≠ .inReset →
    (∀ n < 6,
      (s.dev.saf.st = 2 → (∀ k < 2, (s.dev.safCh k n).t0 + 4 * s.dev.sp 0x041 n ≤ s.dev.saf.ticks) →
        ((∀ k < 2, (s.dev.safCh k n).st = 2) → s.dev.sp 0x040 n = 0 → Does s (.ss1TimerExpiry n) (fun t =>
          (∀ k < 2, (t.safCh k n).done1 = true ∧ (t.safCh k n).st = if s.dev.sp 0x060 n = 1 then 5 else 1) ∧
          (∀ k m, m ≠ n → t.safCh k m = s.dev.safCh k m) ∧ (s.dev.sp 0x060 n ≠ 1 → t.saf.gd.testBit n = false ∧ (⟨n, 4, 0⟩ : ForceCond) ∈ t.pwm.conds) ∧
          t.tb = s.dev.tb ∧ t.ce = s.dev.ce)) ∧
        ((∀ k < 2, (s.dev.safCh k n).st = 3 ∧ (s.dev.safCh k n).lat.testBit 3 = true ∧ (s.dev.safCh k n).vio = 0) → Does s (.ss1TimerExpiry n) (fun t =>
          (∀ k < 2, (t.safCh k n).vio = 8 ∧ (t.safCh k n).st = if s.dev.sp 0x060 n = 1 then 5 else 1) ∧
          s.dev.isle Err.SAF_LIMIT [n, 3, w32 (s.dev.nSafe n)] ∈ t.raised ∧ (∀ k m, m ≠ n → t.safCh k m = s.dev.safCh k m) ∧ t.tb = s.dev.tb ∧
          t.ce = s.dev.ce))) ∧
      (∀ k < 2, ∀ u, (s.dev.safCh k n).slsDue = some u → u ≤ s.dev.saf.ticks → Does s (.slsGraceExpiry n) (fun t =>
        t.safCh k n = { s.dev.safCh k n with slsLim := some (s.dev.slsLimit n (s.dev.safCh k n).slsIdx), slsDue := none } ∧
        (∀ j m, m ≠ n → t.safCh j m = s.dev.safCh j m) ∧ s.dev.keeps t [] [.saf])) ∧
      ((∀ k < 2, (s.dev.safCh k n).st = 5 ∧ (s.dev.safCh k n).slip = false ∧ (s.dev.safCh k n).t0 + 4 * s.dev.sp 0x061 n ≤ s.dev.saf.ticks) →
        (s.dev.saf.st = 3 ∨ s.dev.shhStill n = true → Does s (.shhBrakeTimeExpiry n) (fun t => (∀ k < 2, (t.safCh k n).st = 1) ∧
          t.saf.gd.testBit n = false ∧ t.saf.gd.testBit (6 + n) = false ∧ (⟨n, 4, 0⟩ : ForceCond) ∈ t.pwm.conds ∧
          (∀ k m, m ≠ n → t.safCh k m = s.dev.safCh k m) ∧ t.tb = s.dev.tb ∧ t.ce = s.dev.ce)) ∧
        (s.dev.saf.st = 2 → s.dev.shhStill n = false → Does s (.shhBrakeTimeExpiry n) (fun t => (∀ k < 2, (t.safCh k n).st = 5 ∧ (t.safCh k n).slip = true) ∧
          s.dev.isle Err.SAF_SHH_SLIP [n, (s.dev.posAgo n 0 - s.dev.posAgo n 200).natAbs] ∈ t.raised ∧ t.tb = s.dev.tb ∧ t.ce = s.dev.ce))) ∧
      ((∀ k < 2, (s.dev.safCh k n).st = 5 ∧ (s.dev.safCh k n).t0 + 4 * s.dev.sp 0x063 n ≤ s.dev.saf.ticks) → Does s (.shhMaxExpiry n) (fun t =>
        (∀ k < 2, (t.safCh k n).st = 1) ∧ t.saf.gd.testBit n = false ∧ t.saf.gd.testBit (6 + n) = false ∧ (⟨n, 4, 0⟩ : ForceCond) ∈ t.pwm.conds ∧
        (∀ k m, m ≠ n → t.safCh k m = s.dev.safCh k m) ∧ t.tb = s.dev.tb ∧ t.ce = s.dev.ce)) ∧
      (∀ k < 2, (s.dev.safCh k n).st = 6 →
        ((s.dev.safCh k n).sbtPh = 1 → (s.dev.safCh k n).t0 + 4 * s.dev.sp 0x061 n ≤ s.dev.saf.ticks → Does s (.sbtPhaseEnd n) (fun t =>
          (t.safCh k n).st = 6 ∧ (t.safCh k n).sbtPh = 2 ∧ (t.safCh k n).t0 = s.dev.saf.ticks ∧ (t.safCh k n).sbtP = s.dev.posAgo n 0 ∧
          (t.safCh k n).sbtMove = false ∧ t.tb = s.dev.tb ∧ t.ce = s.dev.ce)) ∧
        ((s.dev.safCh k n).sbtPh = 2 → (s.dev.safCh k n).t0 + 4 * s.dev.sp 0x068 n ≤ s.dev.saf.ticks → ∀ r, r = (s.dev.safCh k n).sbtResult →
          Does s (.sbtPhaseEnd n) (fun t => (t.safCh k n).st = 0 ∧ (t.safCh k n).sbtPh = 0 ∧ (r = 0 → (t.safCh k n).sbtOk = true ∧ (t.safCh k n).sbtDue = false ∧
            (t.safCh k n).sbtPass = s.dev.saf.ticks) ∧ (r ≠ 0 → (t.safCh k n).sbtFail = true ∧ (k = 0 → s.dev.isle Err.SAF_SBT_FAIL [n, Config.recordNumber Err.SAF_SBT_FAIL r] ∈ t.raised)) ∧
            t.tb = s.dev.tb ∧ t.ce = s.dev.ce))) ∧
      (∀ k < 2, s.dev.saf.st = 2 → (s.dev.safCh k n).sbtOk = true → (s.dev.safCh k n).sbtDue = false →
        (s.dev.safCh k n).sbtPass + 14400000 * s.dev.sp 0x06B n ≤ s.dev.saf.ticks → Does s (.safSbtDue n) (fun t =>
          t.safCh k n = { s.dev.safCh k n with sbtDue := true } ∧ (k = 0 → t.raised = s.dev.plusIsland Err.SAF_SBT_DUE [n]) ∧
          s.dev.keeps t [] [.saf, .raised]))) ∧
    (∀ c < 8,
      (s.dev.saf.st = 2 → s.dev.sp 0x080 c = 1 → ((s.dev.conn c).sent = false ∨ 4 * s.dev.sp 0x084 c ≤ s.dev.saf.ticks - (s.dev.conn c).at_ ∨
          (s.dev.ttData ≠ (s.dev.conn c).data ∧ 4 ≤ s.dev.saf.ticks - (s.dev.conn c).at_)) →
        ∀ f, f = ttFrame (s.dev.sp 0x082 c) (s.dev.conn c).tx (s.dev.sp 0x083 c) s.dev.ttData → Does s (.telltaleTransmit c) (fun t =>
          (t.conn c).buf = f ∧ (t.conn c).seq = (s.dev.conn c).tx ∧ (t.conn c).tx = ((s.dev.conn c).tx + 1) % 65536 ∧ (t.conn c).at_ = s.dev.saf.ticks ∧
          (t.conn c).wait = decide (s.dev.sp 0x081 c ≠ 0) ∧ (s.dev.sp 0x081 c = 0 → t.drg = { s.dev.drg with tts := s.dev.drg.tts ++ [f] }) ∧
          (s.dev.sp 0x081 c ≠ 0 → t.drg = s.dev.drg) ∧ (∀ j, j ≠ c → t.conn j = s.dev.conn j) ∧ s.dev.keeps t [] [.saf, .drg])) ∧
      ((s.dev.conn c).st = 2 → s.dev.sp 0x080 c = 2 → (s.dev.conn c).at_ + 4 * s.dev.sp 0x083 c ≤ s.dev.saf.ticks → Does s (.safTtLost c) (fun t =>
        t.conn c = { s.dev.conn c with st := 3, good := none, vi := 0, viIn := 0 } ∧ (∀ j, j ≠ c → t.conn j = s.dev.conn j) ∧
        t.raised = s.dev.plusIsland Err.SAF_TT_LOST [c] ∧ s.dev.keeps t [] [.saf, .raised])) ∧
      (∀ src f, s.dev.live = true → s.dev.saf.st = 2 → s.dev.sp 0x080 c = 2 → s.dev.sp 0x081 c = 0 → s.dev.sp 0x085 c = src → (s.dev.conn c).st = 2 →
        ∀ k, k = (leVal ((f.drop 4).take 2) + 65536 - (s.dev.conn c).seq) % 65536 →
        (s.dev.ttGood c f = true → 1 ≤ k → k ≤ 4 → Does s (.telltaleFrameReceived src true f) (fun t =>
          t.conn c = { s.dev.conn c with
            seq := leVal ((f.drop 4).take 2), at_ := s.dev.saf.ticks, good := none, viIn := leVal ((f.drop 10).take 2)
            buf := f.take (14 + f.getD 8 0) } ∧ s.dev.keeps t [] [.saf])) ∧
        (s.dev.ttGood c f = false ∨ 4 < k → Does s (.telltaleFrameReceived src true f) (fun t =>
          t.conn c = { s.dev.conn c with err := satInc 255 (s.dev.conn c).err } ∧ s.dev.keeps t [] [.saf])))) ∧
    (s.dev.saf.entered = true → s.dev.saf.cmdAt + 2400000 ≤ s.dev.saf.ticks → Does s .passwordSessionTimeout (fun t =>
      t.saf = { s.dev.saf with entered := false } ∧ s.dev.keeps t [] [.saf])) ∧
    (∀ u, s.dev.saf.lockAt = some u → u + 2400000 ≤ s.dev.saf.ticks → Does s .passwordLockEnd (fun t =>
      t.saf = { s.dev.saf with lockAt := none, fails := 0 } ∧ s.dev.keeps t [] [.saf]))

/-- A message of the command FIFO awaits the island: its header, its payload, what follows it (R401). -/
def Sys2Proof.Machine.Dev.safAsks (d : Dev) (w : Nat) (p : List Nat) (rest : List (List Nat)) : Prop :=
  d.saf.took = false ∧ d.saf.msgs = (w :: p) :: rest ∧ p.length = w % 256

/-- The island has taken a message and answered it (R402). -/
def Sys2Proof.Machine.Dev.safDone (d t : Dev) (w code : Nat) (rest : List (List Nat)) : Prop :=
  t.saf.took = true ∧ t.saf.msgs = rest ∧ t.saf.resp = w / 65536 % 65536 * 65536 + code ∧ (code = 0 → t.saf.cmdAt = d.saf.ticks) ∧
    t.tb = d.tb ∧ t.ce = d.ce ∧ ∀ a, t.byte a = d.byte a

/-- The command channel and the island's commands (R388, R390 to R394, R398, R399, R401 to R403, R384 to R386): words, GO and FLUSH; a message of the wrong length is refused;
password, configuration, activation, log, requests, acknowledge, brake test and Telltale reception. -/
def Obligations.IslandCommands : Prop :=
  (∀ s : State, s.dev.live = true →
    (∀ v, (s.dev.saf.ovr = true → exec (.safCmdDataWrite v) s = .next s) ∧
      (s.dev.saf.ovr = false → 256 ≤ s.dev.saf.level → Does s (.safCmdDataWrite v) (fun t => t.saf = { s.dev.saf with ovr := true } ∧ s.dev.keeps t [] [.saf])) ∧
      (s.dev.saf.ovr = false → s.dev.saf.level < 256 → Does s (.safCmdDataWrite v) (fun t =>
        t.saf = { s.dev.saf with words := s.dev.saf.words ++ [v % 2 ^ 32] } ∧ s.dev.keeps t [] [.saf]))) ∧
    (s.dev.saf.words ≠ [] → Does s .go (fun t => t.saf = { s.dev.saf with msgs := s.dev.saf.msgs ++ [s.dev.saf.words], words := [] } ∧ s.dev.keeps t [] [.saf])) ∧
    Does s .flush (fun t => t.saf = { s.dev.saf with words := [], ovr := false } ∧ s.dev.keeps t [] [.saf])) ∧
  ∀ s : State, s.dev.sys.run ≠ .inReset → ∀ w p rest,
    (s.dev.saf.took = false → s.dev.saf.msgs = (w :: p) :: rest → p.length ≠ w % 256 → s.dev.hst.safWait = none →
      ∀ x ∈ ([(.enter, 1), (.exit, 2), (.setPw, 3), (.cfgLoad, 4), (.cfgCheck, 5), (.cfgStart, 6), (.activate, 7), (.logAck, 8), (.reqSto, 9), (.relSto, 10),
        (.islandAck, 11), (.sbtStart, 12), (.ttRx, 13)] : List (Instr × Nat)), w / 2 ^ 24 % 256 = x.2 → Does s x.1 (fun t =>
      t.saf = { s.dev.saf with msgs := rest, took := true, resp := w / 65536 % 65536 * 65536 + Err.SAF_CMD_REFUSED } ∧
      t.raised = s.dev.plusIsland Err.SAF_CMD_REFUSED [x.2, w / 65536 % 256] ∧ s.dev.keeps t [] [.saf, .raised])) ∧
    (s.dev.safAsks w p rest →
      (w / 2 ^ 24 % 256 = 1 → ∀ pw, passOf p = some pw → s.dev.saf.lockAt = none → (s.dev.tlyEntry 9).blank = false → s.dev.saf.entered = false →
        (sha256n ((s.dev.tlyEntry 9).value.take 16 ++ pw) = (s.dev.tlyEntry 9).value.drop 16 → Does s .enter (fun t => s.dev.safDone t w 0 rest ∧
          t.saf.entered = true ∧ t.saf.fails = 0)) ∧
        (sha256n ((s.dev.tlyEntry 9).value.take 16 ++ pw) ≠ (s.dev.tlyEntry 9).value.drop 16 → Does s .enter (fun t => s.dev.safDone t w Err.SAF_PW_FAIL rest ∧
          t.saf.entered = false ∧ t.saf.fails = s.dev.saf.fails + 1 ∧ s.dev.isle Err.SAF_PW_FAIL [s.dev.saf.fails + 1] ∈ t.raised ∧
          t.saf.lockAt = if 4 ≤ s.dev.saf.fails then some s.dev.saf.ticks else none))) ∧
      (w / 2 ^ 24 % 256 = 2 → s.dev.saf.entered = true → p = [] → Does s .exit (fun t => s.dev.safDone t w 0 rest ∧ t.saf.entered = false)) ∧
      (w / 2 ^ 24 % 256 = 3 → ∀ pw, passOf p = some pw → (s.dev.saf.entered = true ∨ (s.dev.tlyEntry 9).blank = true) → s.dev.saf.logPend = false →
        s.dev.tly.ops = [] → s.dev.tlyRefusal 9 0 [] false = none → Does s .setPw (fun t => s.dev.safDone t w 0 rest ∧ t.saf.logIdx = s.dev.saf.logIdx + 1 ∧
          t.saf.logPend = true ∧ ∃ salt : List Nat, salt.length = 16 ∧ (t.tly.ops = [⟨9, 0, salt ++ sha256n (salt ++ pw), w / 256 % 256⟩] ∨
            (s.dev.tlyEntry 9).value = salt ++ sha256n (salt ++ pw)))) ∧
      (w / 2 ^ 24 % 256 = 4 → s.dev.mayStage = true → ∀ o data, p.getD 0 0 = o → data = wordBytes (p.drop 1) → p ≠ [] → o % 4 = 0 → o ≤ 4108 →
        o + data.length ≤ 4112 → (o = 0 ∨ o ≤ s.dev.saf.staged.length) → Does s .cfgLoad (fun t => s.dev.safDone t w 0 rest ∧ t.saf.stagedOk = false ∧
          t.saf.staged = if o = 0 then data else s.dev.saf.staged.take o ++ data ++ s.dev.saf.staged.drop (o + data.length))) ∧
      (w / 2 ^ 24 % 256 = 5 → s.dev.mayStage = true → p = [] →
        (cfgBad s.dev.saf.staged = none → Does s .cfgCheck (fun t => s.dev.safDone t w 0 rest ∧ t.saf.stagedOk = true ∧ t.saf.shash = sha256n s.dev.saf.staged)) ∧
        (∀ e, cfgBad s.dev.saf.staged = some e → Does s .cfgCheck (fun t => s.dev.safDone t w Err.SAF_CFG_REFUSED rest ∧ t.saf.stagedOk = false ∧ t.saf.cfgErr = e ∧
          s.dev.isle Err.SAF_CFG_REFUSED [e.1, e.2] ∈ t.raised))) ∧
      (w / 2 ^ 24 % 256 = 6 → p = [] →
        (s.dev.saf.st = 1 → s.dev.saf.stagedOk = true → (s.dev.tlyEntry 8).blank = false → (s.dev.tlyEntry 8).value = s.dev.saf.shash → Does s .cfgStart (fun t =>
          s.dev.safDone t w 0 rest ∧ t.saf.st = 2 ∧ t.saf.cfg = cfgVals s.dev.saf.staged ∧ t.saf.gd = 0 ∧ ∀ k < 2, ∀ n < 6, (t.safCh k n).st = 1 ∧
          (t.safCh k n).ackPend = true)) ∧
        (¬ (s.dev.saf.st = 1 ∧ s.dev.saf.stagedOk = true ∧ (s.dev.tlyEntry 8).blank = false ∧ (s.dev.tlyEntry 8).value = s.dev.saf.shash) →
          Does s .cfgStart (fun t => s.dev.safDone t w Err.SAF_CFG_REFUSED rest ∧ t.saf.st = s.dev.saf.st ∧ t.saf.cfg = s.dev.saf.cfg))) ∧
      (w / 2 ^ 24 % 256 = 7 → s.dev.saf.entered = true → s.dev.saf.stagedOk = true → p.length = 10 → wordBytes (p.drop 2) = s.dev.saf.shash → s.dev.allSto = true →
        s.dev.saf.logPend = false → s.dev.tly.ops = [] → s.dev.tlyRefusal 8 0 [] false = none → Does s .activate (fun t => s.dev.safDone t w 0 rest ∧
          t.saf.logPend = true ∧ t.saf.logIdx = s.dev.saf.logIdx + 1 ∧ s.dev.isle Err.SAF_CFG_ACTIVE [s.dev.saf.logIdx + 1] ∈ t.raised ∧
          (t.tly.ops = [⟨8, 0, s.dev.saf.shash, w / 256 % 256⟩] ∨ (s.dev.tlyEntry 8).value = s.dev.saf.shash) ∧
          (s.dev.saf.st = 2 → t.saf.next = some (cfgVals s.dev.saf.staged) ∧ t.saf.hash = s.dev.saf.shash))) ∧
      (w / 2 ^ 24 % 256 = 8 → p = [s.dev.saf.logIdx] → s.dev.saf.logPend = true → Does s .logAck (fun t => s.dev.safDone t w 0 rest ∧ t.saf.logPend = false)) ∧
      (s.dev.saf.st = 2 → ∀ m, p = [m] → ∀ n ∈ maskBits 6 m, ∀ k < 2,
        (w / 2 ^ 24 % 256 = 9 → Does s .reqSto (fun t => s.dev.safDone t w 0 rest ∧ (t.safCh k n).host = true ∧ (t.safCh k n).lat.testBit 1 = true ∧
          ((t.safCh k n).st = 1 ∨ (t.safCh k n).st = 5))) ∧
        (w / 2 ^ 24 % 256 = 10 → Does s .relSto (fun t => s.dev.safDone t w 0 rest ∧ (t.safCh k n).host = false ∧ (t.safCh k n).st = (s.dev.safCh k n).st))) ∧
      (w / 2 ^ 24 % 256 = 11 → ∀ m, p = [m] → (∀ n ∈ maskBits 6 m, (s.dev.sp 0x071 n).testBit 2 = true ∧ s.dev.safHeld n = false) → Does s .islandAck (fun t =>
        s.dev.safDone t w 0 rest ∧ ∀ n ∈ maskBits 6 m, ∀ k < 2, (t.safCh k n).init = false ∧ ((s.dev.safCh k n).held = 0 → (s.dev.safCh k n).lat < 256 → (s.dev.safCh k n).spd = false →
          s.dev.sbcFault n = false → (s.dev.safCh k n).st ≠ 6 → (t.safCh k n).st = 0 ∧ (t.safCh k n).lat = 0))) ∧
      (w / 2 ^ 24 % 256 = 12 → s.dev.saf.st = 2 → ∀ n < 6, p = [n] → (∀ k < 2, (s.dev.safCh k n).st = 0 ∧ (s.dev.safCh k n).lat = 0 ∧ (s.dev.safCh k n).ackPend = false) →
        (s.dev.sbcPair n).isSome = true → s.dev.sp 0x031 n ≠ 0 → Does s .sbtStart (fun t => s.dev.safDone t w 0 rest ∧ ∀ k < 2, (t.safCh k n).st = 6 ∧
          (t.safCh k n).sbtPh = 1 ∧ (t.safCh k n).t0 = s.dev.saf.ticks)) ∧
      (w / 2 ^ 24 % 256 = 13 → ∀ c < 8, ∀ f, p.getD 0 0 = c + 256 * f.length → f.length ≤ 48 → p.length = 1 + (f.length + 3) / 4 →
        (wordBytes (p.drop 1)).take f.length = f → s.dev.sp 0x080 c = 2 → s.dev.sp 0x081 c ≠ 0 → (s.dev.conn c).st = 2 → s.dev.ttGood c f = true →
        ∀ k, k = (leVal ((f.drop 4).take 2) + 65536 - (s.dev.conn c).seq) % 65536 → 1 ≤ k → k ≤ 4 → Does s .ttRx (fun t => s.dev.safDone t w 0 rest ∧
          (t.conn c).seq = leVal ((f.drop 4).take 2) ∧ (t.conn c).viIn = leVal ((f.drop 10).take 2) ∧ (t.conn c).at_ = s.dev.saf.ticks ∧
          ∀ j, j ≠ c → t.conn j = s.dev.conn j)))

/-! ## CAN FD controllers -/

/-- A high-priority entry of a controller takes a frame (R414). -/
def Sys2Proof.Machine.Dev.hpTakes (d : Dev) (n w0 e : Nat) : Bool :=
  d.on (Reg.CAN_HP_CFG_EN n e) && canMatch (bits w0 28 0) (bits w0 31 31) (d.g (Reg.CAN_HP_ID_ID n e)) (d.g (Reg.CAN_HP_ID_XTD n e))
    (d.g (Reg.CAN_HP_MASK_MASK n e)) (d.g (Reg.CAN_HP_MASK_XTD n e))

/-- A receive object of a controller takes a frame (R414). -/
def Sys2Proof.Machine.Dev.objTakes (d : Dev) (n w0 k : Nat) : Bool :=
  d.on (Reg.CAN_OBJ_CFG_EN n k) && !d.on (Reg.CAN_OBJ_CFG_DIR n k) &&
    canMatch (bits w0 28 0) (bits w0 31 31) (d.g (Reg.CAN_OBJ_ID_ID n k)) (d.g (Reg.CAN_OBJ_ID_XTD n k))
      (d.g (Reg.CAN_OBJ_MASK_MASK n k)) (d.g (Reg.CAN_OBJ_MASK_XTD n k))

/-- A frame stands in an element (R411): its words, the SOF instant, its data; no other byte has changed. -/
def Sys2Proof.Machine.Dev.elemIs (d t : Dev) (key w0 w1 mt sof : Nat) (data : List Nat) : Prop :=
  t.mem32 key = w0 % 2 ^ 32 ∧ t.mem32 (key + 4) = setBits w1 15 8 mt % 2 ^ 32 ∧ t.mem32 (key + 8) = sof / 32 * 32 % 2 ^ 32 ∧
    t.mem32 (key + 12) = sof / 32 * 32 / 2 ^ 32 % 2 ^ 32 ∧ (∀ i < data.length, t.byte (key + 16 + i) = data.getD i 0 % 256) ∧
    ∀ a, (a < key ∨ key + 16 + data.length ≤ a) → t.byte a = d.byte a

/-- A controller may start an arbitration (R408, R412). -/
def Sys2Proof.Machine.Dev.canFree (d : Dev) (n : Nat) : Bool :=
  d.on (Reg.CAN_STAT_ON_BUS n) && !d.on (Reg.CAN_CTL_INIT n) && d.g (Reg.CAN_STAT_STATE n) != 2 && !d.on (Reg.CAN_CTL_MON n) &&
    !d.on (Reg.CAN_CTL_REST n) && (d.can n).cand.isNone

/-- Transmission, errors and INIT (R408, R409, R411 to R413, R416 to R418): a request enters arbitration, an FD frame that FD_EN forbids ends with RESULT 5; an
abort; an acknowledged frame ends with RESULT 1 and its SOF instant; an error counts, and at its limits ends the request, shows NO_PEER or
takes the controller bus-off; INIT, the join and the recovery. -/
def canTransmission : Prop :=
  ∀ s : State, s.dev.live = true → ∀ n < 4,
    (s.dev.on (Reg.CAN_STAT_ON_BUS n) = true → s.dev.on (Reg.CAN_CTL_INIT n) = false →
      ((s.dev.can n).cand.isSome = true → Does s (.canInitSet n) (fun t => t.on (Reg.CAN_CTL_INIT n) = true ∧ (t.can n).stop = true ∧
        t.on (Reg.CAN_STAT_ON_BUS n) = true ∧ s.dev.keeps t [Reg.CAN_CTL_INIT n] [.cans])) ∧
      ((s.dev.can n).cand = none → Does s (.canInitSet n) (fun t => t.on (Reg.CAN_CTL_INIT n) = true ∧ t.on (Reg.CAN_STAT_ON_BUS n) = false ∧
        s.dev.keeps t [Reg.CAN_CTL_INIT n, Reg.CAN_STAT_ON_BUS n] []))) ∧
    (s.dev.on (Reg.CAN_CTL_INIT n) = true →
      (s.dev.canCfgBad n = 0 → Does s (.canInitClear n) (fun t => t.on (Reg.CAN_CTL_INIT n) = false ∧
        (t.can n).recov = decide (s.dev.g (Reg.CAN_STAT_STATE n) = 2) ∧ s.dev.keeps t [Reg.CAN_CTL_INIT n] [.cans])) ∧
      (s.dev.canCfgBad n ≠ 0 → Does s (.canInitClear n) (fun t => t.raised = s.dev.plusRecord Err.CAN_CFG_BAD [n, Config.recordNumber Err.CAN_CFG_BAD (s.dev.canCfgBad n)] ∧
        s.dev.keeps t [] [.raised]))) ∧
    (s.dev.on (Reg.CAN_CTL_INIT n) = false → s.dev.g (Reg.CAN_STAT_STATE n) ≠ 2 → Does s (.canBusJoin n) (fun t => t.on (Reg.CAN_STAT_ON_BUS n) = true ∧
      t.g (Reg.CAN_ECNT_TEC n) = s.dev.g (Reg.CAN_ECNT_TEC n) ∧ t.raised = s.dev.raised ∧ t.tb = s.dev.tb ∧ ∀ a, t.byte a = s.dev.byte a)) ∧
    (s.dev.g (Reg.CAN_STAT_STATE n) = 2 → (s.dev.can n).recov = true → Does s (.canBusOffRecovery n) (fun t => t.g (Reg.CAN_STAT_STATE n) = 0 ∧
      t.on (Reg.CAN_STAT_ON_BUS n) = true ∧ t.g (Reg.CAN_ECNT_TEC n) = 0 ∧ t.g (Reg.CAN_ECNT_REC n) = 0 ∧ (t.can n).recov = false ∧
      t.raised = s.dev.plusRecord Err.CAN_ERR_ACTIVE [n] ∧ t.tb = s.dev.tb ∧ ∀ a, t.byte a = s.dev.byte a)) ∧
    (∀ ofs v, ofs < 0x5000 → ∀ w, w = ofs / 4 * 4 →
      ((w / 80 < 64 → s.dev.on (Reg.CAN_OBJ_STAT_TXREQ n (w / 80)) = false) → Does s (.canMessageRamWrite n ofs v) (fun t =>
        t.mem32 (canRam n w) = v % 2 ^ 32 ∧ (∀ a, (a < canRam n w ∨ canRam n w + 4 ≤ a) → t.byte a = s.dev.byte a) ∧ s.dev.keeps t [] [.mem])) ∧
      (w / 80 < 64 → s.dev.on (Reg.CAN_OBJ_STAT_TXREQ n (w / 80)) = true → Does s (.canMessageRamWrite n ofs v) (fun t =>
        t.raised = s.dev.plusRecord Err.CAN_WR_GUARD [n, w] ∧ s.dev.keeps t [] [.raised]))) ∧
    (∀ ofs v, 0x5000 ≤ ofs → exec (.canMessageRamWrite n ofs v) s = .next s) ∧
    (∀ k < 64,
      (s.dev.canFree n = false → Does s (.canTxRequest n k) (fun t => t.on (Reg.CAN_OBJ_STAT_TXREQ n k) = true ∧ s.dev.keeps t [Reg.CAN_OBJ_STAT_TXREQ n k] [])) ∧
      (s.dev.canFree n = true → s.dev.on (Reg.CAN_OBJ_CFG_EN n k) = true → s.dev.on (Reg.CAN_OBJ_CFG_DIR n k) = true →
        (∀ j ∈ s.dev.canRequests n, j = k) →
        (s.dev.on (Reg.CAN_CTL_FD_EN n) = true ∨ (s.dev.objWord n k 1).testBit 31 = false → Does s (.canTxRequest n k) (fun t =>
          t.on (Reg.CAN_OBJ_STAT_TXREQ n k) = true ∧ (t.can n).cand = some k ∧ s.dev.keeps t [Reg.CAN_OBJ_STAT_TXREQ n k] [.cans])) ∧
        (s.dev.on (Reg.CAN_CTL_FD_EN n) = false → (s.dev.objWord n k 1).testBit 31 = true → Does s (.canTxRequest n k) (fun t =>
          t.on (Reg.CAN_OBJ_STAT_TXREQ n k) = false ∧ t.g (Reg.CAN_OBJ_STAT_RESULT n k) = 5 ∧ (t.can n).cand = none ∧
          s.dev.keeps t [Reg.CAN_OBJ_STAT_TXREQ n k, Reg.CAN_OBJ_STAT_RESULT n k] [.cans]))) ∧
      (s.dev.on (Reg.CAN_OBJ_STAT_TXREQ n k) = true →
        ((s.dev.can n).cand ≠ some k → Does s (.canTxAbort n k) (fun t => t.on (Reg.CAN_OBJ_STAT_TXREQ n k) = false ∧ t.g (Reg.CAN_OBJ_STAT_RESULT n k) = 2 ∧
          s.dev.keeps t [Reg.CAN_OBJ_STAT_TXREQ n k, Reg.CAN_OBJ_STAT_RESULT n k] [])) ∧
        ((s.dev.can n).cand = some k → Does s (.canTxAbort n k) (fun t => t.can n = { s.dev.can n with abort := true } ∧ s.dev.keeps t [] [.cans]))) ∧
      ((s.dev.can n).cand = some k →
        (∀ sof tdcv, Does s (.canTxComplete n sof tdcv) (fun t => t.on (Reg.CAN_OBJ_STAT_TXREQ n k) = false ∧ t.g (Reg.CAN_OBJ_STAT_RESULT n k) = 1 ∧
          (t.g (Reg.CAN_IR_EVENTS n)).testBit 0 = true ∧ t.mem32 (canRam n (80 * k + 8)) = sof / 32 * 32 % 2 ^ 32 ∧
          t.mem32 (canRam n (80 * k + 12)) = sof / 32 * 32 / 2 ^ 32 % 2 ^ 32 ∧ t.g (Reg.CAN_ECNT_TEC n) = s.dev.g (Reg.CAN_ECNT_TEC n) - 1 ∧
          t.on (Reg.CAN_STAT_NO_PEER n) = false ∧ (∀ a, (a < canRam n (80 * k + 8) ∨ canRam n (80 * k + 16) ≤ a) → t.byte a = s.dev.byte a) ∧
          t.tb = s.dev.tb)) ∧
        (∀ kind step dataPhase body, s.dev.on (Reg.CAN_STAT_ON_BUS n) = true → 1 ≤ kind → kind ≤ 6 → ∀ tec,
          tec = Min.min 256 (s.dev.g (Reg.CAN_ECNT_TEC n) + if kind = 3 ∧ s.dev.g (Reg.CAN_STAT_STATE n) = 1 then 0 else step) →
          Does s (.canProtocolError n kind step true dataPhase body) (fun t => t.g (Reg.CAN_STAT_LEC n) = kind ∧ t.on (Reg.CAN_STAT_LEC_DATA n) = dataPhase ∧
            t.g (Reg.CAN_ECNT_TEC n) = tec ∧
            (255 < tec → s.dev.g (Reg.CAN_STAT_STATE n) ≠ 2 → t.g (Reg.CAN_STAT_STATE n) = 2 ∧ t.on (Reg.CAN_STAT_ON_BUS n) = false ∧
              s.dev.record Err.CAN_BUS_OFF [n, tec, kind] ∈ t.raised) ∧
            (kind = 4 ∨ kind = 5 → body = true → Max.max 1 (s.dev.g (Reg.CAN_LIM_ID_CLASH_LIMIT n)) ≤ (if (s.dev.can n).clObj = k then (s.dev.can n).clCnt + 1 else 1) →
              t.on (Reg.CAN_OBJ_STAT_TXREQ n k) = false ∧ t.g (Reg.CAN_OBJ_STAT_RESULT n k) = 3 ∧
              s.dev.record Err.CAN_ID_CLASH [n, bits (s.dev.objWord n k 0) 28 0, bits (s.dev.objWord n k 0) 31 31, k] ∈ t.raised) ∧
            (kind = 3 → Max.max 1 (s.dev.g (Reg.CAN_LIM_NOACK_LIMIT n)) ≤ (s.dev.can n).noack + 1 → t.on (Reg.CAN_STAT_NO_PEER n) = true ∧
              (s.dev.on (Reg.CAN_STAT_NO_PEER n) = false → s.dev.record Err.CAN_NO_PEER [n, k] ∈ t.raised)) ∧
            t.tb = s.dev.tb ∧ ∀ a, t.byte a = s.dev.byte a)))) ∧
    (∀ kind step dataPhase body, s.dev.on (Reg.CAN_STAT_ON_BUS n) = true → 1 ≤ kind → kind ≤ 6 →
      Does s (.canProtocolError n kind step false dataPhase body) (fun t => t.g (Reg.CAN_STAT_LEC n) = kind ∧ t.on (Reg.CAN_STAT_LEC_DATA n) = dataPhase ∧
        t.g (Reg.CAN_ECNT_REC n) = Min.min 255 (s.dev.g (Reg.CAN_ECNT_REC n) + step) ∧ t.g (Reg.CAN_ECNT_TEC n) = s.dev.g (Reg.CAN_ECNT_TEC n) ∧
        t.tb = s.dev.tb ∧ ∀ a, t.byte a = s.dev.byte a))

/-- Reception (R407, R411, R414, R415): the lowest high-priority entry that matches takes a frame, else the lowest receive object, in its element or in the
FIFO; a full queue counts and records the loss, a frame that nothing takes is counted; FIFO and entry elements are released. -/
def canReception : Prop :=
  ∀ s : State, s.dev.live = true → ∀ n < 4,
    (s.dev.on (Reg.CAN_STAT_ON_BUS n) = true → ∀ w0 w1 sof data, (w1.testBit 31 = false ∨ s.dev.on (Reg.CAN_CTL_FD_EN n) = true) →
      ∀ dat, dat = data.take (if w0.testBit 30 then 0 else dlcLen (w1.testBit 31) (bits w1 19 16)) →
      (∀ e < 8, s.dev.hpTakes n w0 e = true → (∀ j < e, s.dev.hpTakes n w0 j = false) → ∀ lvl put, lvl = s.dev.g (Reg.CAN_HP_STAT_LEVEL n e) →
        put = s.dev.g (Reg.CAN_HP_STAT_PUT n e) →
        (lvl < 8 → Does s (.canFrameReceived n w0 w1 sof data) (fun t => s.dev.elemIs t (canRam n (0x1400 + 640 * e + 80 * put)) w0 w1 (0x80 + e) sof dat ∧
          t.g (Reg.CAN_HP_STAT_LEVEL n e) = lvl + 1 ∧ t.g (Reg.CAN_HP_STAT_PUT n e) = (put + 1) % 8 ∧ t.tb = s.dev.tb)) ∧
        (8 ≤ lvl → Does s (.canFrameReceived n w0 w1 sof data) (fun t => ∀ ovr, ovr = satInc 255 (s.dev.g (Reg.CAN_HP_STAT_OVR n e)) →
          t.g (Reg.CAN_HP_STAT_OVR n e) = ovr ∧ s.dev.record Err.CAN_HP_OVR [n, e, ovr] ∈ t.raised ∧ (t.g (Reg.CAN_IR_EVENTS n)).testBit 8 = true ∧
          t.tb = s.dev.tb ∧ ∀ a, t.byte a = s.dev.byte a))) ∧
      ((∀ e < 8, s.dev.hpTakes n w0 e = false) →
        (∀ k < 64, s.dev.objTakes n w0 k = true → (∀ j < k, s.dev.objTakes n w0 j = false) →
          (s.dev.on (Reg.CAN_OBJ_CFG_FIFO n k) = false → Does s (.canFrameReceived n w0 w1 sof data) (fun t =>
            s.dev.elemIs t (canRam n (80 * k)) w0 w1 k sof dat ∧ t.on (Reg.CAN_OBJ_STAT_NEW n k) = true ∧ (t.g (Reg.CAN_IR_EVENTS n)).testBit 1 = true ∧
            (s.dev.on (Reg.CAN_OBJ_STAT_NEW n k) = true → t.on (Reg.CAN_OBJ_STAT_LOST n k) = true ∧ s.dev.record Err.CAN_RX_LOST [n, k] ∈ t.raised) ∧
            t.tb = s.dev.tb)) ∧
          (s.dev.on (Reg.CAN_OBJ_CFG_FIFO n k) = true → ∀ lvl put, lvl = s.dev.g (Reg.CAN_FIFO_LEVEL n) → put = s.dev.g (Reg.CAN_FIFO_PUT n) →
            (lvl < 128 → Does s (.canFrameReceived n w0 w1 sof data) (fun t => s.dev.elemIs t (canRam n (0x2800 + 80 * put)) w0 w1 k sof dat ∧
              t.g (Reg.CAN_FIFO_LEVEL n) = lvl + 1 ∧ t.g (Reg.CAN_FIFO_PUT n) = (put + 1) % 128 ∧ (t.g (Reg.CAN_IR_EVENTS n)).testBit 2 = true ∧
              t.tb = s.dev.tb)) ∧
            (128 ≤ lvl → Does s (.canFrameReceived n w0 w1 sof data) (fun t => ∀ ovr, ovr = satInc 255 (s.dev.g (Reg.CAN_FIFO_OVR n)) →
              t.g (Reg.CAN_FIFO_OVR n) = ovr ∧ s.dev.record Err.CAN_FIFO_OVR [n, ovr] ∈ t.raised ∧ t.tb = s.dev.tb ∧ ∀ a, t.byte a = s.dev.byte a)))) ∧
        ((∀ k < 64, s.dev.objTakes n w0 k = false) → Does s (.canFrameReceived n w0 w1 sof data) (fun t =>
          t.g (Reg.CAN_CNT_NOMATCH n) = satInc (2 ^ 32 - 1) (s.dev.g (Reg.CAN_CNT_NOMATCH n)) ∧ t.tb = s.dev.tb ∧ ∀ a, t.byte a = s.dev.byte a)))) ∧
    (s.dev.on (Reg.CAN_STAT_ON_BUS n) = true → ∀ w0 w1 sof data, w1.testBit 31 = true → s.dev.on (Reg.CAN_CTL_FD_EN n) = false →
      Does s (.canFrameReceived n w0 w1 sof data) (fun t => t.g (Reg.CAN_STAT_LEC n) = 2 ∧
        t.g (Reg.CAN_ECNT_REC n) = Min.min 255 (s.dev.g (Reg.CAN_ECNT_REC n) + 1) ∧ t.tb = s.dev.tb ∧ ∀ a, t.byte a = s.dev.byte a)) ∧
    (∀ k m, m = Min.min (k % 256) (s.dev.g (Reg.CAN_FIFO_LEVEL n)) → Does s (.canFifoAck n k) (fun t =>
      t.g (Reg.CAN_FIFO_LEVEL n) = s.dev.g (Reg.CAN_FIFO_LEVEL n) - m ∧ t.g (Reg.CAN_FIFO_GET n) = (s.dev.g (Reg.CAN_FIFO_GET n) + m) % 128 ∧
      s.dev.keeps t [Reg.CAN_FIFO_LEVEL n, Reg.CAN_FIFO_GET n] [])) ∧
    (∀ e < 8, ∀ k m, m = Min.min (k % 16) (s.dev.g (Reg.CAN_HP_STAT_LEVEL n e)) → Does s (.hpAck n e k) (fun t =>
      t.g (Reg.CAN_HP_STAT_LEVEL n e) = s.dev.g (Reg.CAN_HP_STAT_LEVEL n e) - m ∧
      t.g (Reg.CAN_HP_STAT_GET n e) = (s.dev.g (Reg.CAN_HP_STAT_GET n e) + m) % 8 ∧
      s.dev.keeps t [Reg.CAN_HP_STAT_LEVEL n e, Reg.CAN_HP_STAT_GET n e] []))

/-- The CAN controllers: transmission and reception. -/
def Obligations.CanControllers : Prop := canTransmission ∧ canReception

/-! ## Host ports, host commands, errors -/

/-- Firmware takes the command that waits at an origin under a TAG and a code; the link of its port is up. -/
def Sys2Proof.Machine.Dev.took (d e : Dev) (o tag code : Nat) (f : HostFrame) : Prop :=
  d.on Reg.HST_CTL_SV_READY = true ∧ d.hostTake o tag code = some (f, e) ∧ (o < 3 → (e.hport o).linkUp = true)

/-- A reply follows to an origin: a frame of kind 2 at the end of its port's queue, and its TAG is free; or a bulk message to its node
(R428 to R430). -/
def Sys2Proof.Machine.Dev.replied (d t : Dev) (o : Nat) (f : HostFrame) (code : Nat) (data : List Nat) : Prop :=
  (o < 3 → (t.hport o).outq = (d.hport o).outq ++ [⟨2, d.me, false, f.tag, code, data, (d.hport o).oseq, f.addr⟩] ∧
    ∀ x ∈ (t.hport o).pend, x.1 ≠ f.tag) ∧
  (3 ≤ o → ∃ n, t.drg.bulkOut = d.drg.bulkOut ++ [⟨1, o - 3, false, n, 0, HostFrame.bytes ⟨2, d.me, false, f.tag, code, data, 0, 0⟩⟩])

/-- Frames of the host ports (R424 to R431): a good command waits in its port's queue; a bad frame is counted and recorded; without firmware, with a TAG that is
outstanding or a full queue it is answered at once; an unlisted code is answered; HSPI reads and status; datagrams and their fragments;
the Ethernet link; the PTP clocks; events go to every port that covers them. -/
def Obligations.HostFrames : Prop :=
  (∀ (d e : Dev) (o tag code : Nat) (f : HostFrame), d.hostTake o tag code = some (f, e) → f.tag = tag ∧ f.code = code ∧ d.keeps e [] [.hst] ∧
    (o < 3 → f ∈ (d.hport o).inq ∧ (e.hport o).inq = (d.hport o).inq.erase f ∧ (e.hport o).pend = (d.hport o).pend)) ∧
  ∀ s : State, s.dev.live = true →
    (∀ p < 3, ∀ addr b, (s.dev.g Reg.HST_CTL_EN).testBit p = true → ∀ i ∈ ([.hostFrameReceived p addr b] ++
        (if p = 0 ∧ addr = 0 then [.hspiWriteFrame b] else []) : List Instr),
      (∀ cause, parseFrame [1] b addr = .error cause → Does s i (fun t => t.g (Reg.PORT_CNT_BAD p) = (s.dev.inc (Reg.PORT_CNT_BAD p)).g (Reg.PORT_CNT_BAD p) ∧
        (t.hport p).lastBad = true ∧ t.raised = s.dev.plusRecord Err.HST_FRAME_BAD [p, cause] ∧ s.dev.keeps t [Reg.PORT_CNT_BAD p] [.hst, .raised])) ∧
      (∀ f, parseFrame [1] b addr = .ok f → (s.dev.hport p).linkUp = true → ∀ ans : Nat → List Nat → HostFrame, (∀ code data, ans code data =
          ⟨2, s.dev.me, false, f.tag, code, data, (s.dev.hport p).oseq, addr⟩) →
        (s.dev.on Reg.HST_CTL_SV_READY = false → Does s i (fun t => (t.hport p).outq = (s.dev.hport p).outq ++ [ans Err.HST_SV_ABSENT []] ∧
          (t.hport p).inq = (s.dev.hport p).inq ∧ s.dev.keeps t [] [.hst])) ∧
        (s.dev.on Reg.HST_CTL_SV_READY = true → (s.dev.hport p).pend.any (fun x => x.1 == f.tag) = true → Does s i (fun t =>
          (t.hport p).outq = (s.dev.hport p).outq ++ [ans Err.HST_TAG_DUP []] ∧ (t.hport p).inq = (s.dev.hport p).inq ∧
          t.raised = s.dev.plusRecord Err.HST_TAG_DUP [p, f.tag] ∧ s.dev.keeps t [] [.hst, .raised])) ∧
        (s.dev.on Reg.HST_CTL_SV_READY = true → (s.dev.hport p).pend.any (fun x => x.1 == f.tag) = false →
          (16 ≤ (s.dev.hport p).inq.length → ∀ n, n = (s.dev.hport p).inq.length → Does s i (fun t =>
            (t.hport p).outq = (s.dev.hport p).outq ++ [ans Err.HST_BUSY (payload [n])] ∧ (t.hport p).inq = (s.dev.hport p).inq ∧
            t.raised = s.dev.plusRecord Err.HST_BUSY [p, f.tag, n] ∧ s.dev.keeps t [Reg.PORT_CNT_BUSY p] [.hst, .raised])) ∧
          ((s.dev.hport p).inq.length < 16 → f.remote = false ∨ f.node = s.dev.me → s.dev.img.recovery = false →
            (f.code ∈ hostCodes → Does s i (fun t => (t.hport p).inq = (s.dev.hport p).inq ++ [f] ∧
              (t.hport p).pend = (s.dev.hport p).pend ++ [(f.tag, addr)] ∧ (t.hport p).outq = (s.dev.hport p).outq ∧ s.dev.keeps t [] [.hst])) ∧
            (f.code ∉ hostCodes → Does s i (fun t => (t.hport p).outq = (s.dev.hport p).outq ++ [ans Err.HST_CMD_UNKNOWN []] ∧
              (t.hport p).inq = (s.dev.hport p).inq ∧ t.raised = s.dev.plusRecord Err.HST_CMD_UNKNOWN [p, f.code] ∧ s.dev.keeps t [] [.hst, .raised]))) ∧
          ((s.dev.hport p).inq.length < 16 → f.remote = true → f.node ≠ s.dev.me → (s.dev.g Reg.DRG_PRESENT_PRESENT).testBit f.node = true →
            Does s i (fun t => t.hst.fwd = s.dev.hst.fwd ++ [⟨p, f.tag, addr, f.node⟩] ∧ (∃ n, t.drg.bulkOut = s.dev.drg.bulkOut ++ [⟨1, f.node, false, n, 0, f.bytes⟩]) ∧
              (t.hport p).inq = (s.dev.hport p).inq ∧ s.dev.keeps t [] [.hst, .drg]))))) ∧
    (∀ f rest n, (s.dev.hport 0).outq = f :: rest → (s.dev.g Reg.HST_CTL_EN).testBit 0 = true → f.bytes.length ≤ n → Does s (.hspiReadFrame n) (fun t =>
      t.hport 0 = { s.dev.hport 0 with outq := rest } ∧ (∀ q, q ≠ 0 → t.hport q = s.dev.hport q) ∧ s.dev.keeps t [] [.hst])) ∧
    (∀ op, (s.dev.g Reg.HST_CTL_EN).testBit 0 = true → (op % 256 = 3 → exec (.hspiStatus op) s = .next s) ∧
      (op % 256 ≠ 1 → op % 256 ≠ 2 → op % 256 ≠ 3 → Does s (.hspiStatus op) (fun t => t.raised = s.dev.plusRecord Err.HST_FRAME_BAD [0, 4] ∧
        s.dev.keeps t [Reg.PORT_CNT_BAD 0] [.raised]))) ∧
    (∀ p, p = 1 ∨ p = 2 →
      (∀ kind addr id ofs more data, (s.dev.hport p).linkUp = true →
        (∀ c, c = s.dev.hst.ptp.getD (p - 1) {} → Does s (.ethFrameReceived p kind addr id ofs more data) (fun t =>
          (t.hst.ptp.getD (p - 1) {}).rxRt = ofInt 64 ((s.dev.tb.rt : Int) - 8 * s.dev.g (Reg.PTP_LAT_RX (p - 1))) ∧
          (t.hst.ptp.getD (p - 1) {}).rxNs = (c.sec : Int) * 1000000000 + c.ns - s.dev.g (Reg.PTP_LAT_RX (p - 1)) ∧
          (kind ≠ 0 → (∀ q, t.hport q = s.dev.hport q) ∧ s.dev.keeps t [] [.hst]) ∧
          (kind = 0 → (ofs ≠ 0 ∨ more = true) → (s.dev.hport p).frags = [] → ofs ≠ 0 → (t.hport p).inq = (s.dev.hport p).inq ∧
            ∃ x ∈ (t.hport p).frags, x.id = id ∧ (ofs, data) ∈ x.got))) ∧
        (∀ code kd, kind = 0 → ofs = 0 → more = false → (s.dev.g Reg.HST_CTL_EN).testBit p = true → parseFrame [1] data addr = .ok kd → kd.code = code →
          code ∈ hostCodes → s.dev.on Reg.HST_CTL_SV_READY = true → (s.dev.hport p).pend.any (fun x => x.1 == kd.tag) = false →
          (s.dev.hport p).inq.length < 16 → kd.remote = false → s.dev.img.recovery = false →
          Does s (.ethFrameReceived p kind addr id ofs more data) (fun t => (t.hport p).inq = (s.dev.hport p).inq ++ [kd]))) ∧
      (∀ id, Does s (.ethFragmentTimeout p id) (fun t => (∀ x ∈ (t.hport p).frags, x.id ≠ id) ∧ (t.hport p).inq = (s.dev.hport p).inq ∧ s.dev.keeps t [] [.hst])) ∧
      ((s.dev.hport p).linkUp = true → Does s (.hstLinkDown p) (fun t => t.hport p = { s.dev.hport p with linkUp := false } ∧
        t.raised = s.dev.plusRecord Err.HST_LINK_DOWN [p] ∧ s.dev.keeps t [] [.hst, .raised])) ∧
      Does s (.ethLinkUp p) (fun t => t.hport p = { s.dev.hport p with linkUp := true } ∧ s.dev.keeps t [] [.hst])) ∧
    (∀ m < 2, ∀ c, c = s.dev.hst.ptp.getD m {} →
      (∀ v, Does s (.ptpStep m v) (fun t =>
        ((t.hst.ptp.getD m {}).sec * 1000000000 + (t.hst.ptp.getD m {}).ns : Int) =
          ((c.sec : Int) * 1000000000 + c.ns + toInt 32 (v % 2 ^ 32)) % (2 ^ 48 * 1000000000) ∧ (t.hst.ptp.getD m {}).ns < 1000000000 ∧
        t.hst.ports = s.dev.hst.ports ∧ s.dev.keeps t [] [.hst])) ∧
      Does s (.ptpSecRead m) (fun t => t.word (Reg.PTP_SEC_LO m) = c.sec % 2 ^ 32 ∧ t.word (Reg.PTP_SEC_HI m) = c.sec / 2 ^ 32 % 65536 ∧
        t.word (Reg.PTP_NS m) = c.ns % 2 ^ 32 ∧ s.dev.keeps t [RF.whole (Reg.PTP_SEC_LO m), RF.whole (Reg.PTP_SEC_HI m), RF.whole (Reg.PTP_NS m)] [])) ∧
    (s.dev.on Reg.HST_CTL_SV_READY = true → ∀ r, firstEvent s.dev.hst.events = some r → Does s .eventSend (fun t => t.hst.events = s.dev.hst.events.erase r ∧
      (∀ p < 3, s.dev.covers p r = true → (s.dev.hport p).linkUp = true → (s.dev.hport p).outq.length < 48 → (s.dev.hport p).lostNow = 0 →
        (t.hport p).outq = (s.dev.hport p).outq ++ [⟨3, s.dev.me, false, 0, 0, payload r.words, (s.dev.hport p).oseq, (s.dev.hport p).evtDest⟩]) ∧
      (∀ p < 3, s.dev.covers p r = true → 48 ≤ (s.dev.hport p).outq.length → (t.hport p).outq = (s.dev.hport p).outq ∧
        (t.hport p).lostNow = (s.dev.hport p).lostNow + 1) ∧
      (∀ p < 3, s.dev.covers p r = false → t.hport p = s.dev.hport p) ∧ t.tb = s.dev.tb)) ∧
    (s.dev.on Reg.HST_CTL_SV_READY = false → s.dev.sys.run = .running → s.dev.sys.suppliesLost = [] → Does s .svReadySet (fun t =>
      t.on Reg.HST_CTL_SV_READY = true ∧ t.sys.absentFrom = none ∧ t.img.recs = [] ∧
      (∀ x, s.dev.sys.absentFrom = some x → ∃ n, (⟨0, s.dev.tb.rt, Err.HST_SV_RESTART, errSev Err.HST_SV_RESTART, 0, 1,
        [msBetween x s.dev.tick, Config.recordNumber Err.HST_SV_RESTART s.dev.sys.absentCause, n]⟩ : ErrRec) ∈ t.raised) ∧
      (∀ x ∈ s.dev.img.recs, (⟨0, s.dev.tb.rt, x.1, errSev x.1, 0, 1, x.2⟩ : ErrRec) ∈ t.raised) ∧ t.tb = s.dev.tb ∧ t.ce = s.dev.ce ∧ t.pwm = s.dev.pwm))

/-- The code that a decision function applies at a deadline (R432): in ASSIST what was proposed, in HOST its default. -/
def deadlineCode (p : Proposal) : Nat :=
  if p.mode = 1 then (if p.func = 0 ∨ p.func = 1 ∨ p.func = 7 then p.code else 1) else [5, 3, 2, 2, 0, 0, 2, 1, 2, 2].getD p.func 0

/-- The host's commands (R430, R432 to R434, R438, R439, R456): firmware takes the command, carries it out and replies; a payload of the wrong length is answered with
HST_ARG_BAD. PING; words read and written; SUBSCRIBE; Bells; CE commands; DECIDE, in time, late or decided already; ASSIST_SET; TUNE and
the end of its run; GETHOME; an island message; the log; resets; recorder starts; a deadline; a restart. -/
def Obligations.HostCommands : Prop :=
  ∀ s : State, s.dev.live = true →
    (∀ o tag, (∀ x ∈ ([(.ping o tag, 1, 0), (.hostRead o tag, 2, 8), (.subscribe o tag, 4, 8), (.hostBell o tag, 0x10, 20), (.hostBellCancel o tag, 0x11, 4),
        (.assistSet o tag, 0x31, 12), (.tune o tag, 0x32, 12), (.gethome o tag, 0x33, 24), (.errLog o tag, 0x70, 8), (.hostReset o tag, 0x71, 4),
        (.hostRecStart o tag, 0x60, 4)] : List (Instr × Nat × Nat)), ∀ f e, s.dev.took e o tag x.2.1 f → f.payload.length ≠ x.2.2 → Does s x.1 (fun t =>
          e.replied t o f Err.HST_ARG_BAD (payload [0]) ∧ t.raised = s.dev.plusRecord Err.HST_ARG_BAD [o, tag, 0] ∧ s.dev.keeps t [] [.hst, .drg, .raised])) ∧
      (∀ f e, s.dev.took e o tag 1 f → f.payload = [] → Does s (.ping o tag) (fun t => s.dev.keeps t [] [.hst, .drg] ∧
        e.replied t o f 0 (payload ([s.dev.me, Config.stepping, Config.firmwareVersion] ++ rtWords s.dev.tb.rt)))) ∧
      (∀ f e, s.dev.took e o tag 2 f → f.payload.length = 8 → 1 ≤ f.word 1 → f.word 1 ≤ 1024 → ∀ r,
        r = e.readWords ((List.range (f.word 1)).map (fun i => f.word 0 + 4 * i)) [] → (o < 3 → (r.2.2.hport o).linkUp = true) →
        Does s (.hostRead o tag) (fun t => r.2.2.replied t o f (if r.1 then 0 else Err.SYS_BUS_ERR) (payload r.2.1) ∧ r.2.2.keeps t [] [.hst, .drg])) ∧
      (∀ f e n, s.dev.took e o tag 3 f → f.payload.length = 4 * (n + 1) → 1 ≤ n → n ≤ 1024 → ∀ r,
        r = e.writeWords ((List.range n).map (fun i => (i, f.word 0 + 4 * i, f.word (i + 1)))) none → (o < 3 → (r.2.hport o).linkUp = true) →
        Does s (.hostWrite o tag) (fun t => r.2.keeps t [] [.hst, .drg] ∧ r.2.replied t o f ((r.1.map Prod.fst).getD 0)
          (payload (match r.1 with | some x => [x.1, x.2] | none => [])))) ∧
      (∀ f e, s.dev.took e o tag 4 f → o < 3 → f.payload.length = 8 → f.word 0 ≤ 3 → f.word 1 ≤ 0x1FFFFF → Does s (.subscribe o tag) (fun t =>
        t.g (Reg.PORT_SUB_MIN_SEV o) = f.word 0 ∧ t.g (Reg.PORT_SUB_SUBSYS o) = f.word 1 ∧ (t.hport o).evtDest = f.addr ∧ e.replied t o f 0 [] ∧
        s.dev.keeps t [Reg.PORT_SUB_MIN_SEV o, Reg.PORT_SUB_SUBSYS o] [.hst])) ∧
      (∀ f e, s.dev.took e o tag 0x10 f → f.payload.length = 20 → ∀ r, r = e.bellPost 0 ((List.range 5).map f.word) → Does s (.hostBell o tag) (fun t =>
        r.2.2.replied t o f r.1 (payload [r.2.2.word (Reg.BELL_RESULT 0), r.2.1]) ∧ r.2.2.keeps t [] [.hst, .drg])) ∧
      (∀ f e, s.dev.took e o tag 0x11 f → f.payload.length = 4 → ∀ r, r = e.bellCancel 0 (f.word 0 % 65536) → Does s (.hostBellCancel o tag) (fun t =>
        r.2.replied t o f r.1 (payload [r.2.word (Reg.BELL_RESULT 0)]) ∧ r.2.keeps t [] [.hst, .drg])) ∧
      (s.dev.on Reg.CE_CMD_RESULT_BUSY = false → s.dev.hst.ceWait = none → ∀ f e, s.dev.took e o tag 0x20 f → f.payload.length = 8 → ∀ r,
        r = (e.setWord Reg.CE_IMG_ADDR (f.word 1)).ceCmd (f.word 0) →
        (r.on Reg.CE_CMD_RESULT_BUSY = true → Does s (.hostCe o tag) (fun t => t.hst.ceWait = some (o, tag, f.addr) ∧ r.keeps t [] [.hst])) ∧
        (r.on Reg.CE_CMD_RESULT_BUSY = false → (o < 3 → (r.hport o).linkUp = true) → Does s (.hostCe o tag) (fun t => t.hst.ceWait = none ∧
          r.replied t o f (r.g Reg.CE_CMD_RESULT_RESULT) (payload [r.word Reg.CE_CMD_RESULT, r.word Reg.CE_ADM_INFO]) ∧ r.keeps t [] [.hst, .drg]))) ∧
      (∀ est f e, s.dev.took e o tag 0x30 f → f.payload.length = 16 → f.word 0 ≤ 9 → unitOk (f.word 0) (f.word 2) = true →
        (∀ r d, (s.dev.proposal (f.word 0) (f.word 2)).isSome = true → e.unitDecide (f.word 0) (f.word 1) (f.word 2) (f.word 3) (o + 1) est = .done r d →
          (o < 3 → (d.hport o).linkUp = true) → Does s (.hostDecide o tag est) (fun t => d.replied t o f r (payload [r]) ∧ d.keeps t [] [.hst, .drg])) ∧
        (∀ c by_, s.dev.proposal (f.word 0) (f.word 2) = none → s.dev.lastDecided (f.word 0) (f.word 2) = some ⟨f.word 0, f.word 2, c, by_⟩ →
          ∀ x, x = (if by_ = 0 then (Err.HST_DECIDE_LATE, c) else (Err.HST_DECIDE_NONE, by_ - 1)) → Does s (.hostDecide o tag est) (fun t =>
            e.replied t o f x.1 (payload [x.2]) ∧ t.raised = s.dev.plusRecord x.1 [f.word 0, f.word 2, x.2] ∧ s.dev.keeps t [] [.hst, .drg, .raised]))) ∧
      (∀ f e, s.dev.took e o tag 0x31 f → f.payload.length = 12 → f.word 0 ≤ 9 → f.word 1 ≤ 2 → 1 ≤ f.word 2 → f.word 2 ≤ 65535 → Does s (.assistSet o tag) (fun t =>
        t.g (Reg.ASSIST_CFG_MODE (f.word 0)) = f.word 1 ∧ t.g (Reg.ASSIST_CFG_DEADLINE (f.word 0)) = f.word 2 ∧ e.replied t o f 0 [] ∧
        s.dev.keeps t [Reg.ASSIST_CFG_MODE (f.word 0), Reg.ASSIST_CFG_DEADLINE (f.word 0)] [.hst, .drg])) ∧
      (∀ f e, s.dev.took e o tag 0x32 f → f.payload.length = 12 → 1 ≤ f.word 0 → f.word 0 ≤ 255 → f.word 1 ≤ 3 → Does s (.tune o tag) (fun t =>
        t.g (Reg.GEN_CFG_CTX (f.word 1)) = f.word 0 ∧ t.on (Reg.GEN_CFG_RUN (f.word 1)) = true ∧
        t.hst.tunes = s.dev.hst.tunes ++ [⟨o, tag, f.addr, f.word 0, f.word 1, f.word 2⟩] ∧ t.tb = s.dev.tb ∧ ∀ a, t.byte a = s.dev.byte a)) ∧
      (∀ gains x, s.dev.hst.tunes.find? (fun t => t.port == o && t.tag == tag) = some x → x.gen < 4 → Does s (.tuneRunEnd o tag gains) (fun t =>
        t.on (Reg.GEN_CFG_RUN x.gen) = false ∧ t.hst.tunes = s.dev.hst.tunes.erase x ∧
        (∀ j v, gains = [(j, v)] → j < s.dev.g (Reg.CTX_W4_BANK_LEN x.ctx) → t.dmWord (s.dev.ctxEng x.ctx) (s.dev.idleBank x.ctx + j) = v % 2 ^ 24) ∧
        (s.dev.assistMode 6 ≠ 0 → ∃ q ∈ t.hst.proposals, q.func = 6 ∧ q.unit = x.ctx ∧ q.code = 1) ∧ ∀ a, t.byte a = s.dev.byte a)) ∧
      (∀ f e, s.dev.took e o tag 0x33 f → f.payload.length = 24 → s.dev.getHomeBad (f.word 0) (f.word 1) (f.word 2) (f.word 3) (f.word 4) (f.word 5) = none →
        Does s (.gethome o tag) (fun t => e.replied t o f 0 [] ∧ s.dev.keeps t [] [.hst, .drg] ∧ ∀ g, g = t.hst.getHome.getD (f.word 0) ⟨false, 0, 0, 0, 0⟩ →
          g.en = decide (f.word 1 = 1) ∧ (f.word 1 = 1 → g = ⟨true, f.word 2, f.word 3, f.word 4, f.word 5⟩))) ∧
      (s.dev.hst.safWait = none → s.dev.saf.ovr = false → s.dev.saf.words = [] → s.dev.saf.level < 256 → ∀ f e n, s.dev.took e o tag 0x40 f →
        f.payload.length = 4 * (n + 1) → s.dev.saf.level + n + 1 ≤ 256 → ∀ h, h = setBits (f.word 0) 15 8 (Min.min o 3) → Does s (.safety o tag) (fun t =>
          t.saf = { s.dev.saf with msgs := s.dev.saf.msgs ++ [(h :: (List.range n).map (fun i => f.word (i + 1))).map (· % 2 ^ 32)] } ∧
          t.hst.safWait = some (o, tag, f.addr, h) ∧ s.dev.keeps t [] [.hst, .saf])) ∧
      (∀ f e, s.dev.took e o tag 0x70 f → f.payload.length = 8 → f.word 1 ≤ 64 → Does s (.errLog o tag) (fun t => s.dev.keeps t [] [.hst, .drg] ∧
        e.replied t o f 0 (payload (((List.range (f.word 1)).filterMap
          (fun i => s.dev.hst.retained.find? (fun r => r.seq == (f.word 0 + i) % 2 ^ 32))).flatMap ErrRec.words)))) ∧
      (∀ f e, s.dev.took e o tag 0x71 f → f.payload.length = 4 →
        (f.word 0 ∈ ([0, 1, 0x10, 0x11, 0x12, 0x13] : List Nat) ∨ (f.word 0 = 0x14 ∧ s.dev.islandMayReset = true) → ∃ d, e.replied d o f 0 [] ∧ e.keeps d [] [.hst, .drg] ∧
          exec (.hostReset o tag) s = .next { s with dev := d.rstRequest (0xA5000000 + f.word 0) }) ∧
        (f.word 0 = 0x14 → s.dev.islandMayReset = false → Does s (.hostReset o tag) (fun t => e.replied t o f Err.SYS_RST_REFUSED [] ∧
          t.raised = s.dev.plusRecord Err.SYS_RST_REFUSED [0x14] ∧ s.dev.keeps t [] [.hst, .drg, .raised]))) ∧
      (∀ f e, s.dev.took e o tag 0x60 f → f.payload.length = 4 → ∀ r, r = e.recStartMask (f.word 0) → Does s (.hostRecStart o tag) (fun t =>
        r.2.keeps t [] [.hst, .drg] ∧ r.2.replied t o f r.1 (payload (if r.1 = 0 then [] else [r.2.word Reg.REC_RESULT]))))) ∧
    (∀ f unit p, f ≤ 9 → s.dev.proposal f unit = some p → s.dev.deadlineDue p = true → (fwTimed f unit = true → s.dev.on Reg.HST_CTL_SV_READY = true) →
      Does s (.decisionDeadline f unit) (fun t => t.lastDecided f unit = some ⟨f, unit, deadlineCode p, 0⟩ ∧ t.proposal f unit = none ∧
        s.dev.record Err.HST_DEADLINE [f, unit, deadlineCode p] ∈ t.raised)) ∧
    (∀ kind inst, s.dev.on Reg.HST_CTL_SV_READY = true → s.dev.restartable kind inst = true →
      (s.dev.assistMode 8 = 0 → s.dev.restartsOf kind inst < 3 → Does s (.faultRestart kind inst) (fun t => (⟨kind, inst, s.dev.tick⟩ : Restart) ∈ t.hst.restarts)) ∧
      (s.dev.assistMode 8 = 0 → 3 ≤ s.dev.restartsOf kind inst → Does s (.faultRestart kind inst) (fun t =>
        t.raised = s.dev.plusRecord Err.HST_RESTART_LIMIT [kind, inst, s.dev.restartsOf kind inst] ∧ s.dev.keeps t [] [.raised])) ∧
      (s.dev.assistMode 8 ≠ 0 → s.dev.proposal 8 (kind * 256 + inst) = none → Does s (.faultRestart kind inst) (fun t => ∀ dl, dl = s.dev.g (Reg.ASSIST_CFG_DEADLINE 8) →
        (⟨8, kind * 256 + inst, 1, s.dev.assistMode 8, dl, s.dev.tick⟩ : Proposal) ∈ t.hst.proposals ∧
        t.raised = s.dev.plusRecord Err.HST_PROPOSE [8, kind * 256 + inst, 1, dl] ∧ s.dev.keeps t [Reg.ASSIST_CFG_PEND 8] [.hst, .raised])))

/-- The error manager (R440 to R444): the records of a tick are numbered in the order of their subsystems and enter the queue of their domain, where
a full queue gives up its oldest record of the lowest severity to a higher one; a claim takes the oldest record of the highest severity
above what is in handling; DONE ends the top of the stack; firmware raises a record with its own severity. -/
def Obligations.ErrorManager : Prop :=
  ∀ s : State, s.dev.live = true →
    Does s .errRecordsStored (fun t => t.raised = [] ∧ (s.dev.errSeq < 2 ^ 32 → t.errSeq = (s.dev.errSeq + s.dev.raised.length) % 2 ^ 32) ∧
      (∀ r, s.dev.raised = [r] → s.dev.errSeq < 2 ^ 32 → ∀ k q, k = s.dev.errRoute r.code → q = s.dev.errDom k → k < 2 ∧
        (q.queue.length < 64 → (t.errDom k).queue = q.queue ++ [{ r with seq := s.dev.errSeq, dom := k }] ∧ (t.errDom k).lost = q.lost) ∧
        (64 ≤ q.queue.length → (∀ x ∈ q.queue, r.sev ≤ x.sev) → r.sev ≤ 3 → (t.errDom k).queue = q.queue ∧ (t.errDom k).lost = satInc 0x7FFF q.lost ∧
          (t.errDom k).ovf.isSome = true) ∧
        (∀ j, j ≠ k → t.errDom j = s.dev.errDom j)) ∧
      s.dev.keeps t [] [.raised, .errSeq, .errs]) ∧
    (∀ k < 2, ∀ q, q = s.dev.errDom k →
      (q.topSev = none → Does s (.errClaim k) (fun t => (t.errDom k).claim = 0 ∧ (t.errDom k).queue = q.queue ∧ s.dev.keeps t [] [.errs])) ∧
      (∀ r, r ∈ q.queue → r.sev ≤ 3 → (∀ x ∈ q.queue, x.sev ≤ r.sev) → q.queue.find? (fun x => x.sev == r.sev) = some r → q.ovf = none →
        ((∀ x ∈ q.handling, x.sev < r.sev) → Does s (.errClaim k) (fun t => (t.errDom k).claim = 2 ^ 31 + r.sev * 65536 + r.code ∧
          (t.errDom k).handling = r :: q.handling ∧ (t.errDom k).queue = q.queue.erase r ∧ s.dev.keeps t [] [.errs])) ∧
        ((∃ x ∈ q.handling, r.sev ≤ x.sev) → Does s (.errClaim k) (fun t => t.errDom k = { q with claim := 0 } ∧ s.dev.keeps t [] [.errs]))) ∧
      (∀ r rest v, q.handling = r :: rest → v % 2 = 1 → Does s (.errDone k v) (fun t => (t.errDom k).handling = rest ∧ t.hst.events = s.dev.hst.events ++ [r] ∧
        t.hst.retained = s.dev.hst.retained ++ [r] ∧ s.dev.keeps t [] [.errs, .hst])) ∧
      (∀ v, q.handling = [] → exec (.errDone k v) s = .next s)) ∧
    (∀ core < 2, ∀ v, v % 2 = 1 → Does s (.errRaiseGo core v) (fun t =>
      t.raised = s.dev.plusFirmware core (s.dev.g (Reg.ERR_RAISE_CODE_CODE core)) (s.dev.g (Reg.ERR_RAISE_CODE_SEV core))
        ((List.range 8).map (fun i => s.dev.word (Reg.ERR_RAISE_CTX core i))) ∧ s.dev.keeps t [] [.raised]))

/-! ## Memories, recorder, images, tally -/

/-- Every byte outside the two copies of the boot-state record is the same. -/
def Sys2Proof.Machine.Dev.bootKept (d t : Dev) : Prop := ∀ a, a < flashKey 0 ∨ flashKey 0x2000 ≤ a → t.byte a = d.byte a

/-- The scrubber, the LPDDR4 and flash controllers (R449 to R453): a scrub reads the next word of each region; a correctable word is counted with
its address, an uncorrectable one of the SRAMs is a bad word until it is written; training sets TRAINED and SIZE or raises the step that
failed; a flash operation is refused outside the temperature window or in a protected range, else it is busy until the part ends it: an erase leaves
0xFF, a program clears bits only (log 45), a failed one raises its offset. -/
def Obligations.MemoryCommands : Prop :=
  ∀ s : State, s.dev.live = true →
    (s.dev.mm.scrub.length = 6 → ∀ outs : List Nat,
      ((∀ x ∈ outs, x = 0) → Does s (.scrubRead outs) (fun t => (∀ r < 6, t.mm.scrub.getD r 0 = (s.dev.mm.scrub.getD r 0 + 1) % eccWords r) ∧
        t.mm.badWords = s.dev.mm.badWords ∧ s.dev.keeps t [] [.mm])) ∧
      (∀ r < 6, ∀ i a, i = s.dev.mm.scrub.getD r 0 → i < eccWords r → eccAddr r i = some a →
        (outs = List.replicate r 0 ++ [1] → Does s (.scrubRead outs) (fun t => t.g Reg.MEM_ECC_CORR = satInc 65535 (s.dev.g Reg.MEM_ECC_CORR) ∧
          t.raised = s.dev.plusRecord Err.MEM_ECC_CORR [a] ∧ t.mm.badWords = s.dev.mm.badWords ∧ s.dev.keeps t [Reg.MEM_ECC_CORR] [.mm, .raised])) ∧
        (outs = List.replicate r 0 ++ [2] → Does s (.scrubRead outs) (fun t => t.g Reg.MEM_ECC_UNCORR = satInc 65535 (s.dev.g Reg.MEM_ECC_UNCORR) ∧
          t.g Reg.MEM_ECC_ADDR_ADDR = a ∧ s.dev.record Err.MEM_ECC_UNCORR [a, r, Config.freeValue s.dev.free] ∈ t.raised ∧
          (r ≤ 1 → a ∈ t.mm.badWords ∧ s.dev.keeps t [Reg.MEM_ECC_UNCORR, Reg.MEM_ECC_ADDR_ADDR] [.mm, .raised, .free]) ∧
          ∀ k, t.byte k = s.dev.byte k)))) ∧
    (s.dev.mm.training = false → Does s .ddrTrain (fun t => t.on Reg.DDR_CTL_TRAINED = false ∧ t.mm = { s.dev.mm with training := true } ∧
      s.dev.keeps t [Reg.DDR_CTL_TRAINED] [.mm])) ∧
    (s.dev.mm.training = true → exec .ddrTrain s = .next s ∧ ∀ size, 1 ≤ size → size ≤ 4 → ∀ step,
      Does s (.ddrTrainDone true size step) (fun t => t.on Reg.DDR_CTL_TRAINED = true ∧ t.g Reg.DDR_CTL_SIZE = size ∧ t.ddrSize = 2 ^ (25 + size) ∧
        t.mm = { s.dev.mm with training := false } ∧ s.dev.keeps t [Reg.DDR_CTL_TRAINED, Reg.DDR_CTL_SIZE] [.mm]) ∧
      Does s (.ddrTrainDone false size step) (fun t => t.on Reg.DDR_CTL_TRAINED = false ∧ t.mm = { s.dev.mm with training := false } ∧
        t.raised = s.dev.plusRecord Err.MEM_DDR_TRAIN_FAIL [step] ∧ s.dev.keeps t [Reg.DDR_CTL_TRAINED] [.mm, .raised])) ∧
    (s.dev.on Reg.OSPI_RESULT_BUSY = false → ∀ x ∈ ([(.ospiErase4k, 1, 0x1000), (.ospiErase64k, 2, 0x10000), (.ospiProgram, 3, 256)] : List (Instr × Nat × Nat)),
      ∀ ofs, ofs = s.dev.g Reg.OSPI_ADDR_OFS / x.2.2 * x.2.2 →
      (s.dev.flashWindow = false → Does s x.1 (fun t => t.g Reg.OSPI_RESULT_RESULT = Err.MEM_FLASH_TEMP ∧
        t.raised = s.dev.plusRecord Err.MEM_FLASH_TEMP [w32 s.dev.tCd, x.2.1] ∧ t.mm.flashOp = s.dev.mm.flashOp ∧
        s.dev.keeps t [Reg.OSPI_RESULT_BUSY, Reg.OSPI_RESULT_RESULT] [.mm, .raised])) ∧
      (s.dev.flashWindow = true → flashProt ofs x.2.2 = true → Does s x.1 (fun t => t.g Reg.OSPI_RESULT_RESULT = Err.MEM_FLASH_PROT ∧
        t.raised = s.dev.plusRecord Err.MEM_FLASH_PROT [ofs] ∧ t.mm.flashOp = s.dev.mm.flashOp ∧
        s.dev.keeps t [Reg.OSPI_RESULT_BUSY, Reg.OSPI_RESULT_RESULT] [.mm, .raised])) ∧
      (s.dev.flashWindow = true → flashProt ofs x.2.2 = false → Does s x.1 (fun t => t.on Reg.OSPI_RESULT_BUSY = true ∧ t.mm.flashOp = some ⟨x.2.1, ofs⟩ ∧
        s.dev.keeps t [Reg.OSPI_RESULT_BUSY, Reg.OSPI_RESULT_RESULT] [.mm]))) ∧
    (∀ f, s.dev.mm.flashOp = some f → ∀ k n, k = flashKey f.ofs → n = ospiLen f.op →
      Does s (.ospiOperationDone true) (fun t => t.on Reg.OSPI_RESULT_BUSY = false ∧ t.g Reg.OSPI_RESULT_RESULT = 0 ∧ t.mm.flashOp = none ∧
        (∀ i < n, t.byte (k + i) = (if f.op = 3 then s.dev.byte (s.dev.word Reg.OSPI_SRC + i) &&& s.dev.byte (k + i) else 255)) ∧
        (∀ a, a < k ∨ k + n ≤ a → t.byte a = s.dev.byte a) ∧ s.dev.keeps t [Reg.OSPI_RESULT_BUSY, Reg.OSPI_RESULT_RESULT] [.mem, .mm]) ∧
      Does s (.ospiOperationDone false) (fun t => t.on Reg.OSPI_RESULT_BUSY = false ∧ t.g Reg.OSPI_RESULT_RESULT = Err.MEM_FLASH_ERR ∧ t.mm.flashOp = none ∧
        t.raised = s.dev.plusRecord Err.MEM_FLASH_ERR [f.ofs, f.op] ∧ (∀ a, a < k ∨ k + n ≤ a → t.byte a = s.dev.byte a) ∧
        s.dev.keeps t [Reg.OSPI_RESULT_BUSY, Reg.OSPI_RESULT_RESULT] [.mem, .mm, .free, .raised]))

/-- The capture recorder (R454 to R457): a start takes its bandwidth and writes the header, or is refused with its code and its bit; a record goes to
PUT, which wraps in a ring and ends a full linear stream; a trigger that comes too soon drops its record; a stop ends a linear stream at
once and a ring stream after POST more records. -/
def Obligations.Recorder : Prop :=
  ∀ s : State, s.dev.live = true → ∀ n < 32,
    (s.dev.on (Reg.REC_STAT_RUN n) = false →
      (s.dev.recValid n = true → s.dev.recBuffer n = true → s.dev.g Reg.REC_BW_USED_BPS + s.dev.recRate n ≤ 838860800 → Does s (.recStart (2 ^ n)) (fun t =>
        t.on (Reg.REC_STAT_RUN n) = true ∧ t.on (Reg.REC_STAT_STOPPING n) = false ∧ t.g (Reg.REC_PUT_VALUE n) = 16 ∧
        t.g Reg.REC_BW_USED_BPS = s.dev.g Reg.REC_BW_USED_BPS + s.dev.recRate n ∧ t.g Reg.REC_RESULT_RESULT = 0 ∧
        (t.g Reg.REC_REFUSED_MASK).testBit n = false ∧ (∀ j, j ≠ n → (t.g Reg.REC_REFUSED_MASK).testBit j = (s.dev.g Reg.REC_REFUSED_MASK).testBit j) ∧
        t.bytes (s.dev.recKey n 0) 16 = leBytes 8 s.dev.tb.rt ++ leBytes 4 (s.dev.word (Reg.REC_SRC n)) ++ leBytes 4 (s.dev.word (Reg.REC_CFG n)) ∧
        (∀ a, a < s.dev.recKey n 0 ∨ s.dev.recKey n 0 + 16 ≤ a → t.byte a = s.dev.byte a) ∧ (∀ j, j ≠ n → t.stream j = s.dev.stream j) ∧
        s.dev.keeps t [Reg.REC_BW_USED_BPS, Reg.REC_REFUSED_MASK, RF.whole (Reg.REC_STAT n), Reg.REC_PUT_VALUE n, Reg.REC_RESULT_STREAM, Reg.REC_RESULT_RESULT]
          [.mem, .mm])) ∧
      (∀ x ∈ ([(Err.REC_MEM_BAD, [n], (s.dev.recValid n && s.dev.recBuffer n) = false),
          (Err.REC_BW_REFUSED, [n, s.dev.recRate n, s.dev.g Reg.REC_BW_USED_BPS], (s.dev.recValid n && s.dev.recBuffer n) = true ∧
            838860800 < s.dev.g Reg.REC_BW_USED_BPS + s.dev.recRate n)] : List (Nat × List Nat × Prop)), x.2.2 → Does s (.recStart (2 ^ n)) (fun t =>
        t.g Reg.REC_RESULT_RESULT = x.1 ∧ t.g Reg.REC_RESULT_STREAM = n ∧ (t.g Reg.REC_REFUSED_MASK).testBit n = true ∧ t.raised = s.dev.plusRecord x.1 x.2.1 ∧
        s.dev.keeps t [Reg.REC_REFUSED_MASK, Reg.REC_RESULT_STREAM, Reg.REC_RESULT_RESULT] [.raised]))) ∧
    (s.dev.on (Reg.REC_STAT_RUN n) = true → s.dev.on (Reg.REC_STAT_STOPPING n) = false →
      ((s.dev.on (Reg.REC_CFG_RING n) = false ∨ s.dev.g (Reg.REC_POST_VALUE n) = 0) → Does s (.recStop (2 ^ n)) (fun t => t.on (Reg.REC_STAT_RUN n) = false ∧
        t.on (Reg.REC_STAT_DONE n) = true ∧ t.g Reg.REC_BW_USED_BPS = s.dev.g Reg.REC_BW_USED_BPS - (s.dev.stream n).rate ∧
        t.raised = s.dev.plusRecord Err.REC_DONE [n, s.dev.g (Reg.REC_PUT_VALUE n)] ∧ (∀ j, j ≠ n → t.stream j = s.dev.stream j) ∧
        s.dev.keeps t [Reg.REC_BW_USED_BPS, Reg.REC_STAT_RUN n, Reg.REC_STAT_STOPPING n, Reg.REC_STAT_DONE n] [.mm, .raised])) ∧
      (s.dev.on (Reg.REC_CFG_RING n) = true → s.dev.g (Reg.REC_POST_VALUE n) ≠ 0 → Does s (.recStop (2 ^ n)) (fun t => t.on (Reg.REC_STAT_STOPPING n) = true ∧
        (t.stream n).post = s.dev.g (Reg.REC_POST_VALUE n) ∧ s.dev.keeps t [Reg.REC_STAT_STOPPING n] [.mm]))) ∧
    (∀ l, s.dev.on (Reg.REC_STAT_RUN n) = true → s.dev.recBytes n = some l → ∀ put, put = s.dev.g (Reg.REC_PUT_VALUE n) →
      ((∀ u, (s.dev.stream n).last = some u → s.dev.g (Reg.REC_MINT_MIN_INT n) ≤ s.dev.tick - u) → s.dev.on (Reg.REC_STAT_STOPPING n) = false →
        Does s (.recRecordTaken n) (fun t => (t.stream n).last = some s.dev.tick ∧ t.bytes (s.dev.recKey n put) l.length = l ∧
          (∀ a, a < s.dev.recKey n put ∨ s.dev.recKey n put + l.length ≤ a → t.byte a = s.dev.byte a) ∧
          (put + 2 * l.length ≤ s.dev.g (Reg.REC_SIZE_SIZE n) → t.g (Reg.REC_PUT_VALUE n) = put + l.length ∧ t.on (Reg.REC_STAT_RUN n) = true ∧
            t.raised = s.dev.raised) ∧
          (s.dev.g (Reg.REC_SIZE_SIZE n) < put + 2 * l.length →
            (s.dev.on (Reg.REC_CFG_RING n) = true → t.g (Reg.REC_PUT_VALUE n) = 16 ∧ t.on (Reg.REC_STAT_RUN n) = true ∧ t.raised = s.dev.raised) ∧
            (s.dev.on (Reg.REC_CFG_RING n) = false → t.on (Reg.REC_STAT_RUN n) = false ∧ t.on (Reg.REC_STAT_DONE n) = true ∧
              t.g Reg.REC_BW_USED_BPS = s.dev.g Reg.REC_BW_USED_BPS - (s.dev.stream n).rate ∧ ∃ v, t.raised = s.dev.plusRecord Err.REC_DONE [n, v])) ∧
          s.dev.keeps t [Reg.REC_BW_USED_BPS, Reg.REC_PUT_VALUE n, Reg.REC_STAT_RUN n, Reg.REC_STAT_STOPPING n, Reg.REC_STAT_DONE n] [.mem, .mm, .raised])) ∧
      (∀ u, (s.dev.stream n).last = some u → s.dev.tick - u < s.dev.g (Reg.REC_MINT_MIN_INT n) → Does s (.recRecordTaken n) (fun t =>
        t.g (Reg.REC_STAT_DROP n) = satInc 65535 (s.dev.g (Reg.REC_STAT_DROP n)) ∧
        t.raised = (if (s.dev.stream n).fasted then s.dev.raised else s.dev.plusRecord Err.REC_FAST [n, s.dev.tick - u]) ∧
        (t.stream n).last = some u ∧ s.dev.keeps t [Reg.REC_STAT_DROP n] [.mm, .raised])))

/-- The update session (R462 to R465, R469): OPEN begins it with the next number and gives up an activation that is not begun; a good block is programmed
into STAGING and answered, and each of the refusals in its order answers its code and stores nothing; VERIFY answers the first check that
fails; ACTIVATE needs a verification since the last block; ABORT and 60 s without a command end it; a command without its session is refused. -/
def Obligations.ImageUpdates : Prop :=
  ∀ s : State, s.dev.live = true → ∀ o tag,
    (∀ f e, s.dev.took e o tag 0x50 f → f.payload.length = 4 → 4096 ≤ f.word 0 → f.word 0 ≤ 0x2000000 →
      (∀ n, s.dev.img.session = none → n = (s.dev.img.number + 1) % 65536 → Does s (.updOpen o tag) (fun t => e.replied t o f 0 (payload [n]) ∧
        t.img = { s.dev.img with number := n, phase := if s.dev.img.phase = 1 then 0 else s.dev.img.phase,
                                 session := some ⟨(updSource o).1, (updSource o).2, f.word 0, [], [], false, s.dev.tick⟩ } ∧
        s.dev.bootKept t ∧ (s.dev.img.phase ≠ 1 → ∀ a, t.byte a = s.dev.byte a) ∧ s.dev.keeps t [] [.hst, .drg, .img, .mem])) ∧
      (∀ x, s.dev.img.session = some x → Does s (.updOpen o tag) (fun t => e.replied t o f Err.IMG_BUSY (payload [x.src, x.node, s.dev.img.number]) ∧
        t.raised = s.dev.plusRecord Err.IMG_BUSY [(updSource o).1, x.src, s.dev.img.number] ∧ s.dev.keeps t [] [.hst, .drg, .raised]))) ∧
    (∀ x, s.dev.img.session = some x → ∀ f e,
      (∀ ofs data, s.dev.took e o tag 0x51 f → 16 ≤ f.payload.length → ofs = f.word 1 → data = f.payload.drop 16 → data.length = f.word 2 →
        f.word 0 % 65536 = s.dev.img.number → ∀ ok, ok = decide (blockLen x.total ofs = some data.length) → ∀ good, good = decide (crc32c data = f.word 3) →
        (∀ r ∈ ([(Err.IMG_OFFSET_BAD, [ofs, data.length], ok = false), (Err.IMG_BLOCK_CRC, [ofs], ok = true ∧ good = false),
            (Err.MEM_FLASH_TEMP, [w32 s.dev.tCd, Config.recordNumber Err.MEM_FLASH_TEMP 3], ok = true ∧ good = true ∧ s.dev.flashWindow = false),
            (Err.IMG_BLOCK_CONFLICT, [ofs], ok = true ∧ good = true ∧ s.dev.flashWindow = true ∧ x.blocks.contains ofs = true ∧
              data.map (· % 256) ≠ s.dev.slotBytes 2 ofs data.length)] : List (Nat × List Nat × Prop)), r.2.2 → Does s (.updBlock o tag) (fun t =>
          e.replied t o f r.1 [] ∧ t.raised = s.dev.plusRecord r.1 r.2.1 ∧ s.dev.keeps t [] [.hst, .drg, .raised])) ∧
        (ok = true → good = true → s.dev.flashWindow = true →
          (x.blocks.contains ofs = true → data.map (· % 256) = s.dev.slotBytes 2 ofs data.length → Does s (.updBlock o tag) (fun t => e.replied t o f 0 [] ∧
            t.img = { s.dev.img with session := some { x with last := s.dev.tick } } ∧ s.dev.keeps t [] [.hst, .drg, .img])) ∧
          (x.blocks.contains ofs = false → ∀ sec k, sec = ofs / 0x10000 → k = flashKey (slotOfs 2) → Does s (.updBlock o tag) (fun t => e.replied t o f 0 [] ∧
            (∃ y, t.img = { s.dev.img with session := some y } ∧ y = { x with blocks := x.blocks ++ [ofs], erased := y.erased, verified := false, last := s.dev.tick } ∧
              y.erased.contains sec = true) ∧
            (∀ i < data.length, t.byte (k + ofs + i) = (data.getD i 0 &&& if x.erased.contains sec then s.dev.byte (k + ofs + i) else 255)) ∧
            (∀ a, a < k + 0x10000 * sec ∨ k + 0x10000 * (sec + 1) ≤ a → t.byte a = s.dev.byte a) ∧ s.dev.keeps t [] [.hst, .drg, .img, .mem])))) ∧
      (f.payload.length = 4 → f.word 0 % 65536 = s.dev.img.number →
        (s.dev.took e o tag 0x52 f → Does s (.updStatus o tag) (fun t => s.dev.keeps t [] [.hst, .drg] ∧ ∃ m, e.replied t o f 0 (payload [x.blocks.length, m]) ∧
          (m < x.total → m % 4096 = 0 ∧ m ∉ x.blocks) ∧ ∀ b, b % 4096 = 0 → b < x.total → b < m → b ∈ x.blocks)) ∧
        (s.dev.took e o tag 0x53 f →
          (s.dev.verify 2 = none → Does s (.updVerify o tag) (fun t => e.replied t o f 0 (payload [0, 0]) ∧
            t.img = { s.dev.img with session := some { x with verified := true, last := s.dev.tick } } ∧ s.dev.keeps t [] [.hst, .drg, .img])) ∧
          (∀ c ctx, s.dev.verify 2 = some (c, ctx) → Does s (.updVerify o tag) (fun t =>
            e.replied t o f c (payload [c, if c = Err.IMG_PART_BAD then ctx.getD 1 0 else 0]) ∧ t.raised = s.dev.plusRecord c ctx ∧
            t.img = { s.dev.img with session := some { x with last := s.dev.tick }, vcode := c } ∧ s.dev.keeps t [] [.hst, .drg, .img, .raised]))) ∧
        (s.dev.took e o tag 0x54 f →
          (x.verified = false → Does s (.updActivate o tag) (fun t => e.replied t o f Err.IMG_NOT_VERIFIED [] ∧
            t.raised = s.dev.plusRecord Err.IMG_NOT_VERIFIED [s.dev.img.number] ∧ s.dev.keeps t [] [.hst, .drg, .raised])) ∧
          (x.verified = true → Does s (.updActivate o tag) (fun t => e.replied t o f 0 [] ∧ s.dev.bootKept t ∧
            t.img = { s.dev.img with session := none, stagingBad := false, phase := if s.dev.img.recovery then 3 else 1,
                                     copying := s.dev.img.recovery || s.dev.img.copying } ∧ s.dev.keeps t [] [.hst, .drg, .img, .mem]))) ∧
        (s.dev.took e o tag 0x55 f → Does s (.updAbort o tag) (fun t => e.replied t o f 0 [] ∧ t.img = { s.dev.img with session := none } ∧
          s.dev.keeps t [] [.hst, .drg, .img]))) ∧
      (60000 ≤ msBetween x.last s.dev.tick → Does s .imgLapsed (fun t => t.img = { s.dev.img with session := none } ∧
        t.raised = s.dev.plusRecord Err.IMG_LAPSED [s.dev.img.number, x.src] ∧ s.dev.keeps t [] [.img, .raised])) ∧
      (msBetween x.last s.dev.tick < 60000 → exec .imgLapsed s = .next s)) ∧
    (∀ c ∈ ([(.updStatus o tag, 0x52), (.updVerify o tag, 0x53), (.updActivate o tag, 0x54), (.updAbort o tag, 0x55)] : List (Instr × Nat)), ∀ f e,
      s.dev.took e o tag c.2 f → f.payload.length = 4 → (s.dev.img.session = none ∨ f.word 0 % 65536 ≠ s.dev.img.number) → Does s c.1 (fun t =>
        e.replied t o f Err.IMG_SESSION [] ∧ t.raised = s.dev.plusRecord Err.IMG_SESSION [f.word 0 % 65536] ∧ s.dev.keeps t [] [.hst, .drg, .raised])) ∧
    (∀ f e, s.dev.took e o tag 0x56 f → f.payload = [] → Does s (.imgInfo o tag) (fun t => s.dev.keeps t [] [.hst, .drg] ∧ e.replied t o f 0
      (payload ([s.dev.imgStat] ++ (List.range 3).flatMap (fun k => [s.dev.manWord k 0xC 4, s.dev.manWord k 8 4]) ++
        [(List.range 4).foldl (fun a k => a + (s.dev.tlyEntry (10 + k)).state * 4 ^ k) 0]) ++
        (List.range 4).flatMap (fun k => (s.dev.tlyEntry (10 + k)).value) ++ payload [s.dev.imgSess])))

/-- The boot decision, its copies and its confirmation (R466 to R469): BOOT_MODE 1 enters recovery, 2 boots FALLBACK unless the lock is SEALED; else the
phase decides: a verified ACTIVE boots, a bad one is restored from a verified FALLBACK inside the flash window or leaves recovery; a verified STAGING starts the
copies, whose ends move the slots; a trial counts its starts. CONFIRM ends the trial, raises the counter and waits for the window; REJECT marks the
boot state and resets. -/
def Obligations.BootAndConfirm : Prop :=
  ∀ s : State, s.dev.live = true →
    (s.dev.sys.run = .absent → s.dev.img.copying = false → ∀ x, x = s.dev.bootLoad.img →
      (s.dev.sys.bootMode = 1 → Does s .bootDecision (fun t => t.sys.run = .absent ∧ t.img.recovery = true ∧ t.img.booted = 2 ∧
        t.raised = s.dev.plusRecord Err.IMG_RECOVERY [1, 0] ∧ s.dev.keeps t [] [.img, .sys, .raised])) ∧
      (s.dev.sys.bootMode = 2 → s.dev.tlyLock ≠ 2 → Does s .bootDecision (fun t => t.sys.run = .running ∧ t.img.booted = 1 ∧ t.img.trial = false ∧
        t.img.ver = s.dev.manWord 1 0xC 4 ∧ s.dev.keeps t [] [.img, .sys])) ∧
      (s.dev.sys.bootMode ≠ 1 → (s.dev.sys.bootMode = 2 → s.dev.tlyLock = 2) →
        (x.phase = 0 → x.pendSvn = 0 → s.dev.verify 0 = none → Does s .bootDecision (fun t => t.sys.run = .running ∧ t.img.booted = 0 ∧ t.img.trial = false ∧
          t.img.ver = s.dev.manWord 0 0xC 4 ∧ t.img.svn = s.dev.manWord 0 8 4 ∧ s.dev.keeps t [] [.img, .sys])) ∧
        (∀ c0 c1 y z, x.phase = 0 → s.dev.verify 0 = some (c0, y) →
          (s.dev.verify 1 = some (c1, z) → Does s .bootDecision (fun t => t.sys.run = .absent ∧ t.img.recovery = true ∧
            t.raised = s.dev.plusRecord Err.IMG_RECOVERY [s.dev.sys.bootMode, c1] ∧ s.dev.keeps t [] [.img, .sys, .raised])) ∧
          (s.dev.verify 1 = none → s.dev.flashWindow = true → Does s .bootDecision (fun t => t.sys.run = .absent ∧ t.img.copying = true ∧ t.img.phase = 5 ∧
            (Err.IMG_FALLBACK, [3]) ∈ t.img.recs ∧ s.dev.bootKept t ∧ s.dev.keeps t [] [.img, .sys, .mem]))) ∧
        (x.phase = 1 → s.dev.verify 2 = none → s.dev.flashWindow = true → Does s .bootDecision (fun t => t.sys.run = .absent ∧ t.img.copying = true ∧
          t.img.phase = 2 ∧ s.dev.bootKept t ∧ s.dev.keeps t [] [.img, .sys, .mem])) ∧
        (x.phase = 4 → x.reject = false → x.trialCnt ≠ 3 → Does s .bootDecision (fun t => t.sys.run = .running ∧ t.img.trial = true ∧ t.img.booted = 0 ∧
          t.img.trialCnt = x.trialCnt + 1 ∧ (Err.IMG_TRIAL, [x.trialCnt + 1, s.dev.manWord 0 0xC 4]) ∈ t.img.recs ∧ s.dev.bootKept t ∧
          s.dev.keeps t [] [.img, .sys, .mem])))) ∧
    (s.dev.img.copying = true → exec (.imageCopyDone false) s = .next s ∧
      ∀ x ∈ ([(2, 0, 1), (3, 2, 0), (5, 1, 0)] : List (Nat × Nat × Nat)), s.dev.img.phase = x.1 → (x.1 = 2 → s.dev.flashWindow = true) →
        (x.1 = 3 → s.dev.img.reject = false) → Does s (.imageCopyDone true) (fun t =>
          (∀ i < 0x2000000, t.byte (flashKey (slotOfs x.2.2 + i)) = s.dev.byte (flashKey (slotOfs x.2.1 + i))) ∧
          (∀ a, a < flashKey 0 ∨ (flashKey 0x2000 ≤ a ∧ a < flashKey (slotOfs x.2.2)) ∨ flashKey (slotOfs (x.2.2 + 1)) ≤ a → t.byte a = s.dev.byte a) ∧
          (x.1 = 2 → t.img.phase = 3 ∧ t.img.copying = true ∧ t.sys.run = .absent) ∧
          (x.1 = 3 → t.img.phase = 4 ∧ t.img.trialCnt = 1 ∧ t.img.trial = true ∧ t.img.copying = false ∧ t.sys.run = .running) ∧
          (x.1 = 5 → t.img.phase = 0 ∧ t.img.stagingBad = true ∧ t.img.restored = true ∧ t.img.booted = 0 ∧ t.img.copying = false ∧ t.sys.run = .running) ∧
          s.dev.keeps t [] [.img, .sys, .mem])) ∧
    (s.dev.img.trial = false →
      Does s .confirm (fun t => t.raised = s.dev.plusRecord Err.IMG_NOT_TRIAL [Config.recordNumber Err.IMG_NOT_TRIAL 1] ∧ s.dev.keeps t [] [.raised]) ∧
      Does s .reject (fun t => t.raised = s.dev.plusRecord Err.IMG_NOT_TRIAL [Config.recordNumber Err.IMG_NOT_TRIAL 2] ∧ s.dev.keeps t [] [.raised])) ∧
    (s.dev.img.trial = true →
      (s.dev.flashWindow = true → Does s .confirm (fun t => t.img.phase = 0 ∧ t.img.trial = false ∧ t.img.confirmWait = false ∧ s.dev.bootKept t ∧
        t.img.pendSvn = (if s.dev.tlyNum 14 < s.dev.img.svn ∧ (s.dev.tCd < 0 ∨ 1360 < s.dev.tCd) then s.dev.img.svn else 0) ∧
        (s.dev.tlyNum 14 < s.dev.img.svn → s.dev.img.svn ≤ 64 → 0 ≤ s.dev.tCd → s.dev.tCd ≤ 1360 → (s.dev.tlyEntry 14).left ≠ 0 →
          (⟨14, 0, [s.dev.img.svn], 7⟩ : TlyOp) ∈ t.tly.ops) ∧ t.tb = s.dev.tb ∧ t.ce = s.dev.ce ∧ t.pwm = s.dev.pwm)) ∧
      (s.dev.flashWindow = false → Does s .confirm (fun t => t.img = { s.dev.img with confirmWait := true } ∧
        t.raised = s.dev.plusRecord Err.MEM_FLASH_TEMP [w32 s.dev.tCd, Config.recordNumber Err.MEM_FLASH_TEMP 3] ∧ s.dev.keeps t [] [.img, .raised])) ∧
      (s.dev.sys.porstLow = false → s.dev.sys.rstLow = false → s.dev.sys.suppliesLost.any Supply.device = false → Does s .reject (fun t =>
        t.sys.run = .absent ∧ t.word Reg.SYS_RST_CAUSE = s.dev.word Reg.SYS_RST_CAUSE ||| 8 ∧ s.dev.bootKept t ∧
        (t.byte (flashKey (if s.dev.bootCopy = some 0 then 0x1006 else 6))).testBit 1 = true)))

/-- The tally (R473 to R476): a write or key command that no rule refuses starts a programming with its value and source; one of the current value is accepted
without; each refusal shows its code and leaves the tally; the end of a programming changes the entry, logs the change and
raises it, or consumes a change of an entry that stays as it was. The order BUSY, current value, other refusals is the model's (log 46). -/
def Obligations.TallyCommands : Prop :=
  ∀ s : State, s.dev.live = true →
    (∀ e v slot, slot < 4 → ∀ x ∈ ([(.tallyWrite e v, e, 0, tlyBytes e v, false), (.tlyKeyProgram slot, 10 + slot, 0, s.dev.tly.keyStage, true),
        (.tlyKeyRevoke slot, 10 + slot, 1, (s.dev.tlyEntry (10 + slot)).value, true)] : List (Instr × Nat × Nat × List Nat × Bool)),
      (x.2.2.2.2 = false → (e = 0 ∧ v < 48) ∨ (1 ≤ e ∧ e ≤ 6 ∧ v < 65536) ∨ (e = 7 ∧ v < 2 ^ 24) ∨ (e = 15 ∧ v < 3)) →
      ∀ fs, fs = [Reg.TLY_STAT_BUSY, Reg.TLY_STAT_RESULT] ++ (if x.2.2.2.2 then [Reg.TLY_KEY_SEL] else []) →
      ∀ same, same = s.dev.tlySame x.2.1 x.2.2.1 x.2.2.2.1 → ∀ ref, ref = s.dev.tlyRefusal x.2.1 x.2.2.1 x.2.2.2.1 x.2.2.2.2 →
        (x.2.2.2.2 = true → Does s x.1 (fun t => t.g Reg.TLY_KEY_SEL = slot)) ∧
        (s.dev.tly.ops ≠ [] → Does s x.1 (fun t => t.g Reg.TLY_STAT_RESULT = Err.TLY_BUSY ∧ t.tly = { s.dev.tly with statRead := false } ∧
          t.raised = s.dev.plusRecord Err.TLY_BUSY [x.2.1] ∧ s.dev.keeps t fs [.tly, .raised])) ∧
        (s.dev.tly.ops = [] →
          (same = true → Does s x.1 (fun t => t.on Reg.TLY_STAT_BUSY = false ∧ t.g Reg.TLY_STAT_RESULT = 0 ∧ t.tly = { s.dev.tly with statRead := false } ∧
            s.dev.keeps t fs [.tly])) ∧
          (∀ c ctx, same = false → ref = some (c, ctx) → Does s x.1 (fun t => t.on Reg.TLY_STAT_BUSY = false ∧ t.g Reg.TLY_STAT_RESULT = c ∧
            t.tly = { s.dev.tly with statRead := false } ∧ t.raised = s.dev.plusRecord c ctx ∧ s.dev.keeps t fs [.tly, .raised])) ∧
          (same = false → ref = none → Does s x.1 (fun t => t.on Reg.TLY_STAT_BUSY = true ∧ t.g Reg.TLY_STAT_RESULT = 0 ∧
            t.tly = { s.dev.tly with statRead := false, ops := [⟨x.2.1, x.2.2.1, x.2.2.2.1, s.dev.g Reg.TLY_CTL_SRC⟩] } ∧ s.dev.keeps t fs [.tly])))) ∧
    (∀ p rest, s.dev.tly.ops = p :: rest → p.entry < s.dev.tly.entries.length → ∀ x, x = s.dev.tlyEntry p.entry →
      Does s (.tallyProgramDone true) (fun t => t.tlyEntry p.entry = x.after p ∧ (∀ j, j ≠ p.entry → t.tlyEntry j = s.dev.tlyEntry j) ∧
        t.tly.ops = rest ∧ t.on Reg.TLY_STAT_BUSY = (rest != []) ∧
        t.tly.log = s.dev.tly.log ++ [leBytes 4 (s.dev.tly.log.length + 1) ++ leBytes 8 s.dev.tb.rt ++ [p.entry, p.src, x.left - 1, 0] ++
          hash16 x.value ++ hash16 p.value] ∧
        t.raised = s.dev.plusRecord Err.TLY_CHANGED [s.dev.tly.log.length + 1, p.entry, p.src] ∧
        s.dev.keeps t [Reg.TLY_STAT_BUSY, Reg.TLY_STAT_RESULT] [.tly, .raised]) ∧
      Does s (.tallyProgramDone false) (fun t => t.tlyEntry p.entry = { x with left := x.left - 1 } ∧ (∀ j, j ≠ p.entry → t.tlyEntry j = s.dev.tlyEntry j) ∧
        t.tly.ops = rest ∧ t.tly.log = s.dev.tly.log ∧ (∃ v, t.raised = s.dev.plusRecord Err.TLY_PROG_FAIL [p.entry, v]) ∧
        s.dev.keeps t [Reg.TLY_STAT_BUSY, Reg.TLY_STAT_RESULT] [.tly, .raised]))

/-! ## Thermal, clocks, watchdog, absence -/

/-- The thermal unit (R481 to R487): sensors that agree report what they read, and the filtered temperature follows; three readings at 140 °C latch and
force every channel safe; an input without a conversion for 100 ms is INVALID; derating falls with the curve at once, rises by RISE, and is 0 at
the limit; CLEAR_BROKEN clears what it names; RESTORE lets the named channels rise. -/
def Obligations.ThermalCommands : Prop :=
  ∀ s : State, s.dev.live = true →
    (∀ T : Int, -880 ≤ T → T < 2400 → s.dev.sys.d2dLost = false → s.dev.img.confirmWait = false →
      (∀ i < 12, s.dev.on (Reg.TS_VAL_BROKEN i) = false) → s.dev.therm.hot.length = 12 → s.dev.therm.hasRead.length = 12 → s.dev.therm.hot150.length = 12 →
      Does s (.temperatureReading (List.replicate 12 T) 0) (fun t => (∀ i < 12, t.sg (Reg.TS_RAW_TEMP i) = T ∧ t.sg (Reg.TS_VAL_TEMP i) = T ∧
          t.on (Reg.TS_VAL_STALE i) = false ∧ t.on (Reg.TS_VAL_BROKEN i) = false) ∧
        ((∀ y ∈ s.dev.therm.maxCd, y = T) → t.sg Reg.THM_TJ_T_CD = T) ∧ ((∀ y ∈ s.dev.therm.maxHv, y = T) → t.sg Reg.THM_TJ_T_HV = T) ∧
        (T < 2240 → t.on Reg.THM_STAT_LATCH = s.dev.on Reg.THM_STAT_LATCH ∧ t.raised = s.dev.raised ∧ t.pwm = s.dev.pwm) ∧
        (2240 ≤ T → 2 ≤ s.dev.therm.hot.getD 0 0 → s.dev.on Reg.THM_STAT_LATCH = false → t.on Reg.THM_STAT_LATCH = true ∧
          s.dev.record Err.THM_LATCH [0, w32 T] ∈ t.raised ∧ ∀ n < 6, (⟨n, 7, 1⟩ : ForceCond) ∈ t.pwm.conds ∧
            ∀ m < 6, s.dev.isChop n m = false → t.isArmed n m = false) ∧
        t.tb = s.dev.tb ∧ t.ce = s.dev.ce ∧ ∀ a, t.byte a = s.dev.byte a)) ∧
    (∀ n < 8, s.dev.on (Reg.TIN_CFG_EN n) = true → s.dev.on (Reg.TIN_VAL_INVALID n) = false → 100 ≤ msBetween (s.dev.therm.tinLast.getD n 0) s.dev.tick →
      Does s (.thmTinInvalid n) (fun t => t.on (Reg.TIN_VAL_INVALID n) = true ∧ t.raised = s.dev.plusRecord Err.THM_TIN_INVALID [n, Config.recordNumber Err.THM_TIN_INVALID 4] ∧
        s.dev.keeps t [Reg.TIN_VAL_INVALID n] [.raised])) ∧
    (∀ c < 6, (∀ k < 6, s.dev.on (Reg.THM_CH_TCFG_EXT_EN k) = false ∧ s.dev.on (Reg.DCL_CH_CFG_SL k) = false) → ∀ app, app = s.dev.g (Reg.THM_CH_DER_F_APP c) →
      (s.dev.tJ < 2000 → s.dev.on Reg.THM_STAT_DIE_HARD = false → Does s .deratingUpdate (fun t => ∀ f, f = derate s.dev.tJ 1840 2000 →
        t.on Reg.THM_STAT_DIE_HARD = false ∧ t.gBit Reg.THM_STAT_CH_HARD c = false ∧ t.g (Reg.THM_CH_DER_F_CALC c) = f ∧
        (f < app → t.g (Reg.THM_CH_DER_F_APP c) = f ∧ (app = 0x8000 → s.dev.record Err.THM_DERATE [c, f, Config.recordNumber Err.THM_DERATE 0] ∈ t.raised)) ∧
        (app ≤ f → s.dev.assistMode 5 = 0 → s.dev.gBit Reg.THM_STAT_PEND c = false →
          t.g (Reg.THM_CH_DER_F_APP c) = Min.min f (app + Max.max 1 (s.dev.g Reg.THM_CFG_RISE))) ∧
        t.pwm = s.dev.pwm ∧ t.tb = s.dev.tb ∧ ∀ a, t.byte a = s.dev.byte a)) ∧
      (2000 ≤ s.dev.tJ → s.dev.on Reg.THM_STAT_DIE_HARD = false → Does s .deratingUpdate (fun t => t.on Reg.THM_STAT_DIE_HARD = true ∧
        t.gBit Reg.THM_STAT_CH_HARD c = true ∧ t.g (Reg.THM_CH_DER_F_APP c) = 0 ∧
        s.dev.record Err.THM_HARD [Config.recordNumber Err.THM_HARD (b2n (decide (s.dev.tCd < s.dev.tJ))), w32 s.dev.tJ] ∈ t.raised ∧ ∀ a, t.byte a = s.dev.byte a)) ∧
      (1920 < s.dev.tJ → s.dev.on Reg.THM_STAT_DIE_HARD = true → Does s .deratingUpdate (fun t => t.on Reg.THM_STAT_DIE_HARD = true ∧
        t.g (Reg.THM_CH_DER_F_APP c) = 0))) ∧
    (∀ mask, Does s (.clearBroken mask) (fun t =>
      (∀ i < 12, mask.testBit i = true → t.on (Reg.TS_VAL_BROKEN i) = false ∧ t.gBit Reg.THM_STAT_BROKEN i = false ∧ t.therm.dev.getD i 0 = 0) ∧
      (∀ i < 12, mask.testBit i = false → t.on (Reg.TS_VAL_BROKEN i) = s.dev.on (Reg.TS_VAL_BROKEN i) ∧
        t.gBit Reg.THM_STAT_BROKEN i = s.dev.gBit Reg.THM_STAT_BROKEN i ∧ t.therm.dev.getD i 0 = s.dev.therm.dev.getD i 0) ∧
      s.dev.keeps t (Reg.THM_STAT_BROKEN :: (List.range 12).map Reg.TS_VAL_BROKEN) [.therm])) ∧
    (∀ mask, (∀ c < 6, mask.testBit c = true → s.dev.gBit Reg.THM_STAT_PEND c = false) → exec (.restore mask) s = .next s) ∧
    (∀ mask, ∀ c < 6, mask.testBit c = true → s.dev.gBit Reg.THM_STAT_PEND c = true → s.dev.therm.restoring.length = 6 →
      Does s (.restore mask) (fun t => t.therm.restoring.getD c false = true ∧
        (s.dev.proposal 5 c ≠ none → t.proposal 5 c = none ∧ t.lastDecided 5 c = some ⟨5, c, 1, 0⟩) ∧
        s.dev.keeps t [Reg.ASSIST_CFG_PEND 5] [.therm, .hst]))

/-- The clock monitor, the supervisor watchdog, lockstep and the absence of the supervisor, and the return of a supply (R173, R174, R489, R490, R493, R496,
R497, R505): a failed clock check is FCLK loss with its record held until the clock returns; a check that is good again shows so; the
watchdog, once enabled, is served inside its window, resets the supervisor domain first and the warm domain next; lockstep resets the supervisor
domain; SV_HOLD ms of absence apply each running context's fallback. -/
def Obligations.ClocksAndWatchdog : Prop :=
  (∀ s : State, s.dev.sys.run ≠ .inReset →
    (s.dev.sys.fclkLost = none → ∀ count, ∀ x ∈ ([(.sysXtalLost, Reg.SYS_CLK_STAT_XTAL, Err.SYS_XTAL_LOST, 0),
        (.sysPllUnlock 0, Reg.SYS_CLK_STAT_PLL, Err.SYS_PLL_UNLOCK, Config.recordNumber Err.SYS_PLL_UNLOCK 0), (.sysFclkFreq count, Reg.SYS_CLK_STAT_FREQ, Err.SYS_FCLK_FREQ, count)] :
        List (Instr × RF × Nat × Nat)), Does s x.1 (fun t => t.on x.2.1 = true ∧ t.sys.fclkLost = some s.dev.tick ∧
      t.sys.clkRecs = s.dev.sys.clkRecs ++ [x.2.2] ∧
      (∀ n < 6, (⟨n, 3, 0⟩ : ForceCond) ∈ t.pwm.conds ∧ ∀ m < 6, s.dev.isChop n m = false → t.isArmed n m = false) ∧
      t.tb = s.dev.tb ∧ t.ce = s.dev.ce ∧ ∀ a, t.byte a = s.dev.byte a)) ∧
    Does s (.sysPllUnlock 1) (fun t => t.on Reg.SYS_CLK_STAT_PLL = true ∧ t.on Reg.SYS_CLK_STAT_DDR_LOCK = false ∧
      (s.dev.sys.fclkLost = none → t.raised = s.dev.plusRecord Err.SYS_PLL_UNLOCK [Config.recordNumber Err.SYS_PLL_UNLOCK 1] ∧ t.sys = s.dev.sys) ∧
      s.dev.keeps t [Reg.SYS_CLK_STAT_PLL, Reg.SYS_CLK_STAT_DDR_LOCK] [.raised, .sys]) ∧
    ∀ x ∈ ([(0, Reg.SYS_CLK_STAT_MCLK_OK), (1, Reg.SYS_CLK_STAT_XTAL_OK), (2, Reg.SYS_CLK_STAT_SYS_LOCK), (3, Reg.SYS_CLK_STAT_DDR_LOCK)] : List (Nat × RF)),
      Does s (.clockCheckGood x.1) (fun t => t.on x.2 = true ∧ s.dev.keeps t [x.2] [])) ∧
  (∀ s : State, s.dev.live = true →
    (s.dev.on Reg.SYS_WDT_CFG_EN = false → (∀ v, exec (.wdtService v) s = .next s) ∧ exec .sysWdt s = .next s ∧
      Does s .wdtEnable (fun t => t.on Reg.SYS_WDT_CFG_EN = true ∧ t.sys = { s.dev.sys with wdtLast := s.dev.tick, wdtBarked := false } ∧
        s.dev.keeps t [Reg.SYS_WDT_CFG_EN] [.sys])) ∧
    (s.dev.on Reg.SYS_WDT_CFG_EN = true → exec .wdtEnable s = .next s ∧ ∀ v early due,
      early = decide (s.dev.tick - s.dev.sys.wdtLast < 250000 * s.dev.g Reg.SYS_WDT_CFG_WIN_MIN) →
      due = decide (s.dev.sys.wdtLast + 250000 * s.dev.g Reg.SYS_WDT_CFG_TIMEOUT ≤ s.dev.tick) →
      (v % 256 = 0x5A → early = false → Does s (.wdtService v) (fun t => t.sys = { s.dev.sys with wdtLast := s.dev.tick, wdtBarked := false } ∧
        s.dev.keeps t [] [.sys])) ∧
      (due = false → exec .sysWdt s = .next s) ∧
      ∀ i ∈ (if v % 256 ≠ 0x5A ∨ early = true then [.wdtService v] else []) ++ (if due = true then [.sysWdt] else []),
        (s.dev.sys.wdtBarked = false → Does s i (fun t => t.on Reg.HST_CTL_SV_READY = false ∧ t.sys.wdtBarked = true ∧ t.sys.wdtLast = s.dev.tick ∧
          t.word Reg.SYS_RST_CAUSE = s.dev.word Reg.SYS_RST_CAUSE ||| 32 ∧ s.dev.record Err.SYS_WDT [1] ∈ t.raised ∧ t.pwm = s.dev.pwm ∧ t.ce = s.dev.ce ∧
          t.tb = s.dev.tb ∧ ∀ a, t.byte a = s.dev.byte a)) ∧
        (s.dev.sys.wdtBarked = true → s.dev.sys.porstLow = false → s.dev.sys.rstLow = false → s.dev.sys.suppliesLost.any Supply.device = false →
          Does s i (fun t => t.sys.run = .absent ∧ t.word Reg.SYS_RST_CAUSE = s.dev.word Reg.SYS_RST_CAUSE ||| 16 ∧
            (∀ k, k ≠ Reg.SYS_RST_CAUSE → k ≠ Reg.THM_STAT → t.word k = State.reset.dev.word k) ∧ ∀ a, t.byte a = s.dev.byte a))) ∧
    (∀ core, Does s (.sysLockstep core) (fun t => t.on Reg.HST_CTL_SV_READY = false ∧
      t.word Reg.SYS_RST_CAUSE = s.dev.word Reg.SYS_RST_CAUSE ||| 64 ∧ s.dev.record Err.SYS_LOCKSTEP [core] ∈ t.raised ∧ t.pwm = s.dev.pwm ∧
      t.ce = s.dev.ce ∧ t.tb = s.dev.tb ∧ ∀ a, t.byte a = s.dev.byte a)) ∧
    (∀ u, s.dev.sys.absentFrom = some u → s.dev.sys.svhDone = false → s.dev.on Reg.HST_CTL_SV_READY = false →
      (s.dev.tick < u + 250000 * s.dev.g Reg.SYS_SVH_SV_HOLD → exec .sysSvHoldExpired s = .next s) ∧
      (u + 250000 * s.dev.g Reg.SYS_SVH_SV_HOLD ≤ s.dev.tick → ∀ run n, run = ctxNumbers.filter (fun c => s.dev.ctxState c == 2) →
        n = (run.filter (fun c => s.dev.g (Reg.CTX_W0_FBK c) != 0)).length → Does s .sysSvHoldExpired (fun t => t.on Reg.SYS_SVH_STAT_EXPIRED = true ∧
          t.g Reg.SYS_SVH_STAT_FALLBACKS = n ∧ t.sys.svhDone = true ∧
          s.dev.record Err.SYS_SV_HOLD_EXPIRED [n, s.dev.g Reg.SYS_SVH_SV_HOLD] ∈ t.raised ∧
          (n = 0 → s.dev.keeps t [Reg.SYS_SVH_STAT_EXPIRED, Reg.SYS_SVH_STAT_FALLBACKS] [.sys, .raised]) ∧
          (∀ c, run = [c] → s.dev.g (Reg.CTX_W0_FBK c) = 1 → s.dev.ctxBind c = 0 → (s.dev.ctx c).phase = .idle → (s.dev.ctx c).outDue = none →
            t.ctxState c = 1)))))  ∧
  ∀ s : State, s.dev.sys.run ≠ .inReset → Does s (.supplyRestored .v24si) (fun t => t.saf = { s.dev.saf with v24 := true } ∧
    t.sys = { s.dev.sys with suppliesLost := s.dev.sys.suppliesLost.filter (fun y => y != .v24si) } ∧ s.dev.keeps t [] [.sys, .saf])

/-! ## Whole-device rules -/

/-- The commands that act in reset too: the reset pins and the supplies. -/
def Sys2Proof.Instr.atReset : Instr → Bool
  | .porstNAsserted | .rstNAsserted | .resetRelease _ _ | .supplyLoss _ | .supplyRestored _ => true
  | _ => false

/-- In reset every input but the reset pins and the supplies is ignored (R40): such a command leaves the whole state as it is. What a command does
never depends on the commands that wait behind it, and it never ends the run. -/
def Obligations.InertInReset : Prop :=
  (∀ (s : State) (i : Instr), s.dev.sys.run = .inReset → i.atReset = false → exec i s = .next s) ∧
  ∀ (i : Instr) (d : Dev), ∃ e, ∀ q, exec i ⟨d, q⟩ = .next ⟨e, q⟩

/-- A device that PORST_N holds in reset: every register but SYS_RST_CAUSE and THERM_LATCH reads its reset value, and every block that holds no memory
over resets stands at reset. -/
def Sys2Proof.Machine.State.cold (s : State) : Prop :=
  s.held ∧ (∀ k, k ≠ Reg.SYS_RST_CAUSE → k ≠ Reg.THM_STAT → s.dev.word k = State.reset.dev.word k) ∧
  s.dev.word Reg.THM_STAT % 2 ^ 31 = State.reset.dev.word Reg.THM_STAT % 2 ^ 31 ∧ s.dev.tb = State.reset.dev.tb ∧ s.dev.ce = State.reset.dev.ce ∧
  s.dev.aux = State.reset.dev.aux ∧ s.dev.mea = State.reset.dev.mea ∧ s.dev.dcl = State.reset.dev.dcl ∧ s.dev.drg = State.reset.dev.drg ∧
  s.dev.cans = State.reset.dev.cans ∧ s.dev.mm = State.reset.dev.mm ∧ s.dev.img = State.reset.dev.img ∧ s.dev.errs = State.reset.dev.errs ∧
  s.dev.raised = [] ∧ s.dev.saf.gd = 0 ∧ s.dev.sys.fclkLost = none

/-- PORST_N low takes every state to one that is held in reset (R40, R491). -/
def Obligations.PorstHolds : Prop :=
  ∀ s : State, ∃ t, exec .porstNAsserted s = .next t ∧ t.cold ∧ t.dev.on Reg.THM_STAT_LATCH = s.dev.on Reg.THM_STAT_LATCH

/-- While PORST_N holds the device in reset, every step but its release keeps it there (R20, R22, R40, R491), whatever commands come: the registers and blocks stay at
reset, THERM_LATCH is not set, and the byte memories and the tally's entries and log stay as they are. -/
def Obligations.ResetIsHeld : Prop :=
  ∀ s : State, s.cold → (∀ m, s.pending.head? ≠ some (.resetRelease true m)) → ∃ t, step s = .next t ∧ t.cold ∧ t.pending = s.pending.tail ∧
    (∀ a, t.dev.byte a = s.dev.byte a) ∧ t.dev.tly.entries = s.dev.tly.entries ∧ t.dev.tly.log = s.dev.tly.log ∧
    (t.dev.on Reg.THM_STAT_LATCH = true → s.dev.on Reg.THM_STAT_LATCH = true)
end

