-- ==== Sys2Proof/Laws/Store.lean ====
section
/-! SUPPORT. Laws/Store.lean: reading after writing, and the canonical form, of the sparse stores; entries of lists. -/

namespace Sys2Proof.Machine

variable {α : Type}

/-! ## Reading after writing -/

theorem storeGet_put_same (dflt : Nat → α) (l : List (Nat × α)) (k : Nat) (x : α) : storeGet dflt (storePut l k x) k = x := by
  induction l with
  | nil => simp [storePut, storeGet]
  | cons c t ih =>
    obtain ⟨a, v⟩ := c
    simp only [storePut]
    split
    · simp [storeGet]
    · split
      · simp [storeGet]
      · rename_i h _
        simp [storeGet, h, ih]

theorem storeGet_put_other (dflt : Nat → α) (l : List (Nat × α)) {k j : Nat} (x : α) (h : j ≠ k) :
    storeGet dflt (storePut l k x) j = storeGet dflt l j := by
  induction l with
  | nil => simp [storePut, storeGet, Ne.symm h]
  | cons c t ih =>
    obtain ⟨a, v⟩ := c
    simp only [storePut]
    split
    · rename_i e
      subst e
      simp [storeGet, Ne.symm h]
    · split
      · simp [storeGet, Ne.symm h]
      · simp [storeGet, ih]

theorem storeGet_erase_same (dflt : Nat → α) (l : List (Nat × α)) (k : Nat) : storeGet dflt (storeErase l k) k = dflt k := by
  induction l with
  | nil => rfl
  | cons c t ih =>
    obtain ⟨a, v⟩ := c
    by_cases e : a = k
    · simpa [storeErase, e] using ih
    · simpa [storeErase, e, storeGet] using ih

theorem storeGet_erase_other (dflt : Nat → α) (l : List (Nat × α)) {k j : Nat} (h : j ≠ k) :
    storeGet dflt (storeErase l k) j = storeGet dflt l j := by
  induction l with
  | nil => rfl
  | cons c t ih =>
    obtain ⟨a, v⟩ := c
    by_cases e : a = k
    · subst e
      simpa [storeErase, storeGet, Ne.symm h] using ih
    · by_cases f : a = j
      · subst f
        simp [storeErase, storeGet, h]
      · simpa [storeErase, e, storeGet, f] using ih

variable [DecidableEq α]

/-- What was written is read. -/
theorem storeGet_set_same (dflt : Nat → α) (l : List (Nat × α)) (k : Nat) (x : α) : storeGet dflt (storeSet dflt l k x) k = x := by
  unfold storeSet
  split
  · rename_i e
    rw [storeGet_erase_same, e]
  · exact storeGet_put_same dflt l k x

/-- Every other key reads as before. -/
theorem storeGet_set_other (dflt : Nat → α) (l : List (Nat × α)) {k j : Nat} (x : α) (h : j ≠ k) :
    storeGet dflt (storeSet dflt l k x) j = storeGet dflt l j := by
  unfold storeSet
  split
  · exact storeGet_erase_other dflt l h
  · exact storeGet_put_other dflt l x h

/-! ## The canonical form -/

/-- The canonical form, said of all entries at once. -/
theorem storeWf_iff (dflt : Nat → α) (l : List (Nat × α)) :
    storeWf dflt l = true ↔ l.Pairwise (fun c d => c.1 < d.1) ∧ ∀ c ∈ l, c.2 ≠ dflt c.1 := by
  induction l with
  | nil => simp [storeWf]
  | cons c t ih =>
    obtain ⟨a, v⟩ := c
    cases t with
    | nil => simp [storeWf]
    | cons e t =>
      obtain ⟨b, w⟩ := e
      have key : storeWf dflt ((a, v) :: (b, w) :: t) = true ↔ (v ≠ dflt a ∧ a < b) ∧ storeWf dflt ((b, w) :: t) = true := by
        simp [storeWf, and_assoc]
      rw [key, ih]
      constructor
      · rintro ⟨⟨h1, h2⟩, h3, h4⟩
        refine ⟨List.pairwise_cons.2 ⟨?_, h3⟩, ?_⟩
        · intro x hx
          rcases List.mem_cons.1 hx with rfl | hx
          · exact h2
          · exact lt_trans h2 ((List.pairwise_cons.1 h3).1 x hx)
        · intro x hx
          rcases List.mem_cons.1 hx with rfl | hx
          · exact h1
          · exact h4 x hx
      · rintro ⟨h1, h2⟩
        rw [List.pairwise_cons] at h1
        exact ⟨⟨h2 (a, v) List.mem_cons_self, h1.1 (b, w) List.mem_cons_self⟩, h1.2, fun x hx => h2 x (List.mem_cons_of_mem _ hx)⟩

omit [DecidableEq α] in
theorem mem_storePut {l : List (Nat × α)} {k : Nat} {x : α} {c : Nat × α} (h : c ∈ storePut l k x) : c = (k, x) ∨ c ∈ l := by
  induction l with
  | nil => simpa [storePut] using h
  | cons e t ih =>
    obtain ⟨a, v⟩ := e
    simp only [storePut] at h
    split at h
    · rcases List.mem_cons.1 h with h | h
      · exact .inl h
      · exact .inr (List.mem_cons_of_mem _ h)
    · split at h
      · rcases List.mem_cons.1 h with h | h
        · exact .inl h
        · exact .inr h
      · rcases List.mem_cons.1 h with h | h
        · exact .inr (h ▸ List.mem_cons_self)
        · exact (ih h).imp id (List.mem_cons_of_mem _)

omit [DecidableEq α] in
theorem storePut_sorted {l : List (Nat × α)} (k : Nat) (x : α) (h : l.Pairwise (fun c d => c.1 < d.1)) :
    (storePut l k x).Pairwise (fun c d => c.1 < d.1) := by
  induction l with
  | nil => simp [storePut]
  | cons e t ih =>
    obtain ⟨a, v⟩ := e
    rw [List.pairwise_cons] at h
    simp only [storePut]
    split
    · rename_i e
      subst e
      exact List.pairwise_cons.2 h
    · split
      · rename_i hk
        refine List.pairwise_cons.2 ⟨?_, List.pairwise_cons.2 h⟩
        intro c hc
        rcases List.mem_cons.1 hc with rfl | hc
        · exact hk
        · exact lt_trans hk (h.1 c hc)
      · rename_i hn hk
        refine List.pairwise_cons.2 ⟨?_, ih h.2⟩
        intro c hc
        rcases mem_storePut hc with rfl | hc
        · simp only; omega
        · exact h.1 c hc

/-- A write keeps the canonical form. -/
theorem storeSet_wf (dflt : Nat → α) {l : List (Nat × α)} (k : Nat) (x : α) (h : storeWf dflt l = true) :
    storeWf dflt (storeSet dflt l k x) = true := by
  rw [storeWf_iff] at h ⊢
  unfold storeSet
  split
  · exact ⟨h.1.filter _, fun c hc => h.2 c (List.mem_filter.1 hc).1⟩
  · rename_i hx
    refine ⟨storePut_sorted k x h.1, fun c hc => ?_⟩
    rcases mem_storePut hc with rfl | hc
    · exact hx
    · exact h.2 c hc

/-! ## Entries of lists -/

omit [DecidableEq α] in
@[simp] theorem updAt_length (l : List α) (n : Nat) (f : α → α) : (updAt l n f).length = l.length := by
  induction l generalizing n with
  | nil => cases n <;> rfl
  | cons a t ih => cases n <;> simp [updAt, ih]

omit [DecidableEq α] in
theorem updAt_getD_same (l : List α) (n : Nat) (f : α → α) (x : α) (h : n < l.length) : (updAt l n f).getD n x = f (l.getD n x) := by
  induction l generalizing n with
  | nil => simp at h
  | cons a t ih =>
    cases n with
    | zero => simp [updAt]
    | succ n =>
      have := ih n (by simpa using h)
      simpa [updAt] using this

omit [DecidableEq α] in
theorem updAt_getD_other (l : List α) {n m : Nat} (f : α → α) (x : α) (h : m ≠ n) : (updAt l n f).getD m x = l.getD m x := by
  induction l generalizing n m with
  | nil => cases n <;> rfl
  | cons a t ih =>
    cases n with
    | zero =>
      cases m with
      | zero => exact absurd rfl h
      | succ m => simp [updAt]
    | succ n =>
      cases m with
      | zero => simp [updAt]
      | succ m =>
        have := @ih n m (by simpa using h)
        simpa [updAt] using this

end Sys2Proof.Machine
end

