-- ==== Sys2Proof/Laws/Regs.lean ====
section
/-! SUPPORT. Laws/Regs.lean: registers, fields, bytes and the engines' words after an update. -/

namespace Sys2Proof.Machine

/-! ## Registers -/

theorem Dev.word_lt (d : Dev) (k : Nat) : d.word k < 2 ^ 32 := (storeGet regReset d.regs k).isLt

@[simp] theorem Dev.word_setWord_same (d : Dev) (k v : Nat) : (d.setWord k v).word k = v % 2 ^ 32 := by
  simp [Dev.word, Dev.setWord, storeGet_set_same]

theorem Dev.word_setWord_other (d : Dev) {k j : Nat} (v : Nat) (h : j ≠ k) : (d.setWord k v).word j = d.word j := by
  simp [Dev.word, Dev.setWord, storeGet_set_other _ _ _ h]

/-! ## Fields -/

theorem pack_lt {x y a b : Nat} (h : x < a) (g : y < b) : x * b + y < a * b :=
  calc x * b + y < x * b + b := Nat.add_lt_add_left g _
    _ = (x + 1) * b := by ring
    _ ≤ a * b := Nat.mul_le_mul_right b h

theorem setBits_lt {n hi lo v : Nat} (hn : n < 2 ^ 32) (h : lo ≤ hi) (h31 : hi ≤ 31) : setBits n hi lo v < 2 ^ 32 := by
  unfold setBits
  have e : (2 : Nat) ^ 32 = 2 ^ (hi + 1) * 2 ^ (31 - hi) := by rw [← pow_add]; congr 1; omega
  have f : (2 : Nat) ^ (hi + 1) = 2 ^ (hi - lo + 1) * 2 ^ lo := by rw [← pow_add]; congr 1; omega
  have a : n / 2 ^ (hi + 1) < 2 ^ (31 - hi) := Nat.div_lt_of_lt_mul (e ▸ hn)
  have b : v % 2 ^ (hi - lo + 1) < 2 ^ (hi - lo + 1) := Nat.mod_lt _ (by positivity)
  have c : n % 2 ^ lo < 2 ^ lo := Nat.mod_lt _ (by positivity)
  have d : v % 2 ^ (hi - lo + 1) * 2 ^ lo + n % 2 ^ lo < 2 ^ (hi + 1) := by
    rw [f]; exact pack_lt b c
  rw [e, Nat.mul_comm (2 ^ (hi + 1)) (2 ^ (31 - hi)), Nat.add_assoc]
  exact pack_lt a d

theorem bits_setBits_same (n hi lo v : Nat) (h : lo ≤ hi) : bits (setBits n hi lo v) hi lo = v % 2 ^ (hi - lo + 1) := by
  unfold bits setBits
  have f : (2 : Nat) ^ (hi + 1) = 2 ^ (hi - lo + 1) * 2 ^ lo := by rw [← pow_add]; congr 1; omega
  have c : n % 2 ^ lo < 2 ^ lo := Nat.mod_lt _ (by positivity)
  rw [f, show n / (2 ^ (hi - lo + 1) * 2 ^ lo) * (2 ^ (hi - lo + 1) * 2 ^ lo) + v % 2 ^ (hi - lo + 1) * 2 ^ lo + n % 2 ^ lo
      = n % 2 ^ lo + 2 ^ lo * (n / (2 ^ (hi - lo + 1) * 2 ^ lo) * 2 ^ (hi - lo + 1) + v % 2 ^ (hi - lo + 1)) by ring,
    Nat.add_mul_div_left _ _ (by positivity), Nat.div_eq_of_lt c, Nat.zero_add, Nat.add_comm, Nat.add_mul_mod_self_right]
  exact Nat.mod_mod _ _

theorem bits_setBits_above (n hi lo v hi' lo' : Nat) (h : lo ≤ hi) (h' : hi < lo') : bits (setBits n hi lo v) hi' lo' = bits n hi' lo' := by
  unfold bits setBits
  have f : (2 : Nat) ^ (hi + 1) = 2 ^ (hi - lo + 1) * 2 ^ lo := by rw [← pow_add]; congr 1; omega
  have b : v % 2 ^ (hi - lo + 1) < 2 ^ (hi - lo + 1) := Nat.mod_lt _ (by positivity)
  have c : n % 2 ^ lo < 2 ^ lo := Nat.mod_lt _ (by positivity)
  have d : v % 2 ^ (hi - lo + 1) * 2 ^ lo + n % 2 ^ lo < 2 ^ (hi + 1) := by rw [f]; exact pack_lt b c
  have g : (2 : Nat) ^ lo' = 2 ^ (hi + 1) * 2 ^ (lo' - (hi + 1)) := by rw [← pow_add]; congr 1; omega
  congr 1
  rw [g, ← Nat.div_div_eq_div_mul, ← Nat.div_div_eq_div_mul]
  congr 1
  rw [show n / 2 ^ (hi + 1) * 2 ^ (hi + 1) + v % 2 ^ (hi - lo + 1) * 2 ^ lo + n % 2 ^ lo
      = (v % 2 ^ (hi - lo + 1) * 2 ^ lo + n % 2 ^ lo) + 2 ^ (hi + 1) * (n / 2 ^ (hi + 1)) by ring,
    Nat.add_mul_div_left _ _ (by positivity), Nat.div_eq_of_lt d, Nat.zero_add]

theorem bits_setBits_below (n hi lo v hi' lo' : Nat) (h : lo' ≤ hi') (h' : hi' < lo) (h2 : lo ≤ hi) :
    bits (setBits n hi lo v) hi' lo' = bits n hi' lo' := by
  have key : ∀ m : Nat, m / 2 ^ lo' % 2 ^ (hi' - lo' + 1) = m % 2 ^ lo / 2 ^ lo' % 2 ^ (hi' - lo' + 1) := by
    intro m
    have e : (2 : Nat) ^ lo = 2 ^ lo' * 2 ^ (lo - lo') := by rw [← pow_add]; congr 1; omega
    have e2 : (2 : Nat) ^ (lo - lo') = 2 ^ (hi' - lo' + 1) * 2 ^ (lo - hi' - 1) := by rw [← pow_add]; congr 1; omega
    rw [e, Nat.mod_mul_right_div_self, e2, Nat.mod_mul_right_mod]
  unfold bits
  rw [key, key n]
  congr 2
  unfold setBits
  have e : (2 : Nat) ^ (hi + 1) = 2 ^ (hi + 1 - lo) * 2 ^ lo := by rw [← pow_add]; congr 1; omega
  rw [e, show n / (2 ^ (hi + 1 - lo) * 2 ^ lo) * (2 ^ (hi + 1 - lo) * 2 ^ lo) + v % 2 ^ (hi - lo + 1) * 2 ^ lo + n % 2 ^ lo
      = n % 2 ^ lo + 2 ^ lo * (n / (2 ^ (hi + 1 - lo) * 2 ^ lo) * 2 ^ (hi + 1 - lo) + v % 2 ^ (hi - lo + 1)) by ring,
    Nat.add_mul_mod_self_left, Nat.mod_mod]

/-- A field reads what was written to it. -/
theorem Dev.g_s_same (d : Dev) (f : RF) (v : Nat) (h : f.lo ≤ f.hi) (h31 : f.hi ≤ 31) : (d.s f v).g f = v % 2 ^ (f.hi - f.lo + 1) := by
  unfold Dev.g Dev.s
  rw [Dev.word_setWord_same, Nat.mod_eq_of_lt (setBits_lt (d.word_lt _) h h31), bits_setBits_same _ _ _ _ h]

/-- A field of another register reads as before. -/
theorem Dev.g_s_other (d : Dev) (f r : RF) (v : Nat) (h : r.key ≠ f.key) : (d.s f v).g r = d.g r := by
  unfold Dev.g Dev.s
  rw [Dev.word_setWord_other d _ h]

/-- A field above or below the one written reads as before. -/
theorem Dev.g_s_beside (d : Dev) (f r : RF) (v : Nat) (h : f.lo ≤ f.hi) (h31 : f.hi ≤ 31) (hr : r.lo ≤ r.hi)
    (b : f.hi < r.lo ∨ r.hi < f.lo) : (d.s f v).g r = d.g r := by
  by_cases e : r.key = f.key
  · unfold Dev.g Dev.s
    rw [e, Dev.word_setWord_same, Nat.mod_eq_of_lt (setBits_lt (d.word_lt _) h h31)]
    rcases b with b | b
    · exact bits_setBits_above _ _ _ _ _ _ h b
    · exact bits_setBits_below _ _ _ _ _ _ hr b h
  · exact d.g_s_other f r v e

/-- A register that a field does not belong to keeps its word. -/
theorem Dev.word_s_other (d : Dev) (f : RF) {k : Nat} (v : Nat) (h : k ≠ f.key) : (d.s f v).word k = d.word k :=
  Dev.word_setWord_other d _ h

/-- A field that holds a value that is not 0 is set. -/
theorem Dev.on_iff (d : Dev) (f : RF) : d.on f = true ↔ d.g f ≠ 0 := by simp [Dev.on]

/-! ## Memories -/

theorem Dev.byte_setByte_same (d : Dev) (k v : Nat) : (d.setByte k v).byte k = v % 256 := by
  simp [Dev.byte, Dev.setByte, storeGet_set_same]

theorem Dev.byte_setByte_other (d : Dev) {k j : Nat} (v : Nat) (h : j ≠ k) : (d.setByte k v).byte j = d.byte j := by
  simp [Dev.byte, Dev.setByte, storeGet_set_other _ _ _ h]

/-- A byte outside the bytes written reads as before. -/
theorem Dev.byte_setBytes_outside (d : Dev) (k j : Nat) (l : List Nat) (h : j < k ∨ k + l.length ≤ j) :
    (d.setBytes k l).byte j = d.byte j := by
  induction l generalizing d k with
  | nil => rfl
  | cons b t ih =>
    simp only [List.length_cons] at h
    rw [Dev.setBytes, ih _ _ (by omega), Dev.byte_setByte_other _ _ (by omega)]

/-- A byte written reads as written. -/
theorem Dev.byte_setBytes_inside (d : Dev) (k i : Nat) (l : List Nat) (h : i < l.length) :
    (d.setBytes k l).byte (k + i) = l.getD i 0 % 256 := by
  induction l generalizing d k i with
  | nil => simp at h
  | cons b t ih =>
    rw [Dev.setBytes]
    cases i with
    | zero =>
      rw [Dev.byte_setBytes_outside _ _ _ _ (by omega)]
      simpa using d.byte_setByte_same k b
    | succ i =>
      have := ih (d.setByte k b) (k + 1) i (by simpa using h)
      rw [show k + (i + 1) = k + 1 + i by omega, this]
      simp

theorem Dev.setByte_wf (d : Dev) (k v : Nat) (h : Memory.wf d.mem) : Memory.wf (d.setByte k v).mem := storeSet_wf _ _ _ h

theorem Dev.setBytes_wf (d : Dev) (k : Nat) (l : List Nat) (h : Memory.wf d.mem) : Memory.wf (d.setBytes k l).mem := by
  induction l generalizing d k with
  | nil => exact h
  | cons b t ih => exact ih _ _ (d.setByte_wf k b h)

theorem Dev.setMem32_wf (d : Dev) (k v : Nat) (h : Memory.wf d.mem) : Memory.wf (d.setMem32 k v).mem := d.setBytes_wf _ _ h

theorem Dev.setWord_wf (d : Dev) (k v : Nat) (h : storeWf regReset d.regs = true) : storeWf regReset (d.setWord k v).regs = true :=
  storeSet_wf _ _ _ h

theorem Dev.setPm_wf (d : Dev) (e a v : Nat) (h : storeWf (fun _ => 0) d.ce.pm = true) :
    storeWf (fun _ => 0) (d.setPm e a v).ce.pm = true := storeSet_wf _ _ _ h

theorem Dev.setDm_wf (d : Dev) (e a v : Nat) (h : storeWf (fun _ => 0) d.ce.dm = true) :
    storeWf (fun _ => 0) (d.setDm e a v).ce.dm = true := storeSet_wf _ _ _ h

/-- A data word written reads as written. -/
theorem Dev.dmWord_setDm_same (d : Dev) (e a v : Nat) : (d.setDm e a v).dmWord e a = v % 2 ^ 24 := by
  simp [Dev.dmWord, Dev.setDm, storeGet_set_same]

/-- Another data word reads as before. -/
theorem Dev.dmWord_setDm_other (d : Dev) (e a v e' a' : Nat) (h : e' * 32768 + a' % 32768 ≠ e * 32768 + a % 32768) :
    (d.setDm e a v).dmWord e' a' = d.dmWord e' a' := by
  simp [Dev.dmWord, Dev.setDm, storeGet_set_other _ _ _ h]

/-- The memories that reset leaves have the canonical form. -/
theorem reset_mem_wf : Memory.wf State.reset.dev.mem := rfl

end Sys2Proof.Machine
end

