-- ==== Sys2Proof/Laws/Units.lean ====
section
/-! SUPPORT. Laws/Units.lean: a unit reads as changed after its update, and every other unit of its kind reads as before. -/

namespace Sys2Proof.Machine

theorem bank_getD {α : Type} (n : Nat) (x : α) (l : List α) (j : Nat) : (bank n x l).getD j x = l.getD j x := by
  unfold bank
  rcases Nat.lt_or_ge j l.length with h | h
  · simp [List.getD, List.getElem?_append_left h]
  · simp only [List.getD, List.getElem?_append_right h, List.getElem?_eq_none h, Option.getD_none, List.getElem?_replicate]
    split <;> rfl

theorem bank_length {α : Type} (n : Nat) (x : α) (l : List α) : n ≤ (bank n x l).length := by simp [bank]; omega

/-- A unit of a bank reads as changed. -/
theorem updBank_getD_same {α : Type} (n : Nat) (x : α) (l : List α) (k : Nat) (f : α → α) (h : k < n) :
    (updBank n x l k f).getD k x = f (l.getD k x) := by
  rw [updBank, updAt_getD_same _ _ _ _ (Nat.lt_of_lt_of_le h (bank_length n x l)), bank_getD]

/-- Another unit of a bank reads as before. -/
theorem updBank_getD_other {α : Type} (n : Nat) (x : α) (l : List α) {k j : Nat} (f : α → α) (h : j ≠ k) :
    (updBank n x l k f).getD j x = l.getD j x := by
  rw [updBank, updAt_getD_other _ _ _ h, bank_getD]

/-- An entry of a bank that is set. -/
theorem bank_set_same {α : Type} (n : Nat) (x : α) (l : List α) (k : Nat) (v : α) (h : k < n) :
    ((bank n x l).set k v).getD k x = v := by
  simp [List.getD, List.getElem?_set_self (Nat.lt_of_lt_of_le h (bank_length n x l))]

/-- Another entry of a bank in which one is set. -/
theorem bank_set_other {α : Type} (n : Nat) (x : α) (l : List α) {k j : Nat} (v : α) (h : j ≠ k) :
    ((bank n x l).set k v).getD j x = l.getD j x := by
  rw [← bank_getD n x l j]
  simp [List.getD, List.getElem?_set_ne (Ne.symm h)]

@[simp] theorem Dev.eng_updEng_same (d : Dev) (k : Nat) (f : Eng → Eng) (h : k < 12) : (d.updEng k f).eng k = f (d.eng k) :=
  updBank_getD_same _ _ _ _ _ h

theorem Dev.eng_updEng_other (d : Dev) {k j : Nat} (f : Eng → Eng) (h : j ≠ k) : (d.updEng k f).eng j = d.eng j :=
  updBank_getD_other _ _ _ _ h

@[simp] theorem Dev.ctx_updCtx_same (d : Dev) (k : Nat) (f : Ctx → Ctx) (h : k < 256) : (d.updCtx k f).ctx k = f (d.ctx k) :=
  updBank_getD_same _ _ _ _ _ h

theorem Dev.ctx_updCtx_other (d : Dev) {k j : Nat} (f : Ctx → Ctx) (h : j ≠ k) : (d.updCtx k f).ctx j = d.ctx j :=
  updBank_getD_other _ _ _ _ h

@[simp] theorem Dev.gen_updGen_same (d : Dev) (k : Nat) (f : Gen → Gen) (h : k < 4) : (d.updGen k f).gen k = f (d.gen k) :=
  updBank_getD_same _ _ _ _ _ h

theorem Dev.gen_updGen_other (d : Dev) {k j : Nat} (f : Gen → Gen) (h : j ≠ k) : (d.updGen k f).gen j = d.gen j :=
  updBank_getD_other _ _ _ _ h

@[simp] theorem Dev.hb_updHb_same (d : Dev) (k : Nat) (f : Hb → Hb) (h : k < 16) : (d.updHb k f).hb k = f (d.hb k) :=
  updBank_getD_same _ _ _ _ _ h

theorem Dev.hb_updHb_other (d : Dev) {k j : Nat} (f : Hb → Hb) (h : j ≠ k) : (d.updHb k f).hb j = d.hb j :=
  updBank_getD_other _ _ _ _ h

@[simp] theorem Dev.cmu_updCmu_same (d : Dev) (k : Nat) (f : Cmu → Cmu) (h : k < 2) : (d.updCmu k f).cmu k = f (d.cmu k) :=
  updBank_getD_same _ _ _ _ _ h

theorem Dev.cmu_updCmu_other (d : Dev) {k j : Nat} (f : Cmu → Cmu) (h : j ≠ k) : (d.updCmu k f).cmu j = d.cmu j :=
  updBank_getD_other _ _ _ _ h

@[simp] theorem Dev.axis_updAxis_same (d : Dev) (k : Nat) (f : Axis → Axis) (h : k < 4) : (d.updAxis k f).axis k = f (d.axis k) :=
  updBank_getD_same _ _ _ _ _ h

theorem Dev.axis_updAxis_other (d : Dev) {k j : Nat} (f : Axis → Axis) (h : j ≠ k) : (d.updAxis k f).axis j = d.axis j :=
  updBank_getD_other _ _ _ _ h

@[simp] theorem Dev.can_updCan_same (d : Dev) (k : Nat) (f : CanCtl → CanCtl) (h : k < 4) : (d.updCan k f).can k = f (d.can k) :=
  updBank_getD_same _ _ _ _ _ h

theorem Dev.can_updCan_other (d : Dev) {k j : Nat} (f : CanCtl → CanCtl) (h : j ≠ k) : (d.updCan k f).can j = d.can j :=
  updBank_getD_other _ _ _ _ h

@[simp] theorem Dev.mon_updMon_same (d : Dev) (k : Nat) (f : DcMon → DcMon) (h : k < 4) : (d.updMon k f).mon k = f (d.mon k) :=
  updBank_getD_same _ _ _ _ _ h

theorem Dev.mon_updMon_other (d : Dev) {k j : Nat} (f : DcMon → DcMon) (h : j ≠ k) : (d.updMon k f).mon j = d.mon j :=
  updBank_getD_other _ _ _ _ h

@[simp] theorem Dev.dch_updDch_same (d : Dev) (k : Nat) (f : DcCh → DcCh) (h : k < 6) : (d.updDch k f).dch k = f (d.dch k) :=
  updBank_getD_same _ _ _ _ _ h

theorem Dev.dch_updDch_other (d : Dev) {k j : Nat} (f : DcCh → DcCh) (h : j ≠ k) : (d.updDch k f).dch j = d.dch j :=
  updBank_getD_other _ _ _ _ h

@[simp] theorem Dev.grp_updGrp_same (d : Dev) (k : Nat) (f : ShGrp → ShGrp) (h : k < 4) : (d.updGrp k f).grp k = f (d.grp k) :=
  updBank_getD_same _ _ _ _ _ h

theorem Dev.grp_updGrp_other (d : Dev) {k j : Nat} (f : ShGrp → ShGrp) (h : j ≠ k) : (d.updGrp k f).grp j = d.grp j :=
  updBank_getD_other _ _ _ _ h

@[simp] theorem Dev.errDom_updErrDom_same (d : Dev) (k : Nat) (f : ErrDom → ErrDom) (h : k < 2) : (d.updErrDom k f).errDom k = f (d.errDom k) :=
  updBank_getD_same _ _ _ _ _ h

theorem Dev.errDom_updErrDom_other (d : Dev) {k j : Nat} (f : ErrDom → ErrDom) (h : j ≠ k) : (d.updErrDom k f).errDom j = d.errDom j :=
  updBank_getD_other _ _ _ _ h

@[simp] theorem Dev.hport_updPort_same (d : Dev) (k : Nat) (f : HostPort → HostPort) (h : k < 3) : (d.updPort k f).hport k = f (d.hport k) :=
  updBank_getD_same _ _ _ _ _ h

theorem Dev.hport_updPort_other (d : Dev) {k j : Nat} (f : HostPort → HostPort) (h : j ≠ k) : (d.updPort k f).hport j = d.hport j :=
  updBank_getD_other _ _ _ _ h

@[simp] theorem Dev.sdIn_updSd_same (d : Dev) (k : Nat) (f : SdIn → SdIn) (h : k < 48) : (d.updSd k f).sdIn k = f (d.sdIn k) :=
  updBank_getD_same _ _ _ _ _ h

theorem Dev.sdIn_updSd_other (d : Dev) {k j : Nat} (f : SdIn → SdIn) (h : j ≠ k) : (d.updSd k f).sdIn j = d.sdIn j :=
  updBank_getD_other _ _ _ _ h

@[simp] theorem Dev.sar_updSar_same (d : Dev) (k : Nat) (f : SarCh → SarCh) (h : k < 40) : (d.updSar k f).sar k = f (d.sar k) :=
  updBank_getD_same _ _ _ _ _ h

theorem Dev.sar_updSar_other (d : Dev) {k j : Nat} (f : SarCh → SarCh) (h : j ≠ k) : (d.updSar k f).sar j = d.sar j :=
  updBank_getD_other _ _ _ _ h

@[simp] theorem Dev.enc_updEnc_same (d : Dev) (k : Nat) (f : Enc → Enc) (h : k < 6) : (d.updEnc k f).enc k = f (d.enc k) :=
  updBank_getD_same _ _ _ _ _ h

theorem Dev.enc_updEnc_other (d : Dev) {k j : Nat} (f : Enc → Enc) (h : j ≠ k) : (d.updEnc k f).enc j = d.enc j :=
  updBank_getD_other _ _ _ _ h

@[simp] theorem Dev.ssi_updSsi_same (d : Dev) (k : Nat) (f : Ssi → Ssi) (h : k < 4) : (d.updSsi k f).ssi k = f (d.ssi k) :=
  updBank_getD_same _ _ _ _ _ h

theorem Dev.ssi_updSsi_other (d : Dev) {k j : Nat} (f : Ssi → Ssi) (h : j ≠ k) : (d.updSsi k f).ssi j = d.ssi j :=
  updBank_getD_other _ _ _ _ h

@[simp] theorem Dev.pch_updPch_same (d : Dev) (k : Nat) (f : PwmCh → PwmCh) (h : k < 6) : (d.updPch k f).pch k = f (d.pch k) :=
  updBank_getD_same _ _ _ _ _ h

theorem Dev.pch_updPch_other (d : Dev) {k j : Nat} (f : PwmCh → PwmCh) (h : j ≠ k) : (d.updPch k f).pch j = d.pch j :=
  updBank_getD_other _ _ _ _ h

@[simp] theorem Dev.stream_updStream_same (d : Dev) (k : Nat) (f : Stream → Stream) (h : k < 32) : (d.updStream k f).stream k = f (d.stream k) :=
  updBank_getD_same _ _ _ _ _ h

theorem Dev.stream_updStream_other (d : Dev) {k j : Nat} (f : Stream → Stream) (h : j ≠ k) : (d.updStream k f).stream j = d.stream j :=
  updBank_getD_other _ _ _ _ h

@[simp] theorem Dev.wheel_updWheel_same (d : Dev) (k : Nat) (f : Wheel → Wheel) (h : k < 16) : (d.updWheel k f).wheel k = f (d.wheel k) :=
  updBank_getD_same _ _ _ _ _ h

theorem Dev.wheel_updWheel_other (d : Dev) {k j : Nat} (f : Wheel → Wheel) (h : j ≠ k) : (d.updWheel k f).wheel j = d.wheel j :=
  updBank_getD_other _ _ _ _ h

@[simp] theorem Dev.safPair_updPair_same (d : Dev) (k : Nat) (f : SafPair → SafPair) (h : k < 6) : (d.updPair k f).safPair k = f (d.safPair k) :=
  updBank_getD_same _ _ _ _ _ h

theorem Dev.safPair_updPair_other (d : Dev) {k j : Nat} (f : SafPair → SafPair) (h : j ≠ k) : (d.updPair k f).safPair j = d.safPair j :=
  updBank_getD_other _ _ _ _ h

@[simp] theorem Dev.conn_updConn_same (d : Dev) (k : Nat) (f : SafConn → SafConn) (h : k < 8) : (d.updConn k f).conn k = f (d.conn k) :=
  updBank_getD_same _ _ _ _ _ h

theorem Dev.conn_updConn_other (d : Dev) {k j : Nat} (f : SafConn → SafConn) (h : j ≠ k) : (d.updConn k f).conn j = d.conn j :=
  updBank_getD_other _ _ _ _ h

/-- A leg reads as changed. -/
theorem Dev.leg_updLeg_same (d : Dev) (n m : Nat) (f : Leg → Leg) (hn : n < 6) (hm : m < 6) :
    (d.updLeg n m f).leg n m = f (d.leg n m) := by
  unfold Dev.leg Dev.updLeg
  rw [d.pch_updPch_same n _ hn]
  exact updBank_getD_same _ _ _ _ _ hm

/-- A leg of another channel reads as before. -/
theorem Dev.leg_updLeg_other (d : Dev) {n m j : Nat} (f : Leg → Leg) (k : Nat) (h : j ≠ n) :
    (d.updLeg n m f).leg j k = d.leg j k := by
  unfold Dev.leg Dev.updLeg
  rw [d.pch_updPch_other _ h]

/-- An NPC phase reads as changed. -/
theorem Dev.phase_updPhase_same (d : Dev) (n p : Nat) (f : Phase → Phase) (hn : n < 6) (hp : p < 3) :
    (d.updPhase n p f).phase n p = f (d.phase n p) := by
  unfold Dev.phase Dev.updPhase
  rw [d.pch_updPch_same n _ hn]
  exact updBank_getD_same _ _ _ _ _ hp

end Sys2Proof.Machine
end

