-- ==== Sys2Proof/Laws/Frame.lean ====
section
/-! SUPPORT. Laws/Frame.lean: what a command's outcome says of it, and how what a device keeps is put together from its updates. -/

namespace Sys2Proof.Machine

/-! ## The three ways a command acts -/

/-- All that `run` can do: a next state with the same queue, changed by the effect where the device is live. -/
theorem State.run_spec (s : State) (f : Dev → Dev) :
    (s.dev.live = true → s.run f = .next { s with dev := f s.dev }) ∧ (s.dev.live = false → s.run f = .next s) := by
  constructor <;> intro h <;> simp [State.run, h]

/-- All that `runNoClk` can do. -/
theorem State.runNoClk_spec (s : State) (f : Dev → Dev) :
    (s.dev.sys.run ≠ .inReset → s.runNoClk f = .next { s with dev := f s.dev }) ∧
      (s.dev.sys.run = .inReset → s.runNoClk f = .next s) := by
  constructor <;> intro h <;> simp [State.runNoClk, h]

/-- A live device is out of reset. -/
theorem Dev.live_out (d : Dev) (h : d.live = true) : d.sys.run ≠ .inReset := by
  simp [Dev.live] at h
  exact h.1

/-! ## What a device keeps -/

variable {d t u : Dev} {fs : List RF} {ps : List Part}

theorem Part.same_refl (p : Part) (d : Dev) : p.same d d := by cases p <;> simp [Part.same]

theorem Part.same_trans {p : Part} (h : p.same d t) (g : p.same t u) : p.same d u := by
  cases p <;> simp_all [Part.same]

theorem Dev.keeps_refl (d : Dev) (fs : List RF) (ps : List Part) : d.keeps d fs ps :=
  ⟨fun _ _ _ => rfl, fun p _ => p.same_refl d⟩

theorem Dev.keeps_trans (h : d.keeps t fs ps) (g : t.keeps u fs ps) : d.keeps u fs ps :=
  ⟨fun r hr ha => (g.1 r hr ha).trans (h.1 r hr ha), fun p hp => Part.same_trans (h.2 p hp) (g.2 p hp)⟩

/-- A write to one of the fields. -/
theorem Dev.keeps_s {f : RF} {v : Nat} (hf : f ∈ fs) (h : f.lo ≤ f.hi) (h31 : f.hi ≤ 31) (k : d.keeps t fs ps) :
    d.keeps (t.s f v) fs ps := by
  refine Dev.keeps_trans k ⟨fun r hr ha => ?_, fun p _ => by cases p <;> first | rfl | exact fun _ => rfl⟩
  rcases ha f hf with e | e
  · exact t.g_s_other f r v e
  · exact t.g_s_beside f r v h h31 hr e

/-- A write of one of the registers as a whole. -/
theorem Dev.keeps_setWord {j v : Nat} (hf : RF.whole j ∈ fs) (k : d.keeps t fs ps) : d.keeps (t.setWord j v) fs ps := by
  refine Dev.keeps_trans k ⟨fun r hr ha => ?_, fun p _ => by cases p <;> first | rfl | exact fun _ => rfl⟩
  rcases ha _ hf with e | e
  · unfold Dev.g
    rw [t.word_setWord_other (k := j) v e]
  · by_cases e2 : r.key = j
    · simp only [RF.whole] at e
      rcases e with e | e
      · unfold Dev.g
        have b : ∀ w : Nat, w < 2 ^ 32 → bits w r.hi r.lo = 0 := fun w hw => by
          unfold bits
          rw [Nat.div_eq_of_lt (Nat.lt_of_lt_of_le hw (Nat.pow_le_pow_right (by decide) (by omega)))]
          exact Nat.zero_mod _
        rw [b _ (Dev.word_lt _ _), b _ (Dev.word_lt _ _)]
      · omega
    · unfold Dev.g
      rw [t.word_setWord_other v e2]

/-- An update of the parts alone. -/
theorem Dev.keeps_parts (hr : u.regs = t.regs) (hp : ∀ p, p ∉ ps → p.same t u) (k : d.keeps t fs ps) : d.keeps u fs ps :=
  Dev.keeps_trans k ⟨fun r _ _ => by unfold Dev.g Dev.word; rw [hr], hp⟩

/-- One more record. -/
theorem Dev.keeps_raise {c : Nat} {l : List Nat} (hm : Part.raised ∈ ps) (k : d.keeps t fs ps) : d.keeps (t.raise c l) fs ps := by
  refine Dev.keeps_parts (t := t) rfl (fun p hp => ?_) k
  cases p <;> first | rfl | exact fun _ => rfl | exact absurd hm hp

/-- One more record of the island. -/
theorem Dev.keeps_raiseSaf {c : Nat} {l : List Nat} (hm : Part.raised ∈ ps) (k : d.keeps t fs ps) :
    d.keeps (t.raiseSaf c l) fs ps := by
  refine Dev.keeps_parts (t := t) rfl (fun p hp => ?_) k
  cases p <;> first | rfl | exact fun _ => rfl | exact absurd hm hp

/-- A free value taken. -/
theorem Dev.keeps_tookFree (hm : Part.free ∈ ps) (k : d.keeps t fs ps) : d.keeps t.tookFree fs ps := by
  refine Dev.keeps_parts (t := t) rfl (fun p hp => ?_) k
  cases p <;> first | rfl | exact fun _ => rfl | exact absurd hm hp

/-- A list of updates, each of which keeps. -/
theorem Dev.keeps_each {α : Type} (l : List α) (f : Dev → α → Dev) (hf : ∀ (x : Dev) a, a ∈ l → x.keeps (f x a) fs ps)
    (k : d.keeps t fs ps) : d.keeps (t.each l f) fs ps := by
  unfold Dev.each
  induction l generalizing t with
  | nil => exact k
  | cons a m ih =>
    exact ih (fun x b hb => hf x b (List.mem_cons_of_mem _ hb)) (Dev.keeps_trans k (hf t a List.mem_cons_self))

/-- A conditional update that keeps. -/
theorem Dev.keeps_when {c : Bool} {f : Dev → Dev} (hf : ∀ x : Dev, x.keeps (f x) fs ps) (k : d.keeps t fs ps) :
    d.keeps (t.when c f) fs ps := by
  unfold Dev.when
  split
  · exact Dev.keeps_trans k (hf t)
  · exact k

end Sys2Proof.Machine
end

