-- ==== Sys2Proof/Laws/Memory.lean ====
section
/-! SUPPORT. Laws/Memory.lean: the flash and LPDDR4 operations keep the canonical form of memory, and what they read as. -/

namespace Sys2Proof.Machine

/-- Erasing drops entries, so the form holds. -/
theorem Dev.flashErase_wf (d : Dev) (ofs len : Nat) (h : Memory.wf d.mem) : Memory.wf (d.flashErase ofs len).mem := by
  unfold Memory.wf at h ⊢
  rw [storeWf_iff] at h ⊢
  exact ⟨h.1.filter _, fun c hc => h.2 c (List.mem_filter.1 hc).1⟩

theorem Dev.flashProgram_wf (d : Dev) (ofs : Nat) (l : List Nat) (h : Memory.wf d.mem) : Memory.wf (d.flashProgram ofs l).mem := d.setBytes_wf _ _ h

theorem Dev.flashOpen_wf (d : Dev) (ofs len : Nat) (h : Memory.wf d.mem) : Memory.wf (d.flashOpen ofs len).mem := d.setBytes_wf _ _ h

/-- A copied slot's entries lie between those below and those above it, and the whole flash reads 0xFF where nothing is listed. -/
theorem Dev.copySlot_wf (d : Dev) (src dst : Nat) (h : Memory.wf d.mem) : Memory.wf (d.copySlot src dst).mem := by
  unfold Memory.wf at h ⊢
  rw [storeWf_iff] at h ⊢
  obtain ⟨hs, hd⟩ := h
  unfold Dev.copySlot
  simp only
  constructor
  · rw [List.pairwise_append, List.pairwise_append]
    refine ⟨⟨hs.filter _, ?_, ?_⟩, hs.filter _, ?_⟩
    · rw [List.pairwise_map, List.pairwise_filter]
      refine hs.imp_of_mem fun {x y} _ _ hxy hx hy => ?_
      simp only [Bool.and_eq_true, decide_eq_true_eq] at hx hy
      simp only
      omega
    · intro x hx y hy
      obtain ⟨z, hz, rfl⟩ := List.mem_map.1 hy
      have := (List.mem_filter.1 hx).2
      simp only [decide_eq_true_eq] at this
      simp only
      omega
    · intro x hx y hy
      have hb := (List.mem_filter.1 hy).2
      simp only [decide_eq_true_eq] at hb
      rcases List.mem_append.1 hx with hx | hx
      · have := (List.mem_filter.1 hx).2
        simp only [decide_eq_true_eq] at this
        omega
      · obtain ⟨z, hz, rfl⟩ := List.mem_map.1 hx
        have := (List.mem_filter.1 hz).2
        simp only [Bool.and_eq_true, decide_eq_true_eq] at this
        simp only
        omega
  · intro c hc
    rcases List.mem_append.1 hc with hc | hc
    · rcases List.mem_append.1 hc with hc | hc
      · exact hd c (List.mem_filter.1 hc).1
      · obtain ⟨z, hz, rfl⟩ := List.mem_map.1 hc
        have hz2 := (List.mem_filter.1 hz).2
        simp only [Bool.and_eq_true, decide_eq_true_eq] at hz2
        have hz3 := hd z (List.mem_filter.1 hz).1
        have e1 : byteDflt z.1 = 0xFF := by
          unfold byteDflt
          rw [if_pos]
          have := hz2.1
          simp only [flashKey] at this
          omega
        have e2 : byteDflt (z.1 - flashKey (slotOfs src) + flashKey (slotOfs dst)) = 0xFF := by
          unfold byteDflt
          rw [if_pos]
          simp only [flashKey]
          omega
        simp only [e2]
        rw [e1] at hz3
        exact hz3
    · exact hd c (List.mem_filter.1 hc).1

/-- What is left of LPDDR4 after an absence of the clock is listed in order, and nothing is listed that reads as an unlisted byte does. -/
theorem Dev.ddrDecay_wf (d : Dev) (h : Memory.wf d.mem) : Memory.wf d.ddrDecay.mem := by
  unfold Dev.ddrDecay
  simp only
  split
  · exact h
  · unfold Memory.wf at h ⊢
    rw [storeWf_iff] at h ⊢
    obtain ⟨hs, hd⟩ := h
    constructor
    · rw [List.pairwise_filterMap]
      have hz : (d.mem.zipIdx).Pairwise (fun a b => a.1.1 < b.1.1) := by
        have : (d.mem.zipIdx.map Prod.fst).Pairwise (fun c e => c.1 < e.1) := by rw [List.zipIdx_map_fst]; exact hs
        exact (List.pairwise_map (f := Prod.fst) (R := fun (c e : Host.Cell) => c.1 < e.1)).1 this
      refine hz.imp fun {x y} hxy b hb c hc => ?_
      have k : ∀ (x : Host.Cell × Nat) (b : Host.Cell), (if x.1.1 < ddrKey 0 ∨ flashKey 0 ≤ x.1.1 then some x.1
          else (let v : Byte := BitVec.ofNat 8 (Config.freeValue (d.free + 1 + x.2)); if v = byteDflt x.1.1 then none else some (x.1.1, v))) = some b → b.1 = x.1.1 := by
        intro x b hb
        simp only at hb
        split at hb
        · cases hb; rfl
        · split at hb
          · cases hb
          · cases hb; rfl
      rw [k x b hb, k y c hc]
      exact hxy
    · intro c hc
      obtain ⟨x, hx, hb⟩ := List.mem_filterMap.1 hc
      split at hb
      · cases hb
        exact hd _ (List.fst_mem_of_mem_zipIdx hx)
      · split at hb
        · cases hb
        · cases hb
          assumption

end Sys2Proof.Machine
end

