-- ==== Sys2Proof/Laws/PerInstr.lean ====
section
/-! SUPPORT. Laws/PerInstr.lean: the family Shape: what well-formedness gives for each command. -/

/-- Every unsigned operand of a well-formed command is below the number of values of its kind. -/
def Sys2Proof.Laws.Shape.Statement (i : Sys2Proof.Instr) : Prop :=
  i.wf = true → ∀ x ∈ i.operands, x.2 < x.1.limit

/-- A value that is one of its kind is below the kind's number of values. -/
theorem Sys2Proof.Operand.lt_of_ok (k : Sys2Proof.Operand) (v : Nat) (h : k.ok v = true) : v < k.limit := by
  unfold Sys2Proof.Operand.ok at h
  split at h
  · simp only [Bool.and_eq_true, decide_eq_true_eq] at h
    exact h.2
  · simp only [Bool.or_eq_true, beq_iff_eq] at h
    rcases h with (rfl | rfl) | rfl <;> decide
  · exact of_decide_eq_true h

/-- The statement, for any command. -/
theorem Sys2Proof.Laws.Shape.holds (i : Sys2Proof.Instr) : Sys2Proof.Laws.Shape.Statement i := by
  intro h x hx
  simp only [Sys2Proof.Instr.wf, Bool.and_eq_true, List.all_eq_true] at h
  exact x.1.lt_of_ok x.2 (h.1.1.1 x hx)

theorem Sys2Proof.Laws.Shape.registerWrite (core a size v : Nat) : Sys2Proof.Laws.Shape.Statement (.registerWrite core a size v) := Sys2Proof.Laws.Shape.holds _
theorem Sys2Proof.Laws.Shape.irqClaim (core : Nat) : Sys2Proof.Laws.Shape.Statement (.irqClaim core) := Sys2Proof.Laws.Shape.holds _
theorem Sys2Proof.Laws.Shape.irqDone (core src : Nat) : Sys2Proof.Laws.Shape.Statement (.irqDone core src) := Sys2Proof.Laws.Shape.holds _
theorem Sys2Proof.Laws.Shape.d2dFrameReceived (ok : Bool) : Sys2Proof.Laws.Shape.Statement (.d2dFrameReceived ok) := Sys2Proof.Laws.Shape.holds _
theorem Sys2Proof.Laws.Shape.sysD2dLost (dir : Nat) : Sys2Proof.Laws.Shape.Statement (.sysD2dLost dir) := Sys2Proof.Laws.Shape.holds _
theorem Sys2Proof.Laws.Shape.safetyLinkFrame (link si rb : Nat) (ok : Bool) : Sys2Proof.Laws.Shape.Statement (.safetyLinkFrame link si rb ok) := Sys2Proof.Laws.Shape.holds _
theorem Sys2Proof.Laws.Shape.safetyLinkLost (link : Nat) : Sys2Proof.Laws.Shape.Statement (.safetyLinkLost link) := Sys2Proof.Laws.Shape.holds _
theorem Sys2Proof.Laws.Shape.supplyLoss (x : Sys2Proof.Supply) : Sys2Proof.Laws.Shape.Statement (.supplyLoss x) := Sys2Proof.Laws.Shape.holds _
theorem Sys2Proof.Laws.Shape.v24SiLoss : Sys2Proof.Laws.Shape.Statement (.v24SiLoss) := Sys2Proof.Laws.Shape.holds _
theorem Sys2Proof.Laws.Shape.porstNAsserted : Sys2Proof.Laws.Shape.Statement (.porstNAsserted) := Sys2Proof.Laws.Shape.holds _
theorem Sys2Proof.Laws.Shape.rstNAsserted : Sys2Proof.Laws.Shape.Statement (.rstNAsserted) := Sys2Proof.Laws.Shape.holds _
theorem Sys2Proof.Laws.Shape.resetRelease (porst : Bool) (bootMode : Nat) : Sys2Proof.Laws.Shape.Statement (.resetRelease porst bootMode) := Sys2Proof.Laws.Shape.holds _
theorem Sys2Proof.Laws.Shape.warmResetRequest (key : Nat) : Sys2Proof.Laws.Shape.Statement (.warmResetRequest key) := Sys2Proof.Laws.Shape.holds _
theorem Sys2Proof.Laws.Shape.supervisorResetRequest (key : Nat) : Sys2Proof.Laws.Shape.Statement (.supervisorResetRequest key) := Sys2Proof.Laws.Shape.holds _
theorem Sys2Proof.Laws.Shape.ringResetRequest (key : Nat) : Sys2Proof.Laws.Shape.Statement (.ringResetRequest key) := Sys2Proof.Laws.Shape.holds _
theorem Sys2Proof.Laws.Shape.hostPortResetRequest (p : Nat) : Sys2Proof.Laws.Shape.Statement (.hostPortResetRequest p) := Sys2Proof.Laws.Shape.holds _
theorem Sys2Proof.Laws.Shape.islandResetRequest (key : Nat) : Sys2Proof.Laws.Shape.Statement (.islandResetRequest key) := Sys2Proof.Laws.Shape.holds _
theorem Sys2Proof.Laws.Shape.rtLoRead : Sys2Proof.Laws.Shape.Statement (.rtLoRead) := Sys2Proof.Laws.Shape.holds _
theorem Sys2Proof.Laws.Shape.ptpSrcWrite (v : Nat) : Sys2Proof.Laws.Shape.Statement (.ptpSrcWrite v) := Sys2Proof.Laws.Shape.holds _
theorem Sys2Proof.Laws.Shape.rtLockedEntry : Sys2Proof.Laws.Shape.Statement (.rtLockedEntry) := Sys2Proof.Laws.Shape.holds _
theorem Sys2Proof.Laws.Shape.tbRtHoldover : Sys2Proof.Laws.Shape.Statement (.tbRtHoldover) := Sys2Proof.Laws.Shape.holds _
theorem Sys2Proof.Laws.Shape.tbDebugHalt : Sys2Proof.Laws.Shape.Statement (.tbDebugHalt) := Sys2Proof.Laws.Shape.holds _
theorem Sys2Proof.Laws.Shape.tbDebugRelease : Sys2Proof.Laws.Shape.Statement (.tbDebugRelease) := Sys2Proof.Laws.Shape.holds _
theorem Sys2Proof.Laws.Shape.timeBellLaunch : Sys2Proof.Laws.Shape.Statement (.timeBellLaunch) := Sys2Proof.Laws.Shape.holds _
theorem Sys2Proof.Laws.Shape.angleBellLaunch : Sys2Proof.Laws.Shape.Statement (.angleBellLaunch) := Sys2Proof.Laws.Shape.holds _
theorem Sys2Proof.Laws.Shape.bellPost (core v : Nat) : Sys2Proof.Laws.Shape.Statement (.bellPost core v) := Sys2Proof.Laws.Shape.holds _
theorem Sys2Proof.Laws.Shape.bellPostDecision (core : Nat) : Sys2Proof.Laws.Shape.Statement (.bellPostDecision core) := Sys2Proof.Laws.Shape.holds _
theorem Sys2Proof.Laws.Shape.bellCancel (core handle : Nat) : Sys2Proof.Laws.Shape.Statement (.bellCancel core handle) := Sys2Proof.Laws.Shape.holds _
theorem Sys2Proof.Laws.Shape.bellCancelDecision (core : Nat) : Sys2Proof.Laws.Shape.Statement (.bellCancelDecision core) := Sys2Proof.Laws.Shape.holds _
theorem Sys2Proof.Laws.Shape.ringBellReceived (org h w0 w1 w2 w3 w4 : Nat) : Sys2Proof.Laws.Shape.Statement (.ringBellReceived org h w0 w1 w2 w3 w4) := Sys2Proof.Laws.Shape.holds _
theorem Sys2Proof.Laws.Shape.goCtlWrite (v : Nat) : Sys2Proof.Laws.Shape.Statement (.goCtlWrite v) := Sys2Proof.Laws.Shape.holds _
theorem Sys2Proof.Laws.Shape.lgMapWrite (v : Nat) : Sys2Proof.Laws.Shape.Statement (.lgMapWrite v) := Sys2Proof.Laws.Shape.holds _
theorem Sys2Proof.Laws.Shape.wheelStart (n v : Nat) : Sys2Proof.Laws.Shape.Statement (.wheelStart n v) := Sys2Proof.Laws.Shape.holds _
theorem Sys2Proof.Laws.Shape.wheelSourceUpdate (n : Nat) : Sys2Proof.Laws.Shape.Statement (.wheelSourceUpdate n) := Sys2Proof.Laws.Shape.holds _
theorem Sys2Proof.Laws.Shape.tbWheelStale (n : Nat) : Sys2Proof.Laws.Shape.Statement (.tbWheelStale n) := Sys2Proof.Laws.Shape.holds _
theorem Sys2Proof.Laws.Shape.wheelPreset (n v : Nat) : Sys2Proof.Laws.Shape.Statement (.wheelPreset n v) := Sys2Proof.Laws.Shape.holds _
theorem Sys2Proof.Laws.Shape.wheelSpeedSet (n : Nat) (hi : Bool) (v : Nat) : Sys2Proof.Laws.Shape.Statement (.wheelSpeedSet n hi v) := Sys2Proof.Laws.Shape.holds _
theorem Sys2Proof.Laws.Shape.wheelPosRead (n : Nat) : Sys2Proof.Laws.Shape.Statement (.wheelPosRead n) := Sys2Proof.Laws.Shape.holds _
theorem Sys2Proof.Laws.Shape.contextTrigger (c : Nat) : Sys2Proof.Laws.Shape.Statement (.contextTrigger c) := Sys2Proof.Laws.Shape.holds _
theorem Sys2Proof.Laws.Shape.programStart (e : Nat) : Sys2Proof.Laws.Shape.Statement (.programStart e) := Sys2Proof.Laws.Shape.holds _
theorem Sys2Proof.Laws.Shape.resultLands (e : Nat) : Sys2Proof.Laws.Shape.Statement (.resultLands e) := Sys2Proof.Laws.Shape.holds _
theorem Sys2Proof.Laws.Shape.programEnd (e : Nat) : Sys2Proof.Laws.Shape.Statement (.programEnd e) := Sys2Proof.Laws.Shape.holds _
theorem Sys2Proof.Laws.Shape.outputWrite (c : Nat) : Sys2Proof.Laws.Shape.Statement (.outputWrite c) := Sys2Proof.Laws.Shape.holds _
theorem Sys2Proof.Laws.Shape.ceCtxLate (c delay : Nat) : Sys2Proof.Laws.Shape.Statement (.ceCtxLate c delay) := Sys2Proof.Laws.Shape.holds _
theorem Sys2Proof.Laws.Shape.ceLoad (c eng : Nat) : Sys2Proof.Laws.Shape.Statement (.ceLoad c eng) := Sys2Proof.Laws.Shape.holds _
theorem Sys2Proof.Laws.Shape.ceLoadComplete : Sys2Proof.Laws.Shape.Statement (.ceLoadComplete) := Sys2Proof.Laws.Shape.holds _
theorem Sys2Proof.Laws.Shape.ceStart (c : Nat) : Sys2Proof.Laws.Shape.Statement (.ceStart c) := Sys2Proof.Laws.Shape.holds _
theorem Sys2Proof.Laws.Shape.ceStop (c : Nat) : Sys2Proof.Laws.Shape.Statement (.ceStop c) := Sys2Proof.Laws.Shape.holds _
theorem Sys2Proof.Laws.Shape.ceUnload (c : Nat) : Sys2Proof.Laws.Shape.Statement (.ceUnload c) := Sys2Proof.Laws.Shape.holds _
theorem Sys2Proof.Laws.Shape.ceShadow (c : Nat) : Sys2Proof.Laws.Shape.Statement (.ceShadow c) := Sys2Proof.Laws.Shape.holds _
theorem Sys2Proof.Laws.Shape.ceHandover (c : Nat) : Sys2Proof.Laws.Shape.Statement (.ceHandover c) := Sys2Proof.Laws.Shape.holds _
theorem Sys2Proof.Laws.Shape.ceBank (c arg : Nat) : Sys2Proof.Laws.Shape.Statement (.ceBank c arg) := Sys2Proof.Laws.Shape.holds _
theorem Sys2Proof.Laws.Shape.ceClear (c : Nat) : Sys2Proof.Laws.Shape.Statement (.ceClear c) := Sys2Proof.Laws.Shape.holds _
theorem Sys2Proof.Laws.Shape.divsync (c : Nat) : Sys2Proof.Laws.Shape.Statement (.divsync c) := Sys2Proof.Laws.Shape.holds _
theorem Sys2Proof.Laws.Shape.evacuate (eng : Nat) : Sys2Proof.Laws.Shape.Statement (.evacuate eng) := Sys2Proof.Laws.Shape.holds _
theorem Sys2Proof.Laws.Shape.evacuateComplete : Sys2Proof.Laws.Shape.Statement (.evacuateComplete) := Sys2Proof.Laws.Shape.holds _
theorem Sys2Proof.Laws.Shape.resetEng (eng : Nat) : Sys2Proof.Laws.Shape.Statement (.resetEng eng) := Sys2Proof.Laws.Shape.holds _
theorem Sys2Proof.Laws.Shape.resetEngComplete (pass : Bool) : Sys2Proof.Laws.Shape.Statement (.resetEngComplete pass) := Sys2Proof.Laws.Shape.holds _
theorem Sys2Proof.Laws.Shape.engineMemoryWrite (a v : Nat) : Sys2Proof.Laws.Shape.Statement (.engineMemoryWrite a v) := Sys2Proof.Laws.Shape.holds _
theorem Sys2Proof.Laws.Shape.ceEngFault (e src a : Nat) : Sys2Proof.Laws.Shape.Statement (.ceEngFault e src a) := Sys2Proof.Laws.Shape.holds _
theorem Sys2Proof.Laws.Shape.signatureTest (e : Nat) (pass : Bool) : Sys2Proof.Laws.Shape.Statement (.signatureTest e pass) := Sys2Proof.Laws.Shape.holds _
theorem Sys2Proof.Laws.Shape.ceSigStarved (e : Nat) : Sys2Proof.Laws.Shape.Statement (.ceSigStarved e) := Sys2Proof.Laws.Shape.holds _
theorem Sys2Proof.Laws.Shape.migrationProceed (e : Nat) : Sys2Proof.Laws.Shape.Statement (.migrationProceed e) := Sys2Proof.Laws.Shape.holds _
theorem Sys2Proof.Laws.Shape.coldCopyComplete (c : Nat) (ok : Bool) : Sys2Proof.Laws.Shape.Statement (.coldCopyComplete c ok) := Sys2Proof.Laws.Shape.holds _
theorem Sys2Proof.Laws.Shape.ceMigDone : Sys2Proof.Laws.Shape.Statement (.ceMigDone) := Sys2Proof.Laws.Shape.holds _
theorem Sys2Proof.Laws.Shape.engineHalt (e : Nat) : Sys2Proof.Laws.Shape.Statement (.engineHalt e) := Sys2Proof.Laws.Shape.holds _
theorem Sys2Proof.Laws.Shape.engineResume (e : Nat) : Sys2Proof.Laws.Shape.Statement (.engineResume e) := Sys2Proof.Laws.Shape.holds _
theorem Sys2Proof.Laws.Shape.engineSingleStep (e : Nat) : Sys2Proof.Laws.Shape.Statement (.engineSingleStep e) := Sys2Proof.Laws.Shape.holds _
theorem Sys2Proof.Laws.Shape.spcUpdate : Sys2Proof.Laws.Shape.Statement (.spcUpdate) := Sys2Proof.Laws.Shape.holds _
theorem Sys2Proof.Laws.Shape.nop (e p : Nat) : Sys2Proof.Laws.Shape.Statement (.nop e p) := Sys2Proof.Laws.Shape.holds _
theorem Sys2Proof.Laws.Shape.endProgram (e : Nat) : Sys2Proof.Laws.Shape.Statement (.endProgram e) := Sys2Proof.Laws.Shape.holds _
theorem Sys2Proof.Laws.Shape.br (e : Nat) (ofs : Int) : Sys2Proof.Laws.Shape.Statement (.br e ofs) := Sys2Proof.Laws.Shape.holds _
theorem Sys2Proof.Laws.Shape.call (e : Nat) (ofs : Int) : Sys2Proof.Laws.Shape.Statement (.call e ofs) := Sys2Proof.Laws.Shape.holds _
theorem Sys2Proof.Laws.Shape.ret (e : Nat) : Sys2Proof.Laws.Shape.Statement (.ret e) := Sys2Proof.Laws.Shape.holds _
theorem Sys2Proof.Laws.Shape.loop (e count : Nat) (ofs : Int) : Sys2Proof.Laws.Shape.Statement (.loop e count ofs) := Sys2Proof.Laws.Shape.holds _
theorem Sys2Proof.Laws.Shape.clrf (e p m : Nat) : Sys2Proof.Laws.Shape.Statement (.clrf e p m) := Sys2Proof.Laws.Shape.holds _
theorem Sys2Proof.Laws.Shape.rdf (e p gd : Nat) : Sys2Proof.Laws.Shape.Statement (.rdf e p gd) := Sys2Proof.Laws.Shape.holds _
theorem Sys2Proof.Laws.Shape.mov (e p gd ga : Nat) : Sys2Proof.Laws.Shape.Statement (.mov e p gd ga) := Sys2Proof.Laws.Shape.holds _
theorem Sys2Proof.Laws.Shape.movk (e p gd imm : Nat) : Sys2Proof.Laws.Shape.Statement (.movk e p gd imm) := Sys2Proof.Laws.Shape.holds _
theorem Sys2Proof.Laws.Shape.sel (e p cc gd ga gb : Nat) : Sys2Proof.Laws.Shape.Statement (.sel e p cc gd ga gb) := Sys2Proof.Laws.Shape.holds _
theorem Sys2Proof.Laws.Shape.movs (e p gd ad : Nat) (sh : Int) (trunc : Bool) : Sys2Proof.Laws.Shape.Statement (.movs e p gd ad sh trunc) := Sys2Proof.Laws.Shape.holds _
theorem Sys2Proof.Laws.Shape.lda (e p ad ga : Nat) : Sys2Proof.Laws.Shape.Statement (.lda e p ad ga) := Sys2Proof.Laws.Shape.holds _
theorem Sys2Proof.Laws.Shape.clra (e p ad : Nat) : Sys2Proof.Laws.Shape.Statement (.clra e p ad) := Sys2Proof.Laws.Shape.holds _
theorem Sys2Proof.Laws.Shape.adda (e p ad aa ab : Nat) : Sys2Proof.Laws.Shape.Statement (.adda e p ad aa ab) := Sys2Proof.Laws.Shape.holds _
theorem Sys2Proof.Laws.Shape.suba (e p ad aa ab : Nat) : Sys2Proof.Laws.Shape.Statement (.suba e p ad aa ab) := Sys2Proof.Laws.Shape.holds _
theorem Sys2Proof.Laws.Shape.add (e p gd ga gb : Nat) : Sys2Proof.Laws.Shape.Statement (.add e p gd ga gb) := Sys2Proof.Laws.Shape.holds _
theorem Sys2Proof.Laws.Shape.sub (e p gd ga gb : Nat) : Sys2Proof.Laws.Shape.Statement (.sub e p gd ga gb) := Sys2Proof.Laws.Shape.holds _
theorem Sys2Proof.Laws.Shape.neg (e p gd ga : Nat) : Sys2Proof.Laws.Shape.Statement (.neg e p gd ga) := Sys2Proof.Laws.Shape.holds _
theorem Sys2Proof.Laws.Shape.abs (e p gd ga : Nat) : Sys2Proof.Laws.Shape.Statement (.abs e p gd ga) := Sys2Proof.Laws.Shape.holds _
theorem Sys2Proof.Laws.Shape.min (e p gd ga gb : Nat) : Sys2Proof.Laws.Shape.Statement (.min e p gd ga gb) := Sys2Proof.Laws.Shape.holds _
theorem Sys2Proof.Laws.Shape.max (e p gd ga gb : Nat) : Sys2Proof.Laws.Shape.Statement (.max e p gd ga gb) := Sys2Proof.Laws.Shape.holds _
theorem Sys2Proof.Laws.Shape.clmp (e p gd ga gb gc : Nat) : Sys2Proof.Laws.Shape.Statement (.clmp e p gd ga gb gc) := Sys2Proof.Laws.Shape.holds _
theorem Sys2Proof.Laws.Shape.addk (e p gd ga imm : Nat) : Sys2Proof.Laws.Shape.Statement (.addk e p gd ga imm) := Sys2Proof.Laws.Shape.holds _
theorem Sys2Proof.Laws.Shape.cmp (e p ga gb : Nat) : Sys2Proof.Laws.Shape.Statement (.cmp e p ga gb) := Sys2Proof.Laws.Shape.holds _
theorem Sys2Proof.Laws.Shape.cmpk (e p ga imm : Nat) : Sys2Proof.Laws.Shape.Statement (.cmpk e p ga imm) := Sys2Proof.Laws.Shape.holds _
theorem Sys2Proof.Laws.Shape.ash (e p gd ga : Nat) (sh : Int) : Sys2Proof.Laws.Shape.Statement (.ash e p gd ga sh) := Sys2Proof.Laws.Shape.holds _
theorem Sys2Proof.Laws.Shape.hyst (e p gd ga gb : Nat) : Sys2Proof.Laws.Shape.Statement (.hyst e p gd ga gb) := Sys2Proof.Laws.Shape.holds _
theorem Sys2Proof.Laws.Shape.sha (e p ad aa : Nat) (sh : Int) : Sys2Proof.Laws.Shape.Statement (.sha e p ad aa sh) := Sys2Proof.Laws.Shape.holds _
theorem Sys2Proof.Laws.Shape.iadd (e p gd ga gb : Nat) : Sys2Proof.Laws.Shape.Statement (.iadd e p gd ga gb) := Sys2Proof.Laws.Shape.holds _
theorem Sys2Proof.Laws.Shape.isub (e p gd ga gb : Nat) : Sys2Proof.Laws.Shape.Statement (.isub e p gd ga gb) := Sys2Proof.Laws.Shape.holds _
theorem Sys2Proof.Laws.Shape.iaddk (e p gd ga imm : Nat) : Sys2Proof.Laws.Shape.Statement (.iaddk e p gd ga imm) := Sys2Proof.Laws.Shape.holds _
theorem Sys2Proof.Laws.Shape.andBits (e p gd ga gb : Nat) : Sys2Proof.Laws.Shape.Statement (.andBits e p gd ga gb) := Sys2Proof.Laws.Shape.holds _
theorem Sys2Proof.Laws.Shape.orBits (e p gd ga gb : Nat) : Sys2Proof.Laws.Shape.Statement (.orBits e p gd ga gb) := Sys2Proof.Laws.Shape.holds _
theorem Sys2Proof.Laws.Shape.xorBits (e p gd ga gb : Nat) : Sys2Proof.Laws.Shape.Statement (.xorBits e p gd ga gb) := Sys2Proof.Laws.Shape.holds _
theorem Sys2Proof.Laws.Shape.andk (e p gd ga imm : Nat) : Sys2Proof.Laws.Shape.Statement (.andk e p gd ga imm) := Sys2Proof.Laws.Shape.holds _
theorem Sys2Proof.Laws.Shape.lsh (e p gd ga : Nat) (sh : Int) : Sys2Proof.Laws.Shape.Statement (.lsh e p gd ga sh) := Sys2Proof.Laws.Shape.holds _
theorem Sys2Proof.Laws.Shape.mpy (e p ad ga gb : Nat) (q : Bool) : Sys2Proof.Laws.Shape.Statement (.mpy e p ad ga gb q) := Sys2Proof.Laws.Shape.holds _
theorem Sys2Proof.Laws.Shape.mac (e p ad ga gb : Nat) (q : Bool) : Sys2Proof.Laws.Shape.Statement (.mac e p ad ga gb q) := Sys2Proof.Laws.Shape.holds _
theorem Sys2Proof.Laws.Shape.msu (e p ad ga gb : Nat) (q : Bool) : Sys2Proof.Laws.Shape.Statement (.msu e p ad ga gb q) := Sys2Proof.Laws.Shape.holds _
theorem Sys2Proof.Laws.Shape.dmac (e p ad ga gb ae gc gf : Nat) (q : Bool) : Sys2Proof.Laws.Shape.Statement (.dmac e p ad ga gb ae gc gf q) := Sys2Proof.Laws.Shape.holds _
theorem Sys2Proof.Laws.Shape.mpyx (e p ad ga xn : Nat) (pm : Bool) (disp : Int) (q : Bool) : Sys2Proof.Laws.Shape.Statement (.mpyx e p ad ga xn pm disp q) := Sys2Proof.Laws.Shape.holds _
theorem Sys2Proof.Laws.Shape.macx (e p ad ga xn : Nat) (pm : Bool) (disp : Int) (q : Bool) : Sys2Proof.Laws.Shape.Statement (.macx e p ad ga xn pm disp q) := Sys2Proof.Laws.Shape.holds _
theorem Sys2Proof.Laws.Shape.msux (e p ad ga xn : Nat) (pm : Bool) (disp : Int) (q : Bool) : Sys2Proof.Laws.Shape.Statement (.msux e p ad ga xn pm disp q) := Sys2Proof.Laws.Shape.holds _
theorem Sys2Proof.Laws.Shape.dmacx (e p ad ga x1 : Nat) (s1 : Int) (ae gb x2 : Nat) (s2 : Int) (q : Bool) : Sys2Proof.Laws.Shape.Statement (.dmacx e p ad ga x1 s1 ae gb x2 s2 q) := Sys2Proof.Laws.Shape.holds _
theorem Sys2Proof.Laws.Shape.muli (e p gd ga gb : Nat) : Sys2Proof.Laws.Shape.Statement (.muli e p gd ga gb) := Sys2Proof.Laws.Shape.holds _
theorem Sys2Proof.Laws.Shape.sincos (e p gd ga : Nat) : Sys2Proof.Laws.Shape.Statement (.sincos e p gd ga) := Sys2Proof.Laws.Shape.holds _
theorem Sys2Proof.Laws.Shape.rot (e p gd ga gb gc : Nat) (inv : Bool) : Sys2Proof.Laws.Shape.Statement (.rot e p gd ga gb gc inv) := Sys2Proof.Laws.Shape.holds _
theorem Sys2Proof.Laws.Shape.recip (e p gd ga k : Nat) : Sys2Proof.Laws.Shape.Statement (.recip e p gd ga k) := Sys2Proof.Laws.Shape.holds _
theorem Sys2Proof.Laws.Shape.rsqrt (e p gd ga k : Nat) : Sys2Proof.Laws.Shape.Statement (.rsqrt e p gd ga k) := Sys2Proof.Laws.Shape.holds _
theorem Sys2Proof.Laws.Shape.ld (e p gd xn : Nat) (pm : Bool) (disp : Int) : Sys2Proof.Laws.Shape.Statement (.ld e p gd xn pm disp) := Sys2Proof.Laws.Shape.holds _
theorem Sys2Proof.Laws.Shape.st (e p ga xn : Nat) (pm : Bool) (disp : Int) : Sys2Proof.Laws.Shape.Statement (.st e p ga xn pm disp) := Sys2Proof.Laws.Shape.holds _
theorem Sys2Proof.Laws.Shape.ldx (e p xd imm : Nat) : Sys2Proof.Laws.Shape.Statement (.ldx e p xd imm) := Sys2Proof.Laws.Shape.holds _
theorem Sys2Proof.Laws.Shape.movx (e p xd ga : Nat) : Sys2Proof.Laws.Shape.Statement (.movx e p xd ga) := Sys2Proof.Laws.Shape.holds _
theorem Sys2Proof.Laws.Shape.addx (e p xd xa imm : Nat) : Sys2Proof.Laws.Shape.Statement (.addx e p xd xa imm) := Sys2Proof.Laws.Shape.holds _
theorem Sys2Proof.Laws.Shape.movm (e p mn imm : Nat) : Sys2Proof.Laws.Shape.Statement (.movm e p mn imm) := Sys2Proof.Laws.Shape.holds _
theorem Sys2Proof.Laws.Shape.inPort (e p gd port : Nat) : Sys2Proof.Laws.Shape.Statement (.inPort e p gd port) := Sys2Proof.Laws.Shape.holds _
theorem Sys2Proof.Laws.Shape.outPort (e p port ga : Nat) : Sys2Proof.Laws.Shape.Statement (.outPort e p port ga) := Sys2Proof.Laws.Shape.holds _
theorem Sys2Proof.Laws.Shape.rdsh (e p gd node word : Nat) : Sys2Proof.Laws.Shape.Statement (.rdsh e p gd node word) := Sys2Proof.Laws.Shape.holds _
theorem Sys2Proof.Laws.Shape.dmpyx (e p ad ga x1 : Nat) (s1 : Int) (ae gb x2 : Nat) (s2 : Int) (q : Bool) : Sys2Proof.Laws.Shape.Statement (.dmpyx e p ad ga x1 s1 ae gb x2 s2 q) := Sys2Proof.Laws.Shape.holds _
theorem Sys2Proof.Laws.Shape.periodBoundary (n : Nat) : Sys2Proof.Laws.Shape.Statement (.periodBoundary n) := Sys2Proof.Laws.Shape.holds _
theorem Sys2Proof.Laws.Shape.chCommit (n : Nat) : Sys2Proof.Laws.Shape.Statement (.chCommit n) := Sys2Proof.Laws.Shape.holds _
theorem Sys2Proof.Laws.Shape.chArm (n : Nat) : Sys2Proof.Laws.Shape.Statement (.chArm n) := Sys2Proof.Laws.Shape.holds _
theorem Sys2Proof.Laws.Shape.triggerCompareFire (n k : Nat) : Sys2Proof.Laws.Shape.Statement (.triggerCompareFire n k) := Sys2Proof.Laws.Shape.holds _
theorem Sys2Proof.Laws.Shape.compareMatch (n m : Nat) (low : Bool) : Sys2Proof.Laws.Shape.Statement (.compareMatch n m low) := Sys2Proof.Laws.Shape.holds _
theorem Sys2Proof.Laws.Shape.deadTimeElapsed (n m : Nat) (high : Bool) : Sys2Proof.Laws.Shape.Statement (.deadTimeElapsed n m high) := Sys2Proof.Laws.Shape.holds _
theorem Sys2Proof.Laws.Shape.hrCalibration (n trim : Nat) (atEnd : Bool) : Sys2Proof.Laws.Shape.Statement (.hrCalibration n trim atEnd) := Sys2Proof.Laws.Shape.holds _
theorem Sys2Proof.Laws.Shape.patternCheck (n tbl : Nat) : Sys2Proof.Laws.Shape.Statement (.patternCheck n tbl) := Sys2Proof.Laws.Shape.holds _
theorem Sys2Proof.Laws.Shape.patternCheckDone (n : Nat) : Sys2Proof.Laws.Shape.Statement (.patternCheckDone n) := Sys2Proof.Laws.Shape.holds _
theorem Sys2Proof.Laws.Shape.patternMemoryWrite (n i v : Nat) : Sys2Proof.Laws.Shape.Statement (.patternMemoryWrite n i v) := Sys2Proof.Laws.Shape.holds _
theorem Sys2Proof.Laws.Shape.patternEntry (n : Nat) : Sys2Proof.Laws.Shape.Statement (.patternEntry n) := Sys2Proof.Laws.Shape.holds _
theorem Sys2Proof.Laws.Shape.modeSwitch (n : Nat) : Sys2Proof.Laws.Shape.Statement (.modeSwitch n) := Sys2Proof.Laws.Shape.holds _
theorem Sys2Proof.Laws.Shape.syncWindowExit (n : Nat) : Sys2Proof.Laws.Shape.Statement (.syncWindowExit n) := Sys2Proof.Laws.Shape.holds _
theorem Sys2Proof.Laws.Shape.tripSourceQualified (src : Nat) (active : Bool) : Sys2Proof.Laws.Shape.Statement (.tripSourceQualified src active) := Sys2Proof.Laws.Shape.holds _
theorem Sys2Proof.Laws.Shape.npcStageExpiry (n p : Nat) : Sys2Proof.Laws.Shape.Statement (.npcStageExpiry n p) := Sys2Proof.Laws.Shape.holds _
theorem Sys2Proof.Laws.Shape.fclkLoss : Sys2Proof.Laws.Shape.Statement (.fclkLoss) := Sys2Proof.Laws.Shape.holds _
theorem Sys2Proof.Laws.Shape.fclkReturn (ns : Nat) : Sys2Proof.Laws.Shape.Statement (.fclkReturn ns) := Sys2Proof.Laws.Shape.holds _
theorem Sys2Proof.Laws.Shape.trpClr (v : Nat) : Sys2Proof.Laws.Shape.Statement (.trpClr v) := Sys2Proof.Laws.Shape.holds _
theorem Sys2Proof.Laws.Shape.sdComparatorActive (i : Nat) (active : Bool) : Sys2Proof.Laws.Shape.Statement (.sdComparatorActive i active) := Sys2Proof.Laws.Shape.holds _
theorem Sys2Proof.Laws.Shape.meaSdStuck (i : Nat) : Sys2Proof.Laws.Shape.Statement (.meaSdStuck i) := Sys2Proof.Laws.Shape.holds _
theorem Sys2Proof.Laws.Shape.sdStuckClear (i : Nat) : Sys2Proof.Laws.Shape.Statement (.sdStuckClear i) := Sys2Proof.Laws.Shape.holds _
theorem Sys2Proof.Laws.Shape.sequenceTrigger (q : Nat) : Sys2Proof.Laws.Shape.Statement (.sequenceTrigger q) := Sys2Proof.Laws.Shape.holds _
theorem Sys2Proof.Laws.Shape.backgroundScanStart : Sys2Proof.Laws.Shape.Statement (.backgroundScanStart) := Sys2Proof.Laws.Shape.holds _
theorem Sys2Proof.Laws.Shape.sarSlotStart (adc t : Nat) : Sys2Proof.Laws.Shape.Statement (.sarSlotStart adc t) := Sys2Proof.Laws.Shape.holds _
theorem Sys2Proof.Laws.Shape.sarConversionDone (adc code : Nat) : Sys2Proof.Laws.Shape.Statement (.sarConversionDone adc code) := Sys2Proof.Laws.Shape.holds _
theorem Sys2Proof.Laws.Shape.resolverConversion (r sn cs : Nat) (neg : Bool) (t : Nat) : Sys2Proof.Laws.Shape.Statement (.resolverConversion r sn cs neg t) := Sys2Proof.Laws.Shape.holds _
theorem Sys2Proof.Laws.Shape.encoderEdge (n : Nat) (a b : Bool) (rt : Nat) : Sys2Proof.Laws.Shape.Statement (.encoderEdge n a b rt) := Sys2Proof.Laws.Shape.holds _
theorem Sys2Proof.Laws.Shape.encoderIndex (n rt : Nat) : Sys2Proof.Laws.Shape.Statement (.encoderIndex n rt) := Sys2Proof.Laws.Shape.holds _
theorem Sys2Proof.Laws.Shape.encoderClr (n v : Nat) : Sys2Proof.Laws.Shape.Statement (.encoderClr n v) := Sys2Proof.Laws.Shape.holds _
theorem Sys2Proof.Laws.Shape.ssiFrameStart (p rt : Nat) : Sys2Proof.Laws.Shape.Statement (.ssiFrameStart p rt) := Sys2Proof.Laws.Shape.holds _
theorem Sys2Proof.Laws.Shape.ssiFrameDone (p word : Nat) (high low : Bool) : Sys2Proof.Laws.Shape.Statement (.ssiFrameDone p word high low) := Sys2Proof.Laws.Shape.holds _
theorem Sys2Proof.Laws.Shape.ssiCfgWrite (p v : Nat) : Sys2Proof.Laws.Shape.Statement (.ssiCfgWrite p v) := Sys2Proof.Laws.Shape.holds _
theorem Sys2Proof.Laws.Shape.pulseInputEdge (q t high : Nat) : Sys2Proof.Laws.Shape.Statement (.pulseInputEdge q t high) := Sys2Proof.Laws.Shape.holds _
theorem Sys2Proof.Laws.Shape.posPlsTimeout (q : Nat) : Sys2Proof.Laws.Shape.Statement (.posPlsTimeout q) := Sys2Proof.Laws.Shape.holds _
theorem Sys2Proof.Laws.Shape.captureEdge (c : Nat) (rising : Bool) (rt : Nat) : Sys2Proof.Laws.Shape.Statement (.captureEdge c rising rt) := Sys2Proof.Laws.Shape.holds _
theorem Sys2Proof.Laws.Shape.capturePop (c : Nat) : Sys2Proof.Laws.Shape.Statement (.capturePop c) := Sys2Proof.Laws.Shape.holds _
theorem Sys2Proof.Laws.Shape.libStart (k : Sys2Proof.LibImage) (c j arg : Nat) : Sys2Proof.Laws.Shape.Statement (.libStart k c j arg) := Sys2Proof.Laws.Shape.holds _
theorem Sys2Proof.Laws.Shape.libStop (k : Sys2Proof.LibImage) (c j arg : Nat) : Sys2Proof.Laws.Shape.Statement (.libStop k c j arg) := Sys2Proof.Laws.Shape.holds _
theorem Sys2Proof.Laws.Shape.libDecide (k : Sys2Proof.LibImage) (c j code : Nat) (e : Sys2Proof.FlyEstimate) : Sys2Proof.Laws.Shape.Statement (.libDecide k c j code e) := Sys2Proof.Laws.Shape.holds _
theorem Sys2Proof.Laws.Shape.libClear (k : Sys2Proof.LibImage) (c j arg : Nat) : Sys2Proof.Laws.Shape.Statement (.libClear k c j arg) := Sys2Proof.Laws.Shape.holds _
theorem Sys2Proof.Laws.Shape.libStatusPoll (k : Sys2Proof.LibImage) (c : Nat) : Sys2Proof.Laws.Shape.Statement (.libStatusPoll k c) := Sys2Proof.Laws.Shape.holds _
theorem Sys2Proof.Laws.Shape.gethomeHandoverPost (n when_ : Nat) : Sys2Proof.Laws.Shape.Statement (.gethomeHandoverPost n when_) := Sys2Proof.Laws.Shape.holds _
theorem Sys2Proof.Laws.Shape.auxCarrierBoundary (c : Nat) : Sys2Proof.Laws.Shape.Statement (.auxCarrierBoundary c) := Sys2Proof.Laws.Shape.holds _
theorem Sys2Proof.Laws.Shape.auxGdUv (mv : Nat) : Sys2Proof.Laws.Shape.Statement (.auxGdUv mv) := Sys2Proof.Laws.Shape.holds _
theorem Sys2Proof.Laws.Shape.bootstrapUvlo (n : Nat) : Sys2Proof.Laws.Shape.Statement (.bootstrapUvlo n) := Sys2Proof.Laws.Shape.holds _
theorem Sys2Proof.Laws.Shape.bootstrapUvRelease (n : Nat) : Sys2Proof.Laws.Shape.Statement (.bootstrapUvRelease n) := Sys2Proof.Laws.Shape.holds _
theorem Sys2Proof.Laws.Shape.currentLimitHit (n : Nat) : Sys2Proof.Laws.Shape.Statement (.currentLimitHit n) := Sys2Proof.Laws.Shape.holds _
theorem Sys2Proof.Laws.Shape.auxOc (n : Nat) : Sys2Proof.Laws.Shape.Statement (.auxOc n) := Sys2Proof.Laws.Shape.holds _
theorem Sys2Proof.Laws.Shape.auxVbrUv (mv : Nat) : Sys2Proof.Laws.Shape.Statement (.auxVbrUv mv) := Sys2Proof.Laws.Shape.holds _
theorem Sys2Proof.Laws.Shape.vbrUvRelease (mv : Nat) : Sys2Proof.Laws.Shape.Statement (.vbrUvRelease mv) := Sys2Proof.Laws.Shape.holds _
theorem Sys2Proof.Laws.Shape.auxVbrOv (mv : Nat) : Sys2Proof.Laws.Shape.Statement (.auxVbrOv mv) := Sys2Proof.Laws.Shape.holds _
theorem Sys2Proof.Laws.Shape.auxEnLow : Sys2Proof.Laws.Shape.Statement (.auxEnLow) := Sys2Proof.Laws.Shape.holds _
theorem Sys2Proof.Laws.Shape.auxEnClear : Sys2Proof.Laws.Shape.Statement (.auxEnClear) := Sys2Proof.Laws.Shape.holds _
theorem Sys2Proof.Laws.Shape.leakTestStart (n side tTest : Nat) : Sys2Proof.Laws.Shape.Statement (.leakTestStart n side tTest) := Sys2Proof.Laws.Shape.holds _
theorem Sys2Proof.Laws.Shape.leakTestDone (n rise : Nat) (opened : Bool) : Sys2Proof.Laws.Shape.Statement (.leakTestDone n rise opened) := Sys2Proof.Laws.Shape.holds _
theorem Sys2Proof.Laws.Shape.zeroCrossing (k t code : Nat) : Sys2Proof.Laws.Shape.Statement (.zeroCrossing k t code) := Sys2Proof.Laws.Shape.holds _
theorem Sys2Proof.Laws.Shape.commutation (k : Nat) : Sys2Proof.Laws.Shape.Statement (.commutation k) := Sys2Proof.Laws.Shape.holds _
theorem Sys2Proof.Laws.Shape.sectorMiss (k : Nat) : Sys2Proof.Laws.Shape.Statement (.sectorMiss k) := Sys2Proof.Laws.Shape.holds _
theorem Sys2Proof.Laws.Shape.cmuStart (k : Nat) : Sys2Proof.Laws.Shape.Statement (.cmuStart k) := Sys2Proof.Laws.Shape.holds _
theorem Sys2Proof.Laws.Shape.cmuStop (k : Nat) (brk : Bool) : Sys2Proof.Laws.Shape.Statement (.cmuStop k brk) := Sys2Proof.Laws.Shape.holds _
theorem Sys2Proof.Laws.Shape.cmuDecide (k code iovr : Nat) : Sys2Proof.Laws.Shape.Statement (.cmuDecide k code iovr) := Sys2Proof.Laws.Shape.holds _
theorem Sys2Proof.Laws.Shape.cmuClear (k : Nat) : Sys2Proof.Laws.Shape.Statement (.cmuClear k) := Sys2Proof.Laws.Shape.holds _
theorem Sys2Proof.Laws.Shape.senseEnd (k : Nat) : Sys2Proof.Laws.Shape.Statement (.senseEnd k) := Sys2Proof.Laws.Shape.holds _
theorem Sys2Proof.Laws.Shape.brakeEnd (k : Nat) (late : Bool) (peak : Nat) : Sys2Proof.Laws.Shape.Statement (.brakeEnd k late peak) := Sys2Proof.Laws.Shape.holds _
theorem Sys2Proof.Laws.Shape.alignEnd (k : Nat) : Sys2Proof.Laws.Shape.Statement (.alignEnd k) := Sys2Proof.Laws.Shape.holds _
theorem Sys2Proof.Laws.Shape.rampEnd (k : Nat) : Sys2Proof.Laws.Shape.Statement (.rampEnd k) := Sys2Proof.Laws.Shape.holds _
theorem Sys2Proof.Laws.Shape.lockAchieved (k : Nat) : Sys2Proof.Laws.Shape.Statement (.lockAchieved k) := Sys2Proof.Laws.Shape.holds _
theorem Sys2Proof.Laws.Shape.cmuStartFail (k : Nat) : Sys2Proof.Laws.Shape.Statement (.cmuStartFail k) := Sys2Proof.Laws.Shape.holds _
theorem Sys2Proof.Laws.Shape.cmuWaitEnd (k : Nat) : Sys2Proof.Laws.Shape.Statement (.cmuWaitEnd k) := Sys2Proof.Laws.Shape.holds _
theorem Sys2Proof.Laws.Shape.stpEnable (n : Nat) : Sys2Proof.Laws.Shape.Statement (.stpEnable n) := Sys2Proof.Laws.Shape.holds _
theorem Sys2Proof.Laws.Shape.stpDisable (n : Nat) : Sys2Proof.Laws.Shape.Statement (.stpDisable n) := Sys2Proof.Laws.Shape.holds _
theorem Sys2Proof.Laws.Shape.stpStart (n : Nat) : Sys2Proof.Laws.Shape.Statement (.stpStart n) := Sys2Proof.Laws.Shape.holds _
theorem Sys2Proof.Laws.Shape.stpStop (n : Nat) : Sys2Proof.Laws.Shape.Statement (.stpStop n) := Sys2Proof.Laws.Shape.holds _
theorem Sys2Proof.Laws.Shape.stpHome (n : Nat) : Sys2Proof.Laws.Shape.Statement (.stpHome n) := Sys2Proof.Laws.Shape.holds _
theorem Sys2Proof.Laws.Shape.stpClear (n : Nat) : Sys2Proof.Laws.Shape.Statement (.stpClear n) := Sys2Proof.Laws.Shape.holds _
theorem Sys2Proof.Laws.Shape.setPos (n : Nat) : Sys2Proof.Laws.Shape.Statement (.setPos n) := Sys2Proof.Laws.Shape.holds _
theorem Sys2Proof.Laws.Shape.stpHwLimit (n : Nat) (hi : Bool) : Sys2Proof.Laws.Shape.Statement (.stpHwLimit n hi) := Sys2Proof.Laws.Shape.holds _
theorem Sys2Proof.Laws.Shape.homingPhaseEnd (n : Nat) : Sys2Proof.Laws.Shape.Statement (.homingPhaseEnd n) := Sys2Proof.Laws.Shape.holds _
theorem Sys2Proof.Laws.Shape.holdStandby (n : Nat) : Sys2Proof.Laws.Shape.Statement (.holdStandby n) := Sys2Proof.Laws.Shape.holds _
theorem Sys2Proof.Laws.Shape.stpLag (n : Nat) : Sys2Proof.Laws.Shape.Statement (.stpLag n) := Sys2Proof.Laws.Shape.holds _
theorem Sys2Proof.Laws.Shape.dclUpdate : Sys2Proof.Laws.Shape.Statement (.dclUpdate) := Sys2Proof.Laws.Shape.holds _
theorem Sys2Proof.Laws.Shape.dlEnableWrite (m v : Nat) : Sys2Proof.Laws.Shape.Statement (.dlEnableWrite m v) := Sys2Proof.Laws.Shape.holds _
theorem Sys2Proof.Laws.Shape.chopperCommandChange (m : Nat) : Sys2Proof.Laws.Shape.Statement (.chopperCommandChange m) := Sys2Proof.Laws.Shape.holds _
theorem Sys2Proof.Laws.Shape.dclWarn (m : Nat) : Sys2Proof.Laws.Shape.Statement (.dclWarn m) := Sys2Proof.Laws.Shape.holds _
theorem Sys2Proof.Laws.Shape.dcLinkWarnClear (m : Nat) : Sys2Proof.Laws.Shape.Statement (.dcLinkWarnClear m) := Sys2Proof.Laws.Shape.holds _
theorem Sys2Proof.Laws.Shape.dclTrip (m : Nat) : Sys2Proof.Laws.Shape.Statement (.dclTrip m) := Sys2Proof.Laws.Shape.holds _
theorem Sys2Proof.Laws.Shape.dclMeasLost (m : Nat) : Sys2Proof.Laws.Shape.Statement (.dclMeasLost m) := Sys2Proof.Laws.Shape.holds _
theorem Sys2Proof.Laws.Shape.dclChopFail (m src : Nat) : Sys2Proof.Laws.Shape.Statement (.dclChopFail m src) := Sys2Proof.Laws.Shape.holds _
theorem Sys2Proof.Laws.Shape.chopperFallbackExpiry (m : Nat) : Sys2Proof.Laws.Shape.Statement (.chopperFallbackExpiry m) := Sys2Proof.Laws.Shape.holds _
theorem Sys2Proof.Laws.Shape.clearDl (m : Nat) : Sys2Proof.Laws.Shape.Statement (.clearDl m) := Sys2Proof.Laws.Shape.holds _
theorem Sys2Proof.Laws.Shape.decideChop (m code : Nat) : Sys2Proof.Laws.Shape.Statement (.decideChop m code) := Sys2Proof.Laws.Shape.holds _
theorem Sys2Proof.Laws.Shape.acceptPb (mask : Nat) : Sys2Proof.Laws.Shape.Statement (.acceptPb mask) := Sys2Proof.Laws.Shape.holds _
theorem Sys2Proof.Laws.Shape.dclDecideShare (g code : Nat) : Sys2Proof.Laws.Shape.Statement (.dclDecideShare g code) := Sys2Proof.Laws.Shape.holds _
theorem Sys2Proof.Laws.Shape.dclHold (c : Nat) : Sys2Proof.Laws.Shape.Statement (.dclHold c) := Sys2Proof.Laws.Shape.holds _
theorem Sys2Proof.Laws.Shape.clearCh (c : Nat) : Sys2Proof.Laws.Shape.Statement (.clearCh c) := Sys2Proof.Laws.Shape.holds _
theorem Sys2Proof.Laws.Shape.brakeTimeExpiry (c : Nat) : Sys2Proof.Laws.Shape.Statement (.brakeTimeExpiry c) := Sys2Proof.Laws.Shape.holds _
theorem Sys2Proof.Laws.Shape.tripLeadExpiry (c : Nat) : Sys2Proof.Laws.Shape.Statement (.tripLeadExpiry c) := Sys2Proof.Laws.Shape.holds _
theorem Sys2Proof.Laws.Shape.powerBudgetPass : Sys2Proof.Laws.Shape.Statement (.powerBudgetPass) := Sys2Proof.Laws.Shape.holds _
theorem Sys2Proof.Laws.Shape.dclFlr : Sys2Proof.Laws.Shape.Statement (.dclFlr) := Sys2Proof.Laws.Shape.holds _
theorem Sys2Proof.Laws.Shape.flrRelease : Sys2Proof.Laws.Shape.Statement (.flrRelease) := Sys2Proof.Laws.Shape.holds _
theorem Sys2Proof.Laws.Shape.shareSplit (g : Nat) : Sys2Proof.Laws.Shape.Statement (.shareSplit g) := Sys2Proof.Laws.Shape.holds _
theorem Sys2Proof.Laws.Shape.ringCycleStart : Sys2Proof.Laws.Shape.Statement (.ringCycleStart) := Sys2Proof.Laws.Shape.holds _
theorem Sys2Proof.Laws.Shape.crierReceived (dirB wrap ok : Bool) (fine residence : Nat) (payload : List Nat) : Sys2Proof.Laws.Shape.Statement (.crierReceived dirB wrap ok fine residence payload) := Sys2Proof.Laws.Shape.holds _
theorem Sys2Proof.Laws.Shape.shareFrameReceived (src cyc16 : Nat) (ok : Bool) (stat : List Nat) (whls : List (List Nat)) (words : List Nat) : Sys2Proof.Laws.Shape.Statement (.shareFrameReceived src cyc16 ok stat whls words) := Sys2Proof.Laws.Shape.holds _
theorem Sys2Proof.Laws.Shape.shareBufferComplete : Sys2Proof.Laws.Shape.Statement (.shareBufferComplete) := Sys2Proof.Laws.Shape.holds _
theorem Sys2Proof.Laws.Shape.telltaleFrameReceived (src : Nat) (ok : Bool) (f : List Nat) : Sys2Proof.Laws.Shape.Statement (.telltaleFrameReceived src ok f) := Sys2Proof.Laws.Shape.holds _
theorem Sys2Proof.Laws.Shape.bulkFrameReceived (dirB : Bool) (src : Nat) (ok : Bool) (pl : List Nat) : Sys2Proof.Laws.Shape.Statement (.bulkFrameReceived dirB src ok pl) := Sys2Proof.Laws.Shape.holds _
theorem Sys2Proof.Laws.Shape.bulkMessageTimeout (src chan : Nat) : Sys2Proof.Laws.Shape.Statement (.bulkMessageTimeout src chan) := Sys2Proof.Laws.Shape.holds _
theorem Sys2Proof.Laws.Shape.bulkFrameSend : Sys2Proof.Laws.Shape.Statement (.bulkFrameSend) := Sys2Proof.Laws.Shape.holds _
theorem Sys2Proof.Laws.Shape.delayRequest (fine : Nat) : Sys2Proof.Laws.Shape.Statement (.delayRequest fine) := Sys2Proof.Laws.Shape.holds _
theorem Sys2Proof.Laws.Shape.delayFrameReceived (answer ok : Bool) (t1 t2 t3 fine val : Nat) : Sys2Proof.Laws.Shape.Statement (.delayFrameReceived answer ok t1 t2 t3 fine val) := Sys2Proof.Laws.Shape.holds _
theorem Sys2Proof.Laws.Shape.applyPlan : Sys2Proof.Laws.Shape.Statement (.applyPlan) := Sys2Proof.Laws.Shape.holds _
theorem Sys2Proof.Laws.Shape.drgDecideShare (code : Nat) : Sys2Proof.Laws.Shape.Statement (.drgDecideShare code) := Sys2Proof.Laws.Shape.holds _
theorem Sys2Proof.Laws.Shape.drgCntClear : Sys2Proof.Laws.Shape.Statement (.drgCntClear) := Sys2Proof.Laws.Shape.holds _
theorem Sys2Proof.Laws.Shape.join (v : Nat) : Sys2Proof.Laws.Shape.Statement (.join v) := Sys2Proof.Laws.Shape.holds _
theorem Sys2Proof.Laws.Shape.leave : Sys2Proof.Laws.Shape.Statement (.leave) := Sys2Proof.Laws.Shape.holds _
theorem Sys2Proof.Laws.Shape.ringStart : Sys2Proof.Laws.Shape.Statement (.ringStart) := Sys2Proof.Laws.Shape.holds _
theorem Sys2Proof.Laws.Shape.drgMasterLost : Sys2Proof.Laws.Shape.Statement (.drgMasterLost) := Sys2Proof.Laws.Shape.holds _
theorem Sys2Proof.Laws.Shape.drgMasterChange (new : Nat) : Sys2Proof.Laws.Shape.Statement (.drgMasterChange new) := Sys2Proof.Laws.Shape.holds _
theorem Sys2Proof.Laws.Shape.drgWrap (up : Bool) (cause : Nat) : Sys2Proof.Laws.Shape.Statement (.drgWrap up cause) := Sys2Proof.Laws.Shape.holds _
theorem Sys2Proof.Laws.Shape.drgUnwrap (up : Bool) : Sys2Proof.Laws.Shape.Statement (.drgUnwrap up) := Sys2Proof.Laws.Shape.holds _
theorem Sys2Proof.Laws.Shape.safetyTick (diff : Nat) (tap0 tap1 : Int) (tapErr : Nat) (sd : List (List (Nat × Int))) (fclkA fclkB gden : Nat) : Sys2Proof.Laws.Shape.Statement (.safetyTick diff tap0 tap1 tapErr sd fclkA fclkB gden) := Sys2Proof.Laws.Shape.holds _
theorem Sys2Proof.Laws.Shape.islandSelfTestDone (ok : Bool) : Sys2Proof.Laws.Shape.Statement (.islandSelfTestDone ok) := Sys2Proof.Laws.Shape.holds _
theorem Sys2Proof.Laws.Shape.islandWatchdogExpiry : Sys2Proof.Laws.Shape.Statement (.islandWatchdogExpiry) := Sys2Proof.Laws.Shape.holds _
theorem Sys2Proof.Laws.Shape.safDisc (i : Nat) : Sys2Proof.Laws.Shape.Statement (.safDisc i) := Sys2Proof.Laws.Shape.holds _
theorem Sys2Proof.Laws.Shape.outputTestEnd (i : Nat) : Sys2Proof.Laws.Shape.Statement (.outputTestEnd i) := Sys2Proof.Laws.Shape.holds _
theorem Sys2Proof.Laws.Shape.ss1TimerExpiry (n : Nat) : Sys2Proof.Laws.Shape.Statement (.ss1TimerExpiry n) := Sys2Proof.Laws.Shape.holds _
theorem Sys2Proof.Laws.Shape.slsGraceExpiry (n : Nat) : Sys2Proof.Laws.Shape.Statement (.slsGraceExpiry n) := Sys2Proof.Laws.Shape.holds _
theorem Sys2Proof.Laws.Shape.shhBrakeTimeExpiry (n : Nat) : Sys2Proof.Laws.Shape.Statement (.shhBrakeTimeExpiry n) := Sys2Proof.Laws.Shape.holds _
theorem Sys2Proof.Laws.Shape.shhMaxExpiry (n : Nat) : Sys2Proof.Laws.Shape.Statement (.shhMaxExpiry n) := Sys2Proof.Laws.Shape.holds _
theorem Sys2Proof.Laws.Shape.sbtPhaseEnd (n : Nat) : Sys2Proof.Laws.Shape.Statement (.sbtPhaseEnd n) := Sys2Proof.Laws.Shape.holds _
theorem Sys2Proof.Laws.Shape.safSbtDue (n : Nat) : Sys2Proof.Laws.Shape.Statement (.safSbtDue n) := Sys2Proof.Laws.Shape.holds _
theorem Sys2Proof.Laws.Shape.telltaleTransmit (c : Nat) : Sys2Proof.Laws.Shape.Statement (.telltaleTransmit c) := Sys2Proof.Laws.Shape.holds _
theorem Sys2Proof.Laws.Shape.safTtLost (c : Nat) : Sys2Proof.Laws.Shape.Statement (.safTtLost c) := Sys2Proof.Laws.Shape.holds _
theorem Sys2Proof.Laws.Shape.passwordSessionTimeout : Sys2Proof.Laws.Shape.Statement (.passwordSessionTimeout) := Sys2Proof.Laws.Shape.holds _
theorem Sys2Proof.Laws.Shape.passwordLockEnd : Sys2Proof.Laws.Shape.Statement (.passwordLockEnd) := Sys2Proof.Laws.Shape.holds _
theorem Sys2Proof.Laws.Shape.safCmdDataWrite (v : Nat) : Sys2Proof.Laws.Shape.Statement (.safCmdDataWrite v) := Sys2Proof.Laws.Shape.holds _
theorem Sys2Proof.Laws.Shape.go : Sys2Proof.Laws.Shape.Statement (.go) := Sys2Proof.Laws.Shape.holds _
theorem Sys2Proof.Laws.Shape.flush : Sys2Proof.Laws.Shape.Statement (.flush) := Sys2Proof.Laws.Shape.holds _
theorem Sys2Proof.Laws.Shape.enter : Sys2Proof.Laws.Shape.Statement (.enter) := Sys2Proof.Laws.Shape.holds _
theorem Sys2Proof.Laws.Shape.exit : Sys2Proof.Laws.Shape.Statement (.exit) := Sys2Proof.Laws.Shape.holds _
theorem Sys2Proof.Laws.Shape.setPw : Sys2Proof.Laws.Shape.Statement (.setPw) := Sys2Proof.Laws.Shape.holds _
theorem Sys2Proof.Laws.Shape.cfgLoad : Sys2Proof.Laws.Shape.Statement (.cfgLoad) := Sys2Proof.Laws.Shape.holds _
theorem Sys2Proof.Laws.Shape.cfgCheck : Sys2Proof.Laws.Shape.Statement (.cfgCheck) := Sys2Proof.Laws.Shape.holds _
theorem Sys2Proof.Laws.Shape.cfgStart : Sys2Proof.Laws.Shape.Statement (.cfgStart) := Sys2Proof.Laws.Shape.holds _
theorem Sys2Proof.Laws.Shape.activate : Sys2Proof.Laws.Shape.Statement (.activate) := Sys2Proof.Laws.Shape.holds _
theorem Sys2Proof.Laws.Shape.logAck : Sys2Proof.Laws.Shape.Statement (.logAck) := Sys2Proof.Laws.Shape.holds _
theorem Sys2Proof.Laws.Shape.reqSto : Sys2Proof.Laws.Shape.Statement (.reqSto) := Sys2Proof.Laws.Shape.holds _
theorem Sys2Proof.Laws.Shape.relSto : Sys2Proof.Laws.Shape.Statement (.relSto) := Sys2Proof.Laws.Shape.holds _
theorem Sys2Proof.Laws.Shape.islandAck : Sys2Proof.Laws.Shape.Statement (.islandAck) := Sys2Proof.Laws.Shape.holds _
theorem Sys2Proof.Laws.Shape.sbtStart : Sys2Proof.Laws.Shape.Statement (.sbtStart) := Sys2Proof.Laws.Shape.holds _
theorem Sys2Proof.Laws.Shape.ttRx : Sys2Proof.Laws.Shape.Statement (.ttRx) := Sys2Proof.Laws.Shape.holds _
theorem Sys2Proof.Laws.Shape.canInitSet (n : Nat) : Sys2Proof.Laws.Shape.Statement (.canInitSet n) := Sys2Proof.Laws.Shape.holds _
theorem Sys2Proof.Laws.Shape.canInitClear (n : Nat) : Sys2Proof.Laws.Shape.Statement (.canInitClear n) := Sys2Proof.Laws.Shape.holds _
theorem Sys2Proof.Laws.Shape.canBusJoin (n : Nat) : Sys2Proof.Laws.Shape.Statement (.canBusJoin n) := Sys2Proof.Laws.Shape.holds _
theorem Sys2Proof.Laws.Shape.canBusOffRecovery (n : Nat) : Sys2Proof.Laws.Shape.Statement (.canBusOffRecovery n) := Sys2Proof.Laws.Shape.holds _
theorem Sys2Proof.Laws.Shape.canMessageRamWrite (n ofs v : Nat) : Sys2Proof.Laws.Shape.Statement (.canMessageRamWrite n ofs v) := Sys2Proof.Laws.Shape.holds _
theorem Sys2Proof.Laws.Shape.canTxRequest (n k : Nat) : Sys2Proof.Laws.Shape.Statement (.canTxRequest n k) := Sys2Proof.Laws.Shape.holds _
theorem Sys2Proof.Laws.Shape.canTxAbort (n k : Nat) : Sys2Proof.Laws.Shape.Statement (.canTxAbort n k) := Sys2Proof.Laws.Shape.holds _
theorem Sys2Proof.Laws.Shape.canTxComplete (n sof tdcv : Nat) : Sys2Proof.Laws.Shape.Statement (.canTxComplete n sof tdcv) := Sys2Proof.Laws.Shape.holds _
theorem Sys2Proof.Laws.Shape.canFrameReceived (n w0 w1 sof : Nat) (data : List Nat) : Sys2Proof.Laws.Shape.Statement (.canFrameReceived n w0 w1 sof data) := Sys2Proof.Laws.Shape.holds _
theorem Sys2Proof.Laws.Shape.canProtocolError (n kind step : Nat) (tx dataPhase body : Bool) : Sys2Proof.Laws.Shape.Statement (.canProtocolError n kind step tx dataPhase body) := Sys2Proof.Laws.Shape.holds _
theorem Sys2Proof.Laws.Shape.canFifoAck (n k : Nat) : Sys2Proof.Laws.Shape.Statement (.canFifoAck n k) := Sys2Proof.Laws.Shape.holds _
theorem Sys2Proof.Laws.Shape.hpAck (n e k : Nat) : Sys2Proof.Laws.Shape.Statement (.hpAck n e k) := Sys2Proof.Laws.Shape.holds _
theorem Sys2Proof.Laws.Shape.hspiWriteFrame (b : List Nat) : Sys2Proof.Laws.Shape.Statement (.hspiWriteFrame b) := Sys2Proof.Laws.Shape.holds _
theorem Sys2Proof.Laws.Shape.hspiReadFrame (n : Nat) : Sys2Proof.Laws.Shape.Statement (.hspiReadFrame n) := Sys2Proof.Laws.Shape.holds _
theorem Sys2Proof.Laws.Shape.hspiStatus (op : Nat) : Sys2Proof.Laws.Shape.Statement (.hspiStatus op) := Sys2Proof.Laws.Shape.holds _
theorem Sys2Proof.Laws.Shape.ethFrameReceived (p kind addr id ofs : Nat) (more : Bool) (data : List Nat) : Sys2Proof.Laws.Shape.Statement (.ethFrameReceived p kind addr id ofs more data) := Sys2Proof.Laws.Shape.holds _
theorem Sys2Proof.Laws.Shape.ethFragmentTimeout (p id : Nat) : Sys2Proof.Laws.Shape.Statement (.ethFragmentTimeout p id) := Sys2Proof.Laws.Shape.holds _
theorem Sys2Proof.Laws.Shape.hstLinkDown (p : Nat) : Sys2Proof.Laws.Shape.Statement (.hstLinkDown p) := Sys2Proof.Laws.Shape.holds _
theorem Sys2Proof.Laws.Shape.ptpStep (m v : Nat) : Sys2Proof.Laws.Shape.Statement (.ptpStep m v) := Sys2Proof.Laws.Shape.holds _
theorem Sys2Proof.Laws.Shape.ptpSecRead (m : Nat) : Sys2Proof.Laws.Shape.Statement (.ptpSecRead m) := Sys2Proof.Laws.Shape.holds _
theorem Sys2Proof.Laws.Shape.hostFrameReceived (p addr : Nat) (b : List Nat) : Sys2Proof.Laws.Shape.Statement (.hostFrameReceived p addr b) := Sys2Proof.Laws.Shape.holds _
theorem Sys2Proof.Laws.Shape.ping (o tag : Nat) : Sys2Proof.Laws.Shape.Statement (.ping o tag) := Sys2Proof.Laws.Shape.holds _
theorem Sys2Proof.Laws.Shape.hostRead (o tag : Nat) : Sys2Proof.Laws.Shape.Statement (.hostRead o tag) := Sys2Proof.Laws.Shape.holds _
theorem Sys2Proof.Laws.Shape.hostWrite (o tag : Nat) : Sys2Proof.Laws.Shape.Statement (.hostWrite o tag) := Sys2Proof.Laws.Shape.holds _
theorem Sys2Proof.Laws.Shape.subscribe (o tag : Nat) : Sys2Proof.Laws.Shape.Statement (.subscribe o tag) := Sys2Proof.Laws.Shape.holds _
theorem Sys2Proof.Laws.Shape.hostBell (o tag : Nat) : Sys2Proof.Laws.Shape.Statement (.hostBell o tag) := Sys2Proof.Laws.Shape.holds _
theorem Sys2Proof.Laws.Shape.hostBellCancel (o tag : Nat) : Sys2Proof.Laws.Shape.Statement (.hostBellCancel o tag) := Sys2Proof.Laws.Shape.holds _
theorem Sys2Proof.Laws.Shape.hostCe (o tag : Nat) : Sys2Proof.Laws.Shape.Statement (.hostCe o tag) := Sys2Proof.Laws.Shape.holds _
theorem Sys2Proof.Laws.Shape.hostDecide (o tag : Nat) (e : Sys2Proof.FlyEstimate) : Sys2Proof.Laws.Shape.Statement (.hostDecide o tag e) := Sys2Proof.Laws.Shape.holds _
theorem Sys2Proof.Laws.Shape.assistSet (o tag : Nat) : Sys2Proof.Laws.Shape.Statement (.assistSet o tag) := Sys2Proof.Laws.Shape.holds _
theorem Sys2Proof.Laws.Shape.tune (o tag : Nat) : Sys2Proof.Laws.Shape.Statement (.tune o tag) := Sys2Proof.Laws.Shape.holds _
theorem Sys2Proof.Laws.Shape.tuneRunEnd (o tag : Nat) (gains : List (Nat × Nat)) : Sys2Proof.Laws.Shape.Statement (.tuneRunEnd o tag gains) := Sys2Proof.Laws.Shape.holds _
theorem Sys2Proof.Laws.Shape.gethome (o tag : Nat) : Sys2Proof.Laws.Shape.Statement (.gethome o tag) := Sys2Proof.Laws.Shape.holds _
theorem Sys2Proof.Laws.Shape.safety (o tag : Nat) : Sys2Proof.Laws.Shape.Statement (.safety o tag) := Sys2Proof.Laws.Shape.holds _
theorem Sys2Proof.Laws.Shape.errLog (o tag : Nat) : Sys2Proof.Laws.Shape.Statement (.errLog o tag) := Sys2Proof.Laws.Shape.holds _
theorem Sys2Proof.Laws.Shape.hostReset (o tag : Nat) : Sys2Proof.Laws.Shape.Statement (.hostReset o tag) := Sys2Proof.Laws.Shape.holds _
theorem Sys2Proof.Laws.Shape.hostRecStart (o tag : Nat) : Sys2Proof.Laws.Shape.Statement (.hostRecStart o tag) := Sys2Proof.Laws.Shape.holds _
theorem Sys2Proof.Laws.Shape.eventSend : Sys2Proof.Laws.Shape.Statement (.eventSend) := Sys2Proof.Laws.Shape.holds _
theorem Sys2Proof.Laws.Shape.decisionDeadline (f unit : Nat) : Sys2Proof.Laws.Shape.Statement (.decisionDeadline f unit) := Sys2Proof.Laws.Shape.holds _
theorem Sys2Proof.Laws.Shape.faultRestart (kind inst : Nat) : Sys2Proof.Laws.Shape.Statement (.faultRestart kind inst) := Sys2Proof.Laws.Shape.holds _
theorem Sys2Proof.Laws.Shape.errRecordsStored : Sys2Proof.Laws.Shape.Statement (.errRecordsStored) := Sys2Proof.Laws.Shape.holds _
theorem Sys2Proof.Laws.Shape.errClaim (k : Nat) : Sys2Proof.Laws.Shape.Statement (.errClaim k) := Sys2Proof.Laws.Shape.holds _
theorem Sys2Proof.Laws.Shape.errDone (k v : Nat) : Sys2Proof.Laws.Shape.Statement (.errDone k v) := Sys2Proof.Laws.Shape.holds _
theorem Sys2Proof.Laws.Shape.errRaiseGo (core v : Nat) : Sys2Proof.Laws.Shape.Statement (.errRaiseGo core v) := Sys2Proof.Laws.Shape.holds _
theorem Sys2Proof.Laws.Shape.svReadySet : Sys2Proof.Laws.Shape.Statement (.svReadySet) := Sys2Proof.Laws.Shape.holds _
theorem Sys2Proof.Laws.Shape.scrubRead (outcomes : List Nat) : Sys2Proof.Laws.Shape.Statement (.scrubRead outcomes) := Sys2Proof.Laws.Shape.holds _
theorem Sys2Proof.Laws.Shape.ddrTrain : Sys2Proof.Laws.Shape.Statement (.ddrTrain) := Sys2Proof.Laws.Shape.holds _
theorem Sys2Proof.Laws.Shape.ddrTrainDone (ok : Bool) (size step : Nat) : Sys2Proof.Laws.Shape.Statement (.ddrTrainDone ok size step) := Sys2Proof.Laws.Shape.holds _
theorem Sys2Proof.Laws.Shape.ospiErase4k : Sys2Proof.Laws.Shape.Statement (.ospiErase4k) := Sys2Proof.Laws.Shape.holds _
theorem Sys2Proof.Laws.Shape.ospiErase64k : Sys2Proof.Laws.Shape.Statement (.ospiErase64k) := Sys2Proof.Laws.Shape.holds _
theorem Sys2Proof.Laws.Shape.ospiProgram : Sys2Proof.Laws.Shape.Statement (.ospiProgram) := Sys2Proof.Laws.Shape.holds _
theorem Sys2Proof.Laws.Shape.ospiOperationDone (ok : Bool) : Sys2Proof.Laws.Shape.Statement (.ospiOperationDone ok) := Sys2Proof.Laws.Shape.holds _
theorem Sys2Proof.Laws.Shape.recStart (mask : Nat) : Sys2Proof.Laws.Shape.Statement (.recStart mask) := Sys2Proof.Laws.Shape.holds _
theorem Sys2Proof.Laws.Shape.recStop (mask : Nat) : Sys2Proof.Laws.Shape.Statement (.recStop mask) := Sys2Proof.Laws.Shape.holds _
theorem Sys2Proof.Laws.Shape.recRecordTaken (n : Nat) : Sys2Proof.Laws.Shape.Statement (.recRecordTaken n) := Sys2Proof.Laws.Shape.holds _
theorem Sys2Proof.Laws.Shape.updOpen (o tag : Nat) : Sys2Proof.Laws.Shape.Statement (.updOpen o tag) := Sys2Proof.Laws.Shape.holds _
theorem Sys2Proof.Laws.Shape.updBlock (o tag : Nat) : Sys2Proof.Laws.Shape.Statement (.updBlock o tag) := Sys2Proof.Laws.Shape.holds _
theorem Sys2Proof.Laws.Shape.updStatus (o tag : Nat) : Sys2Proof.Laws.Shape.Statement (.updStatus o tag) := Sys2Proof.Laws.Shape.holds _
theorem Sys2Proof.Laws.Shape.updVerify (o tag : Nat) : Sys2Proof.Laws.Shape.Statement (.updVerify o tag) := Sys2Proof.Laws.Shape.holds _
theorem Sys2Proof.Laws.Shape.updActivate (o tag : Nat) : Sys2Proof.Laws.Shape.Statement (.updActivate o tag) := Sys2Proof.Laws.Shape.holds _
theorem Sys2Proof.Laws.Shape.updAbort (o tag : Nat) : Sys2Proof.Laws.Shape.Statement (.updAbort o tag) := Sys2Proof.Laws.Shape.holds _
theorem Sys2Proof.Laws.Shape.imgInfo (o tag : Nat) : Sys2Proof.Laws.Shape.Statement (.imgInfo o tag) := Sys2Proof.Laws.Shape.holds _
theorem Sys2Proof.Laws.Shape.imgLapsed : Sys2Proof.Laws.Shape.Statement (.imgLapsed) := Sys2Proof.Laws.Shape.holds _
theorem Sys2Proof.Laws.Shape.bootDecision : Sys2Proof.Laws.Shape.Statement (.bootDecision) := Sys2Proof.Laws.Shape.holds _
theorem Sys2Proof.Laws.Shape.imageCopyDone (ok : Bool) : Sys2Proof.Laws.Shape.Statement (.imageCopyDone ok) := Sys2Proof.Laws.Shape.holds _
theorem Sys2Proof.Laws.Shape.confirm : Sys2Proof.Laws.Shape.Statement (.confirm) := Sys2Proof.Laws.Shape.holds _
theorem Sys2Proof.Laws.Shape.reject : Sys2Proof.Laws.Shape.Statement (.reject) := Sys2Proof.Laws.Shape.holds _
theorem Sys2Proof.Laws.Shape.tallyWrite (e v : Nat) : Sys2Proof.Laws.Shape.Statement (.tallyWrite e v) := Sys2Proof.Laws.Shape.holds _
theorem Sys2Proof.Laws.Shape.tlyKeyProgram (slot : Nat) : Sys2Proof.Laws.Shape.Statement (.tlyKeyProgram slot) := Sys2Proof.Laws.Shape.holds _
theorem Sys2Proof.Laws.Shape.tlyKeyRevoke (slot : Nat) : Sys2Proof.Laws.Shape.Statement (.tlyKeyRevoke slot) := Sys2Proof.Laws.Shape.holds _
theorem Sys2Proof.Laws.Shape.tallyProgramDone (ok : Bool) : Sys2Proof.Laws.Shape.Statement (.tallyProgramDone ok) := Sys2Proof.Laws.Shape.holds _
theorem Sys2Proof.Laws.Shape.temperatureReading (raws : List Int) (lost : Nat) : Sys2Proof.Laws.Shape.Statement (.temperatureReading raws lost) := Sys2Proof.Laws.Shape.holds _
theorem Sys2Proof.Laws.Shape.thmTinInvalid (n : Nat) : Sys2Proof.Laws.Shape.Statement (.thmTinInvalid n) := Sys2Proof.Laws.Shape.holds _
theorem Sys2Proof.Laws.Shape.deratingUpdate : Sys2Proof.Laws.Shape.Statement (.deratingUpdate) := Sys2Proof.Laws.Shape.holds _
theorem Sys2Proof.Laws.Shape.clearBroken (mask : Nat) : Sys2Proof.Laws.Shape.Statement (.clearBroken mask) := Sys2Proof.Laws.Shape.holds _
theorem Sys2Proof.Laws.Shape.restore (mask : Nat) : Sys2Proof.Laws.Shape.Statement (.restore mask) := Sys2Proof.Laws.Shape.holds _
theorem Sys2Proof.Laws.Shape.sysXtalLost : Sys2Proof.Laws.Shape.Statement (.sysXtalLost) := Sys2Proof.Laws.Shape.holds _
theorem Sys2Proof.Laws.Shape.sysPllUnlock (pll : Nat) : Sys2Proof.Laws.Shape.Statement (.sysPllUnlock pll) := Sys2Proof.Laws.Shape.holds _
theorem Sys2Proof.Laws.Shape.sysFclkFreq (count : Nat) : Sys2Proof.Laws.Shape.Statement (.sysFclkFreq count) := Sys2Proof.Laws.Shape.holds _
theorem Sys2Proof.Laws.Shape.clockCheckGood (check : Nat) : Sys2Proof.Laws.Shape.Statement (.clockCheckGood check) := Sys2Proof.Laws.Shape.holds _
theorem Sys2Proof.Laws.Shape.wdtEnable : Sys2Proof.Laws.Shape.Statement (.wdtEnable) := Sys2Proof.Laws.Shape.holds _
theorem Sys2Proof.Laws.Shape.wdtService (v : Nat) : Sys2Proof.Laws.Shape.Statement (.wdtService v) := Sys2Proof.Laws.Shape.holds _
theorem Sys2Proof.Laws.Shape.sysWdt : Sys2Proof.Laws.Shape.Statement (.sysWdt) := Sys2Proof.Laws.Shape.holds _
theorem Sys2Proof.Laws.Shape.sysLockstep (core : Nat) : Sys2Proof.Laws.Shape.Statement (.sysLockstep core) := Sys2Proof.Laws.Shape.holds _
theorem Sys2Proof.Laws.Shape.sysSvHoldExpired : Sys2Proof.Laws.Shape.Statement (.sysSvHoldExpired) := Sys2Proof.Laws.Shape.holds _
theorem Sys2Proof.Laws.Shape.supplyRestored (x : Sys2Proof.Supply) : Sys2Proof.Laws.Shape.Statement (.supplyRestored x) := Sys2Proof.Laws.Shape.holds _
theorem Sys2Proof.Laws.Shape.sdSamplingEdge (i : Nat) (b : Bool) : Sys2Proof.Laws.Shape.Statement (.sdSamplingEdge i b) := Sys2Proof.Laws.Shape.holds _
theorem Sys2Proof.Laws.Shape.auxCompareMatch (n : Nat) : Sys2Proof.Laws.Shape.Statement (.auxCompareMatch n) := Sys2Proof.Laws.Shape.holds _
theorem Sys2Proof.Laws.Shape.axisStopped (n : Nat) : Sys2Proof.Laws.Shape.Statement (.axisStopped n) := Sys2Proof.Laws.Shape.holds _
theorem Sys2Proof.Laws.Shape.homeInputEdge (n : Nat) (active : Bool) : Sys2Proof.Laws.Shape.Statement (.homeInputEdge n active) := Sys2Proof.Laws.Shape.holds _
theorem Sys2Proof.Laws.Shape.limitInputRelease (n : Nat) (hi : Bool) : Sys2Proof.Laws.Shape.Statement (.limitInputRelease n hi) := Sys2Proof.Laws.Shape.holds _
theorem Sys2Proof.Laws.Shape.openLoopCommutation (k : Nat) : Sys2Proof.Laws.Shape.Statement (.openLoopCommutation k) := Sys2Proof.Laws.Shape.holds _
theorem Sys2Proof.Laws.Shape.ethLinkUp (p : Nat) : Sys2Proof.Laws.Shape.Statement (.ethLinkUp p) := Sys2Proof.Laws.Shape.holds _
end

