-- ==== Sys2Proof/Laws/State.lean ====
section
/-! SUPPORT. Laws/State.lean: what each update of the device leaves as it is, one lemma for each field and each update, each true by
unfolding. -/

namespace Sys2Proof.Machine

set_option Elab.async false

@[simp] theorem Dev.setWord_mem (d : Dev) (k v : Nat) : (d.setWord k v).mem = d.mem := rfl
@[simp] theorem Dev.setWord_tick (d : Dev) (k v : Nat) : (d.setWord k v).tick = d.tick := rfl
@[simp] theorem Dev.setWord_free (d : Dev) (k v : Nat) : (d.setWord k v).free = d.free := rfl
@[simp] theorem Dev.setWord_raised (d : Dev) (k v : Nat) : (d.setWord k v).raised = d.raised := rfl
@[simp] theorem Dev.setWord_errSeq (d : Dev) (k v : Nat) : (d.setWord k v).errSeq = d.errSeq := rfl
@[simp] theorem Dev.setWord_errs (d : Dev) (k v : Nat) : (d.setWord k v).errs = d.errs := rfl
@[simp] theorem Dev.setWord_sys (d : Dev) (k v : Nat) : (d.setWord k v).sys = d.sys := rfl
@[simp] theorem Dev.setWord_therm (d : Dev) (k v : Nat) : (d.setWord k v).therm = d.therm := rfl
@[simp] theorem Dev.setWord_tb (d : Dev) (k v : Nat) : (d.setWord k v).tb = d.tb := rfl
@[simp] theorem Dev.setWord_ce (d : Dev) (k v : Nat) : (d.setWord k v).ce = d.ce := rfl
@[simp] theorem Dev.setWord_pwm (d : Dev) (k v : Nat) : (d.setWord k v).pwm = d.pwm := rfl
@[simp] theorem Dev.setWord_aux (d : Dev) (k v : Nat) : (d.setWord k v).aux = d.aux := rfl
@[simp] theorem Dev.setWord_mea (d : Dev) (k v : Nat) : (d.setWord k v).mea = d.mea := rfl
@[simp] theorem Dev.setWord_dcl (d : Dev) (k v : Nat) : (d.setWord k v).dcl = d.dcl := rfl
@[simp] theorem Dev.setWord_drg (d : Dev) (k v : Nat) : (d.setWord k v).drg = d.drg := rfl
@[simp] theorem Dev.setWord_cans (d : Dev) (k v : Nat) : (d.setWord k v).cans = d.cans := rfl
@[simp] theorem Dev.setWord_saf (d : Dev) (k v : Nat) : (d.setWord k v).saf = d.saf := rfl
@[simp] theorem Dev.setWord_mm (d : Dev) (k v : Nat) : (d.setWord k v).mm = d.mm := rfl
@[simp] theorem Dev.setWord_img (d : Dev) (k v : Nat) : (d.setWord k v).img = d.img := rfl
@[simp] theorem Dev.setWord_tly (d : Dev) (k v : Nat) : (d.setWord k v).tly = d.tly := rfl
@[simp] theorem Dev.setWord_hst (d : Dev) (k v : Nat) : (d.setWord k v).hst = d.hst := rfl
@[simp] theorem Dev.setWord_byte (d : Dev) (k v : Nat) (key : Nat) : (d.setWord k v).byte key = d.byte key := rfl
@[simp] theorem Dev.setWord_live (d : Dev) (k v : Nat) : (d.setWord k v).live = d.live := rfl

@[simp] theorem Dev.s_mem (d : Dev) (f : RF) (v : Nat) : (d.s f v).mem = d.mem := rfl
@[simp] theorem Dev.s_tick (d : Dev) (f : RF) (v : Nat) : (d.s f v).tick = d.tick := rfl
@[simp] theorem Dev.s_free (d : Dev) (f : RF) (v : Nat) : (d.s f v).free = d.free := rfl
@[simp] theorem Dev.s_raised (d : Dev) (f : RF) (v : Nat) : (d.s f v).raised = d.raised := rfl
@[simp] theorem Dev.s_errSeq (d : Dev) (f : RF) (v : Nat) : (d.s f v).errSeq = d.errSeq := rfl
@[simp] theorem Dev.s_errs (d : Dev) (f : RF) (v : Nat) : (d.s f v).errs = d.errs := rfl
@[simp] theorem Dev.s_sys (d : Dev) (f : RF) (v : Nat) : (d.s f v).sys = d.sys := rfl
@[simp] theorem Dev.s_therm (d : Dev) (f : RF) (v : Nat) : (d.s f v).therm = d.therm := rfl
@[simp] theorem Dev.s_tb (d : Dev) (f : RF) (v : Nat) : (d.s f v).tb = d.tb := rfl
@[simp] theorem Dev.s_ce (d : Dev) (f : RF) (v : Nat) : (d.s f v).ce = d.ce := rfl
@[simp] theorem Dev.s_pwm (d : Dev) (f : RF) (v : Nat) : (d.s f v).pwm = d.pwm := rfl
@[simp] theorem Dev.s_aux (d : Dev) (f : RF) (v : Nat) : (d.s f v).aux = d.aux := rfl
@[simp] theorem Dev.s_mea (d : Dev) (f : RF) (v : Nat) : (d.s f v).mea = d.mea := rfl
@[simp] theorem Dev.s_dcl (d : Dev) (f : RF) (v : Nat) : (d.s f v).dcl = d.dcl := rfl
@[simp] theorem Dev.s_drg (d : Dev) (f : RF) (v : Nat) : (d.s f v).drg = d.drg := rfl
@[simp] theorem Dev.s_cans (d : Dev) (f : RF) (v : Nat) : (d.s f v).cans = d.cans := rfl
@[simp] theorem Dev.s_saf (d : Dev) (f : RF) (v : Nat) : (d.s f v).saf = d.saf := rfl
@[simp] theorem Dev.s_mm (d : Dev) (f : RF) (v : Nat) : (d.s f v).mm = d.mm := rfl
@[simp] theorem Dev.s_img (d : Dev) (f : RF) (v : Nat) : (d.s f v).img = d.img := rfl
@[simp] theorem Dev.s_tly (d : Dev) (f : RF) (v : Nat) : (d.s f v).tly = d.tly := rfl
@[simp] theorem Dev.s_hst (d : Dev) (f : RF) (v : Nat) : (d.s f v).hst = d.hst := rfl
@[simp] theorem Dev.s_byte (d : Dev) (f : RF) (v : Nat) (key : Nat) : (d.s f v).byte key = d.byte key := rfl
@[simp] theorem Dev.s_live (d : Dev) (f : RF) (v : Nat) : (d.s f v).live = d.live := rfl

@[simp] theorem Dev.inc_mem (d : Dev) (f : RF) : (d.inc f).mem = d.mem := rfl
@[simp] theorem Dev.inc_tick (d : Dev) (f : RF) : (d.inc f).tick = d.tick := rfl
@[simp] theorem Dev.inc_free (d : Dev) (f : RF) : (d.inc f).free = d.free := rfl
@[simp] theorem Dev.inc_raised (d : Dev) (f : RF) : (d.inc f).raised = d.raised := rfl
@[simp] theorem Dev.inc_errSeq (d : Dev) (f : RF) : (d.inc f).errSeq = d.errSeq := rfl
@[simp] theorem Dev.inc_errs (d : Dev) (f : RF) : (d.inc f).errs = d.errs := rfl
@[simp] theorem Dev.inc_sys (d : Dev) (f : RF) : (d.inc f).sys = d.sys := rfl
@[simp] theorem Dev.inc_therm (d : Dev) (f : RF) : (d.inc f).therm = d.therm := rfl
@[simp] theorem Dev.inc_tb (d : Dev) (f : RF) : (d.inc f).tb = d.tb := rfl
@[simp] theorem Dev.inc_ce (d : Dev) (f : RF) : (d.inc f).ce = d.ce := rfl
@[simp] theorem Dev.inc_pwm (d : Dev) (f : RF) : (d.inc f).pwm = d.pwm := rfl
@[simp] theorem Dev.inc_aux (d : Dev) (f : RF) : (d.inc f).aux = d.aux := rfl
@[simp] theorem Dev.inc_mea (d : Dev) (f : RF) : (d.inc f).mea = d.mea := rfl
@[simp] theorem Dev.inc_dcl (d : Dev) (f : RF) : (d.inc f).dcl = d.dcl := rfl
@[simp] theorem Dev.inc_drg (d : Dev) (f : RF) : (d.inc f).drg = d.drg := rfl
@[simp] theorem Dev.inc_cans (d : Dev) (f : RF) : (d.inc f).cans = d.cans := rfl
@[simp] theorem Dev.inc_saf (d : Dev) (f : RF) : (d.inc f).saf = d.saf := rfl
@[simp] theorem Dev.inc_mm (d : Dev) (f : RF) : (d.inc f).mm = d.mm := rfl
@[simp] theorem Dev.inc_img (d : Dev) (f : RF) : (d.inc f).img = d.img := rfl
@[simp] theorem Dev.inc_tly (d : Dev) (f : RF) : (d.inc f).tly = d.tly := rfl
@[simp] theorem Dev.inc_hst (d : Dev) (f : RF) : (d.inc f).hst = d.hst := rfl
@[simp] theorem Dev.inc_byte (d : Dev) (f : RF) (key : Nat) : (d.inc f).byte key = d.byte key := rfl
@[simp] theorem Dev.inc_live (d : Dev) (f : RF) : (d.inc f).live = d.live := rfl

@[simp] theorem Dev.incWrap_mem (d : Dev) (f : RF) : (d.incWrap f).mem = d.mem := rfl
@[simp] theorem Dev.incWrap_tick (d : Dev) (f : RF) : (d.incWrap f).tick = d.tick := rfl
@[simp] theorem Dev.incWrap_free (d : Dev) (f : RF) : (d.incWrap f).free = d.free := rfl
@[simp] theorem Dev.incWrap_raised (d : Dev) (f : RF) : (d.incWrap f).raised = d.raised := rfl
@[simp] theorem Dev.incWrap_errSeq (d : Dev) (f : RF) : (d.incWrap f).errSeq = d.errSeq := rfl
@[simp] theorem Dev.incWrap_errs (d : Dev) (f : RF) : (d.incWrap f).errs = d.errs := rfl
@[simp] theorem Dev.incWrap_sys (d : Dev) (f : RF) : (d.incWrap f).sys = d.sys := rfl
@[simp] theorem Dev.incWrap_therm (d : Dev) (f : RF) : (d.incWrap f).therm = d.therm := rfl
@[simp] theorem Dev.incWrap_tb (d : Dev) (f : RF) : (d.incWrap f).tb = d.tb := rfl
@[simp] theorem Dev.incWrap_ce (d : Dev) (f : RF) : (d.incWrap f).ce = d.ce := rfl
@[simp] theorem Dev.incWrap_pwm (d : Dev) (f : RF) : (d.incWrap f).pwm = d.pwm := rfl
@[simp] theorem Dev.incWrap_aux (d : Dev) (f : RF) : (d.incWrap f).aux = d.aux := rfl
@[simp] theorem Dev.incWrap_mea (d : Dev) (f : RF) : (d.incWrap f).mea = d.mea := rfl
@[simp] theorem Dev.incWrap_dcl (d : Dev) (f : RF) : (d.incWrap f).dcl = d.dcl := rfl
@[simp] theorem Dev.incWrap_drg (d : Dev) (f : RF) : (d.incWrap f).drg = d.drg := rfl
@[simp] theorem Dev.incWrap_cans (d : Dev) (f : RF) : (d.incWrap f).cans = d.cans := rfl
@[simp] theorem Dev.incWrap_saf (d : Dev) (f : RF) : (d.incWrap f).saf = d.saf := rfl
@[simp] theorem Dev.incWrap_mm (d : Dev) (f : RF) : (d.incWrap f).mm = d.mm := rfl
@[simp] theorem Dev.incWrap_img (d : Dev) (f : RF) : (d.incWrap f).img = d.img := rfl
@[simp] theorem Dev.incWrap_tly (d : Dev) (f : RF) : (d.incWrap f).tly = d.tly := rfl
@[simp] theorem Dev.incWrap_hst (d : Dev) (f : RF) : (d.incWrap f).hst = d.hst := rfl
@[simp] theorem Dev.incWrap_byte (d : Dev) (f : RF) (key : Nat) : (d.incWrap f).byte key = d.byte key := rfl
@[simp] theorem Dev.incWrap_live (d : Dev) (f : RF) : (d.incWrap f).live = d.live := rfl

@[simp] theorem Dev.setByte_regs (d : Dev) (k v : Nat) : (d.setByte k v).regs = d.regs := rfl
@[simp] theorem Dev.setByte_tick (d : Dev) (k v : Nat) : (d.setByte k v).tick = d.tick := rfl
@[simp] theorem Dev.setByte_free (d : Dev) (k v : Nat) : (d.setByte k v).free = d.free := rfl
@[simp] theorem Dev.setByte_raised (d : Dev) (k v : Nat) : (d.setByte k v).raised = d.raised := rfl
@[simp] theorem Dev.setByte_errSeq (d : Dev) (k v : Nat) : (d.setByte k v).errSeq = d.errSeq := rfl
@[simp] theorem Dev.setByte_errs (d : Dev) (k v : Nat) : (d.setByte k v).errs = d.errs := rfl
@[simp] theorem Dev.setByte_sys (d : Dev) (k v : Nat) : (d.setByte k v).sys = d.sys := rfl
@[simp] theorem Dev.setByte_therm (d : Dev) (k v : Nat) : (d.setByte k v).therm = d.therm := rfl
@[simp] theorem Dev.setByte_tb (d : Dev) (k v : Nat) : (d.setByte k v).tb = d.tb := rfl
@[simp] theorem Dev.setByte_ce (d : Dev) (k v : Nat) : (d.setByte k v).ce = d.ce := rfl
@[simp] theorem Dev.setByte_pwm (d : Dev) (k v : Nat) : (d.setByte k v).pwm = d.pwm := rfl
@[simp] theorem Dev.setByte_aux (d : Dev) (k v : Nat) : (d.setByte k v).aux = d.aux := rfl
@[simp] theorem Dev.setByte_mea (d : Dev) (k v : Nat) : (d.setByte k v).mea = d.mea := rfl
@[simp] theorem Dev.setByte_dcl (d : Dev) (k v : Nat) : (d.setByte k v).dcl = d.dcl := rfl
@[simp] theorem Dev.setByte_drg (d : Dev) (k v : Nat) : (d.setByte k v).drg = d.drg := rfl
@[simp] theorem Dev.setByte_cans (d : Dev) (k v : Nat) : (d.setByte k v).cans = d.cans := rfl
@[simp] theorem Dev.setByte_saf (d : Dev) (k v : Nat) : (d.setByte k v).saf = d.saf := rfl
@[simp] theorem Dev.setByte_mm (d : Dev) (k v : Nat) : (d.setByte k v).mm = d.mm := rfl
@[simp] theorem Dev.setByte_img (d : Dev) (k v : Nat) : (d.setByte k v).img = d.img := rfl
@[simp] theorem Dev.setByte_tly (d : Dev) (k v : Nat) : (d.setByte k v).tly = d.tly := rfl
@[simp] theorem Dev.setByte_hst (d : Dev) (k v : Nat) : (d.setByte k v).hst = d.hst := rfl
@[simp] theorem Dev.setByte_word (d : Dev) (k v : Nat) (key : Nat) : (d.setByte k v).word key = d.word key := rfl
@[simp] theorem Dev.setByte_g (d : Dev) (k v : Nat) (r : RF) : (d.setByte k v).g r = d.g r := rfl
@[simp] theorem Dev.setByte_on (d : Dev) (k v : Nat) (r : RF) : (d.setByte k v).on r = d.on r := rfl
@[simp] theorem Dev.setByte_live (d : Dev) (k v : Nat) : (d.setByte k v).live = d.live := rfl

@[simp] theorem Dev.raise_regs (d : Dev) (c : Nat) (x : List Nat) : (d.raise c x).regs = d.regs := rfl
@[simp] theorem Dev.raise_mem (d : Dev) (c : Nat) (x : List Nat) : (d.raise c x).mem = d.mem := rfl
@[simp] theorem Dev.raise_tick (d : Dev) (c : Nat) (x : List Nat) : (d.raise c x).tick = d.tick := rfl
@[simp] theorem Dev.raise_free (d : Dev) (c : Nat) (x : List Nat) : (d.raise c x).free = d.free := rfl
@[simp] theorem Dev.raise_errSeq (d : Dev) (c : Nat) (x : List Nat) : (d.raise c x).errSeq = d.errSeq := rfl
@[simp] theorem Dev.raise_errs (d : Dev) (c : Nat) (x : List Nat) : (d.raise c x).errs = d.errs := rfl
@[simp] theorem Dev.raise_sys (d : Dev) (c : Nat) (x : List Nat) : (d.raise c x).sys = d.sys := rfl
@[simp] theorem Dev.raise_therm (d : Dev) (c : Nat) (x : List Nat) : (d.raise c x).therm = d.therm := rfl
@[simp] theorem Dev.raise_tb (d : Dev) (c : Nat) (x : List Nat) : (d.raise c x).tb = d.tb := rfl
@[simp] theorem Dev.raise_ce (d : Dev) (c : Nat) (x : List Nat) : (d.raise c x).ce = d.ce := rfl
@[simp] theorem Dev.raise_pwm (d : Dev) (c : Nat) (x : List Nat) : (d.raise c x).pwm = d.pwm := rfl
@[simp] theorem Dev.raise_aux (d : Dev) (c : Nat) (x : List Nat) : (d.raise c x).aux = d.aux := rfl
@[simp] theorem Dev.raise_mea (d : Dev) (c : Nat) (x : List Nat) : (d.raise c x).mea = d.mea := rfl
@[simp] theorem Dev.raise_dcl (d : Dev) (c : Nat) (x : List Nat) : (d.raise c x).dcl = d.dcl := rfl
@[simp] theorem Dev.raise_drg (d : Dev) (c : Nat) (x : List Nat) : (d.raise c x).drg = d.drg := rfl
@[simp] theorem Dev.raise_cans (d : Dev) (c : Nat) (x : List Nat) : (d.raise c x).cans = d.cans := rfl
@[simp] theorem Dev.raise_saf (d : Dev) (c : Nat) (x : List Nat) : (d.raise c x).saf = d.saf := rfl
@[simp] theorem Dev.raise_mm (d : Dev) (c : Nat) (x : List Nat) : (d.raise c x).mm = d.mm := rfl
@[simp] theorem Dev.raise_img (d : Dev) (c : Nat) (x : List Nat) : (d.raise c x).img = d.img := rfl
@[simp] theorem Dev.raise_tly (d : Dev) (c : Nat) (x : List Nat) : (d.raise c x).tly = d.tly := rfl
@[simp] theorem Dev.raise_hst (d : Dev) (c : Nat) (x : List Nat) : (d.raise c x).hst = d.hst := rfl
@[simp] theorem Dev.raise_word (d : Dev) (c : Nat) (x : List Nat) (key : Nat) : (d.raise c x).word key = d.word key := rfl
@[simp] theorem Dev.raise_g (d : Dev) (c : Nat) (x : List Nat) (r : RF) : (d.raise c x).g r = d.g r := rfl
@[simp] theorem Dev.raise_on (d : Dev) (c : Nat) (x : List Nat) (r : RF) : (d.raise c x).on r = d.on r := rfl
@[simp] theorem Dev.raise_byte (d : Dev) (c : Nat) (x : List Nat) (key : Nat) : (d.raise c x).byte key = d.byte key := rfl
@[simp] theorem Dev.raise_live (d : Dev) (c : Nat) (x : List Nat) : (d.raise c x).live = d.live := rfl

@[simp] theorem Dev.raiseSaf_regs (d : Dev) (c : Nat) (x : List Nat) : (d.raiseSaf c x).regs = d.regs := rfl
@[simp] theorem Dev.raiseSaf_mem (d : Dev) (c : Nat) (x : List Nat) : (d.raiseSaf c x).mem = d.mem := rfl
@[simp] theorem Dev.raiseSaf_tick (d : Dev) (c : Nat) (x : List Nat) : (d.raiseSaf c x).tick = d.tick := rfl
@[simp] theorem Dev.raiseSaf_free (d : Dev) (c : Nat) (x : List Nat) : (d.raiseSaf c x).free = d.free := rfl
@[simp] theorem Dev.raiseSaf_errSeq (d : Dev) (c : Nat) (x : List Nat) : (d.raiseSaf c x).errSeq = d.errSeq := rfl
@[simp] theorem Dev.raiseSaf_errs (d : Dev) (c : Nat) (x : List Nat) : (d.raiseSaf c x).errs = d.errs := rfl
@[simp] theorem Dev.raiseSaf_sys (d : Dev) (c : Nat) (x : List Nat) : (d.raiseSaf c x).sys = d.sys := rfl
@[simp] theorem Dev.raiseSaf_therm (d : Dev) (c : Nat) (x : List Nat) : (d.raiseSaf c x).therm = d.therm := rfl
@[simp] theorem Dev.raiseSaf_tb (d : Dev) (c : Nat) (x : List Nat) : (d.raiseSaf c x).tb = d.tb := rfl
@[simp] theorem Dev.raiseSaf_ce (d : Dev) (c : Nat) (x : List Nat) : (d.raiseSaf c x).ce = d.ce := rfl
@[simp] theorem Dev.raiseSaf_pwm (d : Dev) (c : Nat) (x : List Nat) : (d.raiseSaf c x).pwm = d.pwm := rfl
@[simp] theorem Dev.raiseSaf_aux (d : Dev) (c : Nat) (x : List Nat) : (d.raiseSaf c x).aux = d.aux := rfl
@[simp] theorem Dev.raiseSaf_mea (d : Dev) (c : Nat) (x : List Nat) : (d.raiseSaf c x).mea = d.mea := rfl
@[simp] theorem Dev.raiseSaf_dcl (d : Dev) (c : Nat) (x : List Nat) : (d.raiseSaf c x).dcl = d.dcl := rfl
@[simp] theorem Dev.raiseSaf_drg (d : Dev) (c : Nat) (x : List Nat) : (d.raiseSaf c x).drg = d.drg := rfl
@[simp] theorem Dev.raiseSaf_cans (d : Dev) (c : Nat) (x : List Nat) : (d.raiseSaf c x).cans = d.cans := rfl
@[simp] theorem Dev.raiseSaf_saf (d : Dev) (c : Nat) (x : List Nat) : (d.raiseSaf c x).saf = d.saf := rfl
@[simp] theorem Dev.raiseSaf_mm (d : Dev) (c : Nat) (x : List Nat) : (d.raiseSaf c x).mm = d.mm := rfl
@[simp] theorem Dev.raiseSaf_img (d : Dev) (c : Nat) (x : List Nat) : (d.raiseSaf c x).img = d.img := rfl
@[simp] theorem Dev.raiseSaf_tly (d : Dev) (c : Nat) (x : List Nat) : (d.raiseSaf c x).tly = d.tly := rfl
@[simp] theorem Dev.raiseSaf_hst (d : Dev) (c : Nat) (x : List Nat) : (d.raiseSaf c x).hst = d.hst := rfl
@[simp] theorem Dev.raiseSaf_word (d : Dev) (c : Nat) (x : List Nat) (key : Nat) : (d.raiseSaf c x).word key = d.word key := rfl
@[simp] theorem Dev.raiseSaf_g (d : Dev) (c : Nat) (x : List Nat) (r : RF) : (d.raiseSaf c x).g r = d.g r := rfl
@[simp] theorem Dev.raiseSaf_on (d : Dev) (c : Nat) (x : List Nat) (r : RF) : (d.raiseSaf c x).on r = d.on r := rfl
@[simp] theorem Dev.raiseSaf_byte (d : Dev) (c : Nat) (x : List Nat) (key : Nat) : (d.raiseSaf c x).byte key = d.byte key := rfl
@[simp] theorem Dev.raiseSaf_live (d : Dev) (c : Nat) (x : List Nat) : (d.raiseSaf c x).live = d.live := rfl

@[simp] theorem Dev.raiseFw_regs (d : Dev) (o c v : Nat) (x : List Nat) : (d.raiseFw o c v x).regs = d.regs := rfl
@[simp] theorem Dev.raiseFw_mem (d : Dev) (o c v : Nat) (x : List Nat) : (d.raiseFw o c v x).mem = d.mem := rfl
@[simp] theorem Dev.raiseFw_tick (d : Dev) (o c v : Nat) (x : List Nat) : (d.raiseFw o c v x).tick = d.tick := rfl
@[simp] theorem Dev.raiseFw_free (d : Dev) (o c v : Nat) (x : List Nat) : (d.raiseFw o c v x).free = d.free := rfl
@[simp] theorem Dev.raiseFw_errSeq (d : Dev) (o c v : Nat) (x : List Nat) : (d.raiseFw o c v x).errSeq = d.errSeq := rfl
@[simp] theorem Dev.raiseFw_errs (d : Dev) (o c v : Nat) (x : List Nat) : (d.raiseFw o c v x).errs = d.errs := rfl
@[simp] theorem Dev.raiseFw_sys (d : Dev) (o c v : Nat) (x : List Nat) : (d.raiseFw o c v x).sys = d.sys := rfl
@[simp] theorem Dev.raiseFw_therm (d : Dev) (o c v : Nat) (x : List Nat) : (d.raiseFw o c v x).therm = d.therm := rfl
@[simp] theorem Dev.raiseFw_tb (d : Dev) (o c v : Nat) (x : List Nat) : (d.raiseFw o c v x).tb = d.tb := rfl
@[simp] theorem Dev.raiseFw_ce (d : Dev) (o c v : Nat) (x : List Nat) : (d.raiseFw o c v x).ce = d.ce := rfl
@[simp] theorem Dev.raiseFw_pwm (d : Dev) (o c v : Nat) (x : List Nat) : (d.raiseFw o c v x).pwm = d.pwm := rfl
@[simp] theorem Dev.raiseFw_aux (d : Dev) (o c v : Nat) (x : List Nat) : (d.raiseFw o c v x).aux = d.aux := rfl
@[simp] theorem Dev.raiseFw_mea (d : Dev) (o c v : Nat) (x : List Nat) : (d.raiseFw o c v x).mea = d.mea := rfl
@[simp] theorem Dev.raiseFw_dcl (d : Dev) (o c v : Nat) (x : List Nat) : (d.raiseFw o c v x).dcl = d.dcl := rfl
@[simp] theorem Dev.raiseFw_drg (d : Dev) (o c v : Nat) (x : List Nat) : (d.raiseFw o c v x).drg = d.drg := rfl
@[simp] theorem Dev.raiseFw_cans (d : Dev) (o c v : Nat) (x : List Nat) : (d.raiseFw o c v x).cans = d.cans := rfl
@[simp] theorem Dev.raiseFw_saf (d : Dev) (o c v : Nat) (x : List Nat) : (d.raiseFw o c v x).saf = d.saf := rfl
@[simp] theorem Dev.raiseFw_mm (d : Dev) (o c v : Nat) (x : List Nat) : (d.raiseFw o c v x).mm = d.mm := rfl
@[simp] theorem Dev.raiseFw_img (d : Dev) (o c v : Nat) (x : List Nat) : (d.raiseFw o c v x).img = d.img := rfl
@[simp] theorem Dev.raiseFw_tly (d : Dev) (o c v : Nat) (x : List Nat) : (d.raiseFw o c v x).tly = d.tly := rfl
@[simp] theorem Dev.raiseFw_hst (d : Dev) (o c v : Nat) (x : List Nat) : (d.raiseFw o c v x).hst = d.hst := rfl
@[simp] theorem Dev.raiseFw_word (d : Dev) (o c v : Nat) (x : List Nat) (key : Nat) : (d.raiseFw o c v x).word key = d.word key := rfl
@[simp] theorem Dev.raiseFw_g (d : Dev) (o c v : Nat) (x : List Nat) (r : RF) : (d.raiseFw o c v x).g r = d.g r := rfl
@[simp] theorem Dev.raiseFw_on (d : Dev) (o c v : Nat) (x : List Nat) (r : RF) : (d.raiseFw o c v x).on r = d.on r := rfl
@[simp] theorem Dev.raiseFw_byte (d : Dev) (o c v : Nat) (x : List Nat) (key : Nat) : (d.raiseFw o c v x).byte key = d.byte key := rfl
@[simp] theorem Dev.raiseFw_live (d : Dev) (o c v : Nat) (x : List Nat) : (d.raiseFw o c v x).live = d.live := rfl

@[simp] theorem Dev.tookFree_regs (d : Dev) : (d.tookFree).regs = d.regs := rfl
@[simp] theorem Dev.tookFree_mem (d : Dev) : (d.tookFree).mem = d.mem := rfl
@[simp] theorem Dev.tookFree_tick (d : Dev) : (d.tookFree).tick = d.tick := rfl
@[simp] theorem Dev.tookFree_raised (d : Dev) : (d.tookFree).raised = d.raised := rfl
@[simp] theorem Dev.tookFree_errSeq (d : Dev) : (d.tookFree).errSeq = d.errSeq := rfl
@[simp] theorem Dev.tookFree_errs (d : Dev) : (d.tookFree).errs = d.errs := rfl
@[simp] theorem Dev.tookFree_sys (d : Dev) : (d.tookFree).sys = d.sys := rfl
@[simp] theorem Dev.tookFree_therm (d : Dev) : (d.tookFree).therm = d.therm := rfl
@[simp] theorem Dev.tookFree_tb (d : Dev) : (d.tookFree).tb = d.tb := rfl
@[simp] theorem Dev.tookFree_ce (d : Dev) : (d.tookFree).ce = d.ce := rfl
@[simp] theorem Dev.tookFree_pwm (d : Dev) : (d.tookFree).pwm = d.pwm := rfl
@[simp] theorem Dev.tookFree_aux (d : Dev) : (d.tookFree).aux = d.aux := rfl
@[simp] theorem Dev.tookFree_mea (d : Dev) : (d.tookFree).mea = d.mea := rfl
@[simp] theorem Dev.tookFree_dcl (d : Dev) : (d.tookFree).dcl = d.dcl := rfl
@[simp] theorem Dev.tookFree_drg (d : Dev) : (d.tookFree).drg = d.drg := rfl
@[simp] theorem Dev.tookFree_cans (d : Dev) : (d.tookFree).cans = d.cans := rfl
@[simp] theorem Dev.tookFree_saf (d : Dev) : (d.tookFree).saf = d.saf := rfl
@[simp] theorem Dev.tookFree_mm (d : Dev) : (d.tookFree).mm = d.mm := rfl
@[simp] theorem Dev.tookFree_img (d : Dev) : (d.tookFree).img = d.img := rfl
@[simp] theorem Dev.tookFree_tly (d : Dev) : (d.tookFree).tly = d.tly := rfl
@[simp] theorem Dev.tookFree_hst (d : Dev) : (d.tookFree).hst = d.hst := rfl
@[simp] theorem Dev.tookFree_word (d : Dev) (key : Nat) : (d.tookFree).word key = d.word key := rfl
@[simp] theorem Dev.tookFree_g (d : Dev) (r : RF) : (d.tookFree).g r = d.g r := rfl
@[simp] theorem Dev.tookFree_on (d : Dev) (r : RF) : (d.tookFree).on r = d.on r := rfl
@[simp] theorem Dev.tookFree_byte (d : Dev) (key : Nat) : (d.tookFree).byte key = d.byte key := rfl
@[simp] theorem Dev.tookFree_live (d : Dev) : (d.tookFree).live = d.live := rfl

@[simp] theorem Dev.setPm_regs (d : Dev) (e a v : Nat) : (d.setPm e a v).regs = d.regs := rfl
@[simp] theorem Dev.setPm_mem (d : Dev) (e a v : Nat) : (d.setPm e a v).mem = d.mem := rfl
@[simp] theorem Dev.setPm_tick (d : Dev) (e a v : Nat) : (d.setPm e a v).tick = d.tick := rfl
@[simp] theorem Dev.setPm_free (d : Dev) (e a v : Nat) : (d.setPm e a v).free = d.free := rfl
@[simp] theorem Dev.setPm_raised (d : Dev) (e a v : Nat) : (d.setPm e a v).raised = d.raised := rfl
@[simp] theorem Dev.setPm_errSeq (d : Dev) (e a v : Nat) : (d.setPm e a v).errSeq = d.errSeq := rfl
@[simp] theorem Dev.setPm_errs (d : Dev) (e a v : Nat) : (d.setPm e a v).errs = d.errs := rfl
@[simp] theorem Dev.setPm_sys (d : Dev) (e a v : Nat) : (d.setPm e a v).sys = d.sys := rfl
@[simp] theorem Dev.setPm_therm (d : Dev) (e a v : Nat) : (d.setPm e a v).therm = d.therm := rfl
@[simp] theorem Dev.setPm_tb (d : Dev) (e a v : Nat) : (d.setPm e a v).tb = d.tb := rfl
@[simp] theorem Dev.setPm_pwm (d : Dev) (e a v : Nat) : (d.setPm e a v).pwm = d.pwm := rfl
@[simp] theorem Dev.setPm_aux (d : Dev) (e a v : Nat) : (d.setPm e a v).aux = d.aux := rfl
@[simp] theorem Dev.setPm_mea (d : Dev) (e a v : Nat) : (d.setPm e a v).mea = d.mea := rfl
@[simp] theorem Dev.setPm_dcl (d : Dev) (e a v : Nat) : (d.setPm e a v).dcl = d.dcl := rfl
@[simp] theorem Dev.setPm_drg (d : Dev) (e a v : Nat) : (d.setPm e a v).drg = d.drg := rfl
@[simp] theorem Dev.setPm_cans (d : Dev) (e a v : Nat) : (d.setPm e a v).cans = d.cans := rfl
@[simp] theorem Dev.setPm_saf (d : Dev) (e a v : Nat) : (d.setPm e a v).saf = d.saf := rfl
@[simp] theorem Dev.setPm_mm (d : Dev) (e a v : Nat) : (d.setPm e a v).mm = d.mm := rfl
@[simp] theorem Dev.setPm_img (d : Dev) (e a v : Nat) : (d.setPm e a v).img = d.img := rfl
@[simp] theorem Dev.setPm_tly (d : Dev) (e a v : Nat) : (d.setPm e a v).tly = d.tly := rfl
@[simp] theorem Dev.setPm_hst (d : Dev) (e a v : Nat) : (d.setPm e a v).hst = d.hst := rfl
@[simp] theorem Dev.setPm_word (d : Dev) (e a v : Nat) (key : Nat) : (d.setPm e a v).word key = d.word key := rfl
@[simp] theorem Dev.setPm_g (d : Dev) (e a v : Nat) (r : RF) : (d.setPm e a v).g r = d.g r := rfl
@[simp] theorem Dev.setPm_on (d : Dev) (e a v : Nat) (r : RF) : (d.setPm e a v).on r = d.on r := rfl
@[simp] theorem Dev.setPm_byte (d : Dev) (e a v : Nat) (key : Nat) : (d.setPm e a v).byte key = d.byte key := rfl
@[simp] theorem Dev.setPm_live (d : Dev) (e a v : Nat) : (d.setPm e a v).live = d.live := rfl

@[simp] theorem Dev.setDm_regs (d : Dev) (e a v : Nat) : (d.setDm e a v).regs = d.regs := rfl
@[simp] theorem Dev.setDm_mem (d : Dev) (e a v : Nat) : (d.setDm e a v).mem = d.mem := rfl
@[simp] theorem Dev.setDm_tick (d : Dev) (e a v : Nat) : (d.setDm e a v).tick = d.tick := rfl
@[simp] theorem Dev.setDm_free (d : Dev) (e a v : Nat) : (d.setDm e a v).free = d.free := rfl
@[simp] theorem Dev.setDm_raised (d : Dev) (e a v : Nat) : (d.setDm e a v).raised = d.raised := rfl
@[simp] theorem Dev.setDm_errSeq (d : Dev) (e a v : Nat) : (d.setDm e a v).errSeq = d.errSeq := rfl
@[simp] theorem Dev.setDm_errs (d : Dev) (e a v : Nat) : (d.setDm e a v).errs = d.errs := rfl
@[simp] theorem Dev.setDm_sys (d : Dev) (e a v : Nat) : (d.setDm e a v).sys = d.sys := rfl
@[simp] theorem Dev.setDm_therm (d : Dev) (e a v : Nat) : (d.setDm e a v).therm = d.therm := rfl
@[simp] theorem Dev.setDm_tb (d : Dev) (e a v : Nat) : (d.setDm e a v).tb = d.tb := rfl
@[simp] theorem Dev.setDm_pwm (d : Dev) (e a v : Nat) : (d.setDm e a v).pwm = d.pwm := rfl
@[simp] theorem Dev.setDm_aux (d : Dev) (e a v : Nat) : (d.setDm e a v).aux = d.aux := rfl
@[simp] theorem Dev.setDm_mea (d : Dev) (e a v : Nat) : (d.setDm e a v).mea = d.mea := rfl
@[simp] theorem Dev.setDm_dcl (d : Dev) (e a v : Nat) : (d.setDm e a v).dcl = d.dcl := rfl
@[simp] theorem Dev.setDm_drg (d : Dev) (e a v : Nat) : (d.setDm e a v).drg = d.drg := rfl
@[simp] theorem Dev.setDm_cans (d : Dev) (e a v : Nat) : (d.setDm e a v).cans = d.cans := rfl
@[simp] theorem Dev.setDm_saf (d : Dev) (e a v : Nat) : (d.setDm e a v).saf = d.saf := rfl
@[simp] theorem Dev.setDm_mm (d : Dev) (e a v : Nat) : (d.setDm e a v).mm = d.mm := rfl
@[simp] theorem Dev.setDm_img (d : Dev) (e a v : Nat) : (d.setDm e a v).img = d.img := rfl
@[simp] theorem Dev.setDm_tly (d : Dev) (e a v : Nat) : (d.setDm e a v).tly = d.tly := rfl
@[simp] theorem Dev.setDm_hst (d : Dev) (e a v : Nat) : (d.setDm e a v).hst = d.hst := rfl
@[simp] theorem Dev.setDm_word (d : Dev) (e a v : Nat) (key : Nat) : (d.setDm e a v).word key = d.word key := rfl
@[simp] theorem Dev.setDm_g (d : Dev) (e a v : Nat) (r : RF) : (d.setDm e a v).g r = d.g r := rfl
@[simp] theorem Dev.setDm_on (d : Dev) (e a v : Nat) (r : RF) : (d.setDm e a v).on r = d.on r := rfl
@[simp] theorem Dev.setDm_byte (d : Dev) (e a v : Nat) (key : Nat) : (d.setDm e a v).byte key = d.byte key := rfl
@[simp] theorem Dev.setDm_live (d : Dev) (e a v : Nat) : (d.setDm e a v).live = d.live := rfl

@[simp] theorem Dev.updTb_regs (d : Dev) (f : Tb → Tb) : (d.updTb f).regs = d.regs := rfl
@[simp] theorem Dev.updTb_mem (d : Dev) (f : Tb → Tb) : (d.updTb f).mem = d.mem := rfl
@[simp] theorem Dev.updTb_tick (d : Dev) (f : Tb → Tb) : (d.updTb f).tick = d.tick := rfl
@[simp] theorem Dev.updTb_free (d : Dev) (f : Tb → Tb) : (d.updTb f).free = d.free := rfl
@[simp] theorem Dev.updTb_raised (d : Dev) (f : Tb → Tb) : (d.updTb f).raised = d.raised := rfl
@[simp] theorem Dev.updTb_errSeq (d : Dev) (f : Tb → Tb) : (d.updTb f).errSeq = d.errSeq := rfl
@[simp] theorem Dev.updTb_errs (d : Dev) (f : Tb → Tb) : (d.updTb f).errs = d.errs := rfl
@[simp] theorem Dev.updTb_sys (d : Dev) (f : Tb → Tb) : (d.updTb f).sys = d.sys := rfl
@[simp] theorem Dev.updTb_therm (d : Dev) (f : Tb → Tb) : (d.updTb f).therm = d.therm := rfl
@[simp] theorem Dev.updTb_ce (d : Dev) (f : Tb → Tb) : (d.updTb f).ce = d.ce := rfl
@[simp] theorem Dev.updTb_pwm (d : Dev) (f : Tb → Tb) : (d.updTb f).pwm = d.pwm := rfl
@[simp] theorem Dev.updTb_aux (d : Dev) (f : Tb → Tb) : (d.updTb f).aux = d.aux := rfl
@[simp] theorem Dev.updTb_mea (d : Dev) (f : Tb → Tb) : (d.updTb f).mea = d.mea := rfl
@[simp] theorem Dev.updTb_dcl (d : Dev) (f : Tb → Tb) : (d.updTb f).dcl = d.dcl := rfl
@[simp] theorem Dev.updTb_drg (d : Dev) (f : Tb → Tb) : (d.updTb f).drg = d.drg := rfl
@[simp] theorem Dev.updTb_cans (d : Dev) (f : Tb → Tb) : (d.updTb f).cans = d.cans := rfl
@[simp] theorem Dev.updTb_saf (d : Dev) (f : Tb → Tb) : (d.updTb f).saf = d.saf := rfl
@[simp] theorem Dev.updTb_mm (d : Dev) (f : Tb → Tb) : (d.updTb f).mm = d.mm := rfl
@[simp] theorem Dev.updTb_img (d : Dev) (f : Tb → Tb) : (d.updTb f).img = d.img := rfl
@[simp] theorem Dev.updTb_tly (d : Dev) (f : Tb → Tb) : (d.updTb f).tly = d.tly := rfl
@[simp] theorem Dev.updTb_hst (d : Dev) (f : Tb → Tb) : (d.updTb f).hst = d.hst := rfl
@[simp] theorem Dev.updTb_word (d : Dev) (f : Tb → Tb) (key : Nat) : (d.updTb f).word key = d.word key := rfl
@[simp] theorem Dev.updTb_g (d : Dev) (f : Tb → Tb) (r : RF) : (d.updTb f).g r = d.g r := rfl
@[simp] theorem Dev.updTb_on (d : Dev) (f : Tb → Tb) (r : RF) : (d.updTb f).on r = d.on r := rfl
@[simp] theorem Dev.updTb_byte (d : Dev) (f : Tb → Tb) (key : Nat) : (d.updTb f).byte key = d.byte key := rfl
@[simp] theorem Dev.updTb_live (d : Dev) (f : Tb → Tb) : (d.updTb f).live = d.live := rfl

@[simp] theorem Dev.updWheel_regs (d : Dev) (n : Nat) (f : Wheel → Wheel) : (d.updWheel n f).regs = d.regs := rfl
@[simp] theorem Dev.updWheel_mem (d : Dev) (n : Nat) (f : Wheel → Wheel) : (d.updWheel n f).mem = d.mem := rfl
@[simp] theorem Dev.updWheel_tick (d : Dev) (n : Nat) (f : Wheel → Wheel) : (d.updWheel n f).tick = d.tick := rfl
@[simp] theorem Dev.updWheel_free (d : Dev) (n : Nat) (f : Wheel → Wheel) : (d.updWheel n f).free = d.free := rfl
@[simp] theorem Dev.updWheel_raised (d : Dev) (n : Nat) (f : Wheel → Wheel) : (d.updWheel n f).raised = d.raised := rfl
@[simp] theorem Dev.updWheel_errSeq (d : Dev) (n : Nat) (f : Wheel → Wheel) : (d.updWheel n f).errSeq = d.errSeq := rfl
@[simp] theorem Dev.updWheel_errs (d : Dev) (n : Nat) (f : Wheel → Wheel) : (d.updWheel n f).errs = d.errs := rfl
@[simp] theorem Dev.updWheel_sys (d : Dev) (n : Nat) (f : Wheel → Wheel) : (d.updWheel n f).sys = d.sys := rfl
@[simp] theorem Dev.updWheel_therm (d : Dev) (n : Nat) (f : Wheel → Wheel) : (d.updWheel n f).therm = d.therm := rfl
@[simp] theorem Dev.updWheel_ce (d : Dev) (n : Nat) (f : Wheel → Wheel) : (d.updWheel n f).ce = d.ce := rfl
@[simp] theorem Dev.updWheel_pwm (d : Dev) (n : Nat) (f : Wheel → Wheel) : (d.updWheel n f).pwm = d.pwm := rfl
@[simp] theorem Dev.updWheel_aux (d : Dev) (n : Nat) (f : Wheel → Wheel) : (d.updWheel n f).aux = d.aux := rfl
@[simp] theorem Dev.updWheel_mea (d : Dev) (n : Nat) (f : Wheel → Wheel) : (d.updWheel n f).mea = d.mea := rfl
@[simp] theorem Dev.updWheel_dcl (d : Dev) (n : Nat) (f : Wheel → Wheel) : (d.updWheel n f).dcl = d.dcl := rfl
@[simp] theorem Dev.updWheel_drg (d : Dev) (n : Nat) (f : Wheel → Wheel) : (d.updWheel n f).drg = d.drg := rfl
@[simp] theorem Dev.updWheel_cans (d : Dev) (n : Nat) (f : Wheel → Wheel) : (d.updWheel n f).cans = d.cans := rfl
@[simp] theorem Dev.updWheel_saf (d : Dev) (n : Nat) (f : Wheel → Wheel) : (d.updWheel n f).saf = d.saf := rfl
@[simp] theorem Dev.updWheel_mm (d : Dev) (n : Nat) (f : Wheel → Wheel) : (d.updWheel n f).mm = d.mm := rfl
@[simp] theorem Dev.updWheel_img (d : Dev) (n : Nat) (f : Wheel → Wheel) : (d.updWheel n f).img = d.img := rfl
@[simp] theorem Dev.updWheel_tly (d : Dev) (n : Nat) (f : Wheel → Wheel) : (d.updWheel n f).tly = d.tly := rfl
@[simp] theorem Dev.updWheel_hst (d : Dev) (n : Nat) (f : Wheel → Wheel) : (d.updWheel n f).hst = d.hst := rfl
@[simp] theorem Dev.updWheel_word (d : Dev) (n : Nat) (f : Wheel → Wheel) (key : Nat) : (d.updWheel n f).word key = d.word key := rfl
@[simp] theorem Dev.updWheel_g (d : Dev) (n : Nat) (f : Wheel → Wheel) (r : RF) : (d.updWheel n f).g r = d.g r := rfl
@[simp] theorem Dev.updWheel_on (d : Dev) (n : Nat) (f : Wheel → Wheel) (r : RF) : (d.updWheel n f).on r = d.on r := rfl
@[simp] theorem Dev.updWheel_byte (d : Dev) (n : Nat) (f : Wheel → Wheel) (key : Nat) : (d.updWheel n f).byte key = d.byte key := rfl
@[simp] theorem Dev.updWheel_live (d : Dev) (n : Nat) (f : Wheel → Wheel) : (d.updWheel n f).live = d.live := rfl

@[simp] theorem Dev.updHb_regs (d : Dev) (n : Nat) (f : Hb → Hb) : (d.updHb n f).regs = d.regs := rfl
@[simp] theorem Dev.updHb_mem (d : Dev) (n : Nat) (f : Hb → Hb) : (d.updHb n f).mem = d.mem := rfl
@[simp] theorem Dev.updHb_tick (d : Dev) (n : Nat) (f : Hb → Hb) : (d.updHb n f).tick = d.tick := rfl
@[simp] theorem Dev.updHb_free (d : Dev) (n : Nat) (f : Hb → Hb) : (d.updHb n f).free = d.free := rfl
@[simp] theorem Dev.updHb_raised (d : Dev) (n : Nat) (f : Hb → Hb) : (d.updHb n f).raised = d.raised := rfl
@[simp] theorem Dev.updHb_errSeq (d : Dev) (n : Nat) (f : Hb → Hb) : (d.updHb n f).errSeq = d.errSeq := rfl
@[simp] theorem Dev.updHb_errs (d : Dev) (n : Nat) (f : Hb → Hb) : (d.updHb n f).errs = d.errs := rfl
@[simp] theorem Dev.updHb_sys (d : Dev) (n : Nat) (f : Hb → Hb) : (d.updHb n f).sys = d.sys := rfl
@[simp] theorem Dev.updHb_therm (d : Dev) (n : Nat) (f : Hb → Hb) : (d.updHb n f).therm = d.therm := rfl
@[simp] theorem Dev.updHb_tb (d : Dev) (n : Nat) (f : Hb → Hb) : (d.updHb n f).tb = d.tb := rfl
@[simp] theorem Dev.updHb_ce (d : Dev) (n : Nat) (f : Hb → Hb) : (d.updHb n f).ce = d.ce := rfl
@[simp] theorem Dev.updHb_pwm (d : Dev) (n : Nat) (f : Hb → Hb) : (d.updHb n f).pwm = d.pwm := rfl
@[simp] theorem Dev.updHb_mea (d : Dev) (n : Nat) (f : Hb → Hb) : (d.updHb n f).mea = d.mea := rfl
@[simp] theorem Dev.updHb_dcl (d : Dev) (n : Nat) (f : Hb → Hb) : (d.updHb n f).dcl = d.dcl := rfl
@[simp] theorem Dev.updHb_drg (d : Dev) (n : Nat) (f : Hb → Hb) : (d.updHb n f).drg = d.drg := rfl
@[simp] theorem Dev.updHb_cans (d : Dev) (n : Nat) (f : Hb → Hb) : (d.updHb n f).cans = d.cans := rfl
@[simp] theorem Dev.updHb_saf (d : Dev) (n : Nat) (f : Hb → Hb) : (d.updHb n f).saf = d.saf := rfl
@[simp] theorem Dev.updHb_mm (d : Dev) (n : Nat) (f : Hb → Hb) : (d.updHb n f).mm = d.mm := rfl
@[simp] theorem Dev.updHb_img (d : Dev) (n : Nat) (f : Hb → Hb) : (d.updHb n f).img = d.img := rfl
@[simp] theorem Dev.updHb_tly (d : Dev) (n : Nat) (f : Hb → Hb) : (d.updHb n f).tly = d.tly := rfl
@[simp] theorem Dev.updHb_hst (d : Dev) (n : Nat) (f : Hb → Hb) : (d.updHb n f).hst = d.hst := rfl
@[simp] theorem Dev.updHb_word (d : Dev) (n : Nat) (f : Hb → Hb) (key : Nat) : (d.updHb n f).word key = d.word key := rfl
@[simp] theorem Dev.updHb_g (d : Dev) (n : Nat) (f : Hb → Hb) (r : RF) : (d.updHb n f).g r = d.g r := rfl
@[simp] theorem Dev.updHb_on (d : Dev) (n : Nat) (f : Hb → Hb) (r : RF) : (d.updHb n f).on r = d.on r := rfl
@[simp] theorem Dev.updHb_byte (d : Dev) (n : Nat) (f : Hb → Hb) (key : Nat) : (d.updHb n f).byte key = d.byte key := rfl
@[simp] theorem Dev.updHb_live (d : Dev) (n : Nat) (f : Hb → Hb) : (d.updHb n f).live = d.live := rfl

@[simp] theorem Dev.updCmu_regs (d : Dev) (n : Nat) (f : Cmu → Cmu) : (d.updCmu n f).regs = d.regs := rfl
@[simp] theorem Dev.updCmu_mem (d : Dev) (n : Nat) (f : Cmu → Cmu) : (d.updCmu n f).mem = d.mem := rfl
@[simp] theorem Dev.updCmu_tick (d : Dev) (n : Nat) (f : Cmu → Cmu) : (d.updCmu n f).tick = d.tick := rfl
@[simp] theorem Dev.updCmu_free (d : Dev) (n : Nat) (f : Cmu → Cmu) : (d.updCmu n f).free = d.free := rfl
@[simp] theorem Dev.updCmu_raised (d : Dev) (n : Nat) (f : Cmu → Cmu) : (d.updCmu n f).raised = d.raised := rfl
@[simp] theorem Dev.updCmu_errSeq (d : Dev) (n : Nat) (f : Cmu → Cmu) : (d.updCmu n f).errSeq = d.errSeq := rfl
@[simp] theorem Dev.updCmu_errs (d : Dev) (n : Nat) (f : Cmu → Cmu) : (d.updCmu n f).errs = d.errs := rfl
@[simp] theorem Dev.updCmu_sys (d : Dev) (n : Nat) (f : Cmu → Cmu) : (d.updCmu n f).sys = d.sys := rfl
@[simp] theorem Dev.updCmu_therm (d : Dev) (n : Nat) (f : Cmu → Cmu) : (d.updCmu n f).therm = d.therm := rfl
@[simp] theorem Dev.updCmu_tb (d : Dev) (n : Nat) (f : Cmu → Cmu) : (d.updCmu n f).tb = d.tb := rfl
@[simp] theorem Dev.updCmu_ce (d : Dev) (n : Nat) (f : Cmu → Cmu) : (d.updCmu n f).ce = d.ce := rfl
@[simp] theorem Dev.updCmu_pwm (d : Dev) (n : Nat) (f : Cmu → Cmu) : (d.updCmu n f).pwm = d.pwm := rfl
@[simp] theorem Dev.updCmu_mea (d : Dev) (n : Nat) (f : Cmu → Cmu) : (d.updCmu n f).mea = d.mea := rfl
@[simp] theorem Dev.updCmu_dcl (d : Dev) (n : Nat) (f : Cmu → Cmu) : (d.updCmu n f).dcl = d.dcl := rfl
@[simp] theorem Dev.updCmu_drg (d : Dev) (n : Nat) (f : Cmu → Cmu) : (d.updCmu n f).drg = d.drg := rfl
@[simp] theorem Dev.updCmu_cans (d : Dev) (n : Nat) (f : Cmu → Cmu) : (d.updCmu n f).cans = d.cans := rfl
@[simp] theorem Dev.updCmu_saf (d : Dev) (n : Nat) (f : Cmu → Cmu) : (d.updCmu n f).saf = d.saf := rfl
@[simp] theorem Dev.updCmu_mm (d : Dev) (n : Nat) (f : Cmu → Cmu) : (d.updCmu n f).mm = d.mm := rfl
@[simp] theorem Dev.updCmu_img (d : Dev) (n : Nat) (f : Cmu → Cmu) : (d.updCmu n f).img = d.img := rfl
@[simp] theorem Dev.updCmu_tly (d : Dev) (n : Nat) (f : Cmu → Cmu) : (d.updCmu n f).tly = d.tly := rfl
@[simp] theorem Dev.updCmu_hst (d : Dev) (n : Nat) (f : Cmu → Cmu) : (d.updCmu n f).hst = d.hst := rfl
@[simp] theorem Dev.updCmu_word (d : Dev) (n : Nat) (f : Cmu → Cmu) (key : Nat) : (d.updCmu n f).word key = d.word key := rfl
@[simp] theorem Dev.updCmu_g (d : Dev) (n : Nat) (f : Cmu → Cmu) (r : RF) : (d.updCmu n f).g r = d.g r := rfl
@[simp] theorem Dev.updCmu_on (d : Dev) (n : Nat) (f : Cmu → Cmu) (r : RF) : (d.updCmu n f).on r = d.on r := rfl
@[simp] theorem Dev.updCmu_byte (d : Dev) (n : Nat) (f : Cmu → Cmu) (key : Nat) : (d.updCmu n f).byte key = d.byte key := rfl
@[simp] theorem Dev.updCmu_live (d : Dev) (n : Nat) (f : Cmu → Cmu) : (d.updCmu n f).live = d.live := rfl

@[simp] theorem Dev.updAxis_regs (d : Dev) (n : Nat) (f : Axis → Axis) : (d.updAxis n f).regs = d.regs := rfl
@[simp] theorem Dev.updAxis_mem (d : Dev) (n : Nat) (f : Axis → Axis) : (d.updAxis n f).mem = d.mem := rfl
@[simp] theorem Dev.updAxis_tick (d : Dev) (n : Nat) (f : Axis → Axis) : (d.updAxis n f).tick = d.tick := rfl
@[simp] theorem Dev.updAxis_free (d : Dev) (n : Nat) (f : Axis → Axis) : (d.updAxis n f).free = d.free := rfl
@[simp] theorem Dev.updAxis_raised (d : Dev) (n : Nat) (f : Axis → Axis) : (d.updAxis n f).raised = d.raised := rfl
@[simp] theorem Dev.updAxis_errSeq (d : Dev) (n : Nat) (f : Axis → Axis) : (d.updAxis n f).errSeq = d.errSeq := rfl
@[simp] theorem Dev.updAxis_errs (d : Dev) (n : Nat) (f : Axis → Axis) : (d.updAxis n f).errs = d.errs := rfl
@[simp] theorem Dev.updAxis_sys (d : Dev) (n : Nat) (f : Axis → Axis) : (d.updAxis n f).sys = d.sys := rfl
@[simp] theorem Dev.updAxis_therm (d : Dev) (n : Nat) (f : Axis → Axis) : (d.updAxis n f).therm = d.therm := rfl
@[simp] theorem Dev.updAxis_tb (d : Dev) (n : Nat) (f : Axis → Axis) : (d.updAxis n f).tb = d.tb := rfl
@[simp] theorem Dev.updAxis_ce (d : Dev) (n : Nat) (f : Axis → Axis) : (d.updAxis n f).ce = d.ce := rfl
@[simp] theorem Dev.updAxis_pwm (d : Dev) (n : Nat) (f : Axis → Axis) : (d.updAxis n f).pwm = d.pwm := rfl
@[simp] theorem Dev.updAxis_mea (d : Dev) (n : Nat) (f : Axis → Axis) : (d.updAxis n f).mea = d.mea := rfl
@[simp] theorem Dev.updAxis_dcl (d : Dev) (n : Nat) (f : Axis → Axis) : (d.updAxis n f).dcl = d.dcl := rfl
@[simp] theorem Dev.updAxis_drg (d : Dev) (n : Nat) (f : Axis → Axis) : (d.updAxis n f).drg = d.drg := rfl
@[simp] theorem Dev.updAxis_cans (d : Dev) (n : Nat) (f : Axis → Axis) : (d.updAxis n f).cans = d.cans := rfl
@[simp] theorem Dev.updAxis_saf (d : Dev) (n : Nat) (f : Axis → Axis) : (d.updAxis n f).saf = d.saf := rfl
@[simp] theorem Dev.updAxis_mm (d : Dev) (n : Nat) (f : Axis → Axis) : (d.updAxis n f).mm = d.mm := rfl
@[simp] theorem Dev.updAxis_img (d : Dev) (n : Nat) (f : Axis → Axis) : (d.updAxis n f).img = d.img := rfl
@[simp] theorem Dev.updAxis_tly (d : Dev) (n : Nat) (f : Axis → Axis) : (d.updAxis n f).tly = d.tly := rfl
@[simp] theorem Dev.updAxis_hst (d : Dev) (n : Nat) (f : Axis → Axis) : (d.updAxis n f).hst = d.hst := rfl
@[simp] theorem Dev.updAxis_word (d : Dev) (n : Nat) (f : Axis → Axis) (key : Nat) : (d.updAxis n f).word key = d.word key := rfl
@[simp] theorem Dev.updAxis_g (d : Dev) (n : Nat) (f : Axis → Axis) (r : RF) : (d.updAxis n f).g r = d.g r := rfl
@[simp] theorem Dev.updAxis_on (d : Dev) (n : Nat) (f : Axis → Axis) (r : RF) : (d.updAxis n f).on r = d.on r := rfl
@[simp] theorem Dev.updAxis_byte (d : Dev) (n : Nat) (f : Axis → Axis) (key : Nat) : (d.updAxis n f).byte key = d.byte key := rfl
@[simp] theorem Dev.updAxis_live (d : Dev) (n : Nat) (f : Axis → Axis) : (d.updAxis n f).live = d.live := rfl

@[simp] theorem Dev.updCan_regs (d : Dev) (n : Nat) (f : CanCtl → CanCtl) : (d.updCan n f).regs = d.regs := rfl
@[simp] theorem Dev.updCan_mem (d : Dev) (n : Nat) (f : CanCtl → CanCtl) : (d.updCan n f).mem = d.mem := rfl
@[simp] theorem Dev.updCan_tick (d : Dev) (n : Nat) (f : CanCtl → CanCtl) : (d.updCan n f).tick = d.tick := rfl
@[simp] theorem Dev.updCan_free (d : Dev) (n : Nat) (f : CanCtl → CanCtl) : (d.updCan n f).free = d.free := rfl
@[simp] theorem Dev.updCan_raised (d : Dev) (n : Nat) (f : CanCtl → CanCtl) : (d.updCan n f).raised = d.raised := rfl
@[simp] theorem Dev.updCan_errSeq (d : Dev) (n : Nat) (f : CanCtl → CanCtl) : (d.updCan n f).errSeq = d.errSeq := rfl
@[simp] theorem Dev.updCan_errs (d : Dev) (n : Nat) (f : CanCtl → CanCtl) : (d.updCan n f).errs = d.errs := rfl
@[simp] theorem Dev.updCan_sys (d : Dev) (n : Nat) (f : CanCtl → CanCtl) : (d.updCan n f).sys = d.sys := rfl
@[simp] theorem Dev.updCan_therm (d : Dev) (n : Nat) (f : CanCtl → CanCtl) : (d.updCan n f).therm = d.therm := rfl
@[simp] theorem Dev.updCan_tb (d : Dev) (n : Nat) (f : CanCtl → CanCtl) : (d.updCan n f).tb = d.tb := rfl
@[simp] theorem Dev.updCan_ce (d : Dev) (n : Nat) (f : CanCtl → CanCtl) : (d.updCan n f).ce = d.ce := rfl
@[simp] theorem Dev.updCan_pwm (d : Dev) (n : Nat) (f : CanCtl → CanCtl) : (d.updCan n f).pwm = d.pwm := rfl
@[simp] theorem Dev.updCan_aux (d : Dev) (n : Nat) (f : CanCtl → CanCtl) : (d.updCan n f).aux = d.aux := rfl
@[simp] theorem Dev.updCan_mea (d : Dev) (n : Nat) (f : CanCtl → CanCtl) : (d.updCan n f).mea = d.mea := rfl
@[simp] theorem Dev.updCan_dcl (d : Dev) (n : Nat) (f : CanCtl → CanCtl) : (d.updCan n f).dcl = d.dcl := rfl
@[simp] theorem Dev.updCan_drg (d : Dev) (n : Nat) (f : CanCtl → CanCtl) : (d.updCan n f).drg = d.drg := rfl
@[simp] theorem Dev.updCan_saf (d : Dev) (n : Nat) (f : CanCtl → CanCtl) : (d.updCan n f).saf = d.saf := rfl
@[simp] theorem Dev.updCan_mm (d : Dev) (n : Nat) (f : CanCtl → CanCtl) : (d.updCan n f).mm = d.mm := rfl
@[simp] theorem Dev.updCan_img (d : Dev) (n : Nat) (f : CanCtl → CanCtl) : (d.updCan n f).img = d.img := rfl
@[simp] theorem Dev.updCan_tly (d : Dev) (n : Nat) (f : CanCtl → CanCtl) : (d.updCan n f).tly = d.tly := rfl
@[simp] theorem Dev.updCan_hst (d : Dev) (n : Nat) (f : CanCtl → CanCtl) : (d.updCan n f).hst = d.hst := rfl
@[simp] theorem Dev.updCan_word (d : Dev) (n : Nat) (f : CanCtl → CanCtl) (key : Nat) : (d.updCan n f).word key = d.word key := rfl
@[simp] theorem Dev.updCan_g (d : Dev) (n : Nat) (f : CanCtl → CanCtl) (r : RF) : (d.updCan n f).g r = d.g r := rfl
@[simp] theorem Dev.updCan_on (d : Dev) (n : Nat) (f : CanCtl → CanCtl) (r : RF) : (d.updCan n f).on r = d.on r := rfl
@[simp] theorem Dev.updCan_byte (d : Dev) (n : Nat) (f : CanCtl → CanCtl) (key : Nat) : (d.updCan n f).byte key = d.byte key := rfl
@[simp] theorem Dev.updCan_live (d : Dev) (n : Nat) (f : CanCtl → CanCtl) : (d.updCan n f).live = d.live := rfl

@[simp] theorem Dev.updMon_regs (d : Dev) (n : Nat) (f : DcMon → DcMon) : (d.updMon n f).regs = d.regs := rfl
@[simp] theorem Dev.updMon_mem (d : Dev) (n : Nat) (f : DcMon → DcMon) : (d.updMon n f).mem = d.mem := rfl
@[simp] theorem Dev.updMon_tick (d : Dev) (n : Nat) (f : DcMon → DcMon) : (d.updMon n f).tick = d.tick := rfl
@[simp] theorem Dev.updMon_free (d : Dev) (n : Nat) (f : DcMon → DcMon) : (d.updMon n f).free = d.free := rfl
@[simp] theorem Dev.updMon_raised (d : Dev) (n : Nat) (f : DcMon → DcMon) : (d.updMon n f).raised = d.raised := rfl
@[simp] theorem Dev.updMon_errSeq (d : Dev) (n : Nat) (f : DcMon → DcMon) : (d.updMon n f).errSeq = d.errSeq := rfl
@[simp] theorem Dev.updMon_errs (d : Dev) (n : Nat) (f : DcMon → DcMon) : (d.updMon n f).errs = d.errs := rfl
@[simp] theorem Dev.updMon_sys (d : Dev) (n : Nat) (f : DcMon → DcMon) : (d.updMon n f).sys = d.sys := rfl
@[simp] theorem Dev.updMon_therm (d : Dev) (n : Nat) (f : DcMon → DcMon) : (d.updMon n f).therm = d.therm := rfl
@[simp] theorem Dev.updMon_tb (d : Dev) (n : Nat) (f : DcMon → DcMon) : (d.updMon n f).tb = d.tb := rfl
@[simp] theorem Dev.updMon_ce (d : Dev) (n : Nat) (f : DcMon → DcMon) : (d.updMon n f).ce = d.ce := rfl
@[simp] theorem Dev.updMon_pwm (d : Dev) (n : Nat) (f : DcMon → DcMon) : (d.updMon n f).pwm = d.pwm := rfl
@[simp] theorem Dev.updMon_aux (d : Dev) (n : Nat) (f : DcMon → DcMon) : (d.updMon n f).aux = d.aux := rfl
@[simp] theorem Dev.updMon_mea (d : Dev) (n : Nat) (f : DcMon → DcMon) : (d.updMon n f).mea = d.mea := rfl
@[simp] theorem Dev.updMon_drg (d : Dev) (n : Nat) (f : DcMon → DcMon) : (d.updMon n f).drg = d.drg := rfl
@[simp] theorem Dev.updMon_cans (d : Dev) (n : Nat) (f : DcMon → DcMon) : (d.updMon n f).cans = d.cans := rfl
@[simp] theorem Dev.updMon_saf (d : Dev) (n : Nat) (f : DcMon → DcMon) : (d.updMon n f).saf = d.saf := rfl
@[simp] theorem Dev.updMon_mm (d : Dev) (n : Nat) (f : DcMon → DcMon) : (d.updMon n f).mm = d.mm := rfl
@[simp] theorem Dev.updMon_img (d : Dev) (n : Nat) (f : DcMon → DcMon) : (d.updMon n f).img = d.img := rfl
@[simp] theorem Dev.updMon_tly (d : Dev) (n : Nat) (f : DcMon → DcMon) : (d.updMon n f).tly = d.tly := rfl
@[simp] theorem Dev.updMon_hst (d : Dev) (n : Nat) (f : DcMon → DcMon) : (d.updMon n f).hst = d.hst := rfl
@[simp] theorem Dev.updMon_word (d : Dev) (n : Nat) (f : DcMon → DcMon) (key : Nat) : (d.updMon n f).word key = d.word key := rfl
@[simp] theorem Dev.updMon_g (d : Dev) (n : Nat) (f : DcMon → DcMon) (r : RF) : (d.updMon n f).g r = d.g r := rfl
@[simp] theorem Dev.updMon_on (d : Dev) (n : Nat) (f : DcMon → DcMon) (r : RF) : (d.updMon n f).on r = d.on r := rfl
@[simp] theorem Dev.updMon_byte (d : Dev) (n : Nat) (f : DcMon → DcMon) (key : Nat) : (d.updMon n f).byte key = d.byte key := rfl
@[simp] theorem Dev.updMon_live (d : Dev) (n : Nat) (f : DcMon → DcMon) : (d.updMon n f).live = d.live := rfl

@[simp] theorem Dev.updDch_regs (d : Dev) (n : Nat) (f : DcCh → DcCh) : (d.updDch n f).regs = d.regs := rfl
@[simp] theorem Dev.updDch_mem (d : Dev) (n : Nat) (f : DcCh → DcCh) : (d.updDch n f).mem = d.mem := rfl
@[simp] theorem Dev.updDch_tick (d : Dev) (n : Nat) (f : DcCh → DcCh) : (d.updDch n f).tick = d.tick := rfl
@[simp] theorem Dev.updDch_free (d : Dev) (n : Nat) (f : DcCh → DcCh) : (d.updDch n f).free = d.free := rfl
@[simp] theorem Dev.updDch_raised (d : Dev) (n : Nat) (f : DcCh → DcCh) : (d.updDch n f).raised = d.raised := rfl
@[simp] theorem Dev.updDch_errSeq (d : Dev) (n : Nat) (f : DcCh → DcCh) : (d.updDch n f).errSeq = d.errSeq := rfl
@[simp] theorem Dev.updDch_errs (d : Dev) (n : Nat) (f : DcCh → DcCh) : (d.updDch n f).errs = d.errs := rfl
@[simp] theorem Dev.updDch_sys (d : Dev) (n : Nat) (f : DcCh → DcCh) : (d.updDch n f).sys = d.sys := rfl
@[simp] theorem Dev.updDch_therm (d : Dev) (n : Nat) (f : DcCh → DcCh) : (d.updDch n f).therm = d.therm := rfl
@[simp] theorem Dev.updDch_tb (d : Dev) (n : Nat) (f : DcCh → DcCh) : (d.updDch n f).tb = d.tb := rfl
@[simp] theorem Dev.updDch_ce (d : Dev) (n : Nat) (f : DcCh → DcCh) : (d.updDch n f).ce = d.ce := rfl
@[simp] theorem Dev.updDch_pwm (d : Dev) (n : Nat) (f : DcCh → DcCh) : (d.updDch n f).pwm = d.pwm := rfl
@[simp] theorem Dev.updDch_aux (d : Dev) (n : Nat) (f : DcCh → DcCh) : (d.updDch n f).aux = d.aux := rfl
@[simp] theorem Dev.updDch_mea (d : Dev) (n : Nat) (f : DcCh → DcCh) : (d.updDch n f).mea = d.mea := rfl
@[simp] theorem Dev.updDch_drg (d : Dev) (n : Nat) (f : DcCh → DcCh) : (d.updDch n f).drg = d.drg := rfl
@[simp] theorem Dev.updDch_cans (d : Dev) (n : Nat) (f : DcCh → DcCh) : (d.updDch n f).cans = d.cans := rfl
@[simp] theorem Dev.updDch_saf (d : Dev) (n : Nat) (f : DcCh → DcCh) : (d.updDch n f).saf = d.saf := rfl
@[simp] theorem Dev.updDch_mm (d : Dev) (n : Nat) (f : DcCh → DcCh) : (d.updDch n f).mm = d.mm := rfl
@[simp] theorem Dev.updDch_img (d : Dev) (n : Nat) (f : DcCh → DcCh) : (d.updDch n f).img = d.img := rfl
@[simp] theorem Dev.updDch_tly (d : Dev) (n : Nat) (f : DcCh → DcCh) : (d.updDch n f).tly = d.tly := rfl
@[simp] theorem Dev.updDch_hst (d : Dev) (n : Nat) (f : DcCh → DcCh) : (d.updDch n f).hst = d.hst := rfl
@[simp] theorem Dev.updDch_word (d : Dev) (n : Nat) (f : DcCh → DcCh) (key : Nat) : (d.updDch n f).word key = d.word key := rfl
@[simp] theorem Dev.updDch_g (d : Dev) (n : Nat) (f : DcCh → DcCh) (r : RF) : (d.updDch n f).g r = d.g r := rfl
@[simp] theorem Dev.updDch_on (d : Dev) (n : Nat) (f : DcCh → DcCh) (r : RF) : (d.updDch n f).on r = d.on r := rfl
@[simp] theorem Dev.updDch_byte (d : Dev) (n : Nat) (f : DcCh → DcCh) (key : Nat) : (d.updDch n f).byte key = d.byte key := rfl
@[simp] theorem Dev.updDch_live (d : Dev) (n : Nat) (f : DcCh → DcCh) : (d.updDch n f).live = d.live := rfl

@[simp] theorem Dev.updGrp_regs (d : Dev) (n : Nat) (f : ShGrp → ShGrp) : (d.updGrp n f).regs = d.regs := rfl
@[simp] theorem Dev.updGrp_mem (d : Dev) (n : Nat) (f : ShGrp → ShGrp) : (d.updGrp n f).mem = d.mem := rfl
@[simp] theorem Dev.updGrp_tick (d : Dev) (n : Nat) (f : ShGrp → ShGrp) : (d.updGrp n f).tick = d.tick := rfl
@[simp] theorem Dev.updGrp_free (d : Dev) (n : Nat) (f : ShGrp → ShGrp) : (d.updGrp n f).free = d.free := rfl
@[simp] theorem Dev.updGrp_raised (d : Dev) (n : Nat) (f : ShGrp → ShGrp) : (d.updGrp n f).raised = d.raised := rfl
@[simp] theorem Dev.updGrp_errSeq (d : Dev) (n : Nat) (f : ShGrp → ShGrp) : (d.updGrp n f).errSeq = d.errSeq := rfl
@[simp] theorem Dev.updGrp_errs (d : Dev) (n : Nat) (f : ShGrp → ShGrp) : (d.updGrp n f).errs = d.errs := rfl
@[simp] theorem Dev.updGrp_sys (d : Dev) (n : Nat) (f : ShGrp → ShGrp) : (d.updGrp n f).sys = d.sys := rfl
@[simp] theorem Dev.updGrp_therm (d : Dev) (n : Nat) (f : ShGrp → ShGrp) : (d.updGrp n f).therm = d.therm := rfl
@[simp] theorem Dev.updGrp_tb (d : Dev) (n : Nat) (f : ShGrp → ShGrp) : (d.updGrp n f).tb = d.tb := rfl
@[simp] theorem Dev.updGrp_ce (d : Dev) (n : Nat) (f : ShGrp → ShGrp) : (d.updGrp n f).ce = d.ce := rfl
@[simp] theorem Dev.updGrp_pwm (d : Dev) (n : Nat) (f : ShGrp → ShGrp) : (d.updGrp n f).pwm = d.pwm := rfl
@[simp] theorem Dev.updGrp_aux (d : Dev) (n : Nat) (f : ShGrp → ShGrp) : (d.updGrp n f).aux = d.aux := rfl
@[simp] theorem Dev.updGrp_mea (d : Dev) (n : Nat) (f : ShGrp → ShGrp) : (d.updGrp n f).mea = d.mea := rfl
@[simp] theorem Dev.updGrp_drg (d : Dev) (n : Nat) (f : ShGrp → ShGrp) : (d.updGrp n f).drg = d.drg := rfl
@[simp] theorem Dev.updGrp_cans (d : Dev) (n : Nat) (f : ShGrp → ShGrp) : (d.updGrp n f).cans = d.cans := rfl
@[simp] theorem Dev.updGrp_saf (d : Dev) (n : Nat) (f : ShGrp → ShGrp) : (d.updGrp n f).saf = d.saf := rfl
@[simp] theorem Dev.updGrp_mm (d : Dev) (n : Nat) (f : ShGrp → ShGrp) : (d.updGrp n f).mm = d.mm := rfl
@[simp] theorem Dev.updGrp_img (d : Dev) (n : Nat) (f : ShGrp → ShGrp) : (d.updGrp n f).img = d.img := rfl
@[simp] theorem Dev.updGrp_tly (d : Dev) (n : Nat) (f : ShGrp → ShGrp) : (d.updGrp n f).tly = d.tly := rfl
@[simp] theorem Dev.updGrp_hst (d : Dev) (n : Nat) (f : ShGrp → ShGrp) : (d.updGrp n f).hst = d.hst := rfl
@[simp] theorem Dev.updGrp_word (d : Dev) (n : Nat) (f : ShGrp → ShGrp) (key : Nat) : (d.updGrp n f).word key = d.word key := rfl
@[simp] theorem Dev.updGrp_g (d : Dev) (n : Nat) (f : ShGrp → ShGrp) (r : RF) : (d.updGrp n f).g r = d.g r := rfl
@[simp] theorem Dev.updGrp_on (d : Dev) (n : Nat) (f : ShGrp → ShGrp) (r : RF) : (d.updGrp n f).on r = d.on r := rfl
@[simp] theorem Dev.updGrp_byte (d : Dev) (n : Nat) (f : ShGrp → ShGrp) (key : Nat) : (d.updGrp n f).byte key = d.byte key := rfl
@[simp] theorem Dev.updGrp_live (d : Dev) (n : Nat) (f : ShGrp → ShGrp) : (d.updGrp n f).live = d.live := rfl

@[simp] theorem Dev.updGen_regs (d : Dev) (n : Nat) (f : Gen → Gen) : (d.updGen n f).regs = d.regs := rfl
@[simp] theorem Dev.updGen_mem (d : Dev) (n : Nat) (f : Gen → Gen) : (d.updGen n f).mem = d.mem := rfl
@[simp] theorem Dev.updGen_tick (d : Dev) (n : Nat) (f : Gen → Gen) : (d.updGen n f).tick = d.tick := rfl
@[simp] theorem Dev.updGen_free (d : Dev) (n : Nat) (f : Gen → Gen) : (d.updGen n f).free = d.free := rfl
@[simp] theorem Dev.updGen_raised (d : Dev) (n : Nat) (f : Gen → Gen) : (d.updGen n f).raised = d.raised := rfl
@[simp] theorem Dev.updGen_errSeq (d : Dev) (n : Nat) (f : Gen → Gen) : (d.updGen n f).errSeq = d.errSeq := rfl
@[simp] theorem Dev.updGen_errs (d : Dev) (n : Nat) (f : Gen → Gen) : (d.updGen n f).errs = d.errs := rfl
@[simp] theorem Dev.updGen_sys (d : Dev) (n : Nat) (f : Gen → Gen) : (d.updGen n f).sys = d.sys := rfl
@[simp] theorem Dev.updGen_therm (d : Dev) (n : Nat) (f : Gen → Gen) : (d.updGen n f).therm = d.therm := rfl
@[simp] theorem Dev.updGen_tb (d : Dev) (n : Nat) (f : Gen → Gen) : (d.updGen n f).tb = d.tb := rfl
@[simp] theorem Dev.updGen_pwm (d : Dev) (n : Nat) (f : Gen → Gen) : (d.updGen n f).pwm = d.pwm := rfl
@[simp] theorem Dev.updGen_aux (d : Dev) (n : Nat) (f : Gen → Gen) : (d.updGen n f).aux = d.aux := rfl
@[simp] theorem Dev.updGen_mea (d : Dev) (n : Nat) (f : Gen → Gen) : (d.updGen n f).mea = d.mea := rfl
@[simp] theorem Dev.updGen_dcl (d : Dev) (n : Nat) (f : Gen → Gen) : (d.updGen n f).dcl = d.dcl := rfl
@[simp] theorem Dev.updGen_drg (d : Dev) (n : Nat) (f : Gen → Gen) : (d.updGen n f).drg = d.drg := rfl
@[simp] theorem Dev.updGen_cans (d : Dev) (n : Nat) (f : Gen → Gen) : (d.updGen n f).cans = d.cans := rfl
@[simp] theorem Dev.updGen_saf (d : Dev) (n : Nat) (f : Gen → Gen) : (d.updGen n f).saf = d.saf := rfl
@[simp] theorem Dev.updGen_mm (d : Dev) (n : Nat) (f : Gen → Gen) : (d.updGen n f).mm = d.mm := rfl
@[simp] theorem Dev.updGen_img (d : Dev) (n : Nat) (f : Gen → Gen) : (d.updGen n f).img = d.img := rfl
@[simp] theorem Dev.updGen_tly (d : Dev) (n : Nat) (f : Gen → Gen) : (d.updGen n f).tly = d.tly := rfl
@[simp] theorem Dev.updGen_hst (d : Dev) (n : Nat) (f : Gen → Gen) : (d.updGen n f).hst = d.hst := rfl
@[simp] theorem Dev.updGen_word (d : Dev) (n : Nat) (f : Gen → Gen) (key : Nat) : (d.updGen n f).word key = d.word key := rfl
@[simp] theorem Dev.updGen_g (d : Dev) (n : Nat) (f : Gen → Gen) (r : RF) : (d.updGen n f).g r = d.g r := rfl
@[simp] theorem Dev.updGen_on (d : Dev) (n : Nat) (f : Gen → Gen) (r : RF) : (d.updGen n f).on r = d.on r := rfl
@[simp] theorem Dev.updGen_byte (d : Dev) (n : Nat) (f : Gen → Gen) (key : Nat) : (d.updGen n f).byte key = d.byte key := rfl
@[simp] theorem Dev.updGen_live (d : Dev) (n : Nat) (f : Gen → Gen) : (d.updGen n f).live = d.live := rfl

@[simp] theorem Dev.updEng_regs (d : Dev) (n : Nat) (f : Eng → Eng) : (d.updEng n f).regs = d.regs := rfl
@[simp] theorem Dev.updEng_mem (d : Dev) (n : Nat) (f : Eng → Eng) : (d.updEng n f).mem = d.mem := rfl
@[simp] theorem Dev.updEng_tick (d : Dev) (n : Nat) (f : Eng → Eng) : (d.updEng n f).tick = d.tick := rfl
@[simp] theorem Dev.updEng_free (d : Dev) (n : Nat) (f : Eng → Eng) : (d.updEng n f).free = d.free := rfl
@[simp] theorem Dev.updEng_raised (d : Dev) (n : Nat) (f : Eng → Eng) : (d.updEng n f).raised = d.raised := rfl
@[simp] theorem Dev.updEng_errSeq (d : Dev) (n : Nat) (f : Eng → Eng) : (d.updEng n f).errSeq = d.errSeq := rfl
@[simp] theorem Dev.updEng_errs (d : Dev) (n : Nat) (f : Eng → Eng) : (d.updEng n f).errs = d.errs := rfl
@[simp] theorem Dev.updEng_sys (d : Dev) (n : Nat) (f : Eng → Eng) : (d.updEng n f).sys = d.sys := rfl
@[simp] theorem Dev.updEng_therm (d : Dev) (n : Nat) (f : Eng → Eng) : (d.updEng n f).therm = d.therm := rfl
@[simp] theorem Dev.updEng_tb (d : Dev) (n : Nat) (f : Eng → Eng) : (d.updEng n f).tb = d.tb := rfl
@[simp] theorem Dev.updEng_pwm (d : Dev) (n : Nat) (f : Eng → Eng) : (d.updEng n f).pwm = d.pwm := rfl
@[simp] theorem Dev.updEng_aux (d : Dev) (n : Nat) (f : Eng → Eng) : (d.updEng n f).aux = d.aux := rfl
@[simp] theorem Dev.updEng_mea (d : Dev) (n : Nat) (f : Eng → Eng) : (d.updEng n f).mea = d.mea := rfl
@[simp] theorem Dev.updEng_dcl (d : Dev) (n : Nat) (f : Eng → Eng) : (d.updEng n f).dcl = d.dcl := rfl
@[simp] theorem Dev.updEng_drg (d : Dev) (n : Nat) (f : Eng → Eng) : (d.updEng n f).drg = d.drg := rfl
@[simp] theorem Dev.updEng_cans (d : Dev) (n : Nat) (f : Eng → Eng) : (d.updEng n f).cans = d.cans := rfl
@[simp] theorem Dev.updEng_saf (d : Dev) (n : Nat) (f : Eng → Eng) : (d.updEng n f).saf = d.saf := rfl
@[simp] theorem Dev.updEng_mm (d : Dev) (n : Nat) (f : Eng → Eng) : (d.updEng n f).mm = d.mm := rfl
@[simp] theorem Dev.updEng_img (d : Dev) (n : Nat) (f : Eng → Eng) : (d.updEng n f).img = d.img := rfl
@[simp] theorem Dev.updEng_tly (d : Dev) (n : Nat) (f : Eng → Eng) : (d.updEng n f).tly = d.tly := rfl
@[simp] theorem Dev.updEng_hst (d : Dev) (n : Nat) (f : Eng → Eng) : (d.updEng n f).hst = d.hst := rfl
@[simp] theorem Dev.updEng_word (d : Dev) (n : Nat) (f : Eng → Eng) (key : Nat) : (d.updEng n f).word key = d.word key := rfl
@[simp] theorem Dev.updEng_g (d : Dev) (n : Nat) (f : Eng → Eng) (r : RF) : (d.updEng n f).g r = d.g r := rfl
@[simp] theorem Dev.updEng_on (d : Dev) (n : Nat) (f : Eng → Eng) (r : RF) : (d.updEng n f).on r = d.on r := rfl
@[simp] theorem Dev.updEng_byte (d : Dev) (n : Nat) (f : Eng → Eng) (key : Nat) : (d.updEng n f).byte key = d.byte key := rfl
@[simp] theorem Dev.updEng_live (d : Dev) (n : Nat) (f : Eng → Eng) : (d.updEng n f).live = d.live := rfl

@[simp] theorem Dev.updCtx_regs (d : Dev) (n : Nat) (f : Ctx → Ctx) : (d.updCtx n f).regs = d.regs := rfl
@[simp] theorem Dev.updCtx_mem (d : Dev) (n : Nat) (f : Ctx → Ctx) : (d.updCtx n f).mem = d.mem := rfl
@[simp] theorem Dev.updCtx_tick (d : Dev) (n : Nat) (f : Ctx → Ctx) : (d.updCtx n f).tick = d.tick := rfl
@[simp] theorem Dev.updCtx_free (d : Dev) (n : Nat) (f : Ctx → Ctx) : (d.updCtx n f).free = d.free := rfl
@[simp] theorem Dev.updCtx_raised (d : Dev) (n : Nat) (f : Ctx → Ctx) : (d.updCtx n f).raised = d.raised := rfl
@[simp] theorem Dev.updCtx_errSeq (d : Dev) (n : Nat) (f : Ctx → Ctx) : (d.updCtx n f).errSeq = d.errSeq := rfl
@[simp] theorem Dev.updCtx_errs (d : Dev) (n : Nat) (f : Ctx → Ctx) : (d.updCtx n f).errs = d.errs := rfl
@[simp] theorem Dev.updCtx_sys (d : Dev) (n : Nat) (f : Ctx → Ctx) : (d.updCtx n f).sys = d.sys := rfl
@[simp] theorem Dev.updCtx_therm (d : Dev) (n : Nat) (f : Ctx → Ctx) : (d.updCtx n f).therm = d.therm := rfl
@[simp] theorem Dev.updCtx_tb (d : Dev) (n : Nat) (f : Ctx → Ctx) : (d.updCtx n f).tb = d.tb := rfl
@[simp] theorem Dev.updCtx_pwm (d : Dev) (n : Nat) (f : Ctx → Ctx) : (d.updCtx n f).pwm = d.pwm := rfl
@[simp] theorem Dev.updCtx_aux (d : Dev) (n : Nat) (f : Ctx → Ctx) : (d.updCtx n f).aux = d.aux := rfl
@[simp] theorem Dev.updCtx_mea (d : Dev) (n : Nat) (f : Ctx → Ctx) : (d.updCtx n f).mea = d.mea := rfl
@[simp] theorem Dev.updCtx_dcl (d : Dev) (n : Nat) (f : Ctx → Ctx) : (d.updCtx n f).dcl = d.dcl := rfl
@[simp] theorem Dev.updCtx_drg (d : Dev) (n : Nat) (f : Ctx → Ctx) : (d.updCtx n f).drg = d.drg := rfl
@[simp] theorem Dev.updCtx_cans (d : Dev) (n : Nat) (f : Ctx → Ctx) : (d.updCtx n f).cans = d.cans := rfl
@[simp] theorem Dev.updCtx_saf (d : Dev) (n : Nat) (f : Ctx → Ctx) : (d.updCtx n f).saf = d.saf := rfl
@[simp] theorem Dev.updCtx_mm (d : Dev) (n : Nat) (f : Ctx → Ctx) : (d.updCtx n f).mm = d.mm := rfl
@[simp] theorem Dev.updCtx_img (d : Dev) (n : Nat) (f : Ctx → Ctx) : (d.updCtx n f).img = d.img := rfl
@[simp] theorem Dev.updCtx_tly (d : Dev) (n : Nat) (f : Ctx → Ctx) : (d.updCtx n f).tly = d.tly := rfl
@[simp] theorem Dev.updCtx_hst (d : Dev) (n : Nat) (f : Ctx → Ctx) : (d.updCtx n f).hst = d.hst := rfl
@[simp] theorem Dev.updCtx_word (d : Dev) (n : Nat) (f : Ctx → Ctx) (key : Nat) : (d.updCtx n f).word key = d.word key := rfl
@[simp] theorem Dev.updCtx_g (d : Dev) (n : Nat) (f : Ctx → Ctx) (r : RF) : (d.updCtx n f).g r = d.g r := rfl
@[simp] theorem Dev.updCtx_on (d : Dev) (n : Nat) (f : Ctx → Ctx) (r : RF) : (d.updCtx n f).on r = d.on r := rfl
@[simp] theorem Dev.updCtx_byte (d : Dev) (n : Nat) (f : Ctx → Ctx) (key : Nat) : (d.updCtx n f).byte key = d.byte key := rfl
@[simp] theorem Dev.updCtx_live (d : Dev) (n : Nat) (f : Ctx → Ctx) : (d.updCtx n f).live = d.live := rfl

@[simp] theorem Dev.updErrDom_regs (d : Dev) (n : Nat) (f : ErrDom → ErrDom) : (d.updErrDom n f).regs = d.regs := rfl
@[simp] theorem Dev.updErrDom_mem (d : Dev) (n : Nat) (f : ErrDom → ErrDom) : (d.updErrDom n f).mem = d.mem := rfl
@[simp] theorem Dev.updErrDom_tick (d : Dev) (n : Nat) (f : ErrDom → ErrDom) : (d.updErrDom n f).tick = d.tick := rfl
@[simp] theorem Dev.updErrDom_free (d : Dev) (n : Nat) (f : ErrDom → ErrDom) : (d.updErrDom n f).free = d.free := rfl
@[simp] theorem Dev.updErrDom_raised (d : Dev) (n : Nat) (f : ErrDom → ErrDom) : (d.updErrDom n f).raised = d.raised := rfl
@[simp] theorem Dev.updErrDom_errSeq (d : Dev) (n : Nat) (f : ErrDom → ErrDom) : (d.updErrDom n f).errSeq = d.errSeq := rfl
@[simp] theorem Dev.updErrDom_sys (d : Dev) (n : Nat) (f : ErrDom → ErrDom) : (d.updErrDom n f).sys = d.sys := rfl
@[simp] theorem Dev.updErrDom_therm (d : Dev) (n : Nat) (f : ErrDom → ErrDom) : (d.updErrDom n f).therm = d.therm := rfl
@[simp] theorem Dev.updErrDom_tb (d : Dev) (n : Nat) (f : ErrDom → ErrDom) : (d.updErrDom n f).tb = d.tb := rfl
@[simp] theorem Dev.updErrDom_ce (d : Dev) (n : Nat) (f : ErrDom → ErrDom) : (d.updErrDom n f).ce = d.ce := rfl
@[simp] theorem Dev.updErrDom_pwm (d : Dev) (n : Nat) (f : ErrDom → ErrDom) : (d.updErrDom n f).pwm = d.pwm := rfl
@[simp] theorem Dev.updErrDom_aux (d : Dev) (n : Nat) (f : ErrDom → ErrDom) : (d.updErrDom n f).aux = d.aux := rfl
@[simp] theorem Dev.updErrDom_mea (d : Dev) (n : Nat) (f : ErrDom → ErrDom) : (d.updErrDom n f).mea = d.mea := rfl
@[simp] theorem Dev.updErrDom_dcl (d : Dev) (n : Nat) (f : ErrDom → ErrDom) : (d.updErrDom n f).dcl = d.dcl := rfl
@[simp] theorem Dev.updErrDom_drg (d : Dev) (n : Nat) (f : ErrDom → ErrDom) : (d.updErrDom n f).drg = d.drg := rfl
@[simp] theorem Dev.updErrDom_cans (d : Dev) (n : Nat) (f : ErrDom → ErrDom) : (d.updErrDom n f).cans = d.cans := rfl
@[simp] theorem Dev.updErrDom_saf (d : Dev) (n : Nat) (f : ErrDom → ErrDom) : (d.updErrDom n f).saf = d.saf := rfl
@[simp] theorem Dev.updErrDom_mm (d : Dev) (n : Nat) (f : ErrDom → ErrDom) : (d.updErrDom n f).mm = d.mm := rfl
@[simp] theorem Dev.updErrDom_img (d : Dev) (n : Nat) (f : ErrDom → ErrDom) : (d.updErrDom n f).img = d.img := rfl
@[simp] theorem Dev.updErrDom_tly (d : Dev) (n : Nat) (f : ErrDom → ErrDom) : (d.updErrDom n f).tly = d.tly := rfl
@[simp] theorem Dev.updErrDom_hst (d : Dev) (n : Nat) (f : ErrDom → ErrDom) : (d.updErrDom n f).hst = d.hst := rfl
@[simp] theorem Dev.updErrDom_word (d : Dev) (n : Nat) (f : ErrDom → ErrDom) (key : Nat) : (d.updErrDom n f).word key = d.word key := rfl
@[simp] theorem Dev.updErrDom_g (d : Dev) (n : Nat) (f : ErrDom → ErrDom) (r : RF) : (d.updErrDom n f).g r = d.g r := rfl
@[simp] theorem Dev.updErrDom_on (d : Dev) (n : Nat) (f : ErrDom → ErrDom) (r : RF) : (d.updErrDom n f).on r = d.on r := rfl
@[simp] theorem Dev.updErrDom_byte (d : Dev) (n : Nat) (f : ErrDom → ErrDom) (key : Nat) : (d.updErrDom n f).byte key = d.byte key := rfl
@[simp] theorem Dev.updErrDom_live (d : Dev) (n : Nat) (f : ErrDom → ErrDom) : (d.updErrDom n f).live = d.live := rfl

@[simp] theorem Dev.updImg_regs (d : Dev) (f : Img → Img) : (d.updImg f).regs = d.regs := rfl
@[simp] theorem Dev.updImg_mem (d : Dev) (f : Img → Img) : (d.updImg f).mem = d.mem := rfl
@[simp] theorem Dev.updImg_tick (d : Dev) (f : Img → Img) : (d.updImg f).tick = d.tick := rfl
@[simp] theorem Dev.updImg_free (d : Dev) (f : Img → Img) : (d.updImg f).free = d.free := rfl
@[simp] theorem Dev.updImg_raised (d : Dev) (f : Img → Img) : (d.updImg f).raised = d.raised := rfl
@[simp] theorem Dev.updImg_errSeq (d : Dev) (f : Img → Img) : (d.updImg f).errSeq = d.errSeq := rfl
@[simp] theorem Dev.updImg_errs (d : Dev) (f : Img → Img) : (d.updImg f).errs = d.errs := rfl
@[simp] theorem Dev.updImg_sys (d : Dev) (f : Img → Img) : (d.updImg f).sys = d.sys := rfl
@[simp] theorem Dev.updImg_therm (d : Dev) (f : Img → Img) : (d.updImg f).therm = d.therm := rfl
@[simp] theorem Dev.updImg_tb (d : Dev) (f : Img → Img) : (d.updImg f).tb = d.tb := rfl
@[simp] theorem Dev.updImg_ce (d : Dev) (f : Img → Img) : (d.updImg f).ce = d.ce := rfl
@[simp] theorem Dev.updImg_pwm (d : Dev) (f : Img → Img) : (d.updImg f).pwm = d.pwm := rfl
@[simp] theorem Dev.updImg_aux (d : Dev) (f : Img → Img) : (d.updImg f).aux = d.aux := rfl
@[simp] theorem Dev.updImg_mea (d : Dev) (f : Img → Img) : (d.updImg f).mea = d.mea := rfl
@[simp] theorem Dev.updImg_dcl (d : Dev) (f : Img → Img) : (d.updImg f).dcl = d.dcl := rfl
@[simp] theorem Dev.updImg_drg (d : Dev) (f : Img → Img) : (d.updImg f).drg = d.drg := rfl
@[simp] theorem Dev.updImg_cans (d : Dev) (f : Img → Img) : (d.updImg f).cans = d.cans := rfl
@[simp] theorem Dev.updImg_saf (d : Dev) (f : Img → Img) : (d.updImg f).saf = d.saf := rfl
@[simp] theorem Dev.updImg_mm (d : Dev) (f : Img → Img) : (d.updImg f).mm = d.mm := rfl
@[simp] theorem Dev.updImg_tly (d : Dev) (f : Img → Img) : (d.updImg f).tly = d.tly := rfl
@[simp] theorem Dev.updImg_hst (d : Dev) (f : Img → Img) : (d.updImg f).hst = d.hst := rfl
@[simp] theorem Dev.updImg_word (d : Dev) (f : Img → Img) (key : Nat) : (d.updImg f).word key = d.word key := rfl
@[simp] theorem Dev.updImg_g (d : Dev) (f : Img → Img) (r : RF) : (d.updImg f).g r = d.g r := rfl
@[simp] theorem Dev.updImg_on (d : Dev) (f : Img → Img) (r : RF) : (d.updImg f).on r = d.on r := rfl
@[simp] theorem Dev.updImg_byte (d : Dev) (f : Img → Img) (key : Nat) : (d.updImg f).byte key = d.byte key := rfl
@[simp] theorem Dev.updImg_live (d : Dev) (f : Img → Img) : (d.updImg f).live = d.live := rfl

@[simp] theorem Dev.updSaf_regs (d : Dev) (f : Saf → Saf) : (d.updSaf f).regs = d.regs := rfl
@[simp] theorem Dev.updSaf_mem (d : Dev) (f : Saf → Saf) : (d.updSaf f).mem = d.mem := rfl
@[simp] theorem Dev.updSaf_tick (d : Dev) (f : Saf → Saf) : (d.updSaf f).tick = d.tick := rfl
@[simp] theorem Dev.updSaf_free (d : Dev) (f : Saf → Saf) : (d.updSaf f).free = d.free := rfl
@[simp] theorem Dev.updSaf_raised (d : Dev) (f : Saf → Saf) : (d.updSaf f).raised = d.raised := rfl
@[simp] theorem Dev.updSaf_errSeq (d : Dev) (f : Saf → Saf) : (d.updSaf f).errSeq = d.errSeq := rfl
@[simp] theorem Dev.updSaf_errs (d : Dev) (f : Saf → Saf) : (d.updSaf f).errs = d.errs := rfl
@[simp] theorem Dev.updSaf_sys (d : Dev) (f : Saf → Saf) : (d.updSaf f).sys = d.sys := rfl
@[simp] theorem Dev.updSaf_therm (d : Dev) (f : Saf → Saf) : (d.updSaf f).therm = d.therm := rfl
@[simp] theorem Dev.updSaf_tb (d : Dev) (f : Saf → Saf) : (d.updSaf f).tb = d.tb := rfl
@[simp] theorem Dev.updSaf_ce (d : Dev) (f : Saf → Saf) : (d.updSaf f).ce = d.ce := rfl
@[simp] theorem Dev.updSaf_pwm (d : Dev) (f : Saf → Saf) : (d.updSaf f).pwm = d.pwm := rfl
@[simp] theorem Dev.updSaf_aux (d : Dev) (f : Saf → Saf) : (d.updSaf f).aux = d.aux := rfl
@[simp] theorem Dev.updSaf_mea (d : Dev) (f : Saf → Saf) : (d.updSaf f).mea = d.mea := rfl
@[simp] theorem Dev.updSaf_dcl (d : Dev) (f : Saf → Saf) : (d.updSaf f).dcl = d.dcl := rfl
@[simp] theorem Dev.updSaf_drg (d : Dev) (f : Saf → Saf) : (d.updSaf f).drg = d.drg := rfl
@[simp] theorem Dev.updSaf_cans (d : Dev) (f : Saf → Saf) : (d.updSaf f).cans = d.cans := rfl
@[simp] theorem Dev.updSaf_mm (d : Dev) (f : Saf → Saf) : (d.updSaf f).mm = d.mm := rfl
@[simp] theorem Dev.updSaf_img (d : Dev) (f : Saf → Saf) : (d.updSaf f).img = d.img := rfl
@[simp] theorem Dev.updSaf_tly (d : Dev) (f : Saf → Saf) : (d.updSaf f).tly = d.tly := rfl
@[simp] theorem Dev.updSaf_hst (d : Dev) (f : Saf → Saf) : (d.updSaf f).hst = d.hst := rfl
@[simp] theorem Dev.updSaf_word (d : Dev) (f : Saf → Saf) (key : Nat) : (d.updSaf f).word key = d.word key := rfl
@[simp] theorem Dev.updSaf_g (d : Dev) (f : Saf → Saf) (r : RF) : (d.updSaf f).g r = d.g r := rfl
@[simp] theorem Dev.updSaf_on (d : Dev) (f : Saf → Saf) (r : RF) : (d.updSaf f).on r = d.on r := rfl
@[simp] theorem Dev.updSaf_byte (d : Dev) (f : Saf → Saf) (key : Nat) : (d.updSaf f).byte key = d.byte key := rfl
@[simp] theorem Dev.updSaf_live (d : Dev) (f : Saf → Saf) : (d.updSaf f).live = d.live := rfl

@[simp] theorem Dev.updSafCh_regs (d : Dev) (k n : Nat) (f : SafCh → SafCh) : (d.updSafCh k n f).regs = d.regs := rfl
@[simp] theorem Dev.updSafCh_mem (d : Dev) (k n : Nat) (f : SafCh → SafCh) : (d.updSafCh k n f).mem = d.mem := rfl
@[simp] theorem Dev.updSafCh_tick (d : Dev) (k n : Nat) (f : SafCh → SafCh) : (d.updSafCh k n f).tick = d.tick := rfl
@[simp] theorem Dev.updSafCh_free (d : Dev) (k n : Nat) (f : SafCh → SafCh) : (d.updSafCh k n f).free = d.free := rfl
@[simp] theorem Dev.updSafCh_raised (d : Dev) (k n : Nat) (f : SafCh → SafCh) : (d.updSafCh k n f).raised = d.raised := rfl
@[simp] theorem Dev.updSafCh_errSeq (d : Dev) (k n : Nat) (f : SafCh → SafCh) : (d.updSafCh k n f).errSeq = d.errSeq := rfl
@[simp] theorem Dev.updSafCh_errs (d : Dev) (k n : Nat) (f : SafCh → SafCh) : (d.updSafCh k n f).errs = d.errs := rfl
@[simp] theorem Dev.updSafCh_sys (d : Dev) (k n : Nat) (f : SafCh → SafCh) : (d.updSafCh k n f).sys = d.sys := rfl
@[simp] theorem Dev.updSafCh_therm (d : Dev) (k n : Nat) (f : SafCh → SafCh) : (d.updSafCh k n f).therm = d.therm := rfl
@[simp] theorem Dev.updSafCh_tb (d : Dev) (k n : Nat) (f : SafCh → SafCh) : (d.updSafCh k n f).tb = d.tb := rfl
@[simp] theorem Dev.updSafCh_ce (d : Dev) (k n : Nat) (f : SafCh → SafCh) : (d.updSafCh k n f).ce = d.ce := rfl
@[simp] theorem Dev.updSafCh_pwm (d : Dev) (k n : Nat) (f : SafCh → SafCh) : (d.updSafCh k n f).pwm = d.pwm := rfl
@[simp] theorem Dev.updSafCh_aux (d : Dev) (k n : Nat) (f : SafCh → SafCh) : (d.updSafCh k n f).aux = d.aux := rfl
@[simp] theorem Dev.updSafCh_mea (d : Dev) (k n : Nat) (f : SafCh → SafCh) : (d.updSafCh k n f).mea = d.mea := rfl
@[simp] theorem Dev.updSafCh_dcl (d : Dev) (k n : Nat) (f : SafCh → SafCh) : (d.updSafCh k n f).dcl = d.dcl := rfl
@[simp] theorem Dev.updSafCh_drg (d : Dev) (k n : Nat) (f : SafCh → SafCh) : (d.updSafCh k n f).drg = d.drg := rfl
@[simp] theorem Dev.updSafCh_cans (d : Dev) (k n : Nat) (f : SafCh → SafCh) : (d.updSafCh k n f).cans = d.cans := rfl
@[simp] theorem Dev.updSafCh_mm (d : Dev) (k n : Nat) (f : SafCh → SafCh) : (d.updSafCh k n f).mm = d.mm := rfl
@[simp] theorem Dev.updSafCh_img (d : Dev) (k n : Nat) (f : SafCh → SafCh) : (d.updSafCh k n f).img = d.img := rfl
@[simp] theorem Dev.updSafCh_tly (d : Dev) (k n : Nat) (f : SafCh → SafCh) : (d.updSafCh k n f).tly = d.tly := rfl
@[simp] theorem Dev.updSafCh_hst (d : Dev) (k n : Nat) (f : SafCh → SafCh) : (d.updSafCh k n f).hst = d.hst := rfl
@[simp] theorem Dev.updSafCh_word (d : Dev) (k n : Nat) (f : SafCh → SafCh) (key : Nat) : (d.updSafCh k n f).word key = d.word key := rfl
@[simp] theorem Dev.updSafCh_g (d : Dev) (k n : Nat) (f : SafCh → SafCh) (r : RF) : (d.updSafCh k n f).g r = d.g r := rfl
@[simp] theorem Dev.updSafCh_on (d : Dev) (k n : Nat) (f : SafCh → SafCh) (r : RF) : (d.updSafCh k n f).on r = d.on r := rfl
@[simp] theorem Dev.updSafCh_byte (d : Dev) (k n : Nat) (f : SafCh → SafCh) (key : Nat) : (d.updSafCh k n f).byte key = d.byte key := rfl
@[simp] theorem Dev.updSafCh_live (d : Dev) (k n : Nat) (f : SafCh → SafCh) : (d.updSafCh k n f).live = d.live := rfl

@[simp] theorem Dev.updPair_regs (d : Dev) (n : Nat) (f : SafPair → SafPair) : (d.updPair n f).regs = d.regs := rfl
@[simp] theorem Dev.updPair_mem (d : Dev) (n : Nat) (f : SafPair → SafPair) : (d.updPair n f).mem = d.mem := rfl
@[simp] theorem Dev.updPair_tick (d : Dev) (n : Nat) (f : SafPair → SafPair) : (d.updPair n f).tick = d.tick := rfl
@[simp] theorem Dev.updPair_free (d : Dev) (n : Nat) (f : SafPair → SafPair) : (d.updPair n f).free = d.free := rfl
@[simp] theorem Dev.updPair_raised (d : Dev) (n : Nat) (f : SafPair → SafPair) : (d.updPair n f).raised = d.raised := rfl
@[simp] theorem Dev.updPair_errSeq (d : Dev) (n : Nat) (f : SafPair → SafPair) : (d.updPair n f).errSeq = d.errSeq := rfl
@[simp] theorem Dev.updPair_errs (d : Dev) (n : Nat) (f : SafPair → SafPair) : (d.updPair n f).errs = d.errs := rfl
@[simp] theorem Dev.updPair_sys (d : Dev) (n : Nat) (f : SafPair → SafPair) : (d.updPair n f).sys = d.sys := rfl
@[simp] theorem Dev.updPair_therm (d : Dev) (n : Nat) (f : SafPair → SafPair) : (d.updPair n f).therm = d.therm := rfl
@[simp] theorem Dev.updPair_tb (d : Dev) (n : Nat) (f : SafPair → SafPair) : (d.updPair n f).tb = d.tb := rfl
@[simp] theorem Dev.updPair_ce (d : Dev) (n : Nat) (f : SafPair → SafPair) : (d.updPair n f).ce = d.ce := rfl
@[simp] theorem Dev.updPair_pwm (d : Dev) (n : Nat) (f : SafPair → SafPair) : (d.updPair n f).pwm = d.pwm := rfl
@[simp] theorem Dev.updPair_aux (d : Dev) (n : Nat) (f : SafPair → SafPair) : (d.updPair n f).aux = d.aux := rfl
@[simp] theorem Dev.updPair_mea (d : Dev) (n : Nat) (f : SafPair → SafPair) : (d.updPair n f).mea = d.mea := rfl
@[simp] theorem Dev.updPair_dcl (d : Dev) (n : Nat) (f : SafPair → SafPair) : (d.updPair n f).dcl = d.dcl := rfl
@[simp] theorem Dev.updPair_drg (d : Dev) (n : Nat) (f : SafPair → SafPair) : (d.updPair n f).drg = d.drg := rfl
@[simp] theorem Dev.updPair_cans (d : Dev) (n : Nat) (f : SafPair → SafPair) : (d.updPair n f).cans = d.cans := rfl
@[simp] theorem Dev.updPair_mm (d : Dev) (n : Nat) (f : SafPair → SafPair) : (d.updPair n f).mm = d.mm := rfl
@[simp] theorem Dev.updPair_img (d : Dev) (n : Nat) (f : SafPair → SafPair) : (d.updPair n f).img = d.img := rfl
@[simp] theorem Dev.updPair_tly (d : Dev) (n : Nat) (f : SafPair → SafPair) : (d.updPair n f).tly = d.tly := rfl
@[simp] theorem Dev.updPair_hst (d : Dev) (n : Nat) (f : SafPair → SafPair) : (d.updPair n f).hst = d.hst := rfl
@[simp] theorem Dev.updPair_word (d : Dev) (n : Nat) (f : SafPair → SafPair) (key : Nat) : (d.updPair n f).word key = d.word key := rfl
@[simp] theorem Dev.updPair_g (d : Dev) (n : Nat) (f : SafPair → SafPair) (r : RF) : (d.updPair n f).g r = d.g r := rfl
@[simp] theorem Dev.updPair_on (d : Dev) (n : Nat) (f : SafPair → SafPair) (r : RF) : (d.updPair n f).on r = d.on r := rfl
@[simp] theorem Dev.updPair_byte (d : Dev) (n : Nat) (f : SafPair → SafPair) (key : Nat) : (d.updPair n f).byte key = d.byte key := rfl
@[simp] theorem Dev.updPair_live (d : Dev) (n : Nat) (f : SafPair → SafPair) : (d.updPair n f).live = d.live := rfl

@[simp] theorem Dev.updConn_regs (d : Dev) (n : Nat) (f : SafConn → SafConn) : (d.updConn n f).regs = d.regs := rfl
@[simp] theorem Dev.updConn_mem (d : Dev) (n : Nat) (f : SafConn → SafConn) : (d.updConn n f).mem = d.mem := rfl
@[simp] theorem Dev.updConn_tick (d : Dev) (n : Nat) (f : SafConn → SafConn) : (d.updConn n f).tick = d.tick := rfl
@[simp] theorem Dev.updConn_free (d : Dev) (n : Nat) (f : SafConn → SafConn) : (d.updConn n f).free = d.free := rfl
@[simp] theorem Dev.updConn_raised (d : Dev) (n : Nat) (f : SafConn → SafConn) : (d.updConn n f).raised = d.raised := rfl
@[simp] theorem Dev.updConn_errSeq (d : Dev) (n : Nat) (f : SafConn → SafConn) : (d.updConn n f).errSeq = d.errSeq := rfl
@[simp] theorem Dev.updConn_errs (d : Dev) (n : Nat) (f : SafConn → SafConn) : (d.updConn n f).errs = d.errs := rfl
@[simp] theorem Dev.updConn_sys (d : Dev) (n : Nat) (f : SafConn → SafConn) : (d.updConn n f).sys = d.sys := rfl
@[simp] theorem Dev.updConn_therm (d : Dev) (n : Nat) (f : SafConn → SafConn) : (d.updConn n f).therm = d.therm := rfl
@[simp] theorem Dev.updConn_tb (d : Dev) (n : Nat) (f : SafConn → SafConn) : (d.updConn n f).tb = d.tb := rfl
@[simp] theorem Dev.updConn_ce (d : Dev) (n : Nat) (f : SafConn → SafConn) : (d.updConn n f).ce = d.ce := rfl
@[simp] theorem Dev.updConn_pwm (d : Dev) (n : Nat) (f : SafConn → SafConn) : (d.updConn n f).pwm = d.pwm := rfl
@[simp] theorem Dev.updConn_aux (d : Dev) (n : Nat) (f : SafConn → SafConn) : (d.updConn n f).aux = d.aux := rfl
@[simp] theorem Dev.updConn_mea (d : Dev) (n : Nat) (f : SafConn → SafConn) : (d.updConn n f).mea = d.mea := rfl
@[simp] theorem Dev.updConn_dcl (d : Dev) (n : Nat) (f : SafConn → SafConn) : (d.updConn n f).dcl = d.dcl := rfl
@[simp] theorem Dev.updConn_drg (d : Dev) (n : Nat) (f : SafConn → SafConn) : (d.updConn n f).drg = d.drg := rfl
@[simp] theorem Dev.updConn_cans (d : Dev) (n : Nat) (f : SafConn → SafConn) : (d.updConn n f).cans = d.cans := rfl
@[simp] theorem Dev.updConn_mm (d : Dev) (n : Nat) (f : SafConn → SafConn) : (d.updConn n f).mm = d.mm := rfl
@[simp] theorem Dev.updConn_img (d : Dev) (n : Nat) (f : SafConn → SafConn) : (d.updConn n f).img = d.img := rfl
@[simp] theorem Dev.updConn_tly (d : Dev) (n : Nat) (f : SafConn → SafConn) : (d.updConn n f).tly = d.tly := rfl
@[simp] theorem Dev.updConn_hst (d : Dev) (n : Nat) (f : SafConn → SafConn) : (d.updConn n f).hst = d.hst := rfl
@[simp] theorem Dev.updConn_word (d : Dev) (n : Nat) (f : SafConn → SafConn) (key : Nat) : (d.updConn n f).word key = d.word key := rfl
@[simp] theorem Dev.updConn_g (d : Dev) (n : Nat) (f : SafConn → SafConn) (r : RF) : (d.updConn n f).g r = d.g r := rfl
@[simp] theorem Dev.updConn_on (d : Dev) (n : Nat) (f : SafConn → SafConn) (r : RF) : (d.updConn n f).on r = d.on r := rfl
@[simp] theorem Dev.updConn_byte (d : Dev) (n : Nat) (f : SafConn → SafConn) (key : Nat) : (d.updConn n f).byte key = d.byte key := rfl
@[simp] theorem Dev.updConn_live (d : Dev) (n : Nat) (f : SafConn → SafConn) : (d.updConn n f).live = d.live := rfl

@[simp] theorem Dev.updSd_regs (d : Dev) (n : Nat) (f : SdIn → SdIn) : (d.updSd n f).regs = d.regs := rfl
@[simp] theorem Dev.updSd_mem (d : Dev) (n : Nat) (f : SdIn → SdIn) : (d.updSd n f).mem = d.mem := rfl
@[simp] theorem Dev.updSd_tick (d : Dev) (n : Nat) (f : SdIn → SdIn) : (d.updSd n f).tick = d.tick := rfl
@[simp] theorem Dev.updSd_free (d : Dev) (n : Nat) (f : SdIn → SdIn) : (d.updSd n f).free = d.free := rfl
@[simp] theorem Dev.updSd_raised (d : Dev) (n : Nat) (f : SdIn → SdIn) : (d.updSd n f).raised = d.raised := rfl
@[simp] theorem Dev.updSd_errSeq (d : Dev) (n : Nat) (f : SdIn → SdIn) : (d.updSd n f).errSeq = d.errSeq := rfl
@[simp] theorem Dev.updSd_errs (d : Dev) (n : Nat) (f : SdIn → SdIn) : (d.updSd n f).errs = d.errs := rfl
@[simp] theorem Dev.updSd_sys (d : Dev) (n : Nat) (f : SdIn → SdIn) : (d.updSd n f).sys = d.sys := rfl
@[simp] theorem Dev.updSd_therm (d : Dev) (n : Nat) (f : SdIn → SdIn) : (d.updSd n f).therm = d.therm := rfl
@[simp] theorem Dev.updSd_tb (d : Dev) (n : Nat) (f : SdIn → SdIn) : (d.updSd n f).tb = d.tb := rfl
@[simp] theorem Dev.updSd_ce (d : Dev) (n : Nat) (f : SdIn → SdIn) : (d.updSd n f).ce = d.ce := rfl
@[simp] theorem Dev.updSd_pwm (d : Dev) (n : Nat) (f : SdIn → SdIn) : (d.updSd n f).pwm = d.pwm := rfl
@[simp] theorem Dev.updSd_aux (d : Dev) (n : Nat) (f : SdIn → SdIn) : (d.updSd n f).aux = d.aux := rfl
@[simp] theorem Dev.updSd_dcl (d : Dev) (n : Nat) (f : SdIn → SdIn) : (d.updSd n f).dcl = d.dcl := rfl
@[simp] theorem Dev.updSd_drg (d : Dev) (n : Nat) (f : SdIn → SdIn) : (d.updSd n f).drg = d.drg := rfl
@[simp] theorem Dev.updSd_cans (d : Dev) (n : Nat) (f : SdIn → SdIn) : (d.updSd n f).cans = d.cans := rfl
@[simp] theorem Dev.updSd_saf (d : Dev) (n : Nat) (f : SdIn → SdIn) : (d.updSd n f).saf = d.saf := rfl
@[simp] theorem Dev.updSd_mm (d : Dev) (n : Nat) (f : SdIn → SdIn) : (d.updSd n f).mm = d.mm := rfl
@[simp] theorem Dev.updSd_img (d : Dev) (n : Nat) (f : SdIn → SdIn) : (d.updSd n f).img = d.img := rfl
@[simp] theorem Dev.updSd_tly (d : Dev) (n : Nat) (f : SdIn → SdIn) : (d.updSd n f).tly = d.tly := rfl
@[simp] theorem Dev.updSd_hst (d : Dev) (n : Nat) (f : SdIn → SdIn) : (d.updSd n f).hst = d.hst := rfl
@[simp] theorem Dev.updSd_word (d : Dev) (n : Nat) (f : SdIn → SdIn) (key : Nat) : (d.updSd n f).word key = d.word key := rfl
@[simp] theorem Dev.updSd_g (d : Dev) (n : Nat) (f : SdIn → SdIn) (r : RF) : (d.updSd n f).g r = d.g r := rfl
@[simp] theorem Dev.updSd_on (d : Dev) (n : Nat) (f : SdIn → SdIn) (r : RF) : (d.updSd n f).on r = d.on r := rfl
@[simp] theorem Dev.updSd_byte (d : Dev) (n : Nat) (f : SdIn → SdIn) (key : Nat) : (d.updSd n f).byte key = d.byte key := rfl
@[simp] theorem Dev.updSd_live (d : Dev) (n : Nat) (f : SdIn → SdIn) : (d.updSd n f).live = d.live := rfl

@[simp] theorem Dev.updSar_regs (d : Dev) (n : Nat) (f : SarCh → SarCh) : (d.updSar n f).regs = d.regs := rfl
@[simp] theorem Dev.updSar_mem (d : Dev) (n : Nat) (f : SarCh → SarCh) : (d.updSar n f).mem = d.mem := rfl
@[simp] theorem Dev.updSar_tick (d : Dev) (n : Nat) (f : SarCh → SarCh) : (d.updSar n f).tick = d.tick := rfl
@[simp] theorem Dev.updSar_free (d : Dev) (n : Nat) (f : SarCh → SarCh) : (d.updSar n f).free = d.free := rfl
@[simp] theorem Dev.updSar_raised (d : Dev) (n : Nat) (f : SarCh → SarCh) : (d.updSar n f).raised = d.raised := rfl
@[simp] theorem Dev.updSar_errSeq (d : Dev) (n : Nat) (f : SarCh → SarCh) : (d.updSar n f).errSeq = d.errSeq := rfl
@[simp] theorem Dev.updSar_errs (d : Dev) (n : Nat) (f : SarCh → SarCh) : (d.updSar n f).errs = d.errs := rfl
@[simp] theorem Dev.updSar_sys (d : Dev) (n : Nat) (f : SarCh → SarCh) : (d.updSar n f).sys = d.sys := rfl
@[simp] theorem Dev.updSar_therm (d : Dev) (n : Nat) (f : SarCh → SarCh) : (d.updSar n f).therm = d.therm := rfl
@[simp] theorem Dev.updSar_tb (d : Dev) (n : Nat) (f : SarCh → SarCh) : (d.updSar n f).tb = d.tb := rfl
@[simp] theorem Dev.updSar_ce (d : Dev) (n : Nat) (f : SarCh → SarCh) : (d.updSar n f).ce = d.ce := rfl
@[simp] theorem Dev.updSar_pwm (d : Dev) (n : Nat) (f : SarCh → SarCh) : (d.updSar n f).pwm = d.pwm := rfl
@[simp] theorem Dev.updSar_aux (d : Dev) (n : Nat) (f : SarCh → SarCh) : (d.updSar n f).aux = d.aux := rfl
@[simp] theorem Dev.updSar_dcl (d : Dev) (n : Nat) (f : SarCh → SarCh) : (d.updSar n f).dcl = d.dcl := rfl
@[simp] theorem Dev.updSar_drg (d : Dev) (n : Nat) (f : SarCh → SarCh) : (d.updSar n f).drg = d.drg := rfl
@[simp] theorem Dev.updSar_cans (d : Dev) (n : Nat) (f : SarCh → SarCh) : (d.updSar n f).cans = d.cans := rfl
@[simp] theorem Dev.updSar_saf (d : Dev) (n : Nat) (f : SarCh → SarCh) : (d.updSar n f).saf = d.saf := rfl
@[simp] theorem Dev.updSar_mm (d : Dev) (n : Nat) (f : SarCh → SarCh) : (d.updSar n f).mm = d.mm := rfl
@[simp] theorem Dev.updSar_img (d : Dev) (n : Nat) (f : SarCh → SarCh) : (d.updSar n f).img = d.img := rfl
@[simp] theorem Dev.updSar_tly (d : Dev) (n : Nat) (f : SarCh → SarCh) : (d.updSar n f).tly = d.tly := rfl
@[simp] theorem Dev.updSar_hst (d : Dev) (n : Nat) (f : SarCh → SarCh) : (d.updSar n f).hst = d.hst := rfl
@[simp] theorem Dev.updSar_word (d : Dev) (n : Nat) (f : SarCh → SarCh) (key : Nat) : (d.updSar n f).word key = d.word key := rfl
@[simp] theorem Dev.updSar_g (d : Dev) (n : Nat) (f : SarCh → SarCh) (r : RF) : (d.updSar n f).g r = d.g r := rfl
@[simp] theorem Dev.updSar_on (d : Dev) (n : Nat) (f : SarCh → SarCh) (r : RF) : (d.updSar n f).on r = d.on r := rfl
@[simp] theorem Dev.updSar_byte (d : Dev) (n : Nat) (f : SarCh → SarCh) (key : Nat) : (d.updSar n f).byte key = d.byte key := rfl
@[simp] theorem Dev.updSar_live (d : Dev) (n : Nat) (f : SarCh → SarCh) : (d.updSar n f).live = d.live := rfl

@[simp] theorem Dev.updRsv_regs (d : Dev) (n : Nat) (f : Rsv → Rsv) : (d.updRsv n f).regs = d.regs := rfl
@[simp] theorem Dev.updRsv_mem (d : Dev) (n : Nat) (f : Rsv → Rsv) : (d.updRsv n f).mem = d.mem := rfl
@[simp] theorem Dev.updRsv_tick (d : Dev) (n : Nat) (f : Rsv → Rsv) : (d.updRsv n f).tick = d.tick := rfl
@[simp] theorem Dev.updRsv_free (d : Dev) (n : Nat) (f : Rsv → Rsv) : (d.updRsv n f).free = d.free := rfl
@[simp] theorem Dev.updRsv_raised (d : Dev) (n : Nat) (f : Rsv → Rsv) : (d.updRsv n f).raised = d.raised := rfl
@[simp] theorem Dev.updRsv_errSeq (d : Dev) (n : Nat) (f : Rsv → Rsv) : (d.updRsv n f).errSeq = d.errSeq := rfl
@[simp] theorem Dev.updRsv_errs (d : Dev) (n : Nat) (f : Rsv → Rsv) : (d.updRsv n f).errs = d.errs := rfl
@[simp] theorem Dev.updRsv_sys (d : Dev) (n : Nat) (f : Rsv → Rsv) : (d.updRsv n f).sys = d.sys := rfl
@[simp] theorem Dev.updRsv_therm (d : Dev) (n : Nat) (f : Rsv → Rsv) : (d.updRsv n f).therm = d.therm := rfl
@[simp] theorem Dev.updRsv_tb (d : Dev) (n : Nat) (f : Rsv → Rsv) : (d.updRsv n f).tb = d.tb := rfl
@[simp] theorem Dev.updRsv_ce (d : Dev) (n : Nat) (f : Rsv → Rsv) : (d.updRsv n f).ce = d.ce := rfl
@[simp] theorem Dev.updRsv_pwm (d : Dev) (n : Nat) (f : Rsv → Rsv) : (d.updRsv n f).pwm = d.pwm := rfl
@[simp] theorem Dev.updRsv_aux (d : Dev) (n : Nat) (f : Rsv → Rsv) : (d.updRsv n f).aux = d.aux := rfl
@[simp] theorem Dev.updRsv_dcl (d : Dev) (n : Nat) (f : Rsv → Rsv) : (d.updRsv n f).dcl = d.dcl := rfl
@[simp] theorem Dev.updRsv_drg (d : Dev) (n : Nat) (f : Rsv → Rsv) : (d.updRsv n f).drg = d.drg := rfl
@[simp] theorem Dev.updRsv_cans (d : Dev) (n : Nat) (f : Rsv → Rsv) : (d.updRsv n f).cans = d.cans := rfl
@[simp] theorem Dev.updRsv_saf (d : Dev) (n : Nat) (f : Rsv → Rsv) : (d.updRsv n f).saf = d.saf := rfl
@[simp] theorem Dev.updRsv_mm (d : Dev) (n : Nat) (f : Rsv → Rsv) : (d.updRsv n f).mm = d.mm := rfl
@[simp] theorem Dev.updRsv_img (d : Dev) (n : Nat) (f : Rsv → Rsv) : (d.updRsv n f).img = d.img := rfl
@[simp] theorem Dev.updRsv_tly (d : Dev) (n : Nat) (f : Rsv → Rsv) : (d.updRsv n f).tly = d.tly := rfl
@[simp] theorem Dev.updRsv_hst (d : Dev) (n : Nat) (f : Rsv → Rsv) : (d.updRsv n f).hst = d.hst := rfl
@[simp] theorem Dev.updRsv_word (d : Dev) (n : Nat) (f : Rsv → Rsv) (key : Nat) : (d.updRsv n f).word key = d.word key := rfl
@[simp] theorem Dev.updRsv_g (d : Dev) (n : Nat) (f : Rsv → Rsv) (r : RF) : (d.updRsv n f).g r = d.g r := rfl
@[simp] theorem Dev.updRsv_on (d : Dev) (n : Nat) (f : Rsv → Rsv) (r : RF) : (d.updRsv n f).on r = d.on r := rfl
@[simp] theorem Dev.updRsv_byte (d : Dev) (n : Nat) (f : Rsv → Rsv) (key : Nat) : (d.updRsv n f).byte key = d.byte key := rfl
@[simp] theorem Dev.updRsv_live (d : Dev) (n : Nat) (f : Rsv → Rsv) : (d.updRsv n f).live = d.live := rfl

@[simp] theorem Dev.updEnc_regs (d : Dev) (n : Nat) (f : Enc → Enc) : (d.updEnc n f).regs = d.regs := rfl
@[simp] theorem Dev.updEnc_mem (d : Dev) (n : Nat) (f : Enc → Enc) : (d.updEnc n f).mem = d.mem := rfl
@[simp] theorem Dev.updEnc_tick (d : Dev) (n : Nat) (f : Enc → Enc) : (d.updEnc n f).tick = d.tick := rfl
@[simp] theorem Dev.updEnc_free (d : Dev) (n : Nat) (f : Enc → Enc) : (d.updEnc n f).free = d.free := rfl
@[simp] theorem Dev.updEnc_raised (d : Dev) (n : Nat) (f : Enc → Enc) : (d.updEnc n f).raised = d.raised := rfl
@[simp] theorem Dev.updEnc_errSeq (d : Dev) (n : Nat) (f : Enc → Enc) : (d.updEnc n f).errSeq = d.errSeq := rfl
@[simp] theorem Dev.updEnc_errs (d : Dev) (n : Nat) (f : Enc → Enc) : (d.updEnc n f).errs = d.errs := rfl
@[simp] theorem Dev.updEnc_sys (d : Dev) (n : Nat) (f : Enc → Enc) : (d.updEnc n f).sys = d.sys := rfl
@[simp] theorem Dev.updEnc_therm (d : Dev) (n : Nat) (f : Enc → Enc) : (d.updEnc n f).therm = d.therm := rfl
@[simp] theorem Dev.updEnc_tb (d : Dev) (n : Nat) (f : Enc → Enc) : (d.updEnc n f).tb = d.tb := rfl
@[simp] theorem Dev.updEnc_ce (d : Dev) (n : Nat) (f : Enc → Enc) : (d.updEnc n f).ce = d.ce := rfl
@[simp] theorem Dev.updEnc_pwm (d : Dev) (n : Nat) (f : Enc → Enc) : (d.updEnc n f).pwm = d.pwm := rfl
@[simp] theorem Dev.updEnc_aux (d : Dev) (n : Nat) (f : Enc → Enc) : (d.updEnc n f).aux = d.aux := rfl
@[simp] theorem Dev.updEnc_dcl (d : Dev) (n : Nat) (f : Enc → Enc) : (d.updEnc n f).dcl = d.dcl := rfl
@[simp] theorem Dev.updEnc_drg (d : Dev) (n : Nat) (f : Enc → Enc) : (d.updEnc n f).drg = d.drg := rfl
@[simp] theorem Dev.updEnc_cans (d : Dev) (n : Nat) (f : Enc → Enc) : (d.updEnc n f).cans = d.cans := rfl
@[simp] theorem Dev.updEnc_saf (d : Dev) (n : Nat) (f : Enc → Enc) : (d.updEnc n f).saf = d.saf := rfl
@[simp] theorem Dev.updEnc_mm (d : Dev) (n : Nat) (f : Enc → Enc) : (d.updEnc n f).mm = d.mm := rfl
@[simp] theorem Dev.updEnc_img (d : Dev) (n : Nat) (f : Enc → Enc) : (d.updEnc n f).img = d.img := rfl
@[simp] theorem Dev.updEnc_tly (d : Dev) (n : Nat) (f : Enc → Enc) : (d.updEnc n f).tly = d.tly := rfl
@[simp] theorem Dev.updEnc_hst (d : Dev) (n : Nat) (f : Enc → Enc) : (d.updEnc n f).hst = d.hst := rfl
@[simp] theorem Dev.updEnc_word (d : Dev) (n : Nat) (f : Enc → Enc) (key : Nat) : (d.updEnc n f).word key = d.word key := rfl
@[simp] theorem Dev.updEnc_g (d : Dev) (n : Nat) (f : Enc → Enc) (r : RF) : (d.updEnc n f).g r = d.g r := rfl
@[simp] theorem Dev.updEnc_on (d : Dev) (n : Nat) (f : Enc → Enc) (r : RF) : (d.updEnc n f).on r = d.on r := rfl
@[simp] theorem Dev.updEnc_byte (d : Dev) (n : Nat) (f : Enc → Enc) (key : Nat) : (d.updEnc n f).byte key = d.byte key := rfl
@[simp] theorem Dev.updEnc_live (d : Dev) (n : Nat) (f : Enc → Enc) : (d.updEnc n f).live = d.live := rfl

@[simp] theorem Dev.updSsi_regs (d : Dev) (n : Nat) (f : Ssi → Ssi) : (d.updSsi n f).regs = d.regs := rfl
@[simp] theorem Dev.updSsi_mem (d : Dev) (n : Nat) (f : Ssi → Ssi) : (d.updSsi n f).mem = d.mem := rfl
@[simp] theorem Dev.updSsi_tick (d : Dev) (n : Nat) (f : Ssi → Ssi) : (d.updSsi n f).tick = d.tick := rfl
@[simp] theorem Dev.updSsi_free (d : Dev) (n : Nat) (f : Ssi → Ssi) : (d.updSsi n f).free = d.free := rfl
@[simp] theorem Dev.updSsi_raised (d : Dev) (n : Nat) (f : Ssi → Ssi) : (d.updSsi n f).raised = d.raised := rfl
@[simp] theorem Dev.updSsi_errSeq (d : Dev) (n : Nat) (f : Ssi → Ssi) : (d.updSsi n f).errSeq = d.errSeq := rfl
@[simp] theorem Dev.updSsi_errs (d : Dev) (n : Nat) (f : Ssi → Ssi) : (d.updSsi n f).errs = d.errs := rfl
@[simp] theorem Dev.updSsi_sys (d : Dev) (n : Nat) (f : Ssi → Ssi) : (d.updSsi n f).sys = d.sys := rfl
@[simp] theorem Dev.updSsi_therm (d : Dev) (n : Nat) (f : Ssi → Ssi) : (d.updSsi n f).therm = d.therm := rfl
@[simp] theorem Dev.updSsi_tb (d : Dev) (n : Nat) (f : Ssi → Ssi) : (d.updSsi n f).tb = d.tb := rfl
@[simp] theorem Dev.updSsi_ce (d : Dev) (n : Nat) (f : Ssi → Ssi) : (d.updSsi n f).ce = d.ce := rfl
@[simp] theorem Dev.updSsi_pwm (d : Dev) (n : Nat) (f : Ssi → Ssi) : (d.updSsi n f).pwm = d.pwm := rfl
@[simp] theorem Dev.updSsi_aux (d : Dev) (n : Nat) (f : Ssi → Ssi) : (d.updSsi n f).aux = d.aux := rfl
@[simp] theorem Dev.updSsi_dcl (d : Dev) (n : Nat) (f : Ssi → Ssi) : (d.updSsi n f).dcl = d.dcl := rfl
@[simp] theorem Dev.updSsi_drg (d : Dev) (n : Nat) (f : Ssi → Ssi) : (d.updSsi n f).drg = d.drg := rfl
@[simp] theorem Dev.updSsi_cans (d : Dev) (n : Nat) (f : Ssi → Ssi) : (d.updSsi n f).cans = d.cans := rfl
@[simp] theorem Dev.updSsi_saf (d : Dev) (n : Nat) (f : Ssi → Ssi) : (d.updSsi n f).saf = d.saf := rfl
@[simp] theorem Dev.updSsi_mm (d : Dev) (n : Nat) (f : Ssi → Ssi) : (d.updSsi n f).mm = d.mm := rfl
@[simp] theorem Dev.updSsi_img (d : Dev) (n : Nat) (f : Ssi → Ssi) : (d.updSsi n f).img = d.img := rfl
@[simp] theorem Dev.updSsi_tly (d : Dev) (n : Nat) (f : Ssi → Ssi) : (d.updSsi n f).tly = d.tly := rfl
@[simp] theorem Dev.updSsi_hst (d : Dev) (n : Nat) (f : Ssi → Ssi) : (d.updSsi n f).hst = d.hst := rfl
@[simp] theorem Dev.updSsi_word (d : Dev) (n : Nat) (f : Ssi → Ssi) (key : Nat) : (d.updSsi n f).word key = d.word key := rfl
@[simp] theorem Dev.updSsi_g (d : Dev) (n : Nat) (f : Ssi → Ssi) (r : RF) : (d.updSsi n f).g r = d.g r := rfl
@[simp] theorem Dev.updSsi_on (d : Dev) (n : Nat) (f : Ssi → Ssi) (r : RF) : (d.updSsi n f).on r = d.on r := rfl
@[simp] theorem Dev.updSsi_byte (d : Dev) (n : Nat) (f : Ssi → Ssi) (key : Nat) : (d.updSsi n f).byte key = d.byte key := rfl
@[simp] theorem Dev.updSsi_live (d : Dev) (n : Nat) (f : Ssi → Ssi) : (d.updSsi n f).live = d.live := rfl

@[simp] theorem Dev.updPtp_regs (d : Dev) (n : Nat) (f : PtpClock → PtpClock) : (d.updPtp n f).regs = d.regs := rfl
@[simp] theorem Dev.updPtp_mem (d : Dev) (n : Nat) (f : PtpClock → PtpClock) : (d.updPtp n f).mem = d.mem := rfl
@[simp] theorem Dev.updPtp_tick (d : Dev) (n : Nat) (f : PtpClock → PtpClock) : (d.updPtp n f).tick = d.tick := rfl
@[simp] theorem Dev.updPtp_free (d : Dev) (n : Nat) (f : PtpClock → PtpClock) : (d.updPtp n f).free = d.free := rfl
@[simp] theorem Dev.updPtp_raised (d : Dev) (n : Nat) (f : PtpClock → PtpClock) : (d.updPtp n f).raised = d.raised := rfl
@[simp] theorem Dev.updPtp_errSeq (d : Dev) (n : Nat) (f : PtpClock → PtpClock) : (d.updPtp n f).errSeq = d.errSeq := rfl
@[simp] theorem Dev.updPtp_errs (d : Dev) (n : Nat) (f : PtpClock → PtpClock) : (d.updPtp n f).errs = d.errs := rfl
@[simp] theorem Dev.updPtp_sys (d : Dev) (n : Nat) (f : PtpClock → PtpClock) : (d.updPtp n f).sys = d.sys := rfl
@[simp] theorem Dev.updPtp_therm (d : Dev) (n : Nat) (f : PtpClock → PtpClock) : (d.updPtp n f).therm = d.therm := rfl
@[simp] theorem Dev.updPtp_tb (d : Dev) (n : Nat) (f : PtpClock → PtpClock) : (d.updPtp n f).tb = d.tb := rfl
@[simp] theorem Dev.updPtp_ce (d : Dev) (n : Nat) (f : PtpClock → PtpClock) : (d.updPtp n f).ce = d.ce := rfl
@[simp] theorem Dev.updPtp_pwm (d : Dev) (n : Nat) (f : PtpClock → PtpClock) : (d.updPtp n f).pwm = d.pwm := rfl
@[simp] theorem Dev.updPtp_aux (d : Dev) (n : Nat) (f : PtpClock → PtpClock) : (d.updPtp n f).aux = d.aux := rfl
@[simp] theorem Dev.updPtp_mea (d : Dev) (n : Nat) (f : PtpClock → PtpClock) : (d.updPtp n f).mea = d.mea := rfl
@[simp] theorem Dev.updPtp_dcl (d : Dev) (n : Nat) (f : PtpClock → PtpClock) : (d.updPtp n f).dcl = d.dcl := rfl
@[simp] theorem Dev.updPtp_drg (d : Dev) (n : Nat) (f : PtpClock → PtpClock) : (d.updPtp n f).drg = d.drg := rfl
@[simp] theorem Dev.updPtp_cans (d : Dev) (n : Nat) (f : PtpClock → PtpClock) : (d.updPtp n f).cans = d.cans := rfl
@[simp] theorem Dev.updPtp_saf (d : Dev) (n : Nat) (f : PtpClock → PtpClock) : (d.updPtp n f).saf = d.saf := rfl
@[simp] theorem Dev.updPtp_mm (d : Dev) (n : Nat) (f : PtpClock → PtpClock) : (d.updPtp n f).mm = d.mm := rfl
@[simp] theorem Dev.updPtp_img (d : Dev) (n : Nat) (f : PtpClock → PtpClock) : (d.updPtp n f).img = d.img := rfl
@[simp] theorem Dev.updPtp_tly (d : Dev) (n : Nat) (f : PtpClock → PtpClock) : (d.updPtp n f).tly = d.tly := rfl
@[simp] theorem Dev.updPtp_word (d : Dev) (n : Nat) (f : PtpClock → PtpClock) (key : Nat) : (d.updPtp n f).word key = d.word key := rfl
@[simp] theorem Dev.updPtp_g (d : Dev) (n : Nat) (f : PtpClock → PtpClock) (r : RF) : (d.updPtp n f).g r = d.g r := rfl
@[simp] theorem Dev.updPtp_on (d : Dev) (n : Nat) (f : PtpClock → PtpClock) (r : RF) : (d.updPtp n f).on r = d.on r := rfl
@[simp] theorem Dev.updPtp_byte (d : Dev) (n : Nat) (f : PtpClock → PtpClock) (key : Nat) : (d.updPtp n f).byte key = d.byte key := rfl
@[simp] theorem Dev.updPtp_live (d : Dev) (n : Nat) (f : PtpClock → PtpClock) : (d.updPtp n f).live = d.live := rfl

@[simp] theorem Dev.updPort_regs (d : Dev) (n : Nat) (f : HostPort → HostPort) : (d.updPort n f).regs = d.regs := rfl
@[simp] theorem Dev.updPort_mem (d : Dev) (n : Nat) (f : HostPort → HostPort) : (d.updPort n f).mem = d.mem := rfl
@[simp] theorem Dev.updPort_tick (d : Dev) (n : Nat) (f : HostPort → HostPort) : (d.updPort n f).tick = d.tick := rfl
@[simp] theorem Dev.updPort_free (d : Dev) (n : Nat) (f : HostPort → HostPort) : (d.updPort n f).free = d.free := rfl
@[simp] theorem Dev.updPort_raised (d : Dev) (n : Nat) (f : HostPort → HostPort) : (d.updPort n f).raised = d.raised := rfl
@[simp] theorem Dev.updPort_errSeq (d : Dev) (n : Nat) (f : HostPort → HostPort) : (d.updPort n f).errSeq = d.errSeq := rfl
@[simp] theorem Dev.updPort_errs (d : Dev) (n : Nat) (f : HostPort → HostPort) : (d.updPort n f).errs = d.errs := rfl
@[simp] theorem Dev.updPort_sys (d : Dev) (n : Nat) (f : HostPort → HostPort) : (d.updPort n f).sys = d.sys := rfl
@[simp] theorem Dev.updPort_therm (d : Dev) (n : Nat) (f : HostPort → HostPort) : (d.updPort n f).therm = d.therm := rfl
@[simp] theorem Dev.updPort_tb (d : Dev) (n : Nat) (f : HostPort → HostPort) : (d.updPort n f).tb = d.tb := rfl
@[simp] theorem Dev.updPort_ce (d : Dev) (n : Nat) (f : HostPort → HostPort) : (d.updPort n f).ce = d.ce := rfl
@[simp] theorem Dev.updPort_pwm (d : Dev) (n : Nat) (f : HostPort → HostPort) : (d.updPort n f).pwm = d.pwm := rfl
@[simp] theorem Dev.updPort_aux (d : Dev) (n : Nat) (f : HostPort → HostPort) : (d.updPort n f).aux = d.aux := rfl
@[simp] theorem Dev.updPort_mea (d : Dev) (n : Nat) (f : HostPort → HostPort) : (d.updPort n f).mea = d.mea := rfl
@[simp] theorem Dev.updPort_dcl (d : Dev) (n : Nat) (f : HostPort → HostPort) : (d.updPort n f).dcl = d.dcl := rfl
@[simp] theorem Dev.updPort_drg (d : Dev) (n : Nat) (f : HostPort → HostPort) : (d.updPort n f).drg = d.drg := rfl
@[simp] theorem Dev.updPort_cans (d : Dev) (n : Nat) (f : HostPort → HostPort) : (d.updPort n f).cans = d.cans := rfl
@[simp] theorem Dev.updPort_saf (d : Dev) (n : Nat) (f : HostPort → HostPort) : (d.updPort n f).saf = d.saf := rfl
@[simp] theorem Dev.updPort_mm (d : Dev) (n : Nat) (f : HostPort → HostPort) : (d.updPort n f).mm = d.mm := rfl
@[simp] theorem Dev.updPort_img (d : Dev) (n : Nat) (f : HostPort → HostPort) : (d.updPort n f).img = d.img := rfl
@[simp] theorem Dev.updPort_tly (d : Dev) (n : Nat) (f : HostPort → HostPort) : (d.updPort n f).tly = d.tly := rfl
@[simp] theorem Dev.updPort_word (d : Dev) (n : Nat) (f : HostPort → HostPort) (key : Nat) : (d.updPort n f).word key = d.word key := rfl
@[simp] theorem Dev.updPort_g (d : Dev) (n : Nat) (f : HostPort → HostPort) (r : RF) : (d.updPort n f).g r = d.g r := rfl
@[simp] theorem Dev.updPort_on (d : Dev) (n : Nat) (f : HostPort → HostPort) (r : RF) : (d.updPort n f).on r = d.on r := rfl
@[simp] theorem Dev.updPort_byte (d : Dev) (n : Nat) (f : HostPort → HostPort) (key : Nat) : (d.updPort n f).byte key = d.byte key := rfl
@[simp] theorem Dev.updPort_live (d : Dev) (n : Nat) (f : HostPort → HostPort) : (d.updPort n f).live = d.live := rfl

@[simp] theorem Dev.updPch_regs (d : Dev) (n : Nat) (f : PwmCh → PwmCh) : (d.updPch n f).regs = d.regs := rfl
@[simp] theorem Dev.updPch_mem (d : Dev) (n : Nat) (f : PwmCh → PwmCh) : (d.updPch n f).mem = d.mem := rfl
@[simp] theorem Dev.updPch_tick (d : Dev) (n : Nat) (f : PwmCh → PwmCh) : (d.updPch n f).tick = d.tick := rfl
@[simp] theorem Dev.updPch_free (d : Dev) (n : Nat) (f : PwmCh → PwmCh) : (d.updPch n f).free = d.free := rfl
@[simp] theorem Dev.updPch_raised (d : Dev) (n : Nat) (f : PwmCh → PwmCh) : (d.updPch n f).raised = d.raised := rfl
@[simp] theorem Dev.updPch_errSeq (d : Dev) (n : Nat) (f : PwmCh → PwmCh) : (d.updPch n f).errSeq = d.errSeq := rfl
@[simp] theorem Dev.updPch_errs (d : Dev) (n : Nat) (f : PwmCh → PwmCh) : (d.updPch n f).errs = d.errs := rfl
@[simp] theorem Dev.updPch_sys (d : Dev) (n : Nat) (f : PwmCh → PwmCh) : (d.updPch n f).sys = d.sys := rfl
@[simp] theorem Dev.updPch_therm (d : Dev) (n : Nat) (f : PwmCh → PwmCh) : (d.updPch n f).therm = d.therm := rfl
@[simp] theorem Dev.updPch_tb (d : Dev) (n : Nat) (f : PwmCh → PwmCh) : (d.updPch n f).tb = d.tb := rfl
@[simp] theorem Dev.updPch_ce (d : Dev) (n : Nat) (f : PwmCh → PwmCh) : (d.updPch n f).ce = d.ce := rfl
@[simp] theorem Dev.updPch_aux (d : Dev) (n : Nat) (f : PwmCh → PwmCh) : (d.updPch n f).aux = d.aux := rfl
@[simp] theorem Dev.updPch_mea (d : Dev) (n : Nat) (f : PwmCh → PwmCh) : (d.updPch n f).mea = d.mea := rfl
@[simp] theorem Dev.updPch_dcl (d : Dev) (n : Nat) (f : PwmCh → PwmCh) : (d.updPch n f).dcl = d.dcl := rfl
@[simp] theorem Dev.updPch_drg (d : Dev) (n : Nat) (f : PwmCh → PwmCh) : (d.updPch n f).drg = d.drg := rfl
@[simp] theorem Dev.updPch_cans (d : Dev) (n : Nat) (f : PwmCh → PwmCh) : (d.updPch n f).cans = d.cans := rfl
@[simp] theorem Dev.updPch_saf (d : Dev) (n : Nat) (f : PwmCh → PwmCh) : (d.updPch n f).saf = d.saf := rfl
@[simp] theorem Dev.updPch_mm (d : Dev) (n : Nat) (f : PwmCh → PwmCh) : (d.updPch n f).mm = d.mm := rfl
@[simp] theorem Dev.updPch_img (d : Dev) (n : Nat) (f : PwmCh → PwmCh) : (d.updPch n f).img = d.img := rfl
@[simp] theorem Dev.updPch_tly (d : Dev) (n : Nat) (f : PwmCh → PwmCh) : (d.updPch n f).tly = d.tly := rfl
@[simp] theorem Dev.updPch_hst (d : Dev) (n : Nat) (f : PwmCh → PwmCh) : (d.updPch n f).hst = d.hst := rfl
@[simp] theorem Dev.updPch_word (d : Dev) (n : Nat) (f : PwmCh → PwmCh) (key : Nat) : (d.updPch n f).word key = d.word key := rfl
@[simp] theorem Dev.updPch_g (d : Dev) (n : Nat) (f : PwmCh → PwmCh) (r : RF) : (d.updPch n f).g r = d.g r := rfl
@[simp] theorem Dev.updPch_on (d : Dev) (n : Nat) (f : PwmCh → PwmCh) (r : RF) : (d.updPch n f).on r = d.on r := rfl
@[simp] theorem Dev.updPch_byte (d : Dev) (n : Nat) (f : PwmCh → PwmCh) (key : Nat) : (d.updPch n f).byte key = d.byte key := rfl
@[simp] theorem Dev.updPch_live (d : Dev) (n : Nat) (f : PwmCh → PwmCh) : (d.updPch n f).live = d.live := rfl

@[simp] theorem Dev.updLeg_regs (d : Dev) (n m : Nat) (f : Leg → Leg) : (d.updLeg n m f).regs = d.regs := rfl
@[simp] theorem Dev.updLeg_mem (d : Dev) (n m : Nat) (f : Leg → Leg) : (d.updLeg n m f).mem = d.mem := rfl
@[simp] theorem Dev.updLeg_tick (d : Dev) (n m : Nat) (f : Leg → Leg) : (d.updLeg n m f).tick = d.tick := rfl
@[simp] theorem Dev.updLeg_free (d : Dev) (n m : Nat) (f : Leg → Leg) : (d.updLeg n m f).free = d.free := rfl
@[simp] theorem Dev.updLeg_raised (d : Dev) (n m : Nat) (f : Leg → Leg) : (d.updLeg n m f).raised = d.raised := rfl
@[simp] theorem Dev.updLeg_errSeq (d : Dev) (n m : Nat) (f : Leg → Leg) : (d.updLeg n m f).errSeq = d.errSeq := rfl
@[simp] theorem Dev.updLeg_errs (d : Dev) (n m : Nat) (f : Leg → Leg) : (d.updLeg n m f).errs = d.errs := rfl
@[simp] theorem Dev.updLeg_sys (d : Dev) (n m : Nat) (f : Leg → Leg) : (d.updLeg n m f).sys = d.sys := rfl
@[simp] theorem Dev.updLeg_therm (d : Dev) (n m : Nat) (f : Leg → Leg) : (d.updLeg n m f).therm = d.therm := rfl
@[simp] theorem Dev.updLeg_tb (d : Dev) (n m : Nat) (f : Leg → Leg) : (d.updLeg n m f).tb = d.tb := rfl
@[simp] theorem Dev.updLeg_ce (d : Dev) (n m : Nat) (f : Leg → Leg) : (d.updLeg n m f).ce = d.ce := rfl
@[simp] theorem Dev.updLeg_aux (d : Dev) (n m : Nat) (f : Leg → Leg) : (d.updLeg n m f).aux = d.aux := rfl
@[simp] theorem Dev.updLeg_mea (d : Dev) (n m : Nat) (f : Leg → Leg) : (d.updLeg n m f).mea = d.mea := rfl
@[simp] theorem Dev.updLeg_dcl (d : Dev) (n m : Nat) (f : Leg → Leg) : (d.updLeg n m f).dcl = d.dcl := rfl
@[simp] theorem Dev.updLeg_drg (d : Dev) (n m : Nat) (f : Leg → Leg) : (d.updLeg n m f).drg = d.drg := rfl
@[simp] theorem Dev.updLeg_cans (d : Dev) (n m : Nat) (f : Leg → Leg) : (d.updLeg n m f).cans = d.cans := rfl
@[simp] theorem Dev.updLeg_saf (d : Dev) (n m : Nat) (f : Leg → Leg) : (d.updLeg n m f).saf = d.saf := rfl
@[simp] theorem Dev.updLeg_mm (d : Dev) (n m : Nat) (f : Leg → Leg) : (d.updLeg n m f).mm = d.mm := rfl
@[simp] theorem Dev.updLeg_img (d : Dev) (n m : Nat) (f : Leg → Leg) : (d.updLeg n m f).img = d.img := rfl
@[simp] theorem Dev.updLeg_tly (d : Dev) (n m : Nat) (f : Leg → Leg) : (d.updLeg n m f).tly = d.tly := rfl
@[simp] theorem Dev.updLeg_hst (d : Dev) (n m : Nat) (f : Leg → Leg) : (d.updLeg n m f).hst = d.hst := rfl
@[simp] theorem Dev.updLeg_word (d : Dev) (n m : Nat) (f : Leg → Leg) (key : Nat) : (d.updLeg n m f).word key = d.word key := rfl
@[simp] theorem Dev.updLeg_g (d : Dev) (n m : Nat) (f : Leg → Leg) (r : RF) : (d.updLeg n m f).g r = d.g r := rfl
@[simp] theorem Dev.updLeg_on (d : Dev) (n m : Nat) (f : Leg → Leg) (r : RF) : (d.updLeg n m f).on r = d.on r := rfl
@[simp] theorem Dev.updLeg_byte (d : Dev) (n m : Nat) (f : Leg → Leg) (key : Nat) : (d.updLeg n m f).byte key = d.byte key := rfl
@[simp] theorem Dev.updLeg_live (d : Dev) (n m : Nat) (f : Leg → Leg) : (d.updLeg n m f).live = d.live := rfl

@[simp] theorem Dev.updPhase_regs (d : Dev) (n p : Nat) (f : Phase → Phase) : (d.updPhase n p f).regs = d.regs := rfl
@[simp] theorem Dev.updPhase_mem (d : Dev) (n p : Nat) (f : Phase → Phase) : (d.updPhase n p f).mem = d.mem := rfl
@[simp] theorem Dev.updPhase_tick (d : Dev) (n p : Nat) (f : Phase → Phase) : (d.updPhase n p f).tick = d.tick := rfl
@[simp] theorem Dev.updPhase_free (d : Dev) (n p : Nat) (f : Phase → Phase) : (d.updPhase n p f).free = d.free := rfl
@[simp] theorem Dev.updPhase_raised (d : Dev) (n p : Nat) (f : Phase → Phase) : (d.updPhase n p f).raised = d.raised := rfl
@[simp] theorem Dev.updPhase_errSeq (d : Dev) (n p : Nat) (f : Phase → Phase) : (d.updPhase n p f).errSeq = d.errSeq := rfl
@[simp] theorem Dev.updPhase_errs (d : Dev) (n p : Nat) (f : Phase → Phase) : (d.updPhase n p f).errs = d.errs := rfl
@[simp] theorem Dev.updPhase_sys (d : Dev) (n p : Nat) (f : Phase → Phase) : (d.updPhase n p f).sys = d.sys := rfl
@[simp] theorem Dev.updPhase_therm (d : Dev) (n p : Nat) (f : Phase → Phase) : (d.updPhase n p f).therm = d.therm := rfl
@[simp] theorem Dev.updPhase_tb (d : Dev) (n p : Nat) (f : Phase → Phase) : (d.updPhase n p f).tb = d.tb := rfl
@[simp] theorem Dev.updPhase_ce (d : Dev) (n p : Nat) (f : Phase → Phase) : (d.updPhase n p f).ce = d.ce := rfl
@[simp] theorem Dev.updPhase_aux (d : Dev) (n p : Nat) (f : Phase → Phase) : (d.updPhase n p f).aux = d.aux := rfl
@[simp] theorem Dev.updPhase_mea (d : Dev) (n p : Nat) (f : Phase → Phase) : (d.updPhase n p f).mea = d.mea := rfl
@[simp] theorem Dev.updPhase_dcl (d : Dev) (n p : Nat) (f : Phase → Phase) : (d.updPhase n p f).dcl = d.dcl := rfl
@[simp] theorem Dev.updPhase_drg (d : Dev) (n p : Nat) (f : Phase → Phase) : (d.updPhase n p f).drg = d.drg := rfl
@[simp] theorem Dev.updPhase_cans (d : Dev) (n p : Nat) (f : Phase → Phase) : (d.updPhase n p f).cans = d.cans := rfl
@[simp] theorem Dev.updPhase_saf (d : Dev) (n p : Nat) (f : Phase → Phase) : (d.updPhase n p f).saf = d.saf := rfl
@[simp] theorem Dev.updPhase_mm (d : Dev) (n p : Nat) (f : Phase → Phase) : (d.updPhase n p f).mm = d.mm := rfl
@[simp] theorem Dev.updPhase_img (d : Dev) (n p : Nat) (f : Phase → Phase) : (d.updPhase n p f).img = d.img := rfl
@[simp] theorem Dev.updPhase_tly (d : Dev) (n p : Nat) (f : Phase → Phase) : (d.updPhase n p f).tly = d.tly := rfl
@[simp] theorem Dev.updPhase_hst (d : Dev) (n p : Nat) (f : Phase → Phase) : (d.updPhase n p f).hst = d.hst := rfl
@[simp] theorem Dev.updPhase_word (d : Dev) (n p : Nat) (f : Phase → Phase) (key : Nat) : (d.updPhase n p f).word key = d.word key := rfl
@[simp] theorem Dev.updPhase_g (d : Dev) (n p : Nat) (f : Phase → Phase) (r : RF) : (d.updPhase n p f).g r = d.g r := rfl
@[simp] theorem Dev.updPhase_on (d : Dev) (n p : Nat) (f : Phase → Phase) (r : RF) : (d.updPhase n p f).on r = d.on r := rfl
@[simp] theorem Dev.updPhase_byte (d : Dev) (n p : Nat) (f : Phase → Phase) (key : Nat) : (d.updPhase n p f).byte key = d.byte key := rfl
@[simp] theorem Dev.updPhase_live (d : Dev) (n p : Nat) (f : Phase → Phase) : (d.updPhase n p f).live = d.live := rfl

@[simp] theorem Dev.updStream_regs (d : Dev) (n : Nat) (f : Stream → Stream) : (d.updStream n f).regs = d.regs := rfl
@[simp] theorem Dev.updStream_mem (d : Dev) (n : Nat) (f : Stream → Stream) : (d.updStream n f).mem = d.mem := rfl
@[simp] theorem Dev.updStream_tick (d : Dev) (n : Nat) (f : Stream → Stream) : (d.updStream n f).tick = d.tick := rfl
@[simp] theorem Dev.updStream_free (d : Dev) (n : Nat) (f : Stream → Stream) : (d.updStream n f).free = d.free := rfl
@[simp] theorem Dev.updStream_raised (d : Dev) (n : Nat) (f : Stream → Stream) : (d.updStream n f).raised = d.raised := rfl
@[simp] theorem Dev.updStream_errSeq (d : Dev) (n : Nat) (f : Stream → Stream) : (d.updStream n f).errSeq = d.errSeq := rfl
@[simp] theorem Dev.updStream_errs (d : Dev) (n : Nat) (f : Stream → Stream) : (d.updStream n f).errs = d.errs := rfl
@[simp] theorem Dev.updStream_sys (d : Dev) (n : Nat) (f : Stream → Stream) : (d.updStream n f).sys = d.sys := rfl
@[simp] theorem Dev.updStream_therm (d : Dev) (n : Nat) (f : Stream → Stream) : (d.updStream n f).therm = d.therm := rfl
@[simp] theorem Dev.updStream_tb (d : Dev) (n : Nat) (f : Stream → Stream) : (d.updStream n f).tb = d.tb := rfl
@[simp] theorem Dev.updStream_ce (d : Dev) (n : Nat) (f : Stream → Stream) : (d.updStream n f).ce = d.ce := rfl
@[simp] theorem Dev.updStream_pwm (d : Dev) (n : Nat) (f : Stream → Stream) : (d.updStream n f).pwm = d.pwm := rfl
@[simp] theorem Dev.updStream_aux (d : Dev) (n : Nat) (f : Stream → Stream) : (d.updStream n f).aux = d.aux := rfl
@[simp] theorem Dev.updStream_mea (d : Dev) (n : Nat) (f : Stream → Stream) : (d.updStream n f).mea = d.mea := rfl
@[simp] theorem Dev.updStream_dcl (d : Dev) (n : Nat) (f : Stream → Stream) : (d.updStream n f).dcl = d.dcl := rfl
@[simp] theorem Dev.updStream_drg (d : Dev) (n : Nat) (f : Stream → Stream) : (d.updStream n f).drg = d.drg := rfl
@[simp] theorem Dev.updStream_cans (d : Dev) (n : Nat) (f : Stream → Stream) : (d.updStream n f).cans = d.cans := rfl
@[simp] theorem Dev.updStream_saf (d : Dev) (n : Nat) (f : Stream → Stream) : (d.updStream n f).saf = d.saf := rfl
@[simp] theorem Dev.updStream_img (d : Dev) (n : Nat) (f : Stream → Stream) : (d.updStream n f).img = d.img := rfl
@[simp] theorem Dev.updStream_tly (d : Dev) (n : Nat) (f : Stream → Stream) : (d.updStream n f).tly = d.tly := rfl
@[simp] theorem Dev.updStream_hst (d : Dev) (n : Nat) (f : Stream → Stream) : (d.updStream n f).hst = d.hst := rfl
@[simp] theorem Dev.updStream_word (d : Dev) (n : Nat) (f : Stream → Stream) (key : Nat) : (d.updStream n f).word key = d.word key := rfl
@[simp] theorem Dev.updStream_g (d : Dev) (n : Nat) (f : Stream → Stream) (r : RF) : (d.updStream n f).g r = d.g r := rfl
@[simp] theorem Dev.updStream_on (d : Dev) (n : Nat) (f : Stream → Stream) (r : RF) : (d.updStream n f).on r = d.on r := rfl
@[simp] theorem Dev.updStream_byte (d : Dev) (n : Nat) (f : Stream → Stream) (key : Nat) : (d.updStream n f).byte key = d.byte key := rfl
@[simp] theorem Dev.updStream_live (d : Dev) (n : Nat) (f : Stream → Stream) : (d.updStream n f).live = d.live := rfl

@[simp] theorem Dev.updDrg_regs (d : Dev) (f : Drg → Drg) : (d.updDrg f).regs = d.regs := rfl
@[simp] theorem Dev.updDrg_mem (d : Dev) (f : Drg → Drg) : (d.updDrg f).mem = d.mem := rfl
@[simp] theorem Dev.updDrg_tick (d : Dev) (f : Drg → Drg) : (d.updDrg f).tick = d.tick := rfl
@[simp] theorem Dev.updDrg_free (d : Dev) (f : Drg → Drg) : (d.updDrg f).free = d.free := rfl
@[simp] theorem Dev.updDrg_raised (d : Dev) (f : Drg → Drg) : (d.updDrg f).raised = d.raised := rfl
@[simp] theorem Dev.updDrg_errSeq (d : Dev) (f : Drg → Drg) : (d.updDrg f).errSeq = d.errSeq := rfl
@[simp] theorem Dev.updDrg_errs (d : Dev) (f : Drg → Drg) : (d.updDrg f).errs = d.errs := rfl
@[simp] theorem Dev.updDrg_sys (d : Dev) (f : Drg → Drg) : (d.updDrg f).sys = d.sys := rfl
@[simp] theorem Dev.updDrg_therm (d : Dev) (f : Drg → Drg) : (d.updDrg f).therm = d.therm := rfl
@[simp] theorem Dev.updDrg_tb (d : Dev) (f : Drg → Drg) : (d.updDrg f).tb = d.tb := rfl
@[simp] theorem Dev.updDrg_ce (d : Dev) (f : Drg → Drg) : (d.updDrg f).ce = d.ce := rfl
@[simp] theorem Dev.updDrg_pwm (d : Dev) (f : Drg → Drg) : (d.updDrg f).pwm = d.pwm := rfl
@[simp] theorem Dev.updDrg_aux (d : Dev) (f : Drg → Drg) : (d.updDrg f).aux = d.aux := rfl
@[simp] theorem Dev.updDrg_mea (d : Dev) (f : Drg → Drg) : (d.updDrg f).mea = d.mea := rfl
@[simp] theorem Dev.updDrg_dcl (d : Dev) (f : Drg → Drg) : (d.updDrg f).dcl = d.dcl := rfl
@[simp] theorem Dev.updDrg_cans (d : Dev) (f : Drg → Drg) : (d.updDrg f).cans = d.cans := rfl
@[simp] theorem Dev.updDrg_saf (d : Dev) (f : Drg → Drg) : (d.updDrg f).saf = d.saf := rfl
@[simp] theorem Dev.updDrg_mm (d : Dev) (f : Drg → Drg) : (d.updDrg f).mm = d.mm := rfl
@[simp] theorem Dev.updDrg_img (d : Dev) (f : Drg → Drg) : (d.updDrg f).img = d.img := rfl
@[simp] theorem Dev.updDrg_tly (d : Dev) (f : Drg → Drg) : (d.updDrg f).tly = d.tly := rfl
@[simp] theorem Dev.updDrg_hst (d : Dev) (f : Drg → Drg) : (d.updDrg f).hst = d.hst := rfl
@[simp] theorem Dev.updDrg_word (d : Dev) (f : Drg → Drg) (key : Nat) : (d.updDrg f).word key = d.word key := rfl
@[simp] theorem Dev.updDrg_g (d : Dev) (f : Drg → Drg) (r : RF) : (d.updDrg f).g r = d.g r := rfl
@[simp] theorem Dev.updDrg_on (d : Dev) (f : Drg → Drg) (r : RF) : (d.updDrg f).on r = d.on r := rfl
@[simp] theorem Dev.updDrg_byte (d : Dev) (f : Drg → Drg) (key : Nat) : (d.updDrg f).byte key = d.byte key := rfl
@[simp] theorem Dev.updDrg_live (d : Dev) (f : Drg → Drg) : (d.updDrg f).live = d.live := rfl

@[simp] theorem Dev.setShareWord_regs (d : Dev) (n w v : Nat) : (d.setShareWord n w v).regs = d.regs := rfl
@[simp] theorem Dev.setShareWord_mem (d : Dev) (n w v : Nat) : (d.setShareWord n w v).mem = d.mem := rfl
@[simp] theorem Dev.setShareWord_tick (d : Dev) (n w v : Nat) : (d.setShareWord n w v).tick = d.tick := rfl
@[simp] theorem Dev.setShareWord_free (d : Dev) (n w v : Nat) : (d.setShareWord n w v).free = d.free := rfl
@[simp] theorem Dev.setShareWord_raised (d : Dev) (n w v : Nat) : (d.setShareWord n w v).raised = d.raised := rfl
@[simp] theorem Dev.setShareWord_errSeq (d : Dev) (n w v : Nat) : (d.setShareWord n w v).errSeq = d.errSeq := rfl
@[simp] theorem Dev.setShareWord_errs (d : Dev) (n w v : Nat) : (d.setShareWord n w v).errs = d.errs := rfl
@[simp] theorem Dev.setShareWord_sys (d : Dev) (n w v : Nat) : (d.setShareWord n w v).sys = d.sys := rfl
@[simp] theorem Dev.setShareWord_therm (d : Dev) (n w v : Nat) : (d.setShareWord n w v).therm = d.therm := rfl
@[simp] theorem Dev.setShareWord_tb (d : Dev) (n w v : Nat) : (d.setShareWord n w v).tb = d.tb := rfl
@[simp] theorem Dev.setShareWord_ce (d : Dev) (n w v : Nat) : (d.setShareWord n w v).ce = d.ce := rfl
@[simp] theorem Dev.setShareWord_pwm (d : Dev) (n w v : Nat) : (d.setShareWord n w v).pwm = d.pwm := rfl
@[simp] theorem Dev.setShareWord_aux (d : Dev) (n w v : Nat) : (d.setShareWord n w v).aux = d.aux := rfl
@[simp] theorem Dev.setShareWord_mea (d : Dev) (n w v : Nat) : (d.setShareWord n w v).mea = d.mea := rfl
@[simp] theorem Dev.setShareWord_dcl (d : Dev) (n w v : Nat) : (d.setShareWord n w v).dcl = d.dcl := rfl
@[simp] theorem Dev.setShareWord_cans (d : Dev) (n w v : Nat) : (d.setShareWord n w v).cans = d.cans := rfl
@[simp] theorem Dev.setShareWord_saf (d : Dev) (n w v : Nat) : (d.setShareWord n w v).saf = d.saf := rfl
@[simp] theorem Dev.setShareWord_mm (d : Dev) (n w v : Nat) : (d.setShareWord n w v).mm = d.mm := rfl
@[simp] theorem Dev.setShareWord_img (d : Dev) (n w v : Nat) : (d.setShareWord n w v).img = d.img := rfl
@[simp] theorem Dev.setShareWord_tly (d : Dev) (n w v : Nat) : (d.setShareWord n w v).tly = d.tly := rfl
@[simp] theorem Dev.setShareWord_hst (d : Dev) (n w v : Nat) : (d.setShareWord n w v).hst = d.hst := rfl
@[simp] theorem Dev.setShareWord_word (d : Dev) (n w v : Nat) (key : Nat) : (d.setShareWord n w v).word key = d.word key := rfl
@[simp] theorem Dev.setShareWord_g (d : Dev) (n w v : Nat) (r : RF) : (d.setShareWord n w v).g r = d.g r := rfl
@[simp] theorem Dev.setShareWord_on (d : Dev) (n w v : Nat) (r : RF) : (d.setShareWord n w v).on r = d.on r := rfl
@[simp] theorem Dev.setShareWord_byte (d : Dev) (n w v : Nat) (key : Nat) : (d.setShareWord n w v).byte key = d.byte key := rfl
@[simp] theorem Dev.setShareWord_live (d : Dev) (n w v : Nat) : (d.setShareWord n w v).live = d.live := rfl

@[simp] theorem Dev.setEntry_regs (d : Dev) (n : Nat) (f : TlyEntry → TlyEntry) : (d.setEntry n f).regs = d.regs := rfl
@[simp] theorem Dev.setEntry_mem (d : Dev) (n : Nat) (f : TlyEntry → TlyEntry) : (d.setEntry n f).mem = d.mem := rfl
@[simp] theorem Dev.setEntry_tick (d : Dev) (n : Nat) (f : TlyEntry → TlyEntry) : (d.setEntry n f).tick = d.tick := rfl
@[simp] theorem Dev.setEntry_free (d : Dev) (n : Nat) (f : TlyEntry → TlyEntry) : (d.setEntry n f).free = d.free := rfl
@[simp] theorem Dev.setEntry_raised (d : Dev) (n : Nat) (f : TlyEntry → TlyEntry) : (d.setEntry n f).raised = d.raised := rfl
@[simp] theorem Dev.setEntry_errSeq (d : Dev) (n : Nat) (f : TlyEntry → TlyEntry) : (d.setEntry n f).errSeq = d.errSeq := rfl
@[simp] theorem Dev.setEntry_errs (d : Dev) (n : Nat) (f : TlyEntry → TlyEntry) : (d.setEntry n f).errs = d.errs := rfl
@[simp] theorem Dev.setEntry_sys (d : Dev) (n : Nat) (f : TlyEntry → TlyEntry) : (d.setEntry n f).sys = d.sys := rfl
@[simp] theorem Dev.setEntry_therm (d : Dev) (n : Nat) (f : TlyEntry → TlyEntry) : (d.setEntry n f).therm = d.therm := rfl
@[simp] theorem Dev.setEntry_tb (d : Dev) (n : Nat) (f : TlyEntry → TlyEntry) : (d.setEntry n f).tb = d.tb := rfl
@[simp] theorem Dev.setEntry_ce (d : Dev) (n : Nat) (f : TlyEntry → TlyEntry) : (d.setEntry n f).ce = d.ce := rfl
@[simp] theorem Dev.setEntry_pwm (d : Dev) (n : Nat) (f : TlyEntry → TlyEntry) : (d.setEntry n f).pwm = d.pwm := rfl
@[simp] theorem Dev.setEntry_aux (d : Dev) (n : Nat) (f : TlyEntry → TlyEntry) : (d.setEntry n f).aux = d.aux := rfl
@[simp] theorem Dev.setEntry_mea (d : Dev) (n : Nat) (f : TlyEntry → TlyEntry) : (d.setEntry n f).mea = d.mea := rfl
@[simp] theorem Dev.setEntry_dcl (d : Dev) (n : Nat) (f : TlyEntry → TlyEntry) : (d.setEntry n f).dcl = d.dcl := rfl
@[simp] theorem Dev.setEntry_drg (d : Dev) (n : Nat) (f : TlyEntry → TlyEntry) : (d.setEntry n f).drg = d.drg := rfl
@[simp] theorem Dev.setEntry_cans (d : Dev) (n : Nat) (f : TlyEntry → TlyEntry) : (d.setEntry n f).cans = d.cans := rfl
@[simp] theorem Dev.setEntry_saf (d : Dev) (n : Nat) (f : TlyEntry → TlyEntry) : (d.setEntry n f).saf = d.saf := rfl
@[simp] theorem Dev.setEntry_mm (d : Dev) (n : Nat) (f : TlyEntry → TlyEntry) : (d.setEntry n f).mm = d.mm := rfl
@[simp] theorem Dev.setEntry_img (d : Dev) (n : Nat) (f : TlyEntry → TlyEntry) : (d.setEntry n f).img = d.img := rfl
@[simp] theorem Dev.setEntry_hst (d : Dev) (n : Nat) (f : TlyEntry → TlyEntry) : (d.setEntry n f).hst = d.hst := rfl
@[simp] theorem Dev.setEntry_word (d : Dev) (n : Nat) (f : TlyEntry → TlyEntry) (key : Nat) : (d.setEntry n f).word key = d.word key := rfl
@[simp] theorem Dev.setEntry_g (d : Dev) (n : Nat) (f : TlyEntry → TlyEntry) (r : RF) : (d.setEntry n f).g r = d.g r := rfl
@[simp] theorem Dev.setEntry_on (d : Dev) (n : Nat) (f : TlyEntry → TlyEntry) (r : RF) : (d.setEntry n f).on r = d.on r := rfl
@[simp] theorem Dev.setEntry_byte (d : Dev) (n : Nat) (f : TlyEntry → TlyEntry) (key : Nat) : (d.setEntry n f).byte key = d.byte key := rfl
@[simp] theorem Dev.setEntry_live (d : Dev) (n : Nat) (f : TlyEntry → TlyEntry) : (d.setEntry n f).live = d.live := rfl

@[simp] theorem Dev.setRestoring_regs (d : Dev) (n : Nat) (b : Bool) : (d.setRestoring n b).regs = d.regs := rfl
@[simp] theorem Dev.setRestoring_mem (d : Dev) (n : Nat) (b : Bool) : (d.setRestoring n b).mem = d.mem := rfl
@[simp] theorem Dev.setRestoring_tick (d : Dev) (n : Nat) (b : Bool) : (d.setRestoring n b).tick = d.tick := rfl
@[simp] theorem Dev.setRestoring_free (d : Dev) (n : Nat) (b : Bool) : (d.setRestoring n b).free = d.free := rfl
@[simp] theorem Dev.setRestoring_raised (d : Dev) (n : Nat) (b : Bool) : (d.setRestoring n b).raised = d.raised := rfl
@[simp] theorem Dev.setRestoring_errSeq (d : Dev) (n : Nat) (b : Bool) : (d.setRestoring n b).errSeq = d.errSeq := rfl
@[simp] theorem Dev.setRestoring_errs (d : Dev) (n : Nat) (b : Bool) : (d.setRestoring n b).errs = d.errs := rfl
@[simp] theorem Dev.setRestoring_sys (d : Dev) (n : Nat) (b : Bool) : (d.setRestoring n b).sys = d.sys := rfl
@[simp] theorem Dev.setRestoring_tb (d : Dev) (n : Nat) (b : Bool) : (d.setRestoring n b).tb = d.tb := rfl
@[simp] theorem Dev.setRestoring_ce (d : Dev) (n : Nat) (b : Bool) : (d.setRestoring n b).ce = d.ce := rfl
@[simp] theorem Dev.setRestoring_pwm (d : Dev) (n : Nat) (b : Bool) : (d.setRestoring n b).pwm = d.pwm := rfl
@[simp] theorem Dev.setRestoring_aux (d : Dev) (n : Nat) (b : Bool) : (d.setRestoring n b).aux = d.aux := rfl
@[simp] theorem Dev.setRestoring_mea (d : Dev) (n : Nat) (b : Bool) : (d.setRestoring n b).mea = d.mea := rfl
@[simp] theorem Dev.setRestoring_dcl (d : Dev) (n : Nat) (b : Bool) : (d.setRestoring n b).dcl = d.dcl := rfl
@[simp] theorem Dev.setRestoring_drg (d : Dev) (n : Nat) (b : Bool) : (d.setRestoring n b).drg = d.drg := rfl
@[simp] theorem Dev.setRestoring_cans (d : Dev) (n : Nat) (b : Bool) : (d.setRestoring n b).cans = d.cans := rfl
@[simp] theorem Dev.setRestoring_saf (d : Dev) (n : Nat) (b : Bool) : (d.setRestoring n b).saf = d.saf := rfl
@[simp] theorem Dev.setRestoring_mm (d : Dev) (n : Nat) (b : Bool) : (d.setRestoring n b).mm = d.mm := rfl
@[simp] theorem Dev.setRestoring_img (d : Dev) (n : Nat) (b : Bool) : (d.setRestoring n b).img = d.img := rfl
@[simp] theorem Dev.setRestoring_tly (d : Dev) (n : Nat) (b : Bool) : (d.setRestoring n b).tly = d.tly := rfl
@[simp] theorem Dev.setRestoring_hst (d : Dev) (n : Nat) (b : Bool) : (d.setRestoring n b).hst = d.hst := rfl
@[simp] theorem Dev.setRestoring_word (d : Dev) (n : Nat) (b : Bool) (key : Nat) : (d.setRestoring n b).word key = d.word key := rfl
@[simp] theorem Dev.setRestoring_g (d : Dev) (n : Nat) (b : Bool) (r : RF) : (d.setRestoring n b).g r = d.g r := rfl
@[simp] theorem Dev.setRestoring_on (d : Dev) (n : Nat) (b : Bool) (r : RF) : (d.setRestoring n b).on r = d.on r := rfl
@[simp] theorem Dev.setRestoring_byte (d : Dev) (n : Nat) (b : Bool) (key : Nat) : (d.setRestoring n b).byte key = d.byte key := rfl
@[simp] theorem Dev.setRestoring_live (d : Dev) (n : Nat) (b : Bool) : (d.setRestoring n b).live = d.live := rfl

/-! ## Bytes -/

@[simp] theorem Dev.setBytes_regs (d : Dev) (k : Nat) (l : List Nat) : (d.setBytes k l).regs = d.regs := by
  induction l generalizing d k with
  | nil => rfl
  | cons b t ih => simp [Dev.setBytes, ih]
@[simp] theorem Dev.setBytes_tick (d : Dev) (k : Nat) (l : List Nat) : (d.setBytes k l).tick = d.tick := by
  induction l generalizing d k with
  | nil => rfl
  | cons b t ih => simp [Dev.setBytes, ih]
@[simp] theorem Dev.setBytes_free (d : Dev) (k : Nat) (l : List Nat) : (d.setBytes k l).free = d.free := by
  induction l generalizing d k with
  | nil => rfl
  | cons b t ih => simp [Dev.setBytes, ih]
@[simp] theorem Dev.setBytes_raised (d : Dev) (k : Nat) (l : List Nat) : (d.setBytes k l).raised = d.raised := by
  induction l generalizing d k with
  | nil => rfl
  | cons b t ih => simp [Dev.setBytes, ih]
@[simp] theorem Dev.setBytes_errSeq (d : Dev) (k : Nat) (l : List Nat) : (d.setBytes k l).errSeq = d.errSeq := by
  induction l generalizing d k with
  | nil => rfl
  | cons b t ih => simp [Dev.setBytes, ih]
@[simp] theorem Dev.setBytes_errs (d : Dev) (k : Nat) (l : List Nat) : (d.setBytes k l).errs = d.errs := by
  induction l generalizing d k with
  | nil => rfl
  | cons b t ih => simp [Dev.setBytes, ih]
@[simp] theorem Dev.setBytes_sys (d : Dev) (k : Nat) (l : List Nat) : (d.setBytes k l).sys = d.sys := by
  induction l generalizing d k with
  | nil => rfl
  | cons b t ih => simp [Dev.setBytes, ih]
@[simp] theorem Dev.setBytes_therm (d : Dev) (k : Nat) (l : List Nat) : (d.setBytes k l).therm = d.therm := by
  induction l generalizing d k with
  | nil => rfl
  | cons b t ih => simp [Dev.setBytes, ih]
@[simp] theorem Dev.setBytes_tb (d : Dev) (k : Nat) (l : List Nat) : (d.setBytes k l).tb = d.tb := by
  induction l generalizing d k with
  | nil => rfl
  | cons b t ih => simp [Dev.setBytes, ih]
@[simp] theorem Dev.setBytes_ce (d : Dev) (k : Nat) (l : List Nat) : (d.setBytes k l).ce = d.ce := by
  induction l generalizing d k with
  | nil => rfl
  | cons b t ih => simp [Dev.setBytes, ih]
@[simp] theorem Dev.setBytes_pwm (d : Dev) (k : Nat) (l : List Nat) : (d.setBytes k l).pwm = d.pwm := by
  induction l generalizing d k with
  | nil => rfl
  | cons b t ih => simp [Dev.setBytes, ih]
@[simp] theorem Dev.setBytes_aux (d : Dev) (k : Nat) (l : List Nat) : (d.setBytes k l).aux = d.aux := by
  induction l generalizing d k with
  | nil => rfl
  | cons b t ih => simp [Dev.setBytes, ih]
@[simp] theorem Dev.setBytes_mea (d : Dev) (k : Nat) (l : List Nat) : (d.setBytes k l).mea = d.mea := by
  induction l generalizing d k with
  | nil => rfl
  | cons b t ih => simp [Dev.setBytes, ih]
@[simp] theorem Dev.setBytes_dcl (d : Dev) (k : Nat) (l : List Nat) : (d.setBytes k l).dcl = d.dcl := by
  induction l generalizing d k with
  | nil => rfl
  | cons b t ih => simp [Dev.setBytes, ih]
@[simp] theorem Dev.setBytes_drg (d : Dev) (k : Nat) (l : List Nat) : (d.setBytes k l).drg = d.drg := by
  induction l generalizing d k with
  | nil => rfl
  | cons b t ih => simp [Dev.setBytes, ih]
@[simp] theorem Dev.setBytes_cans (d : Dev) (k : Nat) (l : List Nat) : (d.setBytes k l).cans = d.cans := by
  induction l generalizing d k with
  | nil => rfl
  | cons b t ih => simp [Dev.setBytes, ih]
@[simp] theorem Dev.setBytes_saf (d : Dev) (k : Nat) (l : List Nat) : (d.setBytes k l).saf = d.saf := by
  induction l generalizing d k with
  | nil => rfl
  | cons b t ih => simp [Dev.setBytes, ih]
@[simp] theorem Dev.setBytes_mm (d : Dev) (k : Nat) (l : List Nat) : (d.setBytes k l).mm = d.mm := by
  induction l generalizing d k with
  | nil => rfl
  | cons b t ih => simp [Dev.setBytes, ih]
@[simp] theorem Dev.setBytes_img (d : Dev) (k : Nat) (l : List Nat) : (d.setBytes k l).img = d.img := by
  induction l generalizing d k with
  | nil => rfl
  | cons b t ih => simp [Dev.setBytes, ih]
@[simp] theorem Dev.setBytes_tly (d : Dev) (k : Nat) (l : List Nat) : (d.setBytes k l).tly = d.tly := by
  induction l generalizing d k with
  | nil => rfl
  | cons b t ih => simp [Dev.setBytes, ih]
@[simp] theorem Dev.setBytes_hst (d : Dev) (k : Nat) (l : List Nat) : (d.setBytes k l).hst = d.hst := by
  induction l generalizing d k with
  | nil => rfl
  | cons b t ih => simp [Dev.setBytes, ih]

end Sys2Proof.Machine
end

