-- ==== Sys2Proof/Tests/Slice0.lean ====
section
/-! SUPPORT. Tests/Slice0.lean: the model's own tests: ill-formed terms that the checks refuse, words and values that the spec writes out, and for each
statement with hypotheses states that meet them, at the ends of their ranges. -/

namespace Sys2Proof.Tests

open Sys2Proof Sys2Proof.Machine

set_option maxRecDepth 100000
set_option Elab.async false

/-- The device after reset. -/
def d0 : Dev := Dev.reset
/-- A state whose queue is empty. -/
def st (d : Dev) : State := ⟨d, []⟩
/-- Register fields set in a device. -/
def Dev.sets (d : Dev) (l : List (RF × Nat)) : Dev := l.foldl (fun d x => d.s x.1 x.2) d
/-- A field of the device's state after one command. -/
def after {α : Type} (d : Dev) (i : Instr) (f : Dev → α) : Option α :=
  match exec i (st d) with
  | .next t => some (f t.dev)
  | _ => none

/-! ## Ill-formed commands -/

/-- For every kind of operand a command whose other operands fit: the first value past its range is refused, a value in it is not. -/
theorem test_operandRangesA : ([((.registerWrite (2) 0 1 0), (.registerWrite 0 0 1 0)),
   ((.registerWrite 0 (2 ^ 32) 1 0), (.registerWrite 0 0 1 0)),
   ((.registerWrite 0 0 (5) 0), (.registerWrite 0 0 1 0)),
   ((.irqDone 0 (216)), (.irqDone 0 0)),
   ((.sysD2dLost (2)), (.sysD2dLost 0)),
   ((.safetyLinkFrame 0 0 (64) false), (.safetyLinkFrame 0 0 0 false)),
   ((.resetRelease false (4)), (.resetRelease false 0)),
   ((.warmResetRequest (256)), (.warmResetRequest 0)),
   ((.hostPortResetRequest (3)), (.hostPortResetRequest 0)),
   ((.bellCancel 0 (2 ^ 16)), (.bellCancel 0 0)),
   ((.ringBellReceived (16) 0 0 0 0 0 0), (.ringBellReceived 0 0 0 0 0 0 0)),
   ((.wheelStart (16) 0), (.wheelStart 0 0))] : List (Instr × Instr)).all (fun x => !x.1.wf && x.2.wf) = true := by decide +kernel

theorem test_operandRangesB : ([((.contextTrigger (256)), (.contextTrigger 1)),
   ((.programStart (12)), (.programStart 0)),
   ((.ceEngFault 0 (8) 0), (.ceEngFault 0 0 0)),
   ((.nop 0 (8)), (.nop 0 0)),
   ((.loop 0 (2 ^ 16) 0), (.loop 0 1 0)),
   ((.rdf 0 0 (16)), (.rdf 0 0 0)),
   ((.movk 0 0 0 (2 ^ 24)), (.movk 0 0 0 0)),
   ((.sel 0 0 (8) 0 0 0), (.sel 0 0 0 0 0 0)),
   ((.movs 0 0 0 (4) 0 false), (.movs 0 0 0 0 0 false)),
   ((.mpyx 0 0 0 0 (8) false 0 false), (.mpyx 0 0 0 0 0 false 0 false)),
   ((.recip 0 0 0 0 (24)), (.recip 0 0 0 0 0)),
   ((.ldx 0 0 0 (2 ^ 15)), (.ldx 0 0 0 0))] : List (Instr × Instr)).all (fun x => !x.1.wf && x.2.wf) = true := by decide +kernel

theorem test_operandRangesC : ([((.movm 0 0 (4) 0), (.movm 0 0 0 0)),
   ((.inPort 0 0 0 (256)), (.inPort 0 0 0 0)),
   ((.rdsh 0 0 0 0 (64)), (.rdsh 0 0 0 0 0)),
   ((.periodBoundary (6)), (.periodBoundary 0)),
   ((.triggerCompareFire 0 (4)), (.triggerCompareFire 0 0)),
   ((.compareMatch 0 (6) false), (.compareMatch 0 0 false)),
   ((.patternCheck 0 (16)), (.patternCheck 0 0)),
   ((.patternMemoryWrite 0 (4096) 0), (.patternMemoryWrite 0 0 0)),
   ((.tripSourceQualified (256) false), (.tripSourceQualified 0 false)),
   ((.npcStageExpiry 0 (3)), (.npcStageExpiry 0 0)),
   ((.fclkReturn (2 ^ 64)), (.fclkReturn 0)),
   ((.sdComparatorActive (48) false), (.sdComparatorActive 0 false))] : List (Instr × Instr)).all (fun x => !x.1.wf && x.2.wf) = true := by decide +kernel

theorem test_operandRangesD : ([((.sequenceTrigger (8)), (.sequenceTrigger 0)),
   ((.sarSlotStart (2) 0), (.sarSlotStart 0 0)),
   ((.resolverConversion (3) 0 0 false 0), (.resolverConversion 0 0 0 false 0)),
   ((.encoderEdge (6) false false 0), (.encoderEdge 0 false false 0)),
   ((.ssiFrameStart (4) 0), (.ssiFrameStart 0 0)),
   ((.pulseInputEdge (4) 0 0), (.pulseInputEdge 0 0 0)),
   ((.captureEdge (8) false 0), (.captureEdge 0 false 0)),
   ((.auxCarrierBoundary (4)), (.auxCarrierBoundary 0)),
   ((.bootstrapUvlo (16)), (.bootstrapUvlo 0)),
   ((.zeroCrossing (2) 0 0), (.zeroCrossing 0 0 0)),
   ((.stpEnable (4)), (.stpEnable 0)),
   ((.dlEnableWrite (4) 0), (.dlEnableWrite 0 0))] : List (Instr × Instr)).all (fun x => !x.1.wf && x.2.wf) = true := by decide +kernel

theorem test_operandRangesE : ([((.decideChop 0 (16)), (.decideChop 0 0)),
   ((.dclDecideShare (4) 0), (.dclDecideShare 0 0)),
   ((.safDisc (32)), (.safDisc 0)),
   ((.telltaleTransmit (8)), (.telltaleTransmit 0)),
   ((.canInitSet (4)), (.canInitSet 0)),
   ((.canTxRequest 0 (64)), (.canTxRequest 0 0)),
   ((.hpAck 0 (8) 0), (.hpAck 0 0 0)),
   ((.ping (19) 0), (.ping 0 0)),
   ((.decisionDeadline (10) 0), (.decisionDeadline 0 0)),
   ((.decisionDeadline 0 (0x400)), (.decisionDeadline 0 0)),
   ((.errClaim (2)), (.errClaim 0)),
   ((.recRecordTaken (32)), (.recRecordTaken 0))] : List (Instr × Instr)).all (fun x => !x.1.wf && x.2.wf) = true := by decide +kernel

theorem test_operandRangesF : ([((.tlyKeyProgram (4)), (.tlyKeyProgram 0)),
   ((.thmTinInvalid (8)), (.thmTinInvalid 0))] : List (Instr × Instr)).all (fun x => !x.1.wf && x.2.wf) = true := by decide +kernel

theorem test_operandOthers : Instr.wf (.libStart .focPm 1 16 0) = false ∧ Instr.wf (.libStart .focPm 1 15 0) = true ∧ Instr.wf (.libStop .focPm 1 0 65536) = false ∧
    Instr.wf (.libStop .focPm 1 0 65535) = true ∧ Instr.wf (.temperatureReading [] (2 ^ 40)) = false ∧ Instr.wf (.temperatureReading [] (2 ^ 40 - 1)) = true := by decide +kernel

theorem test_operandZero : Instr.wf (.contextTrigger 0) = false ∧ Instr.wf (.registerWrite 0 0 3 0) = false ∧ Instr.wf (.registerWrite 0 0 4 0) = true := by decide +kernel

/-- For every signed field, pairing and list the same (R119, R122, R131). -/
theorem test_shapesA : ([(.br 0 4096, .br 0 4095), (.br 0 (-4097), .br 0 (-4096)), (.call 0 4096, .call 0 (-4096)), (.loop 0 1 4096, .loop 0 1 4095), (.loop 0 0 1, .loop 0 65535 1),
   (.movs 0 0 0 0 16 false, .movs 0 0 0 0 15 false), (.movs 0 0 0 0 (-17) false, .movs 0 0 0 0 (-16) true), (.ash 0 0 0 0 24, .ash 0 0 0 0 23), (.ash 0 0 0 0 (-24), .ash 0 0 0 0 (-23)),
   (.lsh 0 0 0 0 24, .lsh 0 0 0 0 (-23)), (.sha 0 0 0 0 32, .sha 0 0 0 0 31), (.sha 0 0 0 0 (-33), .sha 0 0 0 0 (-32))] : List (Instr × Instr)).all (fun x => !x.1.wf && x.2.wf) = true := by decide +kernel

theorem test_shapesB : ([(.ld 0 0 0 0 false 2048, .ld 0 0 0 0 true 2047), (.st 0 0 0 0 false (-2049), .st 0 0 0 0 true (-2048)), (.sincos 0 0 1 0, .sincos 0 0 14 15),
   (.inPort 0 0 0 0x93, .inPort 0 0 0 0x92), (.outPort 0 0 0x3F 0, .outPort 0 0 0x40 0), (.outPort 0 0 0x60 0, .outPort 0 0 0x5F 0),
   (.hspiWriteFrame [256], .hspiWriteFrame [0, 255]), (.scrubRead [4], .scrubRead [0, 3]), (.tuneRunEnd 0 0 [(4096, 0)], .tuneRunEnd 0 0 [(4095, 0xFFFFFF)])] : List (Instr × Instr)).all (fun x => !x.1.wf && x.2.wf) = true := by decide +kernel

/-! ## Values that the spec writes out -/

/-- The encoding examples of chapter Conath, section Encoding examples. -/
theorem test_conathWords : conathWord (.macx 3 0 0 4 1 true 1 true) = some 0xB40218001800 ∧ conathWord (.loop 0 8 13) = some 0x140034002000 ∧
    conathWord (.nop 11 0) = some 0 ∧ conathWord (.endProgram 11) = some 0x040000000000 := by decide +kernel

/-- The same words as an engine reads them. -/
theorem test_conathInstrs : conathInstr 0xB40218001800 3 = some (.macx 3 0 0 4 1 true 1 true) ∧ conathInstr 0x140034002000 0 = some (.loop 0 8 13) ∧
    conathInstr 0x040000000000 11 = some (.endProgram 11) ∧ conathInstr 0x040000000001 11 = none := by decide +kernel

/-- The derating example (chapter Thermal): 0x599A at a junction of 118 °C, 0x4CCD at a heatsink of 86 °C between 80 and 95. -/
theorem test_derating : derate (16 * 118) 1840 2000 = 0x599A ∧ derate (16 * 86) 1280 1520 = 0x4CCD ∧ derate 2000 1840 2000 = 0 ∧ derate 1840 1840 2000 = 0x8000 := by decide +kernel

/-- The plan of the ring's example: four nodes with NW = 16, a wheel and a Bell slot give L = 558 and, with D_MAX = 48, SHR_DONE = 1,198. -/
theorem test_plan : planLen (List.replicate 4 0x921 ++ List.replicate 12 0) = 558 ∧ planDone (List.replicate 4 0x921 ++ List.replicate 12 0) 48 = 1198 := by decide +kernel

/-- The registers of stream `k` in the recorder's example. -/
def recExample (k : Nat) : List (RF × Nat) :=
  [(RF.whole (Reg.REC_SRC k), 0x10000010 + k), (RF.whole (Reg.REC_CFG k), 0xE2000000), (RF.whole (Reg.REC_MINT k), 10), (RF.whole (Reg.REC_BASE k), k * 0x400000),
   (RF.whole (Reg.REC_SIZE k), 0x400000), (RF.whole (Reg.REC_POST k), 0x40000)]

/-- The recorder's example: REC_START = 0x1F admits streams 0 to 3 and refuses stream 4. -/
theorem test_recStart : after (Dev.sets d0 ([(Reg.DDR_CTL_SIZE, 1), (Reg.DDR_CTL_TRAINED, 1)] ++ recExample 0 ++ recExample 1 ++ recExample 2 ++ recExample 3 ++ recExample 4)) (.recStart 0x1F)
    (fun d => (d.g Reg.REC_BW_USED_BPS, d.g Reg.REC_REFUSED_MASK, d.on (Reg.REC_STAT_RUN 3), d.on (Reg.REC_STAT_RUN 4))) = some (800000000, 0x10, true, false) := by decide +kernel

/-- The bit timing of the CAN example is accepted: CAN_NBT = 0x1E01_3E0F, CAN_DBT = 0x0081_0D44. -/
theorem test_canTiming : (Dev.sets d0 [(RF.whole (Reg.CAN_NBT 0), 0x1E013E0F), (RF.whole (Reg.CAN_DBT 0), 0x00810D44)]).canCfgBad 0 = 0 := by decide +kernel

/-- SHA-256 of "abc". -/
theorem test_sha256 : sha256n [0x61, 0x62, 0x63] = [0xba, 0x78, 0x16, 0xbf, 0x8f, 0x01, 0xcf, 0xea, 0x41, 0x41, 0x40, 0xde, 0x5d, 0xae, 0x22, 0x23,
    0xb0, 0x03, 0x61, 0xa3, 0x96, 0x17, 0x7a, 0x9c, 0xb4, 0x10, 0xff, 0x61, 0xf2, 0x00, 0x15, 0xad] := by decide +kernel

/-- A step runs the command at the front and leaves the others; on an empty queue a tick passes. -/
theorem test_front : (match step { dev := d0, pending := [.drgCntClear, .dclFlr] } with | .next t => some (t.pending, t.dev.tick, t.dev.on Reg.PB_STAT_FLR) | _ => none) =
    some ([.dclFlr], 0, false) := by decide +kernel

theorem test_tick : (match step (st d0) with | .next t => some (t.pending, t.dev.tick) | _ => none) = some ([], 1) := by decide +kernel

/-! ## Witnesses: the queue, interrupts, the bus, links and resets -/

theorem witness_emptyQueueTicks : (st d0).pending = [] ∧ d0.sys.run ≠ .inReset ∧ d0.live = true ∧
    ({ d0 with sys := { fclkLost := some 0 } } : Dev).sys.fclkLost.isSome = true ∧ ({ d0 with sys := { run := .inReset } } : Dev).sys.run = .inReset := by decide +kernel

/-- A device with a record of severity 2 in domain 1's queue, and the source of its line enabled for a core. -/
def dIrq (target : Nat) : Dev :=
  { Dev.sets d0 [(Reg.IRQ_CFG_EN 206, 1), (Reg.IRQ_CFG_PRIO 206, 15), (Reg.IRQ_CFG_TARGET 206, target)] with
    errs := [{}, { queue := [⟨0, 0, 0x101, 2, 1, 0, []⟩] }] }

theorem witness_interruptClaims : (st (dIrq 0)).dev.live = true ∧ (dIrq 0).irqBest 0 = some 206 ∧ (dIrq 1).irqBest 1 = some 206 ∧
    (dIrq 1).irqBest 0 = none ∧ d0.irqBest 1 = none ∧ (0, 0) ∉ d0.sys.claimed ∧ (4095 : Nat) < 4096 := by decide +kernel

theorem witness_busErrors : (st d0).dev.live = true ∧ busRegion 0x30000002 = some .reg ∧ 0x30000002 % 4 ≠ 0 ∧ busRegion 0x3013FFFC = some .reg ∧
    busRegion 0 = some .rom ∧ busRegion 0x10000 = none ∧ busRegion 0x3020FFFC = some .saf ∧ busRegion 0x9FFFFFFF = some .flash := by decide +kernel

theorem witness_supervisorMemory : (st d0).dev.live = true ∧ busRegion 0x10000000 = some .sram ∧ busRegion 0x101FFFFF = some .sram ∧
    busRegion 0x18000000 = some .sram ∧ busRegion 0x180FFFFF = some .sram := by decide +kernel

/-- A device with counts of bad frames on the die link and the safety links. -/
def dLink (d2d k : Nat) : Dev := { d0 with sys := { d2dBad := d2d }, saf := { linkBad := [k, k] } }

theorem witness_linkEvents : (st (dLink 4 5)).dev.live = true ∧ 4 ≤ (dLink 4 5).sys.d2dBad ∧ (dLink 4 5).sys.d2dLost = false ∧
    (dLink 4 5).sys.run ≠ .inReset ∧ (dLink 4 5).saf.linkBad.length = 2 ∧ (dLink 4 5).saf.linkErr.length = 2 ∧ 5 ≤ (dLink 4 5).saf.linkBad.getD 1 0 ∧
    (dLink 4 5).saf.st ≠ 3 ∧ (dLink 4 5).saf.v24 = true := by decide +kernel

/-- A device that a low PORST_N holds in reset. -/
def dHeld : Dev := { d0 with sys := { run := .inReset, porstLow := true } }

theorem witness_deviceResets : d0.sys.run ≠ .inReset ∧ Supply.device .vddCore = true ∧ Supply.device .vddio33 = true ∧
    Supply.vddio33 ∉ d0.sys.suppliesLost ∧ dHeld.sys.run = .inReset ∧ dHeld.sys.porstLow = true ∧ dHeld.sys.rstLow = false ∧
    dHeld.sys.suppliesLost.any Supply.device = false ∧ d0.live = true ∧ d0.sys.porstLow = false ∧ d0.sys.rstLow = false ∧
    ({ d0 with sys := { suppliesLost := [.vddSrd] } } : Dev).sys.suppliesLost = [.vddSrd] := by decide +kernel

theorem witness_domainResets : (st d0).dev.live = true ∧ d0.islandMayReset = true ∧ ({ d0 with saf := { gd := 1 } } : Dev).islandMayReset = false ∧
    (Dev.sets d0 [(Reg.PWM_CH_STAT_SAFE 5, 0)]).islandMayReset = false := by decide +kernel

/-! ## Witnesses: time, wheels, Bells -/

/-- A device in a state of ring time. -/
def dRt (state master good miss : Nat) : Dev :=
  { Dev.sets d0 [(Reg.RT_STAT_STATE, state), (Reg.RT_STAT_MASTER, master)] with tb := { goodCyc := good, missCyc := miss } }

theorem witness_ringTime : (st (dRt 1 1 16 4)).dev.live = true ∧ (dRt 1 1 16 4).g Reg.RT_STAT_STATE = 1 ∧ 16 ≤ (dRt 1 1 16 4).tb.goodCyc ∧
    4 ≤ (dRt 1 1 16 4).tb.missCyc ∧ (dRt 2 0 0 4).g Reg.RT_STAT_STATE = 2 ∧ (dRt 1 1 16 4).on Reg.RT_STAT_MASTER = true ∧
    (dRt 2 0 0 4).on Reg.RT_STAT_MASTER = false ∧ 3 % 4 = 3 ∧ 2 % 4 < 3 ∧ 4 % 4 = 0 := by decide +kernel

theorem witness_lockGroupMap : (st d0).dev.live = true ∧ (∀ c < 6, (fun _ => 3) c = if 0x1B6DB / 2 ^ (3 * c) % 8 < 4 then 0x1B6DB / 2 ^ (3 * c) % 8
      else d0.g (Reg.LG_MAP_GRP c)) ∧ (∀ c < 6, 3 ≠ d0.g (Reg.LG_MAP_GRP c) → d0.on (Reg.PWM_CH_STAT_SAFE c) = true) ∧
    (∃ c < 6, 3 ≠ (Dev.sets d0 [(Reg.PWM_CH_STAT_SAFE 5, 0)]).g (Reg.LG_MAP_GRP c) ∧
      (Dev.sets d0 [(Reg.PWM_CH_STAT_SAFE 5, 0)]).on (Reg.PWM_CH_STAT_SAFE c) = false) := by decide +kernel

/-- A device with wheel 15 running from a source. -/
def dWhl (src sel stale : Nat) : Dev := Dev.sets d0 [(Reg.WHL_CFG_EN 15, 1), (Reg.WHL_CFG_SRC 15, src), (Reg.WHL_CFG_SEL 15, sel), (Reg.WHL_STAT_STALE 15, stale)]

theorem witness_wheels : (st d0).dev.live = true ∧ d0.on (Reg.WHL_CFG_EN 15) = false ∧ (0x71 : Nat).testBit 0 = true ∧ bits 0x71 7 4 ≠ 5 ∧ bits 0x71 7 4 ≤ 7 ∧
    (dWhl 1 5 0).on (Reg.WHL_CFG_EN 15) = true ∧ (dWhl 1 5 0).g (Reg.WHL_CFG_SRC 15) = 1 ∧ (dWhl 1 5 0).g (Reg.WHL_CFG_SEL 15) < 6 ∧
    ((dWhl 1 5 0).enc 5).fresh = false ∧ (dWhl 2 2 0).g (Reg.WHL_CFG_SRC 15) = 2 ∧ (dWhl 2 2 0).on (Reg.RSV_ANG_INVALID 2) = false ∧
    (dWhl 5 0 0).g (Reg.WHL_CFG_SRC 15) = 5 ∧ goesStale ((dWhl 1 5 0).g (Reg.WHL_CFG_SRC 15)) = true ∧ (dWhl 1 5 0).on (Reg.WHL_STAT_STALE 15) = false ∧
    ({ dWhl 1 5 0 with tick := 10 ^ 9 } : Dev).g (Reg.WHL_LIM_STALE 15) < ({ dWhl 1 5 0 with tick := 10 ^ 9 } : Dev).whlAge 15 := by decide +kernel

theorem witness_wheelSsi : ({ dWhl 3 3 0 with mea := { ssis := List.replicate 4 { last := false, ended := some 0 } } } : Dev).g (Reg.WHL_CFG_SRC 15) = 3 ∧
    (({ dWhl 3 3 0 with mea := { ssis := List.replicate 4 { last := false, ended := some 0 } } } : Dev).ssi 3).ended.isSome = true := by decide +kernel

/-- A Bell. -/
def bell (idx w0 w2 w3 w4 kind : Nat) : Bell := ⟨idx, 0, w0, 0, w2, w3, w4, kind, none, 1, 7, 0, 0⟩
/-- A device whose scheduler holds Bells and requests at a ring time. -/
def dBell (rt : Nat) (bells : List Bell) (reqs : List BellReq) : Dev :=
  { Dev.sets d0 [(Reg.DRG_STAT_ADMITTED, 1)] with tb := { rt := rt, bells := bells, reqs := reqs } }
/-- Every entry of the scheduler taken. -/
def fullBells : List Bell := (List.range 256).map fun i => bell i 9 0x90000 0 0 0

theorem witness_bellPosts : (st d0).dev.live = true ∧ d0.on (Reg.BELL_RESULT_BUSY 1) = false ∧
    (Dev.sets d0 [(Reg.BELL_RESULT_BUSY 1, 1)]).on (Reg.BELL_RESULT_BUSY 1) = true ∧
    (dBell 0 [] [⟨1, none, [64, 0, 0x90000, 5, 0]⟩]).bellRefusal 1 ⟨0, 0, 64, 0, 0x90000, 5, 0, 0, none, 0, 0, 0, 0⟩ = none ∧
    (dBell 0 [] [⟨1, none, [63, 0, 0x90000, 5, 0]⟩]).bellRefusal 1 ⟨0, 0, 63, 0, 0x90000, 5, 0, 0, none, 0, 0, 0, 0⟩ = some (Err.TB_BELL_PAST, [1, 0, 63, 0, 0, 0]) ∧
    (dBell 0 [] []).freeEntry = some 0 ∧ (dBell 0 [bell 0 9 0x90000 0 0 0] []).tb.bells.find? (fun b => b.handle == 0) = some (bell 0 9 0x90000 0 0 0) ∧
    (dBell 0 [] []).tb.bells.find? (fun b => b.handle == 65535) = none := by decide +kernel

theorem witness_bellLaunches : (dBell 9 [] []).live = true ∧ (dBell 9 [] []).tb.launched < 8 ∧ (dBell 9 [] []).tb.halted = false ∧
    (dBell 9 [bell 0 9 0x80000 0x10F 0 0] []).nextBell = some (bell 0 9 0x80000 0x10F 0 0) ∧ (bell 0 9 0x80000 0x10F 0 0).isAngle = false ∧
    (bell 0 9 0x80000 0x10F 0 0).action = 8 ∧ (bell 255 0 0x90000 0xFFFF 1 0).repeats = true ∧ (bell 255 0 0x90000 0xFFFF 1 0).action = 9 ∧
    (dBell 9 [{ bell 0 9 0x2090000 1 0 0 with carried := some 0 }] []).nextBell = some { bell 0 9 0x2090000 1 0 0 with carried := some 0 } ∧
    (bell 0 9 0x2090000 1 0 0).isAngle = true ∧ 8 ≤ ({ launched := 8 } : Tb).launched ∧ ({ halted := true } : Tb).halted = true := by decide +kernel

theorem witness_ringBells : (dBell 9 [] []).live = true ∧ (dBell 9 [] []).on Reg.DRG_STAT_ADMITTED = true ∧ 15 ≠ (dBell 9 [] []).me ∧ (1 : Nat).testBit (dBell 9 [] []).me = true ∧
    0 * 2 ^ 32 + 8 < (dBell 9 [] []).tb.rt ∧ (dBell 9 [] []).tb.rt ≤ 0 * 2 ^ 32 + 9 ∧ (dBell 9 [] []).freeEntry = some 0 ∧ (dBell 9 fullBells []).freeEntry = none ∧
    (∀ b ∈ (dBell 9 fullBells []).tb.bells, ¬ (b.kind = 1 ∧ b.org = 15 ∧ b.orgH = 0)) := by decide +kernel

/-- A device whose debug lock has a value. -/
def dLock (v : Nat) : Dev := { d0 with tly := { d0.tly with entries := updAt d0.tly.entries 15 (fun x => { x with value := [v] }) } }

theorem witness_outputsAndHalt : (dLock 0).live = true ∧ (dLock 0).debugOpen = true ∧ (dLock 0).tb.halted = false ∧ (dLock 1).debugOpen = false ∧
    ({ dLock 0 with tb := { halted := true } } : Dev).tb.halted = true := by decide +kernel

/-! ## Witnesses: the engine array -/

/-- A device with context `c` in a state on engine 11. -/
def dCtx (c state : Nat) (x : Ctx) : Dev :=
  { Dev.sets d0 [(Reg.CTX_W0_STATE c, state), (Reg.CTX_W0_ENG c, 11), (Reg.CTX_W2_T_MIN c, 1000)] with ce := { ctxs := updAt (List.replicate 256 {}) c (fun _ => x) } }

theorem witness_contextTriggers : (dCtx 255 2 {}).live = true ∧ (dCtx 255 2 {}).ctxState 255 = 2 ∧ (dCtx 255 2 {}).ctxEng 255 = 11 ∧
    (dCtx 255 2 {}).on (Reg.ENG_STAT_HALT 11) = false ∧ (dCtx 255 2 {}).on (Reg.ENG_STAT_FAULT 11) = false ∧ ((dCtx 255 2 {}).ctx 255).lastTrig = none ∧
    (dCtx 255 2 {}).ctxDiv 255 ≤ (dCtx 255 2 {}).g (Reg.CTX_STAT_DIV_CNT 255) + 1 ∧
    (Dev.sets (dCtx 255 2 {}) [(Reg.CTX_W1_DIV 255, 3)]).g (Reg.CTX_STAT_DIV_CNT 255) + 1 < (Dev.sets (dCtx 255 2 {}) [(Reg.CTX_W1_DIV 255, 3)]).ctxDiv 255 ∧
    ((dCtx 1 2 { lastTrig := some 0 }).ctx 1).lastTrig = some 0 ∧ 999 - 0 < (dCtx 1 2 { lastTrig := some 0 }).g (Reg.CTX_W2_T_MIN 1) ∧
    (dCtx 255 5 {}).ctxState 255 = 5 ∧ (Dev.sets (dCtx 1 2 {}) [(Reg.ENG_STAT_HALT 11, 1)]).on (Reg.ENG_STAT_HALT 11) = true ∧ (dCtx 1 4 {}).ctxState 1 = 4 := by decide +kernel

theorem witness_outputsAndLate : (dCtx 255 2 { outDue := some 0 }).live = true ∧ ((dCtx 255 2 { outDue := some 0 }).ctx 255).outDue = some 0 ∧
    ((dCtx 255 2 { outDue := some 0 }).ctx 255).evac = false ∧ ((dCtx 255 2 { outDue := some 0 }).ctx 255).role = .normal ∧
    (Dev.sets (dCtx 255 2 {}) [(RF.whole (Reg.CTX_OUT 255 31), 0x10000000 + 256 * 5 + 5 + 1)]).word (Reg.CTX_OUT 255 31) = 0x10000000 + 256 * 5 + 5 + 1 ∧
    (∀ p < 32, (({ latch := updAt (List.replicate 32 none) 31 (fun _ => some 7) } : Ctx).latch.getD p none) = if p = 31 then some 7 else none) ∧
    ((dCtx 1 3 { outDue := some 0, role := .discard, stopReq := true }).ctx 1).role = .discard ∧ ((dCtx 1 2 { phase := .queued }).ctx 1).phase = .queued ∧
    ((dCtx 1 2 { phase := .queued }).ctx 1).handover = none ∧ (dCtx 1 2 { phase := .queued }).ctxEng 1 < 12 ∧
    (Dev.sets (dCtx 1 2 {}) [(Reg.CTX_W1_LATE_MAX 1, 1)]).g (Reg.CTX_W1_LATE_MAX 1) ≤ satInc 255 ((dCtx 1 2 {}).g (Reg.CTX_STAT_CONSEC_LATE 1)) ∧
    satInc 255 ((dCtx 1 2 {}).g (Reg.CTX_STAT_CONSEC_LATE 1)) < (Dev.sets (dCtx 1 2 {}) [(Reg.CTX_W1_LATE_MAX 1, 15)]).g (Reg.CTX_W1_LATE_MAX 1) := by decide +kernel

/-- A device with engine 11 in a given condition and context 255 on it. -/
def dEng (g : Eng) (x : Ctx) : Dev := { dCtx 255 2 x with ce := { engs := updAt (List.replicate 12 {}) 11 (fun _ => g), ctxs := updAt (List.replicate 256 {}) 255 (fun _ => x) } }

theorem witness_contextRuns : (dEng { queue := [⟨0, 255⟩] } {}).live = true ∧ ((dEng { queue := [⟨0, 255⟩] } {}).eng 11).run = none ∧
    ((dEng { queue := [⟨0, 255⟩] } {}).eng 11).queue = [⟨0, 255⟩] ∧ (dEng {} {}).tick + (dEng {} {}).g (Reg.CTX_W4_N 255) ≤ ((dEng {} {}).ctx 255).t0 + (dEng {} {}).g (Reg.CTX_W3_OUTPHASE 255) ∧
    ((dEng { run := some 255, ended := some 7 } { phase := .running }).eng 11).ended = some 7 ∧
    7 + 3 = (Dev.sets (dEng {} {}) [(Reg.CTX_W4_N 255, 10)]).g (Reg.CTX_W4_N 255) ∧ 8 + 3 ≠ (Dev.sets (dEng {} {}) [(Reg.CTX_W4_N 255, 10)]).g (Reg.CTX_W4_N 255) ∧
    (dEng {} {}).ctxEng 255 = 11 ∧ ((dEng {} { phase := .running }).ctx 255).phase = .running ∧ (dEng {} {}).ctxState 255 = 2 ∧ ((dEng {} {}).eng 11).viol = false := by decide +kernel

/-- A device with a live context 1 and a second context that names it. -/
def dTwo (live shadow : Nat) : Dev :=
  Dev.sets d0 [(Reg.CTX_W0_STATE 1, live), (Reg.CTX_W0_STATE 2, shadow), (Reg.CTX_W0_SHADOW_OF 2, 1)]

theorem witness_ceCommands : d0.live = true ∧ (Dev.sets d0 [(Reg.CE_CMD_RESULT_BUSY, 1)]).on Reg.CE_CMD_RESULT_BUSY = true ∧ (dTwo 2 1).on Reg.CE_CMD_RESULT_BUSY = false ∧
    (dTwo 1 0).ctxState 1 = 1 ∧ (dTwo 1 0).ctxEng 1 ≠ (dTwo 1 0).spare ∧ d0.ctxState 255 ∉ [1] ∧ (dTwo 2 1).armedBind 1 = 0 ∧
    ((dTwo 2 1).ctx 1).phase = .idle ∧ ((dTwo 2 1).ctx 1).outDue = none ∧ ((dCtx 1 2 { phase := .running }).ctx 1).phase ≠ .idle ∧ (dTwo 4 1).ctxState 1 = 4 ∧
    (dTwo 2 1).g (Reg.CTX_W0_SHADOW_OF 2) = 1 ∧ (dTwo 2 1).ctxState 2 = 1 ∧ (dTwo 2 1).ctxState 1 = 2 ∧
    (dTwo 2 1).g (Reg.CTX_W1_TRIG_SRC 2) = (dTwo 2 1).g (Reg.CTX_W1_TRIG_SRC 1) ∧ (dTwo 2 1).g (Reg.CTX_W1_TRIG_CH 2) = (dTwo 2 1).g (Reg.CTX_W1_TRIG_CH 1) ∧
    (dTwo 2 1).g (Reg.CTX_W1_TRIG_CMP 2) = (dTwo 2 1).g (Reg.CTX_W1_TRIG_CMP 1) ∧ (dTwo 2 1).ctxDiv 2 = (dTwo 2 1).ctxDiv 1 ∧
    (dTwo 2 1).g (Reg.CTX_W2_T_MIN 2) = (dTwo 2 1).g (Reg.CTX_W2_T_MIN 1) ∧ (dTwo 2 3).ctxState 2 = 3 := by decide +kernel

/-- A device in which context 1 runs with channel 0 bound and a leg of it armed. -/
def dArmed : Dev := Dev.sets d0 [(Reg.CTX_W0_STATE 1, 2), (Reg.CTX_W1_BIND 1, 1), (Reg.PWM_CH_STAT_SAFE 0, 0)]

set_option maxRecDepth 1000000 in
theorem witness_ceStopBound : (dArmed.ctxState 1 = 2) ∧ dArmed.armedBind 1 ≠ 0 := by decide +kernel

theorem witness_ceLong : d0.live = true ∧ d0.loadParam 0 0 = some 0 ∧ d0.on Reg.CE_CMD_RESULT_BUSY = false ∧
    (Dev.sets (dTwo 1 1) [(Reg.CE_CFG_SPARE, 11)]).spareBusy 0 = 0 ∧ 0 ≠ (Dev.sets d0 [(Reg.CE_CFG_SPARE, 11)]).spare ∧
    (Dev.sets d0 [(Reg.CE_CFG_SPARE, 11)]).occupants 11 = [] ∧ (Dev.sets d0 [(Reg.CE_CFG_SPARE, 11)]).engCtxs 0 = [] ∧
    ({ d0 with ce := { busy := some ⟨1, 11, 255, 0⟩ } } : Dev).ce.busy = some ⟨1, 11, 255, 0⟩ ∧ d0.g (Reg.CTX_W5_PROG_LEN 255) ≤ 8192 ∧ d0.engCtxs 11 = [] := by decide +kernel

theorem witness_engineMemory : d0.live = true ∧ (∀ c ∈ d0.occupants 11, d0.dmFree c 32767 = true) ∧
    (∀ c ∈ d0.occupants 11, inSpan 8191 (d0.progRegion c).1 (d0.progRegion c).2 = false) ∧
    (∃ c ∈ (Dev.sets (dCtx 255 2 {}) [(Reg.CTX_W5_PROG_LEN 255, 1), (Reg.CTX_W6_STATE_LEN 255, 1)]).occupants 11,
      (Dev.sets (dCtx 255 2 {}) [(Reg.CTX_W5_PROG_LEN 255, 1), (Reg.CTX_W6_STATE_LEN 255, 1)]).dmFree c 0 = false ∧
      inSpan 0 ((Dev.sets (dCtx 255 2 {}) [(Reg.CTX_W5_PROG_LEN 255, 1), (Reg.CTX_W6_STATE_LEN 255, 1)]).progRegion c).1
        ((Dev.sets (dCtx 255 2 {}) [(Reg.CTX_W5_PROG_LEN 255, 1), (Reg.CTX_W6_STATE_LEN 255, 1)]).progRegion c).2 = true) := by decide +kernel

/-- A device with a migration of engine 0. -/
def dMig (waiting : Bool) (todo : List Nat) : Dev := { dCtx 255 5 { migFrom := 2 } with ce := { mig := some ⟨0, waiting, todo, 0, 0, []⟩ } }

theorem witness_engineFailures : d0.live = true ∧ d0.on (Reg.ENG_STAT_FAULT 11) = false ∧ (Dev.sets d0 [(Reg.ENG_STAT_FAULT 11, 1)]).on (Reg.ENG_STAT_FAULT 11) = true ∧
    0 ≠ d0.spare ∧ 255 ∈ (dCtx 255 2 {}).engCtxs 11 ∧ (dCtx 255 2 {}).g (Reg.CTX_W0_MIG 255) = 0 ∧ d0.on (Reg.ENG_STAT_HALT 11) = false ∧ (d0.eng 11).run = none ∧
    10 * d0.g Reg.CE_CFG_SIG_PERIOD ≤ msBetween (d0.eng 11).sigDue (10 ^ 9) ∧ (dMig true []).ce.mig.isSome = true ∧ (dMig false [255]).ctxState 255 = 5 ∧
    (⟨0, false, [255], 0, 0, []⟩ : Migration).todo = 255 :: [] := by decide +kernel

/-- A halted engine 11 whose run stands at a NOP. -/
def dHalted : Dev := { Dev.sets (dLock 0) [(Reg.ENG_STAT_HALT 11, 1)] with ce := { engs := updAt (List.replicate 12 {}) 11 (fun _ => { run := some 255 }) } }

theorem witness_engineDebug : dHalted.live = true ∧ dHalted.debugOpen = true ∧ dHalted.on (Reg.ENG_STAT_HALT 11) = true ∧ (dLock 0).on (Reg.ENG_STAT_HALT 11) = false ∧
    (dLock 2).debugOpen = false ∧ (dHalted.eng 11).run.isSome = true ∧ (dHalted.eng 11).ended = none ∧ conathOk (dHalted.pmWord 11 (dHalted.eng 11).pc) = true ∧
    conathInstr (dHalted.pmWord 11 (dHalted.eng 11).pc) 11 = some (.nop 11 0) := by decide +kernel

/-- A conditioner with a host value and scale. -/
def dSpc (h : Nat) : Dev := Dev.sets d0 [(Reg.SPC_CFG_KIND 15, 4), (Reg.SPC_SCALE_SCALE 15, 0x800000), (Reg.SPC_HOST_VALUE 15, h)]

theorem witness_setpointConditioners : (dSpc 0x7FFFFE).live = true ∧ (dSpc 0x7FFFFE).g (Reg.SPC_CFG_KIND 15) = 4 ∧ (dSpc 0x7FFFFE).g (Reg.SPC_RATE_VALUE 15) = 0 ∧
    (dSpc 0x7FFFFE).sg (Reg.SPC_SCALE_SCALE 15) * (dSpc 0x7FFFFE).sg (Reg.SPC_HOST_VALUE 15) = (0x3FFFFF : Int) * 2 ^ 24 ∧
    (dSpc 0x800000).sg (Reg.SPC_SCALE_SCALE 15) * (dSpc 0x800000).sg (Reg.SPC_HOST_VALUE 15) = (-0x400000 : Int) * 2 ^ 24 := by decide +kernel

/-- The bytes of an image: the header, with its CRC, and one END. -/
def imgBytes (n crc : Nat) : List Nat :=
  leBytes 4 0x48544E43 ++ leBytes 4 1 ++ leBytes 4 1 ++ leBytes 4 0 ++ leBytes 4 n ++ leBytes 4 crc ++ leBytes 4 0 ++ leBytes 4 0 ++ leBytes 8 0x040000000000
/-- A device with that image at the start of shared SRAM and an entry whose parameters pass. -/
def dLoad (n crc : Nat) : Dev :=
  (Dev.sets d0 [(RF.whole Reg.CE_IMG_ADDR, 0x18000000), (Reg.CTX_W2_T_MIN 255, 1000), (Reg.CTX_W3_OUTPHASE 255, 1000), (Reg.CE_CFG_SPARE, 15)]).setBytes 0x18000000 (imgBytes n crc)

theorem witness_ceLoad : (dLoad 3 1285718776).live = true ∧ (dLoad 3 1285718776).on Reg.CE_CMD_RESULT_BUSY = false ∧
    (dLoad 3 1285718776).loadParam 255 11 = none ∧ (dLoad 3 1285718776).ctxState 255 = 0 ∧ (dLoad 3 1285718776).on (Reg.ENG_STAT_FAULT 11) = false ∧
    (match (dLoad 3 1285718776).imgCheck ((dLoad 3 1285718776).word Reg.CE_IMG_ADDR) with | .ok im => im == ⟨1, 0, 0, 3⟩ | .error _ => false) = true := by decide +kernel

set_option maxRecDepth 1000000 in
theorem witness_ceLoadAdmitted : (match (dLoad 3 1285718776).tookFree.tookFree.admitOn 11 255 ⟨1, 0, 0, 3⟩
    (dLoad 3 1285718776).freeVal (dLoad 3 1285718776).tookFree.freeVal with | .ok _ => true | .error _ => false) = true := by
  decide +kernel

/-! ## Witnesses: Conath instructions -/

/-- A device in which engine 11 runs context 255. -/
def dRun (g : Eng) : Dev := { dEng { g with run := some 255 } { phase := .running } with tick := 1 }

theorem witness_registerResults : (st (dRun {})).dev.live = true ∧ (dRun {}).canIssue 11 = true ∧ ((dRun {}).eng 11).flight = [] ∧
    predTrue ((dRun {}).eng 11).n ((dRun {}).eng 11).z ((dRun {}).eng 11).v 0 = true ∧ predTrue ((dRun { n := true }).eng 11).n ((dRun {}).eng 11).z ((dRun {}).eng 11).v 7 = true ∧
    (gTable 11 0 15 15 15 15 0xFFFFFF 7 (-23) false ((dRun {}).eng 11)).length = 23 ∧ 0x40 ≤ 0x5F ∧ 0x5F < 0x60 := by decide +kernel

theorem witness_accumulatorArithmetic : (st (dRun {})).dev.live = true ∧ (dRun {}).canIssue 11 = true ∧ ((dRun {}).eng 11).flight = [] ∧
    predTrue ((dRun {}).eng 11).n ((dRun {}).eng 11).z ((dRun {}).eng 11).v 0 = true ∧ (aTable 11 0 3 15 15 3 3 7 true (-1) 0 true 0 ((dRun {}).eng 11)).length = 10 ∧
    (3 : Nat) ≠ 2 ∧ (7 : Nat) ≠ 6 := by decide +kernel

/-- The running context's state region is word 0. -/
def dMem : Dev := Dev.sets (dRun {}) [(Reg.CTX_W6_STATE_LEN 255, 1)]

theorem witness_loadsAndStores : dMem.live = true ∧ dMem.canIssue 11 = true ∧ (dMem.eng 11).flight = [] ∧ dMem.mayRead 255 0 = true ∧ dMem.mayWrite 255 0 = true ∧
    dMem.mayRead 255 32767 = false ∧ dMem.mayWrite 255 1 = false := by decide +kernel

theorem witness_longInstructions : (dRun {}).live = true ∧ (dRun {}).canIssue 11 = true ∧ 14 % 2 = 0 ∧
    ((dRun { g := List.replicate 16 0x800000 }).eng 11).gs 15 ≠ 0 ∧ ((dRun { g := List.replicate 16 0x800000 }).eng 11).gs 15 ≤ 0 ∧
    0 < ((dRun { g := List.replicate 16 1 }).eng 11).gs 15 ∧ ((dRun {}).eng 11).gs 15 = 0 := by decide +kernel

theorem witness_programControl : (dRun { pc := 8191 }).live = true ∧ (dRun { pc := 8191 }).canIssue 11 = true ∧ ((dRun { pc := 8191 }).eng 11).flight = [] ∧
    ((dRun { pc := 8191 }).eng 11).pc < 8192 ∧ ((dRun { pc := 8191 }).eng 11).slots ≠ 1 ∧ ((dRun { pc := 8191 }).eng 11).slots = 0 ∧
    ((dRun { pc := 8191 }).eng 11).loops = [] ∧ ((dRun { pc := 9, loops := [⟨5, 9, 2⟩] }).eng 11).loops = [⟨5, 9, 2⟩] ∧
    ((dRun { pc := 9, loops := [⟨5, 9, 2⟩] }).eng 11).pc = (⟨5, 9, 2⟩ : Loop).stop ∧ 1 < (⟨5, 9, 2⟩ : Loop).left ∧ (⟨5, 9, 1⟩ : Loop).left ≤ 1 ∧
    (1 : Int) ≤ 8191 ∧ (8191 : Int) < 8192 := by decide +kernel

theorem witness_issueAndLanding : (dRun {}).live = true ∧ (dRun {}).canIssue 11 = true ∧ ((dRun {}).eng 11).flight = [] ∧
    predTrue ((dRun {}).eng 11).n ((dRun {}).eng 11).z ((dRun {}).eng 11).v 1 = false := by decide +kernel

theorem witness_conath : (Instr.addk 11 7 15 15 0xFFF).wf = true ∧ (Instr.addk 11 7 15 15 0xFFF).engine = some 11 ∧
    (conathWord (.addk 11 7 15 15 0xFFF)).isSome = true ∧ (Instr.nop 11 0).wf = true ∧ conathInstr 0 11 = some (.nop 11 0) ∧
    (∃ op < 64, conathUsed op = none) := by decide +kernel

/-! ## Witnesses: pulse generation, trips, measurement -/

/-- A channel 5 beside its registers, in a device without forcing conditions. -/
def dPch (l : List (RF × Nat)) (x : PwmCh) : Dev := { Dev.sets d0 l with pwm := { chs := updAt (List.replicate 6 {}) 5 (fun _ => x), conds := [] } }

theorem witness_periodBoundaries : (dPch [] {}).live = true ∧ (dPch [] {}).lgMembers 5 = [5] ∧ (dPch [] {}).armWhy 5 = none ∧ d0.armWhy 5 = some 4 ∧
    (dPch [] {}).g (Reg.LG_MAP_GRP 5) = 0 ∧ (∀ c ∈ (dPch [] {}).lgMembers 5, (dPch [] {}).on (Reg.PWM_CH_CTL_ARM c) = false) ∧
    (∃ c ∈ (dPch [(Reg.PWM_CH_CTL_COMMIT 5, 1)] {}).lgMembers 5, (dPch [(Reg.PWM_CH_CTL_COMMIT 5, 1)] {}).on (Reg.PWM_CH_CTL_COMMIT c) = true) ∧
    (∀ c ∈ (dPch [] {}).lgMembers 5, (dPch [] {}).guardHolds c 256 = false) ∧
    (∃ c ∈ (dPch [(Reg.PWM_CH_CTL_PG_EN 5, 1), (Reg.PWM_PER_SH_PER 5, 0x3FFF)] {}).lgMembers 5,
      (dPch [(Reg.PWM_CH_CTL_PG_EN 5, 1), (Reg.PWM_PER_SH_PER 5, 0x3FFF)] {}).guardHolds c 0x3FFF = true ∧
      (dPch [(Reg.PWM_CH_CTL_PG_EN 5, 1), (Reg.PWM_CH_STAT_HOLD_CNT 5, 15)] {}).g (Reg.PWM_CH_STAT_HOLD_CNT c) < 16) ∧
    (∃ c ∈ (dPch [(Reg.PWM_CH_CTL_ARM 5, 1)] {}).lgMembers 5, (dPch [(Reg.PWM_CH_CTL_ARM 5, 1)] {}).on (Reg.PWM_CH_CTL_ARM c) = true ∧
      ((dPch [] {}).pch c).armTrip = false ∧ (dPch [] {}).armWhy c = none ∧ (dPch [] {}).on (Reg.PWM_CH_CTL_COMMIT c) = false) ∧
    (Dev.sets d0 [(Reg.LG_MAP_GRP 4, 3), (Reg.LG_MAP_GRP 5, 3)]).lgMembers 5 = [4, 5] ∧ d0.on (Reg.LG_CTL_ALIGN_EN 3) = false := by decide +kernel

/-- Leg 5 of channel 5. -/
def dLeg (l : List (RF × Nat)) (x y : Leg) : Dev := dPch l { legs := [{}, {}, {}, {}, x, y] }

theorem witness_carrierEdges : (dLeg [] {} {}).live = true ∧
    (dPch [(Reg.PWM_TRIG_ACT_EN 5 3, 1), (Reg.PWM_TRIG_ACT_VAL 5 3, 255)] {}).on (Reg.PWM_TRIG_ACT_EN 5 3) = true ∧
    (dPch [(Reg.PWM_TRIG_ACT_EN 5 3, 1), (Reg.PWM_TRIG_ACT_VAL 5 3, 255)] {}).g (Reg.PWM_TRIG_ACT_VAL 5 3) < ((dPch [] {}).pch 5).len ∧
    0 < ((dLeg [] {} { eff := 8191 }).leg 5 5).eff ∧ ((dLeg [] {} { eff := 8191 }).leg 5 5).eff < 32 * ((dLeg [] {} {}).pch 5).len ∧
    (dLeg [] {} {}).isChop 5 5 = false ∧ (dLeg [] {} {}).isNpc 5 2 = false ∧ (dLeg [] {} {}).on (Reg.PWM_CH_STAT_MODE 5) = false ∧
    (dLeg [] {} {}).g (Reg.PWM_MASK_ACT_MASK 5 5) = 0 ∧ (dLeg [] {} {}).on (Reg.PWM_LEG_CFG_MODE 5 5) = false ∧
    (dLeg [(Reg.PWM_LEG_STAT_ARMED 5, 63)] {} {}).isArmed 5 5 = true ∧ ((dLeg [] {} { reqH := true, reqL := false }).leg 5 5).reqH = true ∧
    ((dLeg [] {} { reqH := true, reqL := false }).leg 5 5).reqL = false ∧ ((dLeg [] {} { onL := true }).leg 5 5).onL = true ∧
    (dLeg [(Reg.PWM_CH_CFG_NPC 5, 4)] { reqH := true } { onH := true }).isNpc 5 2 = true ∧ 4 % 2 = 0 ∧
    ((dLeg [] { reqH := true } { onH := true }).leg 5 5).onH = true := by decide +kernel

theorem witness_patternMode : (dPch [] {}).live = true ∧ ((dPch [] { chk := some 15 }).pch 5).chk = some 15 ∧
    (dPch [(Reg.PWM_CH_STAT_MODE 5, 1)] {}).on (Reg.PWM_CH_STAT_MODE 5) = true ∧ ((dPch [] {}).pch 5).tbl ∈ (dPch [] {}).patTables 5 0 ∧
    ((dPch [] {}).pch 5).tbl ∉ (dPch [] {}).patTables 5 4095 ∧ ((dPch [] { pend := some (1, 15) }).pch 5).pend = some (1, 15) ∧
    inSync ((dPch [] {}).patEntries 5 15) ((dPch [] {}).patSync 5 15) ((dPch [] {}).patAngle 5 / 256) = true ∧
    (dPch [] {}).modeAsk 5 0 0 &&& (dPch [] {}).patLegs 5 15 = (dPch [] {}).patSyncState 5 15 &&& (dPch [] {}).patLegs 5 15 ∧
    (dPch [] {}).modeAsk 5 1 15 &&& (dPch [] {}).patLegs 5 15 = (dPch [] {}).patSyncState 5 15 &&& (dPch [] {}).patLegs 5 15 := by decide +kernel

theorem witness_tripsAndClockLoss : d0.live = true ∧ tripSource 0 = true ∧ tripSource 95 = true ∧ (Dev.sets d0 [(Reg.TRP_SRC_CFG_EN 95, 1)]).on (Reg.TRP_SRC_CFG_EN 95) = true ∧
    ((Dev.sets d0 [(Reg.TRP_SRC_CFG_GRP 95, 128)]).g (Reg.TRP_SRC_CFG_GRP 95)).testBit 7 = true ∧ clrCode d0 7 = 0 ∧
    ((dPch [] { phases := [{}, {}, { stage := some 0 }] }).phase 5 2).stage.isSome = true ∧ d0.sys.run ≠ .inReset ∧ d0.sys.fclkLost = none := by decide +kernel

/-- A device's measurement block. -/
def dMea (l : List (RF × Nat)) (m : Mea) : Dev := { Dev.sets d0 l with mea := m, tick := 10 ^ 6 }

theorem witness_conversions : (dMea [] {}).live = true ∧ (dMea [(Reg.SD_CLK_EN 5, 1), (Reg.SD_CFG_EN 47, 1)] {}).on (Reg.SD_CLK_EN (47 / 8)) = true ∧
    (dMea [(Reg.SD_CFG_EN 47, 1)] {}).on (Reg.SD_CFG_EN 47) = true ∧ (dMea [(Reg.SD_CFG_CMP_EN 47, 1)] {}).on (Reg.SD_CFG_CMP_EN 47) = true ∧
    max 1 ((dMea [] {}).g (Reg.SD_CFG_CMP_CNT 47)) ≤ ((dMea [] { sds := List.replicate 48 { outC := 15, inC := 15 } }).sdIn 47).outC ∧
    256 ≤ ((dMea [] { sds := List.replicate 48 { run := 256 } }).sdIn 47).run ∧ (dMea [] {}).on (Reg.SD_RES_STUCK 47) = false ∧
    ((dMea [] { sds := List.replicate 48 { chg := some 766 } }).sdIn 47).chg = some 766 ∧ 3 * (dMea [] {}).g (Reg.SD_CFG_CTL_OSR 47) - 2 ≤ 766 ∧
    (dMea [(Reg.SEQ_CFG_EN 7, 1)] {}).on (Reg.SEQ_CFG_EN 7) = true ∧ (dMea [] {}).mea.seqs.getD 7 none = none ∧
    (dMea [] { seqs := List.replicate 8 (some 0) }).mea.seqs.getD 7 none ≠ none := by decide +kernel

theorem witness_slots : (dMea [(Reg.ADC_CTL_RUN, 3)] {}).live = true ∧ ((dMea [(Reg.ADC_CTL_RUN, 3)] {}).g Reg.ADC_CTL_RUN).testBit 1 = true ∧
    (dMea [] { seqs := [none, none, none, none, some 0] }).mea.seqs.getD 4 none = some 0 ∧ sarChannel 1 19 < 40 ∧ 16 ≤ sarChannel 1 19 ∧
    (dMea [] {}).sarClaimed (sarChannel 1 19) = false ∧ (∀ q < 8, 4 ≤ q → (dMea [] {}).mea.seqs.getD q none = none) ∧
    (dMea [] { scan := List.replicate 40 true }).mea.scan.getD (sarChannel 1 0) false = true ∧ sarChannel 1 0 < 16 ∧ ((dMea [] {}).hb (sarChannel 1 0)).lo = false ∧
    (dMea [] {}).g (Reg.SAR_RES_PRED_CNT (sarChannel 1 0)) < 8 ∧ ((dMea [] { sars := List.replicate 40 { v1 := some (2, 0), v2 := some (1, 0) } }).sar 0).v1 = some (2, 0) ∧
    (dMea [] { slots := [none, some (39, 0)] }).mea.slots.getD 1 none = some (39, 0) ∧ (dMea [] {}).on (Reg.SAR_RES_LIMIT 39) = false ∧
    (dMea [] {}).g (Reg.SAR_LIM_LO 39) ≤ 16383 ∧ 16383 ≤ (dMea [] {}).g (Reg.SAR_LIM_HI 39) ∧
    (dMea [(Reg.SAR_LIM_HI 39, 0)] {}).g (Reg.SAR_LIM_HI 39) < 1 ∧ 3 ≤ ((dMea [] { sars := List.replicate 40 { outC := 3 } }).sar 39).outC := by decide +kernel

theorem witness_resolvers : (dMea [(Reg.RSV_CFG_EN 2, 1)] {}).live = true ∧ (dMea [(Reg.RSV_CFG_EN 2, 1)] {}).on (Reg.RSV_CFG_EN 2) = true ∧
    (dMea [] {}).on (Reg.RSV_ANG_INVALID 2) = false ∧ (dMea [] {}).g (Reg.RSV_LIM_LO 2) ≤ isqrt (8191 * 1024 * (8191 * 1024) : Int).toNat / 128 + 1 ∧
    isqrt (6000 * 1024 * (6000 * 1024) : Int).toNat / 128 < (dMea [] {}).g (Reg.RSV_LIM_HI 2) ∧ (dMea [] {}).g (Reg.RSV_LIM_LO 2) ≤ isqrt (6000 * 1024 * (6000 * 1024) : Int).toNat / 128 ∧
    isqrt (0 : Int).toNat / 128 + 1 < (dMea [] {}).g (Reg.RSV_LIM_LO 2) ∧ 1 ≤ ((dMea [] { rsvs := List.replicate 3 { bad := 1 } }).mea.rsvs.getD 2 {}).bad := by decide +kernel

theorem witness_positions : (dMea [(Reg.ENC_CFG_EN 5, 1)] {}).live = true ∧ (dMea [(Reg.ENC_CFG_EN 5, 1)] {}).on (Reg.ENC_CFG_EN 5) = true ∧
    (dMea [] {}).on (Reg.ENC_CFG_MODE 5) = false ∧ ((dMea [] {}).enc 5).a = false ∧ ((dMea [] {}).enc 5).b = false ∧
    (dMea [(Reg.ENC_CFG_MODE 5, 1)] {}).on (Reg.ENC_CFG_MODE 5) = true ∧ ((dMea [] { encs := List.replicate 6 { zPrev := some 0, cnt := 7 } }).enc 5).zPrev = some 0 ∧
    (dMea [(Reg.ENC_CFG_CPT 5, 8)] {}).g (Reg.ENC_CFG_CPT 5) ≠ 0 ∧ (7 - 0 : Int).natAbs ≠ (dMea [(Reg.ENC_CFG_CPT 5, 8)] {}).g (Reg.ENC_CFG_CPT 5) ∧
    (dMea [(Reg.SSI_CFG_EN 3, 1)] {}).on (Reg.SSI_CFG_EN 3) = true ∧ ((dMea [] {}).ssi 3).start = none ∧ ((dMea [] {}).ssi 3).ended = none ∧
    (10 ^ 6 : Nat) < 10 ^ 6 + (dMea [(Reg.SSI_TRG_MONO 3, 1)] {}).g (Reg.SSI_TRG_MONO 3) * 250 ∧
    ((dMea [] { ssis := List.replicate 4 { start := some 5 } }).ssi 3).start = some 5 ∧
    (dMea [] {}).g (Reg.SSI_CFG_TURN_BITS 3) + (dMea [] {}).g (Reg.SSI_CFG_ST_BITS 3) ≤ (dMea [] {}).g (Reg.SSI_CFG_LEN 3) ∧ (dMea [] {}).g (Reg.SSI_CFG_ST_BITS 3) ≤ 24 ∧
    (dMea [] {}).on (Reg.SSI_CFG_GRAY 3) = false ∧ (dMea [] {}).on (Reg.SSI_CFG_PAR 3) = false ∧
    max 8 (min 48 (bits 0x80081F1F 21 16)) < bits 0x80081F1F 12 8 + bits 0x80081F1F 4 0 + bits 0x80081F1F 29 29 := by decide +kernel

theorem witness_pulsesAndCaptures : (dMea [(Reg.PLS_CFG_EN 3, 1)] {}).on (Reg.PLS_CFG_EN 3) = true ∧ ((dMea [] { plss := List.replicate 4 { rise := some 0, need := 1 } }).mea.plss.getD 3 {}).rise = some 0 ∧
    (0 : Nat) < 1 ∧ (dMea [] {}).on (Reg.PLS_RES_INVALID 3) = false ∧ (dMea [(Reg.CAP_CFG_EN 7, 1)] {}).on (Reg.CAP_CFG_EN 7) = true ∧
    capPin ((dMea [] {}).g (Reg.CAP_CFG_PIN 7)) = true ∧ (dMea [(Reg.CAP_CFG_EDGE 7, 3)] {}).g (Reg.CAP_CFG_EDGE 7) % 2 = 1 ∧ (dMea [(Reg.CAP_CFG_EDGE 7, 3)] {}).g (Reg.CAP_CFG_EDGE 7) / 2 = 1 ∧
    ((dMea [] {}).mea.caps.getD 7 {}).fifo.length < 4 ∧ 4 ≤ ((dMea [] { caps := List.replicate 8 { fifo := [1, 2, 3, 4] } }).mea.caps.getD 7 {}).fifo.length := by decide +kernel

/-! ## Witnesses: the library and the auxiliary bridges -/

/-- A device with a library context 255 bound to conditioner 15. -/
def dLib (state : Nat) : Dev := Dev.sets (dCtx 255 state {}) [(Reg.SPC_CFG_KIND 15, 4), (RF.whole (Reg.SPC_SCALE 15), 0x1000000), (RF.whole (Reg.SPC_OFS 15), 0),
  (RF.whole (Reg.SPC_DB 15), 0), (RF.whole (Reg.SPC_RATE 15), 0), (RF.whole (Reg.CTX_IN 255 0), 0x5000000F), (Reg.HST_CTL_SV_READY, 1)]

theorem witness_libraryCommands : (dLib 2).live = true ∧ (dLib 2).libBound 255 15 = true ∧ (dLib 2).libRuns 255 = true ∧ (dLib 3).libRuns 255 = true ∧
    (dLib 2).on Reg.HST_CTL_SV_READY = true ∧ (∃ st, libStart .focPm 0 = .ok st) := ⟨by decide, by decide, by decide, by decide, by decide, ⟨_, rfl⟩⟩

/-- A device whose get-home setting of channel 5 names two pairs that hand over. -/
def dHome : Dev :=
  { Dev.sets d0 [(Reg.HST_CTL_SV_READY, 1), (Reg.CTX_W0_STATE 1, 2), (Reg.CTX_W0_STATE 2, 2), (Reg.CTX_W0_STATE 3, 3), (Reg.CTX_W0_SHADOW_OF 3, 1),
      (Reg.CTX_W0_STATE 4, 3), (Reg.CTX_W0_SHADOW_OF 4, 2)] with hst := { getHome := List.replicate 6 ⟨true, 1, 2, 3, 4⟩ } }

theorem witness_getHome : dHome.live = true ∧ dHome.hst.getHome[5]? = some ⟨true, 1, 2, 3, 4⟩ ∧ dHome.on Reg.HST_CTL_SV_READY = true ∧
    ((dHome.bellPost 0 (rtWords 1000 ++ [5 * 65536, 1 + 256 * 3, 0])).2.2.g (Reg.BELL_RESULT_RESULT 0) = 0) ∧
    ((dHome.bellPost 0 (rtWords 1000 ++ [5 * 65536, 1 + 256 * 3, 0])).2.2.bellPost 0 (rtWords 1000 ++ [5 * 65536, 2 + 256 * 4, 0])).1 = 0 := by decide +kernel

/-- A device with an auxiliary half-bridge 15 beside its registers. -/
def dHb (l : List (RF × Nat)) (h : Hb) : Dev := { Dev.sets d0 l with aux := { hbs := List.replicate 16 h }, tick := 2500 }

theorem witness_auxBridges : (dHb [] {}).live = true ∧ (dHb [(Reg.ACAR_CFG_EN 3, 1)] {}).on (Reg.ACAR_CFG_EN 3) = true ∧
    (dHb [(Reg.HB_CFG_OWNER 15, 1), (Reg.HB_CFG_RUN 15, 1), (Reg.HB_CFG_CAR 15, 3)] {}).g (Reg.HB_CFG_OWNER 15) = 1 ∧
    (dHb [(Reg.HB_CFG_OWNER 15, 1), (Reg.HB_CFG_RUN 15, 1), (Reg.HB_CFG_CAR 15, 3)] {}).g (Reg.HB_CFG_CAR 15) = 3 ∧
    0 < ((dHb [] { cmp := 1 }).hb 15).cmp ∧ ((dHb [] { cmp := 1 }).hb 15).cmp < (dHb [] {}).g (Reg.ACAR_CFG_PER ((dHb [] {}).hbCarrier 15)) ∧
    (dHb [] {}).on (Reg.CMU_CFG_MAIN 1) = false ∧ (dHb [(Reg.CMU_STAT_STATE 1, 7)] {}).cmState 1 = 7 ∧ ((dHb [] {}).hb 15).uvPer = none ∧
    ((dHb [] { uvPer := some 1 }).hb 15).uvPer ≠ none ∧ (dHb [(Reg.HB_ILIM_IOC 15, 1)] {}).on (Reg.HB_ILIM_IOC 15) = true ∧
    (dHb [] {}).hbActive 15 = false ∧ ((dHb [] {}).hb 15).hoOff + 2500 ≤ (dHb [] {}).tick ∧
    (dHb [(Reg.AUX_STAT_EN, 1), (Reg.AUX_STAT_VDRV_OK, 1), (Reg.HB_STAT_BS_OK 15, 1)] {}).on Reg.AUX_STAT_VDRV_OK = true ∧
    ((dHb [] { leak := true }).hb 15).leak = true ∧ (dHb [(Reg.CMU_CFG_MAIN 1, 1)] {}).on (Reg.CMU_CFG_MAIN 1) = true := by decide +kernel

/-! ## Witnesses: commutators and step axes -/

/-- A commutator 1 beside its registers, in a state. -/
def dCmu (state : Nat) (l : List (RF × Nat)) (x : Cmu) : Dev :=
  { Dev.sets d0 ((Reg.CMU_STAT_STATE 1, state) :: l) with aux := { cmus := [{}, x] }, tick := 10 ^ 6 }

theorem witness_commutatorCommands : (dCmu 0 [] {}).live = true ∧ (dCmu 0 [] {}).cmState 1 = 0 ∧ (dCmu 0 [] {}).cmuStartBad 1 = none ∧
    (dCmu 0 [(Reg.CMU_CFG_MAIN 1, 1)] {}).cmuStartBad 1 = some 12 ∧ (dCmu 7 [] {}).cmState 1 = 7 ∧ (dCmu 8 [] {}).cmState 1 = 8 ∧
    (dCmu 2 [] {}).cmState 1 = 2 ∧ ((dCmu 2 [] {}).cmu 1).retry = false ∧ 0 ∈ ((dCmu 2 [] {}).cmuEstimate 1).2 ∧ 4 ∉ ((dCmu 2 [] {}).cmuEstimate 1).2 ∧
    ((dCmu 2 [] { retry := true }).cmu 1).retry = true ∧ (dCmu 2 [(Reg.CMU_STAT_ATTEMPT 1, 2)] {}).g (Reg.CMU_STAT_ATTEMPT 1) ≠ 3 ∧
    (dCmu 2 [(Reg.CMU_STAT_ATTEMPT 1, 3)] {}).g (Reg.CMU_STAT_ATTEMPT 1) = 3 := by decide +kernel

theorem witness_commutatorSequence : (dCmu 1 [] {}).live = true ∧ (dCmu 1 [] {}).cmState 1 = 1 ∧ ((dCmu 1 [] {}).cmu 1).seen = [] ∧
    (dCmu 1 [(Reg.ASSIST_CFG_MODE 1, 0)] {}).assistMode 1 = 0 ∧ (dCmu 1 [(Reg.ASSIST_CFG_MODE 1, 1)] {}).assistMode 1 ≠ 0 ∧
    ((dCmu 1 [] { seen := [(4, 5)] }).cmu 1).seen = [(4, 5)] ∧
    ((dCmu 1 [] { seen := [(10 + 3 * 250, 2), (10 + 2 * 250, 1), (10 + 250, 0), (10, 5)] }).cmu 1).seen =
      [(10 + 3 * 250, (5 + 3) % 6), (10 + 2 * 250, (5 + 2) % 6), (10 + 250, (5 + 1) % 6), (10, 5)] ∧
    (dCmu 1 [] {}).on (Reg.CMU_CFG_DIR 1) = false ∧ 250 ≤ (dCmu 1 [(Reg.CMU_CATCH_T_STILL 1, 1)] {}).g (Reg.CMU_CATCH_T_STILL 1) * 2500 ∧
    250 ≤ (dCmu 1 [(Reg.CMU_SPD_T_SYNC 1, 1)] {}).g (Reg.CMU_SPD_T_SYNC 1) * 250 ∧ (dCmu 3 [] {}).cmState 1 = 3 ∧ (dCmu 4 [] {}).cmState 1 = 4 ∧
    ((dCmu 4 [] { iA := 255, peak := 255 * 2 ^ 14 - 1 }).cmu 1).peak < (((dCmu 4 [] { iA := 255, peak := 255 * 2 ^ 14 - 1 }).cmu 1).iA * 2 ^ 14 : Nat) ∧
    (((dCmu 4 [] { iA := 255, peak := 255 * 2 ^ 14 }).cmu 1).iA * 2 ^ 14 : Nat) ≤ ((dCmu 4 [] { iA := 255, peak := 255 * 2 ^ 14 }).cmu 1).peak ∧
    (dCmu 5 [] {}).cmState 1 = 5 ∧ ((dCmu 5 [] { lock := true, lockCnt := 6, secCnt := 36 }).cmu 1).lock = true ∧
    max 1 ((dCmu 5 [(Reg.CMU_ZC_LOCK_N 1, 6)] {}).g (Reg.CMU_ZC_LOCK_N 1)) ≤ ((dCmu 5 [] { lock := true, lockCnt := 6, secCnt := 36 }).cmu 1).lockCnt ∧
    36 ≤ ((dCmu 5 [] { lock := true, lockCnt := 6, secCnt := 36 }).cmu 1).secCnt ∧ (dCmu 5 [(Reg.ASSIST_CFG_MODE 0, 0)] {}).assistMode 0 = 0 ∧
    (dCmu 5 [(Reg.ASSIST_CFG_MODE 0, 2)] {}).assistMode 0 ≠ 0 ∧ (dCmu 5 [(Reg.CMU_STAT_ATTEMPT 1, 2)] {}).g (Reg.CMU_STAT_ATTEMPT 1) < 3 := by decide +kernel

theorem witness_commutations : (dCmu 6 [] {}).live = true ∧ (dCmu 6 [] {}).cmState 1 = 6 ∧ ((dCmu 6 [] { lastX := some 999999 }).cmu 1).lastX = some 999999 ∧
    999999 < 10 ^ 6 ∧ (dCmu 6 [] {}).tick ≤ 10 ^ 6 ∧ (dCmu 6 [(Reg.CMU_CFG_ADV 1, 30)] {}).g (Reg.CMU_CFG_ADV 1) ≤ 30 ∧
    ((dCmu 6 [] { comms := 4 }).cmu 1).comms + 1 < 6 * max 1 ((dCmu 6 [] {}).g (Reg.CMU_MP_MP_TURNS 1)) ∧ ((dCmu 6 [] { crossed := true }).cmu 1).crossed = true ∧
    ((dCmu 6 [] {}).cmu 1).crossed = false ∧ (dCmu 6 [(Reg.CMU_STAT_MISS 1, 4)] {}).g (Reg.CMU_STAT_MISS 1) < 5 ∧
    (dCmu 6 [(Reg.CMU_STAT_MISS 1, 5)] {}).g (Reg.CMU_STAT_MISS 1) = 5 ∧ (dCmu 5 [] { lock := true }).cmState 1 = 5 := by decide +kernel

/-- An axis 3 beside its registers, in a state. -/
def dAxis (state : Nat) (l : List (RF × Nat)) (x : Axis) : Dev :=
  { Dev.sets d0 ((Reg.STP_STAT_STATE 3, state) :: l) with aux := { axes := [{}, {}, {}, x] } }

theorem witness_axisCommands : (dAxis 0 [] {}).live = true ∧ (dAxis 0 [] {}).axState 3 = 0 ∧ 0 ∉ [2, 4] ∧
    (dAxis 0 [(Reg.STP_CFG_OUTM 3, 1)] {}).on (Reg.STP_CFG_OUTM 3) = true ∧ (dAxis 0 [] {}).on (Reg.STP_CFG_OUTM 3) = false ∧
    (∃ i < 4, (dAxis 0 [] {}).g (Reg.HB_CFG_OWNER (4 * 3 + i)) ≠ 4) ∧
    (let l := [(Reg.HB_CFG_OWNER 12, 4), (Reg.HB_CFG_OWNER 13, 4), (Reg.HB_CFG_OWNER 14, 4), (Reg.HB_CFG_OWNER 15, 4), (Reg.STP_CFG_CAR 3, 3), (Reg.ACAR_CFG_EN 3, 1)];
      (∀ i < 4, (dAxis 0 l {}).g (Reg.HB_CFG_OWNER (4 * 3 + i)) = 4) ∧ (dAxis 0 l {}).on (Reg.ACAR_CFG_EN ((dAxis 0 l {}).g (Reg.STP_CFG_CAR 3))) = true) ∧
    (dAxis 5 [] {}).axState 3 = 5 ∧ (dAxis 1 [] {}).axState 3 = 1 ∧ (dAxis 1 [] {}).on (Reg.STP_CFG_MODE 3) = false ∧
    (let d := dAxis 1 [(Reg.STP_CFG_MODE 3, 1), (Reg.STP_GEAR_WHEEL 3, 15), (Reg.WHL_CFG_EN 15, 1)] {};
      d.on (Reg.STP_CFG_MODE 3) = true ∧ d.on (Reg.WHL_CFG_EN (d.g (Reg.STP_GEAR_WHEEL 3))) = true ∧ d.g (Reg.WHL_CFG_SRC 31) ≠ 5) ∧
    (dAxis 2 [] { v := -1 }).axState 3 = 2 ∧ ((dAxis 2 [] { v := -1 }).axis 3).v ≠ 0 ∧ ((dAxis 2 [] {}).axis 3).v = 0 ∧
    (dAxis 1 [(Reg.STP_LIMSRC_HOME_SRC 3, 62)] {}).g (Reg.STP_LIMSRC_HOME_SRC 3) % 64 ≠ 63 := by decide +kernel

theorem witness_axisEvents : (dAxis 2 [] {}).live = true ∧
    (dAxis 2 [(Reg.STP_LIMSRC_LIM_HI_SRC 3, 0x80), (Reg.STP_LIMSRC_LIM_LO_SRC 3, 0xBF)] {}).g (Reg.STP_LIMSRC_LIM_HI_SRC 3) / 128 = 1 ∧
    (dAxis 2 [(Reg.STP_LIMSRC_LIM_LO_SRC 3, 0xBF)] {}).g (Reg.STP_LIMSRC_LIM_LO_SRC 3) / 128 = 1 ∧ (dAxis 2 [] {}).axState 3 ≠ 4 ∧
    (∀ h < 5, (dAxis 4 [(Reg.STP_STAT_HSTEP 3, h)] {}).g (Reg.STP_STAT_HSTEP 3) = h) ∧ (dAxis 4 [] { v := 1 }).axState 3 = 4 ∧
    ((dAxis 4 [] { v := 1 }).axis 3).fail = 0 ∧ ((dAxis 4 [] { v := 1 }).axis 3).decel = false ∧ ((dAxis 4 [] { v := 1 }).axis 3).v ≠ 0 ∧
    ((dAxis 4 [] { v := 1 }).axis 3).homeIn = false ∧ ((dAxis 4 [] { v := 1, pEdge := some (-5) }).axis 3).pEdge = some (-5) ∧
    (dAxis 3 [] {}).axState 3 = 3 ∧ ((dAxis 3 [] {}).axis 3).v = 0 ∧ ((dAxis 4 [] { decel := true, pEdge := some 5 }).axis 3).decel = true ∧
    (dAxis 1 [] {}).axState 3 = 1 ∧ ((dAxis 1 [] {}).axis 3).v = 0 ∧ (dAxis 2 [(Reg.STP_CFG_MODE 3, 1)] {}).on (Reg.STP_CFG_MODE 3) = true ∧
    (let d := dAxis 2 [(Reg.STP_GEAR_LAG_MAX 3, 1)] { g := mstep, p := -1 };
      d.g (Reg.STP_GEAR_LAG_MAX 3) ≠ 0 ∧ (d.g (Reg.STP_GEAR_LAG_MAX 3) : Int) * mstep < ((d.axis 3).g - (d.axis 3).p).natAbs ∧ d.on (Reg.STP_STAT_LAG 3) = false) := by decide +kernel

/-! ## Witnesses: DC link, ring -/

/-- The DCL block beside its registers. -/
def dDcl (l : List (RF × Nat)) (x : Dcl) : Dev := { Dev.sets d0 l with dcl := x, tick := 250 * 65535 + 1 }
/-- Monitor 3 in operation. -/
def dMon (l : List (RF × Nat)) (x : DcMon) : Dev := dDcl ((Reg.DL_CFG_EN 3, 1) :: l) { mons := [{}, {}, {}, x] }
/-- Thresholds of monitor 3 in order. -/
def thr : List (RF × Nat) := [(Reg.DL_THR0_OVC 3, 100), (Reg.DL_THR0_CH_ON 3, 110), (Reg.DL_HYS_CH_OFF 3, 105), (Reg.DL_THR1_WARN 3, 120),
  (Reg.DL_THR1_TRIP 3, 130), (Reg.DL_VFS_VFS 3, 1000), (Reg.DL_HYS_WARN_HYS 3, 1)]

theorem witness_dcLinkMonitors : (dDcl thr {}).live = true ∧ (dDcl thr {}).on (Reg.DL_CFG_EN 3) = false ∧ (dDcl thr {}).dlFree 3 = true ∧
    (0xC000233F : Nat).testBit 31 = true ∧ bits 0xC000233F 13 8 ≤ 35 ∧ (∀ j < 4, j ≠ 3 → (dDcl thr {}).g (Reg.DL_CFG_MEMBERS j) &&& bits 0xC000233F 5 0 = 0) ∧
    (dDcl thr {}).dlOrder 3 = 0 ∧ (dDcl [] {}).dlOrder 3 ≠ 0 ∧ ((dDcl thr {}).mon 3).desig = none ∧
    (dMon thr {}).on (Reg.DL_CFG_EN 3) = true ∧ (dMon thr {}).on (Reg.DL_STAT_INVALID 3) = false ∧
    0 + 250 * (dMon ((Reg.DL_TIM_CH_MIN 3, 255) :: thr) { chgAt := some 0 }).g (Reg.DL_TIM_CH_MIN 3) ≤ (dMon thr {}).tick ∧
    2 ≤ ((dMon thr { onC := 2 }).mon 3).onC ∧ (dMon thr {}).on (Reg.DL_STAT_CHOP_ON 3) = false ∧ (dMon ((Reg.DL_STAT_CHOP_ON 3, 1) :: thr) {}).on (Reg.DL_STAT_CHOP_ON 3) = true ∧
    2 ≤ ((dMon thr { offC := 2 }).mon 3).offC ∧ ((dMon thr { desig := some 35 }).mon 3).desig = some 35 ∧ ((dMon thr {}).g Reg.TRP_STAT_LATCH).testBit 7 = false ∧
    (dMon thr {}).on (Reg.DL_STAT_CHOP_FAIL 3) = false ∧ (dMon thr {}).on Reg.TRP_STAT_CLK_LOSS = false ∧
    (dMon [(Reg.DL_VFS_VFS 3, 1000)] {}).dlCode 3 ((dMon [(Reg.DL_VFS_VFS 3, 1000)] {}).dlWarn 3) ≤ (dMon [(Reg.DL_VFS_VFS 3, 1000)] {}).dlProt 3 ∧
    (dMon thr {}).dlProt 3 ≤ (dMon thr {}).dlWarnOff 3 ∧ (dMon thr {}).on (Reg.DL_STAT_TRIP 3) = false ∧
    max 1 ((dMon ((Reg.DL_TIM_TRIP_CNT 3, 15) :: thr) {}).g (Reg.DL_TIM_TRIP_CNT 3)) ≤ ((dMon thr { tripC := 15 }).mon 3).tripC ∧
    (dMon thr {}).sdInvalid ((dMon thr {}).g (Reg.DL_CFG_VSRC 3)) = true := by decide +kernel

theorem witness_choppers : (dMon ((Reg.DL_CFG_CHOP_EN 3, 1) :: (Reg.TRP_STAT_LATCH, 128) :: thr) {}).on (Reg.DL_CFG_CHOP_EN 3) = true ∧
    ((dMon ((Reg.DL_CFG_CHOP_EN 3, 1) :: (Reg.TRP_STAT_LATCH, 128) :: thr) {}).g Reg.TRP_STAT_LATCH).testBit 7 = true ∧
    ((dMon thr { desig := some 0 }).mon 3).desig = some 0 ∧ (({ dMon thr {} with pwm := { chs := [{ legs := [{ onH := true }] }] } } : Dev).leg 0 0).onH = true ∧
    ((dMon thr {}).sdIn 0).cur.2.2 < toInt 16 ((dMon ((Reg.DL_CHI_CH_IMIN 3, 1) :: thr) {}).g (Reg.DL_CHI_CH_IMIN 3)) * 256 ∧
    (dMon thr {}).dlCtl 3 ≤ (dMon thr {}).dlWarnOff 3 ∧ (dMon [(Reg.DL_VFS_VFS 3, 1000)] {}).dlCtl 3 ≤ (dMon [(Reg.DL_VFS_VFS 3, 1000)] {}).dlWarnOff 3 ∧
    (let d := { dMon [(Reg.DL_VFS_VFS 3, 1000)] {} with mea := { sds := [{ cur := (0, 1, 0) }] } }; d.dlWarnOff 3 < d.dlCtl 3) ∧
    (dMon thr {}).on (Reg.DL_STAT_PROPOSE 3) = false ∧ (dMon ((Reg.DL_STAT_PROPOSE 3, 1) :: thr) {}).on (Reg.DL_STAT_PROPOSE 3) = true ∧
    (let d := { dMon thr { desig := some 35 } with sys := { d0.sys with fclkLost := some 0 } }; (d.mon 3).desig = some 35 ∧ d.sys.fclkLost = some 0 ∧ d.sys.run ≠ .inReset) := by decide +kernel

theorem witness_suspendedLoads : (dDcl [(Reg.DCL_CH_CFG_SL 5, 1), (Reg.DCL_CH_STAT_SLSTATE 5, 1)] {}).live = true ∧
    (dDcl [(Reg.DCL_CH_CFG_SL 5, 1)] {}).on (Reg.DCL_CH_CFG_SL 5) = true ∧ (dDcl [(Reg.DCL_CH_STAT_SLSTATE 5, 1)] {}).g (Reg.DCL_CH_STAT_SLSTATE 5) ≤ 1 ∧
    (dDcl [] {}).on (Reg.DCL_CH_CFG_SL 5) = false ∧ ((dDcl [] { chs := List.replicate 6 { drop := 2 } }).dch 5).drop = 2 ∧
    ((dDcl [] { chs := List.replicate 6 { drop := 1 } }).dch 5).drop = 1 ∧ (dDcl [] {}).clearChBar 5 = 0 ∧
    (dDcl [(Reg.DL_CFG_MEMBERS 3, 63), (Reg.DL_STAT_TRIP 3, 1)] {}).clearChBar 5 ≠ 0 ∧
    (dDcl [(Reg.DCL_CH_STAT_SLSTATE 5, 3)] {}).g (Reg.DCL_CH_STAT_SLSTATE 5) = 3 ∧
    (dMon [(Reg.DL_CFG_VSRC 3, 47), (Reg.SD_CLK_EN 5, 1), (Reg.SD_CFG_EN 47, 1)] {}).on (Reg.DL_CFG_EN 3) = true ∧
    ((dDcl [] { chs := List.replicate 6 { ovr := some (-8388608) } }).dch 5).ovr = some (-8388608) ∧
    (dDcl [(Reg.DCL_CH_DLV_EN 5 2, 1)] {}).on (Reg.DCL_CH_DLV_EN 5 2) = true ∧
    (∀ c < 6, ∀ k < 4, (c ≠ 5 ∨ k ≠ 2) → (dDcl [(Reg.DCL_CH_DLV_EN 5 2, 1)] {}).on (Reg.DCL_CH_DLV_EN c k) = false) := by decide +kernel

theorem witness_powerAndShares : (dDcl [(Reg.PB_CFG_EN, 1)] {}).live = true ∧ (dDcl [(Reg.PB_CFG_EN, 1)] {}).on Reg.PB_CFG_EN = true ∧
    (dDcl [] {}).g (Reg.DCL_CH_GRANT_REASON 5) ≠ 3 ∧ (dDcl [(Reg.ASSIST_CFG_MODE 4, 0)] {}).assistMode 4 = 0 ∧ (dDcl [] {}).proposal 4 5 = none ∧
    (dDcl [] {}).on (Reg.DCL_CH_CFG_PB_EN 5) = false ∧
    (∀ c ∈ maskBits 6 63, (Dev.sets d0 [(Reg.DCL_CH_GRANT_PEND 0, 1), (Reg.DCL_CH_GRANT_PEND 1, 1), (Reg.DCL_CH_GRANT_PEND 2, 1), (Reg.DCL_CH_GRANT_PEND 3, 1),
      (Reg.DCL_CH_GRANT_PEND 4, 1), (Reg.DCL_CH_GRANT_PEND 5, 1)]).on (Reg.DCL_CH_GRANT_PEND c) = true) ∧
    (∃ c ∈ maskBits 6 32, d0.on (Reg.DCL_CH_GRANT_PEND c) = false) ∧
    (({ d0 with dcl := { chs := List.replicate 6 { want := some (2 ^ 24 - 1, 3, 3) } } } : Dev).dch 5).want = some (2 ^ 24 - 1, 3, 3) ∧
    (dDcl [(Reg.SG_CFG_PEND 3, 1)] {}).on (Reg.SG_CFG_PEND 3) = true ∧ (dDcl [] {}).on (Reg.SG_CFG_PEND 1) = false ∧
    (let d := dDcl [(Reg.SG_CFG_EN 3, 1), (Reg.DCL_CH_CFG_SG 5, 3)] { grps := List.replicate 4 { due := true } }; d.on (Reg.SG_CFG_EN 3) = true ∧ (d.grp 3).due = true) := by decide +kernel

/-- The ring unit beside its registers. -/
def dRing (l : List (RF × Nat)) (x : Drg) : Dev := { Dev.sets d0 l with drg := x }

theorem witness_ringCycles : (dRing [(Reg.DRG_STAT_ADMITTED, 1)] {}).live = true ∧ (dRing [(Reg.DRG_STAT_ADMITTED, 1)] {}).on Reg.DRG_STAT_ADMITTED = true ∧
    (dRing [] {}).drg.leaveAt = none ∧ (dRing [] { sending := true }).drg.sending = true ∧ (dRing [] {}).drg.sending = false ∧ (dRing [] {}).lsLeads = false ∧
    (dRing [] { planAt := some 0 }).drg.planAt = some 0 ∧ 0 ≤ (dRing [] {}).cycNo ∧ (dRing [] { next := List.replicate 16 (some 0) }).drg.next.all Option.isSome = true ∧
    (dRing [] { leaveAt := some 0 }).drg.leaveAt = some 0 ∧ (dRing [] {}).drg.froz.length = 64 ∧ 15 ≠ (dRing [] {}).me ∧
    (dRing [] { inbox := [⟨15, 0, List.replicate 12 0, [], List.replicate 64 1⟩] }).drg.inbox.find? (fun f => f.src == 15 && f.cyc == 0 % 65536) =
      some ⟨15, 0, List.replicate 12 0, [], List.replicate 64 1⟩ ∧ (dRing [] {}).drg.inbox.find? (fun f => f.src == 15 && f.cyc == 0) = none ∧
    planEn ((dRing [] { plan := List.replicate 16 1 }).drg.plan.getD 15 0) = true ∧ (dRing [] { lastB := some 0 }).drg.lastB = some (dRing [] {}).drg.cycNow := by decide +kernel

/-- A Crier of 32 bytes that names a node for admission with plan version 7. -/
def crier (node : Nat) : List Nat := List.replicate 20 0 ++ [3, node + 16, 7, 4] ++ List.replicate 8 0

theorem witness_ringFrames : (dRing [(Reg.DRG_STAT_ADMITTED, 1)] {}).live = true ∧ (crier 0).length = 32 ∧ (dRing [] {}).drg.sending = false ∧
    (dRing [(Reg.DRG_CTL_JOIN, 1)] {}).on Reg.DRG_STAT_ADMITTED = false ∧ (dRing [(Reg.DRG_CTL_JOIN, 1)] {}).on Reg.DRG_CTL_JOIN = true ∧
    (dRing [] {}).on Reg.DRG_STAT_ID_CLASH = false ∧ crierField (crier 0) 21 1 % 32 = (dRing [] {}).me + 16 ∧
    crierField (crier 0) 22 1 = (dRing [] { nextVer := 7 }).drg.nextVer ∧ crierField (crier 0) 23 1 % 16 ≠ (dRing [] {}).me ∧
    planEn (((dRing [] { next := List.replicate 16 (some 1) }).drg.next.getD (dRing [] {}).me none).getD 0) = true ∧
    (dRing [] { next := List.replicate 16 (some 1) }).drg.next.all Option.isSome = true ∧
    (dRing [] {}).drg.inbox.any (fun f => f.src == 15 && f.cyc == 65535) = false ∧
    (dRing [] { inbox := [⟨15, 9, [], [], []⟩] }).drg.inbox.any (fun f => f.src == 15 && f.cyc == 9) = true ∧
    (dRing [] { askAt := some 0 }).drg.askAt = some 0 ∧ (dRing [] {}).drg.hops = [] ∧
    (((dRing [] {}).tb.rt + 131070 : Nat) : Int) - (dRing [] {}).tb.rt - ((5 : Int) - 5) = 2 * 65535 ∧ 32 * (dRing [] {}).g Reg.DRG_DLY_D_MAX < 65535 ∧
    (1 ≤ 32 * (dRing [(Reg.DRG_DLY_D_MAX, 255)] {}).g Reg.DRG_DLY_D_MAX) := by decide +kernel

theorem witness_ringBulk : (let pl := [2, 0] ++ leBytes 2 65535 ++ leBytes 2 0 ++ leBytes 2 5 ++ [1, 2, 3, 4, 255];
      let d := dRing [(Reg.DRG_STAT_ADMITTED, 1), (Reg.RRX_CFG_EN, 1), (Reg.RRX_CFG_SIZE, 4096), (RF.whole Reg.RRX_ADDR, 0x40000000)] {};
      d.on Reg.DRG_STAT_ADMITTED = true ∧ pl = [2, 0] ++ leBytes 2 65535 ++ leBytes 2 0 ++ leBytes 2 5 ++ [1, 2, 3, 4, 255] ∧ 0 = d.me ∧ 15 ≠ d.me ∧ 0 + 5 ≤ 5 ∧
      d.drg.bulkIn.any (fun m => m.src == 15 && m.chan == 2) = false ∧ d.on Reg.RRX_CFG_EN = true ∧ d.g Reg.RRX_GET_GET ≤ d.g Reg.RRX_PUT_PUT ∧
      d.g Reg.RRX_PUT_PUT + (4 + (5 + 3) / 4 * 4) ≤ d.g Reg.RRX_CFG_SIZE ∧
      4 + (5 + 3) / 4 * 4 + 4 ≤ d.g Reg.RRX_CFG_SIZE - d.g Reg.RRX_PUT_PUT + d.g Reg.RRX_GET_GET ∧ d.drg.fwd.getD 1 0 = 0 ∧ 22 + 5 + 64 ≤ d.crierDue ∧ 15 < 16) ∧
    (let d := dRing [(Reg.DRG_STAT_ADMITTED, 1)] { bulkIn := [⟨15, 1, 3, 2000, 0, false, []⟩], cycNow := 64 }; ⟨15, 1, 3, 2000, 0, false, []⟩ ∈ d.drg.bulkIn ∧ 0 + 64 ≤ d.drg.cycNow) ∧
    (let d := dRing [(Reg.DRG_STAT_ADMITTED, 1)] { bulkOut := [⟨2, 15, false, 3, 0, List.replicate 1017 1⟩] };
      d.drg.bulkOut = [⟨2, 15, false, 3, 0, List.replicate 1017 1⟩] ∧ d.drg.fwd = [0, 0] ∧ 22 + (((List.replicate 1017 1).drop 0).take 1016).length + 64 ≤ d.crierDue) := by decide +kernel

theorem witness_ringCommands : (dRing [] { sending := true }).live = true ∧
    planExcess (dRing [] {}).planRegs 0 (dRing [] {}).drg.cyc 0 = 0 ∧ planExcess (List.replicate 16 0xFFFFFFFF) 255 1000 0 ≠ 0 ∧
    (dRing [(Reg.LS_STAT_PEND, 1)] {}).on Reg.LS_STAT_PEND = true ∧ (dRing [] {}).on Reg.LS_STAT_PEND = false ∧
    (dRing [(Reg.DRG_CTL_JOIN, 1), (Reg.DRG_NODE_ROLE, 2)] {}).g Reg.DRG_NODE_ROLE = 2 ∧ (dRing [(Reg.DRG_CTL_JOIN, 1), (Reg.DRG_NODE_ROLE, 1)] {}).g Reg.DRG_NODE_ROLE = 1 ∧
    (dRing [(Reg.DRG_CTL_JOIN, 1)] {}).on Reg.DRG_STAT_ADMITTED = false ∧ (dRing [] {}).on Reg.DRG_STAT_ID_CLASH = false ∧
    2 ≤ (dRing [] { gap := 2 }).drg.gap ∧ (dRing [(Reg.DRG_STAT_ACTING, 1)] {}).on Reg.DRG_STAT_ACTING = true ∧ 256 ≤ (dRing [] { lockRun := 256 }).drg.lockRun ∧
    15 = (dRing [] { former := 15 }).drg.former ∧ (dRing [] { handoff := true }).drg.handoff = true ∧
    (dRing [] {}).on Reg.DRG_STAT_WRAP_UP = false ∧ 2 ≤ (dRing [] { missA := 2 }).drg.missA ∧ (dRing [] { missA := 2 }).drg.missB = 0 ∧
    (dRing [(Reg.DRG_STAT_WRAP_DN, 1)] {}).on Reg.DRG_STAT_WRAP_DN = true := by decide +kernel

/-! ## Witnesses: the safety island -/

/-- The island beside its registers, with the same channel in every place of both cores. -/
def dSaf (x : Saf) (c : SafCh) : Dev := { d0 with saf := { x with cores := List.replicate 2 { chs := List.replicate 6 c } } }

theorem witness_islandTicks : d0.sys.run ≠ .inReset ∧ (dSaf { st := 2, differ := 1 } {}).saf.st = 2 ∧ (32 : Nat).testBit 5 = true ∧
    1 ≤ (dSaf { st := 2, differ := 1 } {}).saf.differ ∧ (dSaf {} { init := true }).saf.st = 0 ∧ (∀ n ∈ (dSaf { clkOk := [4, 4] } {}).saf.clkOk, n = 4) ∧
    (∃ n ∈ (dSaf {} {}).saf.clkOk, n ≠ 4) ∧
    (let d := { d0 with saf := { ticks := 10 ^ 11, cores := List.replicate 2 { ins := List.replicate 12 { a := true, first := some 0 } } } };
      ((d.saf.cores.getD 1 {}).ins.getD 11 {}).first = some 0 ∧ ((d.saf.cores.getD 1 {}).ins.getD 11 {}).judged = false ∧
      ((d.saf.cores.getD 1 {}).ins.getD 11 {}).a ≠ ((d.saf.cores.getD 1 {}).ins.getD 11 {}).b ∧ 0 + d.sp 0x013 11 + 1 ≤ d.saf.ticks) ∧
    (∀ b : Bool, ((dSaf { pairs := List.replicate 6 { test := some ⟨1, true, b⟩ } } {}).safPair 5).test = some ⟨1, true, b⟩) := by decide +kernel

theorem witness_islandFunctions :
    (let d := dSaf { st := 2, ticks := 10 ^ 11 } { st := 2, t0 := 0 }; d.saf.st = 2 ∧ d.sp 0x040 5 = 0 ∧ ∀ k < 2, (d.safCh k 5).st = 2 ∧ (d.safCh k 5).t0 + 4 * d.sp 0x041 5 ≤ d.saf.ticks) ∧
    (let d := dSaf { st := 2, ticks := 10 ^ 11 } { st := 3, lat := 8 }; ∀ k < 2, (d.safCh k 5).st = 3 ∧ (d.safCh k 5).lat.testBit 3 = true ∧ (d.safCh k 5).vio = 0 ∧ (d.safCh k 5).t0 + 4 * d.sp 0x041 5 ≤ d.saf.ticks) ∧
    (let d := dSaf {} { slsDue := some 0 }; (d.safCh 1 5).slsDue = some 0 ∧ 0 ≤ d.saf.ticks) ∧
    (let d := dSaf { st := 3, ticks := 10 ^ 11 } { st := 5 }; d.saf.st = 3 ∧ d.shhStill 5 = true ∧ ∀ k < 2, (d.safCh k 5).st = 5 ∧ (d.safCh k 5).slip = false ∧
      (d.safCh k 5).t0 + 4 * d.sp 0x061 5 ≤ d.saf.ticks ∧ (d.safCh k 5).t0 + 4 * d.sp 0x063 5 ≤ d.saf.ticks) ∧
    (let d := dSaf { st := 2, cfg := [(256 * 0x031 + 5, 1)], taps := [{ hist := [10 ^ 9, 0] }, {}] } { st := 5 }; d.shhStill 5 = false ∧ d.saf.st = 2 ∧
      ∀ k < 2, (d.safCh k 5).st = 5) ∧
    (let d := dSaf { st := 2, ticks := 10 ^ 11 } { st := 6, sbtPh := 1 }; (d.safCh 1 5).st = 6 ∧ (d.safCh 1 5).sbtPh = 1 ∧ (d.safCh 1 5).t0 + 4 * d.sp 0x061 5 ≤ d.saf.ticks) ∧
    (let d := dSaf { st := 2, ticks := 10 ^ 11 } { st := 6, sbtPh := 2 }; (d.safCh 1 5).sbtPh = 2 ∧ (d.safCh 1 5).t0 + 4 * d.sp 0x068 5 ≤ d.saf.ticks) ∧
    (let d := dSaf { st := 2, ticks := 10 ^ 11 } { sbtOk := true }; (d.safCh 1 5).sbtOk = true ∧ (d.safCh 1 5).sbtDue = false ∧ (d.safCh 1 5).sbtPass + 14400000 * d.sp 0x06B 5 ≤ d.saf.ticks) := by decide +kernel

/-- A good Telltale frame: connection 0x11223344, SEQ, TT_WD 3, virtual inputs 0x8001. -/
def ttGoodFrame (seq : Nat) : List Nat := ttFrame 0x11223344 seq 3 (1 :: 1 :: [0x80])
/-- The island with a receiving connection 7 from node 15 in OPEN. -/
def dConn (port : Nat) (x : SafConn) : Dev :=
  dSaf { st := 2, cfg := [(256 * 0x080 + 7, 2), (256 * 0x081 + 7, port), (256 * 0x082 + 7, 0x11223344), (256 * 0x083 + 7, 3), (256 * 0x085 + 7, 15)],
         conns := List.replicate 8 x, ticks := 12 } {}

theorem witness_telltale : (dConn 0 {}).live = true ∧ (let d := dSaf { st := 2, cfg := [(256 * 0x080 + 7, 1)] } {}; d.saf.st = 2 ∧ d.sp 0x080 7 = 1 ∧ (d.conn 7).sent = false) ∧
    (let d := dConn 0 { st := 2, seq := 65535 }; (d.conn 7).st = 2 ∧ d.sp 0x080 7 = 2 ∧ (d.conn 7).at_ + 4 * d.sp 0x083 7 ≤ d.saf.ticks ∧ d.sp 0x081 7 = 0 ∧ d.sp 0x085 7 = 15 ∧
      d.ttGood 7 (ttGoodFrame 0) = true ∧ d.ttGood 7 [] = false ∧ (leVal (((ttGoodFrame 0).drop 4).take 2) + 65536 - (d.conn 7).seq) % 65536 = 1 ∧
      (leVal (((ttGoodFrame 3).drop 4).take 2) + 65536 - (d.conn 7).seq) % 65536 = 4 ∧ 4 < (leVal (((ttGoodFrame 4).drop 4).take 2) + 65536 - (d.conn 7).seq) % 65536) ∧
    (dSaf { entered := true, ticks := 2400000 } {}).saf.cmdAt + 2400000 ≤ (dSaf { entered := true, ticks := 2400000 } {}).saf.ticks ∧
    (dSaf { lockAt := some 0, ticks := 2400000 } {}).saf.lockAt = some 0 := by decide +kernel

/-- The island with one message at the head of its FIFO. -/
def dAsk (w : Nat) (p : List Nat) (x : Saf) (c : SafCh) : Dev := dSaf { x with msgs := [w :: p], took := false } c
/-- A tally entry of the safety password: a salt and the hash of salt and password. -/
def dPass (pw : List Nat) (d : Dev) : Dev :=
  { d with tly := { d.tly with entries := updAt d.tly.entries 9 fun e => { e with value := List.replicate 16 7 ++ sha256n (List.replicate 16 7 ++ pw), blank := false } } }

theorem witness_commandChannel : (dSaf { ovr := true } {}).live = true ∧ (dSaf { ovr := true } {}).saf.ovr = true ∧ (dSaf {} {}).saf.ovr = false ∧
    256 ≤ (dSaf { words := List.replicate 256 0 } {}).saf.level ∧ (dSaf { words := List.replicate 255 0 } {}).saf.level < 256 ∧ (dSaf { words := [0] } {}).saf.words ≠ [] ∧
    (let d := dAsk (13 * 2 ^ 24 + 1) [] {} {}; d.saf.took = false ∧ d.saf.msgs = [[13 * 2 ^ 24 + 1]] ∧ ([] : List Nat).length ≠ (13 * 2 ^ 24 + 1) % 256 ∧ d.hst.safWait = none ∧
      (13 * 2 ^ 24 + 1) / 2 ^ 24 % 256 = 13) := by decide +kernel

theorem witness_password : passOf (8 :: [0x04030201, 0x08070605]) = some [1, 2, 3, 4, 5, 6, 7, 8] ∧ passOf (32 :: List.replicate 8 0) = some (List.replicate 32 0) ∧
    (let d := dPass [1, 2, 3, 4, 5, 6, 7, 8] (dAsk (1 * 2 ^ 24 + 3) [8, 0x04030201, 0x08070605] {} {}); d.safAsks (1 * 2 ^ 24 + 3) [8, 0x04030201, 0x08070605] [] ∧ d.saf.lockAt = none ∧
      (d.tlyEntry 9).blank = false ∧ d.saf.entered = false) ∧
    (let d := dPass [1, 2, 3, 4, 5, 6, 7, 8] d0;
      sha256n ((d.tlyEntry 9).value.take 16 ++ [1, 2, 3, 4, 5, 6, 7, 8]) = (d.tlyEntry 9).value.drop 16 ∧
      sha256n ((d.tlyEntry 9).value.take 16 ++ [1, 2, 3, 4, 5, 6, 7, 9]) ≠ (d.tlyEntry 9).value.drop 16) ∧
    (let d := dAsk (3 * 2 ^ 24 + 3) [8, 0, 0] { entered := true } {}; d.saf.entered = true ∧ d.saf.logPend = false ∧ d.tly.ops = [] ∧ d.tlyRefusal 9 0 [] false = none) ∧
    (dAsk (2 * 2 ^ 24) [] { entered := true } {}).safAsks (2 * 2 ^ 24) [] [] := by unfold Dev.safAsks; decide +kernel

theorem witness_configuration :
    (let d := dAsk (4 * 2 ^ 24 + 2) [4108, 1] { st := 1, staged := List.replicate 4108 0 } {}; d.safAsks (4 * 2 ^ 24 + 2) [4108, 1] [] ∧ d.mayStage = true ∧
      [4108, 1].getD 0 0 = 4108 ∧ wordBytes ([4108, 1].drop 1) = [1, 0, 0, 0] ∧ 4108 + [1, 0, 0, 0].length ≤ 4112) ∧
    4108 ≤ (dAsk (4 * 2 ^ 24 + 2) [4108, 1] { staged := List.replicate 4108 0 } {}).saf.staged.length ∧
    cfgBad ([] : List Nat) ≠ none ∧
    (let d := dAsk (6 * 2 ^ 24) [] { st := 1, stagedOk := true, shash := [1] } {}; let e := { d with tly := { d.tly with entries := updAt d.tly.entries 8 fun e => { e with value := [1], blank := false } } };
      e.safAsks (6 * 2 ^ 24) [] [] ∧ e.saf.st = 1 ∧ e.saf.stagedOk = true ∧ (e.tlyEntry 8).blank = false ∧ (e.tlyEntry 8).value = e.saf.shash) ∧
    ¬ ((dAsk (6 * 2 ^ 24) [] {} {}).saf.st = 1) ∧
    (let d := dAsk (7 * 2 ^ 24 + 10) (List.replicate 10 0) { entered := true, stagedOk := true, shash := List.replicate 32 0 } {}; d.safAsks (7 * 2 ^ 24 + 10) (List.replicate 10 0) [] ∧
      (List.replicate 10 0).length = 10 ∧ wordBytes ((List.replicate 10 0).drop 2) = d.saf.shash ∧ d.allSto = true ∧ d.saf.logPend = false ∧ d.tly.ops = [] ∧ d.tlyRefusal 8 0 [] false = none) ∧
    (dAsk (8 * 2 ^ 24 + 1) [5] { logIdx := 5, logPend := true } {}).safAsks (8 * 2 ^ 24 + 1) [(dAsk (8 * 2 ^ 24 + 1) [5] { logIdx := 5, logPend := true } {}).saf.logIdx] [] := by
  unfold Dev.safAsks; decide +kernel

theorem witness_islandRequests :
    (let d := dAsk (9 * 2 ^ 24 + 1) [63] { st := 2 } {}; d.safAsks (9 * 2 ^ 24 + 1) [63] [] ∧ d.saf.st = 2 ∧ 5 ∈ maskBits 6 63) ∧
    (let d := dAsk (11 * 2 ^ 24 + 1) [32] { st := 2, cfg := [(256 * 0x071 + 5, 4)] } {}; d.safAsks (11 * 2 ^ 24 + 1) [32] [] ∧
      (∀ n ∈ maskBits 6 32, (d.sp 0x071 n).testBit 2 = true ∧ d.safHeld n = false) ∧ (d.safCh 1 5).lat < 256 ∧ (d.safCh 1 5).spd = false ∧ d.sbcFault 5 = false ∧ (d.safCh 1 5).st ≠ 6) ∧
    (let d := dAsk (12 * 2 ^ 24 + 1) [5] { st := 2, cfg := [(256 * 0x020, 1), (256 * 0x021, 32), (256 * 0x031 + 5, 1)] } { st := 0, ackPend := false };
      d.safAsks (12 * 2 ^ 24 + 1) [5] [] ∧ d.saf.st = 2 ∧ (∀ k < 2, (d.safCh k 5).st = 0 ∧ (d.safCh k 5).lat = 0 ∧ (d.safCh k 5).ackPend = false) ∧ (d.sbcPair 5).isSome = true ∧ d.sp 0x031 5 ≠ 0) ∧
    (let f := ttGoodFrame 1; let d := dConn 1 { st := 2 };
      f.length = 17 ∧ (7 + 256 * 17 : Nat) = 7 + 256 * f.length ∧ f.length ≤ 48 ∧ (wordBytes [leVal (f.take 4), leVal ((f.drop 4).take 4), leVal ((f.drop 8).take 4), leVal ((f.drop 12).take 4), leVal (f.drop 16)]).take f.length = f ∧
      d.sp 0x080 7 = 2 ∧ d.sp 0x081 7 ≠ 0 ∧ (d.conn 7).st = 2 ∧ d.ttGood 7 f = true ∧ 1 ≤ (leVal ((f.drop 4).take 2) + 65536 - (d.conn 7).seq) % 65536 ∧
      (leVal ((f.drop 4).take 2) + 65536 - (d.conn 7).seq) % 65536 ≤ 4) := by unfold Dev.safAsks; decide +kernel

theorem witness_cfgCheck : cfgBad ([0x53, 0x41, 0x46, 0x43, 1, 0, 1, 0] ++ List.replicate 8 0 ++ [0x32, 0, 5, 0, 0, 16, 0, 0]) = none ∧
    cfgBad ([0x53, 0x41, 0x46, 0x43, 1, 0, 1, 0] ++ List.replicate 8 0 ++ [0x32, 0, 6, 0, 0, 16, 0, 0]) = some (0, 2) := by decide +kernel

/-! ## Witnesses: CAN controllers, host ports, errors -/

/-- Controller 3 beside its registers, and words of its message RAM. -/
def dCan (l : List (RF × Nat)) (x : CanCtl) (m : List (Nat × Nat)) : Dev :=
  { m.foldl (fun d w => d.setMem32 (canRam 3 w.1) w.2) (Dev.sets d0 l) with cans := [{}, {}, {}, x] }
/-- Controller 3 on the bus. -/
def onBus : List (RF × Nat) := [(Reg.CAN_CTL_INIT 3, 0), (Reg.CAN_STAT_ON_BUS 3, 1)]
/-- Object 63 for transmission. -/
def txObj : List (RF × Nat) := onBus ++ [(Reg.CAN_OBJ_CFG_EN 3 63, 1), (Reg.CAN_OBJ_CFG_DIR 3 63, 1)]

theorem witness_canTransmission : (dCan onBus {} []).live = true ∧ (dCan onBus {} []).on (Reg.CAN_STAT_ON_BUS 3) = true ∧ (dCan onBus {} []).on (Reg.CAN_CTL_INIT 3) = false ∧
    ((dCan onBus { cand := some 63 } []).can 3).cand.isSome = true ∧ ((dCan onBus {} []).can 3).cand = none ∧ (dCan [] {} []).on (Reg.CAN_CTL_INIT 3) = true ∧
    (dCan [(Reg.CAN_NBT_NTSEG1 3, 62), (Reg.CAN_NBT_NTSEG2 3, 15), (Reg.CAN_NBT_NSJW 3, 15), (Reg.CAN_DBT_DTSEG1 3, 14), (Reg.CAN_DBT_DTSEG2 3, 3), (Reg.CAN_DBT_DSJW 3, 3)] {} []).canCfgBad 3 = 0 ∧
    (dCan [(Reg.CAN_NBT_NTSEG1 3, 0)] {} []).canCfgBad 3 ≠ 0 ∧ (dCan onBus {} []).g (Reg.CAN_STAT_STATE 3) ≠ 2 ∧ (dCan [(Reg.CAN_STAT_STATE 3, 2)] { recov := true } []).g (Reg.CAN_STAT_STATE 3) = 2 ∧
    ((dCan [] { recov := true } []).can 3).recov = true ∧ (0x4FFF : Nat) < 0x5000 ∧ (dCan [] {} []).on (Reg.CAN_OBJ_STAT_TXREQ 3 (0x13FC / 80)) = false ∧ 0x13FC / 80 < 64 ∧
    (dCan [(Reg.CAN_OBJ_STAT_TXREQ 3 63, 1)] {} []).on (Reg.CAN_OBJ_STAT_TXREQ 3 63) = true ∧ (dCan [] {} []).canFree 3 = false ∧ (dCan txObj {} []).canFree 3 = true ∧
    (dCan txObj {} []).on (Reg.CAN_OBJ_CFG_EN 3 63) = true ∧ (dCan txObj {} []).on (Reg.CAN_OBJ_CFG_DIR 3 63) = true ∧ (∀ j ∈ (dCan txObj {} []).canRequests 3, j = 63) ∧
    ((dCan txObj {} []).objWord 3 63 1).testBit 31 = false ∧ ((dCan txObj {} [(80 * 63 + 4, 2 ^ 31)]).objWord 3 63 1).testBit 31 = true ∧ (dCan txObj {} []).on (Reg.CAN_CTL_FD_EN 3) = false ∧
    ((dCan txObj { cand := some 63 } []).can 3).cand = some 63 ∧
    max 1 ((dCan [(Reg.CAN_LIM_NOACK_LIMIT 3, 255)] {} []).g (Reg.CAN_LIM_NOACK_LIMIT 3)) ≤ ((dCan [] { noack := 254 } []).can 3).noack + 1 ∧
    (255 : Nat) < min 256 ((dCan [(Reg.CAN_ECNT_TEC 3, 255)] {} []).g (Reg.CAN_ECNT_TEC 3) + 8) := by decide +kernel

theorem witness_canReception : (dCan onBus {} []).live = true ∧ (0 : Nat).testBit 31 = false ∧ (2 ^ 31 : Nat).testBit 31 = true ∧
    (dCan (onBus ++ [(Reg.CAN_CTL_FD_EN 3, 1)]) {} []).on (Reg.CAN_CTL_FD_EN 3) = true ∧
    (let d := dCan (onBus ++ [(Reg.CAN_HP_CFG_EN 3 7, 1), (Reg.CAN_HP_STAT_LEVEL 3 7, 7), (Reg.CAN_HP_STAT_PUT 3 7, 7)]) {} [];
      d.hpTakes 3 0 7 = true ∧ (∀ j < 7, d.hpTakes 3 0 j = false) ∧ d.g (Reg.CAN_HP_STAT_LEVEL 3 7) < 8) ∧
    8 ≤ (dCan [(Reg.CAN_HP_STAT_LEVEL 3 7, 8)] {} []).g (Reg.CAN_HP_STAT_LEVEL 3 7) ∧
    (let d := dCan (onBus ++ [(Reg.CAN_OBJ_CFG_EN 3 63, 1)]) {} []; (∀ e < 8, d.hpTakes 3 0 e = false) ∧ d.objTakes 3 0 63 = true ∧ (∀ j < 63, d.objTakes 3 0 j = false) ∧
      d.on (Reg.CAN_OBJ_CFG_FIFO 3 63) = false) ∧
    (dCan [(Reg.CAN_OBJ_CFG_FIFO 3 63, 1)] {} []).on (Reg.CAN_OBJ_CFG_FIFO 3 63) = true ∧ (dCan [(Reg.CAN_FIFO_LEVEL 3, 127)] {} []).g (Reg.CAN_FIFO_LEVEL 3) < 128 ∧
    128 ≤ (dCan [(Reg.CAN_FIFO_LEVEL 3, 128)] {} []).g (Reg.CAN_FIFO_LEVEL 3) ∧ (∀ k < 64, (dCan onBus {} []).objTakes 3 0 k = false) ∧
    (dCan [(Reg.CAN_OBJ_STAT_NEW 3 63, 1)] {} []).on (Reg.CAN_OBJ_STAT_NEW 3 63) = true := by decide +kernel

/-- A host command frame of port 1. -/
def cmdFrame (tag code : Nat) (data : List Nat) : HostFrame := ⟨1, 0, false, tag, code, data, 0, 5⟩
/-- A device whose host port 1 holds frames. -/
def dHost (l : List (RF × Nat)) (x : HostPort) : Dev := { Dev.sets d0 ((Reg.HST_CTL_EN, 7) :: l) with hst := { ports := [x, x, x] } }
/-- A device with one command waiting at port 1 under TAG 9, firmware ready. -/
def dCmd (code : Nat) (data : List Nat) : Dev := dHost [(Reg.HST_CTL_SV_READY, 1)] { inq := [cmdFrame 9 code data], pend := [(9, 5)] }

/-- Whether bytes spell a good frame with a property. -/
def frameIs (b : List Nat) (p : HostFrame → Bool) : Bool := match parseFrame [1] b 5 with | .ok f => p f | .error _ => false

theorem witness_hostFrames : (dHost [] {}).live = true ∧ ((dHost [] {}).g Reg.HST_CTL_EN).testBit 2 = true ∧ frameIs (cmdFrame 9 1 []).bytes (fun f => f == cmdFrame 9 1 []) = true ∧
    frameIs [] (fun _ => true) = false ∧ ((dHost [] {}).hport 2).linkUp = true ∧ (dHost [] {}).on Reg.HST_CTL_SV_READY = false ∧ (dHost [(Reg.HST_CTL_SV_READY, 1)] {}).on Reg.HST_CTL_SV_READY = true ∧
    ((dHost [] { pend := [(9, 5)] }).hport 2).pend.any (fun x => x.1 == 9) = true ∧ ((dHost [] {}).hport 2).pend.any (fun x => x.1 == 9) = false ∧
    16 ≤ ((dHost [] { inq := List.replicate 16 (cmdFrame 0 1 []) }).hport 2).inq.length ∧ ((dHost [] { inq := List.replicate 15 (cmdFrame 0 1 []) }).hport 2).inq.length < 16 ∧
    (dHost [] {}).img.recovery = false ∧ (cmdFrame 9 1 []).code ∈ hostCodes ∧ (cmdFrame 9 0x72 []).code ∉ hostCodes ∧
    frameIs (⟨1, 15, true, 9, 1, [], 0, 5⟩ : HostFrame).bytes (fun f => f.remote && f.node != (dHost [] {}).me) = true ∧
    ((dHost [(Reg.DRG_PRESENT_PRESENT, 0x8000)] {}).g Reg.DRG_PRESENT_PRESENT).testBit 15 = true ∧
    ((dHost [] { outq := [cmdFrame 9 1 []] }).hport 0).outq = cmdFrame 9 1 [] :: [] ∧ (cmdFrame 9 1 []).bytes.length ≤ 16 ∧ ((dHost [] {}).hport 2).frags = [] ∧
    (let r : ErrRec := ⟨7, 0, 0x101, 3, 1, 0, []⟩; let d := dHost [(Reg.HST_CTL_SV_READY, 1), (Reg.PORT_SUB_SUBSYS 2, 0x1FFFFF)] {}; firstEvent [r] = some r ∧ d.covers 2 r = true ∧
      (d.hport 2).outq.length < 48 ∧ (d.hport 2).lostNow = 0) ∧
    48 ≤ ((dHost [] { outq := List.replicate 48 (cmdFrame 0 1 []) }).hport 2).outq.length ∧ ({ d0 with sys := { d0.sys with run := .running } } : Dev).sys.run = .running ∧ (dHost [] {}).sys.suppliesLost = [] := by decide +kernel

/-- Firmware may take the command that waits, with this payload. -/
def mayTake (d : Dev) (code : Nat) (p : HostFrame → Bool) : Bool :=
  d.on Reg.HST_CTL_SV_READY && (match d.hostTake 1 9 code with | some (f, e) => p f && (e.hport 1).linkUp && (e.readWords [0x10000] []).1 == false | none => false)

theorem witness_hostCommands : (dCmd 1 []).live = true ∧ mayTake (dCmd 1 []) 1 (fun f => f.payload == []) = true ∧ mayTake (dCmd 1 [0]) 1 (fun f => f.payload.length != 0) = true ∧
    mayTake (dCmd 2 (payload [0x30000000, 1024])) 2 (fun f => f.payload.length == 8 && f.word 1 == 1024) = true ∧
    mayTake (dCmd 3 (payload [0x30000000, 1])) 3 (fun f => f.payload.length == 4 * (1 + 1)) = true ∧
    mayTake (dCmd 4 (payload [3, 0x1FFFFF])) 4 (fun f => f.word 0 == 3 && f.word 1 == 0x1FFFFF) = true ∧
    mayTake (dCmd 0x10 (payload [0, 0, 0, 0, 0])) 0x10 (fun f => f.payload.length == 20) = true ∧ mayTake (dCmd 0x11 (payload [65535])) 0x11 (fun f => f.payload.length == 4) = true ∧
    mayTake (dCmd 0x20 (payload [0, 0])) 0x20 (fun f => f.payload.length == 8) = true ∧ (dCmd 0x20 (payload [0, 0])).on Reg.CE_CMD_RESULT_BUSY = false ∧
    (dCmd 0x20 (payload [0, 0])).hst.ceWait = none ∧ mayTake (dCmd 0x30 (payload [9, 1, 0x3FF, 0])) 0x30 (fun f => f.word 0 ≤ 9 && f.payload.length == 16) = true ∧
    unitOk 0 1 = true ∧ (dCmd 0x30 []).proposal 0 1 = none ∧ (dCmd 0x30 []).lastDecided 0 1 = none ∧
    ({ dCmd 0x30 [] with hst := { decided := [⟨0, 1, 4, 2⟩] } } : Dev).lastDecided 0 1 = some ⟨0, 1, 4, 2⟩ ∧
    mayTake (dCmd 0x31 (payload [9, 2, 65535])) 0x31 (fun f => f.word 0 ≤ 9 && f.word 1 ≤ 2 && f.word 2 == 65535) = true ∧
    mayTake (dCmd 0x32 (payload [255, 3, 0])) 0x32 (fun f => f.word 0 == 255 && f.word 1 == 3) = true ∧
    ({ d0 with hst := { tunes := [⟨1, 9, 5, 255, 3, 0⟩] } } : Dev).hst.tunes.find? (fun t => t.port == 1 && t.tag == 9) = some ⟨1, 9, 5, 255, 3, 0⟩ ∧
    mayTake (dCmd 0x33 (payload [5, 0, 0, 0, 0, 0])) 0x33 (fun f => f.payload.length == 24) = true ∧ (dCmd 0x33 []).getHomeBad 5 0 0 0 0 0 = none ∧
    dHome.getHomeBad 5 1 1 2 3 4 = none ∧ mayTake (dCmd 0x40 (payload [0, 0])) 0x40 (fun f => f.payload.length == 4 * (1 + 1)) = true ∧
    (dCmd 0x40 []).hst.safWait = none ∧ (dCmd 0x40 []).saf.ovr = false ∧ (dCmd 0x40 []).saf.words = [] ∧ (dCmd 0x40 []).saf.level + 255 + 1 ≤ 256 ∧
    mayTake (dCmd 0x70 (payload [0, 64])) 0x70 (fun f => f.word 1 == 64) = true ∧ mayTake (dCmd 0x71 (payload [0x14])) 0x71 (fun f => f.word 0 == 0x14) = true ∧
    (dCmd 0x71 []).islandMayReset = true ∧ ({ dCmd 0x71 [] with saf := { gd := 1 } } : Dev).islandMayReset = false ∧ mayTake (dCmd 0x60 (payload [0])) 0x60 (fun f => f.payload.length == 4) = true := by decide +kernel

theorem witness_deadlines : (let p : Proposal := ⟨0, 1, 4, 1, 65535, 0⟩; let d := { d0 with hst := { proposals := [p] }, tick := 250000 * 65535 }; d.proposal 0 1 = some p ∧ d.deadlineDue p = true) ∧
    fwTimed 0 1 = false ∧ (Dev.sets d0 [(Reg.CMU_STAT_STATE 1, 8), (Reg.CMU_STAT_REASON 1, 3)]).restartable 1 1 = true ∧
    (Dev.sets d0 [(Reg.ASSIST_CFG_MODE 8, 0)]).assistMode 8 = 0 ∧ d0.restartsOf 1 1 < 3 ∧
    3 ≤ ({ d0 with hst := { restarts := List.replicate 3 ⟨1, 1, 0⟩ } } : Dev).restartsOf 1 1 ∧ (Dev.sets d0 [(Reg.ASSIST_CFG_MODE 8, 1)]).assistMode 8 ≠ 0 ∧ d0.proposal 8 (1 * 256 + 1) = none := by decide +kernel

/-- A record of a severity. -/
def rec (seq sev : Nat) : ErrRec := ⟨seq, 0, 0x101, sev, 1, 0, []⟩

theorem witness_errorManager : d0.live = true ∧ d0.errSeq < 2 ^ 32 ∧ ({ d0 with raised := [rec 0 3] } : Dev).raised = [rec 0 3] ∧
    (d0.errDom (d0.errRoute 0x101)).queue.length < 64 ∧ 64 ≤ (List.replicate 64 (rec 0 3)).length ∧ (∀ x ∈ List.replicate 64 (rec 0 3), (rec 1 3).sev ≤ x.sev) ∧ (rec 1 3).sev ≤ 3 ∧
    ({} : ErrDom).topSev = none ∧ (let q : ErrDom := { queue := [rec 0 1, rec 1 3, rec 2 3], handling := [rec 3 2] };
      rec 1 3 ∈ q.queue ∧ (∀ x ∈ q.queue, x.sev ≤ (rec 1 3).sev) ∧ q.queue.find? (fun x => x.sev == (rec 1 3).sev) = some (rec 1 3) ∧ q.ovf = none ∧ (∀ x ∈ q.handling, x.sev < (rec 1 3).sev)) ∧
    (∃ x ∈ [rec 3 3], (rec 1 3).sev ≤ x.sev) ∧ 0xFFFFFFFF % 2 = 1 := by decide +kernel

/-! ## Witnesses: memories, recorder, images, tally, thermal, clocks -/

theorem witness_memoryCommands : d0.live = true ∧ d0.mm.scrub.length = 6 ∧ d0.mm.scrub.getD 5 0 = 0 ∧ 0 < eccWords 5 ∧ eccAddr 5 0 = some 0x30140000 ∧ eccAddr 0 0x7FFFF = some 0x101FFFFC ∧
    List.replicate 5 0 ++ [2] = [0, 0, 0, 0, 0, 2] ∧ d0.mm.training = false ∧ ({ d0 with mm := { training := true } } : Dev).mm.training = true ∧
    d0.on Reg.OSPI_RESULT_BUSY = false ∧ (Dev.sets d0 [(Reg.OSPI_ADDR_OFS, 0x5000FFF)]).g Reg.OSPI_ADDR_OFS / 0x1000 * 0x1000 = 0x5000000 ∧
    (Dev.sets d0 [(Reg.THM_TJ_T_CD, 1440)]).flashWindow = true ∧ (Dev.sets d0 [(Reg.THM_TJ_T_CD, 1441)]).flashWindow = false ∧ flashProt 0x5000000 0x1000 = false ∧
    flashProt 0x4FFFF00 256 = true ∧ ({ d0 with mm := { flashOp := some ⟨3, 0x7FFFF00⟩ } } : Dev).mm.flashOp = some ⟨3, 0x7FFFF00⟩ := by decide +kernel

/-- Stream 31 set up for a wheel source in shared SRAM. -/
def recRegs : List (RF × Nat) := [(RF.whole (Reg.REC_SRC 31), 0x80000000), (Reg.REC_CFG_TRIG 31, 2), (Reg.REC_BASE_BASE 31, 0x180FFFE0), (Reg.REC_SIZE_SIZE 31, 32), (Reg.REC_MINT_MIN_INT 31, 1000)]
/-- Stream 31 beside its registers. -/
def dRec (l : List (RF × Nat)) (x : Stream) : Dev := { Dev.sets d0 (recRegs ++ l) with mm := { streams := updAt (List.replicate 32 {}) 31 fun _ => x }, tick := 1000 }

theorem witness_recorder : (dRec [] {}).live = true ∧ (dRec [] {}).on (Reg.REC_STAT_RUN 31) = false ∧ (dRec [] {}).recValid 31 = true ∧ (dRec [] {}).recBuffer 31 = true ∧
    (dRec [] {}).g Reg.REC_BW_USED_BPS + (dRec [] {}).recRate 31 ≤ 838860800 ∧ ((dRec [(Reg.REC_SIZE_SIZE 31, 16)] {}).recValid 31 && (dRec [(Reg.REC_SIZE_SIZE 31, 16)] {}).recBuffer 31) = false ∧
    838860800 < (dRec [(Reg.REC_MINT_MIN_INT 31, 1)] {}).g Reg.REC_BW_USED_BPS + (dRec [(Reg.REC_MINT_MIN_INT 31, 1)] {}).recRate 31 ∧
    (dRec [(Reg.REC_STAT_RUN 31, 1)] {}).on (Reg.REC_STAT_RUN 31) = true ∧ (dRec [] {}).on (Reg.REC_STAT_STOPPING 31) = false ∧ (dRec [] {}).on (Reg.REC_CFG_RING 31) = false ∧
    (dRec [(Reg.REC_CFG_RING 31, 1)] {}).on (Reg.REC_CFG_RING 31) = true ∧ (dRec [(Reg.REC_POST_VALUE 31, 1)] {}).g (Reg.REC_POST_VALUE 31) ≠ 0 ∧
    ((dRec [] {}).recBytes 31).isSome = true ∧ ((dRec [] { last := some 0 }).stream 31).last = some 0 ∧ (dRec [] {}).g (Reg.REC_MINT_MIN_INT 31) ≤ (dRec [] {}).tick - 0 ∧
    (dRec [] {}).tick - 1 < (dRec [] {}).g (Reg.REC_MINT_MIN_INT 31) ∧ (dRec [(Reg.REC_PUT_VALUE 31, 16)] {}).g (Reg.REC_SIZE_SIZE 31) < 16 + 2 * 16 ∧
    (dRec [(Reg.REC_PUT_VALUE 31, 16), (Reg.REC_SIZE_SIZE 31, 48)] {}).g (Reg.REC_PUT_VALUE 31) + 2 * 16 ≤ (dRec [(Reg.REC_PUT_VALUE 31, 16), (Reg.REC_SIZE_SIZE 31, 48)] {}).g (Reg.REC_SIZE_SIZE 31) := by decide +kernel

/-- A session of 4,100 bytes with number 7 in a device that holds one command. -/
def dUpd (code : Nat) (data : List Nat) (x : Session) : Dev := { Dev.sets (dCmd code data) [] with img := { session := some x, number := 7 }, tick := 250000 * 60000 }
/-- The payload of a block of 4 bytes of 0x5A. -/
def blk (ofs : Nat) : List Nat := payload [7, ofs, 4, crc32c (List.replicate 4 0x5A)] ++ List.replicate 4 0x5A

theorem witness_imageUpdates : mayTake (dCmd 0x50 (payload [0x2000000])) 0x50 (fun f => f.payload.length == 4 && f.word 0 == 0x2000000) = true ∧ d0.img.session = none ∧
    (dUpd 0x51 [] ⟨1, 0, 4100, [0], [0], true, 0⟩).img.session = some ⟨1, 0, 4100, [0], [0], true, 0⟩ ∧ blockLen 4100 4096 = some 4 ∧ blockLen 4100 0 = some 4096 ∧ blockLen 4096 4096 = none ∧
    (dUpd 0x51 [] ⟨1, 0, 4100, [0], [0], true, 0⟩).flashWindow = true ∧
    mayTake (dUpd 0x52 (payload [7]) ⟨1, 0, 4100, [0], [0], true, 0⟩) 0x52 (fun f => f.payload.length == 4 && f.word 0 % 65536 == 7) = true ∧
    mayTake (dUpd 0x53 (payload [7]) ⟨1, 0, 4100, [0], [0], true, 0⟩) 0x53 (fun f => f.payload.length == 4) = true ∧
    mayTake (dUpd 0x54 (payload [8]) ⟨1, 0, 4100, [0], [0], true, 0⟩) 0x54 (fun f => f.word 0 % 65536 != 7) = true ∧
    mayTake (dUpd 0x55 (payload [7]) ⟨1, 0, 4100, [0], [0], true, 0⟩) 0x55 (fun f => f.payload.length == 4) = true ∧
    mayTake (dCmd 0x56 []) 0x56 (fun f => f.payload == []) = true ∧ 60000 ≤ msBetween 0 (dUpd 0 [] ⟨1, 0, 4100, [0], [0], true, 0⟩).tick ∧
    msBetween 250000 (dUpd 0 [] ⟨1, 0, 4100, [0], [0], true, 0⟩).tick < 60000 := by decide +kernel

theorem witness_updBlock : mayTake (dUpd 0x51 (blk 4096) ⟨1, 0, 4100, [0], [0], true, 0⟩) 0x51 (fun f =>
    decide (16 ≤ f.payload.length) && f.word 1 == 4096 && f.word 2 == 4 && (f.payload.drop 16).length == 4 && f.word 0 % 65536 == 7 && crc32c (f.payload.drop 16) == f.word 3) = true := by decide +kernel

theorem witness_bootAndConfirm : d0.sys.run = .absent ∧ d0.img.copying = false ∧ ({ d0 with sys := { d0.sys with bootMode := 2 } } : Dev).sys.bootMode = 2 ∧ d0.tlyLock ≠ 2 ∧ d0.sys.bootMode = 0 ∧
    d0.bootLoad.img.phase = 0 ∧ d0.bootLoad.img.pendSvn = 0 ∧ d0.verify 0 = some (Err.IMG_MANIFEST_BAD, [0, 0]) ∧ d0.flashWindow = true ∧
    (∀ p < 6, ({ d0 with img := { phase := p } } : Dev).bootStore.bootLoad.img.phase = p) ∧
    ({ d0 with img := { phase := 4, trialCnt := 2 } } : Dev).bootStore.bootLoad.img.trialCnt ≠ 3 ∧ ({ d0 with img := { phase := 5, copying := true } } : Dev).img.copying = true ∧
    d0.img.trial = false ∧ ({ d0 with img := { trial := true, svn := 64 } } : Dev).img.trial = true ∧ (d0.tlyEntry 14).left ≠ 0 ∧ d0.tlyNum 14 < 64 ∧ d0.sys.porstLow = false ∧ d0.sys.rstLow = false ∧
    d0.sys.suppliesLost.any Supply.device = false := by decide +kernel

theorem witness_tallyCommands : d0.live = true ∧ d0.tly.ops = [] ∧ d0.tlySame 15 0 (tlyBytes 15 2) = false ∧ d0.tlyRefusal 15 0 (tlyBytes 15 2) false = none ∧
    (∃ r, (Dev.sets d0 [(Reg.THM_TJ_T_CD, 1361)]).tlyRefusal 0 0 [47] false = some r) ∧ d0.tlySame 10 0 (List.replicate 48 0) = true ∧
    ({ d0 with tly := { d0.tly with ops := [⟨15, 0, [2], 7⟩] } } : Dev).tly.ops = ⟨15, 0, [2], 7⟩ :: [] ∧ 15 < d0.tly.entries.length :=
  ⟨by decide, by decide, by decide, by decide, ⟨_, rfl⟩, by decide, by decide, by decide⟩

theorem witness_thermalCommands : d0.live = true ∧ (-880 : Int) ≤ 2399 ∧ d0.sys.d2dLost = false ∧ d0.img.confirmWait = false ∧ (∀ i < 12, d0.on (Reg.TS_VAL_BROKEN i) = false) ∧
    d0.therm.hot.length = 12 ∧ d0.therm.hasRead.length = 12 ∧ d0.therm.hot150.length = 12 ∧ (∀ y ∈ d0.therm.maxCd, y = 2399) ∧
    2 ≤ ({ d0 with therm := { hot := List.replicate 12 2 } } : Dev).therm.hot.getD 0 0 ∧ d0.on Reg.THM_STAT_LATCH = false ∧
    (let d := { Dev.sets d0 [(Reg.TIN_CFG_EN 7, 1)] with tick := 250000 * 100 }; d.on (Reg.TIN_CFG_EN 7) = true ∧ d.on (Reg.TIN_VAL_INVALID 7) = false ∧ 100 ≤ msBetween (d.therm.tinLast.getD 7 0) d.tick) ∧
    (∀ k < 6, d0.on (Reg.THM_CH_TCFG_EXT_EN k) = false ∧ d0.on (Reg.DCL_CH_CFG_SL k) = false) ∧ (Dev.sets d0 [(Reg.THM_TJ_T_CD, 1999)]).tJ < 2000 ∧ 2000 ≤ (Dev.sets d0 [(Reg.THM_TJ_T_CD, 2000)]).tJ ∧
    d0.on Reg.THM_STAT_DIE_HARD = false ∧ (Dev.sets d0 [(Reg.THM_STAT_DIE_HARD, 1)]).on Reg.THM_STAT_DIE_HARD = true ∧ 1920 < (Dev.sets d0 [(Reg.THM_TJ_T_CD, 1921)]).tJ ∧
    (Dev.sets d0 [(Reg.THM_STAT_PEND, 32)]).gBit Reg.THM_STAT_PEND 5 = true ∧ d0.gBit Reg.THM_STAT_PEND 5 = false ∧ d0.therm.restoring.length = 6 := by decide +kernel

theorem witness_clocksAndWatchdog : d0.sys.run ≠ .inReset ∧ d0.sys.fclkLost = none ∧ d0.live = true ∧ d0.on Reg.SYS_WDT_CFG_EN = false ∧ (Dev.sets d0 [(Reg.SYS_WDT_CFG_EN, 1)]).on Reg.SYS_WDT_CFG_EN = true ∧
    (0x5A : Nat) % 256 = 0x5A ∧ decide ({ d0 with tick := 10 ^ 9 }.tick - d0.sys.wdtLast < 250000 * d0.g Reg.SYS_WDT_CFG_WIN_MIN) = false ∧
    decide (d0.sys.wdtLast + 250000 * d0.g Reg.SYS_WDT_CFG_TIMEOUT ≤ { d0 with tick := 10 ^ 12 }.tick) = true ∧ d0.sys.wdtBarked = false ∧ ({ d0 with sys := { wdtBarked := true } } : Dev).sys.wdtBarked = true ∧
    (let d := { dCtx 255 2 {} with sys := { absentFrom := some 0 }, tick := 10 ^ 12 }; d.sys.absentFrom = some 0 ∧ d.sys.svhDone = false ∧ d.on Reg.HST_CTL_SV_READY = false ∧
      0 + 250000 * d.g Reg.SYS_SVH_SV_HOLD ≤ d.tick ∧ ctxNumbers.filter (fun c => d.ctxState c == 2) = [255] ∧ (d.ctx 255).phase = .idle ∧ (d.ctx 255).outDue = none ∧ d.ctxBind 255 = 0) := by decide +kernel

/-- A device held by PORST_N. -/
def held : State := { dev := { d0 with sys := { d0.sys with run := .inReset, porstLow := true } }, pending := [.sysXtalLost] }

theorem witness_wholeDevice : held.dev.sys.run = .inReset ∧ Instr.atReset .sysXtalLost = false ∧ held.held ∧ held.dev.word Reg.THM_STAT % 2 ^ 31 = State.reset.dev.word Reg.THM_STAT % 2 ^ 31 ∧
    held.dev.tb = State.reset.dev.tb ∧ held.dev.saf.gd = 0 ∧ held.pending.head? ≠ some (.resetRelease true 0) := by
  refine ⟨by decide, by decide, ?_, by decide, by decide, by decide, by decide⟩
  unfold State.held
  decide +kernel

/-- The held device stands as PORST_N leaves it. -/
theorem witness_cold : held.cold :=
  ⟨witness_wholeDevice.2.2.1, fun _ _ _ => rfl, by decide, rfl, rfl, rfl, rfl, rfl, rfl, rfl, rfl, rfl, rfl, rfl, rfl, rfl⟩

/-! ## A signed image -/

/-- A P-384 public key and its signature of the manifest below, made with its private key outside this package. -/
def imgPub : List Nat := beBytes 96 0x403677066b6e3b2e84cacbe9843de45f11a9bc36ba107ec7a9c4e4440ef153f6ebdc1b39247c94ec23edbecd135e4a9a2ff9014d5fdf1df72c22c0ca05b27fe53deb5fac9c24559aff16eb7f331361608af749b304c245a03d5d5a7524e1895f
def imgSig : List Nat := beBytes 96 0x71d94a8eb2bc8abe3138959071c49c03bacf206052e19ae09c95011596c721d751cc56b5cc41923efe59061bc5c386c69be6491582fcdeb8fe43c1f7b8ed1b4565cd2891002a2281ca91e3f273e2c3dccff88eb408d091ad1b63249b672fbbee

/-- A manifest of version 1 with five empty parts (R460). -/
def imgHead : List Nat :=
  leBytes 4 0x53464E4D ++ leBytes 2 1 ++ leBytes 2 5 ++ leBytes 4 0 ++ leBytes 4 1 ++ leBytes 6 0 ++ [0, 0, 255] ++ List.replicate 103 0 ++ imgPub ++
    (List.range 5).flatMap fun i => leBytes 4 (i + 1) ++ leBytes 4 (0x1000 * (i + 1)) ++ leBytes 8 0 ++ sha384 []

/-- The cells of a byte string from a key on. -/
def cellsFrom : Nat → List Nat → List Host.Cell
  | _, [] => []
  | k, b :: t => (k, BitVec.ofNat 8 b) :: cellsFrom (k + 1) t

theorem storeGet_before (f : Nat → Byte) (l : List Nat) : ∀ k a, a < k → storeGet f (cellsFrom k l) a = f a := by
  induction l with
  | nil => intros; rfl
  | cons b t ih =>
    intro k a h
    simp only [cellsFrom, storeGet, show ¬ k = a by omega, if_false]
    exact ih (k + 1) a (by omega)

theorem byte_cellsFrom (l : List Nat) : ∀ k j, 0x500000000 ≤ k → (storeGet byteDflt (cellsFrom k l) (k + j)).toNat = l.getD j 255 % 256 := by
  induction l with
  | nil => intro k j h; simp [cellsFrom, storeGet, byteDflt, show 0x500000000 ≤ k + j by omega]
  | cons b t ih =>
    intro k j h
    cases j with
    | zero => simp [cellsFrom, storeGet]
    | succ j =>
      have := ih (k + 1) j (by omega)
      simp only [cellsFrom, storeGet, show ¬ k = k + (j + 1) by omega, if_false, List.getD_cons_succ]
      rw [← this]; congr 2; omega

/-- A device with the image in a slot and a key programmed in slot 0. -/
def dKey (k : Nat) (v : List Nat) : Dev :=
  { d0 with mem := cellsFrom (flashKey (slotOfs k)) (imgHead ++ imgSig), tly := { d0.tly with entries := updAt d0.tly.entries 10 fun e => { e with value := v, state := 1 } } }

theorem dKey_slotBytes (k : Nat) (v : List Nat) : (dKey k v).slotBytes k = fun ofs n => (List.range n).map fun i => (imgHead ++ imgSig).getD (ofs + i) 255 % 256 := by
  funext ofs n
  simp only [Dev.slotBytes, Dev.bytes, Dev.byte, flashKey]
  apply List.map_congr_left
  intro i _
  rw [show 0x500000000 + (slotOfs k + ofs) + i = flashKey (slotOfs k) + (ofs + i) by simp only [flashKey]; omega]
  exact byte_cellsFrom _ _ _ (by simp only [flashKey]; omega)

theorem read_eq (l : List Nat) (h : ∀ b ∈ l, b < 256) (ofs n : Nat) (hl : ofs + n ≤ l.length) :
    ((List.range n).map fun i => l.getD (ofs + i) 255 % 256) = (l.drop ofs).take n := by
  apply List.ext_getElem
  · simp; omega
  · intro i h1 h2
    simp only [List.length_map, List.length_range] at h1
    simp only [List.getElem_map, List.getElem_range, List.getElem_take, List.getElem_drop]
    rw [List.getD_eq_getElem?_getD, List.getElem?_eq_getElem (by omega), Option.getD_some, Nat.mod_eq_of_lt (h _ (List.getElem_mem _))]

theorem dKey_read (k : Nat) (v : List Nat) (ofs n : Nat) (h : ofs + n ≤ 640) : (dKey k v).slotBytes k ofs n = ((imgHead ++ imgSig).drop ofs).take n := by
  rw [dKey_slotBytes]
  have hl : (imgHead ++ imgSig).length = 640 := by decide +kernel
  exact read_eq _ (by decide +kernel) _ _ (by omega)

theorem dKey_manifest (k : Nat) (v : List Nat) : (dKey k v).manifestBad k = none := by
  unfold Dev.manifestBad Dev.manWord
  rw [dKey_slotBytes]
  clear v k
  decide +kernel

theorem dKey_parts (k : Nat) (v : List Nat) : firstWhere 5 (fun i => !(dKey k v).partOk k i) = none ∧ (∀ i < 5, ((dKey k v).partOf k i).2 = 0) ∧ (dKey k v).manWord k 0x16 1 = 0 ∧ (dKey k v).manWord k 8 4 = 0 := by
  unfold Dev.partOk Dev.partOf Dev.manWord
  rw [dKey_slotBytes]
  clear v k
  decide +kernel

theorem dKey_key (k : Nat) (v : List Nat) : (dKey k v).slotBytes k 0x80 96 = imgPub ∧ (dKey k v).slotBytes k 0x220 96 = imgSig ∧ (dKey k v).slotBytes k 0 0x220 = imgHead := by
  rw [dKey_read k v _ _ (by decide), dKey_read k v _ _ (by decide), dKey_read k v _ _ (by decide)]
  clear v k
  decide +kernel

theorem img_signed : ecdsaValid imgPub (sha384 imgHead) imgSig = true := by decide +kernel

theorem dKey_hashes (k : Nat) (v : List Nat) : ∀ i < 5, (dKey k v).slotBytes k (0xF0 + 64 * i) 48 = sha384 [] := by
  intro i hi
  rw [dKey_read k v _ _ (by omega)]
  revert i
  clear v k
  decide +kernel

theorem dKey_tally (k : Nat) (v : List Nat) : ((dKey k v).tlyEntry 10).state = 1 ∧ ((dKey k v).tlyEntry 10).value = v ∧ (dKey k v).tlyNum 14 = 0 := ⟨rfl, rfl, rfl⟩

theorem dKey_digests (k : Nat) (v : List Nat) :
    firstWhere 5 (fun i => sha384 ((dKey k v).slotBytes k ((dKey k v).partOf k i).1 ((dKey k v).partOf k i).2) != (dKey k v).slotBytes k (0xF0 + 64 * i) 48) = none := by
  simp only [firstWhere, List.find?_eq_none, List.mem_range]
  intro i hi
  rw [(dKey_parts k v).2.1 i hi, dKey_hashes k v i hi]
  simp [Dev.slotBytes, Dev.bytes]

theorem verify_of (k : Nat) (d : Dev) (h1 : d.manifestBad k = none) (h2 : firstWhere 5 (fun i => !d.partOk k i) = none) (h3 : d.manWord k 0x16 1 = 0) (h4 : d.manWord k 8 4 = 0)
    (h5 : sha384 (d.slotBytes k 0x80 96) = (d.tlyEntry 10).value) (h6 : (d.tlyEntry 10).state = 1) (h7 : d.tlyNum 14 = 0)
    (h8 : ecdsaValid (d.slotBytes k 0x80 96) (sha384 (d.slotBytes k 0 0x220)) (d.slotBytes k 0x220 96) = true)
    (h9 : firstWhere 5 (fun i => sha384 (d.slotBytes k (d.partOf k i).1 (d.partOf k i).2) != d.slotBytes k (0xF0 + 64 * i) 48) = none) : d.verify k = none := by
  simp [Dev.verify, h1, h2, h3, h4, h5, h6, h7, h8, h9]

theorem goodImage (k : Nat) : (dKey k (sha384 imgPub)).verify k = none := by
  obtain ⟨k1, k2, k3⟩ := dKey_key k (sha384 imgPub)
  obtain ⟨t1, t2, t3⟩ := dKey_tally k (sha384 imgPub)
  obtain ⟨p1, _, p3, p4⟩ := dKey_parts k (sha384 imgPub)
  exact verify_of k _ (dKey_manifest k _) p1 p3 p4 (by rw [k1, t2]) t1 t3 (by rw [k1, k2, k3]; exact img_signed) (dKey_digests k _)

theorem witness_goodImage : (dKey 2 (sha384 imgPub)).verify 2 = none ∧ (dKey 0 (sha384 imgPub)).verify 0 = none ∧ d0.verify 1 = some (Err.IMG_MANIFEST_BAD, [1, 0]) :=
  ⟨goodImage 2, goodImage 0, by decide⟩

end Sys2Proof.Tests
end

section
/-! PROOFS. The supervisor bus and the engine memories: what a write of the bus does in each region (R6, R7, R30, R34), and what a write
to engine memory does (R31, R88). -/

namespace Sys2Proof.Machine

/-! ## Outcomes -/

/-- A command whose meaning is `run` is carried out on a live device. -/
theorem State.does_run {s : State} {i : Instr} {f : Dev → Dev} {P : Dev → Prop} (he : exec i s = s.run f)
    (hl : s.dev.live = true) (hP : P (f s.dev)) : Does s i P :=
  ⟨{ s with dev := f s.dev }, he.trans ((s.run_spec f).1 hl), rfl, hP⟩

/-- REGISTER_WRITE of one, two or four bytes by a core is a write of the bus. -/
theorem State.does_registerWrite {s : State} {core a size v : Nat} {P : Dev → Prop} (hl : s.dev.live = true) (hc : core < 2)
    (hs : size ∈ [1, 2, 4]) (hP : P (s.dev.busWrite core a size v).2) : Does s (.registerWrite core a size v) P := by
  refine State.does_run (f := fun d => if core < 2 ∧ (size = 1 ∨ size = 2 ∨ size = 4) then (d.busWrite core a size v).2 else d)
    rfl hl ?_
  simpa [hc, show size = 1 ∨ size = 2 ∨ size = 4 by simpa using hs] using hP

/-! ## Bus errors (R6, R34) -/

/-- The accesses that R6 and R34 answer with a bus error: a narrow or unaligned one to the register space, and a write outside every
region or in a read-only one. -/
def badWrite (a size : Nat) : Prop :=
  (busRegion a = some .reg ∧ (size ≠ 4 ∨ a % 4 ≠ 0)) ∨ busRegion a ∈ [none, some .rom, some .saf, some .flash]

theorem wordAccess_eq_false {a size : Nat} (h : size ≠ 4 ∨ a % 4 ≠ 0) : wordAccess a size = false := by
  rcases h with h | h <;> simp [wordAccess, h]

theorem Dev.busWrite_badWrite (d : Dev) {core a size v : Nat} (h : badWrite a size) :
    d.busWrite core a size v = (false, d.busError core a) := by
  rcases h with ⟨hr, hw⟩ | hr
  · simp [Dev.busWrite, hr, wordAccess_eq_false hw]
  · simp only [List.mem_cons, List.not_mem_nil, or_false] at hr
    rcases hr with hr | hr | hr | hr <;> simp [Dev.busWrite, hr]

/-- A raised record is the only change. -/
theorem Dev.raise_spec (d : Dev) (code : Nat) (ctx : List Nat) :
    (d.raise code ctx).raised = d.plusRecord code ctx ∧ d.keeps (d.raise code ctx) [] [.raised] :=
  ⟨rfl, Dev.keeps_raise List.mem_cons_self (d.keeps_refl _ _)⟩

/-! ## Bytes (R4) -/

@[simp] theorem leBytes_length (n v : Nat) : (leBytes n v).length = n := by simp [leBytes]

theorem leBytes_getD {n i : Nat} (v : Nat) (h : i < n) : (leBytes n v).getD i 0 = v / 256 ^ i % 256 := by
  simp [leBytes, List.getD_eq_getElem?_getD, h]

/-- Bytes written change the byte memories alone. -/
theorem Dev.setBytes_keeps (d : Dev) (k : Nat) (l : List Nat) : d.keeps (d.setBytes k l) [] [.mem] :=
  Dev.keeps_parts (d.setBytes_regs k l) (fun p hp => by cases p <;> simp_all [Part.same]) (d.keeps_refl _ _)

/-- The end of a write to SRAM changes no more than the list of words that cannot be read (R449). -/
theorem Dev.eccWritten_eq (d : Dev) (a n : Nat) : ∃ l, d.eccWritten a n = { d with mm := { d.mm with badWords := l } } := by
  unfold Dev.eccWritten
  split
  · exact ⟨_, rfl⟩
  · exact ⟨_, rfl⟩

theorem Dev.busWrite_sram (d : Dev) {core a size v : Nat} (h : busRegion a = some .sram) :
    d.busWrite core a size v = (true, d.dmaWrite a (leBytes size v)) := by simp [Dev.busWrite, h]

theorem Dev.dmaWrite_byte (d : Dev) (k : Nat) (l : List Nat) (j : Nat) : (d.dmaWrite k l).byte j = (d.setBytes k l).byte j := by
  obtain ⟨w, hw⟩ := (d.setBytes k l).eccWritten_eq k l.length
  rw [Dev.dmaWrite, hw]
  rfl

theorem Dev.dmaWrite_keeps (d : Dev) (k : Nat) (l : List Nat) : d.keeps (d.dmaWrite k l) [] [.mem, .mm] ∧
    { (d.dmaWrite k l).mm with badWords := d.mm.badWords } = d.mm := by
  obtain ⟨w, hw⟩ := (d.setBytes k l).eccWritten_eq k l.length
  rw [Dev.dmaWrite, hw]
  refine ⟨Dev.keeps_parts (d.setBytes_regs k l) (fun p hp => ?_) (d.keeps_refl _ _), by simp⟩
  have hm : p ∉ [Part.mem] := fun h => hp (List.mem_cons.2 (.inl (List.mem_singleton.1 h)))
  cases p <;> first | exact (d.setBytes_keeps k l).2 _ hm | simp at hp

/-- A write to SRAM stores its bytes, the lowest first, and changes no other byte. -/
theorem Dev.busWrite_sram_spec (d : Dev) {core a size v : Nat} (h : busRegion a = some .sram) (t : Dev)
    (ht : t = (d.busWrite core a size v).2) :
    (∀ i < size, t.byte (a + i) = v / 256 ^ i % 256) ∧ (∀ k, (k < a ∨ a + size ≤ k) → t.byte k = d.byte k) ∧
      d.keeps t [] [.mem, .mm] ∧ { t.mm with badWords := d.mm.badWords } = d.mm := by
  rw [d.busWrite_sram h] at ht
  subst ht
  refine ⟨fun i hi => ?_, fun k hk => ?_, d.dmaWrite_keeps _ _⟩
  · rw [Dev.dmaWrite_byte, Dev.byte_setBytes_inside _ _ _ _ (by simpa using hi), leBytes_getD v hi, Nat.mod_mod]
  · rw [Dev.dmaWrite_byte, Dev.byte_setBytes_outside _ _ _ _ (by simpa using hk)]

/-! ## Registers of the time base (R7) -/

theorem busRegion_reg {a : Nat} (h : 0x30000000 ≤ a) (h' : a < 0x30140000) : busRegion a = some .reg := by
  unfold busRegion
  iterate 4 rw [if_neg (by omega)]
  rw [if_pos ⟨h, h'⟩]

/-- An aligned word written to an address that a register has. -/
theorem Dev.busWrite_reg (d : Dev) {core a v : Nat} (h : busRegion a = some .reg) (ha : a % 4 = 0) (hr : (regRow a).isSome = true) :
    d.busWrite core a 4 v = (true, d.regWrite core a (v % 2 ^ 32)) := by
  simp [Dev.busWrite, h, wordAccess, ha, hr]

theorem Dev.regWrite_tb (d : Dev) {core off v : Nat} (h : off < 0x10000) :
    d.regWrite core (0x30020000 + off) v = d.tbWrite core off v := by
  unfold Dev.regWrite
  rw [if_neg (by omega), if_neg (by omega), if_pos (by omega), Nat.add_sub_cancel_left]

theorem Dev.busWrite_tb (d : Dev) {core off v : Nat} (h : off < 0x10000) (ha : off % 4 = 0) (hr : (regRow (0x30020000 + off)).isSome = true) :
    (d.busWrite core (0x30020000 + off) 4 v).2 = d.tbWrite core off (v % 2 ^ 32) := by
  rw [d.busWrite_reg (busRegion_reg (by omega) (by omega)) (by omega) hr, d.regWrite_tb h]

theorem setBits_whole {n : Nat} (v : Nat) (h : n < 2 ^ 32) : setBits n 31 0 v = v % 2 ^ 32 := by
  rw [setBits, Nat.div_eq_of_lt h]
  simp [Nat.mod_one]

/-- A register that is one RW field of 32 bits stores the word written. -/
theorem Dev.regStore_whole (d : Dev) {key addr base v note : Nat} {row : RegRow} (hr : regRow addr = some row)
    (hf : row.fields = [fd 31 0 .rw]) : d.regStore key addr base v unlocked note = d.setWord key (v % 2 ^ 32) := by
  simp [Dev.regStore, hr, writeFields, hf, writeField, fd, unlocked, sanitise, Dev.when, setBits_whole _ (d.word_lt key), bits]

/-- A whole register set reads as set, and is the only change. -/
theorem Dev.setWord_spec (d : Dev) (k v : Nat) :
    (d.setWord k (v % 2 ^ 32)).word k = v % 2 ^ 32 ∧ d.keeps (d.setWord k (v % 2 ^ 32)) [RF.whole k] [] :=
  ⟨by simp, Dev.keeps_setWord List.mem_cons_self (d.keeps_refl _ _)⟩

theorem regRow_whlSetLo : ∀ n < 16, regRow (Reg.WHL_SET_LO n) = some ⟨0x108, [⟨0x40, 0, 15⟩], 0x0, [fd 31 0 .rw]⟩ := by
  decide +kernel

theorem regRow_bellW : ∀ i < 5, regRow (0x30020040 + 4 * i) = some ⟨0x40, [⟨0x4, 0, 4⟩], 0x0, [fd 31 0 .rw]⟩ := by
  decide +kernel

theorem Dev.tbWrite_whlSetLo (d : Dev) {core n v : Nat} (h : n < 16) :
    d.tbWrite core (0x108 + 0x40 * n) v = d.setWord (Reg.WHL_SET_LO n) (v % 2 ^ 32) := by
  have ha : 0x30020000 + (0x108 + 0x40 * n) = Reg.WHL_SET_LO n := by simp only [Reg.WHL_SET_LO]; omega
  have hm : (0x108 + 0x40 * n - 0x100) % 0x40 = 8 := by omega
  unfold Dev.tbWrite
  rw [if_neg (by omega), if_neg (by omega), if_neg (by omega), if_neg (by omega), if_neg (by omega), if_neg (by omega),
    if_pos (by omega), hm, ha]
  exact d.regStore_whole (regRow_whlSetLo n h) rfl

theorem Dev.tbWrite_bellW (d : Dev) {core i v : Nat} (hc : core < 2) (h : i < 5) :
    d.tbWrite core (0x40 + 4 * i) v = d.setWord (Reg.BELL_W core i) v := by
  have hk : d.regKey core (0x30020000 + (0x40 + 4 * i)) = Reg.BELL_W core i := by
    unfold Dev.regKey Reg.BELL_W
    rw [if_pos (by omega)]
    omega
  unfold Dev.tbWrite
  rw [if_neg (by omega), if_pos (by omega), hk]

theorem Dev.busWrite_whlSetLo (d : Dev) {core n v : Nat} (h : n < 16) :
    (d.busWrite core (Reg.WHL_SET_LO n) 4 v).2 = d.setWord (Reg.WHL_SET_LO n) (v % 2 ^ 32) := by
  have ha : Reg.WHL_SET_LO n = 0x30020000 + (0x108 + 0x40 * n) := by simp only [Reg.WHL_SET_LO]; omega
  rw [ha, d.busWrite_tb (by omega) (by omega) (by rw [← ha, regRow_whlSetLo n h]; rfl), d.tbWrite_whlSetLo h, ← ha, Nat.mod_mod]

theorem Dev.busWrite_bellW (d : Dev) {core i v : Nat} (hc : core < 2) (h : i < 5) :
    (d.busWrite core (0x30020040 + 4 * i) 4 v).2 = d.setWord (Reg.BELL_W core i) (v % 2 ^ 32) := by
  have ha : 0x30020040 + 4 * i = 0x30020000 + (0x40 + 4 * i) := by omega
  rw [ha, d.busWrite_tb (by omega) (by omega) (by rw [← ha, regRow_bellW i h]; rfl), d.tbWrite_bellW hc h]

/-! ## Engine memory (R31, R88) -/

/-- A program word written reads as written. -/
theorem Dev.pmWord_setPm_same (d : Dev) (e a v : Nat) : (d.setPm e a v).pmWord e a = v % 2 ^ 48 := by
  simp [Dev.pmWord, Dev.setPm, storeGet_set_same]

/-- Another program word reads as before. -/
theorem Dev.pmWord_setPm_other (d : Dev) (e a v e' a' : Nat) (h : e' * 8192 + a' % 8192 ≠ e * 8192 + a % 8192) :
    (d.setPm e a v).pmWord e' a' = d.pmWord e' a' := by
  simp [Dev.pmWord, Dev.setPm, storeGet_set_other _ _ _ h]

theorem Dev.pmWord_lt (d : Dev) (e a : Nat) : d.pmWord e a < 2 ^ 48 := BitVec.isLt _

/-- A change of the engine array alone. -/
theorem Dev.withCe_keeps (d : Dev) (c : Ce) : d.keeps { d with ce := c } [] [.ce] :=
  Dev.keeps_parts (t := d) rfl (fun p hp => by cases p <;> first | rfl | exact fun _ => rfl | simp at hp) (d.keeps_refl _ _)

/-- The bus address of a data word of an engine. -/
def dmAddr (e w : Nat) : Nat := 0x20000000 + 0x40000 * e + 0x20000 + 4 * w

/-- The bus address of a half of a program word of an engine, the lower half first. -/
def pmAddr (e w h : Nat) : Nat := 0x20000000 + 0x40000 * e + 8 * w + 4 * h

/-- A program word with its lower (0) or upper (1) half replaced. -/
def halfMerge (old h v : Nat) : Nat :=
  if h = 0 then old / 2 ^ 32 * 2 ^ 32 + v % 2 ^ 32 else v % 65536 * 2 ^ 32 + old % 2 ^ 32

theorem halfMerge_lt {old h : Nat} (v : Nat) (ho : old < 2 ^ 48) : halfMerge old h v < 2 ^ 48 := by
  unfold halfMerge
  split <;> omega

/-- ENGINE_MEMORY_WRITE to an aligned address of an engine's memories. -/
theorem State.does_engineMemoryWrite {s : State} {a v : Nat} {P : Dev → Prop} (hl : s.dev.live = true)
    (ha : 0x20000000 ≤ a ∧ a < 0x20300000 ∧ a % 4 = 0 ∧ ((a - 0x20000000) % 0x40000 < 0x10000 ∨ 0x20000 ≤ (a - 0x20000000) % 0x40000))
    (hP : P (s.dev.engMemWrite a v)) : Does s (.engineMemoryWrite a v) P := by
  refine State.does_run (f := fun d => let o := (a - 0x20000000) % 0x40000
    if 0x20000000 ≤ a ∧ a < 0x20300000 ∧ a % 4 = 0 ∧ (o < 0x10000 ∨ 0x20000 ≤ o) then d.engMemWrite a v else d) rfl hl ?_
  rw [if_pos ha]
  exact hP

theorem State.does_engineMemoryWrite_dm {s : State} {e w v : Nat} {P : Dev → Prop} (hl : s.dev.live = true) (he : e < 12) (hw : w < 32768)
    (hP : P (s.dev.engMemWrite (dmAddr e w) v)) : Does s (.engineMemoryWrite (dmAddr e w) v) P :=
  State.does_engineMemoryWrite hl (by unfold dmAddr; omega) hP

theorem State.does_engineMemoryWrite_pm {s : State} {e w h v : Nat} {P : Dev → Prop} (hl : s.dev.live = true) (he : e < 12) (hw : w < 8192)
    (hh : h < 2) (hP : P (s.dev.engMemWrite (pmAddr e w h) v)) : Does s (.engineMemoryWrite (pmAddr e w h) v) P :=
  State.does_engineMemoryWrite hl (by unfold pmAddr; omega) hP

/-- What a write to a data word does. -/
theorem Dev.engMemWrite_dm (d : Dev) {e w v : Nat} (hw : w < 32768) :
    d.engMemWrite (dmAddr e w) v =
      if (d.occupants e).all (fun c => d.dmFree c w) then d.setDm e w (v % 2 ^ 24) else d.raise Err.CE_WR_GUARD [dmAddr e w] := by
  have he : (dmAddr e w - 0x20000000) / 0x40000 = e := by unfold dmAddr; omega
  have ho : (dmAddr e w - 0x20000000) % 0x40000 = 0x20000 + 4 * w := by unfold dmAddr; omega
  have hd : (0x20000 + 4 * w - 0x20000) / 4 = w := by
    rw [Nat.add_sub_cancel_left, Nat.mul_div_cancel_left w (by decide)]
  simp only [Dev.engMemWrite, he, ho, hd]
  rw [if_neg (by omega)]

/-- What a write to half a program word does. -/
theorem Dev.engMemWrite_pm (d : Dev) {e w h v : Nat} (hw : w < 8192) (hh : h < 2) :
    d.engMemWrite (pmAddr e w h) v =
      if (d.occupants e).any (fun c => inSpan w (d.progRegion c).1 (d.progRegion c).2) then d.raise Err.CE_WR_GUARD [pmAddr e w h]
      else d.setPm e w (halfMerge (d.pmWord e w) h v) := by
  have he : (pmAddr e w h - 0x20000000) / 0x40000 = e := by unfold pmAddr; omega
  have ho : (pmAddr e w h - 0x20000000) % 0x40000 = 8 * w + 4 * h := by unfold pmAddr; omega
  have hd : (8 * w + 4 * h) / 8 = w := by omega
  have hr : (8 * w + 4 * h) % 8 = 0 ↔ h = 0 := by omega
  simp only [Dev.engMemWrite, he, ho, hd, hr, halfMerge]
  rw [if_pos (by omega)]

/-- A data word set reads as set; no other data word, engine, context or program word changes. -/
theorem Dev.setDm_spec (d : Dev) {e w v : Nat} (hw : w < 32768) (t : Dev) (ht : t = d.setDm e w (v % 2 ^ 24)) :
    t.dmWord e w = v % 2 ^ 24 ∧
      (∀ k j, k < 12 → j < 32768 → (k ≠ e ∨ j ≠ w) → t.dmWord k j = d.dmWord k j) ∧ (∀ k, t.eng k = d.eng k) ∧
      (∀ k, t.ctx k = d.ctx k) ∧ t.ce.pm = d.ce.pm ∧ d.keeps t [] [.ce] := by
  subst ht
  refine ⟨?_, fun k j _ hj hne => ?_, fun _ => rfl, fun _ => rfl, rfl, d.withCe_keeps _⟩
  · rw [Dev.dmWord_setDm_same, Nat.mod_mod]
  · exact d.dmWord_setDm_other _ _ _ _ _ (by omega)

/-- Half a program word set reads as set, beside the other half; no other program word and no data word changes. -/
theorem Dev.setPm_half_spec (d : Dev) {e w h v : Nat} (hw : w < 8192) (t : Dev)
    (ht : t = d.setPm e w (halfMerge (d.pmWord e w) h v)) :
    t.pmWord e w = halfMerge (d.pmWord e w) h v ∧
      (∀ k j, k < 12 → j < 8192 → (k ≠ e ∨ j ≠ w) → t.pmWord k j = d.pmWord k j) ∧ t.ce.dm = d.ce.dm ∧ d.keeps t [] [.ce] := by
  subst ht
  refine ⟨?_, fun k j _ hj hne => ?_, rfl, d.withCe_keeps _⟩
  · rw [Dev.pmWord_setPm_same, Nat.mod_eq_of_lt (halfMerge_lt v (d.pmWord_lt e w))]
  · exact d.pmWord_setPm_other _ _ _ _ _ (by omega)

end Sys2Proof.Machine
end

section
open Sys2Proof Sys2Proof.Machine

/-- Settles O5: every such access reaches the bus error, which adds one record and changes nothing else. -/
theorem busErrors : Obligations.BusErrors := by
  intro s hl core hc size hs a v hbad
  refine State.does_registerWrite hl hc hs ?_
  rw [s.dev.busWrite_badWrite hbad]
  exact s.dev.raise_spec _ _

/-- The writes to SRAM and to staged registers of O17. -/
theorem busWrites_hold : busWrites := by
  intro s hl core hc v
  refine ⟨fun size hs a ha => ?_, fun n hn => ?_, fun i hi => ?_⟩
  · exact State.does_registerWrite hl hc hs (s.dev.busWrite_sram_spec ha _ rfl)
  · refine State.does_registerWrite hl hc (by simp) ?_
    rw [s.dev.busWrite_whlSetLo hn]
    exact s.dev.setWord_spec _ v
  · refine State.does_registerWrite hl hc (by simp) ?_
    rw [s.dev.busWrite_bellW hc hi]
    exact s.dev.setWord_spec _ v

/-- The writes to engine memory of O17: each is judged by the contexts on the engine. -/
theorem engineMemoryWrites_hold : engineMemoryWrites := by
  intro s hl e he v
  refine ⟨fun w hw a ha => ?_, fun w hw h hh a ha => ?_⟩
  · obtain rfl : a = dmAddr e w := ha
    refine ⟨fun hfree => State.does_engineMemoryWrite_dm hl he hw ?_, fun ⟨c, hc, hx⟩ => State.does_engineMemoryWrite_dm hl he hw ?_⟩
    · rw [s.dev.engMemWrite_dm hw, if_pos (List.all_eq_true.2 hfree)]
      exact s.dev.setDm_spec hw _ rfl
    · rw [s.dev.engMemWrite_dm hw, if_neg fun hall => by simp [List.all_eq_true.1 hall c hc] at hx]
      exact s.dev.raise_spec _ _
  · obtain rfl : a = pmAddr e w h := ha
    refine ⟨fun hfree => State.does_engineMemoryWrite_pm hl he hw hh ?_, fun hocc => State.does_engineMemoryWrite_pm hl he hw hh ?_⟩
    · have hnone : ¬ (s.dev.occupants e).any (fun c => inSpan w (s.dev.progRegion c).1 (s.dev.progRegion c).2) = true := fun hany => by
        obtain ⟨c, hc, hx⟩ := List.any_eq_true.1 hany
        simp [hfree c hc] at hx
      rw [s.dev.engMemWrite_pm hw hh, if_neg hnone]
      exact s.dev.setPm_half_spec hw _ rfl
    · rw [s.dev.engMemWrite_pm hw hh, if_pos (List.any_eq_true.2 hocc)]
      exact s.dev.raise_spec _ _

/-- Settles O17: the writes of the bus and those to engine memory. -/
theorem supervisorMemory : Obligations.SupervisorMemory := ⟨busWrites_hold, engineMemoryWrites_hold⟩

end

section
/-! PROOFS. What a device keeps where one of its parts is replaced. -/

namespace Sys2Proof.Machine

variable {d t : Dev} {fs : List RF} {ps : List Part}

theorem Dev.keeps_withSys {y : Sys} (hm : Part.sys ∈ ps) (k : d.keeps t fs ps) : d.keeps { t with sys := y } fs ps := by
  refine Dev.keeps_parts (t := t) rfl (fun p hp => ?_) k
  cases p
  case sys => exact absurd hm hp
  case mem => exact fun _ => rfl
  all_goals rfl

theorem Dev.keeps_withTb {b : Tb} (hm : Part.tb ∈ ps) (k : d.keeps t fs ps) : d.keeps { t with tb := b } fs ps := by
  refine Dev.keeps_parts (t := t) rfl (fun p hp => ?_) k
  cases p
  case tb => exact absurd hm hp
  case mem => exact fun _ => rfl
  all_goals rfl

theorem Dev.keeps_withPwm {w : Pwm} (hm : Part.pwm ∈ ps) (k : d.keeps t fs ps) : d.keeps { t with pwm := w } fs ps := by
  refine Dev.keeps_parts (t := t) rfl (fun p hp => ?_) k
  cases p
  case pwm => exact absurd hm hp
  case mem => exact fun _ => rfl
  all_goals rfl

theorem Dev.keeps_withCe {c : Ce} (hm : Part.ce ∈ ps) (k : d.keeps t fs ps) : d.keeps { t with ce := c } fs ps := by
  refine Dev.keeps_parts (t := t) rfl (fun p hp => ?_) k
  cases p
  case ce => exact absurd hm hp
  case mem => exact fun _ => rfl
  all_goals rfl

theorem Dev.keeps_withSaf {f : Saf} (hm : Part.saf ∈ ps) (k : d.keeps t fs ps) : d.keeps { t with saf := f } fs ps := by
  refine Dev.keeps_parts (t := t) rfl (fun p hp => ?_) k
  cases p
  case saf => exact absurd hm hp
  case mem => exact fun _ => rfl
  all_goals rfl

theorem Dev.keeps_withHst {h : Hst} (hm : Part.hst ∈ ps) (k : d.keeps t fs ps) : d.keeps { t with hst := h } fs ps := by
  refine Dev.keeps_parts (t := t) rfl (fun p hp => ?_) k
  cases p
  case hst => exact absurd hm hp
  case mem => exact fun _ => rfl
  all_goals rfl

theorem Dev.keeps_withDrg {r : Drg} (hm : Part.drg ∈ ps) (k : d.keeps t fs ps) : d.keeps { t with drg := r } fs ps := by
  refine Dev.keeps_parts (t := t) rfl (fun p hp => ?_) k
  cases p
  case drg => exact absurd hm hp
  case mem => exact fun _ => rfl
  all_goals rfl

theorem Dev.keeps_withAux {a : Aux} (hm : Part.aux ∈ ps) (k : d.keeps t fs ps) : d.keeps { t with aux := a } fs ps := by
  refine Dev.keeps_parts (t := t) rfl (fun p hp => ?_) k
  cases p
  case aux => exact absurd hm hp
  case mem => exact fun _ => rfl
  all_goals rfl

theorem Dev.keeps_withDcl {l : Dcl} (hm : Part.dcl ∈ ps) (k : d.keeps t fs ps) : d.keeps { t with dcl := l } fs ps := by
  refine Dev.keeps_parts (t := t) rfl (fun p hp => ?_) k
  cases p
  case dcl => exact absurd hm hp
  case mem => exact fun _ => rfl
  all_goals rfl

/-- The bytes are among what is kept where memory is. -/
theorem Dev.byte_of_keeps (h : d.keeps t fs ps) (hm : Part.mem ∉ ps) (a : Nat) : t.byte a = d.byte a := h.2 .mem hm a

/-- What is kept is kept where more may change. -/
theorem Dev.keeps_mono {gs : List RF} {qs : List Part} (h : d.keeps t fs ps) (hf : fs ⊆ gs) (hp : ps ⊆ qs) : d.keeps t gs qs :=
  ⟨fun r hr ha => h.1 r hr fun f hm => ha f (hf hm), fun p hq => h.2 p fun hm => hq (hp hm)⟩

/-- A register that no changed field belongs to keeps its word. -/
theorem Dev.word_of_keeps (h : d.keeps t fs ps) {k : Nat} (hk : ∀ f ∈ fs, k ≠ f.key) :
    t.word k = d.word k := by
  have hw : ∀ x : Dev, x.g (RF.whole k) = x.word k := fun x => by
    simpa [Dev.g, bits, RF.whole] using Nat.mod_eq_of_lt (x.word_lt k)
  rw [← hw, ← hw, h.1 _ (by simp [RF.whole]) fun f hf => .inl (hk f hf)]

end Sys2Proof.Machine
end

section
/-! PROOFS. Reset: every command acts in one of three ways, and what is held in reset stays there (R20, R22, R40, R491, R492). -/

namespace Sys2Proof.Machine

/-! ## The three ways a command acts -/

/-- Every command acts on a live device alone, or out of reset, or is a reset pin or a supply. -/
theorem exec_ways (i : Instr) : ∃ f : Dev → Dev, (∀ s, exec i s = s.run f) ∨ (∀ s, exec i s = s.runNoClk f) ∨
    (i.atReset = true ∧ ∀ s, exec i s = s.runAny f) := by
  cases i
  case porstNAsserted | rstNAsserted | resetRelease | supplyLoss | supplyRestored =>
    exact ⟨_, .inr (.inr ⟨rfl, fun s => by delta exec; rfl⟩)⟩
  case safetyLinkFrame | safetyLinkLost | v24SiLoss | fclkLoss | fclkReturn | chopperFallbackExpiry | safetyTick | islandSelfTestDone |
      islandWatchdogExpiry | safDisc | outputTestEnd | ss1TimerExpiry | slsGraceExpiry | shhBrakeTimeExpiry | shhMaxExpiry | sbtPhaseEnd |
      safSbtDue | telltaleTransmit | safTtLost | passwordSessionTimeout | passwordLockEnd | enter | exit | setPw | cfgLoad | cfgCheck |
      cfgStart | activate | logAck | reqSto | relSto | islandAck | sbtStart | ttRx | sysXtalLost | sysPllUnlock | sysFclkFreq |
      clockCheckGood =>
    exact ⟨_, .inr (.inl fun s => by delta exec; rfl)⟩
  all_goals exact ⟨_, .inl fun s => by delta exec; rfl⟩

/-- In reset a command that is no reset pin and no supply leaves the state as it is (R40). -/
theorem exec_inReset {s : State} {i : Instr} (hr : s.dev.sys.run = .inReset) (hi : i.atReset = false) : exec i s = .next s := by
  obtain ⟨f, h | h | ⟨ha, _⟩⟩ := exec_ways i
  · rw [h, (s.run_spec f).2 (by simp [Dev.live, hr])]
  · rw [h, (s.runNoClk_spec f).2 hr]
  · rw [ha] at hi
    contradiction

/-- What a command does to the device does not depend on the commands that wait, and these keep their places. -/
theorem exec_queue (i : Instr) (d : Dev) : ∃ e, ∀ q, exec i ⟨d, q⟩ = .next ⟨e, q⟩ := by
  obtain ⟨f, h | h | ⟨_, h⟩⟩ := exec_ways i
  · exact ⟨if d.live then f d else d, fun q => h _⟩
  · exact ⟨if d.sys.run = .inReset then d else f d, fun q => h _⟩
  · exact ⟨f d, fun q => h _⟩

/-- A command whose meaning is `runNoClk` is carried out on a device out of reset. -/
theorem State.does_runNoClk {s : State} {i : Instr} {f : Dev → Dev} {P : Dev → Prop} (he : exec i s = s.runNoClk f)
    (hr : s.dev.sys.run ≠ .inReset) (hP : P (f s.dev)) : Does s i P :=
  ⟨{ s with dev := f s.dev }, he.trans ((s.runNoClk_spec f).1 hr), rfl, hP⟩

/-- A reset pin or a supply acts in every state. -/
theorem State.does_runAny {s : State} {i : Instr} {f : Dev → Dev} {P : Dev → Prop} (he : exec i s = s.runAny f) (hP : P (f s.dev)) :
    Does s i P :=
  ⟨{ s with dev := f s.dev }, he, rfl, hP⟩

/-! ## The whole device in reset -/

/-- What a reset of the whole device leaves of the system block: the pins, BOOT_MODE and the supplies. -/
def Sys.atReset (y : Sys) : Sys :=
  { run := .inReset, porstLow := y.porstLow, rstLow := y.rstLow, bootMode := y.bootMode, suppliesLost := y.suppliesLost }

/-- The device in reset before the causes of resets and THERM_LATCH are written. -/
def Dev.resetBase (d : Dev) (latch : Bool) : Dev :=
  { Dev.reset with
    mem := d.mem, tick := d.tick, free := d.free, saf := d.saf.kept, tly := { d.tly with statRead := true, keyStage := Dev.reset.tly.keyStage },
    sys := d.sys.atReset
    hst := { Dev.reset.hst with ports := d.hst.ports.map (fun p => { linkUp := p.linkUp }), getHome := d.hst.getHome },
    therm := { Dev.reset.therm with latchCtx := if latch then d.therm.latchCtx else [] } }

/-- THERM_LATCH where it stays set, and the condition by which it forces every channel safe (R487). -/
def Dev.keepLatch (e : Dev) (latch : Bool) : Dev :=
  if latch then { e.s Reg.THM_STAT_LATCH 1 with
    pwm := { (e.s Reg.THM_STAT_LATCH 1).pwm with conds := (e.s Reg.THM_STAT_LATCH 1).pwm.conds ++ (List.range 6).map fun n => ⟨n, 7, 1⟩ } }
  else e

theorem Dev.resetAll_eq (d : Dev) (cause : Nat) (keep : Bool) : d.resetAll cause keep =
    ((d.resetBase (keep && d.on Reg.THM_STAT_LATCH)).setWord Reg.SYS_RST_CAUSE cause).keepLatch (keep && d.on Reg.THM_STAT_LATCH) := rfl

theorem Dev.keepLatch_keeps (e : Dev) (latch : Bool) : e.keeps (e.keepLatch latch) [Reg.THM_STAT_LATCH] [.pwm] := by
  unfold Dev.keepLatch
  split
  · exact Dev.keeps_trans (Dev.keeps_s List.mem_cons_self (by decide) (by decide) (e.keeps_refl _ _))
      (Dev.keeps_withPwm (by simp) (Dev.keeps_refl _ _ _))
  · exact e.keeps_refl _ _

/-- In reset every register stands at its reset value. -/
theorem Dev.resetBase_word (d : Dev) (latch : Bool) (k : Nat) : (d.resetBase latch).word k = State.reset.dev.word k := rfl

/-- A reset of the whole device writes the causes of resets and THERM_LATCH alone. -/
theorem Dev.resetAll_keeps (d : Dev) (cause : Nat) (keep : Bool) : (d.resetBase (keep && d.on Reg.THM_STAT_LATCH)).keeps
    (d.resetAll cause keep) [RF.whole Reg.SYS_RST_CAUSE, Reg.THM_STAT_LATCH] [.pwm] := by
  rw [Dev.resetAll_eq]
  exact Dev.keeps_trans (Dev.keeps_setWord (by simp) (Dev.keeps_refl _ _ _)) (Dev.keeps_mono (Dev.keepLatch_keeps _ _) (by simp) (by simp))

theorem Dev.resetAll_sys (d : Dev) (cause : Nat) (keep : Bool) : (d.resetAll cause keep).sys = d.sys.atReset :=
  (d.resetAll_keeps cause keep).2 .sys (by decide)

theorem Dev.resetAll_byte (d : Dev) (cause : Nat) (keep : Bool) (a : Nat) : (d.resetAll cause keep).byte a = d.byte a :=
  (d.resetAll_keeps cause keep).2 .mem (by decide) a

/-- The entries and the log of the tally stay over a reset (R473). -/
theorem Dev.resetAll_tly (d : Dev) (cause : Nat) (keep : Bool) :
    (d.resetAll cause keep).tly.entries = d.tly.entries ∧ (d.resetAll cause keep).tly.log = d.tly.log := by
  have h : (d.resetAll cause keep).tly = _ := (d.resetAll_keeps cause keep).2 .tly (by decide)
  rw [h]
  exact ⟨rfl, rfl⟩

theorem Dev.resetAll_saf (d : Dev) (cause : Nat) (keep : Bool) : (d.resetAll cause keep).saf = d.saf.kept :=
  (d.resetAll_keeps cause keep).2 .saf (by decide)

/-- The blocks that hold nothing over resets. -/
def Part.resets : List Part := [.raised, .errs, .tb, .ce, .aux, .mea, .dcl, .drg, .cans, .mm, .img]

theorem Dev.resetAll_part (d : Dev) (cause : Nat) (keep : Bool) {p : Part} (hp : p ∈ Part.resets) :
    p.same State.reset.dev (d.resetAll cause keep) := by
  refine Part.same_trans (t := d.resetBase (keep && d.on Reg.THM_STAT_LATCH)) ?_ ((d.resetAll_keeps cause keep).2 p ?_)
  · fin_cases hp <;> rfl
  · fin_cases hp <;> decide

theorem Dev.resetAll_cause (d : Dev) {cause : Nat} (keep : Bool) (h : cause < 2 ^ 32) :
    (d.resetAll cause keep).word Reg.SYS_RST_CAUSE = cause := by
  rw [Dev.resetAll_eq, Dev.word_of_keeps (Dev.keepLatch_keeps _ _) (by decide), Dev.word_setWord_same, Nat.mod_eq_of_lt h]

/-- Every register but the causes of resets and THM_STAT stands at its reset value. -/
theorem Dev.resetAll_word (d : Dev) (cause : Nat) (keep : Bool) {k : Nat} (hc : k ≠ Reg.SYS_RST_CAUSE) (ht : k ≠ Reg.THM_STAT) :
    (d.resetAll cause keep).word k = State.reset.dev.word k :=
  (Dev.word_of_keeps (d.resetAll_keeps cause keep) (by simpa using ⟨hc, ht⟩)).trans (d.resetBase_word _ k)

theorem Dev.reset_latch : Dev.reset.g Reg.THM_STAT_LATCH = 0 := by decide +kernel

theorem Dev.withPwm_g (d : Dev) (p : Pwm) (f : RF) : { d with pwm := p }.g f = d.g f := rfl

/-- THERM_LATCH stays where the reset keeps it (R22). -/
theorem Dev.keepLatch_latch (e : Dev) (latch : Bool) (h : e.g Reg.THM_STAT_LATCH = 0) :
    (e.keepLatch latch).on Reg.THM_STAT_LATCH = latch := by
  cases latch
  · rw [Dev.keepLatch, if_neg Bool.false_ne_true, Dev.on, h]
    rfl
  · rw [Dev.keepLatch, if_pos rfl, Dev.on, Dev.withPwm_g, Dev.g_s_same _ _ _ (by decide) (by decide)]
    rfl

theorem Dev.resetAll_latch (d : Dev) (cause : Nat) (keep : Bool) :
    (d.resetAll cause keep).on Reg.THM_STAT_LATCH = (keep && d.on Reg.THM_STAT_LATCH) := by
  rw [Dev.resetAll_eq]
  refine Dev.keepLatch_latch _ _ ?_
  rw [Dev.g, Dev.word_setWord_other _ _ (by decide), Dev.resetBase_word]
  exact Dev.reset_latch

theorem Dev.resetBase_g (d : Dev) (latch : Bool) (r : RF) : (d.resetBase latch).g r = State.reset.dev.g r :=
  congrArg (bits · r.hi r.lo) (d.resetBase_word latch r.key)

/-- The bits of a register up to bit 30, as a field. -/
theorem Dev.word_mod_eq_g (d : Dev) (k : Nat) : d.word k % 2 ^ 31 = d.g ⟨k, 30, 0⟩ := by simp [Dev.g, bits]

/-- The other bits of THM_STAT stand at reset. -/
theorem Dev.resetAll_thmStat (d : Dev) (cause : Nat) (keep : Bool) :
    (d.resetAll cause keep).word Reg.THM_STAT % 2 ^ 31 = State.reset.dev.word Reg.THM_STAT % 2 ^ 31 := by
  have hapart : ∀ f ∈ [RF.whole Reg.SYS_RST_CAUSE, Reg.THM_STAT_LATCH], (⟨Reg.THM_STAT, 30, 0⟩ : RF).apart f := by
    simp [RF.apart, RF.whole, Reg.THM_STAT_LATCH, Reg.THM_STAT, Reg.SYS_RST_CAUSE]
  have hkept := (d.resetAll_keeps cause keep).1 ⟨Reg.THM_STAT, 30, 0⟩ (by decide) hapart
  rw [Dev.word_mod_eq_g, Dev.word_mod_eq_g, hkept]
  exact d.resetBase_g _ _

/-! ## What is held in reset -/

/-- From `d` to `t` a device is held in reset: it stands there, no byte and no part of the tally that holds memory changes, and THERM_LATCH
is not set. -/
def Dev.heldTo (d t : Dev) : Prop :=
  (∀ q, State.cold ⟨t, q⟩) ∧ (∀ a, t.byte a = d.byte a) ∧ t.tly.entries = d.tly.entries ∧ t.tly.log = d.tly.log ∧
    (t.on Reg.THM_STAT_LATCH = true → d.on Reg.THM_STAT_LATCH = true)

/-- The device in reset while PORST_N is low. -/
theorem Dev.resetAll_cold (d : Dev) (cause : Nat) (keep : Bool) (hp : d.sys.porstLow = true) (q : List Instr) :
    State.cold ⟨d.resetAll cause keep, q⟩ := by
  have part {p : Part} (hp : p ∈ Part.resets) := d.resetAll_part cause keep hp
  have hsys := d.resetAll_sys cause keep
  have hsaf := d.resetAll_saf cause keep
  exact ⟨⟨by rw [hsys]; rfl, by rw [hsys]; exact hp⟩, fun _ => d.resetAll_word cause keep, d.resetAll_thmStat cause keep,
    part (p := .tb) (by decide), part (p := .ce) (by decide), part (p := .aux) (by decide), part (p := .mea) (by decide),
    part (p := .dcl) (by decide), part (p := .drg) (by decide), part (p := .cans) (by decide), part (p := .mm) (by decide),
    part (p := .img) (by decide), part (p := .errs) (by decide), part (p := .raised) (by decide), by rw [hsaf]; rfl, by rw [hsys]; rfl⟩

/-- A reset of the whole device while PORST_N is low, after a change of the system block. -/
theorem Dev.resetAll_heldTo (d : Dev) (y : Sys) (cause : Nat) (keep : Bool) (hp : y.porstLow = true) :
    d.heldTo (Dev.resetAll { d with sys := y } cause keep) := by
  obtain ⟨hent, hlog⟩ := Dev.resetAll_tly { d with sys := y } cause keep
  refine ⟨Dev.resetAll_cold _ cause keep hp, Dev.resetAll_byte _ cause keep, hent, hlog, fun h => ?_⟩
  rw [Dev.resetAll_latch, Bool.and_eq_true] at h
  exact h.2

/-- A device that a reset pin holds does not start. -/
theorem Dev.tryStart_of_pin (d : Dev) (h : d.sys.porstLow = true ∨ d.sys.rstLow = true) : d.tryStart = d := by
  unfold Dev.tryStart
  rcases h with h | h <;> simp [h]

section
variable {s : State} (hc : s.cold)
include hc

theorem State.cold.inReset : s.dev.sys.run = .inReset := hc.1.1

theorem State.cold.porstLow : s.dev.sys.porstLow = true := hc.1.2

theorem State.cold.gd : s.dev.saf.gd = 0 := by
  obtain ⟨_, _, _, _, _, _, _, _, _, _, _, _, _, _, hg, _⟩ := hc
  exact hg

theorem State.cold.fclkLost : s.dev.sys.fclkLost = none := by
  obtain ⟨_, _, _, _, _, _, _, _, _, _, _, _, _, _, _, hf⟩ := hc
  exact hf

theorem State.cold.heldTo_self : s.dev.heldTo s.dev := ⟨fun _ => hc, fun _ => rfl, rfl, rfl, id⟩

/-- A change of the pins, the supplies and the island, none of which releases the device. -/
theorem State.cold.heldTo_sys (y : Sys) (a : Saf) (hr : y.run = .inReset) (hp : y.porstLow = true) (hf : y.fclkLost = none)
    (hg : a.gd = 0) : s.dev.heldTo { s.dev with sys := y, saf := a } := by
  obtain ⟨_, hwords, hthm, htb, hce, haux, hmea, hdcl, hdrg, hcans, hmm, himg, herrs, hraised, _, _⟩ := hc
  exact ⟨fun q => ⟨⟨hr, hp⟩, hwords, hthm, htb, hce, haux, hmea, hdcl, hdrg, hcans, hmm, himg, herrs, hraised, hg, hf⟩,
    fun _ => rfl, rfl, rfl, id⟩

/-- The loss of a supply: a device supply resets again what is in reset; another is noted. -/
theorem State.cold.supplyLost (x : Supply) : s.dev.heldTo (s.dev.supplyLost x) := by
  have hr := State.cold.inReset hc
  have hp := State.cold.porstLow hc
  have noted := State.cold.heldTo_sys hc { s.dev.sys with suppliesLost := s.dev.sys.suppliesLost ++ [x] }
  unfold Dev.supplyLost
  split
  · exact State.cold.heldTo_self hc
  · cases x
    case vddCore | vddSaf | vdda18 | vddio33 => exact s.dev.resetAll_heldTo _ _ _ hp
    case vddSrd | vddio18 | vddqDdr => simpa [hr] using noted s.dev.saf hr hp (State.cold.fclkLost hc) (State.cold.gd hc)
    case v24si =>
      simpa [hr, Dev.updSaf] using noted { s.dev.saf with v24 := false, rb := 0 } hr hp (State.cold.fclkLost hc) (State.cold.gd hc)

/-- The return of a supply is noted; PORST_N still holds the device. -/
theorem State.cold.supplyRestored (x : Supply) (u : Dev) (hu : u = { s.dev with sys := { s.dev.sys with
      suppliesLost := s.dev.sys.suppliesLost.filter (fun y => y != x) } }) :
    s.dev.heldTo ((u.when (x == .v24si) fun d => d.updSaf fun s => { s with v24 := true }).tryStart) := by
  have hr := State.cold.inReset hc
  have hp := State.cold.porstLow hc
  have hf := State.cold.fclkLost hc
  have hg := State.cold.gd hc
  subst hu
  have noted := State.cold.heldTo_sys hc { s.dev.sys with suppliesLost := s.dev.sys.suppliesLost.filter (fun y => y != x) }
  unfold Dev.when
  split
  · rw [Dev.tryStart_of_pin]
    · exact noted { s.dev.saf with v24 := true } hr hp hf hg
    · exact .inl hp
  · rw [Dev.tryStart_of_pin]
    · exact noted s.dev.saf hr hp hf hg
    · exact .inl hp

/-- A rise of RST_N leaves the device to PORST_N. -/
theorem State.cold.rstRelease (m : Nat) : ∃ t, exec (.resetRelease false m) s = .next ⟨t, s.pending⟩ ∧ s.dev.heldTo t := by
  have hp : (s.dev.sys.porstLow && !false) = true := by simpa using State.cold.porstLow hc
  have noted := State.cold.heldTo_sys hc { s.dev.sys with
    porstLow := s.dev.sys.porstLow && !false, rstLow := s.dev.sys.rstLow && false, bootMode := m % 4 }
  cases hrst : s.dev.sys.rstLow
  · refine ⟨s.dev, ?_, State.cold.heldTo_self hc⟩
    exact congrArg Host.Outcome.next (congrArg (State.mk · s.pending) (if_neg (by simp [hrst])))
  · refine ⟨_, congrArg Host.Outcome.next (congrArg (State.mk · s.pending) (if_pos hrst)), ?_⟩
    rw [Dev.tryStart_of_pin]
    · exact noted s.dev.saf (State.cold.inReset hc) hp (State.cold.fclkLost hc) (State.cold.gd hc)
    · exact .inl hp

/-- What a reset pin or a supply does to a device that PORST_N holds, other than the release of PORST_N. -/
theorem State.cold.exec_pin {i : Instr} (hi : i.atReset = true) (hrel : ∀ m, i ≠ .resetRelease true m) :
    ∃ t, exec i s = .next ⟨t, s.pending⟩ ∧ s.dev.heldTo t := by
  have hp := State.cold.porstLow hc
  cases i
  case porstNAsserted => exact ⟨_, rfl, s.dev.resetAll_heldTo _ _ _ rfl⟩
  case rstNAsserted =>
    refine ⟨_, rfl, ?_⟩
    dsimp only [Dev.warmReset]
    rw [Dev.tryStart_of_pin]
    · exact s.dev.resetAll_heldTo _ _ _ hp
    · exact .inl (by rw [Dev.resetAll_sys]; exact hp)
  case resetRelease porst m =>
    cases porst
    · exact State.cold.rstRelease hc m
    · exact absurd rfl (hrel m)
  case supplyLoss x => exact ⟨_, rfl, State.cold.supplyLost hc x⟩
  case supplyRestored x => exact ⟨_, rfl, State.cold.supplyRestored hc x _ rfl⟩
  all_goals exact absurd hi Bool.false_ne_true

/-- A step other than the release of PORST_N holds the device. -/
theorem State.cold.step (hrel : ∀ m, s.pending.head? ≠ some (.resetRelease true m)) :
    ∃ t, Machine.step s = .next ⟨t, s.pending.tail⟩ ∧ s.dev.heldTo t := by
  obtain ⟨d, q⟩ := s
  cases q with
  | nil =>
    have hr : d.sys.run = .inReset := State.cold.inReset hc
    exact ⟨d, by simp [Machine.step, Dev.tickOnce, hr], State.cold.heldTo_self hc⟩
  | cons i rest =>
    have hrest : State.cold ⟨d, rest⟩ := hc
    cases hi : i.atReset
    · exact ⟨d, exec_inReset (State.cold.inReset hrest) hi, State.cold.heldTo_self hc⟩
    · exact State.cold.exec_pin hrest hi fun m h => hrel m (by simp [h])

end

end Sys2Proof.Machine
end

section
open Sys2Proof Sys2Proof.Machine

/-- Settles O3: every register at reset holds what its table gives. -/
theorem resetValues : Obligations.ResetValues := ⟨by decide +kernel, rfl, rfl, rfl, rfl⟩

/-- Settles O57: in reset, by the three ways in which commands act; none of them looks at the queue. -/
theorem inertInReset : Obligations.InertInReset := ⟨fun _ _ => exec_inReset, exec_queue⟩

/-- Settles O58: a reset of the whole device with PORST_N low. -/
theorem porstHolds : Obligations.PorstHolds := fun _ =>
  ⟨_, rfl, Dev.resetAll_cold _ 1 true rfl _, Dev.resetAll_latch _ 1 true⟩

/-- Settles O59: every step but the release holds the device. -/
theorem resetIsHeld : Obligations.ResetIsHeld := by
  intro s hc hrel
  obtain ⟨t, ht, hcold, hbyte, hent, hlog, hlatch⟩ := State.cold.step hc hrel
  exact ⟨_, ht, hcold _, rfl, hbyte, hent, hlog, hlatch⟩

end

section
/-! PROOFS. The interrupt controller: what is offered, claimed and done (R36). -/

namespace Sys2Proof.Machine

/-- `b` is what a claim returns of the sources below `n`: an offered one, first by priority, then by number. -/
def Dev.irqFirst (d : Dev) (core n : Nat) : Option Nat → Prop
  | none => ∀ x < n, d.irqOffered core x = false
  | some b => d.irqOffered core b = true ∧ b < n ∧ ∀ x < n, d.irqOffered core x = true →
      d.g (Reg.IRQ_CFG_PRIO x) ≤ d.g (Reg.IRQ_CFG_PRIO b) ∧ (d.g (Reg.IRQ_CFG_PRIO x) = d.g (Reg.IRQ_CFG_PRIO b) → b ≤ x)

/-- The better of the best source so far and the next one, where this is offered. -/
def Dev.irqPick (d : Dev) (core : Nat) (best : Option Nat) (s : Nat) : Option Nat :=
  if d.irqOffered core s then
    match best with
    | some b => if d.g (Reg.IRQ_CFG_PRIO b) < d.g (Reg.IRQ_CFG_PRIO s) then some s else best
    | none => some s
  else best

theorem Dev.irqBest_eq (d : Dev) (core : Nat) : d.irqBest core = (List.range 216).foldl (d.irqPick core) none := rfl

/-- One more source. -/
theorem Dev.irqFirst_pick (d : Dev) (core n : Nat) (best : Option Nat) (h : d.irqFirst core n best) :
    d.irqFirst core (n + 1) (d.irqPick core best n) := by
  unfold Dev.irqPick
  cases hn : d.irqOffered core n
  · cases best with
    | none => exact fun x hx => (Nat.lt_succ_iff_lt_or_eq.1 hx).elim (h x) fun e => e ▸ hn
    | some b =>
      obtain ⟨hoff, hlt, hall⟩ := h
      refine ⟨hoff, by omega, fun x hx hxo => (Nat.lt_succ_iff_lt_or_eq.1 hx).elim (fun hx => hall x hx hxo) fun e => ?_⟩
      rw [e, hn] at hxo
      contradiction
  · cases best with
    | none =>
      refine ⟨hn, by omega, fun x hx hxo => (Nat.lt_succ_iff_lt_or_eq.1 hx).elim (fun hx => ?_) fun e => ?_⟩
      · rw [h x hx] at hxo
        contradiction
      · simp [e]
    | some b =>
      obtain ⟨hoff, hlt, hall⟩ := h
      simp only [if_true]
      split
      · next hp =>
        refine ⟨hn, by omega, fun x hx hxo => (Nat.lt_succ_iff_lt_or_eq.1 hx).elim (fun hx => ?_) fun e => by simp [e]⟩
        obtain ⟨hle, _⟩ := hall x hx hxo
        omega
      · next hp =>
        refine ⟨hoff, by omega, fun x hx hxo => (Nat.lt_succ_iff_lt_or_eq.1 hx).elim (fun hx => hall x hx hxo) fun e => ?_⟩
        subst e
        omega

theorem Dev.irqBest_first (d : Dev) (core : Nat) : d.irqFirst core 216 (d.irqBest core) := by
  rw [Dev.irqBest_eq]
  generalize 216 = n
  induction n with
  | zero => exact fun x hx => absurd hx (Nat.not_lt_zero x)
  | succ n ih =>
    rw [List.range_succ, List.foldl_append]
    exact d.irqFirst_pick core n _ ih

theorem irqClaimReg_bounds (core : Nat) : (irqClaimReg core).lo = 0 ∧ (irqClaimReg core).hi = 11 := by
  unfold irqClaimReg
  split <;> exact ⟨rfl, rfl⟩

/-- The claim register is written whole. -/
theorem Dev.g_claimReg (d : Dev) (core v : Nat) (hv : v < 2 ^ 12) : (d.s (irqClaimReg core) v).g (irqClaimReg core) = v := by
  obtain ⟨hlo, hhi⟩ := irqClaimReg_bounds core
  rw [Dev.g_s_same _ _ _ (by omega) (by omega), hlo, hhi, Nat.mod_eq_of_lt hv]

theorem Dev.keeps_claimReg (d : Dev) (core v : Nat) (ps : List Part) : d.keeps (d.s (irqClaimReg core) v) [irqClaimReg core] ps := by
  obtain ⟨hlo, hhi⟩ := irqClaimReg_bounds core
  exact Dev.keeps_s List.mem_cons_self (by omega) (by omega) (d.keeps_refl _ _)

/-- A claimed source is offered to no core. -/
theorem Dev.irqOffered_of_claimed {d : Dev} {c : Nat × Nat} (h : c ∈ d.sys.claimed) (k : Nat) : d.irqOffered k c.1 = false := by
  have hany : (d.sys.claimed.any fun x => x.1 == c.1) = true := List.any_eq_true.2 ⟨c, h, by simp⟩
  simp [Dev.irqOffered, hany]

/-- A source that no core has claimed is offered where it is enabled, has a priority, is targeted at the core and is asserted. -/
theorem Dev.irqOffered_of_unclaimed {d : Dev} {n : Nat} (h : ∀ c ∈ d.sys.claimed, c.1 ≠ n) (k : Nat) : d.irqOffered k n =
    (d.on (Reg.IRQ_CFG_EN n) && d.on (Reg.IRQ_CFG_PRIO n) && (d.g (Reg.IRQ_CFG_TARGET n) == 2 || d.g (Reg.IRQ_CFG_TARGET n) == k) &&
      d.irqLevel n) := by
  have hany : (d.sys.claimed.any fun x => x.1 == n) = false := by simpa using h
  simp [Dev.irqOffered, hany]

/-- A claim of a source. -/
theorem Dev.irqClaim_some (d : Dev) {core b : Nat} (hb : d.irqBest core = some b) : d.irqClaim core =
    { d.s (irqClaimReg core) b with sys := { d.sys with claimed := d.sys.claimed ++ [(b, core)] } } := by
  simp [Dev.irqClaim, hb]

/-- A claim where nothing is offered. -/
theorem Dev.irqClaim_none (d : Dev) {core : Nat} (hb : d.irqBest core = none) : d.irqClaim core = d.s (irqClaimReg core) 0xFFF := by
  simp [Dev.irqClaim, hb]

/-- The claims that stand after a completion: all but that of the number by the core. -/
theorem Dev.mem_irqDone (d : Dev) {core n : Nat} (hn : n < 4096) (c : Nat × Nat) :
    c ∈ (d.irqDone core n).sys.claimed ↔ c ∈ d.sys.claimed ∧ c ≠ (n, core) := by
  simp [Dev.irqDone, Nat.mod_eq_of_lt hn, Prod.ext_iff, imp_iff_not_or]

/-- A completion of what the core has not claimed changes nothing. -/
theorem Dev.irqDone_ignored (d : Dev) {core n : Nat} (hn : n < 4096) (h : (n, core) ∉ d.sys.claimed) : d.irqDone core n = d := by
  have hfilter : d.sys.claimed.filter (fun c => !(c.1 == n % 4096 && c.2 == core)) = d.sys.claimed := by
    refine List.filter_eq_self.2 fun c hc => ?_
    have hne : c ≠ (n, core) := fun e => h (e ▸ hc)
    simpa [Nat.mod_eq_of_lt hn, Prod.ext_iff, imp_iff_not_or] using hne
  rw [Dev.irqDone, hfilter]

end Sys2Proof.Machine
end

section
open Sys2Proof Sys2Proof.Machine

/-- Settles O4: a claim takes the first of the sources offered, and offers it to nobody until it is done. -/
theorem interruptClaims : Obligations.InterruptClaims := by
  refine ⟨fun d core b hb => ?_, fun s hl core hc b hb => ?_, fun s hl core hc hb => ?_, fun s hl core hc n hn => ?_⟩
  · have h := d.irqBest_first core
    rwa [hb] at h
  · have hfirst := s.dev.irqBest_first core
    rw [hb] at hfirst
    obtain ⟨_, hlt, _⟩ := hfirst
    refine State.does_run (f := fun d => d.irqClaim (core % 2)) rfl hl ?_
    rw [Nat.mod_eq_of_lt hc, s.dev.irqClaim_some hb]
    refine ⟨s.dev.g_claimReg core b (by omega), rfl, fun k => ?_, Dev.keeps_withSys (by simp) (s.dev.keeps_claimReg core b _), rfl⟩
    exact Dev.irqOffered_of_claimed (c := (b, core)) (by simp) k
  · refine State.does_run (f := fun d => d.irqClaim (core % 2)) rfl hl ?_
    rw [Nat.mod_eq_of_lt hc, s.dev.irqClaim_none hb]
    exact ⟨s.dev.g_claimReg core _ (by decide), s.dev.keeps_claimReg core _ _⟩
  · refine State.does_run (f := fun d => d.irqDone (core % 2) n) rfl hl ?_
    rw [Nat.mod_eq_of_lt hc]
    refine ⟨s.dev.mem_irqDone hn, Dev.keeps_withSys (by simp) (s.dev.keeps_refl _ _), rfl, s.dev.irqDone_ignored hn, fun hown => ?_⟩
    refine Dev.irqOffered_of_unclaimed fun c hcl e => ?_
    obtain ⟨hmem, hne⟩ := (s.dev.mem_irqDone hn c).1 hcl
    exact hne (Prod.ext e (hown c hmem e))

end

section
/-! PROOFS. Device and warm resets, their release and the supplies (R20, R22, R491, R492). -/

namespace Sys2Proof.Machine

/-- The device with its system block replaced. -/
def Dev.withSys (d : Dev) (y : Sys) : Dev := { d with sys := y }

/-- A device that no pin and no supply holds in reset starts. -/
theorem Dev.tryStart_free {d : Dev} (hr : d.sys.run = .inReset) (hp : d.sys.porstLow = false) (hq : d.sys.rstLow = false)
    (hs : d.sys.suppliesLost.any Supply.device = false) : d.tryStart = d.start := by
  simp [Dev.tryStart, hr, hp, hq, hs]

/-- Out of reset nothing starts. -/
theorem Dev.tryStart_out {d : Dev} (hr : d.sys.run ≠ .inReset) : d.tryStart = d := by simp [Dev.tryStart, hr]

theorem Dev.start_eq (d : Dev) : d.start =
    if d.on Reg.THM_STAT_LATCH then (d.withSys { d.sys with run := .absent }).raise Err.THM_LATCH d.therm.latchCtx
    else d.withSys { d.sys with run := .absent } := rfl

/-- The start changes the system block and, while THERM_LATCH is set, raises THM_LATCH. -/
theorem Dev.start_spec (d : Dev) : d.start.sys = { d.sys with run := .absent } ∧ d.keeps d.start [] [.sys, .raised] ∧
    d.start.raised = if d.on Reg.THM_STAT_LATCH then d.plusRecord Err.THM_LATCH d.therm.latchCtx else d.raised := by
  have hs := Dev.keeps_withSys (y := { d.sys with run := .absent }) (ps := [.sys, .raised]) (by simp) (d.keeps_refl [] _)
  rw [Dev.start_eq]
  split
  · exact ⟨rfl, Dev.keeps_raise (by simp) hs, rfl⟩
  · exact ⟨rfl, hs, rfl⟩

/-- The loss of a device supply resets the whole device; THERM_LATCH clears with VDD_CORE (R20, R22). -/
theorem Dev.supplyLost_device (d : Dev) {x : Supply} (hx : Supply.device x = true) (hl : x ∉ d.sys.suppliesLost) :
    d.supplyLost x = (d.withSys { d.sys with suppliesLost := d.sys.suppliesLost ++ [x] }).resetAll 2 (x != .vddCore) := by
  unfold Dev.supplyLost
  rw [if_neg (by simpa using hl)]
  cases x
  case vddCore | vddSaf | vdda18 | vddio33 => rfl
  all_goals exact absurd hx Bool.false_ne_true

/-- What every reset of the whole device shows: its causes, THERM_LATCH, the other registers and the bytes. -/
theorem Dev.resetAll_spec (d : Dev) {cause : Nat} (keep : Bool) (h : cause < 2 ^ 32) (t : Dev) (ht : t = d.resetAll cause keep) :
    t.sys = d.sys.atReset ∧ t.word Reg.SYS_RST_CAUSE = cause ∧ t.on Reg.THM_STAT_LATCH = (keep && d.on Reg.THM_STAT_LATCH) ∧
      (∀ k, k ≠ Reg.SYS_RST_CAUSE → k ≠ Reg.THM_STAT → t.word k = State.reset.dev.word k) ∧ ∀ a, t.byte a = d.byte a := by
  subst ht
  exact ⟨d.resetAll_sys _ _, d.resetAll_cause keep h, d.resetAll_latch _ _, fun _ => d.resetAll_word _ _, d.resetAll_byte _ _⟩

/-- A warm reset that a pin still holds. -/
theorem Dev.warmReset_pin (d : Dev) (bit : Nat) (h : d.sys.porstLow = true ∨ d.sys.rstLow = true) :
    d.warmReset bit = d.resetAll (d.word Reg.SYS_RST_CAUSE ||| 2 ^ bit) true :=
  Dev.tryStart_of_pin _ (by rw [Dev.resetAll_sys]; exact h)

/-- A warm reset that nothing holds ends in the start. -/
theorem Dev.warmReset_free (d : Dev) (bit : Nat) (hp : d.sys.porstLow = false) (hq : d.sys.rstLow = false)
    (hs : d.sys.suppliesLost.any Supply.device = false) :
    d.warmReset bit = (d.resetAll (d.word Reg.SYS_RST_CAUSE ||| 2 ^ bit) true).start := by
  have hsys := d.resetAll_sys (d.word Reg.SYS_RST_CAUSE ||| 2 ^ bit) true
  exact Dev.tryStart_free (by rw [hsys]; rfl) (by rw [hsys]; exact hp) (by rw [hsys]; exact hq) (by rw [hsys]; exact hs)

/-- The causes of resets with one more. -/
theorem Dev.causes_lt (d : Dev) {b : Nat} (hb : b < 2 ^ 32) : d.word Reg.SYS_RST_CAUSE ||| b < 2 ^ 32 := Nat.or_lt_two_pow (d.word_lt _) hb

end Sys2Proof.Machine
end

section
open Sys2Proof Sys2Proof.Machine

/-- Settles O7: each reset is a reset of the whole device with its causes, and what releases it starts it. -/
theorem deviceResets : Obligations.DeviceResets := by
  refine ⟨fun s => ?_, fun s _ x hx hl => ?_, fun s => ?_, fun s hr hp hq hs m => ?_, fun s hl hp hq hs => ?_, fun s hs hr => ?_⟩
  · refine State.does_runAny (f := fun d => (d.withSys { d.sys with porstLow := true }).resetAll 1 true) rfl ?_
    generalize hy : ({ s.dev.sys with porstLow := true } : Sys) = y
    obtain ⟨hsys, hcause, hlatch, hword, hbyte⟩ := (s.dev.withSys y).resetAll_spec true (cause := 1) (by decide) _ rfl
    obtain ⟨hent, hlog⟩ := (s.dev.withSys y).resetAll_tly 1 true
    have part {p : Part} (hp : p ∈ Part.resets) := (s.dev.withSys y).resetAll_part 1 true hp
    exact ⟨by rw [hsys]; rfl, by rw [hsys, ← hy]; rfl, hcause, hlatch, hword, hbyte, hent, hlog, part (p := .tb) (by decide),
      part (p := .ce) (by decide), part (p := .mea) (by decide), part (p := .dcl) (by decide), part (p := .aux) (by decide),
      part (p := .drg) (by decide), part (p := .errs) (by decide), part (p := .raised) (by decide)⟩
  · refine State.does_runAny (f := fun d => d.supplyLost x) rfl ?_
    rw [s.dev.supplyLost_device hx hl]
    generalize hy : ({ s.dev.sys with suppliesLost := s.dev.sys.suppliesLost ++ [x] } : Sys) = y
    obtain ⟨hsys, hcause, hlatch, hword, hbyte⟩ := (s.dev.withSys y).resetAll_spec (x != .vddCore) (cause := 2) (by decide) _ rfl
    refine ⟨by rw [hsys]; rfl, hcause, by rw [hsys, ← hy]; simp [Sys.atReset, Dev.withSys], ?_, hword, hbyte⟩
    rw [hlatch, Bool.and_eq_true, bne_iff_ne]
    rfl
  · refine State.does_runAny (f := fun d => (d.withSys { d.sys with rstLow := true }).warmReset 2) rfl ?_
    generalize hy : ({ s.dev.sys with rstLow := true } : Sys) = y
    rw [Dev.warmReset_pin _ _ (.inr (by rw [← hy]; rfl))]
    obtain ⟨hsys, hcause, hlatch, hword, hbyte⟩ := (s.dev.withSys y).resetAll_spec true
      ((s.dev.withSys y).causes_lt (b := 2 ^ 2) (by decide)) _ rfl
    exact ⟨by rw [hsys]; rfl, by rw [hsys, ← hy]; rfl, hcause, hlatch, hword, hbyte⟩
  · have he : exec (.resetRelease true m) s = s.runAny fun d => (d.withSys { s.dev.sys with
        porstLow := s.dev.sys.porstLow && !true, rstLow := s.dev.sys.rstLow && true, bootMode := m % 4 }).tryStart :=
      congrArg Host.Outcome.next (congrArg (State.mk · s.pending) (if_pos hp))
    refine State.does_runAny he ?_
    have hlow : (s.dev.sys.rstLow && true) = false := by simp [hq]
    rw [Dev.tryStart_free]
    · obtain ⟨hsys, hkeeps, hraised⟩ := Dev.start_spec (s.dev.withSys _)
      exact ⟨by rw [hsys], by rw [hsys]; exact Bool.and_false _, by rw [hsys]; rfl,
        Dev.keeps_trans (Dev.keeps_withSys (by simp) (s.dev.keeps_refl _ _)) hkeeps, hraised⟩
    · exact hr
    · exact Bool.and_false _
    · exact hlow
    · exact hs
  · refine State.does_run (f := fun d => if 0xA5 = 0xA5 then d.warmReset 3 else d) rfl hl ?_
    rw [if_pos rfl, s.dev.warmReset_free 3 hp hq hs]
    obtain ⟨_, hcause, _, hword, hbyte⟩ := s.dev.resetAll_spec true (s.dev.causes_lt (b := 2 ^ 3) (by decide)) _ rfl
    obtain ⟨hsys, hkeeps, _⟩ := (s.dev.resetAll (s.dev.word Reg.SYS_RST_CAUSE ||| 2 ^ 3) true).start_spec
    have same (k : Nat) := Dev.word_of_keeps hkeeps (k := k) (by simp)
    exact ⟨by rw [hsys], (same _).trans hcause, fun k hc ht => (same k).trans (hword k hc ht),
      fun a => (Dev.byte_of_keeps hkeeps (by decide) a).trans (hbyte a)⟩
  · have he : exec (.supplyRestored .vddSrd) s = s.runAny fun d => (d.withSys { d.sys with
        suppliesLost := d.sys.suppliesLost.filter (fun y => y != .vddSrd) }).tryStart := rfl
    refine State.does_runAny he ?_
    rw [Dev.tryStart_out]
    · exact ⟨by simp [Dev.withSys, hs], Dev.keeps_withSys (by simp) (s.dev.keeps_refl _ _), rfl⟩
    · exact hr

end

section
/-! PROOFS. Ring time: reads, the PTP source, LOCKED and HOLDOVER (R33, R46, R48). -/

namespace Sys2Proof.Machine

/-- The device with its time base replaced. -/
def Dev.withTb (d : Dev) (b : Tb) : Dev := { d with tb := b }

/-- RT_CFG with a source written (R48). -/
def Dev.ptpSrc (d : Dev) (v : Nat) : Dev := d.s Reg.RT_CFG_PTP_SRC v

theorem Dev.ptpSrc_g (d : Dev) {v : Nat} (h : v < 4) : (d.ptpSrc v).g Reg.RT_CFG_PTP_SRC = v := by
  rw [Dev.ptpSrc, d.g_s_same _ v (by decide) (by decide)]
  exact Nat.mod_eq_of_lt h

theorem Dev.ptpSrc_keeps (d : Dev) (v : Nat) (fs : List RF) (ps : List Part) : d.keeps (d.ptpSrc v) (Reg.RT_CFG_PTP_SRC :: fs) ps :=
  Dev.keeps_s List.mem_cons_self (by decide) (by decide) (d.keeps_refl _ _)

/-- MASTER stands in another register. -/
theorem Dev.ptpSrc_master (d : Dev) (v : Nat) : (d.ptpSrc v).on Reg.RT_STAT_MASTER = d.on Reg.RT_STAT_MASTER := by
  rw [Dev.on, Dev.on, Dev.ptpSrc, Dev.g_s_other _ _ _ _ (by decide)]

/-- The offset that the selection of a source captures on the master (R48). -/
def Dev.ptpOfs (d : Dev) (src : Nat) : Nat := ofInt 64 ((d.tb.rt : Int) - 8 * (d.ptpNs (src - 1) : Int))

theorem ofInt_lt (w : Nat) (z : Int) : ofInt w z < 2 ^ w := by
  have hpos : (0 : Int) < 2 ^ w := by positivity
  have hlt := Int.emod_lt_of_pos z hpos
  have hnn := Int.emod_nonneg z hpos.ne'
  unfold ofInt
  zify
  rwa [Int.toNat_of_nonneg hnn]

theorem Dev.ptpOfs_lt (d : Dev) (src : Nat) : d.ptpOfs src < 2 ^ 64 := ofInt_lt 64 _

/-- The offset in its two registers. -/
def Dev.ptpCapture (d : Dev) (ofs : Nat) : Dev := (d.setWord Reg.RT_PTP_OFS_LO (ofs % 2 ^ 32)).setWord Reg.RT_PTP_OFS_HI (ofs / 2 ^ 32)

theorem Dev.ptpCapture_words (d : Dev) {ofs : Nat} (h : ofs < 2 ^ 64) :
    (d.ptpCapture ofs).word Reg.RT_PTP_OFS_HI * 2 ^ 32 + (d.ptpCapture ofs).word Reg.RT_PTP_OFS_LO = ofs := by
  rw [Dev.ptpCapture, Dev.word_setWord_same, Dev.word_setWord_other _ _ (by decide), Dev.word_setWord_same]
  omega

/-- The PTP source off or on; the error that is slewed away is 0 (R48). -/
def Dev.ptpSwitch (d : Dev) (on : Bool) : Dev := { d with tb := { d.tb with ptpOn := on, slew := 0 } }

theorem Dev.ptpSrc_ofs (d : Dev) (v src : Nat) : (d.ptpSrc v).ptpOfs src = d.ptpOfs src := by
  simp [Dev.ptpOfs, Dev.ptpNs, Dev.ptpSrc]

theorem Dev.ptpSwitch_keeps (d : Dev) (on : Bool) (fs : List RF) : d.keeps (d.ptpSwitch on) fs [.tb] :=
  Dev.keeps_withTb (by simp) (d.keeps_refl _ _)

theorem Dev.ptpCapture_tb (d : Dev) (ofs : Nat) : (d.ptpCapture ofs).tb = d.tb := by
  rw [Dev.ptpCapture, Dev.setWord_tb, Dev.setWord_tb]

theorem Dev.ptpCapture_keeps (d : Dev) (ofs : Nat) (ps : List Part) :
    d.keeps (d.ptpCapture ofs) [RF.whole Reg.RT_PTP_OFS_LO, RF.whole Reg.RT_PTP_OFS_HI] ps :=
  Dev.keeps_setWord (by simp) (Dev.keeps_setWord (by simp) (d.keeps_refl _ _))

/-- What the choice of a source does on the master (R48). -/
def Dev.ptpChosen (d : Dev) (src : Nat) : Dev :=
  if d.on Reg.RT_STAT_MASTER then
    if src = 0 then d.ptpSwitch false else (d.ptpCapture (d.ptpOfs src)).ptpSwitch true
  else d

/-- PTP_SRC_WRITE: the source is written and takes effect; 3 is ignored (R48). -/
theorem exec_ptpSrcWrite (v : Nat) (s : State) :
    exec (.ptpSrcWrite v) s = s.run fun d => if v % 4 = 3 then d else (d.ptpSrc (v % 4)).ptpChosen (v % 4) := rfl

/-- The selection of a source on the master captures the offset. -/
theorem Dev.ptpSelect_spec (d : Dev) (src : Nat) (t : Dev) (ht : t = (d.ptpCapture (d.ptpOfs src)).ptpSwitch true) :
    t.word Reg.RT_PTP_OFS_HI * 2 ^ 32 + t.word Reg.RT_PTP_OFS_LO = d.ptpOfs src ∧ t.tb.ptpOn = true ∧ t.tb.rt = d.tb.rt ∧
      d.keeps t [RF.whole Reg.RT_PTP_OFS_LO, RF.whole Reg.RT_PTP_OFS_HI] [.tb] := by
  have hkeeps := (d.ptpCapture (d.ptpOfs src)).ptpSwitch_keeps true []
  have hwords := d.ptpCapture_words (d.ptpOfs_lt src)
  have same (k : Nat) : t.word k = (d.ptpCapture (d.ptpOfs src)).word k := by rw [ht]; exact Dev.word_of_keeps hkeeps (by simp)
  have htb : t.tb = { d.tb with ptpOn := true, slew := 0 } := by rw [ht, Dev.ptpSwitch, Dev.ptpCapture_tb]
  exact ⟨by rw [same, same]; exact hwords, by rw [htb], by rw [htb],
    ht ▸ Dev.keeps_trans (d.ptpCapture_keeps _ _) (Dev.keeps_mono hkeeps (by simp) (by simp))⟩

/-- A meaning that leaves the device as it is leaves the state as it is. -/
theorem State.run_self {s : State} {f : Dev → Dev} (h : f s.dev = s.dev) : s.run f = .next s := by
  unfold State.run
  rw [h, ite_self]

/-- RT_LO_READ sets the two words of RT64 (R33). -/
theorem Dev.rtWords_spec (d : Dev) (t : Dev) (ht : t = (d.setWord Reg.RT_LO (d.tb.rt % 2 ^ 32)).setWord Reg.RT_HI (d.tb.rt / 2 ^ 32 % 2 ^ 32)) :
    t.word Reg.RT_LO = d.tb.rt % 2 ^ 32 ∧ t.word Reg.RT_HI = d.tb.rt / 2 ^ 32 % 2 ^ 32 ∧
      d.keeps t [RF.whole Reg.RT_LO, RF.whole Reg.RT_HI] [] := by
  subst ht
  refine ⟨?_, ?_, Dev.keeps_setWord (by simp) (Dev.keeps_setWord (by simp) (d.keeps_refl _ _))⟩
  · rw [Dev.word_setWord_other _ _ (by decide), Dev.word_setWord_same, Nat.mod_mod]
  · rw [Dev.word_setWord_same, Nat.mod_mod]

/-- The discipline in a state (R46). -/
theorem Dev.rtState_spec (d : Dev) {v : Nat} (h : v < 4) (ps : List Part) :
    (d.s Reg.RT_STAT_STATE v).g Reg.RT_STAT_STATE = v ∧ d.keeps (d.s Reg.RT_STAT_STATE v) [Reg.RT_STAT_STATE] ps := by
  refine ⟨?_, Dev.keeps_s List.mem_cons_self (by decide) (by decide) (d.keeps_refl _ _)⟩
  rw [d.g_s_same _ v (by decide) (by decide)]
  exact Nat.mod_eq_of_lt h

end Sys2Proof.Machine
end

section
open Sys2Proof Sys2Proof.Machine

/-- Settles O9: each command writes its registers, and the master captures its offset as the source is selected. -/
theorem ringTime : Obligations.RingTime := by
  intro s hl
  refine ⟨?_, fun v h3 => ?_, fun v h3 hm => ?_, fun v h0 hm => ?_, fun v h12 hm => ?_,
    fun hst hgood => ?_, fun hst hmiss => ?_⟩
  · exact State.does_run (f := fun d => (d.setWord Reg.RT_LO (d.tb.rt % 2 ^ 32)).setWord Reg.RT_HI (d.tb.rt / 2 ^ 32 % 2 ^ 32)) rfl hl
      (s.dev.rtWords_spec _ rfl)
  · rw [exec_ptpSrcWrite]
    exact State.run_self (if_pos h3)
  · refine State.does_run (exec_ptpSrcWrite v s) hl ?_
    rw [if_neg (by omega), Dev.ptpChosen, if_neg (by rw [Dev.ptpSrc_master, hm]; exact Bool.false_ne_true)]
    exact ⟨s.dev.ptpSrc_g (by omega), s.dev.ptpSrc_keeps _ _ _⟩
  · refine State.does_run (exec_ptpSrcWrite v s) hl ?_
    rw [if_neg (by omega), Dev.ptpChosen, if_pos (by rw [Dev.ptpSrc_master, hm]), if_pos h0, h0]
    exact ⟨s.dev.ptpSrc_g (by decide), rfl, rfl, rfl, Dev.keeps_trans (s.dev.ptpSrc_keeps _ _ _) (Dev.ptpSwitch_keeps _ _ _)⟩
  · refine State.does_run (exec_ptpSrcWrite v s) hl ?_
    rw [if_neg (by omega), Dev.ptpChosen, if_pos (by rw [Dev.ptpSrc_master, hm]), if_neg (by omega)]
    obtain ⟨hwords, hon, hrt, hkeeps⟩ := (s.dev.ptpSrc (v % 4)).ptpSelect_spec (v % 4) _ rfl
    refine ⟨?_, hwords.trans (s.dev.ptpSrc_ofs _ _), hon, hrt,
      Dev.keeps_trans (s.dev.ptpSrc_keeps _ _ _) (Dev.keeps_mono hkeeps (by simp) (by simp))⟩
    rw [hkeeps.1 _ (by decide) (by simp [RF.apart, RF.whole, Reg.RT_CFG_PTP_SRC, Reg.RT_CFG, Reg.RT_PTP_OFS_LO, Reg.RT_PTP_OFS_HI])]
    exact s.dev.ptpSrc_g (by omega)
  · refine State.does_run (f := fun d => if d.g Reg.RT_STAT_STATE = 1 ∧ 16 ≤ d.tb.goodCyc then d.s Reg.RT_STAT_STATE 2 else d) rfl hl ?_
    rw [if_pos ⟨hst, hgood⟩]
    exact s.dev.rtState_spec (by decide) _
  · refine State.does_run (f := fun d => if (d.g Reg.RT_STAT_STATE = 1 ∨ d.g Reg.RT_STAT_STATE = 2) ∧ 4 ≤ d.tb.missCyc then
      ((d.withTb { d.tb with goodCyc := 0 }).s Reg.RT_STAT_STATE 3).raise Err.TB_RT_HOLDOVER [d.tb.missCyc] else d) rfl hl ?_
    rw [if_pos ⟨hst, hmiss⟩]
    obtain ⟨hg, hkeeps⟩ := (s.dev.withTb { s.dev.tb with goodCyc := 0 }).rtState_spec (v := 3) (by decide) [.tb, .raised]
    exact ⟨hg, rfl, rfl, Dev.keeps_raise (by simp) (Dev.keeps_trans (Dev.keeps_withTb (by simp) (s.dev.keeps_refl _ _)) hkeeps)⟩

end

section
/-! PROOFS. The general outputs (R65, R12): what a write of GO_CTL leaves in GO_OUT. -/

namespace Sys2Proof.Machine

/-- The levels that a write of GO_CTL leaves: of `old` with SET and CLR of `v`, where `bell` names the outputs that a Bell drove. -/
def goLevel (v old bell : Nat) : Nat :=
  (((old ||| v % 65536) &&& (65535 - v / 65536 % 65536)) &&& (65535 - bell)) ||| (old &&& bell)

theorem exec_goCtlWrite (v : Nat) (s : State) : exec (.goCtlWrite v) s =
    s.run fun d => d.s Reg.GO_OUT_LEVEL (goLevel v (d.g Reg.GO_OUT_LEVEL) d.tb.goBell) := rfl

/-- A live device after reset whose mask of the outputs that Bells drove holds a bit above the sixteen outputs. -/
def goBellBeyond : State := { State.reset with dev := { Dev.reset with tb := { Dev.reset.tb with goBell := 65536 } } }

theorem goBellBeyond_level : goBellBeyond.dev.g Reg.GO_OUT_LEVEL = 0 := by decide +kernel

/-- In that state no output goes high, whatever SET names. -/
theorem goLevel_goBellBeyond (v : Nat) : goLevel v 0 65536 = 0 := by simp [goLevel]

end Sys2Proof.Machine
end

section
open Sys2Proof Sys2Proof.Machine

/-- Refutes O13: the mask of the outputs that Bells drove is not bounded by the outputs. With its bit 16 set the complement that the meaning
takes of it is 0, so output 0, which no Bell drove, stays low where SET names it. -/
theorem not_outputsAndHalt : ¬ Obligations.OutputsAndHalt := by
  intro h
  obtain ⟨t, ht, _, hbits, _⟩ := h.1 goBellBeyond rfl 1
  have hdev : t.dev = goBellBeyond.dev.s Reg.GO_OUT_LEVEL 0 := by
    rw [exec_goCtlWrite, (goBellBeyond.run_spec _).1 rfl, goBellBeyond_level] at ht
    have hstate := Host.Outcome.next.inj ht
    rw [← hstate]
    exact congrArg (goBellBeyond.dev.s Reg.GO_OUT_LEVEL) (goLevel_goBellBeyond 1)
  have hlow : t.dev.g Reg.GO_OUT_LEVEL = 0 := by rw [hdev, Dev.g_s_same _ _ _ (by decide) (by decide)]; rfl
  have hhigh := hbits 0 (by decide)
  rw [hlow, goBellBeyond_level] at hhigh
  revert hhigh
  decide

end

section
/-! PROOFS. How far an operation reaches: the registers and the parts that may change, where the fields that it writes are too many to list. -/

namespace Sys2Proof.Machine

/-- From `d` to `t` registers change at the keys of `K` alone, the parts outside `ps` are the same, records are only added, and where `c`
holds the forcing conditions of the channels stay. -/
structure Dev.Within (K : Nat → Prop) (ps : List Part) (c : Prop) (d t : Dev) : Prop where
  word : ∀ k, ¬ K k → t.word k = d.word k
  part : ∀ p, p ∉ ps → p.same d t
  records : d.raised <+: t.raised
  conds : c → t.pwm.conds = d.pwm.conds

namespace Dev.Within

variable {K L : Nat → Prop} {ps qs : List Part} {c e : Prop} {d t u : Dev}

theorem refl (d : Dev) : Within K ps c d d := ⟨fun _ _ => rfl, fun p _ => p.same_refl d, List.prefix_refl _, fun _ => rfl⟩

theorem trans (h : Within K ps c d t) (g : Within K ps c t u) : Within K ps c d u :=
  ⟨fun k hk => (g.word k hk).trans (h.word k hk), fun p hp => Part.same_trans (h.part p hp) (g.part p hp), h.records.trans g.records,
    fun hc => (g.conds hc).trans (h.conds hc)⟩

/-- What reaches no further than here reaches no further than a wider bound. -/
theorem mono (h : Within K ps c d t) (hK : ∀ k, K k → L k) (hp : ps ⊆ qs) (hc : e → c) : Within L qs e d t :=
  ⟨fun k hk => h.word k fun hn => hk (hK k hn), fun p hq => h.part p fun hm => hq (hp hm), h.records, fun he => h.conds (hc he)⟩

theorem setWord (h : Within K ps c d t) (j v : Nat) (hj : K j) : Within K ps c d (t.setWord j v) :=
  have hkeeps : t.keeps (t.setWord j v) [RF.whole j] [] := Dev.keeps_setWord List.mem_cons_self (t.keeps_refl _ _)
  h.trans ⟨fun _ hk => t.word_setWord_other v fun he => hk (he ▸ hj), fun p _ => hkeeps.2 p List.not_mem_nil, List.prefix_refl _, fun _ => rfl⟩

theorem s (h : Within K ps c d t) (f : RF) (v : Nat) (hf : K f.key) : Within K ps c d (t.s f v) := h.setWord _ _ hf

/-- A step that changes one part alone. -/
theorem ofPart (h : Within K ps c d t) {p : Part} (k : t.keeps u [] [p]) (hm : p ∈ ps) (hr : t.raised <+: u.raised)
    (hx : c → u.pwm.conds = t.pwm.conds) : Within K ps c d u :=
  h.trans ⟨fun _ _ => Dev.word_of_keeps k (by simp), fun _ hq => k.2 _ fun he => hq (List.mem_singleton.1 he ▸ hm), hr, hx⟩

theorem raise (h : Within K ps c d t) (code : Nat) (ctx : List Nat) (hm : Part.raised ∈ ps) : Within K ps c d (t.raise code ctx) :=
  h.ofPart (t.raise_spec code ctx).2 hm (List.prefix_append _ _) fun _ => rfl

theorem withHst (h : Within K ps c d t) (x : Hst) (hm : Part.hst ∈ ps) : Within K ps c d { t with hst := x } :=
  h.ofPart (Dev.keeps_withHst List.mem_cons_self (t.keeps_refl _ _)) hm (List.prefix_refl _) fun _ => rfl

theorem withAux (h : Within K ps c d t) (x : Aux) (hm : Part.aux ∈ ps) : Within K ps c d { t with aux := x } :=
  h.ofPart (Dev.keeps_withAux List.mem_cons_self (t.keeps_refl _ _)) hm (List.prefix_refl _) fun _ => rfl

theorem withDcl (h : Within K ps c d t) (x : Dcl) (hm : Part.dcl ∈ ps) : Within K ps c d { t with dcl := x } :=
  h.ofPart (Dev.keeps_withDcl List.mem_cons_self (t.keeps_refl _ _)) hm (List.prefix_refl _) fun _ => rfl

theorem withSaf (h : Within K ps c d t) (x : Saf) (hm : Part.saf ∈ ps) : Within K ps c d { t with saf := x } :=
  h.ofPart (Dev.keeps_withSaf List.mem_cons_self (t.keeps_refl _ _)) hm (List.prefix_refl _) fun _ => rfl

theorem tookFree (h : Within K ps c d t) (hm : Part.free ∈ ps) : Within K ps c d t.tookFree :=
  h.ofPart (Dev.keeps_tookFree List.mem_cons_self (t.keeps_refl _ _)) hm (List.prefix_refl _) fun _ => rfl

/-- The pulse generation replaced, with its forcing conditions where they are to stay. -/
theorem withPwm (h : Within K ps c d t) (x : Pwm) (hm : Part.pwm ∈ ps) (hx : c → x.conds = t.pwm.conds) :
    Within K ps c d { t with pwm := x } :=
  h.ofPart (Dev.keeps_withPwm List.mem_cons_self (t.keeps_refl _ _)) hm (List.prefix_refl _) hx

theorem each {α : Type} (h : Within K ps c d t) (l : List α) (f : Dev → α → Dev) (hf : ∀ x, ∀ a ∈ l, Within K ps c x (f x a)) :
    Within K ps c d (t.each l f) := by
  unfold Dev.each
  induction l generalizing t with
  | nil => exact h
  | cons a m ih => exact ih (h.trans (hf t a List.mem_cons_self)) fun x b hb => hf x b (List.mem_cons_of_mem _ hb)

theorem when (h : Within K ps c d t) (b : Bool) (f : Dev → Dev) (hf : b = true → Within K ps c t (f t)) : Within K ps c d (t.when b f) := by
  unfold Dev.when
  split
  · next hb => exact h.trans (hf hb)
  · exact h

theorem ite {P : Prop} [Decidable P] (ht : P → Within K ps c d t) (hu : ¬ P → Within K ps c d u) : Within K ps c d (if P then t else u) := by
  split
  · next h => exact ht h
  · next h => exact hu h

/-- A changed channel of the pulse generation. -/
theorem updPch (h : Within K ps c d t) (n : Nat) (f : PwmCh → PwmCh) (hm : Part.pwm ∈ ps) : Within K ps c d (t.updPch n f) :=
  h.withPwm _ hm fun _ => rfl

theorem updLeg (h : Within K ps c d t) (n m : Nat) (f : Leg → Leg) (hm : Part.pwm ∈ ps) : Within K ps c d (t.updLeg n m f) := h.updPch n _ hm

theorem updPhase (h : Within K ps c d t) (n p : Nat) (f : Phase → Phase) (hm : Part.pwm ∈ ps) : Within K ps c d (t.updPhase n p f) :=
  h.updPch n _ hm

/-- A proposal withdrawn. -/
theorem withdraw (h : Within K ps c d t) (f n : Nat) (hm : Part.hst ∈ ps) (hf : K (Reg.ASSIST_CFG f)) : Within K ps c d (t.withdraw f n) :=
  (h.withHst _ hm).s _ _ hf

end Dev.Within

/-! ## What the safe state of a channel reaches (R168, R170, R264, R304) -/

/-- The keys of the blocks from pulse generation to the host block. -/
def driveKey (k : Nat) : Prop := 0x30040000 ≤ k ∧ k < 0x30100000

/-- The parts that the safe state of a channel reaches. -/
def driveParts : List Part := [.pwm, .aux, .dcl, .hst, .raised]

theorem driveParts_raised : Part.raised ∈ driveParts := by decide
theorem driveParts_pwm : Part.pwm ∈ driveParts := by decide
theorem driveParts_hst : Part.hst ∈ driveParts := by decide
theorem driveParts_aux : Part.aux ∈ driveParts := by decide
theorem driveParts_dcl : Part.dcl ∈ driveParts := by decide

/-- A command of a channel's safe state: it reaches the drive blocks and leaves the forcing conditions. -/
abbrev Dev.Disarms (d t : Dev) : Prop := Dev.Within driveKey driveParts True d t

theorem driveKey_legStat {n : Nat} (h : n < 6) : driveKey (Reg.PWM_LEG_STAT n) := by unfold driveKey Reg.PWM_LEG_STAT; omega
theorem driveKey_chStat {n : Nat} (h : n < 6) : driveKey (Reg.PWM_CH_STAT n) := by unfold driveKey Reg.PWM_CH_STAT; omega
theorem driveKey_maskAct {n : Nat} (h : n < 6) : driveKey (Reg.PWM_MASK_ACT n) := by unfold driveKey Reg.PWM_MASK_ACT; omega
theorem driveKey_cmuStat {k : Nat} (h : k < 2) : driveKey (Reg.CMU_STAT k) := by unfold driveKey Reg.CMU_STAT; omega
theorem driveKey_dclChStat {n : Nat} (h : n < 6) : driveKey (Reg.DCL_CH_STAT n) := by unfold driveKey Reg.DCL_CH_STAT; omega
theorem driveKey_assistCfg {f : Nat} (h : f < 10) : driveKey (Reg.ASSIST_CFG f) := by unfold driveKey Reg.ASSIST_CFG; omega

theorem Dev.safeHaltsCmu_disarms (d : Dev) {n : Nat} (hn : n < 6) : d.Disarms (d.safeHaltsCmu n) := by
  refine (Within.refl d).each _ _ fun x k hk => ?_
  have hk : k < 2 := List.mem_range.1 hk
  have hstat := driveKey_cmuStat hk
  refine Within.ite (fun _ => ?_) fun _ => Within.refl x
  refine Within.raise ?_ _ _ driveParts_raised
  have hdone : x.Disarms _ := ((((((Within.refl x).s (Reg.CMU_STAT_STATE k) 8 hstat).s (Reg.CMU_STAT_REASON k) 11 hstat).s
    (Reg.CMU_STAT_PROPOSE k) 0 hstat).withdraw 0 k
    driveParts_hst (driveKey_assistCfg (by decide))).withdraw 1 k driveParts_hst (driveKey_assistCfg (by decide)))
  refine Within.ite (fun _ => Within.setWord ?_ _ _ (driveKey_maskAct hn)) fun _ => ?_
  · exact hdone.withPwm _ driveParts_pwm fun _ => rfl
  · exact hdone.withPwm _ driveParts_pwm fun _ => rfl

theorem Dev.brakeOn_disarms (d : Dev) {n : Nat} (hn : n < 6) : d.Disarms (d.brakeOn n) := by
  have hbrk := (Within.refl (ps := driveParts) (c := True) d).s (Reg.DCL_CH_STAT_BRK n) 1 (driveKey_dclChStat hn)
  exact Within.ite (fun _ => hbrk.withAux _ driveParts_aux) fun _ => hbrk

theorem Dev.safeHolds_disarms (d : Dev) {n : Nat} (hn : n < 6) : d.Disarms (d.safeHolds n) := by
  have hstat := driveKey_dclChStat hn
  refine Within.ite (fun _ => ?_) fun _ => Within.refl d
  have held : d.Disarms _ := ((Within.refl d).s (Reg.DCL_CH_STAT_SLSTATE n) 3 hstat).s (Reg.DCL_CH_STAT_CAUSE n) 6 hstat
  exact ((held.withDcl _ driveParts_dcl).trans (Dev.brakeOn_disarms _ hn)).raise _ _ driveParts_raised

theorem Dev.refreshSafe_disarms (d : Dev) {n : Nat} (hn : n < 6) : d.Disarms (d.refreshSafe n) := by
  have hsafe (v : Nat) : d.Disarms _ := (Within.refl d).s (Reg.PWM_CH_STAT_SAFE n) v (driveKey_chStat hn)
  exact Within.ite (fun _ => ((hsafe _).trans (Dev.safeHaltsCmu_disarms _ hn)).trans (Dev.safeHolds_disarms _ hn)) fun _ => hsafe _

theorem Dev.disarmLeg_disarms (d : Dev) {n : Nat} (m : Nat) (hn : n < 6) : d.Disarms (d.disarmLeg n m) := by
  refine Within.ite (fun _ => ?_) fun _ => Within.refl d
  have harmed (v : Nat) : d.Disarms _ := (Within.refl d).s (Reg.PWM_LEG_STAT_ARMED n) v (driveKey_legStat hn)
  refine Within.ite (fun _ => (harmed _).updPhase _ _ _ driveParts_pwm) fun _ => ?_
  refine Within.when ((harmed _).updLeg _ _ _ driveParts_pwm) _ _ fun _ => ?_
  exact (Within.refl _).updPhase _ _ _ driveParts_pwm

theorem Dev.disarmMask_disarms (d : Dev) (mask : Nat) : d.Disarms (d.disarmMask mask) := by
  have hlegs := (Within.refl d).each (maskBits 36 mask) (fun d i => d.disarmLeg (i / 6) (i % 6)) fun x i hi => by
    have : i < 36 := List.mem_range.1 (List.mem_of_mem_filter hi)
    exact x.disarmLeg_disarms _ (by omega)
  exact hlegs.each _ _ fun x n hn => x.refreshSafe_disarms (List.mem_range.1 hn)

theorem Dev.makeSafe_disarms (d : Dev) (n : Nat) : d.Disarms (d.makeSafe n) := d.disarmMask_disarms _

/-! ## Forcing conditions (R173) -/

/-- What a forcing condition reaches. -/
abbrev Dev.Forces (d t : Dev) : Prop := Dev.Within driveKey driveParts False d t

theorem Dev.Disarms.forces {d t : Dev} (h : d.Disarms t) : d.Forces t := h.mono (fun _ => id) (List.Subset.refl _) False.elim

theorem Dev.forceOn_forces (d : Dev) (n why inst : Nat) : d.Forces (d.forceOn n why inst) := by
  have hsafe := (d.makeSafe_disarms n).forces
  unfold Dev.forceOn
  refine Within.when ?_ _ _ fun _ => (Within.refl _).raise _ _ driveParts_raised
  exact Within.ite (fun _ => hsafe) fun _ => hsafe.withPwm _ driveParts_pwm False.elim

theorem Dev.raiseWhen_pwm (d : Dev) (b : Bool) (code : Nat) (ctx : List Nat) : (d.when b fun d => d.raise code ctx).pwm = d.pwm := by
  cases b
  · rfl
  · rfl

/-- The conditions after one begins: those before, and it. -/
theorem Dev.mem_forceOn (d : Dev) (n why inst : Nat) (c : ForceCond) :
    c ∈ (d.forceOn n why inst).pwm.conds ↔ c ∈ d.pwm.conds ∨ c = ⟨n, why, inst⟩ := by
  have hsafe := (d.makeSafe_disarms n).conds trivial
  unfold Dev.forceOn
  rw [Dev.raiseWhen_pwm]
  split
  · next h =>
    have hmem : (⟨n, why, inst⟩ : ForceCond) ∈ d.pwm.conds := by simpa using h
    rw [hsafe]
    exact ⟨.inl, fun hc => hc.elim id fun he => he ▸ hmem⟩
  · simp [hsafe]

theorem Dev.forceOffCh_forces (d : Dev) (n why inst : Nat) : d.Forces (d.forceOffCh n why inst) :=
  (Within.refl d).withPwm _ driveParts_pwm False.elim

theorem Dev.forceMask_forces (d : Dev) (mask why inst : Nat) : d.Forces (d.forceMask mask why inst) :=
  (Within.refl d).each _ _ fun x n _ => x.forceOn_forces n why inst

/-- A condition that begins on the channels of a list. -/
theorem Dev.mem_forceEach (l : List Nat) (d : Dev) (why inst : Nat) (c : ForceCond) :
    c ∈ (d.each l fun d n => d.forceOn n why inst).pwm.conds ↔ c ∈ d.pwm.conds ∨ ∃ n ∈ l, c = ⟨n, why, inst⟩ := by
  unfold Dev.each
  induction l generalizing d with
  | nil => simp
  | cons n l ih => rw [List.foldl_cons, ih, Dev.mem_forceOn, List.exists_mem_cons_iff, or_assoc]

/-- A condition that begins on the channels of a mask. -/
theorem Dev.mem_forceMask (d : Dev) (mask why inst : Nat) {n : Nat} (hn : n < 6) :
    (⟨n, why, inst⟩ : ForceCond) ∈ (d.forceMask mask why inst).pwm.conds ↔ ⟨n, why, inst⟩ ∈ d.pwm.conds ∨ mask.testBit n = true := by
  refine (d.mem_forceEach _ why inst _).trans (or_congr_right ?_)
  simp [maskBits, hn]

end Sys2Proof.Machine
end

section
/-! PROOFS. The resets of one domain: the supervisor, the ring, a host port and the island (R19, R24, R27, R445, R492, R494). -/

namespace Sys2Proof.Machine

/-! ## Registers put back by their keys -/

/-- The device with every register whose key `keep` does not name at its reset value. -/
def Dev.keepRegs (d : Dev) (keep : Nat → Bool) : Dev := { d with regs := d.regs.filter fun r => keep r.1 }

theorem storeGet_filter {α : Type} (dflt : Nat → α) (l : List (Nat × α)) (keep : Nat → Bool) (k : Nat) :
    storeGet dflt (l.filter fun r => keep r.1) k = if keep k then storeGet dflt l k else dflt k := by
  induction l with
  | nil => simp [storeGet]
  | cons r t ih =>
    by_cases hk : r.1 = k
    · subst hk
      cases hb : keep r.1 <;> simp [hb, storeGet, ih]
    · cases hb : keep r.1 <;> simp [hb, storeGet, ih, hk]

theorem Dev.word_keepRegs_same (d : Dev) {keep : Nat → Bool} {k : Nat} (h : keep k = true) : (d.keepRegs keep).word k = d.word k := by
  simp [Dev.word, Dev.keepRegs, storeGet_filter, h]

theorem State.reset_word (k : Nat) : State.reset.dev.word k = (regReset k).toNat := rfl

theorem Dev.word_keepRegs_reset (d : Dev) {keep : Nat → Bool} {k : Nat} (h : keep k = false) :
    (d.keepRegs keep).word k = State.reset.dev.word k := by
  rw [State.reset_word]
  simp [Dev.word, Dev.keepRegs, storeGet_filter, h]

/-- Which registers a device holds does not bear on its parts. -/
theorem Part.same_withRegs {d t : Dev} {p : Part} (l : List (Nat × Word)) (h : p.same d t) : p.same d { t with regs := l } := by
  cases p
  all_goals exact h

/-- With its registers put back, a device keeps what its parts keep. -/
theorem Dev.keeps_withRegs {d t : Dev} {ps : List Part} (h : ∀ p, p ∉ ps → p.same d t) : d.keeps { t with regs := d.regs } [] ps :=
  ⟨fun _ _ _ => rfl, fun p hp => Part.same_withRegs _ (h p hp)⟩

/-! ## The ring (R19) -/

/-- The keys outside the ring block. -/
def ringKeeps (k : Nat) : Bool := decide (k < 0x300E0000) || decide (0x300F0000 ≤ k)

/-- The device with its ring block at reset. -/
def Dev.ringBlockReset (d : Dev) : Dev := { d with drg := {}, regs := d.regs.filter fun r => ringKeeps r.1 }

theorem Dev.ringReset_eq (d : Dev) : d.ringReset = d.ringOut.ringBlockReset := by delta Dev.ringReset; rfl

theorem Dev.word_ringBlockReset (d : Dev) (k : Nat) : d.ringBlockReset.word k = (d.keepRegs ringKeeps).word k := rfl

theorem Part.same_ringBlockReset {d t : Dev} {p : Part} (hp : p ≠ .drg) (h : p.same d t) : p.same d t.ringBlockReset := by
  cases p
  case drg => exact absurd rfl hp
  all_goals exact h

/-- The fields that the bypass writes as it closes. -/
def ringOutFields : List RF := [Reg.DRG_STAT_ADMITTED, Reg.DRG_STAT_ACTING, Reg.RT_STAT_STATE, Reg.RT_STAT_MASTER]

theorem Dev.ringOut_keeps (d : Dev) : d.keeps d.ringOut ringOutFields [.drg] := by
  unfold Dev.ringOut Dev.updDrg
  refine Dev.keeps_s (by simp [ringOutFields]) (by decide) (by decide) (Dev.keeps_s (by simp [ringOutFields]) (by decide) (by decide) ?_)
  refine Dev.keeps_withDrg (by simp) ?_
  exact Dev.keeps_s (by simp [ringOutFields]) (by decide) (by decide)
    (Dev.keeps_s (by simp [ringOutFields]) (by decide) (by decide) (d.keeps_refl _ _))

theorem Dev.ringOut_state (d : Dev) : d.ringOut.g Reg.RT_STAT_STATE = 0 := by
  unfold Dev.ringOut
  rw [Dev.g_s_beside _ _ _ _ (by decide) (by decide) (by decide) (by decide), Dev.g_s_same _ _ _ (by decide) (by decide)]
  rfl

theorem Dev.word_ringOut (d : Dev) {k : Nat} (hk : ringKeeps k = true) (hr : k ≠ Reg.RT_STAT) : d.ringOut.word k = d.word k := by
  refine Dev.word_of_keeps d.ringOut_keeps ?_
  have hd : k ≠ Reg.DRG_STAT := by
    rintro rfl
    revert hk
    decide
  simpa [ringOutFields, Reg.DRG_STAT_ADMITTED, Reg.DRG_STAT_ACTING, Reg.RT_STAT_STATE, Reg.RT_STAT_MASTER] using ⟨hd, hr⟩

theorem Dev.ringReset_part (d : Dev) {p : Part} (hp : p ≠ .drg) : p.same d d.ringReset := by
  rw [Dev.ringReset_eq]
  exact Part.same_ringBlockReset hp (d.ringOut_keeps.2 p (by simpa using hp))

theorem Dev.word_ringReset (d : Dev) {k : Nat} (hk : ringKeeps k = true) (hr : k ≠ Reg.RT_STAT) : d.ringReset.word k = d.word k := by
  rw [Dev.ringReset_eq, Dev.word_ringBlockReset, Dev.word_keepRegs_same _ hk, Dev.word_ringOut _ hk hr]

theorem Dev.word_ringReset_block (d : Dev) {k : Nat} (hk : ringKeeps k = false) : d.ringReset.word k = State.reset.dev.word k := by
  rw [Dev.ringReset_eq, Dev.word_ringBlockReset, Dev.word_keepRegs_reset _ hk]

theorem Dev.ringReset_state (d : Dev) : d.ringReset.g Reg.RT_STAT_STATE = 0 := by
  rw [Dev.g, Dev.ringReset_eq, Dev.word_ringBlockReset, Dev.word_keepRegs_same _ (by decide)]
  exact d.ringOut_state

/-! ## A host port (R27) -/

theorem Dev.inc_keeps (d : Dev) (f : RF) (h : f.lo ≤ f.hi) (h31 : f.hi ≤ 31) {fs : List RF} {ps : List Part} (hf : f ∈ fs) :
    d.keeps (d.inc f) fs ps := Dev.keeps_s hf h h31 (d.keeps_refl _ _)

theorem Dev.inc_hport (d : Dev) (f : RF) (p : Nat) : (d.inc f).hport p = d.hport p := rfl

/-- The device without the commands of a port. -/
def Dev.portDrops (d : Dev) (p : Nat) : Dev :=
  Dev.updPort { d with hst := { d.hst with
    fwd := d.hst.fwd.filter (fun f => f.port != p)
    tunes := d.hst.tunes.filter (fun t => t.port != p)
    ceWait := d.hst.ceWait.filter (fun w => w.1 != p)
    safWait := d.hst.safWait.filter (fun w => w.1 != p) } } p (fun q => { linkUp := q.linkUp, oseq := q.oseq, evtDest := q.evtDest })

theorem Dev.portReset_eq (d : Dev) (p : Nat) : d.portReset p = (d.inc (Reg.PORT_STAT_RST_CNT p)).portDrops p := by
  unfold Dev.portReset Dev.portDrops
  dsimp only

theorem Dev.portDrops_keeps (d : Dev) (p : Nat) (fs : List RF) : d.keeps (d.portDrops p) fs [.hst] :=
  Dev.keeps_withHst (by simp) (Dev.keeps_withHst (by simp) (d.keeps_refl _ _))

theorem Dev.portDrops_same (d : Dev) {p : Nat} (hp : p < 3) : ((d.portDrops p).hport p).inq = [] ∧ ((d.portDrops p).hport p).outq = [] ∧
    ((d.portDrops p).hport p).pend = [] := by
  unfold Dev.portDrops
  rw [Dev.hport_updPort_same _ _ _ hp]
  exact ⟨rfl, rfl, rfl⟩

theorem Dev.portDrops_other (d : Dev) {p q : Nat} (hq : q ≠ p) : (d.portDrops p).hport q = d.hport q :=
  (Dev.hport_updPort_other _ _ hq).trans rfl

theorem Dev.portReset_keeps (d : Dev) (p : Nat) : d.keeps (d.portReset p) [Reg.PORT_STAT_RST_CNT p] [.hst] := by
  rw [Dev.portReset_eq]
  exact Dev.keeps_trans (Dev.inc_keeps d _ (Nat.le_of_ble_eq_true rfl) (Nat.le_of_ble_eq_true rfl) List.mem_cons_self)
    (Dev.portDrops_keeps _ _ _)

/-- A counter after one more: it stays at its greatest value. -/
theorem Dev.g_inc (d : Dev) (f : RF) (h : f.lo ≤ f.hi) (h31 : f.hi ≤ 31) : (d.inc f).g f = satInc (2 ^ (f.hi - f.lo + 1) - 1) (d.g f) := by
  have hpos : 0 < 2 ^ (f.hi - f.lo + 1) := Nat.two_pow_pos _
  have hlt : d.g f < 2 ^ (f.hi - f.lo + 1) := Nat.mod_lt _ hpos
  rw [Dev.inc, Dev.g_s_same _ _ _ h h31, Nat.mod_eq_of_lt]
  unfold satInc
  split <;> omega

theorem Dev.portReset_count (d : Dev) (p : Nat) :
    (d.portReset p).g (Reg.PORT_STAT_RST_CNT p) = satInc 255 (d.g (Reg.PORT_STAT_RST_CNT p)) := by
  have hle : (Reg.PORT_STAT_RST_CNT p).lo ≤ (Reg.PORT_STAT_RST_CNT p).hi := Nat.le_of_ble_eq_true rfl
  rw [Dev.portReset_eq, (Dev.portDrops_keeps _ _ []).1 _ hle (by simp), Dev.g_inc _ _ hle (Nat.le_of_ble_eq_true rfl)]
  rfl

/-! ## The supervisor (R25, R445) -/

/-- What holds of each place once its step is done, and is left by the others, holds of all at the end. -/
theorem Dev.each_all {α : Type} {Q : α → Dev → Prop} {f : Dev → α → Dev} (l : List α) (hdone : ∀ x, ∀ a ∈ l, Q a (f x a))
    (hkept : ∀ x, ∀ a ∈ l, ∀ b, Q b x → Q b (f x a)) (d : Dev) : ∀ a ∈ l, Q a (d.each l f) := by
  unfold Dev.each
  have hlater (b : α) : ∀ m ⊆ l, ∀ x, Q b x → Q b (m.foldl f x) := fun m => by
    induction m with
    | nil => exact fun _ _ h => h
    | cons a m ih =>
      intro hm x h
      obtain ⟨ha, hm⟩ := List.cons_subset.1 hm
      exact ih hm _ (hkept x a ha b h)
  intro b hb
  obtain ⟨p, q, rfl⟩ := List.append_of_mem hb
  rw [List.foldl_append]
  exact hlater b q (by simp) _ (hdone _ b hb)

/-- What a port does as the supervisor goes: it answers what is outstanding and drops what came in. -/
def Dev.portAbsent (d : Dev) (p : Nat) : Dev :=
  (d.each (d.hport p).pend (fun d t => d.reply p t.1 t.2 Err.HST_SV_RESTART [])).updPort p fun q => { q with inq := [] }

/-- The device without the commands that the host block holds for the supervisor. -/
def Dev.hostWaits (d : Dev) : Dev := { d with hst := { d.hst with fwd := [], tunes := [], ringIn := [], ceWait := none, safWait := none } }

theorem Dev.hostWaits_keeps (d : Dev) (fs : List RF) : d.keeps d.hostWaits fs [.hst] := Dev.keeps_withHst (by simp) (d.keeps_refl _ _)

theorem Dev.hostWaits_hport (d : Dev) (p : Nat) : d.hostWaits.hport p = d.hport p := rfl

theorem Dev.hostAbsent_eq (d : Dev) : d.hostAbsent = ((d.s Reg.HST_CTL_SV_READY 0).each (List.range 3) Dev.portAbsent).hostWaits := by
  unfold Dev.hostAbsent Dev.hostWaits Dev.portAbsent
  dsimp only

/-- The events that ports lose. -/
def lostEvents : List RF := (List.range 3).map Reg.PORT_CNT_EVT_LOST

theorem Dev.updPort_keeps (d : Dev) (p : Nat) (f : HostPort → HostPort) (fs : List RF) : d.keeps (d.updPort p f) fs [.hst] :=
  Dev.keeps_withHst (by simp) (d.keeps_refl _ _)

theorem Dev.portOut_keeps (d : Dev) {p : Nat} (hp : p < 3) (kind node tag code addr : Nat) (data : List Nat) :
    d.keeps (d.portOut p kind node tag code addr data) lostEvents [.hst] := by
  unfold Dev.portOut
  split
  · exact d.updPort_keeps _ _ _
  · exact Dev.inc_keeps _ _ (Nat.le_of_ble_eq_true rfl) (Nat.le_of_ble_eq_true rfl) (List.mem_map_of_mem (List.mem_range.2 hp))

theorem Dev.reply_keeps (d : Dev) {p : Nat} (hp : p < 3) (tag addr code : Nat) (data : List Nat) :
    d.keeps (d.reply p tag addr code data) lostEvents [.hst] := by
  unfold Dev.reply
  rw [if_pos hp]
  exact Dev.keeps_trans (d.updPort_keeps _ _ _) (Dev.portOut_keeps _ hp _ _ _ _ _ _)

theorem Dev.portAbsent_keeps (d : Dev) {p : Nat} (hp : p < 3) : d.keeps (d.portAbsent p) lostEvents [.hst] := by
  refine Dev.keeps_withHst (by simp) (Dev.keeps_each _ _ (fun x t _ => x.reply_keeps hp _ _ _ _) (d.keeps_refl _ _))

/-- A port changed in other things than what came in. -/
theorem Dev.updPort_inq (d : Dev) {p : Nat} (hp : p < 3) (f : HostPort → HostPort) (hf : ∀ h, (f h).inq = h.inq) (q : Nat) :
    ((d.updPort p f).hport q).inq = (d.hport q).inq := by
  by_cases he : q = p
  · rw [he, Dev.hport_updPort_same _ _ _ hp, hf]
  · rw [Dev.hport_updPort_other _ _ he]

theorem Dev.portOut_inq (d : Dev) {p : Nat} (hp : p < 3) (kind node tag code addr : Nat) (data : List Nat) (q : Nat) :
    ((d.portOut p kind node tag code addr data).hport q).inq = (d.hport q).inq := by
  unfold Dev.portOut
  split
  · refine d.updPort_inq hp _ ?_ q
    exact fun _ => rfl
  · rfl

/-- An answer leaves what came in on the ports. -/
theorem Dev.reply_inq (d : Dev) {p : Nat} (hp : p < 3) (tag addr code : Nat) (data : List Nat) (q : Nat) :
    ((d.reply p tag addr code data).hport q).inq = (d.hport q).inq := by
  unfold Dev.reply
  rw [if_pos hp]
  refine (Dev.portOut_inq _ hp _ _ _ _ _ _ q).trans (d.updPort_inq hp _ ?_ q)
  exact fun _ => rfl

theorem Dev.portAbsent_inq (d : Dev) {p : Nat} (hp : p < 3) (q : Nat) (h : q = p ∨ (d.hport q).inq = []) :
    ((d.portAbsent p).hport q).inq = [] := by
  unfold Dev.portAbsent
  by_cases he : q = p
  · rw [he, Dev.hport_updPort_same _ _ _ hp]
  · rw [Dev.hport_updPort_other _ _ he]
    have hq := h.resolve_left he
    generalize (d.hport p).pend = l
    unfold Dev.each
    induction l generalizing d with
    | nil => exact hq
    | cons t l ih => exact ih _ (.inr ((d.reply_inq hp _ _ _ _ q).trans hq)) ((d.reply_inq hp _ _ _ _ q).trans hq)

/-- What the host block changes as the supervisor goes. -/
def absentFields : List RF := Reg.HST_CTL_SV_READY :: lostEvents

theorem Dev.svReady_off (d : Dev) : d.hostAbsent.on Reg.HST_CTL_SV_READY = false := by
  have hports : (d.s Reg.HST_CTL_SV_READY 0).keeps _ lostEvents [.hst] :=
    Dev.keeps_each (List.range 3) Dev.portAbsent (fun x p hp => x.portAbsent_keeps (List.mem_range.1 hp)) (Dev.keeps_refl _ _ _)
  have hkeys : ∀ f ∈ lostEvents, Reg.HST_CTL_SV_READY.key ≠ f.key := by decide
  have hoff : d.hostAbsent.g Reg.HST_CTL_SV_READY = 0 := by
    rw [Dev.hostAbsent_eq, (Dev.hostWaits_keeps _ []).1 _ (by decide) (by simp), hports.1 _ (by decide) fun f hf => .inl (hkeys f hf),
      Dev.g_s_same _ _ _ (by decide) (by decide)]
    rfl
  rw [Dev.on, hoff]
  rfl

theorem Dev.hostAbsent_keeps (d : Dev) : d.keeps d.hostAbsent absentFields [.hst] := by
  rw [Dev.hostAbsent_eq]
  refine Dev.keeps_trans (Dev.keeps_each _ _ (fun x p hp => ?_) ?_) (Dev.hostWaits_keeps _ _)
  · exact Dev.keeps_mono (x.portAbsent_keeps (List.mem_range.1 hp)) (List.subset_cons_self _ _) (List.Subset.refl _)
  · exact Dev.keeps_s List.mem_cons_self (by decide) (by decide) (d.keeps_refl _ _)

theorem Dev.hostAbsent_inq (d : Dev) {p : Nat} (hp : p < 3) : (d.hostAbsent.hport p).inq = [] := by
  rw [Dev.hostAbsent_eq, Dev.hostWaits_hport]
  refine Dev.each_all (Q := fun q x => q < 3 → (x.hport q).inq = []) (List.range 3) (fun x a _ ha => ?_) 
    (fun x a ha b hb hlt => ?_) _ p (List.mem_range.2 hp) hp
  · exact x.portAbsent_inq ha a (.inl rfl)
  · exact x.portAbsent_inq (List.mem_range.1 ha) b (.inr (hb hlt))

/-- The absence of the supervisor begins, or goes on. -/
def Dev.svBegins (d : Dev) (cause : Nat) : Dev :=
  if d.sys.absentFrom.isSome then { d with sys := { d.sys with absentCause := cause } }
  else { d.s Reg.SYS_SVH_STAT_EXPIRED 0 with sys := { d.sys with absentFrom := some d.tick, absentCause := cause, svhDone := false } }

theorem Dev.svReset_eq (d : Dev) (b : Nat) : d.svReset (some b) =
    (d.setWord Reg.SYS_RST_CAUSE (d.word Reg.SYS_RST_CAUSE ||| 2 ^ b)).hostAbsent.safFlush.svBegins b := by
  unfold Dev.svReset Dev.svBegins
  dsimp only [Option.getD_some]

theorem Dev.svBegins_keeps (d : Dev) (cause : Nat) : d.keeps (d.svBegins cause) [Reg.SYS_SVH_STAT_EXPIRED] [.sys] := by
  unfold Dev.svBegins
  split
  · exact Dev.keeps_withSys (by simp) (d.keeps_refl _ _)
  · exact Dev.keeps_withSys (by simp) (Dev.keeps_s (by simp) (by decide) (by decide) (d.keeps_refl _ _))

/-- After the ports, the island's FIFO and the absence. -/
theorem Dev.svGoes_keeps (d : Dev) (cause : Nat) : d.keeps (d.safFlush.svBegins cause) [Reg.SYS_SVH_STAT_EXPIRED] [.saf, .sys] :=
  Dev.keeps_trans (Dev.keeps_withSaf (by simp) (d.keeps_refl _ _)) (Dev.keeps_mono (Dev.svBegins_keeps _ _) (List.Subset.refl _) (by simp))

theorem Dev.svGoes_saf (d : Dev) (cause : Nat) : (d.safFlush.svBegins cause).saf = { d.saf with words := [], ovr := false } :=
  (Dev.svBegins_keeps d.safFlush cause).2 .saf (by decide)

theorem Dev.svBegins_absent (d : Dev) (cause : Nat) : (d.svBegins cause).sys.absentFrom.isSome = true := by
  unfold Dev.svBegins
  split
  · next h => exact h
  · rfl

/-! ## The island (R24) -/

/-- What the island's outputs reach. -/
def islandParts : List Part := .saf :: .free :: driveParts

theorem Dev.Forces.island {d t : Dev} (h : d.Forces t) : Within driveKey islandParts False d t :=
  h.mono (fun _ => id) (List.Subset.trans (List.subset_cons_self _ _) (List.subset_cons_self _ _)) id

/-- The island's pairs and GDEN replaced, and nothing else of it. -/
def Dev.redrives (d t : Dev) : Prop := ∃ l g, t.saf = { d.saf with pairs := l, gd := g }

theorem Dev.redrives_refl (d : Dev) : d.redrives d := ⟨_, _, rfl⟩

theorem Dev.redrives_trans {d t u : Dev} (h : d.redrives t) (g : t.redrives u) : d.redrives u := by
  obtain ⟨l, n, h⟩ := h
  obtain ⟨m, k, g⟩ := g
  exact ⟨m, k, by rw [g, h]⟩

theorem Dev.Forces.redrives {d t : Dev} (h : d.Forces t) : d.redrives t := ⟨_, _, h.part .saf (by decide)⟩

theorem Dev.pairStep_spec (d : Dev) (i : Nat) : Within driveKey islandParts False d (d.pairStep i) ∧ d.redrives (d.pairStep i) := by
  have hsaf {x : Dev} (h : Within driveKey islandParts False d x) (f : SafPair → SafPair) : Within driveKey islandParts False d (x.updPair i f) :=
    h.withSaf _ (by decide)
  unfold Dev.pairStep
  dsimp only
  split
  · exact ⟨Within.refl d, d.redrives_refl⟩
  · split
    · split
      · exact ⟨hsaf (Within.refl d) _, _, _, rfl⟩
      · exact ⟨hsaf ((Within.refl d).tookFree (by decide)) _, _, _, rfl⟩
    · exact ⟨hsaf (Within.refl d) _, _, _, rfl⟩

/-- A relation that each step keeps holds over them all. -/
theorem Dev.each_rel {α : Type} {R : Dev → Dev → Prop} (hrefl : ∀ x, R x x) (htrans : ∀ {x y z}, R x y → R y z → R x z) (l : List α)
    (f : Dev → α → Dev) (hf : ∀ x a, R x (f x a)) (d : Dev) : R d (d.each l f) := by
  unfold Dev.each
  induction l generalizing d with
  | nil => exact hrefl d
  | cons a m ih => exact htrans (hf d a) (ih _)

/-- The outputs follow the island's decision: beside them the drive blocks may change. -/
theorem Dev.safDrive_spec (d : Dev) : Within driveKey islandParts False d d.safDrive ∧ d.redrives d.safDrive := by
  have hpairs : Within driveKey islandParts False d (d.each (List.range 6) Dev.pairStep) ∧ d.redrives (d.each (List.range 6) Dev.pairStep) :=
    ⟨(Within.refl d).each _ _ fun x i _ => (x.pairStep_spec i).1,
      Dev.each_rel Dev.redrives_refl Dev.redrives_trans _ _ (fun x i => (x.pairStep_spec i).2) d⟩
  unfold Dev.safDrive
  generalize d.each (List.range 6) Dev.pairStep = x at hpairs
  obtain ⟨hwithin, hdrives⟩ := hpairs
  have hgated : x.redrives (x.updSaf fun s => { s with gd := x.gdNow }) := ⟨_, _, rfl⟩
  have hforces : (x.updSaf fun s => { s with gd := x.gdNow }).Forces _ := (Within.refl _).each (List.range 6) (fun d n =>
      let high := x.gdNow.testBit n && x.gdNow.testBit (6 + n)
      let has := d.pwm.conds.contains ⟨n, 4, 0⟩
      if high && has then d.forceOffCh n 4 0 else if !high && !has then d.forceOn n 4 0 else d) fun y n _ =>
    Within.ite (fun _ => y.forceOffCh_forces n 4 0) fun _ => Within.ite (fun _ => y.forceOn_forces n 4 0) fun _ => Within.refl y
  exact ⟨(hwithin.withSaf _ (by decide)).trans hforces.island, Dev.redrives_trans (Dev.redrives_trans hdrives hgated) hforces.redrives⟩

/-- The registers outside the island's block. -/
def islandKeeps (k : Nat) : Bool := !safKey k

/-- What stays of the island over its reset: V24_SI, the FIFO, the messages and the lock. -/
def Saf.restarted (s : Saf) : Saf :=
  { v24 := s.v24, words := s.words, msgs := s.msgs, ovr := s.ovr, logIdx := s.logIdx,
    lockAt := if s.lockAt.isSome then some 0 else none, fails := if s.lockAt.isSome then 5 else 0 }

theorem Dev.islandReset_eq (d : Dev) : d.islandReset = ((d.keepRegs islandKeeps).updSaf Saf.restarted).safDrive := by
  delta Dev.islandReset
  rfl

theorem Dev.islandReset_spec (d : Dev) : d.islandReset.saf.st = 0 ∧ d.islandReset.saf.cfg = [] ∧
    (∀ k, 0x30200000 ≤ k → k < 0x30210000 → d.islandReset.word k = State.reset.dev.word k) ∧
    d.islandReset.ce = d.ce ∧ d.islandReset.tb = d.tb ∧ ∀ a, d.islandReset.byte a = d.byte a := by
  obtain ⟨hwithin, l, g, hsaf⟩ := ((d.keepRegs islandKeeps).updSaf Saf.restarted).safDrive_spec
  rw [← Dev.islandReset_eq] at hwithin hsaf
  refine ⟨by rw [hsaf]; rfl, by rw [hsaf]; rfl, fun k hlo hhi => ?_, hwithin.part .ce (by decide), hwithin.part .tb (by decide),
    hwithin.part .mem (by decide)⟩
  have hkey : ¬ driveKey k := fun h => absurd h.2 (by omega)
  have hkeep : islandKeeps k = false := by simp [islandKeeps, safKey, hlo, hhi]
  exact (hwithin.word k hkey).trans (d.word_keepRegs_reset hkeep)

end Sys2Proof.Machine
end

section
/-! PROOFS. What each request of a domain reset does. -/

namespace Sys2Proof.Machine

/-- A request with another key than 0xA5 is ignored. -/
theorem exec_keyed_ignored {key : Nat} (hk : key ≠ 0xA5) {i : Instr} {s : State} {f : Dev → Dev}
    (he : exec i s = s.run fun d => if key = 0xA5 then f d else d) : exec i s = .next s :=
  he.trans (State.run_self (f := fun d => if key = 0xA5 then f d else d) (if_neg hk))

/-- The reset of the supervisor (R25, R445): a reset of its ports and of the island's FIFO, and its absence. -/
theorem supervisorResets {s : State} (hl : s.dev.live = true) : Does s (.supervisorResetRequest 0xA5) (fun t =>
    t.on Reg.HST_CTL_SV_READY = false ∧ t.word Reg.SYS_RST_CAUSE = s.dev.word Reg.SYS_RST_CAUSE ||| 128 ∧
    t.sys.absentFrom.isSome = true ∧ (∀ p < 3, (t.hport p).inq = []) ∧ t.ce = s.dev.ce ∧ t.pwm = s.dev.pwm ∧ t.tb = s.dev.tb ∧
    t.aux = s.dev.aux ∧ t.dcl = s.dev.dcl ∧ t.mea = s.dev.mea ∧ t.saf.cores = s.dev.saf.cores ∧ t.saf.gd = s.dev.saf.gd ∧
    t.saf.words = [] ∧ ∀ a, t.byte a = s.dev.byte a) := by
  refine State.does_run (f := fun d => if 0xA5 = 0xA5 then d.svReset (some 7) else d) rfl hl ?_
  rw [if_pos rfl, Dev.svReset_eq]
  generalize hd : s.dev.setWord Reg.SYS_RST_CAUSE (s.dev.word Reg.SYS_RST_CAUSE ||| 2 ^ 7) = d
  have hset : s.dev.keeps d [RF.whole Reg.SYS_RST_CAUSE] [] := hd ▸ Dev.keeps_setWord (by simp) (s.dev.keeps_refl _ _)
  have hcause : d.word Reg.SYS_RST_CAUSE = s.dev.word Reg.SYS_RST_CAUSE ||| 128 := by
    rw [← hd, Dev.word_setWord_same]
    exact Nat.mod_eq_of_lt (s.dev.causes_lt (by decide))
  have habsent := d.hostAbsent_keeps
  have hready := d.svReady_off
  have hinq {p : Nat} (hp : p < 3) := d.hostAbsent_inq hp
  generalize d.hostAbsent = x at habsent hready hinq
  have hgoes := x.svGoes_keeps 7
  have hsaf := x.svGoes_saf 7
  have habs := x.safFlush.svBegins_absent 7
  generalize x.safFlush.svBegins 7 = t at hgoes hsaf habs
  have hpart {p : Part} (hp : p ∉ [Part.hst, .saf, .sys]) : p.same s.dev t := by
    simp only [List.mem_cons, List.not_mem_nil, or_false, not_or] at hp
    obtain ⟨hhst, hsaf, hsys⟩ := hp
    exact Part.same_trans (hset.2 p (by simp)) (Part.same_trans (habsent.2 p (by simpa using hhst)) (hgoes.2 p (by simp [hsaf, hsys])))
  have hkept : x.saf = s.dev.saf := Part.same_trans (hset.2 .saf (by decide)) (habsent.2 .saf (by decide))
  rw [hkept] at hsaf
  refine ⟨?_, ?_, habs, fun p hp => ?_, hpart (p := .ce) (by decide), hpart (p := .pwm) (by decide),
    hpart (p := .tb) (by decide), hpart (p := .aux) (by decide), hpart (p := .dcl) (by decide), hpart (p := .mea) (by decide),
    by rw [hsaf], by rw [hsaf], by rw [hsaf], hpart (p := .mem) (by decide)⟩
  · rw [← hready, Dev.on, hgoes.1 Reg.HST_CTL_SV_READY (by decide) (by
      simp [RF.apart, Reg.HST_CTL_SV_READY, Reg.SYS_SVH_STAT_EXPIRED, Reg.HST_CTL, Reg.SYS_SVH_STAT])]
    rfl
  · have hkeys : ∀ f ∈ absentFields, Reg.SYS_RST_CAUSE ≠ f.key := by decide
    rw [Dev.word_of_keeps hgoes (k := Reg.SYS_RST_CAUSE) (by simp [Reg.SYS_RST_CAUSE, Reg.SYS_SVH_STAT_EXPIRED, Reg.SYS_SVH_STAT]),
      Dev.word_of_keeps habsent hkeys, hcause]
  · have hhst : t.hst = x.hst := hgoes.2 .hst (by decide)
    rw [← hinq hp, Dev.hport, hhst]
    rfl

theorem ringResets {s : State} (hl : s.dev.live = true) : Does s (.ringResetRequest 0xA5) (fun t => t.drg = {} ∧
    (∀ k, 0x300E0000 ≤ k → k < 0x300F0000 → t.word k = State.reset.dev.word k) ∧ s.dev.keeps { t with regs := s.dev.regs } [] [.drg] ∧
    (∀ k, k < 0x300E0000 ∨ 0x300F0000 ≤ k → k ≠ Reg.RT_STAT → t.word k = s.dev.word k) ∧ t.g Reg.RT_STAT_STATE = 0) := by
  refine State.does_run (f := fun d => if 0xA5 = 0xA5 then d.ringReset else d) rfl hl ?_
  rw [if_pos rfl]
  refine ⟨by rw [Dev.ringReset_eq]; rfl, fun k hlo hhi => ?_, Dev.keeps_withRegs fun p hp => ?_, fun k hk hr => ?_, s.dev.ringReset_state⟩
  · exact s.dev.word_ringReset_block (by simp [ringKeeps]; omega)
  · exact s.dev.ringReset_part (by simpa using hp)
  · exact s.dev.word_ringReset (by simpa [ringKeeps] using hk) hr

theorem portResets {s : State} (hl : s.dev.live = true) {p : Nat} (hp : p < 3) : Does s (.hostPortResetRequest p) (fun t =>
    (t.hport p).inq = [] ∧ (t.hport p).outq = [] ∧ (t.hport p).pend = [] ∧
    t.g (Reg.PORT_STAT_RST_CNT p) = satInc 255 (s.dev.g (Reg.PORT_STAT_RST_CNT p)) ∧ (∀ q, q ≠ p → t.hport q = s.dev.hport q) ∧
    t.img.session = s.dev.img.session ∧ s.dev.keeps t [Reg.PORT_STAT_RST_CNT p] [.hst]) := by
  refine State.does_run (f := fun d => if p < 3 then d.portReset p else d) rfl hl ?_
  rw [if_pos hp]
  have hkeeps := s.dev.portReset_keeps p
  have hsame := (s.dev.inc (Reg.PORT_STAT_RST_CNT p)).portDrops_same hp
  rw [← Dev.portReset_eq] at hsame
  obtain ⟨hinq, houtq, hpend⟩ := hsame
  refine ⟨hinq, houtq, hpend, s.dev.portReset_count p, fun q hq => ?_, ?_, hkeeps⟩
  · rw [Dev.portReset_eq, Dev.portDrops_other _ hq, Dev.inc_hport]
  · exact congrArg Img.session (hkeeps.2 .img (by decide))

theorem islandRefuses {s : State} (hl : s.dev.live = true) (hm : s.dev.islandMayReset = false) : Does s (.islandResetRequest 0xA5) (fun t =>
    t.raised = s.dev.plusRecord Err.SYS_RST_REFUSED [0x14] ∧ s.dev.keeps t [] [.raised]) := by
  refine State.does_run (f := fun d => if 0xA5 = 0xA5 then d.islandRequest else d) rfl hl ?_
  rw [if_pos rfl, Dev.islandRequest, hm]
  exact s.dev.raise_spec _ _

theorem islandResets {s : State} (hl : s.dev.live = true) (hm : s.dev.islandMayReset = true) : Does s (.islandResetRequest 0xA5) (fun t =>
    t.saf.st = 0 ∧ t.saf.cfg = [] ∧ (∀ k, 0x30200000 ≤ k → k < 0x30210000 → t.word k = State.reset.dev.word k) ∧ t.ce = s.dev.ce ∧
    t.tb = s.dev.tb ∧ ∀ a, t.byte a = s.dev.byte a) := by
  refine State.does_run (f := fun d => if 0xA5 = 0xA5 then d.islandRequest else d) rfl hl ?_
  rw [if_pos rfl, Dev.islandRequest, if_pos hm]
  exact s.dev.islandReset_spec

end Sys2Proof.Machine
end

section
open Sys2Proof Sys2Proof.Machine

/-- Settles O8: each domain reset is a reset of its own block. -/
theorem domainResets : Obligations.DomainResets := by
  intro s hl
  refine ⟨supervisorResets hl, ringResets hl, fun p hp => portResets hl hp, islandRefuses hl, islandResets hl, fun key hk c hc => ?_⟩
  simp only [List.mem_cons, List.not_mem_nil, or_false] at hc
  rcases hc with rfl | rfl | rfl | rfl
  · exact exec_keyed_ignored (f := fun d => d.warmReset 3) hk rfl
  · exact exec_keyed_ignored (f := fun d => d.svReset (some 7)) hk rfl
  · exact exec_keyed_ignored (f := fun d => d.ringReset) hk rfl
  · exact exec_keyed_ignored (f := fun d => d.islandRequest) hk rfl

end

section
/-! PROOFS. The loss of the die link stops the auxiliary bridges, the commutators and the step axes (R17): how far the stop reaches. -/

namespace Sys2Proof.Machine

/-- The parts that a stop of the auxiliary block reaches. -/
def stopParts : List Part := [.pwm, .aux, .hst, .raised]

theorem stopParts_pwm : Part.pwm ∈ stopParts := by decide
theorem stopParts_aux : Part.aux ∈ stopParts := by decide
theorem stopParts_hst : Part.hst ∈ stopParts := by decide
theorem stopParts_raised : Part.raised ∈ stopParts := by decide

/-- A command of the stop: it leaves AUX_STAT, and the parts that the auxiliary block does not drive. -/
abbrev Dev.Stops (d t : Dev) : Prop := Dev.Within (· ≠ Reg.AUX_STAT) stopParts False d t

namespace Dev.Stops

variable {d t : Dev}

theorem cmuStat (h : d.Stops t) {f : RF} {k : Nat} (v : Nat) (hf : f.key = Reg.CMU_STAT k) : d.Stops (t.s f v) :=
  Within.s h f v (by rw [hf]; unfold Reg.CMU_STAT Reg.AUX_STAT; omega)

theorem stpStat (h : d.Stops t) {f : RF} {n : Nat} (v : Nat) (hf : f.key = Reg.STP_STAT n) : d.Stops (t.s f v) :=
  Within.s h f v (by rw [hf]; unfold Reg.STP_STAT Reg.AUX_STAT; omega)

theorem legStat (h : d.Stops t) {f : RF} {n : Nat} (v : Nat) (hf : f.key = Reg.PWM_LEG_STAT n) : d.Stops (t.s f v) :=
  Within.s h f v (by rw [hf]; unfold Reg.PWM_LEG_STAT Reg.AUX_STAT; omega)

theorem hbStat (h : d.Stops t) {f : RF} {n : Nat} (v : Nat) (hf : f.key = Reg.HB_STAT n) : d.Stops (t.s f v) :=
  Within.s h f v (by rw [hf]; unfold Reg.HB_STAT Reg.AUX_STAT; omega)

theorem assistCfg (h : d.Stops t) {f : RF} {n : Nat} (v : Nat) (hf : f.key = Reg.ASSIST_CFG n) : d.Stops (t.s f v) :=
  Within.s h f v (by rw [hf]; unfold Reg.ASSIST_CFG Reg.AUX_STAT; omega)

theorem raised (h : d.Stops t) (code : Nat) (ctx : List Nat) : d.Stops (t.raise code ctx) := Within.raise h code ctx stopParts_raised

theorem updAxis (h : d.Stops t) (n : Nat) (f : Axis → Axis) : d.Stops (t.updAxis n f) := Within.withAux h _ stopParts_aux

theorem updHb (h : d.Stops t) (n : Nat) (f : Hb → Hb) : d.Stops (t.updHb n f) := Within.withAux h _ stopParts_aux

end Dev.Stops

/-! ## The legs and bridges that follow -/

theorem Dev.phaseOut_stops (d : Dev) (n p : Nat) : d.Stops (d.phaseOut n p) :=
  ((Within.refl d).updLeg _ _ _ stopParts_pwm).updLeg _ _ _ stopParts_pwm

theorem Dev.phaseApply_stops (d : Dev) (n p : Nat) : d.Stops (d.phaseApply n p) := by
  have hphase (f : Phase → Phase) : d.Stops ((d.updPhase n p f).phaseOut n p) :=
    ((Within.refl d).updPhase _ _ _ stopParts_pwm).trans (Dev.phaseOut_stops _ n p)
  unfold Dev.phaseApply
  refine Within.ite (fun _ => Within.refl d) fun _ => Within.ite (fun _ => hphase _) fun _ => ?_
  split
  · refine (Within.refl d).when _ _ fun _ => Dev.Stops.raised ?_ _ _
    exact Dev.Stops.legStat (Within.refl d) _ rfl
  · exact hphase _

theorem Dev.legApply_stops (d : Dev) (n m : Nat) : d.Stops (d.legApply n m) := by
  unfold Dev.legApply
  refine Within.when ((Within.refl d).updLeg _ _ _ stopParts_pwm) _ _ fun _ => Dev.Stops.raised ?_ _ _
  exact Dev.Stops.legStat (Within.refl _) _ rfl

theorem Dev.legsApply_stops (d : Dev) (n : Nat) : d.Stops (d.legsApply n) := by
  refine (Within.refl d).each _ _ fun x m _ => ?_
  refine Within.ite (fun _ => Within.refl x) fun _ => Within.ite (fun _ => ?_) fun _ => x.legApply_stops n m
  exact Within.ite (fun _ => x.phaseApply_stops n _) fun _ => Within.refl x

theorem Dev.hbApply_stops (d : Dev) (n : Nat) : d.Stops (d.hbApply n) := by
  unfold Dev.hbApply
  exact Dev.Stops.hbStat (Dev.Stops.hbStat (Dev.Stops.updHb (Within.refl d) _ _) _ rfl) _ rfl

theorem Dev.hbsApply_stops (d : Dev) : d.Stops d.hbsApply := (Within.refl d).each _ _ fun x n _ => x.hbApply_stops n

/-! ## The commutators -/

theorem Dev.cmuMasks_stops (d : Dev) (k mask : Nat) : d.Stops (d.cmuMasks k mask) := by
  refine Within.each ((Within.refl d).withPwm _ stopParts_pwm False.elim) _ _ fun x n _ => ?_
  refine Within.ite (fun _ => ?_) fun _ => Within.refl x
  refine ((Within.refl x).setWord _ _ ?_).trans (Dev.legsApply_stops _ n)
  unfold Reg.PWM_MASK_ACT Reg.AUX_STAT
  omega

theorem Dev.cmuApply_stops (d : Dev) (k : Nat) : d.Stops (d.cmuApply k) :=
  Within.ite (fun _ => Within.ite (fun _ => Within.refl d) fun _ => d.cmuMasks_stops k _) fun _ =>
    (Within.refl d).each _ _ fun x n _ => x.hbApply_stops n

theorem Dev.withdraw_stops (d : Dev) (f unit : Nat) : d.Stops (d.withdraw f unit) :=
  Dev.Stops.assistCfg ((Within.refl d).withHst _ stopParts_hst) _ rfl

theorem Dev.cmuFault_stops (d : Dev) (k reason code : Nat) (ctx : List Nat) : d.Stops (d.cmuFault k reason code ctx) := by
  have hidle : d.Stops ((d.s (Reg.CMU_STAT_REASON k) reason).s (Reg.CMU_STAT_PROPOSE k) 0) :=
    Dev.Stops.cmuStat (Dev.Stops.cmuStat (Within.refl d) _ rfl) _ rfl
  have hnone := (hidle.trans (Dev.withdraw_stops _ 0 k)).trans (Dev.withdraw_stops _ 1 k)
  exact Dev.Stops.raised ((Dev.Stops.cmuStat hnone _ rfl).trans (Dev.cmuApply_stops _ k)) _ _

theorem Dev.cmuHalt_stops (d : Dev) (k reason : Nat) : d.Stops (d.cmuHalt k reason) :=
  Within.ite (fun _ => Within.refl d) fun _ => d.cmuFault_stops k reason _ _

/-! ## The step axes -/

theorem Dev.axShow_stops (d : Dev) (n : Nat) : d.Stops (d.axShow n) := by
  refine Dev.Stops.stpStat (Within.setWord (Within.setWord (Within.refl d) _ _ ?_) _ _ ?_) _ rfl
  · unfold Reg.STP_POS Reg.AUX_STAT
    omega
  · unfold Reg.STP_SPD Reg.AUX_STAT
    omega

theorem Dev.axGo_stops (d : Dev) (n st : Nat) : d.Stops (d.axGo n st) :=
  (Within.each (Dev.Stops.stpStat (Within.refl d) _ rfl) _ _ fun x i _ => x.hbApply_stops (4 * n + i)).trans (Dev.axShow_stops _ n)

theorem Dev.axRefuse_stops (d : Dev) (n op : Nat) : d.Stops (d.axRefuse n op).2 := Dev.Stops.raised (Within.refl d) _ _

theorem Dev.axCfgBad_stops (d : Dev) (n c : Nat) : d.Stops (d.axCfgBad n c).2 := Dev.Stops.raised (Within.refl d) _ _

theorem Dev.axClear_stops (d : Dev) (n : Nat) : d.Stops (d.axClear n).2 := by
  unfold Dev.axClear
  split
  · exact d.axRefuse_stops n 6
  · exact d.axGo_stops n axDisabled

theorem Dev.axEnable_stops (d : Dev) (n : Nat) : d.Stops (d.axEnable n).2 := by
  unfold Dev.axEnable
  dsimp only
  split
  · exact d.axRefuse_stops n 1
  split
  · exact d.axCfgBad_stops n 1
  split
  · exact d.axCfgBad_stops n 2
  · exact (Within.each (Dev.Stops.updAxis (Within.refl d) _ _) _ _ fun x i _ => Dev.Stops.updHb (Within.refl x) _ _).trans
      (Dev.axGo_stops _ n axHold)

theorem Dev.homeNext_stops (d : Dev) (n step : Nat) : d.Stops (d.homeNext n step) :=
  Dev.Stops.updAxis (Dev.Stops.stpStat (Within.refl d) _ rfl) _ _

theorem Dev.axHome_stops (d : Dev) (n : Nat) : d.Stops (d.axHome n).2 := by
  unfold Dev.axHome
  dsimp only
  split
  · exact d.axRefuse_stops n 5
  split
  · exact d.axCfgBad_stops n 5
  · refine Within.trans ?_ (Dev.axGo_stops _ n axHoming)
    refine Within.trans ?_ (Dev.homeNext_stops _ n _)
    exact Dev.Stops.updAxis (Dev.Stops.stpStat (Dev.Stops.stpStat (Within.refl d) _ rfl) _ rfl) _ _

theorem Dev.propose_stops (d : Dev) (f unit code : Nat) : d.Stops (d.propose f unit code) :=
  Dev.Stops.raised (Dev.Stops.assistCfg ((Within.refl d).withHst _ stopParts_hst) _ rfl) _ _

theorem Dev.homingApply_stops (d : Dev) (n code : Nat) : d.Stops (d.homingApply n code) := by
  have hclear : d.Stops (if d.axState n = axFault then (d.axClear n).2 else d) :=
    Within.ite (fun _ => d.axClear_stops n) fun _ => Within.refl d
  refine Within.ite (fun _ => ?_) fun _ => Within.refl d
  exact Within.ite (fun _ => (hclear.trans (Dev.axEnable_stops _ n)).trans (Dev.axHome_stops _ n)) fun _ =>
    hclear.trans (Dev.axEnable_stops _ n)

theorem Dev.homingLost_stops (d : Dev) (n : Nat) : d.Stops (d.homingLost n) :=
  Within.ite (fun _ => d.homingApply_stops n 1) fun _ => d.propose_stops 2 n 1

theorem Dev.axHalt_stops (d : Dev) (n reason : Nat) : d.Stops (d.axHalt n reason) := by
  refine Within.ite (fun _ => Within.refl d) fun _ => Within.when ?_ _ _ fun _ => Dev.homingLost_stops _ n
  have hstopped := Dev.Stops.stpStat (f := Reg.STP_STAT_HOMED n) (Dev.Stops.updAxis (Within.refl d) n
    fun a => { a with v := 0, decel := false, fail := 0, stepTo := none }) 0 rfl
  exact (Dev.Stops.raised (Dev.Stops.stpStat hstopped _ rfl) _ _).trans (Dev.axGo_stops _ n axFault)

/-- The stop after LINK is latched. -/
theorem Dev.auxLinkLost_stops (d : Dev) : (d.s Reg.AUX_STAT_LINK 1).Stops d.auxLinkLost :=
  ((Within.each (Within.refl _) _ _ fun x k _ => x.cmuHalt_stops k 7).each _ _ fun x n _ => x.axHalt_stops n 8).trans
    (Dev.hbsApply_stops _)

end Sys2Proof.Machine
end

section
/-! PROOFS. Frames of the die link and of the safety links, and their loss (R16 to R18, R21, R361). -/

namespace Sys2Proof.Machine

/-! ## The die link -/

/-- The loss of the die link: LINK is latched, the parts outside the stop stay, and records are only added. -/
theorem Dev.auxLinkLost_spec (d : Dev) : d.auxLinkLost.g Reg.AUX_STAT_LINK = 1 ∧ (∀ p, p ∉ stopParts → p.same d d.auxLinkLost) := by
  have hstops := d.auxLinkLost_stops
  have hword : d.auxLinkLost.word Reg.AUX_STAT_LINK.key = (d.s Reg.AUX_STAT_LINK 1).word Reg.AUX_STAT_LINK.key :=
    hstops.word Reg.AUX_STAT (fun hne => hne rfl)
  constructor
  · rw [Dev.g, hword]
    exact Dev.g_s_same _ _ _ (by decide) (by decide)
  · intro p hp
    exact Part.same_trans ((Dev.keeps_s (fs := [Reg.AUX_STAT_LINK]) (ps := []) List.mem_cons_self (by decide) (by decide)
      (d.keeps_refl _ _)).2 p (by simp)) (hstops.part p hp)

/-- The device without the die link. -/
def Dev.d2dLoses (d : Dev) (dir : Nat) : Dev := ((d.withSys { d.sys with d2dLost := true }).auxLinkLost).raise Err.SYS_D2D_LOST [dir]

/-- After the stop, the record of the loss. -/
theorem Dev.d2dRecord_spec (d x : Dev) (dir : Nat) (hpart : ∀ p, p ∉ stopParts → p.same d x) (hlink : x.g Reg.AUX_STAT_LINK = 1) :
    (x.raise Err.SYS_D2D_LOST [dir]).sys = d.sys ∧ (∃ l, (x.raise Err.SYS_D2D_LOST [dir]).raised = l ++ [d.record Err.SYS_D2D_LOST [dir]]) ∧
    (x.raise Err.SYS_D2D_LOST [dir]).on Reg.AUX_STAT_LINK = true ∧ ∀ a, (x.raise Err.SYS_D2D_LOST [dir]).byte a = d.byte a := by
  obtain ⟨hraised, hkeeps⟩ := x.raise_spec Err.SYS_D2D_LOST [dir]
  have htb : x.tb = d.tb := hpart .tb (by decide)
  have hsame {p : Part} (hp : p ∉ stopParts) : p.same d (x.raise Err.SYS_D2D_LOST [dir]) :=
    Part.same_trans (hpart p hp) (hkeeps.2 p fun hm => hp (List.mem_singleton.1 hm ▸ stopParts_raised))
  refine ⟨hsame (p := .sys) (by decide), ⟨x.raised, ?_⟩, ?_, hsame (p := .mem) (by decide)⟩
  · rw [hraised, Dev.plusRecord, Dev.record, Dev.record, htb]
  · rw [Dev.on, hkeeps.1 _ (by decide) (by simp), hlink]
    rfl

theorem Dev.d2dLoses_spec (d : Dev) (dir : Nat) : (d.d2dLoses dir).sys.d2dLost = true ∧
    (∃ l, (d.d2dLoses dir).raised = l ++ [d.record Err.SYS_D2D_LOST [dir]]) ∧ (d.d2dLoses dir).on Reg.AUX_STAT_LINK = true ∧
    ∀ a, (d.d2dLoses dir).byte a = d.byte a := by
  obtain ⟨hlink, hpart⟩ := (d.withSys { d.sys with d2dLost := true }).auxLinkLost_spec
  obtain ⟨hsys, hraised, hon, hbyte⟩ := Dev.d2dRecord_spec _ _ dir hpart hlink
  exact ⟨congrArg Sys.d2dLost hsys, hraised, hon, hbyte⟩

/-! ## The safety links -/

/-- The levels that a core takes for a frame that did not come: those that its filters hold. -/
def Dev.heldLevels (d : Dev) (k j : Nat) : Bool :=
  let f := (d.saf.cores.getD k {}).filt.getD j {}
  if f.run = 0 then f.lvl else !f.lvl

/-- The counts of a link after a bad frame. -/
def Saf.frameBad (k : Nat) (s : Saf) : Saf := { s with linkBad := updAt s.linkBad k (· + 1), linkErr := updAt s.linkErr k (satInc 65535) }

/-- The read-backs of a link after a good frame, and its run of bad ones ended. -/
def Saf.frameGood (k rb : Nat) (s : Saf) : Saf :=
  { s with linkBad := updAt s.linkBad k fun _ => 0, rb := if k = 0 then s.rb / 64 * 64 + rb else s.rb % 64 + 64 * rb }

/-- The read-backs that a frame brings: those of the pins, where V24_SI is present. -/
def Dev.readBacks (d : Dev) (rb : Nat) : Nat := if d.saf.v24 then rb % 64 &&& d.sys.pinMap / 2 ^ 16 else 0

theorem Dev.readBacks_lt (d : Dev) (rb : Nat) : d.readBacks rb < 64 := by
  unfold Dev.readBacks
  split
  · have hle : rb % 64 &&& d.sys.pinMap / 2 ^ 16 ≤ rb % 64 := Nat.and_le_left
    omega
  · decide

theorem Saf.frameGood_bits {k rb : Nat} (s : Saf) (hk : k < 2) (hrb : rb < 64) : bits (s.frameGood k rb).rb (6 * k + 5) (6 * k) = rb := by
  unfold Saf.frameGood bits
  interval_cases k
  · simp
    omega
  · simp
    omega

theorem exec_safetyLinkFrame_bad (k si rb : Nat) (s : State) : exec (.safetyLinkFrame k si rb false) s =
    s.runNoClk fun d => (d.linkSamples (k % 2) (d.heldLevels (k % 2))).updSaf (Saf.frameBad (k % 2)) := rfl

theorem exec_safetyLinkFrame_good (k si rb : Nat) (s : State) : exec (.safetyLinkFrame k si rb true) s = s.runNoClk fun d =>
    ((d.linkSamples (k % 2) fun j => (if d.saf.v24 then si else 0).testBit j).updSaf (Saf.frameGood (k % 2) (d.readBacks rb))).testSeen :=
  rfl

/-- A change of the island alone. -/
theorem Dev.updSaf_keeps (d : Dev) (f : Saf → Saf) : d.keeps (d.updSaf f) [] [.saf] := Dev.keeps_withSaf (by simp) (d.keeps_refl _ _)

/-- What the read-backs show of tests changes the pairs alone. -/
theorem Dev.testSeen_spec (d : Dev) : d.redrives d.testSeen ∧ d.keeps d.testSeen [] [.saf] := by
  have hpair (x : Dev) (i : Nat) (f : SafPair → SafPair) (b : Bool) : x.redrives (x.when b fun d => d.updPair i f) ∧
      x.keeps (x.when b fun d => d.updPair i f) [] [.saf] := by
    cases b
    · exact ⟨x.redrives_refl, x.keeps_refl _ _⟩
    · exact ⟨⟨_, _, rfl⟩, x.updSaf_keeps _⟩
  constructor
  · refine Dev.each_rel Dev.redrives_refl Dev.redrives_trans _ _ (fun x i => ?_) d
    split
    · exact (hpair x i _ _).1
    · exact x.redrives_refl
  · refine Dev.keeps_each _ _ (fun x i _ => ?_) (d.keeps_refl _ _)
    split
    · exact (hpair x i _ _).2
    · exact x.keeps_refl _ _

/-- The island's state, its cause and what it does not hold stay. -/
def Dev.keepsFault (d t : Dev) : Prop := t.saf.st = d.saf.st ∧ t.saf.fcause = d.saf.fcause ∧ d.keeps t [] [.saf]

theorem Dev.keepsFault_refl (d : Dev) : d.keepsFault d := ⟨rfl, rfl, d.keeps_refl _ _⟩

theorem Dev.keepsFault_trans {d t u : Dev} (h : d.keepsFault t) (g : t.keepsFault u) : d.keepsFault u :=
  ⟨g.1.trans h.1, g.2.1.trans h.2.1, Dev.keeps_trans h.2.2 g.2.2⟩

theorem Dev.updSafCh_keepsFault (d : Dev) (k n : Nat) (f : SafCh → SafCh) : d.keepsFault (d.updSafCh k n f) :=
  ⟨rfl, rfl, d.updSaf_keeps _⟩

/-- FAULT begins (R361): its cause is shown; the outputs follow, and records are only added. -/
theorem Dev.safFault_spec (d : Dev) (cause : Nat) (hst : d.saf.st ≠ 3) : (d.safFault cause).saf.st = 3 ∧ (d.safFault cause).saf.fcause = cause ∧
    d.raised <+: (d.safFault cause).raised ∧ ∀ a, (d.safFault cause).byte a = d.byte a := by
  unfold Dev.safFault
  rw [if_neg hst]
  dsimp only
  generalize hx : (d.updSaf fun s => { s with st := 3, fcause := cause, faultAt := d.saf.ticks }) = x
  obtain ⟨hstate, hcause, hbefore⟩ : x.saf.st = 3 ∧ x.saf.fcause = cause ∧ d.keeps x [] [.saf] := by
    rw [← hx]
    exact ⟨rfl, rfl, d.updSaf_keeps _⟩
  have hchannels := Dev.each_rel Dev.keepsFault_refl Dev.keepsFault_trans (List.range 12) (fun e i =>
    e.updSafCh (i / 6) (i % 6) fun c =>
      if (d.saf.st == 2) = true ∧ e.sp 0x060 (i % 6) = 1 ∧ c.st ≠ 1 then { c with st := 5, t0 := d.saf.ticks, cause := 8, sbtPh := 0 }
      else { c with st := 1, cause := 8, sbtPh := 0 }) (fun e i => e.updSafCh_keepsFault _ _ _) x
  generalize x.each (List.range 12) _ = y at hchannels ⊢
  obtain ⟨hst', hfc', hkeeps⟩ := hchannels
  obtain ⟨hwithin, l, g, hsaf⟩ := y.safDrive_spec
  have hraised : y.raised = d.raised := Part.same_trans (hbefore.2 .raised (by decide)) (hkeeps.2 .raised (by decide))
  exact ⟨by rw [hsaf, ← hstate, ← hst'], by rw [hsaf, ← hcause, ← hfc'], hraised ▸ hwithin.records,
    Part.same_trans (p := .mem) (hbefore.2 .mem (by decide)) (Part.same_trans (hkeeps.2 .mem (by decide)) (hwithin.part .mem (by decide)))⟩

/-- The read-backs of a link that is lost are 0. -/
def Saf.readLost (k : Nat) (s : Saf) : Saf := { s with rb := if k = 0 then s.rb / 64 * 64 else s.rb % 64 }

/-- A safety link lost: its record, and FAULT. -/
def Dev.linkLoses (d : Dev) (k : Nat) : Dev :=
  ((d.updSaf (Saf.readLost k)).raiseSaf Err.SAF_LINK_LOST [Config.recordNumber Err.SAF_LINK_LOST k]).safFault (3 + k)

theorem exec_safetyLinkLost (k : Nat) (s : State) : exec (.safetyLinkLost k) s =
    s.runNoClk fun d => if 5 ≤ d.saf.linkBad.getD (k % 2) 0 then d.linkLoses (k % 2) else d := rfl

theorem Dev.raiseSaf_spec (d : Dev) (code : Nat) (ctx : List Nat) :
    (d.raiseSaf code ctx).raised = d.plusIsland code ctx ∧ d.keeps (d.raiseSaf code ctx) [] [.raised] :=
  ⟨rfl, Dev.keeps_raiseSaf (by simp) (d.keeps_refl _ _)⟩

theorem Dev.linkLoses_spec (d : Dev) (k : Nat) (hst : d.saf.st ≠ 3) : (d.linkLoses k).saf.st = 3 ∧ (d.linkLoses k).saf.fcause = 3 + k ∧
    d.isle Err.SAF_LINK_LOST [Config.recordNumber Err.SAF_LINK_LOST k] ∈ (d.linkLoses k).raised ∧ ∀ a, (d.linkLoses k).byte a = d.byte a := by
  unfold Dev.linkLoses
  generalize [Config.recordNumber Err.SAF_LINK_LOST k] = ctx
  have hread := d.updSaf_keeps (Saf.readLost k)
  have hstill : (d.updSaf (Saf.readLost k)).saf.st ≠ 3 := hst
  generalize d.updSaf (Saf.readLost k) = x at hread hstill
  obtain ⟨hraised, hkeeps⟩ := x.raiseSaf_spec Err.SAF_LINK_LOST ctx
  have hsaf : (x.raiseSaf Err.SAF_LINK_LOST ctx).saf = x.saf := hkeeps.2 .saf (by decide)
  have htb : x.tb = d.tb := hread.2 .tb (by decide)
  obtain ⟨hstate, hcause, hmore, hbyte⟩ := (x.raiseSaf Err.SAF_LINK_LOST ctx).safFault_spec (3 + k) (by rw [hsaf]; exact hstill)
  refine ⟨hstate, hcause, hmore.subset ?_, Part.same_trans (p := .mem) (hread.2 .mem (by decide))
    (Part.same_trans (hkeeps.2 .mem (by decide)) hbyte)⟩
  rw [hraised, Dev.plusIsland, Dev.isle, Dev.isle, htb]
  exact List.mem_append_right _ (List.mem_singleton_self _)

/-! ## What each event does -/

theorem d2dEvents {s : State} (hl : s.dev.live = true) :
    Does s (.d2dFrameReceived false) (fun t => t.sys.d2dBad = s.dev.sys.d2dBad + 1 ∧ t.sys.d2dErrs = s.dev.sys.d2dErrs + 1 ∧
      t.raised = s.dev.plusRecord Err.SYS_D2D_CRC [s.dev.sys.d2dErrs + 1] ∧ s.dev.keeps t [] [.sys, .raised]) ∧
    Does s (.d2dFrameReceived true) (fun t => t.sys.d2dBad = 0 ∧ t.sys.d2dErrs = s.dev.sys.d2dErrs ∧ t.sys.d2dLost = false ∧
      s.dev.keeps t [] [.sys]) ∧
    ∀ dir, 4 ≤ s.dev.sys.d2dBad → s.dev.sys.d2dLost = false → Does s (.sysD2dLost dir) (fun t => t.sys.d2dLost = true ∧
      (∃ l, t.raised = l ++ [s.dev.record Err.SYS_D2D_LOST [dir]]) ∧ t.on Reg.AUX_STAT_LINK = true ∧
      ∀ a, t.byte a = s.dev.byte a) := by
  refine ⟨?_, ?_, fun dir hbad hlost => ?_⟩
  · refine State.does_run (f := fun d => (d.withSys { d.sys with d2dBad := d.sys.d2dBad + 1, d2dGood := 0, d2dErrs := d.sys.d2dErrs + 1 }).raise
      Err.SYS_D2D_CRC [d.sys.d2dErrs + 1]) rfl hl ?_
    exact ⟨rfl, rfl, rfl, Dev.keeps_raise (by simp) (Dev.keeps_withSys (by simp) (s.dev.keeps_refl _ _))⟩
  · refine State.does_run (f := fun d => d.withSys { d.sys with d2dBad := 0, d2dGood := min 16 (d.sys.d2dGood + 1), d2dLost := false }) rfl hl ?_
    exact ⟨rfl, rfl, rfl, Dev.keeps_withSys (by simp) (s.dev.keeps_refl _ _)⟩
  · refine State.does_run (f := fun d => if 4 ≤ d.sys.d2dBad ∧ !d.sys.d2dLost then d.d2dLoses dir else d) rfl hl ?_
    rw [if_pos ⟨hbad, by rw [hlost]; rfl⟩]
    exact s.dev.d2dLoses_spec dir

theorem safetyLinkEvents {s : State} (hr : s.dev.sys.run ≠ .inReset) {k : Nat} (hk : k < 2) (hbad : s.dev.saf.linkBad.length = 2)
    (herr : s.dev.saf.linkErr.length = 2) (si rb : Nat) :
    Does s (.safetyLinkFrame k si rb false) (fun t => t.saf.linkBad.getD k 0 = s.dev.saf.linkBad.getD k 0 + 1 ∧
      t.saf.linkErr.getD k 0 = satInc 65535 (s.dev.saf.linkErr.getD k 0) ∧ t.saf.rb = s.dev.saf.rb ∧ s.dev.keeps t [] [.saf]) ∧
    Does s (.safetyLinkFrame k si rb true) (fun t => t.saf.linkBad.getD k 0 = 0 ∧ t.saf.linkErr = s.dev.saf.linkErr ∧
      bits t.saf.rb (6 * k + 5) (6 * k) = (if s.dev.saf.v24 then rb % 64 &&& s.dev.sys.pinMap / 2 ^ 16 else 0) ∧
      ∀ a, t.byte a = s.dev.byte a) ∧
    (5 ≤ s.dev.saf.linkBad.getD k 0 → s.dev.saf.st ≠ 3 → Does s (.safetyLinkLost k) (fun t => t.saf.st = 3 ∧ t.saf.fcause = 3 + k ∧
      (⟨0, s.dev.tb.rt, Err.SAF_LINK_LOST, errSev Err.SAF_LINK_LOST, 0, 3, [Config.recordNumber Err.SAF_LINK_LOST k]⟩ : ErrRec) ∈ t.raised ∧
      ∀ a, t.byte a = s.dev.byte a)) := by
  have hmod : k % 2 = k := Nat.mod_eq_of_lt hk
  refine ⟨?_, ?_, fun hrun hst => ?_⟩
  · refine State.does_runNoClk (exec_safetyLinkFrame_bad k si rb s) hr ?_
    rw [hmod]
    have hlist {f : Nat → Nat} (l : List Nat) (hlen : l.length = 2) : (updAt l k f).getD k 0 = f (l.getD k 0) :=
      updAt_getD_same _ _ _ _ (by omega)
    exact ⟨hlist _ hbad, hlist _ herr, rfl, Dev.keeps_trans (s.dev.updSaf_keeps _) (Dev.updSaf_keeps _ _)⟩
  · refine State.does_runNoClk (exec_safetyLinkFrame_good k si rb s) hr ?_
    rw [hmod]
    generalize hx : (s.dev.linkSamples k _).updSaf (Saf.frameGood k (s.dev.readBacks rb)) = x
    obtain ⟨⟨l, g, hsaf⟩, hkeeps⟩ := x.testSeen_spec
    have hbefore : s.dev.keeps x [] [.saf] := hx ▸ Dev.keeps_trans (s.dev.updSaf_keeps _) (Dev.updSaf_keeps _ _)
    rw [hsaf]
    refine ⟨?_, ?_, ?_, Part.same_trans (p := .mem) (hbefore.2 .mem (by decide)) (hkeeps.2 .mem (by decide))⟩
    · rw [← hx]
      have hlt : k < s.dev.saf.linkBad.length := by omega
      exact updAt_getD_same _ _ _ _ hlt
    · rw [← hx]
      rfl
    · rw [← hx]
      exact Saf.frameGood_bits _ hk (s.dev.readBacks_lt rb)
  · refine State.does_runNoClk (exec_safetyLinkLost k s) hr ?_
    rw [hmod, if_pos hrun]
    exact s.dev.linkLoses_spec k hst

end Sys2Proof.Machine
end

section
open Sys2Proof Sys2Proof.Machine

/-- Settles O6: by what each frame and each loss writes, and by how far a stop reaches. -/
theorem linkEvents : Obligations.LinkEvents := by
  refine ⟨fun s hl => d2dEvents hl, fun s hr k hk hbad herr si rb => safetyLinkEvents hr hk hbad herr si rb, fun s hr hv => ?_⟩
  refine State.does_runNoClk (f := fun d => if d.saf.v24 then (d.updSaf fun s => { s with v24 := false, rb := 0 }).raiseSaf Err.SAF_V24_LOST []
    else d) rfl hr ?_
  rw [if_pos hv]
  exact ⟨rfl, rfl, rfl, Dev.keeps_raiseSaf (by simp) (Dev.keeps_withSaf (by simp) (s.dev.keeps_refl _ _))⟩

end

section
/-! PROOFS. The answers of the CE commands: carried out, refused, and going on (R85). -/

namespace Sys2Proof.Machine

/-- The fields in which a CE command answers. -/
def answerFields : List RF := [Reg.CE_CMD_RESULT_BUSY, Reg.CE_CMD_RESULT_RESULT]

/-- BUSY and RESULT written. -/
def Dev.ceFlags (d : Dev) (busy result : Nat) : Dev := (d.s Reg.CE_CMD_RESULT_BUSY busy).s Reg.CE_CMD_RESULT_RESULT result

/-- The array replaced. -/
def Dev.withCe (d : Dev) (x : Ce) : Dev := { d with ce := x }

theorem Dev.ceFlags_keeps (d : Dev) (busy result : Nat) (ps : List Part) : d.keeps (d.ceFlags busy result) answerFields ps :=
  Dev.keeps_s (by simp [answerFields]) (by decide) (by decide)
    (Dev.keeps_s (by simp [answerFields]) (by decide) (by decide) (d.keeps_refl _ _))

theorem Dev.ceFlags_ce (d : Dev) (busy result : Nat) : (d.ceFlags busy result).ce = d.ce := (d.ceFlags_keeps busy result []).2 .ce (by decide)

theorem Dev.ceFlags_result (d : Dev) (busy : Nat) {result : Nat} (h : result < 65536) :
    (d.ceFlags busy result).g Reg.CE_CMD_RESULT_RESULT = result := by
  rw [Dev.ceFlags, Dev.g_s_same _ _ _ (by decide) (by decide)]
  exact Nat.mod_eq_of_lt h

theorem Dev.ceFlags_busy (d : Dev) {busy : Nat} (result : Nat) (h : busy < 2) : (d.ceFlags busy result).g Reg.CE_CMD_RESULT_BUSY = busy := by
  rw [Dev.ceFlags, Dev.g_s_beside _ _ _ _ (by decide) (by decide) (by decide) (by decide), Dev.g_s_same _ _ _ (by decide) (by decide)]
  exact Nat.mod_eq_of_lt h

theorem Dev.withCe_same (d : Dev) (x : Ce) : (d.withCe x).ce = x := rfl

theorem Dev.g_withCe (d : Dev) (x : Ce) (f : RF) : (d.withCe x).g f = d.g f := rfl

theorem Dev.withCe_keeps_all (d : Dev) (x : Ce) (fs : List RF) : d.keeps (d.withCe x) fs [.ce] := Dev.keeps_withCe (by simp) (d.keeps_refl _ _)

/-- An answer of a CE command that leaves the array in `x`. -/
def Dev.ceReplies (d : Dev) (busy result : Nat) (x : Ce) : Dev := (d.ceFlags busy result).withCe x

theorem Dev.ceReplies_spec (d : Dev) {busy result : Nat} (hb : busy < 2) (hr : result < 65536) (x : Ce) :
    (d.ceReplies busy result x).g Reg.CE_CMD_RESULT_BUSY = busy ∧ (d.ceReplies busy result x).g Reg.CE_CMD_RESULT_RESULT = result ∧
    (d.ceReplies busy result x).ce = x ∧ d.keeps (d.ceReplies busy result x) answerFields [.ce] := by
  unfold Dev.ceReplies
  rw [Dev.g_withCe, Dev.g_withCe]
  exact ⟨d.ceFlags_busy result hb, d.ceFlags_result busy hr, Dev.withCe_same _ _,
    Dev.keeps_trans (d.ceFlags_keeps busy result _) (Dev.withCe_keeps_all _ _ _)⟩

/-- The array as a command that ends leaves it. -/
def Ce.idle (x : Ce) : Ce := { x with busy := none, resultRead := false }

/-- The array as a refused command leaves it. -/
def Ce.refused (x : Ce) : Ce := { x with resultRead := false }

theorem Dev.ceDone_eq (d : Dev) : d.ceDone = d.ceReplies 0 0 d.ce.idle := by
  unfold Dev.ceDone Dev.ceReplies
  rw [← d.ceFlags_ce 0 0]
  unfold Dev.ceFlags
  dsimp only [Dev.withCe, Ce.idle]

theorem Dev.ceBegin_eq (d : Dev) (b : CeBusy) : d.ceBegin b = d.ceReplies 1 0 { d.ce with busy := some b } := by
  unfold Dev.ceBegin Dev.ceReplies
  rw [← d.ceFlags_ce 1 0]
  unfold Dev.ceFlags
  dsimp only [Dev.withCe]

theorem Dev.ceRefuse_eq (d : Dev) (code : Nat) (ctx : List Nat) : d.ceRefuse code ctx = (d.ceReplies 0 code d.ce.refused).raise code ctx := by
  unfold Dev.ceRefuse Dev.ceReplies
  rw [← d.ceFlags_ce 0 code]
  unfold Dev.ceFlags
  dsimp only [Dev.withCe, Ce.refused]

/-- A command carried out: BUSY is 0 and RESULT 0. -/
theorem Dev.ceDone_spec (d : Dev) : d.ceDone.on Reg.CE_CMD_RESULT_BUSY = false ∧ d.ceDone.g Reg.CE_CMD_RESULT_RESULT = 0 ∧
    d.ceDone.ce = d.ce.idle ∧ d.keeps d.ceDone answerFields [.ce] := by
  rw [Dev.ceDone_eq]
  obtain ⟨hbusy, hresult, hce, hkeeps⟩ := d.ceReplies_spec (busy := 0) (result := 0) (by decide) (by decide) d.ce.idle
  exact ⟨by rw [Dev.on, hbusy]; rfl, hresult, hce, hkeeps⟩

/-- A command that goes on: BUSY is 1. -/
theorem Dev.ceBegin_spec (d : Dev) (b : CeBusy) : (d.ceBegin b).on Reg.CE_CMD_RESULT_BUSY = true ∧
    (d.ceBegin b).ce = { d.ce with busy := some b } ∧ d.keeps (d.ceBegin b) answerFields [.ce] := by
  rw [Dev.ceBegin_eq]
  obtain ⟨hbusy, _, hce, hkeeps⟩ := d.ceReplies_spec (busy := 1) (result := 0) (by decide) (by decide) { d.ce with busy := some b }
  exact ⟨by rw [Dev.on, hbusy]; rfl, hce, hkeeps⟩

/-- A refused command: RESULT shows the code, and its record is raised. -/
theorem Dev.ceRefuse_spec (d : Dev) {code : Nat} (hc : code < 65536) (ctx : List Nat) :
    (d.ceRefuse code ctx).g Reg.CE_CMD_RESULT_RESULT = code ∧ (d.ceRefuse code ctx).on Reg.CE_CMD_RESULT_BUSY = false ∧
    (d.ceRefuse code ctx).raised = d.plusRecord code ctx ∧ (d.ceRefuse code ctx).ce = d.ce.refused ∧
    d.keeps (d.ceRefuse code ctx) answerFields [.ce, .raised] := by
  rw [Dev.ceRefuse_eq]
  obtain ⟨hbusy, hresult, hce, hkeeps⟩ := d.ceReplies_spec (busy := 0) (by decide) hc d.ce.refused
  generalize d.ceReplies 0 code d.ce.refused = x at hbusy hresult hce hkeeps
  obtain ⟨hraised, hmore⟩ := x.raise_spec code ctx
  have htb : x.tb = d.tb := hkeeps.2 .tb (by decide)
  have hbefore : x.raised = d.raised := hkeeps.2 .raised (by decide)
  refine ⟨(hmore.1 _ (by decide) (by simp)).trans hresult, ?_, ?_, (hmore.2 .ce (by decide)).trans hce,
    Dev.keeps_trans (Dev.keeps_mono hkeeps (List.Subset.refl _) (by simp)) (Dev.keeps_mono hmore (by simp) (by simp))⟩
  · rw [Dev.on, hmore.1 _ (by decide) (by simp), hbusy]
    rfl
  · rw [hraised, Dev.plusRecord, Dev.plusRecord, Dev.record, Dev.record, htb, hbefore]

/-- A field of another register than CE_CMD_RESULT is apart from the answers. -/
theorem RF.apart_answer {f : RF} (h : f.key ≠ Reg.CE_CMD_RESULT) : ∀ g ∈ answerFields, f.apart g := by
  intro g hg
  simp only [answerFields, List.mem_cons, List.not_mem_nil, or_false] at hg
  rcases hg with rfl | rfl
  · exact .inl h
  · exact .inl h

theorem Dev.g_ceDone (d : Dev) {f : RF} (hf : f.lo ≤ f.hi) (h : f.key ≠ Reg.CE_CMD_RESULT) : d.ceDone.g f = d.g f :=
  d.ceDone_spec.2.2.2.1 f hf (RF.apart_answer h)

theorem Dev.ctx_of_ce {d t : Dev} (h : t.ce.ctxs = d.ce.ctxs) (k : Nat) : t.ctx k = d.ctx k := by rw [Dev.ctx, h]; rfl

theorem Dev.eng_of_ce {d t : Dev} (h : t.ce.engs = d.ce.engs) (k : Nat) : t.eng k = d.eng k := by rw [Dev.eng, h]; rfl

theorem Dev.ctx_ceDone (d : Dev) (k : Nat) : d.ceDone.ctx k = d.ctx k := Dev.ctx_of_ce (by rw [d.ceDone_spec.2.2.1]; rfl) k

theorem Dev.eng_ceDone (d : Dev) (k : Nat) : d.ceDone.eng k = d.eng k := Dev.eng_of_ce (by rw [d.ceDone_spec.2.2.1]; rfl) k

/-- What is kept up to a command's end. -/
theorem Dev.keeps_ceDone {d t : Dev} {fs : List RF} {ps : List Part} (h : d.keeps t fs ps) (hf : answerFields ⊆ fs) (hp : Part.ce ∈ ps) :
    d.keeps t.ceDone fs ps := Dev.keeps_trans h (Dev.keeps_mono t.ceDone_spec.2.2.2 hf (by simpa using hp))

theorem Dev.keeps_updCtx {d t : Dev} {fs : List RF} {ps : List Part} (h : d.keeps t fs ps) (c : Nat) (f : Ctx → Ctx) (hp : Part.ce ∈ ps) :
    d.keeps (t.updCtx c f) fs ps := Dev.keeps_withCe hp h

theorem Dev.ctx_s (d : Dev) (f : RF) (v k : Nat) : (d.s f v).ctx k = d.ctx k := Dev.ctx_of_ce (by rw [Dev.s_ce]) k

theorem Dev.eng_s (d : Dev) (f : RF) (v k : Nat) : (d.s f v).eng k = d.eng k := Dev.eng_of_ce (by rw [Dev.s_ce]) k

theorem Dev.eng_updCtx (d : Dev) (c : Nat) (f : Ctx → Ctx) (k : Nat) : (d.updCtx c f).eng k = d.eng k := rfl

theorem Dev.g_updCtx (d : Dev) (c : Nat) (f : Ctx → Ctx) (r : RF) : (d.updCtx c f).g r = d.g r := rfl

theorem ctxWord_ne (c w : Nat) : Reg.CTX_W0 c + 4 * w ≠ Reg.CE_CMD_RESULT := by unfold Reg.CTX_W0 Reg.CE_CMD_RESULT; omega

theorem ctxStat_ne (c : Nat) : Reg.CTX_STAT c ≠ Reg.CE_CMD_RESULT := by unfold Reg.CTX_STAT Reg.CE_CMD_RESULT; omega

/-- A command sets one field, and ends. -/
theorem Dev.sDone_spec (d : Dev) (f : RF) (v : Nat) (hf : f.lo ≤ f.hi) (h31 : f.hi ≤ 31) (hk : f.key ≠ Reg.CE_CMD_RESULT) :
    (d.s f v).ceDone.g f = f.cut v ∧ (d.s f v).ceDone.g Reg.CE_CMD_RESULT_RESULT = 0 ∧ (∀ k, (d.s f v).ceDone.ctx k = d.ctx k) ∧
    (∀ k, (d.s f v).ceDone.eng k = d.eng k) ∧ d.keeps (d.s f v).ceDone (f :: answerFields) [.ce] :=
  ⟨(Dev.g_ceDone _ hf hk).trans (d.g_s_same f v hf h31), (Dev.ceDone_spec _).2.1, fun k => (Dev.ctx_ceDone _ k).trans (d.ctx_s f v k),
    fun k => (Dev.eng_ceDone _ k).trans (d.eng_s f v k),
    Dev.keeps_ceDone (Dev.keeps_s List.mem_cons_self hf h31 (d.keeps_refl _ _)) (List.subset_cons_self _ _) (by simp)⟩

end Sys2Proof.Machine
end

section
/-! PROOFS. The CE commands that act at once (R79, R84, R85, R87, R89, R91). -/

namespace Sys2Proof.Machine

/-- A CE command while BUSY is 0. -/
theorem State.does_ce {s : State} {i : Instr} {P : Dev → Prop} {op eng arg c : Nat} (t : Dev)
    (he : exec i s = s.run fun d => d.ceOp op eng arg (c % 256)) (hl : s.dev.live = true)
    (hb : s.dev.on Reg.CE_CMD_RESULT_BUSY = false) (hc : c < 256)
    (ht : s.dev.ceOp op eng arg c = if s.dev.on Reg.CE_CMD_RESULT_BUSY then s.dev else t) (hP : P t) : Does s i P := by
  refine State.does_run he hl ?_
  rw [Nat.mod_eq_of_lt hc, ht, hb]
  exact hP

/-- A CE command while BUSY is 1. -/
theorem exec_ce_busy {s : State} {i : Instr} {op eng arg c : Nat} (he : exec i s = s.run fun d => d.ceOp op eng arg c)
    (hb : s.dev.on Reg.CE_CMD_RESULT_BUSY = true) : exec i s = .next s :=
  he.trans (State.run_self (f := fun d => d.ceOp op eng arg c) (if_pos hb))

/-- A command refused for the state of its context. -/
theorem Dev.ceState_spec (d : Dev) (op c : Nat) : (d.ceState op c).g Reg.CE_CMD_RESULT_RESULT = Err.CE_CTX_STATE ∧
    (d.ceState op c).on Reg.CE_CMD_RESULT_BUSY = false ∧ (d.ceState op c).raised = d.plusRecord Err.CE_CTX_STATE [c, d.ctxState c, op] ∧
    (d.ceState op c).ce = { d.ce with resultRead := false } ∧ d.keeps (d.ceState op c) answerFields [.ce, .raised] :=
  d.ceRefuse_spec (by decide) _

/-! ## Where the state of the context allows no command -/

theorem Dev.ceStart_refused (d : Dev) {c : Nat} (h : d.ctxState c ∉ [1]) : d.ceStart c = d.ceState 2 c :=
  if_pos (.inl (by simpa using h))

theorem Dev.ceStop_refused (d : Dev) {c : Nat} (h : d.ctxState c ∉ [2, 3]) : d.ceStop c = d.ceState 3 c :=
  if_pos (by simpa using h)

theorem Dev.ceUnload_refused (d : Dev) {c : Nat} (h : d.ctxState c ∉ [1, 4]) : d.ceUnload c = d.ceState 4 c :=
  if_pos (by simpa using h)

theorem Dev.ceShadow_refused (d : Dev) {c : Nat} (h : d.ctxState c ∉ [1]) : d.ceShadow c = d.ceState 5 c :=
  if_pos (.inl (by simpa using h))

theorem Dev.ceHandover_refused (d : Dev) {c : Nat} (h : d.ctxState c ∉ [3]) : d.ceHandover c = d.ceState 6 c :=
  if_pos (by simpa using h)

theorem Dev.ceBank_refused (d : Dev) {c : Nat} (arg : Nat) (h : d.ctxState c ∉ [1, 2, 3]) : d.ceBank c arg = d.ceState 7 c :=
  if_neg (by simpa using h)

theorem Dev.ceClear_refused (d : Dev) {c : Nat} (h : d.ctxState c ∉ [4]) : d.ceClear c = d.ceState 8 c :=
  if_neg (by simpa using h)

theorem Dev.ceDivsync_refused (d : Dev) {c : Nat} (h : d.ctxState c ∉ [2, 3]) : d.ceDivsync c = d.ceState 9 c :=
  if_neg (by simpa using h)

/-- A command that is refused for the state of its context. -/
theorem ceRefused {s : State} {i : Instr} {op arg c : Nat} {t : Dev} (hl : s.dev.live = true)
    (hb : s.dev.on Reg.CE_CMD_RESULT_BUSY = false) (hc : c < 256) (he : exec i s = s.run fun d => d.ceOp op 0 arg (c % 256))
    (ht : s.dev.ceOp op 0 arg c = if s.dev.on Reg.CE_CMD_RESULT_BUSY then s.dev else t) (hr : t = s.dev.ceState op c) :
    Does s i (fun t => t.g Reg.CE_CMD_RESULT_RESULT = Err.CE_CTX_STATE ∧ t.on Reg.CE_CMD_RESULT_BUSY = false ∧
      t.raised = s.dev.plusRecord Err.CE_CTX_STATE [c, s.dev.ctxState c, op] ∧ t.ce = { s.dev.ce with resultRead := false } ∧
      s.dev.keeps t [Reg.CE_CMD_RESULT_BUSY, Reg.CE_CMD_RESULT_RESULT] [.ce, .raised]) := by
  refine State.does_ce t he hl hb hc ht ?_
  rw [hr]
  exact s.dev.ceState_spec op c

/-- A command of a context in a state that does not list it. -/
theorem ceRefusals {s : State} (hl : s.dev.live = true) {c : Nat} (hc : c < 256) (hb : s.dev.on Reg.CE_CMD_RESULT_BUSY = false) :
    ∀ x ∈ ([(.ceStart c, 2, [1]), (.ceStop c, 3, [2, 3]), (.ceUnload c, 4, [1, 4]), (.ceShadow c, 5, [1]), (.ceHandover c, 6, [3]),
        (.ceBank c 1, 7, [1, 2, 3]), (.ceClear c, 8, [4]), (.divsync c, 9, [2, 3])] : List (Instr × Nat × List Nat)),
      s.dev.ctxState c ∉ x.2.2 → Does s x.1 (fun t => t.g Reg.CE_CMD_RESULT_RESULT = Err.CE_CTX_STATE ∧ t.on Reg.CE_CMD_RESULT_BUSY = false ∧
        t.raised = s.dev.plusRecord Err.CE_CTX_STATE [c, s.dev.ctxState c, x.2.1] ∧ t.ce = { s.dev.ce with resultRead := false } ∧
        s.dev.keeps t [Reg.CE_CMD_RESULT_BUSY, Reg.CE_CMD_RESULT_RESULT] [.ce, .raised]) := by
  intro x hx h
  simp only [List.mem_cons, List.not_mem_nil, or_false] at hx
  rcases hx with rfl | rfl | rfl | rfl | rfl | rfl | rfl | rfl
  · exact ceRefused (arg := 0) (op := 2) hl hb hc rfl rfl (s.dev.ceStart_refused h)
  · exact ceRefused (arg := 0) (op := 3) hl hb hc rfl rfl (s.dev.ceStop_refused h)
  · exact ceRefused (arg := 0) (op := 4) hl hb hc rfl rfl (s.dev.ceUnload_refused h)
  · exact ceRefused (arg := 0) (op := 5) hl hb hc rfl rfl (s.dev.ceShadow_refused h)
  · exact ceRefused (arg := 0) (op := 6) hl hb hc rfl rfl (s.dev.ceHandover_refused h)
  · exact ceRefused (arg := 1) (op := 7) hl hb hc rfl rfl (s.dev.ceBank_refused 1 h)
  · exact ceRefused (arg := 0) (op := 8) hl hb hc rfl rfl (s.dev.ceClear_refused h)
  · exact ceRefused (arg := 0) (op := 9) hl hb hc rfl rfl (s.dev.ceDivsync_refused h)

/-! ## What each command does -/

theorem ctxState_ne (c : Nat) : (Reg.CTX_W0_STATE c).key ≠ Reg.CE_CMD_RESULT := ctxWord_ne c 0

theorem ceStarts {s : State} (hl : s.dev.live = true) {c : Nat} (hc : c < 256) (hb : s.dev.on Reg.CE_CMD_RESULT_BUSY = false)
    (hst : s.dev.ctxState c = 1) (hsp : s.dev.ctxEng c ≠ s.dev.spare) : Does s (.ceStart c) (fun t => t.ctxState c = 2 ∧
      t.g Reg.CE_CMD_RESULT_RESULT = 0 ∧ (∀ k, t.ctx k = s.dev.ctx k) ∧ (∀ k, t.eng k = s.dev.eng k) ∧
      s.dev.keeps t [Reg.CTX_W0_STATE c, Reg.CE_CMD_RESULT_BUSY, Reg.CE_CMD_RESULT_RESULT] [.ce]) := by
  refine State.does_ce (op := 2) (eng := 0) (arg := 0) (s.dev.ceStart c) rfl hl hb hc rfl ?_
  rw [Dev.ceStart, if_neg (by simp [hst, hsp])]
  exact s.dev.sDone_spec (Reg.CTX_W0_STATE c) 2 (Nat.le_of_ble_eq_true rfl) (Nat.le_refl _) (ctxState_ne c)

/-- STOP of a context that does not run: STOPPED at once. -/
theorem ceStops_idle {s : State} (hl : s.dev.live = true) {c : Nat} (hc : c < 256) (hb : s.dev.on Reg.CE_CMD_RESULT_BUSY = false)
    (hst : s.dev.ctxState c = 2 ∨ s.dev.ctxState c = 3) (ha : s.dev.armedBind c = 0) (hp : (s.dev.ctx c).phase = .idle)
    (ho : (s.dev.ctx c).outDue = none) : Does s (.ceStop c) (fun t => t.ctxState c = 1 ∧ t.g Reg.CE_CMD_RESULT_RESULT = 0 ∧
      (∀ k, t.ctx k = s.dev.ctx k) ∧ s.dev.keeps t [Reg.CTX_W0_STATE c, Reg.CE_CMD_RESULT_BUSY, Reg.CE_CMD_RESULT_RESULT] [.ce]) := by
  refine State.does_ce (op := 3) (eng := 0) (arg := 0) (s.dev.ceStop c) rfl hl hb hc rfl ?_
  rw [Dev.ceStop, if_neg (by omega), if_neg (by omega)]
  dsimp only
  rw [if_pos ⟨hp, ho⟩]
  obtain ⟨hstate, hresult, hctx, _, hkeeps⟩ :=
    s.dev.sDone_spec (Reg.CTX_W0_STATE c) 1 (Nat.le_of_ble_eq_true rfl) (Nat.le_refl _) (ctxState_ne c)
  exact ⟨hstate, hresult, hctx, hkeeps⟩

/-- A change of a context's own state ends a command. -/
theorem Dev.updCtxDone_spec (d : Dev) {c : Nat} (hc : c < 256) (f : Ctx → Ctx) : (d.updCtx c f).ceDone.ctx c = f (d.ctx c) ∧
    (∀ k, k ≠ c → (d.updCtx c f).ceDone.ctx k = d.ctx k) ∧ (d.updCtx c f).ceDone.g Reg.CE_CMD_RESULT_RESULT = 0 ∧
    d.keeps (d.updCtx c f).ceDone answerFields [.ce] :=
  ⟨(Dev.ctx_ceDone _ _).trans (Dev.ctx_updCtx_same _ _ _ hc), fun k hk => (Dev.ctx_ceDone _ _).trans (Dev.ctx_updCtx_other _ _ hk),
    (Dev.ceDone_spec _).2.1, Dev.keeps_ceDone (Dev.keeps_updCtx (d.keeps_refl _ _) _ _ (by simp)) (List.Subset.refl _) (by simp)⟩

/-- STOP of a context that runs: after its output write. -/
theorem ceStops_running {s : State} (hl : s.dev.live = true) {c : Nat} (hc : c < 256) (hb : s.dev.on Reg.CE_CMD_RESULT_BUSY = false)
    (hst : s.dev.ctxState c = 2 ∨ s.dev.ctxState c = 3) (ha : s.dev.armedBind c = 0) (hp : (s.dev.ctx c).phase ≠ .idle) :
    Does s (.ceStop c) (fun t => (t.ctx c).stopReq = true ∧ t.g Reg.CE_CMD_RESULT_RESULT = 0 ∧
      s.dev.keeps t [Reg.CE_CMD_RESULT_BUSY, Reg.CE_CMD_RESULT_RESULT] [.ce]) := by
  refine State.does_ce (op := 3) (eng := 0) (arg := 0) (s.dev.ceStop c) rfl hl hb hc rfl ?_
  rw [Dev.ceStop, if_neg (by omega), if_neg (by omega)]
  dsimp only
  rw [if_neg fun h => hp h.1]
  obtain ⟨hctx, _, hresult, hkeeps⟩ := s.dev.updCtxDone_spec hc fun x => { x with stopReq := true }
  exact ⟨by rw [hctx], hresult, hkeeps⟩

theorem ceStops_bound {s : State} (hl : s.dev.live = true) {c : Nat} (hc : c < 256) (hb : s.dev.on Reg.CE_CMD_RESULT_BUSY = false)
    (hst : s.dev.ctxState c = 2 ∨ s.dev.ctxState c = 3) (ha : s.dev.armedBind c ≠ 0) : Does s (.ceStop c) (fun t =>
      t.g Reg.CE_CMD_RESULT_RESULT = Err.CE_CTX_BOUND ∧ t.raised = s.dev.plusRecord Err.CE_CTX_BOUND [c, s.dev.armedBind c] ∧
      s.dev.keeps t [Reg.CE_CMD_RESULT_BUSY, Reg.CE_CMD_RESULT_RESULT] [.ce, .raised]) := by
  refine State.does_ce (op := 3) (eng := 0) (arg := 0) (s.dev.ceStop c) rfl hl hb hc rfl ?_
  rw [Dev.ceStop, if_neg (by omega), if_pos ha]
  obtain ⟨hresult, _, hraised, _, hkeeps⟩ := s.dev.ceRefuse_spec (code := Err.CE_CTX_BOUND) (by decide) [c, s.dev.armedBind c]
  exact ⟨hresult, hraised, hkeeps⟩

theorem ceHandovers {s : State} (hl : s.dev.live = true) {c : Nat} (hc : c < 256) (hb : s.dev.on Reg.CE_CMD_RESULT_BUSY = false)
    (o : Nat) (ho : o = s.dev.g (Reg.CTX_W0_SHADOW_OF c)) (h0 : o ≠ 0) (hst : s.dev.ctxState c = 3) (hrun : s.dev.ctxState o = 2) :
    Does s (.ceHandover c) (fun t => (t.ctx o).handover = some c ∧ (∀ k, k ≠ o → t.ctx k = s.dev.ctx k) ∧
      t.g Reg.CE_CMD_RESULT_RESULT = 0 ∧ s.dev.keeps t [Reg.CE_CMD_RESULT_BUSY, Reg.CE_CMD_RESULT_RESULT] [.ce]) := by
  have hlt : o < 256 := ho ▸ Nat.mod_lt _ (Nat.two_pow_pos _)
  refine State.does_ce (op := 6) (eng := 0) (arg := 0) (s.dev.ceHandover c) rfl hl hb hc rfl ?_
  have hok : s.dev.handoverOk c = true := by simp [Dev.handoverOk, ← ho, hst, h0, hrun]
  rw [Dev.ceHandover, if_neg (by simp [hst]), if_pos hok, Dev.armHandover, ← ho]
  obtain ⟨hctx, hother, hresult, hkeeps⟩ := s.dev.updCtxDone_spec hlt fun x => { x with handover := some c }
  exact ⟨by rw [hctx], hother, hresult, hkeeps⟩

/-- A context that had another bank before. -/
def Ctx.hadBank (was : Nat × Nat) (x : Ctx) : Ctx := { x with bankWas := some was }

theorem Dev.bankSwap_eq (d : Dev) (c b : Nat) :
    d.bankSwap c b false = (d.s (Reg.CTX_W0_BANK c) b).updCtx c (Ctx.hadBank (d.g (Reg.CTX_W0_BANK c), d.tick)) := rfl

theorem ceBanks {s : State} (hl : s.dev.live = true) {c : Nat} (hc : c < 256) (hb : s.dev.on Reg.CE_CMD_RESULT_BUSY = false)
    (hst : s.dev.ctxState c = 1 ∨ s.dev.ctxState c = 2 ∨ s.dev.ctxState c = 3) (b : Nat) : Does s (.ceBank c b) (fun t =>
      t.g (Reg.CTX_W0_BANK c) = b % 2 ∧ (t.ctx c).bankWas = some (s.dev.g (Reg.CTX_W0_BANK c), s.dev.tick) ∧
      t.g Reg.CE_CMD_RESULT_RESULT = 0 ∧ s.dev.keeps t [Reg.CTX_W0_BANK c, Reg.CE_CMD_RESULT_BUSY, Reg.CE_CMD_RESULT_RESULT] [.ce]) := by
  refine State.does_ce (op := 7) (eng := 0) (arg := b) (s.dev.ceBank c b) rfl hl hb hc rfl ?_
  have hle : (Reg.CTX_W0_BANK c).lo ≤ (Reg.CTX_W0_BANK c).hi := Nat.le_refl _
  have h31 : (Reg.CTX_W0_BANK c).hi ≤ 31 := Nat.le_of_ble_eq_true rfl
  rw [Dev.ceBank, if_pos hst, Dev.bankSwap_eq]
  obtain ⟨hctx, _, hresult, hkeeps⟩ := (s.dev.s (Reg.CTX_W0_BANK c) (b % 2)).updCtxDone_spec hc
    (Ctx.hadBank (s.dev.g (Reg.CTX_W0_BANK c), s.dev.tick))
  refine ⟨?_, by rw [hctx]; rfl, hresult, Dev.keeps_trans (Dev.keeps_s List.mem_cons_self hle h31 (s.dev.keeps_refl _ _))
    (Dev.keeps_mono hkeeps (List.subset_cons_self _ _) (List.Subset.refl _))⟩
  rw [hkeeps.1 _ hle (RF.apart_answer (ctxWord_ne c 0)), Dev.g_s_same _ _ _ hle h31]
  exact Nat.mod_mod _ _

theorem divsyncs {s : State} (hl : s.dev.live = true) {c : Nat} (hc : c < 256) (hb : s.dev.on Reg.CE_CMD_RESULT_BUSY = false)
    (hst : s.dev.ctxState c = 2 ∨ s.dev.ctxState c = 3) : Does s (.divsync c) (fun t =>
      t.g (Reg.CTX_STAT_DIV_CNT c) = s.dev.ctxDiv c - 1 ∧ t.g Reg.CE_CMD_RESULT_RESULT = 0 ∧
      s.dev.keeps t [Reg.CTX_STAT_DIV_CNT c, Reg.CE_CMD_RESULT_BUSY, Reg.CE_CMD_RESULT_RESULT] [.ce]) := by
  refine State.does_ce (op := 9) (eng := 0) (arg := 0) (s.dev.ceDivsync c) rfl hl hb hc rfl ?_
  rw [Dev.ceDivsync, if_pos hst]
  obtain ⟨hcount, hresult, _, _, hkeeps⟩ := s.dev.sDone_spec (Reg.CTX_STAT_DIV_CNT c) (s.dev.ctxDiv c - 1) (Nat.le_of_ble_eq_true rfl)
    (Nat.le_of_ble_eq_true rfl) (ctxStat_ne c)
  refine ⟨hcount.trans (Nat.mod_eq_of_lt ?_), hresult, hkeeps⟩
  have hlt : s.dev.g (Reg.CTX_W1_DIV c) < 256 := Nat.mod_lt _ (Nat.two_pow_pos _)
  have hdiv : s.dev.ctxDiv c - 1 < 256 := by unfold Dev.ctxDiv; omega
  exact hdiv

/-- SHADOW of a context that is triggered as its original is. -/
theorem ceShadows {s : State} (hl : s.dev.live = true) {c : Nat} (hc : c < 256) (hb : s.dev.on Reg.CE_CMD_RESULT_BUSY = false)
    (l : Nat) (hl0 : l = s.dev.g (Reg.CTX_W0_SHADOW_OF c)) (h0 : l ≠ 0) (hst : s.dev.ctxState c = 1) (hrun : s.dev.ctxState l = 2)
    (hsrc : s.dev.g (Reg.CTX_W1_TRIG_SRC c) = s.dev.g (Reg.CTX_W1_TRIG_SRC l))
    (hch : s.dev.g (Reg.CTX_W1_TRIG_CH c) = s.dev.g (Reg.CTX_W1_TRIG_CH l))
    (hcmp : s.dev.g (Reg.CTX_W1_TRIG_CMP c) = s.dev.g (Reg.CTX_W1_TRIG_CMP l)) (hdiv : s.dev.ctxDiv c = s.dev.ctxDiv l)
    (hmin : s.dev.g (Reg.CTX_W2_T_MIN c) = s.dev.g (Reg.CTX_W2_T_MIN l)) : Does s (.ceShadow c) (fun t => t.ctxState c = 3 ∧
      t.g (Reg.CTX_STAT_DIV_CNT c) = s.dev.g (Reg.CTX_STAT_DIV_CNT l) ∧ t.g Reg.CE_CMD_RESULT_RESULT = 0 ∧
      s.dev.keeps t [Reg.CTX_W0_STATE c, Reg.CTX_STAT_DIV_CNT c, Reg.CE_CMD_RESULT_BUSY, Reg.CE_CMD_RESULT_RESULT] [.ce]) := by
  refine State.does_ce (op := 5) (eng := 0) (arg := 0) (s.dev.ceShadow c) rfl hl hb hc rfl ?_
  have hle : (Reg.CTX_W0_STATE c).lo ≤ (Reg.CTX_W0_STATE c).hi := Nat.le_of_ble_eq_true rfl
  have h31 : (Reg.CTX_W0_STATE c).hi ≤ 31 := Nat.le_refl _
  have hlt : s.dev.g (Reg.CTX_STAT_DIV_CNT l) < 256 := Nat.mod_lt _ (Nat.two_pow_pos _)
  rw [Dev.ceShadow, ← hl0]
  rw [if_neg (by simp [hst, h0, hrun]), if_neg (by simp [hsrc, hch, hcmp, hdiv]), if_neg (by simp [hmin])]
  generalize s.dev.g (Reg.CTX_STAT_DIV_CNT l) = n at hlt
  obtain ⟨hcount, hresult, _, _, hkeeps⟩ := (s.dev.s (Reg.CTX_W0_STATE c) 3).sDone_spec (Reg.CTX_STAT_DIV_CNT c) n
    (Nat.le_of_ble_eq_true rfl) (Nat.le_of_ble_eq_true rfl) (ctxStat_ne c)
  have hapart : ∀ f ∈ Reg.CTX_STAT_DIV_CNT c :: answerFields, (Reg.CTX_W0_STATE c).apart f := by
    intro f hf
    rcases List.mem_cons.1 hf with rfl | hf
    · exact .inl (by unfold Reg.CTX_W0_STATE Reg.CTX_STAT_DIV_CNT Reg.CTX_W0 Reg.CTX_STAT; dsimp only; omega)
    · exact RF.apart_answer (ctxState_ne c) f hf
  refine ⟨?_, hcount.trans (Nat.mod_eq_of_lt hlt), hresult, Dev.keeps_trans (Dev.keeps_s List.mem_cons_self hle h31 (s.dev.keeps_refl _ _))
    (Dev.keeps_mono hkeeps (List.subset_cons_self _ _) (List.Subset.refl _))⟩
  rw [Dev.ctxState, hkeeps.1 _ hle hapart, Dev.g_s_same _ _ _ hle h31]
  rfl

/-- CLEAR: the context is STOPPED, and its fault forces no channel any more. -/
theorem ceClears {s : State} (hl : s.dev.live = true) {c : Nat} (hc : c < 256) (hb : s.dev.on Reg.CE_CMD_RESULT_BUSY = false)
    (hst : s.dev.ctxState c = 4) : Does s (.ceClear c) (fun t => t.ctxState c = 1 ∧ t.g (Reg.CTX_STAT_CONSEC_LATE c) = 0 ∧
      t.g Reg.CE_CMD_RESULT_RESULT = 0 ∧ (∀ x, x ∈ t.pwm.conds ↔ x ∈ s.dev.pwm.conds ∧ ¬ (x.why = 5 ∧ x.inst = 1000 + c)) ∧
      s.dev.keeps t [Reg.CTX_W0_STATE c, Reg.CTX_STAT_CONSEC_LATE c, Reg.CE_CMD_RESULT_BUSY, Reg.CE_CMD_RESULT_RESULT] [.ce, .pwm]) := by
  refine State.does_ce (op := 8) (eng := 0) (arg := 0) (s.dev.ceClear c) rfl hl hb hc rfl ?_
  have hle : (Reg.CTX_W0_STATE c).lo ≤ (Reg.CTX_W0_STATE c).hi := Nat.le_of_ble_eq_true rfl
  have hle2 : (Reg.CTX_STAT_CONSEC_LATE c).lo ≤ (Reg.CTX_STAT_CONSEC_LATE c).hi := Nat.zero_le _
  have h31 : (Reg.CTX_STAT_CONSEC_LATE c).hi ≤ 31 := Nat.le_of_ble_eq_true rfl
  rw [Dev.ceClear, if_pos hst]
  generalize hx : (s.dev.s (Reg.CTX_W0_STATE c) 1).s (Reg.CTX_STAT_CONSEC_LATE c) 0 = x
  have hset : s.dev.keeps x [Reg.CTX_W0_STATE c, Reg.CTX_STAT_CONSEC_LATE c, Reg.CE_CMD_RESULT_BUSY, Reg.CE_CMD_RESULT_RESULT] [.ce, .pwm] :=
    hx ▸ Dev.keeps_s (by simp) hle2 h31 (Dev.keeps_s (by simp) hle (Nat.le_refl _) (s.dev.keeps_refl _ _))
  have hstate : x.g (Reg.CTX_W0_STATE c) = 1 := by
    rw [← hx, Dev.g_s_other _ _ _ _ (by unfold Reg.CTX_W0_STATE Reg.CTX_STAT_CONSEC_LATE Reg.CTX_W0 Reg.CTX_STAT; dsimp only; omega),
      Dev.g_s_same _ _ _ hle (Nat.le_refl _)]
    rfl
  have hlate : x.g (Reg.CTX_STAT_CONSEC_LATE c) = 0 := by
    rw [← hx, Dev.g_s_same _ _ _ hle2 h31]
    exact Nat.zero_mod _
  have hconds : x.pwm = s.dev.pwm := by rw [← hx, Dev.s_pwm, Dev.s_pwm]
  obtain ⟨_, hresult, _, hkeeps⟩ := (x.ctxUnfault c).ceDone_spec
  have hunfault : x.keeps (x.ctxUnfault c) [] [.ce, .pwm] := Dev.keeps_withPwm (by simp) (x.keeps_refl _ _)
  refine ⟨?_, ?_, hresult, fun y => ?_, Dev.keeps_trans hset (Dev.keeps_trans (Dev.keeps_mono hunfault (by simp) (List.Subset.refl _))
    (Dev.keeps_mono hkeeps (by simp [answerFields]) (by simp)))⟩
  · rw [Dev.ctxState, Dev.g_ceDone _ hle (ctxState_ne c), hunfault.1 _ hle (by simp), hstate]
  · rw [Dev.g_ceDone _ hle2 (ctxStat_ne c), hunfault.1 _ hle2 (by simp), hlate]
  · rw [show (x.ctxUnfault c).ceDone.pwm = (x.ctxUnfault c).pwm from hkeeps.2 .pwm (by decide), Dev.ctxUnfault, Dev.forceOff, hconds]
    simp [-not_and, not_and_or]

/-! ## UNLOAD -/

/-- The fields that an emptied entry puts back. -/
def entryFields (c : Nat) : List RF := Reg.CE_MIG_STAT_ABSORBED :: (List.range 8).map fun w => RF.whole (Reg.CTX_W0 c + 4 * w)

/-- The words of an entry at their reset values. -/
def Dev.entryReset (d : Dev) (c : Nat) : Dev :=
  d.each (List.range 8) fun d w => d.setWord (Reg.CTX_W0 c + 4 * w) (regReset (Reg.CTX_W0 c + 4 * w)).toNat

theorem Dev.entryReset_word (d : Dev) (c : Nat) : ∀ w ∈ List.range 8, (d.entryReset c).word (Reg.CTX_W0 c + 4 * w) =
    (regReset (Reg.CTX_W0 c + 4 * w)).toNat := by
  have hsame (x : Dev) (w : Nat) : (x.setWord (Reg.CTX_W0 c + 4 * w) (regReset (Reg.CTX_W0 c + 4 * w)).toNat).word (Reg.CTX_W0 c + 4 * w) =
      (regReset (Reg.CTX_W0 c + 4 * w)).toNat := by
    rw [Dev.word_setWord_same]
    exact Nat.mod_eq_of_lt (BitVec.isLt _)
  refine Dev.each_all (Q := fun w x => x.word (Reg.CTX_W0 c + 4 * w) = (regReset (Reg.CTX_W0 c + 4 * w)).toNat) (List.range 8)
    (fun x w _ => hsame x w) (fun x w hw v hv => ?_) d
  by_cases he : v = w
  · rw [he]
    exact hsame x w
  · rw [Dev.word_setWord_other _ _ (by omega), hv]

theorem Dev.entryReset_keeps (d : Dev) (c : Nat) (ps : List Part) : d.keeps (d.entryReset c) (entryFields c) ps :=
  Dev.keeps_each _ _ (fun x _ hw => Dev.keeps_setWord (List.mem_cons_of_mem _ (List.mem_map_of_mem hw)) (x.keeps_refl _ _)) (d.keeps_refl _ _)

theorem Dev.ctxEmpty_eq (d : Dev) (c : Nat) : d.ctxEmpty c =
    let x := (((d.ctxDrop c).ctxUnfault c).entryReset c).updCtx c (fun _ => {})
    x.when (!ctxNumbers.any (fun k => (x.ctx k).moved)) (fun d => d.s Reg.CE_MIG_STAT_ABSORBED 0) := by
  unfold Dev.ctxEmpty Dev.entryReset
  dsimp only

theorem Dev.ctxDrop_ctx (d : Dev) {c k : Nat} (hk : k ≠ c) : (d.ctxDrop c).ctx k = d.ctx k := Dev.ctx_updCtx_other (d.unqueue c) _ hk

theorem Dev.ctxDrop_keeps (d : Dev) (c : Nat) (fs : List RF) : d.keeps (d.ctxDrop c) fs [.ce] :=
  Dev.keeps_updCtx (Dev.keeps_withCe (by simp) (d.keeps_refl _ _)) _ _ (by simp)

theorem Dev.ctxUnfault_keeps (d : Dev) (c : Nat) (fs : List RF) : d.keeps (d.ctxUnfault c) fs [.pwm] := Dev.keeps_withPwm (by simp) (d.keeps_refl _ _)

theorem Dev.word_updCtx (d : Dev) (c : Nat) (f : Ctx → Ctx) (k : Nat) : (d.updCtx c f).word k = d.word k := rfl

/-- An entry emptied: its words at reset, its own state at reset, the others' as before. -/
theorem Dev.ctxEmpty_spec (d : Dev) {c : Nat} (hc : c < 256) :
    (∀ w < 8, (d.ctxEmpty c).word (Reg.CTX_W0 c + 4 * w) = State.reset.dev.word (Reg.CTX_W0 c + 4 * w)) ∧ (d.ctxEmpty c).ctx c = {} ∧
    (∀ k, k ≠ c → (d.ctxEmpty c).ctx k = d.ctx k) ∧ d.keeps (d.ctxEmpty c) (entryFields c) [.ce, .pwm] := by
  rw [Dev.ctxEmpty_eq]
  have hdrop := d.ctxDrop_keeps c (entryFields c)
  have hother {k : Nat} (hk : k ≠ c) := d.ctxDrop_ctx hk
  generalize d.ctxDrop c = v at hdrop hother
  have hunfault := v.ctxUnfault_keeps c (entryFields c)
  generalize v.ctxUnfault c = x at hunfault
  have hwords := x.entryReset_word c
  have hreset := x.entryReset_keeps c []
  generalize x.entryReset c = y at hwords hreset
  dsimp only
  generalize (!ctxNumbers.any fun k => ((y.updCtx c fun _ => {}).ctx k).moved) = b
  have hshow : (y.updCtx c fun _ => {}).keeps ((y.updCtx c fun _ => {}).when b fun d => d.s Reg.CE_MIG_STAT_ABSORBED 0)
      [Reg.CE_MIG_STAT_ABSORBED] [] :=
    Dev.keeps_when (fun e => Dev.keeps_s (by simp) (by decide) (by decide) (e.keeps_refl _ _)) (Dev.keeps_refl _ _ _)
  have hce := hshow.2 .ce (by simp)
  have hempty : d.keeps (y.updCtx c fun _ => {}) (entryFields c) [.ce, .pwm] := by
    refine Dev.keeps_updCtx ?_ _ _ (by simp)
    exact Dev.keeps_trans (Dev.keeps_mono hdrop (List.Subset.refl _) (by simp)) (Dev.keeps_trans
      (Dev.keeps_mono hunfault (List.Subset.refl _) (by simp)) (Dev.keeps_mono hreset (List.Subset.refl _) (by simp)))
  refine ⟨fun w hw => ?_, ?_, fun k hk => ?_, Dev.keeps_trans hempty (Dev.keeps_mono hshow (by simp [entryFields]) (by simp))⟩
  · rw [Dev.word_of_keeps hshow (by unfold Reg.CTX_W0 Reg.CE_MIG_STAT_ABSORBED Reg.CE_MIG_STAT; simp; omega), Dev.word_updCtx, State.reset_word]
    exact hwords w (List.mem_range.2 hw)
  · rw [Dev.ctx_of_ce (congrArg Ce.ctxs hce), Dev.ctx_updCtx_same _ _ _ hc]
  · have hsame : y.ctx k = v.ctx k :=
      Dev.ctx_of_ce (congrArg Ce.ctxs (Part.same_trans (p := .ce) (hunfault.2 .ce (by decide)) (hreset.2 .ce (by simp)))) k
    rw [Dev.ctx_of_ce (congrArg Ce.ctxs hce), Dev.ctx_updCtx_other _ _ hk, hsame, hother hk]

/-- At reset every entry is EMPTY. -/
theorem reset_ctxState : ∀ c < 256, bits (State.reset.dev.word (Reg.CTX_W0 c)) 31 29 = 0 := by decide +kernel

theorem ceUnloads {s : State} (hl : s.dev.live = true) {c : Nat} (hc : c < 256) (hb : s.dev.on Reg.CE_CMD_RESULT_BUSY = false)
    (hst : s.dev.ctxState c = 1 ∨ s.dev.ctxState c = 4) (ha : s.dev.armedBind c = 0) : Does s (.ceUnload c) (fun t => t.ctxState c = 0 ∧
      t.g Reg.CE_CMD_RESULT_RESULT = 0 ∧ (∀ w < 8, t.word (Reg.CTX_W0 c + 4 * w) = State.reset.dev.word (Reg.CTX_W0 c + 4 * w)) ∧
      t.ctx c = {} ∧ (∀ k, k ≠ c → t.ctx k = s.dev.ctx k) ∧ ∀ a, t.byte a = s.dev.byte a) := by
  refine State.does_ce (op := 4) (eng := 0) (arg := 0) (s.dev.ceUnload c) rfl hl hb hc rfl ?_
  rw [Dev.ceUnload, if_neg (by omega), if_neg (by omega)]
  obtain ⟨hwords, hctx, hother, hempty⟩ := s.dev.ctxEmpty_spec hc
  generalize s.dev.ctxEmpty c = x at hwords hctx hother hempty
  obtain ⟨_, hresult, _, hkeeps⟩ := x.ceDone_spec
  have hword {w : Nat} (hw : w < 8) : x.ceDone.word (Reg.CTX_W0 c + 4 * w) = State.reset.dev.word (Reg.CTX_W0 c + 4 * w) := by
    rw [Dev.word_of_keeps hkeeps, hwords w hw]
    simp only [answerFields, List.mem_cons, List.not_mem_nil, or_false, forall_eq_or_imp, forall_eq]
    exact ⟨ctxWord_ne c w, ctxWord_ne c w⟩
  refine ⟨?_, hresult, fun w hw => hword hw, by rw [Dev.ctx_ceDone, hctx], fun k hk => by rw [Dev.ctx_ceDone, hother k hk],
    Part.same_trans (p := .mem) (hempty.2 .mem (by decide)) (hkeeps.2 .mem (by decide))⟩
  exact (congrArg (bits · 31 29) (hword (w := 0) (by decide))).trans (reset_ctxState c hc)

theorem ceCommands_hold : ceCommands := by
  intro s hl c hc
  refine ⟨fun hb i hi => ?_, fun hb => ⟨ceStarts hl hc hb, ceRefusals hl hc hb, fun hst ha => ⟨ceStops_idle hl hc hb hst ha,
    ceStops_running hl hc hb hst ha⟩, ceStops_bound hl hc hb, ceUnloads hl hc hb, ceShadows hl hc hb, ceHandovers hl hc hb,
    ceBanks hl hc hb, ceClears hl hc hb, divsyncs hl hc hb⟩⟩
  simp only [List.mem_cons, List.not_mem_nil, or_false] at hi
  rcases hi with rfl | rfl | rfl | rfl | rfl | rfl | rfl | rfl | rfl | rfl | rfl
  · exact exec_ce_busy (op := 2) (eng := 0) (arg := 0) (c := c % 256) rfl hb
  · exact exec_ce_busy (op := 3) (eng := 0) (arg := 0) (c := c % 256) rfl hb
  · exact exec_ce_busy (op := 4) (eng := 0) (arg := 0) (c := c % 256) rfl hb
  · exact exec_ce_busy (op := 5) (eng := 0) (arg := 0) (c := c % 256) rfl hb
  · exact exec_ce_busy (op := 6) (eng := 0) (arg := 0) (c := c % 256) rfl hb
  · exact exec_ce_busy (op := 7) (eng := 0) (arg := 0) (c := c % 256) rfl hb
  · exact exec_ce_busy (op := 8) (eng := 0) (arg := 0) (c := c % 256) rfl hb
  · exact exec_ce_busy (op := 9) (eng := 0) (arg := 0) (c := c % 256) rfl hb
  · exact exec_ce_busy (op := 1) (eng := 15 % 16) (arg := 0) (c := c % 256) rfl hb
  · exact exec_ce_busy (op := 10) (eng := 0 % 16) (arg := 0) (c := 0) rfl hb
  · exact exec_ce_busy (op := 11) (eng := 0 % 16) (arg := 0) (c := 0) rfl hb

end Sys2Proof.Machine
end

section
/-! PROOFS. LOAD: what it refuses, and the entry that it fills (R77, R86). -/

namespace Sys2Proof.Machine

/-- Fields written one after another. -/
def Dev.writes (d : Dev) (l : List (RF × Nat)) : Dev := l.foldl (fun d w => d.s w.1 w.2) d

/-- A field of the 32-bit registers. -/
def RF.fits (f : RF) : Prop := f.lo ≤ f.hi ∧ f.hi ≤ 31

theorem Dev.writes_keeps {d : Dev} {l : List (RF × Nat)} (hl : ∀ w ∈ l, w.1.fits) (ps : List Part) :
    d.keeps (d.writes l) (l.map Prod.fst) ps := by
  have hall : ∀ m ⊆ l, ∀ x : Dev, d.keeps x (l.map Prod.fst) ps → d.keeps (x.writes m) (l.map Prod.fst) ps := by
    intro m
    induction m with
    | nil => exact fun _ _ h => h
    | cons w m ih =>
      intro hm x h
      obtain ⟨hw, hm⟩ := List.cons_subset.1 hm
      exact ih hm _ (Dev.keeps_s (List.mem_map_of_mem hw) (hl w hw).1 (hl w hw).2 h)
  exact hall l (List.Subset.refl _) d (d.keeps_refl _ _)

/-- Fields of which none shares a bit with a later one. -/
def apartInOrder (l : List (RF × Nat)) : Prop := l.Pairwise fun w v => w.1.apart v.1

/-- Each of the fields reads as written. -/
theorem Dev.g_writes {l : List (RF × Nat)} (hl : ∀ w ∈ l, w.1.fits) (ha : apartInOrder l) :
    ∀ (d : Dev), ∀ w ∈ l, (d.writes l).g w.1 = w.1.cut w.2 := by
  unfold apartInOrder at ha
  induction l with
  | nil => simp
  | cons w m ih =>
    intro d v hv
    obtain ⟨hw, hm⟩ := List.forall_mem_cons.1 hl
    obtain ⟨hwa, hma⟩ := List.pairwise_cons.1 ha
    rcases List.mem_cons.1 hv with rfl | hv
    · have hlater := (Dev.writes_keeps (d := d.s v.1 v.2) hm []).1 v.1 hw.1 (by simpa using fun f n h => hwa (f, n) h)
      exact hlater.trans (d.g_s_same _ _ hw.1 hw.2)
    · exact ih hm hma _ v hv

/-- The entry's place and active bank. -/
def placeHead (c : Nat) (p : Placing) : List (RF × Nat) := [(Reg.CTX_W0_ENG c, p.eng), (Reg.CTX_W0_BANK c, 0)]

/-- The loader's other fields of an entry. -/
def placeTail (c : Nat) (im : ImageInfo) (p : Placing) : List (RF × Nat) :=
  [(Reg.CTX_W4_BANK_LEN c, im.bank), (Reg.CTX_W4_N c, im.n), (Reg.CTX_W5_PROG_LEN c, im.prog), (Reg.CTX_W5_PROG_BASE c, p.prog),
    (Reg.CTX_W6_STATE_LEN c, im.state), (Reg.CTX_W6_STATE_BASE c, p.data), (Reg.CTX_W7_BANK0_BASE c, p.data + im.state),
    (Reg.CTX_W7_BANK1_BASE c, p.data + im.state + im.bank)]

/-- A warm copy denied is shown and raised. -/
def Dev.warmDenied (d : Dev) (c : Nat) (b : Bool) : Dev := if b then (d.s (Reg.CTX_W0_MIG c) 1).raise Err.CE_WARM_DENIED [c] else d

theorem Dev.ctxPlace_eq (d : Dev) (c : Nat) (im : ImageInfo) (p : Placing) : d.ctxPlace c im p =
    (((d.writes (placeHead c p)).warmDenied c p.denied).writes (placeTail c im p)).updCtx c fun _ => { warm := p.warm } := by
  unfold Dev.ctxPlace Dev.writes Dev.warmDenied placeHead placeTail
  dsimp only [List.foldl_cons, List.foldl_nil]

theorem Dev.warmDenied_keeps (d : Dev) (c : Nat) (b : Bool) : d.keeps (d.warmDenied c b) [Reg.CTX_W0_MIG c] [.raised] := by
  unfold Dev.warmDenied
  split
  · exact Dev.keeps_raise (by simp) (Dev.keeps_s (by simp) (Nat.le_of_ble_eq_true rfl) (Nat.le_of_ble_eq_true rfl) (d.keeps_refl _ _))
  · exact d.keeps_refl _ _

theorem placeHead_fits (c : Nat) (p : Placing) : ∀ w ∈ placeHead c p, w.1.fits := by
  simp [placeHead, RF.fits, Reg.CTX_W0_ENG, Reg.CTX_W0_BANK]

theorem placeTail_fits (c : Nat) (im : ImageInfo) (p : Placing) : ∀ w ∈ placeTail c im p, w.1.fits := by
  simp [placeTail, RF.fits, Reg.CTX_W4_BANK_LEN, Reg.CTX_W4_N, Reg.CTX_W5_PROG_LEN, Reg.CTX_W5_PROG_BASE, Reg.CTX_W6_STATE_LEN,
    Reg.CTX_W6_STATE_BASE, Reg.CTX_W7_BANK0_BASE, Reg.CTX_W7_BANK1_BASE]

theorem placeTail_ne (c : Nat) (im : ImageInfo) (p : Placing) : ∀ w ∈ placeTail c im p, w.1.key ≠ Reg.CE_CMD_RESULT := by
  simp [placeTail, Reg.CTX_W4_BANK_LEN, Reg.CTX_W4_N, Reg.CTX_W5_PROG_LEN, Reg.CTX_W5_PROG_BASE, Reg.CTX_W6_STATE_LEN,
    Reg.CTX_W6_STATE_BASE, Reg.CTX_W7_BANK0_BASE, Reg.CTX_W7_BANK1_BASE, Reg.CTX_W4, Reg.CTX_W5, Reg.CTX_W6, Reg.CTX_W7, Reg.CE_CMD_RESULT]
  omega

theorem placeHead_apart (c : Nat) (p : Placing) : apartInOrder (placeHead c p) := by
  simp [apartInOrder, placeHead, RF.apart, Reg.CTX_W0_ENG, Reg.CTX_W0_BANK]

theorem placeTail_apart (c : Nat) (im : ImageInfo) (p : Placing) : apartInOrder (placeTail c im p) := by
  simp [apartInOrder, placeTail, RF.apart, Reg.CTX_W4_BANK_LEN, Reg.CTX_W4_N, Reg.CTX_W5_PROG_LEN, Reg.CTX_W5_PROG_BASE, Reg.CTX_W6_STATE_LEN,
    Reg.CTX_W6_STATE_BASE, Reg.CTX_W7_BANK0_BASE, Reg.CTX_W7_BANK1_BASE, Reg.CTX_W4, Reg.CTX_W5, Reg.CTX_W6, Reg.CTX_W7]

/-- A field of a context's entry is apart from the answers. -/
theorem Dev.g_ceBegin (d : Dev) (b : CeBusy) {f : RF} (hf : f.lo ≤ f.hi) (h : f.key ≠ Reg.CE_CMD_RESULT) : (d.ceBegin b).g f = d.g f :=
  (d.ceBegin_spec b).2.2.1 f hf (RF.apart_answer h)

/-- The fields of the head stay while the rest of the entry is filled. -/
theorem Dev.g_placeHead (d : Dev) (c : Nat) (im : ImageInfo) (p : Placing) {w : RF × Nat} (hw : w ∈ placeHead c p) :
    (d.ctxPlace c im p).g w.1 = w.1.cut w.2 := by
  have hfits := placeHead_fits c p w hw
  rw [Dev.ctxPlace_eq, Dev.g_updCtx, (Dev.writes_keeps (placeTail_fits c im p) []).1 w.1 hfits.1, (Dev.warmDenied_keeps _ c _).1 w.1 hfits.1,
    Dev.g_writes (placeHead_fits c p) (placeHead_apart c p) d w hw]
  · simp only [placeHead, List.mem_cons, List.not_mem_nil, or_false] at hw
    rcases hw with rfl | rfl
    · simp [RF.apart, Reg.CTX_W0_ENG, Reg.CTX_W0_MIG]
    · simp [RF.apart, Reg.CTX_W0_BANK, Reg.CTX_W0_MIG]
  · have hkey : w.1.key = Reg.CTX_W0 c := by
      simp only [placeHead, List.mem_cons, List.not_mem_nil, or_false] at hw
      rcases hw with rfl | rfl
      · rfl
      · rfl
    intro f hf
    left
    rw [hkey]
    revert f
    simp [placeTail, Reg.CTX_W4_BANK_LEN, Reg.CTX_W4_N, Reg.CTX_W5_PROG_LEN, Reg.CTX_W5_PROG_BASE, Reg.CTX_W6_STATE_LEN,
      Reg.CTX_W6_STATE_BASE, Reg.CTX_W7_BANK0_BASE, Reg.CTX_W7_BANK1_BASE, Reg.CTX_W0, Reg.CTX_W4, Reg.CTX_W5, Reg.CTX_W6, Reg.CTX_W7]

theorem Dev.g_placeTail (d : Dev) (c : Nat) (im : ImageInfo) (p : Placing) {w : RF × Nat} (hw : w ∈ placeTail c im p) :
    (d.ctxPlace c im p).g w.1 = w.1.cut w.2 := by
  rw [Dev.ctxPlace_eq, Dev.g_updCtx]
  exact Dev.g_writes (placeTail_fits c im p) (placeTail_apart c im p) _ w hw

theorem Dev.byte_updCtx (d : Dev) (c : Nat) (f : Ctx → Ctx) (a : Nat) : (d.updCtx c f).byte a = d.byte a := rfl

/-- LOAD fills the entry of its context: the other contexts' own states and the bytes stay. -/
theorem Dev.ctxPlace_kept (d : Dev) (c : Nat) (im : ImageInfo) (p : Placing) : (∀ k, k ≠ c → (d.ctxPlace c im p).ctx k = d.ctx k) ∧
    ∀ a, (d.ctxPlace c im p).byte a = d.byte a := by
  rw [Dev.ctxPlace_eq]
  have hhead := Dev.writes_keeps (d := d) (placeHead_fits c p) []
  generalize d.writes (placeHead c p) = x at hhead
  have hwarm := x.warmDenied_keeps c p.denied
  generalize x.warmDenied c p.denied = y at hwarm
  have htail := Dev.writes_keeps (d := y) (placeTail_fits c im p) []
  generalize y.writes (placeTail c im p) = z at htail
  have hpart {q : Part} (hq : q ≠ .raised) : q.same d z :=
    Part.same_trans (hhead.2 q (by simp)) (Part.same_trans (hwarm.2 q (by simpa using hq)) (htail.2 q (by simp)))
  refine ⟨fun k hk => ?_, fun a => (z.byte_updCtx c _ a).trans (hpart (q := .mem) (by decide) a)⟩
  rw [Dev.ctx_updCtx_other _ _ hk]
  exact Dev.ctx_of_ce (congrArg Ce.ctxs (hpart (q := .ce) (by decide))) k

theorem ceLoads_refused {s : State} (hl : s.dev.live = true) (hb : s.dev.on Reg.CE_CMD_RESULT_BUSY = false) {c e w : Nat} (hc : c < 256)
    (he : e < 16) (hp : s.dev.loadParam c e = some w) : Does s (.ceLoad c e) (fun t => t.g Reg.CE_CMD_RESULT_RESULT = Err.CE_ADM_PARAM ∧
      t.raised = s.dev.plusRecord Err.CE_ADM_PARAM [c, w] ∧
      s.dev.keeps t [Reg.CE_CMD_RESULT_BUSY, Reg.CE_CMD_RESULT_RESULT] [.ce, .raised]) := by
  refine State.does_ce (op := 1) (eng := e % 16) (arg := 0) (s.dev.ceLoad c (e % 16)) rfl hl hb hc rfl ?_
  rw [Nat.mod_eq_of_lt he, Dev.ceLoad, hp]
  obtain ⟨hresult, _, hraised, _, hkeeps⟩ := s.dev.ceRefuse_spec (code := Err.CE_ADM_PARAM) (by decide) [c, w]
  exact ⟨hresult, hraised, hkeeps⟩

/-- LOAD on an engine that admits the context. -/
theorem Dev.ceLoad_admitted (d : Dev) {c e : Nat} {im : ImageInfo} {p : Placing} (he : e < 12) (hp : d.loadParam c e = none)
    (hst : d.ctxState c = 0) (hf : d.on (Reg.ENG_STAT_FAULT e) = false) (him : d.imgCheck (d.word Reg.CE_IMG_ADDR) = .ok im)
    (ha : d.tookFree.tookFree.admitOn e c im d.freeVal d.tookFree.freeVal = .ok p) :
    d.ceLoad c e = (d.tookFree.tookFree.ctxPlace c im p).ceBegin ⟨1, p.eng, c, 0⟩ := by
  have hcand : d.candidates e = [e] := by
    rw [Dev.candidates, if_neg (by omega), hf]
    rfl
  rw [Dev.ceLoad, hp]
  dsimp only
  rw [if_neg (by simp [hst]), him]
  dsimp only
  rw [hcand, if_neg (by simp)]
  simp [ha]

theorem ceLoads {s : State} (hl : s.dev.live = true) (hb : s.dev.on Reg.CE_CMD_RESULT_BUSY = false) {c e : Nat} (hc : c < 256) (he : e < 12)
    (hp : s.dev.loadParam c e = none) (hst : s.dev.ctxState c = 0) (hf : s.dev.on (Reg.ENG_STAT_FAULT e) = false) (im : ImageInfo)
    (him : s.dev.imgCheck (s.dev.word Reg.CE_IMG_ADDR) = .ok im) (f : Dev) (hff : f = s.dev.tookFree.tookFree) (p : Placing)
    (ha : f.admitOn e c im s.dev.freeVal s.dev.tookFree.freeVal = .ok p) : Does s (.ceLoad c e) (fun t =>
      t.on Reg.CE_CMD_RESULT_BUSY = true ∧ t.ce.busy = some ⟨1, p.eng, c, 0⟩ ∧ t.ctxEng c = (Reg.CTX_W0_ENG c).cut p.eng ∧
      t.g (Reg.CTX_W0_BANK c) = 0 ∧ t.g (Reg.CTX_W4_N c) = (Reg.CTX_W4_N c).cut im.n ∧
      t.g (Reg.CTX_W5_PROG_BASE c) = (Reg.CTX_W5_PROG_BASE c).cut p.prog ∧ t.g (Reg.CTX_W5_PROG_LEN c) = (Reg.CTX_W5_PROG_LEN c).cut im.prog ∧
      t.g (Reg.CTX_W6_STATE_BASE c) = (Reg.CTX_W6_STATE_BASE c).cut p.data ∧ (∀ k, k ≠ c → t.ctx k = s.dev.ctx k) ∧
      ∀ a, t.byte a = s.dev.byte a) := by
  subst hff
  refine State.does_ce (op := 1) (eng := e % 16) (arg := 0) (s.dev.ceLoad c (e % 16)) rfl hl hb hc rfl ?_
  rw [Nat.mod_eq_of_lt (by omega : e < 16), s.dev.ceLoad_admitted he hp hst hf him ha]
  obtain ⟨hctx, hbyte⟩ := s.dev.tookFree.tookFree.ctxPlace_kept c im p
  have hhead {w : RF × Nat} (hw : w ∈ placeHead c p) := s.dev.tookFree.tookFree.g_placeHead c im p hw
  have htail {w : RF × Nat} (hw : w ∈ placeTail c im p) := s.dev.tookFree.tookFree.g_placeTail c im p hw
  generalize s.dev.tookFree.tookFree.ctxPlace c im p = x at hctx hbyte hhead htail
  obtain ⟨hbusy, hce, hkeeps⟩ := x.ceBegin_spec ⟨1, p.eng, c, 0⟩
  have head {w : RF × Nat} (hw : w ∈ placeHead c p) (hk : w.1.key = Reg.CTX_W0 c) : (x.ceBegin ⟨1, p.eng, c, 0⟩).g w.1 = w.1.cut w.2 :=
    (x.g_ceBegin _ (placeHead_fits c p w hw).1 (hk ▸ ctxWord_ne c 0)).trans (hhead hw)
  have tail {w : RF × Nat} (hw : w ∈ placeTail c im p) : (x.ceBegin ⟨1, p.eng, c, 0⟩).g w.1 = w.1.cut w.2 :=
    (x.g_ceBegin _ (placeTail_fits c im p w hw).1 (placeTail_ne c im p w hw)).trans (htail hw)
  refine ⟨hbusy, by rw [hce], ?_, ?_, ?_, ?_, ?_, ?_, fun k hk => ?_, Part.same_trans (p := .mem) hbyte (hkeeps.2 .mem (by decide))⟩
  · exact head (w := (Reg.CTX_W0_ENG c, p.eng)) (by simp [placeHead]) rfl
  · exact (head (w := (Reg.CTX_W0_BANK c, 0)) (by simp [placeHead]) rfl).trans (Nat.zero_mod _)
  · exact tail (w := (Reg.CTX_W4_N c, im.n)) (by simp [placeTail])
  · exact tail (w := (Reg.CTX_W5_PROG_BASE c, p.prog)) (by simp [placeTail])
  · exact tail (w := (Reg.CTX_W5_PROG_LEN c, im.prog)) (by simp [placeTail])
  · exact tail (w := (Reg.CTX_W6_STATE_BASE c, p.data)) (by simp [placeTail])
  · rw [Dev.ctx_of_ce (d := x) (by rw [hce]), hctx k hk]
    rfl

end Sys2Proof.Machine
end

section
/-! PROOFS. EVACUATE and RESET_ENG, and the ends of the CE commands that go on (R23, R85, R86, R97, R98). -/

namespace Sys2Proof.Machine

/-! ## EVACUATE (R98) -/

/-- Two steps that agree where `I` holds, and keep it, lead to the same. -/
theorem Dev.each_congr {α : Type} {I : Dev → Prop} {f g : Dev → α → Dev} {l : List α}
    (hstep : ∀ x, ∀ a ∈ l, I x → f x a = g x a ∧ I (g x a)) : ∀ d, I d → d.each l f = d.each l g := by
  unfold Dev.each
  induction l with
  | nil => exact fun _ _ => rfl
  | cons a m ih =>
    intro d hd
    obtain ⟨heq, hnext⟩ := hstep d a List.mem_cons_self hd
    rw [List.foldl_cons, List.foldl_cons, heq]
    exact ih (fun x b hb => hstep x b (List.mem_cons_of_mem _ hb)) _ hnext

/-- The mark of a context that moves at its next output write. -/
def Ctx.evacuates (x : Ctx) : Ctx := { x with evac := true }

/-- The contexts of a list marked. -/
def Dev.markEvac (d : Dev) (l : List Nat) : Dev := d.each l fun d x => d.updCtx x Ctx.evacuates

theorem Dev.engCtxs_lt {d : Dev} {e c : Nat} (h : c ∈ d.engCtxs e) : c < 256 := by
  obtain ⟨n, hn, rfl⟩ := List.mem_map.1 (List.mem_filter.1 h).1
  have := List.mem_range.1 hn
  omega

theorem Dev.markEvac_evac (d : Dev) {l : List Nat} (hl : ∀ c ∈ l, c < 256) : ∀ c ∈ l, ((d.markEvac l).ctx c).evac = true := by
  refine Dev.each_all (Q := fun c x => (x.ctx c).evac = true) l (fun x c hc => ?_) (fun x c hc b hb => ?_) d
  · rw [Dev.ctx_updCtx_same _ _ _ (hl c hc)]
    rfl
  · by_cases he : b = c
    · rw [he, Dev.ctx_updCtx_same _ _ _ (hl c hc)]
      rfl
    · rw [Dev.ctx_updCtx_other _ _ he, hb]

theorem Dev.markEvac_keeps (d : Dev) (l : List Nat) (fs : List RF) : d.keeps (d.markEvac l) fs [.ce] :=
  Dev.keeps_each _ _ (fun x _ _ => Dev.keeps_updCtx (x.keeps_refl _ _) _ _ (by simp)) (d.keeps_refl _ _)

/-- EVACUATE of an engine whose contexts all run, to a spare that holds none: each is marked. -/
theorem Dev.ceEvacuate_marks (d : Dev) {e : Nat} (he : e < 12) (hsp : e ≠ d.spare) (hbusy : d.spareBusy e = 0)
    (hf : d.on (Reg.ENG_STAT_FAULT e) = false) (hfree : d.occupants d.spare = [])
    (hruns : ∀ x ∈ d.engCtxs e, d.gapShort x = 0 ∧ (d.ctxState x = 2 ∨ d.ctxState x = 3)) :
    d.ceEvacuate e 0 = (d.markEvac (d.engCtxs e)).ceBegin ⟨10, e, 0, 0⟩ := by
  have hgap : (d.engCtxs e).find? (fun x => d.gapShort x != 0) = none :=
    List.find?_eq_none.2 fun x hx => by simp [(hruns x hx).1]
  have hclash : (d.engCtxs e).find? (fun x => ((d.occupants d.spare).filter fun y => y != x).any fun y =>
      Region.meets (d.progRegion x) (d.progRegion y) || (d.dataRegions x).any fun r => (d.dataRegions y).any fun q => Region.meets r q) = none :=
    List.find?_eq_none.2 fun x _ => by simp [hfree]
  have hmarks : d.each (d.engCtxs e) (fun d x =>
      if d.ctxState x = 2 ∨ d.ctxState x = 3 then d.updCtx x (fun y => { y with evac := true })
      else ((d.updCtx x (fun y => { y with migFrom := d.ctxState x })).copyCtx x e d.spare).ctxMoved x) = d.markEvac (d.engCtxs e) := by
    refine Dev.each_congr (I := fun x => ∀ c, x.ctxState c = d.ctxState c) (fun x c hc hx => ?_) d fun _ => rfl
    exact ⟨if_pos (by rw [hx]; exact (hruns c hc).2), fun k => (Dev.g_updCtx _ _ _ _).trans (hx k)⟩
  unfold Dev.ceEvacuate
  rw [if_neg (by omega), if_neg hsp]
  dsimp only
  rw [hgap]
  dsimp only
  rw [if_neg (by simp [hbusy, hf]), hclash]
  dsimp only
  rw [hmarks]

theorem evacuates {s : State} (hl : s.dev.live = true) (hb : s.dev.on Reg.CE_CMD_RESULT_BUSY = false) {e : Nat} (he : e < 12)
    (hsp : e ≠ s.dev.spare) (hbusy : s.dev.spareBusy e = 0) (hf : s.dev.on (Reg.ENG_STAT_FAULT e) = false)
    (hfree : s.dev.occupants s.dev.spare = [])
    (hruns : ∀ x ∈ s.dev.engCtxs e, s.dev.gapShort x = 0 ∧ (s.dev.ctxState x = 2 ∨ s.dev.ctxState x = 3)) :
    Does s (.evacuate e) (fun t => t.on Reg.CE_CMD_RESULT_BUSY = true ∧ t.ce.busy = some ⟨10, e, 0, 0⟩ ∧
      (∀ x ∈ s.dev.engCtxs e, (t.ctx x).evac = true) ∧ s.dev.keeps t [Reg.CE_CMD_RESULT_BUSY, Reg.CE_CMD_RESULT_RESULT] [.ce]) := by
  refine State.does_ce (op := 10) (eng := e % 16) (arg := 0) (c := 0) (s.dev.ceEvacuate (e % 16) 0) rfl hl hb (by decide) rfl ?_
  rw [Nat.mod_eq_of_lt (by omega : e < 16), s.dev.ceEvacuate_marks he hsp hbusy hf hfree hruns]
  have hmarked := s.dev.markEvac_evac (l := s.dev.engCtxs e) fun c hc => Dev.engCtxs_lt hc
  have hkept := s.dev.markEvac_keeps (s.dev.engCtxs e) answerFields
  generalize s.dev.markEvac (s.dev.engCtxs e) = x at hmarked hkept
  obtain ⟨hgoes, hce, hkeeps⟩ := x.ceBegin_spec ⟨10, e, 0, 0⟩
  refine ⟨hgoes, by rw [hce], fun c hc => ?_, Dev.keeps_trans hkept hkeeps⟩
  rw [Dev.ctx_of_ce (d := x) (by rw [hce]), hmarked c hc]

/-! ## RESET_ENG (R23, R97) -/

/-- The device with the contexts of an engine idle. -/
def Dev.idleCtxs (d : Dev) (e : Nat) : Dev := d.each (d.engCtxs e) fun d c => d.updCtx c fun x => { x with phase := .idle, outDue := none }

/-- What a reset leaves of an engine: when its signature test is due. -/
def Eng.resets (g : Eng) : Eng := { ({} : Eng) with sigDue := g.sigDue }

theorem Dev.engReset_eq (d : Dev) (e : Nat) : d.engReset e = (d.idleCtxs e).updEng e Eng.resets := rfl

theorem Dev.idleCtxs_eng (d : Dev) (e k : Nat) : (d.idleCtxs e).eng k = d.eng k :=
  Dev.each_rel (R := fun x y => ∀ k, y.eng k = x.eng k) (fun _ _ => rfl) (fun h g k => (g k).trans (h k)) _ _ (fun x c => x.eng_updCtx c _) d k

theorem Dev.engReset_spec (d : Dev) {e : Nat} (he : e < 12) : (d.engReset e).eng e = { ({} : Eng) with sigDue := (d.eng e).sigDue } ∧
    (∀ k, k ≠ e → (d.engReset e).eng k = d.eng k) ∧ d.keeps (d.engReset e) [] [.ce] := by
  rw [Dev.engReset_eq]
  refine ⟨?_, fun k hk => ?_, Dev.keeps_withCe (by simp) (Dev.keeps_each _ _ (fun x _ _ => Dev.keeps_updCtx (x.keeps_refl _ _) _ _ (by simp))
    (d.keeps_refl _ _))⟩
  · rw [Dev.eng_updEng_same _ _ _ he, d.idleCtxs_eng]
    rfl
  · rw [Dev.eng_updEng_other _ _ hk, d.idleCtxs_eng]

theorem resetEngs {s : State} (hl : s.dev.live = true) (hb : s.dev.on Reg.CE_CMD_RESULT_BUSY = false) {e : Nat} (he : e < 12) :
    Does s (.resetEng e) (fun t => t.on Reg.CE_CMD_RESULT_BUSY = true ∧ t.ce.busy = some ⟨11, e, 0, 0⟩ ∧
      t.eng e = { ({} : Eng) with sigDue := (s.dev.eng e).sigDue } ∧ (∀ k, k ≠ e → t.eng k = s.dev.eng k) ∧
      (∀ n < 6, (s.dev.engBind e).testBit n = true → (⟨n, 5, 2000 + e⟩ : ForceCond) ∈ t.pwm.conds) ∧ ∀ a, t.byte a = s.dev.byte a) := by
  refine State.does_ce (op := 11) (eng := e % 16) (arg := 0) (c := 0) (s.dev.ceResetEng (e % 16) 0) rfl hl hb (by decide) rfl ?_
  rw [Nat.mod_eq_of_lt (by omega : e < 16), Dev.ceResetEng, if_neg (by omega)]
  have hforces := s.dev.forceMask_forces (s.dev.engBind e) 5 (2000 + e)
  have hconds {n : Nat} (hn : n < 6) := s.dev.mem_forceMask (s.dev.engBind e) 5 (2000 + e) hn
  generalize s.dev.forceMask (s.dev.engBind e) 5 (2000 + e) = x at hforces hconds
  have hengs (k : Nat) : x.eng k = s.dev.eng k := Dev.eng_of_ce (congrArg Ce.engs (hforces.part .ce (by decide))) k
  obtain ⟨hsame, hother, hreset⟩ := x.engReset_spec he
  generalize x.engReset e = y at hsame hother hreset
  obtain ⟨hgoes, hce, hkeeps⟩ := y.ceBegin_spec ⟨11, e, 0, 0⟩
  have hlast (k : Nat) : (y.ceBegin ⟨11, e, 0, 0⟩).eng k = y.eng k := Dev.eng_of_ce (by rw [hce]) k
  have hpwm : (y.ceBegin ⟨11, e, 0, 0⟩).pwm = x.pwm := Part.same_trans (p := .pwm) (hreset.2 .pwm (by decide)) (hkeeps.2 .pwm (by decide))
  refine ⟨hgoes, by rw [hce], by rw [hlast, hsame, hengs], fun k hk => by rw [hlast, hother k hk, hengs], fun n hn hbit => ?_,
    Part.same_trans (p := .mem) (hforces.part .mem (by decide)) (Part.same_trans (hreset.2 .mem (by decide)) (hkeeps.2 .mem (by decide)))⟩
  rw [hpwm]
  exact (hconds hn).2 (.inr hbit)

/-! ## The end of LOAD (R86) -/

/-- Program words copied to an engine, from a base. -/
def Dev.copyProg (d : Dev) (e base : Nat) (v : Nat → Nat) (n : Nat) : Dev := d.each (List.range n) fun d i => d.setPm e (base + i) (v i)

theorem Dev.copyProg_word (d : Dev) (e base : Nat) (v : Nat → Nat) {n : Nat} (hn : n ≤ 8192) :
    ∀ i ∈ List.range n, i < n → (d.copyProg e base v n).pmWord e (base + i) = v i % 2 ^ 48 := by
  refine Dev.each_all (Q := fun i x => i < n → x.pmWord e (base + i) = v i % 2 ^ 48) _ (fun x i _ _ => x.pmWord_setPm_same e _ _)
    (fun x i hi j hj hjn => ?_) d
  by_cases he : j = i
  · rw [he, Dev.pmWord_setPm_same]
  · have hin := List.mem_range.1 hi
    rw [Dev.pmWord_setPm_other _ _ _ _ _ _ (by omega), hj hjn]

/-- Data words copied to an engine. -/
def Dev.copyData (d : Dev) (e data base src n : Nat) : Dev :=
  d.each (List.range n) fun d i => d.setDm e (base + i) (d.mem32 (data + 4 * (src + i)) % 2 ^ 24)

/-- From `d` to `t` only engine `e`'s program words and data words may change. -/
def Dev.copies (d t : Dev) (e : Nat) : Prop := (∀ k a, k ≠ e → t.pmWord k a = d.pmWord k a) ∧ d.keeps t [] [.ce]

theorem Dev.copies_refl (d : Dev) (e : Nat) : d.copies d e := ⟨fun _ _ _ => rfl, d.keeps_refl _ _⟩

theorem Dev.copies_trans {d t u : Dev} {e : Nat} (h : d.copies t e) (g : t.copies u e) : d.copies u e :=
  ⟨fun k a hk => (g.1 k a hk).trans (h.1 k a hk), Dev.keeps_trans h.2 g.2⟩

theorem Dev.setPm_copies (d : Dev) (e a v : Nat) : d.copies (d.setPm e a v) e :=
  ⟨fun k b hk => d.pmWord_setPm_other _ _ _ _ _ (by omega), Dev.keeps_withCe (by simp) (d.keeps_refl _ _)⟩

theorem Dev.copyProg_copies (d : Dev) (e base : Nat) (v : Nat → Nat) (n : Nat) : d.copies (d.copyProg e base v n) e :=
  Dev.each_rel (R := fun x y => x.copies y e) (fun x => x.copies_refl e) Dev.copies_trans _ _ (fun x _ => x.setPm_copies e _ _) d

theorem Dev.setDm_pm (d : Dev) (e a v : Nat) : (d.setDm e a v).ce.pm = d.ce.pm := rfl

/-- Data words leave every program word. -/
theorem Dev.copyData_spec (d : Dev) (e data base src n : Nat) : (d.copyData e data base src n).ce.pm = d.ce.pm ∧
    d.keeps (d.copyData e data base src n) [] [.ce] :=
  ⟨Dev.each_rel (R := fun x y => y.ce.pm = x.ce.pm) (fun _ => rfl) (fun h g => g.trans h) _ _ (fun x _ => x.setDm_pm _ _ _) d,
    Dev.keeps_each _ _ (fun x _ _ => Dev.keeps_withCe (by simp) (x.keeps_refl _ _)) (d.keeps_refl _ _)⟩

theorem Dev.imgWord_of_bytes {d t : Dev} (h : ∀ a, t.byte a = d.byte a) (a i : Nat) : t.imgWord a i = d.imgWord a i := by
  simp only [Dev.imgWord, Dev.mem32, Dev.bytes, h]

theorem Dev.imgWord_setPm (d : Dev) (e a v k i : Nat) : (d.setPm e a v).imgWord k i = d.imgWord k i := rfl

theorem Dev.copyImage_prog (d : Dev) (c e a n : Nat) :
    (d.each (List.range n) fun d i => d.setPm e (d.g (Reg.CTX_W5_PROG_BASE c) + i) (d.imgWord a i)) =
    d.copyProg e (d.g (Reg.CTX_W5_PROG_BASE c)) (d.imgWord a) n :=
  Dev.each_congr (I := fun x => x.g (Reg.CTX_W5_PROG_BASE c) = d.g (Reg.CTX_W5_PROG_BASE c) ∧ ∀ i, x.imgWord a i = d.imgWord a i)
    (fun x i _ ⟨hbase, hword⟩ => ⟨by rw [hbase, hword], (x.setPm_g _ _ _ _).trans hbase,
      fun k => (x.imgWord_setPm _ _ _ _ _).trans (hword k)⟩)
    d ⟨rfl, fun _ => rfl⟩

/-- The copy of an image: its program words on the engine, and the other engines' as before. -/
theorem Dev.copyImage_spec (d : Dev) (c e : Nat) (hn : d.g (Reg.CTX_W5_PROG_LEN c) ≤ 8192) :
    (∀ i < d.g (Reg.CTX_W5_PROG_LEN c), (d.copyImage c e).pmWord e (d.g (Reg.CTX_W5_PROG_BASE c) + i) =
      d.imgWord (d.word Reg.CE_IMG_ADDR) i % 2 ^ 48) ∧ d.copies (d.copyImage c e) e := by
  unfold Dev.copyImage
  dsimp only
  rw [Dev.copyImage_prog]
  have hwords := d.copyProg_word e (d.g (Reg.CTX_W5_PROG_BASE c)) (d.imgWord (d.word Reg.CE_IMG_ADDR)) hn
  have hcopies := d.copyProg_copies e (d.g (Reg.CTX_W5_PROG_BASE c)) (d.imgWord (d.word Reg.CE_IMG_ADDR)) (d.g (Reg.CTX_W5_PROG_LEN c))
  generalize d.copyProg e _ _ _ = x at hwords hcopies ⊢
  have hdata (y : Dev) (hy : y.ce.pm = x.ce.pm ∧ x.keeps y [] [.ce]) (data base src n : Nat) :
      (y.copyData e data base src n).ce.pm = x.ce.pm ∧ x.keeps (y.copyData e data base src n) [] [.ce] :=
    ⟨(y.copyData_spec e data base src n).1.trans hy.1, Dev.keeps_trans hy.2 (y.copyData_spec e data base src n).2⟩
  obtain ⟨hpm, hkeeps⟩ := hdata _ (hdata _ (hdata x ⟨rfl, x.keeps_refl _ _⟩ (d.word Reg.CE_IMG_ADDR + 0x20 + 8 * d.g (Reg.CTX_W5_PROG_LEN c))
    (x.g (Reg.CTX_W6_STATE_BASE c)) 0 (d.g (Reg.CTX_W6_STATE_LEN c))) _ _ _ _) _ _ _ _
  have hsame (t : Dev) (ht : t.ce.pm = x.ce.pm) (k a : Nat) : t.pmWord k a = x.pmWord k a := by rw [Dev.pmWord, ht]; rfl
  refine ⟨fun i hi => ?_, fun k a hk => ?_, ?_⟩
  · exact (hsame _ hpm _ _).trans (hwords i (List.mem_range.2 hi) hi)
  · exact (hsame _ hpm _ _).trans (hcopies.1 k a hk)
  · exact Dev.keeps_trans hcopies.2 hkeeps

/-- What the end of a command does, where one goes on. -/
def Dev.onBusy (d : Dev) (f : Dev → CeBusy → Dev) : Dev :=
  match d.ce.busy with
  | some b => f d b
  | none => d

theorem Dev.onBusy_some {d : Dev} {b : CeBusy} (h : d.ce.busy = some b) (f : Dev → CeBusy → Dev) : d.onBusy f = f d b := by
  rw [Dev.onBusy, h]

/-- The image copied to its engine, and to the spare where the context is kept warm. -/
def Dev.copyImages (d : Dev) (c e : Nat) : Dev :=
  let d := d.copyImage c e
  if (d.ctx c).warm then d.copyImage c d.spare else d

/-- The end of LOAD. -/
def Dev.loadEnds (d : Dev) (b : CeBusy) : Dev :=
  if b.op = 1 then ((d.copyImages b.ctx b.eng).s (Reg.CTX_W0_STATE b.ctx) 1).ceDone else d

theorem exec_ceLoadComplete (s : State) : exec .ceLoadComplete s = s.run fun d => d.onBusy Dev.loadEnds := rfl

/-- After both copies the engine holds the image's program words. -/
theorem Dev.copyImages_spec (d : Dev) (c e : Nat) (hn : d.g (Reg.CTX_W5_PROG_LEN c) ≤ 8192) :
    (∀ i < d.g (Reg.CTX_W5_PROG_LEN c), (d.copyImages c e).pmWord e (d.g (Reg.CTX_W5_PROG_BASE c) + i) =
      d.imgWord (d.word Reg.CE_IMG_ADDR) i % 2 ^ 48) ∧ d.keeps (d.copyImages c e) [] [.ce] := by
  obtain ⟨hwords, _, hkeeps⟩ := d.copyImage_spec c e hn
  unfold Dev.copyImages
  dsimp only
  generalize d.copyImage c e = x at hwords hkeeps
  have hg (f : RF) (hf : f.lo ≤ f.hi) : x.g f = d.g f := hkeeps.1 f hf (by simp)
  have hlen : x.g (Reg.CTX_W5_PROG_LEN c) = d.g (Reg.CTX_W5_PROG_LEN c) := hg _ (Nat.le_of_ble_eq_true rfl)
  have hbase : x.g (Reg.CTX_W5_PROG_BASE c) = d.g (Reg.CTX_W5_PROG_BASE c) := hg _ (Nat.zero_le _)
  have haddr : x.word Reg.CE_IMG_ADDR = d.word Reg.CE_IMG_ADDR := Dev.word_of_keeps hkeeps (by simp)
  have himg (a i : Nat) : x.imgWord a i = d.imgWord a i := Dev.imgWord_of_bytes (hkeeps.2 .mem (by decide)) a i
  split
  · obtain ⟨hwords2, hother, hkeeps2⟩ := x.copyImage_spec c x.spare (hlen ▸ hn)
    refine ⟨fun i hi => ?_, Dev.keeps_trans hkeeps hkeeps2⟩
    by_cases he : e = x.spare
    · have hsecond := hwords2 i (hlen ▸ hi)
      rw [hbase, haddr, himg, ← he] at hsecond
      rw [← he]
      exact hsecond
    · rw [hother _ _ he, hwords i hi]
  · exact ⟨hwords, hkeeps⟩

theorem loadCompletes {s : State} (hl : s.dev.live = true) {b : CeBusy} (hb : s.dev.ce.busy = some b) (hop : b.op = 1)
    (hn : s.dev.g (Reg.CTX_W5_PROG_LEN b.ctx) ≤ 8192) : Does s .ceLoadComplete (fun t => t.ctxState b.ctx = 1 ∧
      t.on Reg.CE_CMD_RESULT_BUSY = false ∧ t.ce.busy = none ∧
      (∀ i < s.dev.g (Reg.CTX_W5_PROG_LEN b.ctx), t.pmWord b.eng (s.dev.g (Reg.CTX_W5_PROG_BASE b.ctx) + i) =
        s.dev.imgWord (s.dev.word Reg.CE_IMG_ADDR) i % 2 ^ 48) ∧
      s.dev.keeps t [Reg.CTX_W0_STATE b.ctx, Reg.CE_CMD_RESULT_BUSY, Reg.CE_CMD_RESULT_RESULT] [.ce]) := by
  refine State.does_run (exec_ceLoadComplete s) hl ?_
  rw [Dev.onBusy_some hb, Dev.loadEnds, if_pos hop]
  obtain ⟨hwords, hcopied⟩ := s.dev.copyImages_spec b.ctx b.eng hn
  generalize s.dev.copyImages b.ctx b.eng = x at hwords hcopied
  obtain ⟨hstate, _, _, _, hkeeps⟩ := x.sDone_spec (Reg.CTX_W0_STATE b.ctx) 1 (Nat.le_of_ble_eq_true rfl) (Nat.le_refl _) (ctxState_ne _)
  obtain ⟨hbusy, _, hce, _⟩ := (x.s (Reg.CTX_W0_STATE b.ctx) 1).ceDone_spec
  rw [Dev.s_ce] at hce
  refine ⟨hstate, hbusy, by rw [hce]; rfl, fun i hi => ?_, Dev.keeps_trans (Dev.keeps_mono hcopied (by simp) (List.Subset.refl _)) hkeeps⟩
  rw [← hwords i hi, Dev.pmWord, hce]
  rfl

/-! ## The ends of EVACUATE and RESET_ENG -/

/-- The end of EVACUATE. -/
def Dev.evacEnds (d : Dev) (b : CeBusy) : Dev :=
  if b.op = 10 ∧ d.engCtxs b.eng = [] then
    (d.when (ctxNumbers.any (fun c => (d.ctx c).moved)) (fun d => d.s Reg.CE_MIG_STAT_ABSORBED 1)).ceDone
  else d

theorem exec_evacuateComplete (s : State) : exec .evacuateComplete s = s.run fun d => d.onBusy Dev.evacEnds := rfl

theorem evacuateCompletes {s : State} (hl : s.dev.live = true) {b : CeBusy} (hb : s.dev.ce.busy = some b) (hop : b.op = 10)
    (hnone : s.dev.engCtxs b.eng = []) : Does s .evacuateComplete (fun t => t.on Reg.CE_CMD_RESULT_BUSY = false ∧ t.ce.busy = none ∧
      t.g Reg.CE_CMD_RESULT_RESULT = 0 ∧ s.dev.keeps t [Reg.CE_MIG_STAT_ABSORBED, Reg.CE_CMD_RESULT_BUSY, Reg.CE_CMD_RESULT_RESULT] [.ce]) := by
  refine State.does_run (exec_evacuateComplete s) hl ?_
  rw [Dev.onBusy_some hb, Dev.evacEnds, if_pos ⟨hop, hnone⟩]
  generalize (ctxNumbers.any fun c => (s.dev.ctx c).moved) = m
  have hshow : s.dev.keeps (s.dev.when m fun d => d.s Reg.CE_MIG_STAT_ABSORBED 1)
      [Reg.CE_MIG_STAT_ABSORBED, Reg.CE_CMD_RESULT_BUSY, Reg.CE_CMD_RESULT_RESULT] [.ce] :=
    Dev.keeps_when (fun e => Dev.keeps_s List.mem_cons_self (by decide) (by decide) (e.keeps_refl _ _)) (s.dev.keeps_refl _ _)
  generalize (s.dev.when m fun d => d.s Reg.CE_MIG_STAT_ABSORBED 1) = x at hshow
  obtain ⟨hbusy, hresult, hce, _⟩ := x.ceDone_spec
  exact ⟨hbusy, by rw [hce]; rfl, hresult, Dev.keeps_ceDone hshow (List.subset_cons_self _ _) (by simp)⟩

/-- The end of RESET_ENG. -/
def Dev.resetEnds (pass : Bool) (d : Dev) (b : CeBusy) : Dev :=
  if b.op = 11 then
    let d := ((d.engReset b.eng).forceOff 5 (2000 + b.eng)).ceDone
    if pass then (d.s (Reg.ENG_STAT_FAULT b.eng) 0).s (Reg.ENG_STAT_FAULT_SRC b.eng) 0 else d.engFail b.eng 4
  else d

theorem exec_resetEngComplete (pass : Bool) (s : State) : exec (.resetEngComplete pass) s = s.run fun d => d.onBusy (Dev.resetEnds pass) := rfl

/-- The fields in which an engine shows its failure. -/
def faultFields (e : Nat) : List RF := [Reg.ENG_STAT_FAULT e, Reg.ENG_STAT_FAULT_SRC e]

theorem Dev.faultClear_spec (d : Dev) (e : Nat) :
    ((d.s (Reg.ENG_STAT_FAULT e) 0).s (Reg.ENG_STAT_FAULT_SRC e) 0).on (Reg.ENG_STAT_FAULT e) = false ∧
    d.keeps ((d.s (Reg.ENG_STAT_FAULT e) 0).s (Reg.ENG_STAT_FAULT_SRC e) 0) (faultFields e) [] := by
  have hle : (Reg.ENG_STAT_FAULT e).lo ≤ (Reg.ENG_STAT_FAULT e).hi := Nat.le_refl _
  have h31 : (Reg.ENG_STAT_FAULT e).hi ≤ 31 := Nat.le_of_ble_eq_true rfl
  have hle2 : (Reg.ENG_STAT_FAULT_SRC e).lo ≤ (Reg.ENG_STAT_FAULT_SRC e).hi := Nat.le_of_ble_eq_true rfl
  have h312 : (Reg.ENG_STAT_FAULT_SRC e).hi ≤ 31 := Nat.le_of_ble_eq_true rfl
  refine ⟨?_, Dev.keeps_s (by simp [faultFields]) hle2 h312 (Dev.keeps_s (by simp [faultFields]) hle h31 (d.keeps_refl _ _))⟩
  rw [Dev.on, Dev.g_s_beside _ _ _ _ hle2 h312 hle (.inr (Nat.le_of_ble_eq_true rfl)), Dev.g_s_same _ _ _ hle h31, Nat.zero_mod]
  rfl

theorem resetEngCompletes {s : State} (hl : s.dev.live = true) {b : CeBusy} (hb : s.dev.ce.busy = some b) (hop : b.op = 11) (he : b.eng < 12) :
    Does s (.resetEngComplete true) (fun t => t.on Reg.CE_CMD_RESULT_BUSY = false ∧ t.ce.busy = none ∧
      t.on (Reg.ENG_STAT_FAULT b.eng) = false ∧ (∀ x ∈ t.pwm.conds, ¬ (x.why = 5 ∧ x.inst = 2000 + b.eng)) ∧
      t.eng b.eng = { ({} : Eng) with sigDue := (s.dev.eng b.eng).sigDue } ∧
      s.dev.keeps t [Reg.ENG_STAT_FAULT b.eng, Reg.ENG_STAT_FAULT_SRC b.eng, Reg.CE_CMD_RESULT_BUSY, Reg.CE_CMD_RESULT_RESULT] [.ce, .pwm]) := by
  refine State.does_run (exec_resetEngComplete true s) hl ?_
  rw [Dev.onBusy_some hb, Dev.resetEnds, if_pos hop, if_pos rfl]
  obtain ⟨heng, _, hreset⟩ := s.dev.engReset_spec he
  generalize s.dev.engReset b.eng = x at heng hreset
  have hoff : x.keeps (x.forceOff 5 (2000 + b.eng)) [] [.pwm] := Dev.keeps_withPwm (by simp) (x.keeps_refl _ _)
  have hconds : ∀ c ∈ (x.forceOff 5 (2000 + b.eng)).pwm.conds, ¬ (c.why = 5 ∧ c.inst = 2000 + b.eng) := by
    simp [Dev.forceOff, -not_and, not_and_or]
  generalize x.forceOff 5 (2000 + b.eng) = y at hoff hconds
  obtain ⟨hbusy, _, hce, hdone⟩ := y.ceDone_spec
  have hlast := y.eng_ceDone b.eng
  generalize y.ceDone = z at hbusy hce hdone hlast
  obtain ⟨hfault, hclear⟩ := z.faultClear_spec b.eng
  generalize (z.s (Reg.ENG_STAT_FAULT b.eng) 0).s (Reg.ENG_STAT_FAULT_SRC b.eng) 0 = t at hfault hclear
  have htce : t.ce = z.ce := hclear.2 .ce (by simp)
  have hpwm : t.pwm = y.pwm := Part.same_trans (p := .pwm) (hdone.2 .pwm (by decide)) (hclear.2 .pwm (by simp))
  have hyce : y.ce = x.ce := hoff.2 .ce (by decide)
  refine ⟨?_, by rw [htce, hce]; rfl, hfault, by rw [hpwm]; exact hconds, ?_, ?_⟩
  · have hkeys : ∀ f ∈ faultFields b.eng, Reg.CE_CMD_RESULT_BUSY.apart f := by
      intro f hf
      left
      revert f
      simp [faultFields, Reg.ENG_STAT_FAULT, Reg.ENG_STAT_FAULT_SRC, Reg.CE_CMD_RESULT_BUSY, Reg.ENG_STAT, Reg.CE_CMD_RESULT]
      omega
    rw [Dev.on, hclear.1 _ (by decide) hkeys]
    exact hbusy
  · rw [Dev.eng_of_ce (congrArg Ce.engs htce), hlast, Dev.eng_of_ce (congrArg Ce.engs hyce), heng]
  · exact Dev.keeps_trans (Dev.keeps_mono hreset (by simp) (by simp)) (Dev.keeps_trans (Dev.keeps_mono hoff (by simp) (by simp))
      (Dev.keeps_trans (Dev.keeps_mono hdone (by simp [answerFields]) (by simp)) (Dev.keeps_mono hclear (by simp [faultFields]) (by simp))))

theorem ceLongCommands_hold : ceLongCommands := by
  intro s hl
  refine ⟨fun hb => ⟨fun c hc e he w hp => ceLoads_refused hl hb hc he hp, fun c hc e he hp hst hf im him f hff p ha =>
    ceLoads hl hb hc he hp hst hf im him f hff p ha, fun e he hsp hbusy hf hfree hruns => evacuates hl hb he hsp hbusy hf hfree hruns,
    fun e he => resetEngs hl hb he⟩, fun b hb => ⟨fun hop _ hn => loadCompletes hl hb hop hn, fun hop hnone =>
    evacuateCompletes hl hb hop hnone, fun hop he => resetEngCompletes hl hb hop he⟩⟩

end Sys2Proof.Machine
end

section
open Sys2Proof Sys2Proof.Machine

/-- Settles O16: each command by the answer that it writes and by the fields and parts that it reaches. -/
theorem contextCommands : Obligations.ContextCommands := ⟨ceCommands_hold, ceLongCommands_hold⟩

end

section
/-! PROOFS. Lock-group membership (R72): what a write of LG_MAP moves. -/

namespace Sys2Proof.Machine

/-- A field apart from a whole register is apart from each field of it. -/
theorem RF.apart_of_whole {r f : RF} (h : r.apart (RF.whole f.key)) (h31 : f.hi ≤ 31) : r.apart f := by
  rcases h with h | h | h
  · exact .inl h
  · exact .inr (.inl (Nat.lt_of_le_of_lt h31 h))
  · exact absurd h (Nat.not_lt_zero _)

/-- Where each changed field lies in one of the registers listed whole, no more than these registers changes. -/
theorem Dev.keeps_whole {d t : Dev} {fs gs : List RF} {ps : List Part} (h : d.keeps t fs ps)
    (hf : ∀ f ∈ fs, f.hi ≤ 31 ∧ RF.whole f.key ∈ gs) : d.keeps t gs ps :=
  ⟨fun r hr ha => h.1 r hr fun f hm => RF.apart_of_whole (ha _ (hf f hm).2) (hf f hm).1, h.2⟩

/-- The membership of a channel after a write of LG_MAP: a code above 3 is reserved and leaves it. -/
def Dev.lgNew (d : Dev) (v c : Nat) : Nat := if v / 2 ^ (3 * c) % 8 < 4 then v / 2 ^ (3 * c) % 8 else d.g (Reg.LG_MAP_GRP c)

/-- The channels whose membership a write of LG_MAP changes. -/
def Dev.lgMoved (d : Dev) (v : Nat) : List Nat := (List.range 6).filter fun c => d.lgNew v c != d.g (Reg.LG_MAP_GRP c)

theorem exec_lgMapWrite (v : Nat) (s : State) : exec (.lgMapWrite v) s = s.run fun d =>
    if (d.lgMoved v).all fun c => d.on (Reg.PWM_CH_STAT_SAFE c) then d.each (d.lgMoved v) fun e c => e.s (Reg.LG_MAP_GRP c) (d.lgNew v c)
    else d.raise Err.TB_RWL_REFUSED [0x80] := rfl

theorem Dev.mem_lgMoved (d : Dev) (v c : Nat) : c ∈ d.lgMoved v ↔ c < 6 ∧ d.lgNew v c ≠ d.g (Reg.LG_MAP_GRP c) := by
  simp [Dev.lgMoved]

/-- The fields that a write of LG_MAP sets. -/
def Dev.lgWrites (d : Dev) (v : Nat) : List (RF × Nat) := (d.lgMoved v).map fun c => (Reg.LG_MAP_GRP c, d.lgNew v c)

theorem lgField_apart {c k : Nat} (h : c ≠ k) : (Reg.LG_MAP_GRP c).apart (Reg.LG_MAP_GRP k) := by
  simp [RF.apart, Reg.LG_MAP_GRP]
  omega

theorem lgField_cut (c : Nat) {v : Nat} (h : v < 8) : (Reg.LG_MAP_GRP c).cut v = v := by
  have hw : (Reg.LG_MAP_GRP c).hi - (Reg.LG_MAP_GRP c).lo + 1 = 3 := by simp only [Reg.LG_MAP_GRP]; omega
  rw [RF.cut, hw]
  exact Nat.mod_eq_of_lt h

theorem Dev.lgWrites_fits (d : Dev) (v : Nat) : ∀ w ∈ d.lgWrites v, w.1.fits := by
  intro w hw
  obtain ⟨c, hc, rfl⟩ := List.mem_map.1 hw
  have h6 := ((d.mem_lgMoved v c).1 hc).1
  simp only [RF.fits, Reg.LG_MAP_GRP]
  omega

theorem Dev.lgWrites_apart (d : Dev) (v : Nat) : apartInOrder (d.lgWrites v) :=
  List.pairwise_map.2 ((List.nodup_range.filter _).imp fun h => lgField_apart h)

theorem Dev.lgNew_lt (d : Dev) {v c : Nat} : d.lgNew v c < 8 := by
  have hw : (Reg.LG_MAP_GRP c).hi - (Reg.LG_MAP_GRP c).lo + 1 = 3 := by simp only [Reg.LG_MAP_GRP]; omega
  have hold : d.g (Reg.LG_MAP_GRP c) < 8 := by
    rw [Dev.g, bits, hw]
    exact Nat.mod_lt _ (by decide)
  unfold Dev.lgNew
  split <;> omega

/-- A write of LG_MAP that is carried out gives every channel its new membership. -/
theorem Dev.lgWrites_spec (d : Dev) (v : Nat) : (∀ c < 6, (d.writes (d.lgWrites v)).g (Reg.LG_MAP_GRP c) = d.lgNew v c) ∧
    d.keeps (d.writes (d.lgWrites v)) [RF.whole Reg.LG_MAP] [] := by
  have hkeeps := Dev.writes_keeps (d := d) (d.lgWrites_fits v) []
  refine ⟨fun c hc => ?_, Dev.keeps_whole hkeeps fun f hf => ?_⟩
  · by_cases hm : c ∈ d.lgMoved v
    · exact (Dev.g_writes (d.lgWrites_fits v) (d.lgWrites_apart v) d _ (List.mem_map_of_mem hm)).trans (lgField_cut c d.lgNew_lt)
    · have hsame : d.lgNew v c = d.g (Reg.LG_MAP_GRP c) := by
        by_contra hne
        exact hm ((d.mem_lgMoved v c).2 ⟨hc, hne⟩)
      rw [hsame]
      refine hkeeps.1 _ (by simp only [Reg.LG_MAP_GRP]; omega) fun f hf => ?_
      simp only [Dev.lgWrites, List.map_map, List.mem_map] at hf
      obtain ⟨k, hk, rfl⟩ := hf
      exact lgField_apart fun he => hm (he ▸ hk)
  · simp only [Dev.lgWrites, List.map_map, List.mem_map] at hf
    obtain ⟨k, hk, rfl⟩ := hf
    have h6 := ((d.mem_lgMoved v k).1 hk).1
    exact ⟨by simp only [Function.comp_apply, Reg.LG_MAP_GRP]; omega, List.mem_cons_self⟩

theorem Dev.each_lgMoved (d : Dev) (v : Nat) :
    (d.each (d.lgMoved v) fun e c => e.s (Reg.LG_MAP_GRP c) (d.lgNew v c)) = d.writes (d.lgWrites v) := by
  rw [Dev.each, Dev.writes, Dev.lgWrites, List.foldl_map]

end Sys2Proof.Machine
end

section
open Sys2Proof Sys2Proof.Machine

/-- Settles O10: the memberships that change are written together, or none is. -/
theorem lockGroupMap : Obligations.LockGroupMap := by
  intro s hl v new hnew
  have hmoved (c : Nat) (hc : c < 6) : new c = s.dev.lgNew v c := hnew c hc
  refine ⟨fun hsafe => State.does_run (exec_lgMapWrite v s) hl ?_, fun ⟨c, hc, hne, hoff⟩ => State.does_run (exec_lgMapWrite v s) hl ?_⟩
  · rw [if_pos, s.dev.each_lgMoved]
    · obtain ⟨hset, hkeeps⟩ := s.dev.lgWrites_spec v
      exact ⟨fun c hc => (hset c hc).trans (hmoved c hc).symm, hkeeps⟩
    · refine List.all_eq_true.2 fun c hc => ?_
      obtain ⟨h6, hne⟩ := (s.dev.mem_lgMoved v c).1 hc
      exact hsafe c h6 (by rwa [hmoved c h6])
  · rw [if_neg]
    · exact s.dev.raise_spec _ _
    · intro hall
      have hon := List.all_eq_true.1 hall c ((s.dev.mem_lgMoved v c).2 ⟨hc, by rwa [← hmoved c hc]⟩)
      rw [hoff] at hon
      contradiction

end

section
/-! PROOFS. Wheels: the write that starts one, its settings and what a read shows (R50, R55, R58, R523). -/

namespace Sys2Proof.Machine

/-! ## What turns one wheel -/

/-- From `d` to `t` nothing of the time base changes but wheel `n`. -/
def Dev.turnsWheel (d t : Dev) (n : Nat) : Prop :=
  (∀ j, j ≠ n → t.wheel j = d.wheel j) ∧ { t.tb with wheels := d.tb.wheels } = d.tb

theorem Dev.wheel_of_tb {d t : Dev} (h : t.tb = d.tb) (n : Nat) : t.wheel n = d.wheel n := by rw [Dev.wheel, h]; rfl

theorem Dev.updWheel_turns (d : Dev) (n : Nat) (f : Wheel → Wheel) : d.turnsWheel (d.updWheel n f) n :=
  ⟨fun _ hj => d.wheel_updWheel_other f hj, rfl⟩

/-- The time base before and after may stand in other devices. -/
theorem Dev.turnsWheel_of_tb {d e t u : Dev} {n : Nat} (h : e.turnsWheel t n) (hd : e.tb = d.tb) (hu : u.tb = t.tb) : d.turnsWheel u n :=
  ⟨fun j hj => (Dev.wheel_of_tb hu j).trans ((h.1 j hj).trans (Dev.wheel_of_tb hd j)), by rw [hu, ← hd]; exact h.2⟩

theorem Dev.updWheel_keeps (d : Dev) (n : Nat) (f : Wheel → Wheel) (fs : List RF) : d.keeps (d.updWheel n f) fs [.tb] :=
  Dev.keeps_withTb (by simp) (d.keeps_refl _ _)

/-! ## The write that sets EN -/

theorem regRow_whlCfg : ∀ n < 16, regRow (Reg.WHL_CFG n) = some ⟨0x100, [⟨0x40, 0, 15⟩], 0x0,
    [fd 27 24 .rwl, ⟨23, 21, .rwl, some ⟨0, some 0, 6, some 6⟩⟩, fd 20 16 .rwl, fd 15 8 .rwl, ⟨7, 4, .rwl, some ⟨0, none, 7, none⟩⟩,
      fd 0 0 .rw]⟩ := by
  decide +kernel

/-- WHL_CFG above its source fields after a write while EN = 0. -/
def whlCfgHead (old v : Nat) : Nat :=
  let w := setBits old 27 24 (bits v 27 24)
  setBits (setBits w 23 21 (sanitise (some ⟨0, some 0, 6, some 6⟩) (bits w 23 21) (bits v 23 21))) 20 16 (bits v 20 16)

/-- WHL_CFG after a write of a source that exists, while EN = 0. -/
def whlCfgWord (old v : Nat) : Nat :=
  setBits (setBits (setBits (whlCfgHead old v) 15 8 (bits v 15 8)) 7 4 (bits v 7 4)) 0 0 (bits v 0 0)

theorem Dev.regStore_whlCfg (d : Dev) {n v note : Nat} (hn : n < 16) (hsrc : bits v 7 4 ≤ 7) :
    d.regStore (Reg.WHL_CFG n) (Reg.WHL_CFG n) 0x30020000 v (lockIf false) note =
      d.setWord (Reg.WHL_CFG n) (whlCfgWord (d.word (Reg.WHL_CFG n)) v) := by
  have hkept (old : Nat) : sanitise (some ⟨0, none, 7, none⟩) old (bits v 7 4) = bits v 7 4 := by
    rw [sanitise, if_neg (Nat.not_lt_zero _), if_neg (Nat.not_lt.2 hsrc)]
  rw [Dev.regStore, regRow_whlCfg n hn]
  simp only [writeFields, fd, List.foldl_cons, List.foldl_nil, writeField, lockIf, Bool.false_and, Bool.false_eq_true, if_false, hkept]
  rfl

/-- A word's bits up to 31 are those of its low half. -/
theorem bits_mod_word (w : Nat) {hi lo : Nat} (h : lo ≤ hi) (h31 : hi ≤ 31) : bits (w % 2 ^ 32) hi lo = bits w hi lo := by
  have hsplit : (2 : Nat) ^ 32 = 2 ^ lo * 2 ^ (32 - lo) := by rw [← pow_add]; congr 1; omega
  unfold bits
  rw [hsplit, Nat.mod_mul_right_div_self, Nat.mod_mod_of_dvd _ (Nat.pow_dvd_pow 2 (by omega))]

/-- The fields of a register set as a whole. -/
theorem Dev.g_setWord (d : Dev) {k : Nat} (f : RF) (w : Nat) (hk : f.key = k) (h : f.lo ≤ f.hi) (h31 : f.hi ≤ 31) :
    (d.setWord k w).g f = bits w f.hi f.lo := by
  rw [Dev.g, hk, Dev.word_setWord_same, bits_mod_word w h h31]

theorem Dev.g_setWord_other (d : Dev) {k : Nat} (f : RF) (w : Nat) (h : f.key ≠ k) : (d.setWord k w).g f = d.g f := by
  rw [Dev.g, Dev.word_setWord_other _ _ h]
  rfl

theorem whlCfgWord_fields (old v : Nat) : bits (whlCfgWord old v) 0 0 = v % 2 ∧ bits (whlCfgWord old v) 7 4 = bits v 7 4 ∧
    bits (whlCfgWord old v) 15 8 = bits v 15 8 := by
  unfold whlCfgWord
  refine ⟨?_, ?_, ?_⟩
  · rw [bits_setBits_same _ _ _ _ (by decide)]
    simp [bits]
  · rw [bits_setBits_above _ _ _ _ _ _ (by decide) (by decide), bits_setBits_same _ _ _ _ (by decide)]
    exact Nat.mod_mod _ _
  · rw [bits_setBits_above _ _ _ _ _ _ (by decide) (by decide), bits_setBits_above _ _ _ _ _ _ (by decide) (by decide),
      bits_setBits_same _ _ _ _ (by decide)]
    exact Nat.mod_mod _ _

/-- A wheel as its start leaves it (R523). -/
def Dev.whlBegins (d : Dev) (n : Nat) (w : Wheel) : Wheel :=
  let w := { w with ofs := 0, lastUpd := d.tick, samples := [], placed := false, skip := true, presetDue := false, spdDue := none }
  if d.g (Reg.WHL_CFG_SRC n) = 7 then { (w.anchor (d.whlSet n * 32) d.tb.rt) with pos := d.whlSet n, spd := d.whlSpdSet n, placed := true }
  else if d.g (Reg.WHL_CFG_SRC n) = 0 then w
  else { w with spd := 0 }

theorem Dev.wheelStart_eq (d : Dev) (n : Nat) : d.wheelStart n = (d.updWheel n (d.whlBegins n)).s (Reg.WHL_STAT_STALE n) 0 := rfl

/-- Whatever its source, a wheel starts without a history. -/
theorem Dev.whlBegins_spec (d : Dev) (n : Nat) (w : Wheel) : (d.whlBegins n w).samples = [] ∧ (d.whlBegins n w).ofs = 0 ∧
    (d.whlBegins n w).lastUpd = d.tick := by
  unfold Dev.whlBegins
  dsimp only
  split
  · exact ⟨rfl, rfl, rfl⟩
  · split <;> exact ⟨rfl, rfl, rfl⟩

theorem Dev.whlBegins_ringTime (d : Dev) {n : Nat} (w : Wheel) (h : d.g (Reg.WHL_CFG_SRC n) = 7) :
    (d.whlBegins n w).pos = d.whlSet n ∧ (d.whlBegins n w).spd = d.whlSpdSet n := by
  unfold Dev.whlBegins
  dsimp only
  rw [if_pos h]
  exact ⟨rfl, rfl⟩

/-- The start of a wheel whose source is no step axis. -/
theorem Dev.whlCfgWrite_start (d : Dev) {n v : Nat} (hn : n < 16) (hoff : d.on (Reg.WHL_CFG_EN n) = false) (hen : v.testBit 0 = true)
    (hax : bits v 7 4 ≠ 5) (hsrc : bits v 7 4 ≤ 7) :
    d.whlCfgWrite n v = (d.setWord (Reg.WHL_CFG n) (whlCfgWord (d.word (Reg.WHL_CFG n)) v)).wheelStart n := by
  have hstore := d.regStore_whlCfg (note := Err.TB_RWL_REFUSED) hn hsrc
  obtain ⟨hen', hsrc', _⟩ := whlCfgWord_fields (d.word (Reg.WHL_CFG n)) v
  unfold Dev.whlCfgWrite
  rw [hoff]
  simp only [show 0x30020100 + 0x40 * n = Reg.WHL_CFG n from rfl, hstore]
  generalize hx : d.setWord (Reg.WHL_CFG n) (whlCfgWord (d.word (Reg.WHL_CFG n)) v) = x
  have hon : x.on (Reg.WHL_CFG_EN n) = true := by
    rw [Dev.on, ← hx, d.g_setWord (k := Reg.WHL_CFG n) (Reg.WHL_CFG_EN n) _ rfl (Nat.le_refl 0) (Nat.zero_le _)]
    simp only [Reg.WHL_CFG_EN, hen']
    simpa [Nat.testBit_zero] using hen
  have hstarted : (x.wheelStart n).g (Reg.WHL_CFG_SRC n) = bits v 7 4 := by
    rw [Dev.wheelStart_eq, Dev.g_s_other _ _ _ _ (by simp only [Reg.WHL_CFG_SRC, Reg.WHL_STAT_STALE, Reg.WHL_CFG, Reg.WHL_STAT]; omega),
      Dev.updWheel_g, ← hx, d.g_setWord (k := Reg.WHL_CFG n) (Reg.WHL_CFG_SRC n) _ rfl (Nat.le_of_ble_eq_true rfl) (Nat.le_of_ble_eq_true rfl)]
    exact hsrc'
  rw [hon, if_pos (by rfl), hstarted, if_neg hax]

/-- WHL_SET and WHL_SPD_SET stand beside WHL_CFG. -/
theorem Dev.whlSets_of_words {d t : Dev} {n : Nat} (h : ∀ k, k ≠ Reg.WHL_CFG n → t.word k = d.word k) :
    t.whlSet n = d.whlSet n ∧ t.whlSpdSet n = d.whlSpdSet n := by
  unfold Dev.whlSet Dev.whlSpdSet
  rw [h (Reg.WHL_SET_HI n), h (Reg.WHL_SET_LO n), h (Reg.WHL_SPD_SET_HI n), h (Reg.WHL_SPD_SET_LO n)]
  · exact ⟨rfl, rfl⟩
  · unfold Reg.WHL_SPD_SET_LO Reg.WHL_CFG
    omega
  · unfold Reg.WHL_SPD_SET_HI Reg.WHL_CFG
    omega
  · unfold Reg.WHL_SET_LO Reg.WHL_CFG
    omega
  · unfold Reg.WHL_SET_HI Reg.WHL_CFG
    omega

theorem whlStarts {s : State} (hl : s.dev.live = true) {n v : Nat} (hn : n < 16) (hoff : s.dev.on (Reg.WHL_CFG_EN n) = false)
    (hen : v.testBit 0 = true) (hax : bits v 7 4 ≠ 5) (hsrc : bits v 7 4 ≤ 7) : Does s (.wheelStart n v) (fun t =>
      t.on (Reg.WHL_CFG_EN n) = true ∧ t.g (Reg.WHL_CFG_SRC n) = bits v 7 4 ∧ t.g (Reg.WHL_CFG_SEL n) = bits v 15 8 ∧
      t.on (Reg.WHL_STAT_STALE n) = false ∧ (t.wheel n).samples = [] ∧ (t.wheel n).ofs = 0 ∧ (t.wheel n).lastUpd = s.dev.tick ∧
      (bits v 7 4 = 7 → (t.wheel n).pos = s.dev.whlSet n ∧ (t.wheel n).spd = s.dev.whlSpdSet n) ∧
      (∀ j, j ≠ n → t.wheel j = s.dev.wheel j) ∧
      s.dev.keeps t [RF.whole (Reg.WHL_CFG n), Reg.WHL_STAT_STALE n] [.tb] ∧ { t.tb with wheels := s.dev.tb.wheels } = s.dev.tb) := by
  refine State.does_run (f := fun d => if n < 16 then d.whlCfgWrite n v else d) rfl hl ?_
  rw [if_pos hn, s.dev.whlCfgWrite_start hn hoff hen hax hsrc, Dev.wheelStart_eq]
  obtain ⟨hen', hsrc', hsel'⟩ := whlCfgWord_fields (s.dev.word (Reg.WHL_CFG n)) v
  generalize hx : s.dev.setWord (Reg.WHL_CFG n) (whlCfgWord (s.dev.word (Reg.WHL_CFG n)) v) = x
  have hset : s.dev.keeps x [RF.whole (Reg.WHL_CFG n), Reg.WHL_STAT_STALE n] [.tb] :=
    hx ▸ Dev.keeps_setWord (by simp) (s.dev.keeps_refl _ _)
  have hfield (f : RF) (hk : f.key = Reg.WHL_CFG n) (hle : f.lo ≤ f.hi) (h31 : f.hi ≤ 31) :
      ((x.updWheel n (x.whlBegins n)).s (Reg.WHL_STAT_STALE n) 0).g f = bits (whlCfgWord (s.dev.word (Reg.WHL_CFG n)) v) f.hi f.lo := by
    rw [Dev.g_s_other _ _ _ _ (by rw [hk]; simp only [Reg.WHL_STAT_STALE, Reg.WHL_CFG, Reg.WHL_STAT]; omega), Dev.updWheel_g, ← hx,
      s.dev.g_setWord f _ hk hle h31]
  have hword {k : Nat} (hk : k ≠ Reg.WHL_CFG n) : x.word k = s.dev.word k := hx ▸ s.dev.word_setWord_other _ hk
  have hwheel : ((x.updWheel n (x.whlBegins n)).s (Reg.WHL_STAT_STALE n) 0).wheel n = x.whlBegins n (x.wheel n) :=
    (Dev.wheel_of_tb (Dev.s_tb _ _ _) n).trans (x.wheel_updWheel_same n _ hn)
  have htick : x.tick = s.dev.tick := by rw [← hx, Dev.setWord]
  have htb : x.tb = s.dev.tb := by rw [← hx, Dev.setWord_tb]
  obtain ⟨hsamples, hofs, hlast⟩ := x.whlBegins_spec n (x.wheel n)
  obtain ⟨hothers, hrest⟩ := Dev.turnsWheel_of_tb (x.updWheel_turns n (x.whlBegins n)) htb
    (Dev.s_tb (x.updWheel n (x.whlBegins n)) (Reg.WHL_STAT_STALE n) 0)
  refine ⟨?_, (hfield _ rfl (Nat.le_of_ble_eq_true rfl) (Nat.le_of_ble_eq_true rfl)).trans hsrc',
    (hfield _ rfl (Nat.le_of_ble_eq_true rfl) (Nat.le_of_ble_eq_true rfl)).trans hsel', ?_, by rw [hwheel, hsamples], by rw [hwheel, hofs],
    by rw [hwheel, hlast, htick], fun h7 => ?_, hothers, ?_, hrest⟩
  · rw [Dev.on, hfield _ rfl (Nat.le_refl 0) (Nat.zero_le _)]
    simp only [Reg.WHL_CFG_EN, hen']
    simpa [Nat.testBit_zero] using hen
  · rw [Dev.on, Dev.g_s_same _ _ _ (Nat.le_refl 0) (Nat.zero_le _), Nat.zero_mod]
    rfl
  · have hsrcx : x.g (Reg.WHL_CFG_SRC n) = 7 := by
      rw [← h7, ← hsrc', ← hx]
      exact s.dev.g_setWord (Reg.WHL_CFG_SRC n) _ rfl (Nat.le_of_ble_eq_true rfl) (Nat.le_of_ble_eq_true rfl)
    obtain ⟨hpos, hspd⟩ := x.whlBegins_ringTime (x.wheel n) hsrcx
    obtain ⟨hset, hspdSet⟩ := Dev.whlSets_of_words fun k hk => hword (k := k) hk
    exact ⟨by rw [hwheel, hpos, hset], by rw [hwheel, hspd, hspdSet]⟩
  · exact Dev.keeps_s (by simp) (Nat.le_refl 0) (Nat.zero_le _) (Dev.keeps_trans hset (x.updWheel_keeps n _ _))

/-! ## Settings and the read of POS_LO -/

theorem whlPresets {s : State} (hl : s.dev.live = true) {n v : Nat} (hn : n < 16) (hv : v % 2 = 1) : Does s (.wheelPreset n v) (fun t =>
    t.wheel n = { s.dev.wheel n with presetDue := true } ∧
    (∀ j, j ≠ n → t.wheel j = s.dev.wheel j) ∧ s.dev.keeps t [] [.tb] ∧ { t.tb with wheels := s.dev.tb.wheels } = s.dev.tb) := by
  refine State.does_run (f := fun d => if v % 2 = 1 then d.updWheel n (fun w => { w with presetDue := true }) else d) rfl hl ?_
  rw [if_pos hv]
  exact ⟨s.dev.wheel_updWheel_same n _ hn, fun j hj => s.dev.wheel_updWheel_other _ hj, s.dev.updWheel_keeps n _ _, rfl⟩

/-- A speed half written makes the whole speed due. -/
theorem Dev.whlSpeedDue_spec (d : Dev) {n k v : Nat} (hn : n < 16) (t : Dev)
    (ht : t = (d.setWord k (v % 2 ^ 32)).updWheel n fun w => { w with spdDue := some ((d.setWord k (v % 2 ^ 32)).whlSpdSet n) }) :
    t.word k = v % 2 ^ 32 ∧ (t.wheel n).spdDue = some ((d.setWord k (v % 2 ^ 32)).whlSpdSet n) ∧ (∀ j, j ≠ n → t.wheel j = d.wheel j) ∧
      d.keeps t [RF.whole k] [.tb] := by
  subst ht
  refine ⟨?_, ?_, fun j hj => ?_, Dev.keeps_trans (Dev.keeps_setWord (by simp) (d.keeps_refl _ _)) (Dev.updWheel_keeps _ n _ _)⟩
  · rw [Dev.updWheel_word, Dev.word_setWord_same, Nat.mod_mod]
  · rw [Dev.wheel_updWheel_same _ n _ hn]
  · rw [Dev.wheel_updWheel_other _ _ hj]
    exact Dev.wheel_of_tb (d.setWord_tb _ _) j

theorem whlSpeedLo {s : State} (hl : s.dev.live = true) {n : Nat} (hn : n < 16) (v : Nat) : Does s (.wheelSpeedSet n false v) (fun t =>
    t.word (Reg.WHL_SPD_SET_LO n) = v % 2 ^ 32 ∧
    (t.wheel n).spdDue = some (toInt 48 (s.dev.word (Reg.WHL_SPD_SET_HI n) % 65536 * 2 ^ 32 + v % 2 ^ 32)) ∧
    (∀ j, j ≠ n → t.wheel j = s.dev.wheel j) ∧ s.dev.keeps t [RF.whole (Reg.WHL_SPD_SET_LO n)] [.tb]) := by
  refine State.does_run (f := fun d => (d.setWord (Reg.WHL_SPD_SET_LO n) (v % 2 ^ 32)).updWheel n fun w =>
    { w with spdDue := some ((d.setWord (Reg.WHL_SPD_SET_LO n) (v % 2 ^ 32)).whlSpdSet n) }) rfl hl ?_
  obtain ⟨hword, hdue, hothers, hkeeps⟩ := s.dev.whlSpeedDue_spec (k := Reg.WHL_SPD_SET_LO n) (v := v) hn _ rfl
  refine ⟨hword, hdue.trans ?_, hothers, hkeeps⟩
  rw [Dev.whlSpdSet, Dev.word_setWord_same, Dev.word_setWord_other _ _ (by unfold Reg.WHL_SPD_SET_HI Reg.WHL_SPD_SET_LO; omega), Nat.mod_mod]

theorem whlSpeedHi {s : State} (hl : s.dev.live = true) {n : Nat} (hn : n < 16) (v : Nat) : Does s (.wheelSpeedSet n true v) (fun t =>
    t.word (Reg.WHL_SPD_SET_HI n) = v % 65536 ∧
    (t.wheel n).spdDue = some (toInt 48 (v % 65536 * 2 ^ 32 + s.dev.word (Reg.WHL_SPD_SET_LO n))) ∧
    (∀ j, j ≠ n → t.wheel j = s.dev.wheel j) ∧ s.dev.keeps t [RF.whole (Reg.WHL_SPD_SET_HI n)] [.tb]) := by
  have hlt : v % 65536 % 2 ^ 32 = v % 65536 := Nat.mod_eq_of_lt (by omega)
  refine State.does_run (f := fun d => (d.setWord (Reg.WHL_SPD_SET_HI n) (v % 65536)).updWheel n fun w =>
    { w with spdDue := some ((d.setWord (Reg.WHL_SPD_SET_HI n) (v % 65536)).whlSpdSet n) }) rfl hl ?_
  obtain ⟨hword, hdue, hothers, hkeeps⟩ := s.dev.whlSpeedDue_spec (k := Reg.WHL_SPD_SET_HI n) (v := v % 65536) hn _ rfl
  rw [hlt] at hword hdue hothers hkeeps
  refine ⟨hword, hdue.trans ?_, hothers, hkeeps⟩
  rw [Dev.whlSpdSet, Dev.word_setWord_same, Dev.word_setWord_other _ _ (by unfold Reg.WHL_SPD_SET_HI Reg.WHL_SPD_SET_LO; omega), hlt, Nat.mod_mod]

/-- A value of 64 bits in its two words. -/
def Dev.setPair (d : Dev) (lo hi v : Nat) : Dev := (d.setWord lo (v % 2 ^ 32)).setWord hi (v / 2 ^ 32)

theorem Dev.setPair_words (d : Dev) {lo hi v : Nat} (hne : lo ≠ hi) (hv : v < 2 ^ 64) :
    (d.setPair lo hi v).word hi * 2 ^ 32 + (d.setPair lo hi v).word lo = v := by
  rw [Dev.setPair, Dev.word_setWord_same, Dev.word_setWord_other _ _ hne, Dev.word_setWord_same]
  omega

theorem Dev.setPair_other (d : Dev) {lo hi k : Nat} (v : Nat) (h : k ≠ lo) (h' : k ≠ hi) : (d.setPair lo hi v).word k = d.word k := by
  rw [Dev.setPair, Dev.word_setWord_other _ _ h', Dev.word_setWord_other _ _ h]

/-- The four registers in which a wheel shows its position and speed are different ones. -/
theorem whlShown_ne (n : Nat) : Reg.WHL_POS_LO n ≠ Reg.WHL_POS_HI n ∧ Reg.WHL_SPD_LO n ≠ Reg.WHL_SPD_HI n ∧
    (Reg.WHL_POS_LO n ≠ Reg.WHL_SPD_LO n ∧ Reg.WHL_POS_LO n ≠ Reg.WHL_SPD_HI n) ∧
    (Reg.WHL_POS_HI n ≠ Reg.WHL_SPD_LO n ∧ Reg.WHL_POS_HI n ≠ Reg.WHL_SPD_HI n) := by
  unfold Reg.WHL_POS_LO Reg.WHL_POS_HI Reg.WHL_SPD_LO Reg.WHL_SPD_HI
  omega

theorem whlReads {s : State} (hl : s.dev.live = true) (n : Nat) : Does s (.wheelPosRead n) (fun t =>
    t.word (Reg.WHL_POS_HI n) * 2 ^ 32 + t.word (Reg.WHL_POS_LO n) = ofInt 64 ((s.dev.wheel n).pos / 256) ∧
    t.word (Reg.WHL_SPD_HI n) * 2 ^ 32 + t.word (Reg.WHL_SPD_LO n) = ofInt 64 (s.dev.wheel n).spd ∧
    s.dev.keeps t [RF.whole (Reg.WHL_POS_LO n), RF.whole (Reg.WHL_POS_HI n), RF.whole (Reg.WHL_SPD_LO n), RF.whole (Reg.WHL_SPD_HI n)] []) := by
  refine State.does_run (f := fun d => (d.setPair (Reg.WHL_POS_LO n) (Reg.WHL_POS_HI n) (ofInt 64 ((d.wheel n).pos / 256))).setPair
    (Reg.WHL_SPD_LO n) (Reg.WHL_SPD_HI n) (ofInt 64 (d.wheel n).spd)) rfl hl ?_
  obtain ⟨hpos, hspd, hlo, hhi⟩ := whlShown_ne n
  refine ⟨?_, Dev.setPair_words _ hspd (ofInt_lt 64 _), ?_⟩
  · rw [Dev.setPair_other _ _ hhi.1 hhi.2, Dev.setPair_other _ _ hlo.1 hlo.2]
    exact Dev.setPair_words _ hpos (ofInt_lt 64 _)
  · unfold Dev.setPair
    exact Dev.keeps_setWord (by simp) (Dev.keeps_setWord (by simp) (Dev.keeps_setWord (by simp) (Dev.keeps_setWord (by simp)
      (s.dev.keeps_refl _ _))))

theorem wheelSettings_hold : wheelSettings := fun _ hl n hn =>
  ⟨fun _ hoff hen hax hsrc => whlStarts hl hn hoff hen hax hsrc, fun _ hv => whlPresets hl hn hv, whlSpeedLo hl hn, whlSpeedHi hl hn,
    whlReads hl n⟩

end Sys2Proof.Machine
end

section
/-! PROOFS. Wheels: a source's sample and staleness (R52, R56, R206). -/

namespace Sys2Proof.Machine

/-! ## A quotient with open rounding -/

/-- A quotient whose rounding is open takes no more than a free value. -/
theorem Dev.openDiv_cases (d : Dev) (a b : Int) : (d.openDiv a b).2 = d ∨ (d.openDiv a b).2 = d.tookFree := by
  unfold Dev.openDiv
  split
  · exact .inl rfl
  · split
    · exact .inl rfl
    · exact .inr rfl

theorem Dev.openDiv_keeps (d : Dev) (a b : Int) : d.keeps (d.openDiv a b).2 [] [.free] := by
  rcases d.openDiv_cases a b with h | h <;> rw [h]
  · exact d.keeps_refl _ _
  · exact Dev.keeps_tookFree (by simp) (d.keeps_refl _ _)

theorem Dev.openDiv_zero (d : Dev) (b : Int) : (d.openDiv 0 b).1 = 0 := by
  unfold Dev.openDiv
  split
  · rfl
  · rw [if_pos (Int.zero_emod b), Int.zero_ediv]

theorem Dev.derivedSpeed_keeps (d : Dev) (samples : List (Int × Int)) (avg : Nat) : d.keeps (d.derivedSpeed samples avg).2 [] [.free] := by
  unfold Dev.derivedSpeed
  split
  · exact d.keeps_refl _ _
  · exact d.openDiv_keeps _ _

theorem Dev.rtSince_now (d : Dev) : d.rtSince d.tb.rt = 0 := by
  rw [Dev.rtSince, sub_self]
  decide

/-! ## What a sample does to its wheel -/

/-- A field apart from the one written reads as before. -/
theorem Dev.g_s_apart (d : Dev) {f r : RF} (v : Nat) (hf : f.fits) (hr : r.lo ≤ r.hi) (h : r.apart f) : (d.s f v).g r = d.g r :=
  (Dev.keeps_s (fs := [f]) (ps := []) List.mem_cons_self hf.1 hf.2 (d.keeps_refl _ _)).1 r hr (by simpa using h)

/-- The fields that tell of a wheel's updates. -/
def whlTold (n : Nat) : List RF := [Reg.WHL_STAT_STALE n, Reg.WHL_UPD_CNT_COUNT n, Reg.WHL_STAT_JUMP n]

theorem whlTold_fits (n : Nat) : (Reg.WHL_STAT_STALE n).fits ∧ (Reg.WHL_UPD_CNT_COUNT n).fits ∧ (Reg.WHL_STAT_JUMP n).fits := by
  simp [RF.fits, Reg.WHL_STAT_STALE, Reg.WHL_UPD_CNT_COUNT, Reg.WHL_STAT_JUMP]

theorem whlTold_apart (n : Nat) : (Reg.WHL_UPD_CNT_COUNT n).apart (Reg.WHL_STAT_STALE n) ∧
    (Reg.WHL_STAT_STALE n).apart (Reg.WHL_UPD_CNT_COUNT n) ∧ (Reg.WHL_UPD_CNT_COUNT n).apart (Reg.WHL_STAT_JUMP n) ∧
    (Reg.WHL_STAT_STALE n).apart (Reg.WHL_STAT_JUMP n) := by
  simp [RF.apart, Reg.WHL_UPD_CNT_COUNT, Reg.WHL_STAT_STALE, Reg.WHL_STAT_JUMP, Reg.WHL_UPD_CNT, Reg.WHL_STAT]

/-- A wheel that a sample reached: no longer stale, and one more update. -/
def Dev.whlReached (d : Dev) (n : Nat) : Dev := (d.s (Reg.WHL_STAT_STALE n) 0).incWrap (Reg.WHL_UPD_CNT_COUNT n)

/-- A wheel that jumped. -/
def Dev.whlJumps (d : Dev) (n : Nat) (ctx : List Nat) : Dev := (d.s (Reg.WHL_STAT_JUMP n) 1).raise Err.TB_WHEEL_JUMP ctx

/-- A wheel as a sample leaves it: changed, reached, and perhaps with a jump. -/
def Dev.whlPlaced (d : Dev) (n : Nat) (f : Wheel → Wheel) (jump : Bool) (ctx : List Nat) : Dev :=
  ((d.updWheel n f).whlReached n).when jump fun d => d.whlJumps n ctx

theorem Dev.whlReached_spec (d : Dev) (n : Nat) : (d.whlReached n).g (Reg.WHL_STAT_STALE n) = 0 ∧
    (d.whlReached n).g (Reg.WHL_UPD_CNT_COUNT n) = (d.g (Reg.WHL_UPD_CNT_COUNT n) + 1) % 2 ^ 32 ∧ (d.whlReached n).tb = d.tb ∧
    d.keeps (d.whlReached n) (whlTold n) [.raised] := by
  obtain ⟨hstale, hcount, _⟩ := whlTold_fits n
  obtain ⟨hcs, hsc, _⟩ := whlTold_apart n
  refine ⟨?_, ?_, ?_, ?_⟩
  · rw [Dev.whlReached, Dev.incWrap, Dev.g_s_apart _ _ hcount hstale.1 hsc, Dev.g_s_same _ _ _ hstale.1 hstale.2, Nat.zero_mod]
  · rw [Dev.whlReached, Dev.incWrap, Dev.g_s_same _ _ _ hcount.1 hcount.2, Dev.g_s_apart _ _ hstale hcount.1 hcs]
    rfl
  · rw [Dev.whlReached, Dev.incWrap_tb, Dev.s_tb]
  · exact Dev.keeps_s (by simp [whlTold]) hcount.1 hcount.2 (Dev.keeps_s (by simp [whlTold]) hstale.1 hstale.2 (d.keeps_refl _ _))

theorem Dev.whlJumps_spec (d : Dev) (n : Nat) (ctx : List Nat) :
    (d.whlJumps n ctx).g (Reg.WHL_STAT_STALE n) = d.g (Reg.WHL_STAT_STALE n) ∧
    (d.whlJumps n ctx).g (Reg.WHL_UPD_CNT_COUNT n) = d.g (Reg.WHL_UPD_CNT_COUNT n) ∧ (d.whlJumps n ctx).tb = d.tb ∧
    d.keeps (d.whlJumps n ctx) (whlTold n) [.raised] := by
  obtain ⟨hstale, hcount, hjump⟩ := whlTold_fits n
  obtain ⟨_, _, hcj, hsj⟩ := whlTold_apart n
  exact ⟨d.g_s_apart 1 hjump hstale.1 hsj, d.g_s_apart 1 hjump hcount.1 hcj, rfl,
    Dev.keeps_raise (by simp) (Dev.keeps_s (by simp [whlTold]) hjump.1 hjump.2 (d.keeps_refl _ _))⟩

theorem Dev.whlPlaced_spec (d : Dev) (n : Nat) (f : Wheel → Wheel) (jump : Bool) (ctx : List Nat) :
    (d.whlPlaced n f jump ctx).g (Reg.WHL_STAT_STALE n) = 0 ∧
    (d.whlPlaced n f jump ctx).g (Reg.WHL_UPD_CNT_COUNT n) = (d.g (Reg.WHL_UPD_CNT_COUNT n) + 1) % 2 ^ 32 ∧
    (d.whlPlaced n f jump ctx).tb = (d.updWheel n f).tb ∧ d.keeps (d.whlPlaced n f jump ctx) (whlTold n) [.tb, .raised] := by
  obtain ⟨hstale, hcount, htb, hkeeps⟩ := (d.updWheel n f).whlReached_spec n
  have hkept : d.keeps ((d.updWheel n f).whlReached n) (whlTold n) [.tb, .raised] :=
    Dev.keeps_trans (Dev.keeps_mono (d.updWheel_keeps n f []) (List.nil_subset _) (by simp))
      (Dev.keeps_mono hkeeps (List.Subset.refl _) (by simp))
  cases jump with
  | false => exact ⟨hstale, hcount, htb, hkept⟩
  | true =>
    obtain ⟨hstale', hcount', htb', hkeeps'⟩ := ((d.updWheel n f).whlReached n).whlJumps_spec n ctx
    exact ⟨hstale'.trans hstale, hcount'.trans hcount, htb'.trans htb,
      Dev.keeps_trans hkept (Dev.keeps_mono hkeeps' (List.Subset.refl _) (by simp))⟩

/-- A sample at a running wheel places it; a sample of this tick from a source that does not wrap places it at the position given, with
the preset offset. -/
theorem Dev.wheelSample_placed (d : Dev) {n : Nat} (hen : d.on (Reg.WHL_CFG_EN n) = true) (p t span : Int) (spd : Option Int) :
    ∃ x f jump ctx, d.wheelSample n p t span spd = x.whlPlaced n f jump ctx ∧ d.keeps x [] [.free] ∧
      (∀ w, (f w).lastUpd = d.tick ∧ (f w).placed = true) ∧
      (span = 0 → t = d.tb.rt → ∀ w, (f w).pos = wrap72 (p + (d.wheel n).ofs)) := by
  unfold Dev.wheelSample
  rw [if_pos hen]
  extract_lets w u samples sd adv q corr jump y
  refine ⟨adv.2, _, jump, _, rfl, ?_, fun w => ⟨rfl, rfl⟩, fun hspan hnow w' => ?_⟩
  · have hspd : d.keeps sd.2 [] [.free] := by
      cases spd with
      | some v => exact d.keeps_refl _ _
      | none => exact d.derivedSpeed_keeps _ _
    exact Dev.keeps_trans hspd (sd.2.openDiv_keeps _ _)
  · have hu : u = p + w.ofs := by rw [show u = nearest span w.pos (p + w.ofs) from rfl, nearest, if_pos (Int.le_of_eq hspan)]
    have hadv : adv.1 = 0 := by
      rw [show adv = sd.2.openDiv (sd.1 * d.rtSince t) 32 from rfl, hnow, d.rtSince_now, mul_zero]
      exact sd.2.openDiv_zero 32
    show q = _
    rw [show q = wrap72 (u + adv.1) from rfl, hu, hadv, add_zero]

/-! ## A source's update (R52) -/

/-- From `d` to `t` a source's sample reached a wheel. -/
structure Dev.samplesWheel (d t : Dev) (n : Nat) : Prop where
  lastUpd : (t.wheel n).lastUpd = d.tick
  placed : (t.wheel n).placed = true
  fresh : t.on (Reg.WHL_STAT_STALE n) = false
  count : t.g (Reg.WHL_UPD_CNT_COUNT n) = (d.g (Reg.WHL_UPD_CNT_COUNT n) + 1) % 2 ^ 32
  others : ∀ j, j ≠ n → t.wheel j = d.wheel j
  frame : d.keeps t (whlTold n) [.tb, .free, .raised, .mea]

theorem Dev.wheelSample_samples (d : Dev) {n : Nat} (hn : n < 16) (hen : d.on (Reg.WHL_CFG_EN n) = true) (p t span : Int)
    (spd : Option Int) : d.samplesWheel (d.wheelSample n p t span spd) n := by
  obtain ⟨x, f, jump, ctx, hsample, hfree, hf, _⟩ := d.wheelSample_placed hen p t span spd
  obtain ⟨hstale, hcount, htb, hkeeps⟩ := x.whlPlaced_spec n f jump ctx
  obtain ⟨hothers, _⟩ := Dev.turnsWheel_of_tb (x.updWheel_turns n f) (hfree.2 .tb (by simp)) htb
  have hwheel : ((x.whlPlaced n f jump ctx).wheel n) = f (x.wheel n) := (Dev.wheel_of_tb htb n).trans (x.wheel_updWheel_same n f hn)
  rw [hsample]
  refine ⟨by rw [hwheel, (hf _).1], by rw [hwheel, (hf _).2], by rw [Dev.on, hstale]; rfl, ?_, hothers, ?_⟩
  · rw [hcount, hfree.1 _ (whlTold_fits n).2.1.1 (List.forall_mem_nil _)]
  · exact Dev.keeps_trans (Dev.keeps_mono hfree (List.nil_subset _) (by simp)) (Dev.keeps_mono hkeeps (List.Subset.refl _) (by simp))

/-- What keeps the registers and the wheels may stand before a sample. -/
theorem Dev.samplesWheel_of_keeps {d x t : Dev} {n : Nat} (h : x.samplesWheel t n) (k : d.keeps x [] [.free]) : d.samplesWheel t n := by
  refine ⟨h.lastUpd.trans (k.2 .tick (by simp)), h.placed, h.fresh, ?_, fun j hj => (h.others j hj).trans (Dev.wheel_of_tb (k.2 .tb (by simp)) j), ?_⟩
  · rw [h.count, k.1 _ (whlTold_fits n).2.1.1 (List.forall_mem_nil _)]
  · exact Dev.keeps_trans (Dev.keeps_mono k (List.nil_subset _) (by simp)) h.frame

theorem Dev.updEnc_keeps (d : Dev) (i : Nat) (f : Enc → Enc) : d.keeps (d.updEnc i f) [] [.mea] := by
  refine Dev.keeps_parts (t := d) rfl (fun p hp => ?_) (d.keeps_refl _ _)
  cases p
  case mea => exact absurd (by simp) hp
  case mem => exact fun _ => rfl
  all_goals rfl

theorem Dev.samplesWheel.updEnc {d t : Dev} {n : Nat} (h : d.samplesWheel t n) (i : Nat) (f : Enc → Enc) :
    d.samplesWheel (t.updEnc i f) n :=
  ⟨h.lastUpd, h.placed, h.fresh, h.count, h.others, Dev.keeps_trans h.frame (Dev.keeps_mono (t.updEnc_keeps i f) (List.nil_subset _) (by simp))⟩

theorem Dev.encSample_samples (d : Dev) {n : Nat} (hn : n < 16) (hen : d.on (Reg.WHL_CFG_EN n) = true) :
    d.samplesWheel (d.encSample n) n := by
  unfold Dev.encSample
  exact (d.wheelSample_samples hn hen _ _ _ _).updEnc _ _

/-- Without a new edge the encoder's count is the position of this tick (R206). -/
theorem Dev.encSample_pos (d : Dev) {n : Nat} (hn : n < 16) (hen : d.on (Reg.WHL_CFG_EN n) = true)
    (hold : (d.enc (d.g (Reg.WHL_CFG_SEL n))).fresh = false) :
    ((d.encSample n).wheel n).pos = wrap72 ((d.enc (d.g (Reg.WHL_CFG_SEL n))).cnt *
      (d.word (Reg.ENC_SCALE (d.g (Reg.WHL_CFG_SEL n))) : Int) * 256 + (d.wheel n).ofs) := by
  obtain ⟨x, f, jump, ctx, hsample, _, _, hpos⟩ := d.wheelSample_placed hen ((d.enc (d.g (Reg.WHL_CFG_SEL n))).cnt *
    (d.word (Reg.ENC_SCALE (d.g (Reg.WHL_CFG_SEL n))) : Int) * 256) d.tb.rt 0 none
  obtain ⟨_, _, htb, _⟩ := x.whlPlaced_spec n f jump ctx
  unfold Dev.encSample
  simp only [hold, Bool.false_eq_true, if_false, hsample]
  rw [Dev.wheel_of_tb ((Dev.updEnc_keeps _ _ _).2 .tb (by simp)), Dev.wheel_of_tb htb, x.wheel_updWheel_same n f hn, hpos rfl rfl]

theorem Dev.rsvSample_samples (d : Dev) {n : Nat} (hn : n < 16) (hen : d.on (Reg.WHL_CFG_EN n) = true)
    (hvalid : d.on (Reg.RSV_ANG_INVALID (d.g (Reg.WHL_CFG_SEL n))) = false) : d.samplesWheel (d.rsvSample n) n := by
  unfold Dev.rsvSample
  rw [if_neg (by simp [hvalid])]
  exact d.wheelSample_samples hn hen _ _ _ _

theorem Dev.ssiSample_samples (d : Dev) {n : Nat} (hn : n < 16) (hen : d.on (Reg.WHL_CFG_EN n) = true)
    (hgood : (d.ssi (d.g (Reg.WHL_CFG_SEL n))).last = false) (hended : (d.ssi (d.g (Reg.WHL_CFG_SEL n))).ended.isSome = true) :
    d.samplesWheel (d.ssiSample n) n := by
  unfold Dev.ssiSample
  dsimp only
  rw [if_neg]
  · exact d.wheelSample_samples hn hen _ _ _ _
  · rintro (h | h)
    · rw [hgood] at h
      contradiction
    · rw [Option.isNone_iff_eq_none] at h
      rw [h] at hended
      contradiction

theorem Dev.axisSample_samples (d : Dev) {n : Nat} (hn : n < 16) (hen : d.on (Reg.WHL_CFG_EN n) = true) : d.samplesWheel (d.axisSample n) n := by
  unfold Dev.axisSample
  extract_lets a k p v
  have hkeeps : d.keeps v.2 [] [.free] := Dev.keeps_trans (d.openDiv_keeps _ _) (p.2.openDiv_keeps _ _)
  have hen' : v.2.on (Reg.WHL_CFG_EN n) = true := by rw [Dev.on, hkeeps.1 _ (Nat.le_refl 0) (List.forall_mem_nil _)]; exact hen
  exact Dev.samplesWheel_of_keeps (v.2.wheelSample_samples hn hen' _ _ _ _) hkeeps

/-- The sources whose sample WHEEL_SOURCE_UPDATE brings. -/
def Dev.sourceSample (d : Dev) (n : Nat) : Dev :=
  match d.g (Reg.WHL_CFG_SRC n) with
  | 1 => if d.g (Reg.WHL_CFG_SEL n) < 6 then d.encSample n else d
  | 2 => if d.g (Reg.WHL_CFG_SEL n) < 3 then d.rsvSample n else d
  | 3 => if d.g (Reg.WHL_CFG_SEL n) < 4 then d.ssiSample n else d
  | 5 => d.axisSample n
  | _ => d

theorem exec_wheelSourceUpdate (n : Nat) (s : State) : exec (.wheelSourceUpdate n) s = s.run fun d =>
    if n < 16 ∧ d.on (Reg.WHL_CFG_EN n) then d.sourceSample n else d := rfl

theorem Dev.sourceSample_enc (d : Dev) {n : Nat} (hsrc : d.g (Reg.WHL_CFG_SRC n) = 1) (hsel : d.g (Reg.WHL_CFG_SEL n) < 6) :
    d.sourceSample n = d.encSample n := by
  rw [Dev.sourceSample, hsrc]
  exact if_pos hsel

/-! ## Staleness (R56) -/

/-- A field of a register that does not change. -/
theorem Dev.Within.field {K : Nat → Prop} {ps : List Part} {c : Prop} {d t : Dev} (h : Dev.Within K ps c d t) {f : RF} (hf : ¬ K f.key) :
    t.g f = d.g f := by
  rw [Dev.g, h.word _ hf]
  rfl

/-- A stale wheel makes safe the channels whose pattern it turns. -/
theorem Dev.patStale_disarms (d : Dev) (w : Nat) : d.Disarms (d.patStale w) :=
  (Within.refl d).each _ _ fun x n _ => Within.ite (fun _ => (x.makeSafe_disarms n).raise _ _ driveParts_raised) fun _ => Within.refl x

theorem exec_tbWheelStale (n : Nat) (s : State) : exec (.tbWheelStale n) s = s.run fun d =>
    if n < 16 ∧ d.on (Reg.WHL_CFG_EN n) ∧ goesStale (d.g (Reg.WHL_CFG_SRC n)) ∧ !d.on (Reg.WHL_STAT_STALE n) ∧
        d.g (Reg.WHL_LIM_STALE n) < d.whlAge n then
      ((d.s (Reg.WHL_STAT_STALE n) 1).raise Err.TB_WHEEL_STALE [n, d.whlAge n]).patStale n
    else d := rfl

theorem driveKey_whlStat {n : Nat} (hn : n < 16) : ¬ driveKey (Reg.WHL_STAT n) := by
  unfold driveKey Reg.WHL_STAT
  omega

theorem whlGoesStale {s : State} (hl : s.dev.live = true) {n : Nat} (hn : n < 16) (hen : s.dev.on (Reg.WHL_CFG_EN n) = true)
    (hsrc : goesStale (s.dev.g (Reg.WHL_CFG_SRC n)) = true) (hfresh : s.dev.on (Reg.WHL_STAT_STALE n) = false)
    (hage : s.dev.g (Reg.WHL_LIM_STALE n) < s.dev.whlAge n) : Does s (.tbWheelStale n) (fun t => t.on (Reg.WHL_STAT_STALE n) = true ∧
      s.dev.record Err.TB_WHEEL_STALE [n, s.dev.whlAge n] ∈ t.raised ∧ t.tb = s.dev.tb ∧ ∀ a, t.byte a = s.dev.byte a) := by
  refine State.does_run (exec_tbWheelStale n s) hl ?_
  rw [if_pos ⟨hn, hen, hsrc, by rw [hfresh]; rfl, hage⟩]
  generalize hx : (s.dev.s (Reg.WHL_STAT_STALE n) 1).raise Err.TB_WHEEL_STALE [n, s.dev.whlAge n] = x
  have hpat := x.patStale_disarms n
  refine ⟨?_, hpat.records.subset ?_, (hpat.part .tb (by decide)).trans (hx ▸ rfl), fun a => (hpat.part .mem (by decide) a).trans (hx ▸ rfl)⟩
  · have hset : x.g (Reg.WHL_STAT_STALE n) = 1 := hx ▸ s.dev.g_s_same (Reg.WHL_STAT_STALE n) 1 (Nat.le_refl 0) (Nat.zero_le 31)
    rw [Dev.on, hpat.field (f := Reg.WHL_STAT_STALE n) (driveKey_whlStat hn), hset]
    rfl
  · rw [← hx]
    exact List.mem_append_right _ (List.mem_singleton_self _)

theorem wheelUpdates_hold : wheelUpdates := by
  intro s hl n hn hen
  refine ⟨fun hsrc => State.does_run (exec_wheelSourceUpdate n s) hl ?_,
    fun hsrc hsel hold => State.does_run (exec_wheelSourceUpdate n s) hl ?_, whlGoesStale hl hn hen⟩
  · have hsampled : s.dev.samplesWheel (s.dev.sourceSample n) n := by
      unfold Dev.sourceSample
      rcases hsrc with ⟨hsrc, hsel⟩ | ⟨hsrc, hsel, hvalid⟩ | ⟨hsrc, hsel, hgood, hended⟩ | hsrc <;> rw [hsrc]
      · exact (if_pos hsel).symm ▸ s.dev.encSample_samples hn hen
      · exact (if_pos hsel).symm ▸ s.dev.rsvSample_samples hn hen hvalid
      · exact (if_pos hsel).symm ▸ s.dev.ssiSample_samples hn hen hgood hended
      · exact s.dev.axisSample_samples hn hen
    obtain ⟨hlast, hplaced, hfresh, hcount, hothers, hframe⟩ := hsampled
    rw [if_pos ⟨hn, hen⟩]
    exact ⟨hlast, hplaced, hfresh, hcount, hothers, hframe⟩
  · rw [if_pos ⟨hn, hen⟩, s.dev.sourceSample_enc hsrc hsel]
    exact s.dev.encSample_pos hn hen hold

end Sys2Proof.Machine
end

section
open Sys2Proof Sys2Proof.Machine

/-- Settles O11: the settings write no more than their wheel, and every source's sample places its wheel in the same way. -/
theorem wheels : Obligations.Wheels := ⟨wheelSettings_hold, wheelUpdates_hold⟩

end

section
/-! PROOFS. A tick lets RT64 advance, and no block turns it back (R44). -/

namespace Sys2Proof.Machine

/-! ## Blocks that leave time as it is -/

/-- From `d` to `t` the tick and the time base stand. -/
structure Dev.stands (d t : Dev) : Prop where
  tick : t.tick = d.tick
  tb : t.tb = d.tb

namespace Dev.stands

variable {d t u : Dev}

theorem refl (d : Dev) : d.stands d := ⟨rfl, rfl⟩

theorem trans (h : d.stands t) (g : t.stands u) : d.stands u := ⟨g.tick.trans h.tick, g.tb.trans h.tb⟩

theorem ite {P : Prop} [Decidable P] (ht : P → d.stands t) (hu : ¬ P → d.stands u) : d.stands (if P then t else u) := by
  split
  · next h => exact ht h
  · next h => exact hu h

theorem each (h : d.stands t) {α : Type} (l : List α) (f : Dev → α → Dev) (hf : ∀ x a, Dev.stands x (f x a)) : d.stands (t.each l f) :=
  h.trans (Dev.each_rel refl trans l f hf t)

theorem when (h : d.stands t) (b : Bool) (f : Dev → Dev) (hf : t.stands (f t)) : d.stands (t.when b f) :=
  ite (fun _ => h.trans hf) fun _ => h

theorem setWord (h : d.stands t) (k v : Nat) : d.stands (t.setWord k v) := ⟨h.tick, h.tb⟩

theorem s (h : d.stands t) (f : RF) (v : Nat) : d.stands (t.s f v) := h.setWord _ _

theorem raise (h : d.stands t) (code : Nat) (ctx : List Nat) : d.stands (t.raise code ctx) := ⟨h.tick, h.tb⟩

theorem updAxis (h : d.stands t) (n : Nat) (f : Axis → Axis) : d.stands (t.updAxis n f) := ⟨h.tick, h.tb⟩

theorem updHb (h : d.stands t) (n : Nat) (f : Hb → Hb) : d.stands (t.updHb n f) := ⟨h.tick, h.tb⟩

theorem updPch (h : d.stands t) (n : Nat) (f : PwmCh → PwmCh) : d.stands (t.updPch n f) := ⟨h.tick, h.tb⟩

theorem updEnc (h : d.stands t) (n : Nat) (f : Enc → Enc) : d.stands (t.updEnc n f) := ⟨h.tick, h.tb⟩

theorem updPtp (h : d.stands t) (m : Nat) (f : PtpClock → PtpClock) : d.stands (t.updPtp m f) := ⟨h.tick, h.tb⟩

theorem updPort (h : d.stands t) (p : Nat) (f : HostPort → HostPort) : d.stands (t.updPort p f) := ⟨h.tick, h.tb⟩

theorem updDrg (h : d.stands t) (f : Drg → Drg) : d.stands (t.updDrg f) := ⟨h.tick, h.tb⟩

theorem withHst (h : d.stands t) (x : Hst) : d.stands { t with hst := x } := ⟨h.tick, h.tb⟩

theorem of_keeps {fs : List RF} {ps : List Part} (h : d.keeps t fs ps) (hp : Part.tick ∉ ps ∧ Part.tb ∉ ps := by decide) : d.stands t :=
  ⟨h.2 .tick hp.1, h.2 .tb hp.2⟩

theorem of_within {K : Nat → Prop} {ps : List Part} {c : Prop} (h : Dev.Within K ps c d t) (hp : Part.tick ∉ ps ∧ Part.tb ∉ ps := by decide) :
    d.stands t := ⟨h.part .tick hp.1, h.part .tb hp.2⟩

end Dev.stands

/-! ## The step axes -/

theorem Dev.openDiv_stands (d : Dev) (a b : Int) : d.stands (d.openDiv a b).2 := .of_keeps (d.openDiv_keeps a b)

theorem Dev.axVM_stands (d : Dev) (n : Nat) : d.stands (d.axVM n).2 := by
  unfold Dev.axVM
  dsimp only
  split
  · exact d.openDiv_stands _ _
  · exact .refl d

theorem Dev.axClamp_stands (d : Dev) (n : Nat) (e : Int) : d.stands (d.axClamp n e).2 := by
  unfold Dev.axClamp
  split
  · exact (stands.refl d).updAxis n _
  · dsimp only
    split
    · exact (stands.refl d).updAxis n _
    · dsimp only
      refine stands.when (((stands.refl d).s _ 1).updAxis n _) _ _ ?_
      exact (stands.refl _).raise _ _

theorem Dev.axMove_stands (d : Dev) (n : Nat) (v dir : Int) : d.stands (d.axMove n v dir) := (stands.refl d).updAxis n _

theorem Dev.axPursue_stands (d : Dev) (n : Nat) (e vm vg : Int) : d.stands (d.axPursue n e vm vg) := by
  unfold Dev.axPursue
  exact stands.ite (fun _ => d.axMove_stands _ _ _) fun _ => stands.ite (fun _ => d.axMove_stands _ _ _) fun _ => d.axMove_stands _ _ _

/-- An axis that enters a state. -/
theorem Dev.stands.axGo {d t : Dev} (h : d.stands t) (n st : Nat) : d.stands (t.axGo n st) := h.trans (.of_within (t.axGo_stops n st))

theorem Dev.stands.homeNext {d t : Dev} (h : d.stands t) (n step : Nat) : d.stands (t.homeNext n step) := (h.s _ _).updAxis n _

theorem Dev.axAtRest_stands (d : Dev) (n : Nat) : d.stands (d.axAtRest n) := by
  have hd := stands.refl d
  unfold Dev.axAtRest
  refine stands.ite (fun _ => ?_) fun _ => stands.ite (fun _ => ?_) fun _ => stands.ite (fun _ => ?_) fun _ => hd
  · have hfailed : d.stands _ := (hd.s (Reg.STP_STAT_HOMED n) 0).s (Reg.STP_STAT_REASON n) (d.axis n).fail
    exact ((((stands.ite (fun _ => hfailed.setWord _ _) fun _ => hfailed).raise _ _).s _ _).updAxis n _).axGo n axHold
  · exact ((hd.setWord _ _).updAxis n _).axGo n axHold
  · split
    · exact stands.ite (fun _ => hd.homeNext n 2) fun _ => hd.updAxis n _
    · exact hd.homeNext n 3
    · exact (((hd.raise _ _).s _ _).updAxis n _).axGo n axHold
    · exact hd

theorem Dev.homeFail_stands (d : Dev) (n reason : Nat) (emg : Bool) : d.stands (d.homeFail n reason emg) := by
  have hfails (f : Axis → Axis) : d.stands (d.updAxis n f) := (stands.refl d).updAxis n f
  exact stands.ite (fun _ => (hfails _).trans (Dev.axAtRest_stands _ n)) fun _ => hfails _

/-- A movement that may end at rest. -/
theorem Dev.axSlow_stands (d : Dev) (n : Nat) (v dir : Int) :
    d.stands (if ((d.axMove n v dir).axis n).v = 0 then (d.axMove n v dir).axAtRest n else d.axMove n v dir) :=
  stands.ite (fun _ => (d.axMove_stands n v dir).trans (Dev.axAtRest_stands _ n)) fun _ => d.axMove_stands n v dir

theorem Dev.axTick_stands (d : Dev) (n : Nat) : d.stands (d.axTick n) := by
  unfold Dev.axTick
  refine stands.trans ?_ (.of_within (Dev.axShow_stops _ n))
  refine stands.ite (fun _ => ?_) fun _ => stands.ite (fun _ => d.axSlow_stands n _ _) fun _ => stands.ite (fun _ => ?_) fun _ => stands.refl d
  · refine (d.axVM_stands n).trans (stands.ite (fun _ => ?_) fun _ => ?_)
    · exact (((Dev.axClamp_stands _ n _).updAxis n _).trans (Dev.axPursue_stands _ n _ _ _)).setWord _ _
    · exact ((Dev.axClamp_stands _ n _).trans (Dev.axPursue_stands _ n _ _ _)).s _ _
  · refine stands.ite (fun _ => d.axSlow_stands n _ _) fun _ => ?_
    have hpursued (e vm : Int) : d.stands ((d.axVM n).2.axPursue n e vm 0) := (d.axVM_stands n).trans (Dev.axPursue_stands _ n e vm 0)
    exact stands.ite (fun _ => (hpursued _ _).trans (Dev.homeFail_stands _ n _ _)) fun _ => hpursued _ _

/-! ## The other blocks -/

theorem Dev.phaseTick_stands (d : Dev) (n p : Nat) : d.stands (d.phaseTick n p) := by
  have hphase (x : Dev) (f : Phase → Phase) : x.stands ((x.updPhase n p f).phaseOut n p) :=
    ((stands.refl x).updPch n _).trans (.of_within (Dev.phaseOut_stops _ n p))
  unfold Dev.phaseTick
  extract_lets f e
  have hheld : d.stands e := by
    unfold e
    split
    · exact stands.ite (fun _ => hphase d _) fun _ => stands.refl d
    · exact stands.refl d
  split
  · exact stands.ite (fun _ => hheld.trans (hphase e _)) fun _ => hheld
  · exact hheld

theorem Dev.phasesTick_stands (d : Dev) : d.stands d.phasesTick :=
  (stands.refl d).each _ _ fun x n => (stands.refl x).each _ _ fun y p => y.phaseTick_stands n p

theorem Dev.hbTick_stands (d : Dev) (n : Nat) : d.stands (d.hbTick n) := by
  unfold Dev.hbTick
  extract_lets h e
  have hrefreshed : d.stands e := by
    unfold e
    split
    · exact stands.ite (fun _ => (stands.refl d).updHb n _) fun _ => stands.refl d
    · exact stands.refl d
  exact stands.ite (fun _ => hrefreshed.trans (.of_within (e.hbApply_stops n))) fun _ => hrefreshed

theorem Dev.encTick_stands (d : Dev) (n : Nat) : d.stands (d.encTick n) :=
  stands.ite (fun _ => (((stands.refl d).s _ 0).updEnc n _).setWord _ _) fun _ => stands.refl d

theorem Dev.pwmCount_stands (d : Dev) (n : Nat) : d.stands (d.pwmCount n) := stands.ite (fun _ => (stands.refl d).s _ _) fun _ => stands.refl d

theorem Dev.acarCount_stands (d : Dev) (c : Nat) : d.stands (d.acarCount c) := stands.ite (fun _ => (stands.refl d).s _ _) fun _ => stands.refl d

theorem Dev.chopSync_stands (d : Dev) (m : Nat) : d.stands (d.chopSync m) := by
  unfold Dev.chopSync
  split
  · exact stands.refl d
  · exact ((stands.refl d).s _ _).updPch _ _

theorem Dev.ptpTick_stands (d : Dev) (m : Nat) : d.stands (d.ptpTick m) := (stands.refl d).updPtp m _

theorem Dev.ethSend_stands (d : Dev) (p : Nat) : d.stands (d.ethSend p) := by
  unfold Dev.ethSend
  split
  · exact stands.refl d
  · exact stands.ite (fun _ => ((stands.refl d).updPtp _ _).updPort p _) fun _ => stands.refl d

theorem Dev.portOut_stands (d : Dev) (p kind node tag code addr : Nat) (data : List Nat) :
    d.stands (d.portOut p kind node tag code addr data) :=
  stands.ite (fun _ => (stands.refl d).updPort p _) fun _ => (stands.refl d).s _ _

theorem Dev.bulkQueue_stands (d : Dev) (chan dest : Nat) (bcast : Bool) (data : List Nat) : d.stands (d.bulkQueue chan dest bcast data) := by
  unfold Dev.bulkQueue
  exact (stands.refl d).updDrg _

theorem Dev.reply_stands (d : Dev) (o tag addr code : Nat) (data : List Nat) : d.stands (d.reply o tag addr code data) :=
  stands.ite (fun _ => ((stands.refl d).updPort o _).trans (Dev.portOut_stands _ _ _ _ _ _ _ _)) fun _ => d.bulkQueue_stands _ _ _ _

theorem Dev.ceAnswer_stands (d : Dev) : d.stands d.ceAnswer := by
  unfold Dev.ceAnswer
  split
  · exact stands.ite (fun _ => stands.refl d) fun _ => ((stands.refl d).withHst _).trans (Dev.reply_stands _ _ _ _ _ _)
  · exact stands.refl d

/-! ## RT64 through the blocks of a tick -/

/-- From `d` to `t` the tick and RT64 stand, whatever becomes of the rest of the time base. -/
structure Dev.keepsTime (d t : Dev) : Prop where
  tick : t.tick = d.tick
  rt : t.tb.rt = d.tb.rt

namespace Dev.keepsTime

variable {d t u : Dev}

theorem refl (d : Dev) : d.keepsTime d := ⟨rfl, rfl⟩

theorem trans (h : d.keepsTime t) (g : t.keepsTime u) : d.keepsTime u := ⟨g.tick.trans h.tick, g.rt.trans h.rt⟩

theorem of_stands (h : d.stands t) : d.keepsTime t := ⟨h.tick, by rw [h.tb]⟩

/-- A list of updates after others. -/
theorem each {α : Type} (h : d.keepsTime t) (l : List α) (f : Dev → α → Dev) (hf : ∀ x a, Dev.keepsTime x (f x a)) :
    d.keepsTime (t.each l f) := h.trans (Dev.each_rel refl trans l f hf t)

end Dev.keepsTime

theorem Dev.updWheel_keepsTime (d : Dev) (n : Nat) (f : Wheel → Wheel) : d.keepsTime (d.updWheel n f) := ⟨rfl, rfl⟩

theorem Dev.wheelSample_keepsTime (d : Dev) (n : Nat) (p t span : Int) (spd : Option Int) : d.keepsTime (d.wheelSample n p t span spd) := by
  by_cases hen : d.on (Reg.WHL_CFG_EN n) = true
  · obtain ⟨x, f, jump, ctx, hsample, hfree, _⟩ := d.wheelSample_placed hen p t span spd
    obtain ⟨_, _, htb, hkeeps⟩ := x.whlPlaced_spec n f jump ctx
    rw [hsample]
    exact (keepsTime.of_stands (.of_keeps hfree)).trans ⟨hkeeps.2 .tick (by decide), (congrArg Tb.rt htb).trans (x.updWheel_keepsTime n f).rt⟩
  · rw [Dev.wheelSample, if_neg hen]
    exact keepsTime.refl d

theorem Dev.axisSample_keepsTime (d : Dev) (n : Nat) : d.keepsTime (d.axisSample n) := by
  unfold Dev.axisSample
  extract_lets a k p v
  have hdivs : d.stands v.2 := (d.openDiv_stands _ _).trans (p.2.openDiv_stands _ _)
  exact (keepsTime.of_stands hdivs).trans (v.2.wheelSample_keepsTime _ _ _ _ _)

theorem Dev.wheelStep_keepsTime (d : Dev) (n : Nat) : d.keepsTime (d.wheelStep n) := by
  have hticked : d.keepsTime (d.wheelTick n) := d.updWheel_keepsTime n _
  unfold Dev.wheelStep
  dsimp only
  split
  · exact hticked.trans (Dev.axisSample_keepsTime _ n)
  · exact hticked

/-- The time error of a PTP follower is no part of RT64. -/
theorem Dev.withSlew_keepsTime (d : Dev) (err : Int) : d.keepsTime { d with tb := { d.tb with slew := err } } := ⟨rfl, rfl⟩

theorem Dev.s_keepsTime (d : Dev) (f : RF) (v : Nat) : d.keepsTime (d.s f v) := .of_stands ((stands.refl d).s f v)

theorem Dev.ptpFollow_keepsTime (d : Dev) : d.keepsTime d.ptpFollow := by
  unfold Dev.ptpFollow
  split
  · exact (d.withSlew_keepsTime _).trans (Dev.s_keepsTime _ _ _)
  · exact d.s_keepsTime _ _

/-- The general outputs that follow change only their pins. -/
theorem Dev.goDrive_keepsTime (d : Dev) : d.keepsTime d.goDrive := ⟨rfl, rfl⟩

theorem Dev.blocksTick_keepsTime (d : Dev) : d.keepsTime d.blocksTick := by
  have hptp := (keepsTime.of_stands ((d.ptpTick_stands 0).trans (Dev.ptpTick_stands _ 1))).trans (Dev.ptpFollow_keepsTime _)
  have hsent := hptp.trans (.of_stands (((Dev.ethSend_stands _ 1).trans (Dev.ethSend_stands _ 2)).trans (Dev.ceAnswer_stands _)))
  have hmoved := (hsent.each (List.range 4) Dev.axTick fun x n => .of_stands (x.axTick_stands n)).each (List.range 16) Dev.wheelStep
    fun x n => x.wheelStep_keepsTime n
  have hdriven := (hmoved.each (List.range 16) Dev.hbTick fun x n => .of_stands (x.hbTick_stands n)).trans (.of_stands (Dev.phasesTick_stands _))
  have hcounted := ((hdriven.each (List.range 6) Dev.encTick fun x n => .of_stands (x.encTick_stands n)).each (List.range 6) Dev.pwmCount
    fun x n => .of_stands (x.pwmCount_stands n)).each (List.range 4) Dev.acarCount fun x n => .of_stands (x.acarCount_stands n)
  exact (hcounted.each (List.range 4) Dev.chopSync fun x m => .of_stands (x.chopSync_stands m)).trans (Dev.goDrive_keepsTime _)

/-! ## The tick -/

/-- The Bells that are carried over change nothing else of the time base. -/
theorem Dev.bellCarry_spec (d : Dev) : d.bellCarry.tick = d.tick ∧ d.bellCarry.tb.rt = d.tb.rt ∧ d.bellCarry.tb.inc = d.tb.inc := by
  unfold Dev.bellCarry
  split
  · exact ⟨rfl, rfl, rfl⟩
  · exact ⟨rfl, rfl, rfl⟩

theorem Tb.inc_cases (t : Tb) : t.inc = 32 ∨ (t.inc = 33 ∧ 0 < t.slew) ∨ (t.inc = 31 ∧ t.slew < 0) := by
  unfold Tb.inc
  split
  · exact .inl rfl
  · next h =>
    have hslew : t.slew ≠ 0 := fun hz => h (.inr hz)
    split
    · next hpos => exact .inr (.inl ⟨rfl, hpos⟩)
    · next hneg => exact .inr (.inr ⟨rfl, by omega⟩)

theorem Dev.live_clk {d : Dev} (h : d.live = true) : ¬ d.sys.fclkLost.isSome = true := by
  rw [Dev.live, Bool.and_eq_true, Option.isNone_iff_eq_none] at h
  rw [h.2]
  exact Bool.false_ne_true

theorem Dev.tickOnce_noClk (d : Dev) (hrun : d.sys.run ≠ .inReset) (hlost : d.sys.fclkLost.isSome = true) :
    d.tickOnce.tick = d.tick + 1 ∧ d.tickOnce.tb = d.tb := by
  have hstands := Dev.phasesTick_stands { d with tick := d.tick + 1 }
  rw [Dev.tickOnce, if_neg hrun, if_pos hlost]
  exact ⟨hstands.tick, hstands.tb⟩

theorem Dev.tickOnce_clk (d : Dev) (hrun : d.sys.run ≠ .inReset) (hclk : ¬ d.sys.fclkLost.isSome = true) :
    d.tickOnce.tick = d.tick + 1 ∧ d.tickOnce.tb.rt = (d.tb.rt + d.tb.inc) % 2 ^ 64 := by
  obtain ⟨htick, hrt, hinc⟩ := d.bellCarry_spec
  obtain ⟨htick', hrt'⟩ := d.bellCarry.advance.blocksTick_keepsTime
  rw [Dev.tickOnce, if_neg hrun, if_neg hclk, htick', hrt']
  refine ⟨congrArg (· + 1) htick, ?_⟩
  rw [← hrt, ← hinc]
  rfl

theorem step_tick {s : State} (h : s.pending = []) : step s = .next { s with dev := s.dev.tickOnce } := by
  unfold step
  rw [h]

end Sys2Proof.Machine
end

section
open Sys2Proof Sys2Proof.Machine

/-- Settles O2: RT64 advances before the blocks' tick, and no block turns it back. -/
theorem emptyQueueTicks : Obligations.EmptyQueueTicks := by
  intro s hpending
  refine ⟨_, step_tick hpending, hpending, fun hreset => ?_, fun hrun => ?_, fun hrun hlost => ?_, fun hlive => ⟨?_, s.dev.tb.inc_cases⟩⟩
  · rw [Dev.tickOnce, if_pos hreset]
  · by_cases hlost : s.dev.sys.fclkLost.isSome = true
    · exact (s.dev.tickOnce_noClk hrun hlost).1
    · exact (s.dev.tickOnce_clk hrun hlost).1
  · exact (s.dev.tickOnce_noClk hrun hlost).2
  · exact (s.dev.tickOnce_clk (Dev.live_out _ hlive) (Dev.live_clk hlive)).2

end

section
/-! PROOFS. What the work of one channel at a period boundary reaches (R150 to R157, R168, R169). -/

namespace Sys2Proof.Machine

/-- The bounds of a field, compared. -/
theorem RF.fits_of {f : RF} (h : (f.lo.ble f.hi && f.hi.ble 31) = true) : f.fits := by
  obtain ⟨hlo, hhi⟩ := Bool.and_eq_true_iff.1 h
  exact ⟨Nat.le_of_ble_eq_true hlo, Nat.le_of_ble_eq_true hhi⟩

/-! ## The reach of a channel's work -/

/-- The parts that a channel's work reaches. -/
def chParts : List Part := [.pwm, .aux, .dcl, .hst, .free, .raised]

/-- From `d` to `t` the work of channel `c`: it changes the fields `fs`, no other channel of the pulse generation, and neither the length
of the period nor the note of a trip. -/
structure Dev.drives (d t : Dev) (c : Nat) (fs : List RF) : Prop where
  frame : d.keeps t fs chParts
  conds : t.pwm.conds = d.pwm.conds
  others : ∀ j, j ≠ c → t.pch j = d.pch j
  len : (t.pch c).len = (d.pch c).len
  armTrip : (t.pch c).armTrip = (d.pch c).armTrip

namespace Dev.drives

variable {d t u : Dev} {c : Nat} {fs gs : List RF}

theorem refl (d : Dev) (c : Nat) (fs : List RF) : d.drives d c fs := ⟨d.keeps_refl _ _, rfl, fun _ _ => rfl, rfl, rfl⟩

theorem trans (h : d.drives t c fs) (g : t.drives u c fs) : d.drives u c fs :=
  ⟨Dev.keeps_trans h.frame g.frame, g.conds.trans h.conds, fun j hj => (g.others j hj).trans (h.others j hj), g.len.trans h.len,
    g.armTrip.trans h.armTrip⟩

theorem mono (h : d.drives t c fs) (hf : fs ⊆ gs) : d.drives t c gs :=
  ⟨Dev.keeps_mono h.frame hf (List.Subset.refl _), h.conds, h.others, h.len, h.armTrip⟩

/-- What leaves the pulse generation as it is. -/
theorem ofKeeps (h : d.drives t c fs) {ps : List Part} (k : t.keeps u fs ps) (hps : ps ⊆ chParts ∧ Part.pwm ∉ ps := by decide) :
    d.drives u c fs := by
  have hpwm : u.pwm = t.pwm := k.2 .pwm hps.2
  have hpch (j : Nat) : u.pch j = t.pch j := by rw [Dev.pch, hpwm]; rfl
  exact h.trans ⟨Dev.keeps_mono k (List.Subset.refl _) hps.1, congrArg Pwm.conds hpwm, fun j _ => hpch j, congrArg PwmCh.len (hpch c),
    congrArg PwmCh.armTrip (hpch c)⟩

theorem s (h : d.drives t c fs) {f : RF} (v : Nat) (hf : f ∈ fs) (hfit : f.fits) :
    d.drives (t.s f v) c fs := h.ofKeeps (ps := []) (Dev.keeps_s hf hfit.1 hfit.2 (t.keeps_refl _ _))

theorem setWord (h : d.drives t c fs) {k : Nat} (v : Nat) (hk : RF.whole k ∈ fs) : d.drives (t.setWord k v) c fs :=
  h.ofKeeps (ps := []) (Dev.keeps_setWord hk (t.keeps_refl _ _))

/-- A write to a field of a register that is listed whole. -/
theorem sIn (h : d.drives t c fs) (f : RF) (v : Nat) (hf : RF.whole f.key ∈ fs) : d.drives (t.s f v) c fs := h.setWord _ hf

theorem raise (h : d.drives t c fs) (code : Nat) (ctx : List Nat) : d.drives (t.raise code ctx) c fs :=
  h.ofKeeps (ps := [.raised]) (Dev.keeps_raise (by simp) (t.keeps_refl _ _))

theorem openDiv (h : d.drives t c fs) (a b : Int) : d.drives (t.openDiv a b).2 c fs :=
  h.ofKeeps (ps := [.free]) (Dev.keeps_mono (t.openDiv_keeps a b) (List.nil_subset _) (List.Subset.refl _))

theorem withHst (h : d.drives t c fs) (x : Hst) : d.drives { t with hst := x } c fs :=
  h.ofKeeps (ps := [.hst]) (Dev.keeps_withHst (by simp) (t.keeps_refl _ _))

theorem withdraw (h : d.drives t c fs) (f n : Nat) (hf : RF.whole (Reg.ASSIST_CFG f) ∈ fs) : d.drives (t.withdraw f n) c fs :=
  (h.withHst _).sIn _ _ hf

theorem withAux (h : d.drives t c fs) (x : Aux) : d.drives { t with aux := x } c fs :=
  h.ofKeeps (ps := [.aux]) (Dev.keeps_withAux (by simp) (t.keeps_refl _ _))

theorem withDcl (h : d.drives t c fs) (x : Dcl) : d.drives { t with dcl := x } c fs :=
  h.ofKeeps (ps := [.dcl]) (Dev.keeps_withDcl (by simp) (t.keeps_refl _ _))

/-- The masks of the commutators belong to no channel. -/
theorem withCmuMask (h : d.drives t c fs) (l : List Nat) : d.drives { t with pwm := { t.pwm with cmuMask := l } } c fs :=
  h.trans ⟨Dev.keeps_withPwm (by decide) (t.keeps_refl _ _), rfl, fun _ _ => rfl, rfl, rfl⟩

theorem updPch (h : d.drives t c fs) (hc : c < 6) (f : PwmCh → PwmCh) (hf : ∀ p, (f p).len = p.len ∧ (f p).armTrip = p.armTrip) :
    d.drives (t.updPch c f) c fs :=
  h.trans ⟨Dev.keeps_withPwm (by decide) (t.keeps_refl _ _), rfl, fun _ hj => t.pch_updPch_other f hj,
    by rw [t.pch_updPch_same c f hc, (hf _).1], by rw [t.pch_updPch_same c f hc, (hf _).2]⟩

theorem updLeg (h : d.drives t c fs) (hc : c < 6) (m : Nat) (f : Leg → Leg) : d.drives (t.updLeg c m f) c fs :=
  h.updPch hc _ fun _ => ⟨rfl, rfl⟩

theorem updPhase (h : d.drives t c fs) (hc : c < 6) (p : Nat) (f : Phase → Phase) : d.drives (t.updPhase c p f) c fs :=
  h.updPch hc _ fun _ => ⟨rfl, rfl⟩

theorem ite {P : Prop} [Decidable P] (ht : P → d.drives t c fs) (hu : ¬ P → d.drives u c fs) : d.drives (if P then t else u) c fs := by
  split
  · next h => exact ht h
  · next h => exact hu h

theorem when (h : d.drives t c fs) (b : Bool) (f : Dev → Dev) (hf : t.drives (f t) c fs) : d.drives (t.when b f) c fs :=
  ite (fun _ => h.trans hf) fun _ => h

theorem each (h : d.drives t c fs) {α : Type} (l : List α) (f : Dev → α → Dev) (hf : ∀ x, ∀ a ∈ l, Dev.drives x (f x a) c fs) :
    d.drives (t.each l f) c fs := by
  unfold Dev.each
  induction l generalizing t with
  | nil => exact h
  | cons a m ih => exact ih (h.trans (hf t a List.mem_cons_self)) fun x b hb => hf x b (List.mem_cons_of_mem _ hb)

/-- A field apart from all that change. -/
theorem field (h : d.drives t c fs) {r : RF} (hr : r.lo ≤ r.hi) (ha : ∀ f ∈ fs, r.apart f) : t.g r = d.g r := h.frame.1 r hr ha

end Dev.drives

/-! ## The legs follow their requests (R150 to R157) -/

/-- The fields that the legs of a channel show. -/
def legsShown (c : Nat) : List RF := [Reg.PWM_LEG_STAT_CONFLICT c, Reg.PWM_LEG_STAT_NPC_ILL c]

theorem Dev.scaleCmp_drives (d : Dev) (c v per len : Nat) (fs : List RF) : d.drives (d.scaleCmp v per len).2 c fs := by
  unfold Dev.scaleCmp
  split
  · exact drives.refl d c fs
  · split
    · exact drives.refl d c fs
    · exact (drives.refl d c fs).openDiv _ _

section
variable {c : Nat} (hc : c < 6)
include hc

theorem Dev.phaseOut_drives (d : Dev) (p : Nat) (fs : List RF) : d.drives (d.phaseOut c p) c fs :=
  ((drives.refl d c fs).updLeg hc _ _).updLeg hc _ _

theorem Dev.phaseApply_drives (d : Dev) (p : Nat) : d.drives (d.phaseApply c p) c (legsShown c) := by
  have hphase (f : Phase → Phase) : d.drives ((d.updPhase c p f).phaseOut c p) c (legsShown c) :=
    ((drives.refl d c _).updPhase hc p f).trans (Dev.phaseOut_drives hc _ p _)
  unfold Dev.phaseApply
  refine drives.ite (fun _ => drives.refl d c _) fun _ => drives.ite (fun _ => hphase _) fun _ => ?_
  split
  · refine (drives.refl d c _).when _ _ (drives.raise ?_ _ _)
    exact (drives.refl d c _).s _ (by simp [legsShown]) (RF.fits_of rfl)
  · exact hphase _

theorem Dev.legApply_drives (d : Dev) (m : Nat) : d.drives (d.legApply c m) c (legsShown c) := by
  unfold Dev.legApply
  refine ((drives.refl d c _).updLeg hc _ _).when _ _ (drives.raise ?_ _ _)
  exact (drives.refl _ c _).s _ (by simp [legsShown]) (RF.fits_of rfl)

theorem Dev.legsApply_drives (d : Dev) : d.drives (d.legsApply c) c (legsShown c) := by
  refine (drives.refl d c _).each _ _ fun x m _ => ?_
  refine drives.ite (fun _ => drives.refl x c _) fun _ => drives.ite (fun _ => ?_) fun _ => x.legApply_drives hc m
  exact drives.ite (fun _ => x.phaseApply_drives hc _) fun _ => drives.refl x c _

theorem Dev.legBegin_drives (d : Dev) (m per len : Nat) (fs : List RF) : d.drives (d.legBegin c m per len) c fs := by
  unfold Dev.legBegin
  exact ((d.scaleCmp_drives c _ _ _ fs).trans (Dev.scaleCmp_drives _ c _ _ _ fs)).updLeg hc _ _

end

/-! ## The safe state (R168) -/

/-- The fields that show the safe state of a channel. -/
def safeShown (c : Nat) : List RF :=
  [Reg.PWM_CH_STAT_SAFE c, RF.whole (Reg.PWM_MASK_ACT c), RF.whole (Reg.DCL_CH_STAT c)] ++
    (List.range 2).map (fun k => RF.whole (Reg.CMU_STAT k)) ++ (List.range 2).map fun f => RF.whole (Reg.ASSIST_CFG f)

theorem mem_safeShown_cmu {c k : Nat} (hk : k ∈ List.range 2) : RF.whole (Reg.CMU_STAT k) ∈ safeShown c :=
  List.mem_append_left _ (List.mem_append_right _ (List.mem_map_of_mem hk))

theorem mem_safeShown_assist {c f : Nat} (hf : f ∈ List.range 2) : RF.whole (Reg.ASSIST_CFG f) ∈ safeShown c :=
  List.mem_append_right _ (List.mem_map_of_mem (f := fun f => RF.whole (Reg.ASSIST_CFG f)) hf)

theorem Dev.safeHaltsCmu_drives (d : Dev) (c : Nat) : d.drives (d.safeHaltsCmu c) c (safeShown c) := by
  refine (drives.refl d c _).each _ _ fun x k hk => ?_
  have hcmu : RF.whole (Reg.CMU_STAT k) ∈ safeShown c := mem_safeShown_cmu hk
  refine drives.ite (fun _ => ?_) fun _ => drives.refl x c _
  refine drives.raise ?_ _ _
  have hhalted := (((drives.refl x c (safeShown c)).sIn (Reg.CMU_STAT_STATE k) 8 hcmu).sIn (Reg.CMU_STAT_REASON k) 11 hcmu).sIn
    (Reg.CMU_STAT_PROPOSE k) 0 hcmu
  have hnone := (hhalted.withdraw 0 k (mem_safeShown_assist (by decide))).withdraw 1 k (mem_safeShown_assist (by decide))
  exact drives.ite (fun _ => (hnone.withCmuMask _).setWord _ (by simp [safeShown])) fun _ => hnone.withCmuMask _

theorem mem_safeShown_dcl (c : Nat) : RF.whole (Reg.DCL_CH_STAT c) ∈ safeShown c := by simp [safeShown]

theorem Dev.brakeOn_drives (d : Dev) (c : Nat) : d.drives (d.brakeOn c) c (safeShown c) := by
  have hbrk := (drives.refl d c (safeShown c)).sIn (Reg.DCL_CH_STAT_BRK c) 1 (mem_safeShown_dcl c)
  exact drives.ite (fun _ => hbrk.withAux _) fun _ => hbrk

theorem Dev.safeHolds_drives (d : Dev) (c : Nat) : d.drives (d.safeHolds c) c (safeShown c) := by
  refine drives.ite (fun _ => ?_) fun _ => drives.refl d c _
  have hheld := ((drives.refl d c (safeShown c)).sIn (Reg.DCL_CH_STAT_SLSTATE c) 3 (mem_safeShown_dcl c)).sIn (Reg.DCL_CH_STAT_CAUSE c) 6
    (mem_safeShown_dcl c)
  exact ((hheld.withDcl _).trans (Dev.brakeOn_drives _ c)).raise _ _

theorem Dev.refreshSafe_drives (d : Dev) (c : Nat) : d.drives (d.refreshSafe c) c (safeShown c) := by
  have hsafe (v : Nat) := (drives.refl d c (safeShown c)).s (f := Reg.PWM_CH_STAT_SAFE c) v (by simp [safeShown]) (RF.fits_of rfl)
  exact drives.ite (fun _ => ((hsafe _).trans (Dev.safeHaltsCmu_drives _ c)).trans (Dev.safeHolds_drives _ c)) fun _ => hsafe _

/-! ## The decision on an arming request (R169) -/

/-- The fields that a refusal to arm writes. -/
def refuseShown (c : Nat) : List RF := [Reg.PWM_CH_CTL_ARM c, Reg.PWM_CH_STAT_ARM_REF c, Reg.PWM_CH_STAT_ARM_WHY c]

/-- The fields that the arming of a channel writes. -/
def armShown (c : Nat) : List RF := Reg.PWM_CH_CTL_ARM c :: Reg.PWM_LEG_STAT_ARMED c :: safeShown c

theorem Dev.armRefuse_drives (d : Dev) (c why : Nat) : d.drives (d.armRefuse c why) c (refuseShown c) :=
  ((((drives.refl d c _).s _ (by simp [refuseShown]) (RF.fits_of rfl)).s _ (by simp [refuseShown]) (RF.fits_of rfl)).s _
    (by simp [refuseShown]) (RF.fits_of rfl)).raise _ _

theorem Dev.armChannel_drives (d : Dev) {c : Nat} (hc : c < 6) : d.drives (d.armChannel c) c (armShown c) := by
  unfold Dev.armChannel
  refine drives.trans ?_ ((Dev.refreshSafe_drives _ c).mono fun f hf => List.mem_cons_of_mem _ (List.mem_cons_of_mem _ hf))
  refine (drives.each ?_ _ _ fun x m _ => (drives.refl x c _).updLeg hc m _).each _ _ fun x p _ => (drives.refl x c _).updPhase hc p _
  exact ((drives.refl d c _).s _ (by simp [armShown]) (RF.fits_of rfl)).s _ (by simp [armShown]) (RF.fits_of rfl)

/-- The fields that a channel's decision may write. -/
def decideShown (c : Nat) : List RF := refuseShown c ++ armShown c

theorem Dev.armDecide_drives (d : Dev) {c : Nat} (hc : c < 6) : d.drives (d.armDecide c) c (decideShown c) := by
  have hrefuse (w : Nat) : d.drives (d.armRefuse c w) c (decideShown c) := (d.armRefuse_drives c w).mono (List.subset_append_left _ _)
  unfold Dev.armDecide
  refine drives.ite (fun _ => drives.ite (fun _ => hrefuse 6) fun _ => ?_) fun _ => drives.refl d c _
  split
  · exact hrefuse 6
  · exact hrefuse _
  · exact (d.armChannel_drives hc).mono (List.subset_append_right _ _)

/-- Without a request nothing is decided. -/
theorem Dev.armDecide_off {d : Dev} {c : Nat} (h : d.on (Reg.PWM_CH_CTL_ARM c) = false) : d.armDecide c = d := by
  rw [Dev.armDecide, h, if_neg Bool.false_ne_true]

/-- A request that stands, with no trip since and no condition, arms the channel. -/
theorem Dev.armDecide_armed {d : Dev} {c : Nat} (h : d.on (Reg.PWM_CH_CTL_ARM c) = true) (htrip : (d.pch c).armTrip = false)
    (hwhy : d.armWhy c = none) : d.armDecide c = d.armChannel c := by
  rw [Dev.armDecide, h, if_pos rfl, htrip, if_neg Bool.false_ne_true, hwhy]

end Sys2Proof.Machine
end

section
/-! PROOFS. The channels of a group one after another: what the work of the others leaves (R71, R169). -/

namespace Sys2Proof.Machine

/-! ## Lists without repetition -/

/-- Updates for the elements of a list without repetition: the work for one of them begins after work for others and ends before work for
others. -/
theorem Dev.each_at {α : Type} {S : Dev → Dev → Prop} (hrefl : ∀ x, S x x) (htrans : ∀ {x y z}, S x y → S y z → S x z) {l : List α}
    (hl : l.Nodup) {c : α} (hc : c ∈ l) (f : Dev → α → Dev) (hf : ∀ x, ∀ a ∈ l, a ≠ c → S x (f x a)) (d : Dev) :
    ∃ x, S d x ∧ S (f x c) (d.each l f) := by
  obtain ⟨before, after, rfl⟩ := List.append_of_mem hc
  have hothers (m : List α) (hm : ∀ a ∈ m, a ∈ before ++ c :: after ∧ a ≠ c) : ∀ x, S x (m.foldl f x) := by
    induction m with
    | nil => exact hrefl
    | cons a m ih =>
      obtain ⟨ha, hm⟩ := List.forall_mem_cons.1 hm
      exact fun x => htrans (hf x a ha.1 ha.2) (ih hm _)
  obtain ⟨_, hafter, hapart⟩ := List.nodup_append.1 hl
  refine ⟨before.foldl f d, hothers before (fun a ha => ⟨List.mem_append_left _ ha, fun he => ?_⟩) d, ?_⟩
  · exact hapart a ha c List.mem_cons_self he
  · rw [Dev.each, List.foldl_append, List.foldl_cons]
    refine hothers after (fun a ha => ⟨List.mem_append_right _ (List.mem_cons_of_mem _ ha), fun he => ?_⟩) _
    exact (List.nodup_cons.1 hafter).1 (he ▸ ha)

/-- A relation that every update of a list keeps. -/
theorem Dev.each_mem {α : Type} {S : Dev → Dev → Prop} (hrefl : ∀ x, S x x) (htrans : ∀ {x y z}, S x y → S y z → S x z) (l : List α)
    (f : Dev → α → Dev) (hf : ∀ x, ∀ a ∈ l, S x (f x a)) (d : Dev) : S d (d.each l f) := by
  unfold Dev.each
  induction l generalizing d with
  | nil => exact hrefl d
  | cons a m ih => exact htrans (hf d a List.mem_cons_self) (ih (fun x b hb => hf x b (List.mem_cons_of_mem _ hb)) _)

/-! ## What belongs to a channel -/

/-- The registers of a channel's own block. -/
def ownKey (c k : Nat) : Prop := 0x30040000 + 0x1000 * c ≤ k ∧ k < 0x30041000 + 0x1000 * c

/-- The registers that the work of a channel may write. -/
def chKey (c k : Nat) : Prop :=
  ownKey c k ∨ k = Reg.DCL_CH_STAT c ∨ (k = Reg.CMU_STAT 0 ∨ k = Reg.CMU_STAT 1) ∨ k = Reg.ASSIST_CFG 0 ∨ k = Reg.ASSIST_CFG 1

/-- The registers that the work of no channel but `c` writes. -/
def leftTo (c k : Nat) : Prop := ∀ a < 6, a ≠ c → ¬ chKey a k

/-- A channel's own registers, and the trip and DC-link registers that bear on arming, are left to it. -/
theorem leftTo_own {c k : Nat} (hc : c < 6) (h : ownKey c k) : leftTo c k := by
  intro a ha hne
  unfold chKey
  unfold ownKey at h ⊢
  unfold Reg.DCL_CH_STAT Reg.CMU_STAT Reg.ASSIST_CFG
  omega

/-- From `d` to `t` other channels than `c` worked. -/
structure Dev.besides (c : Nat) (d t : Dev) : Prop where
  word : ∀ k, leftTo c k → t.word k = d.word k
  part : ∀ p, p ∉ chParts → p.same d t
  conds : t.pwm.conds = d.pwm.conds
  pch : t.pch c = d.pch c

namespace Dev.besides

variable {c : Nat} {d t u : Dev}

theorem refl (c : Nat) (d : Dev) : Dev.besides c d d := ⟨fun _ _ => rfl, fun p _ => p.same_refl d, rfl, rfl⟩

theorem trans (h : Dev.besides c d t) (g : Dev.besides c t u) : Dev.besides c d u :=
  ⟨fun k hk => (g.word k hk).trans (h.word k hk), fun p hp => Part.same_trans (h.part p hp) (g.part p hp), g.conds.trans h.conds,
    g.pch.trans h.pch⟩

theorem field (h : Dev.besides c d t) {f : RF} (hf : leftTo c f.key) : t.g f = d.g f := by
  rw [Dev.g, h.word _ hf]
  rfl

/-- The work of another channel. -/
theorem of_drives {a : Nat} {fs : List RF} (h : d.drives t a fs) (ha : a < 6) (hne : a ≠ c) (hfs : ∀ f ∈ fs, chKey a f.key) :
    Dev.besides c d t :=
  ⟨fun _ hk => Dev.word_of_keeps h.frame fun f hf he => hk a ha hne (he ▸ hfs f hf), h.frame.2, h.conds, h.others c fun he => hne he.symm⟩

end Dev.besides

/-! ## Arming (R169) looks at what is left to its channel -/

/-- The trip and DC-link registers that may bar a channel from arming. -/
def barKey (c k : Nat) : Prop :=
  k = Reg.TRP_STAT ∨ (∃ g < 8, k = Reg.TRP_GRP_LEGS_LO g ∨ k = Reg.TRP_GRP_LEGS_HI g) ∨ (∃ m < 4, k = Reg.DL_CFG m ∨ k = Reg.DL_STAT m) ∨
    k = Reg.DCL_CH_CFG c ∨ k = Reg.DCL_CH_SREF c ∨ k = Reg.DCL_CH_STAT c

theorem leftTo_bar {c k : Nat} (hc : c < 6) (h : barKey c k) : leftTo c k := by
  intro a ha hne
  unfold chKey ownKey
  unfold barKey at h
  simp only [Reg.TRP_STAT, Reg.TRP_GRP_LEGS_LO, Reg.TRP_GRP_LEGS_HI, Reg.DL_CFG, Reg.DL_STAT, Reg.DCL_CH_CFG, Reg.DCL_CH_SREF,
    Reg.DCL_CH_STAT, Reg.CMU_STAT, Reg.ASSIST_CFG] at h ⊢
  rcases h with h | ⟨g, hg, h⟩ | ⟨m, hm, h⟩ | h <;> omega

theorem ownKey_not_bar {c k : Nat} (hc : c < 6) (h : ownKey c k) : ¬ barKey c k := by
  unfold barKey
  unfold ownKey at h
  simp only [Reg.TRP_STAT, Reg.TRP_GRP_LEGS_LO, Reg.TRP_GRP_LEGS_HI, Reg.DL_CFG, Reg.DL_STAT, Reg.DCL_CH_CFG, Reg.DCL_CH_SREF,
    Reg.DCL_CH_STAT]
  rintro (h' | ⟨g, hg, h'⟩ | ⟨m, hm, h'⟩ | h') <;> omega

theorem any_congr_mem {α : Type} {l : List α} {p q : α → Bool} (h : ∀ a ∈ l, p a = q a) : l.any p = l.any q := by
  induction l with
  | nil => rfl
  | cons a m ih =>
    obtain ⟨ha, hm⟩ := List.forall_mem_cons.1 h
    rw [List.any_cons, List.any_cons, ha, ih hm]

section
variable {d t : Dev} {c : Nat} (hw : ∀ k, barKey c k → t.word k = d.word k)
include hw

theorem Dev.g_bar {f : RF} (hf : barKey c f.key) : t.g f = d.g f := by
  rw [Dev.g, hw _ hf]
  rfl

theorem Dev.grpLegs_bar {g : Nat} (hg : g < 8) : t.grpLegs g = d.grpLegs g := by
  unfold Dev.grpLegs
  rw [Dev.g_bar hw (f := Reg.TRP_GRP_LEGS_LO_LEGS g) (.inr (.inl ⟨g, hg, .inl rfl⟩)),
    Dev.g_bar hw (f := Reg.TRP_GRP_LEGS_HI_LEGS g) (.inr (.inl ⟨g, hg, .inr rfl⟩))]

/-- The chopper legs are the legs of TG7. -/
theorem Dev.isChop_bar (n m : Nat) : t.isChop n m = d.isChop n m := congrArg (·.testBit (6 * n + m)) (Dev.grpLegs_bar hw (g := 7) (by decide))

theorem Dev.ownLegs_bar (n : Nat) : t.ownLegs n = d.ownLegs n := by
  unfold Dev.ownLegs
  simp only [Dev.isChop_bar hw]

theorem Dev.on_bar (f : RF) (hf : barKey c f.key) : t.on f = d.on f := congrArg (· != 0) (Dev.g_bar hw hf)

theorem Dev.dclBars_bar : t.dclBars c = d.dclBars c := by
  have hlink {m : Nat} (hm : m ∈ List.range 4) {k : Nat} (hk : k = Reg.DL_CFG m ∨ k = Reg.DL_STAT m) : barKey c k :=
    .inr (.inr (.inl ⟨m, List.mem_range.1 hm, hk⟩))
  have hlinks : (List.range 4).filter (fun m => (t.g (Reg.DL_CFG_MEMBERS m)).testBit c) =
      (List.range 4).filter (fun m => (d.g (Reg.DL_CFG_MEMBERS m)).testBit c) :=
    List.filter_congr fun m hm => by rw [Dev.g_bar hw (f := Reg.DL_CFG_MEMBERS m) (hlink hm (.inl rfl))]
  unfold Dev.dclBars
  dsimp only
  rw [hlinks,
    any_congr_mem fun m hm => Dev.on_bar hw (Reg.DL_STAT_TRIP m) (hlink (List.mem_of_mem_filter hm) (.inr rfl)),
    any_congr_mem fun m hm => Dev.on_bar hw (Reg.DL_CFG_EN m) (hlink (List.mem_of_mem_filter hm) (.inl rfl)),
    Dev.on_bar hw (Reg.DCL_CH_CFG_SL c) (.inr (.inr (.inr (.inl rfl)))), Dev.on_bar hw (Reg.DCL_CH_CFG_BRK_EN c) (.inr (.inr (.inr (.inl rfl)))),
    Dev.on_bar hw (Reg.DCL_CH_SREF_EN c) (.inr (.inr (.inr (.inr (.inl rfl))))),
    Dev.g_bar hw (f := Reg.DCL_CH_STAT_SLSTATE c) (.inr (.inr (.inr (.inr (.inr rfl)))))]

/-- What leaves the barring registers and the forcing conditions leaves the answer to a request. -/
theorem Dev.armWhy_bar (hconds : t.pwm.conds = d.pwm.conds) : t.armWhy c = d.armWhy c := by
  have hlatched : ∀ g ∈ maskBits 8 (d.g Reg.TRP_STAT_LATCH), ((t.grpLegs g &&& d.ownLegs c) != 0) = ((d.grpLegs g &&& d.ownLegs c) != 0) :=
    fun g hg => by rw [Dev.grpLegs_bar hw (List.mem_range.1 (List.mem_of_mem_filter hg))]
  unfold Dev.armWhy
  dsimp only
  rw [Dev.ownLegs_bar hw, Dev.g_bar hw (f := Reg.TRP_STAT_LATCH) (.inl rfl), hconds, Dev.dclBars_bar hw, any_congr_mem hlatched]

end

end Sys2Proof.Machine
end

section
/-! PROOFS. Commits, arming requests and the work of a period boundary (R71, R149, R158 to R160, R169). -/

namespace Sys2Proof.Machine

/-! ## The members of a group -/

theorem Dev.lgMembers_lt {d : Dev} {n c : Nat} (hn : n < 6) (h : c ∈ d.lgMembers n) : c < 6 := by
  unfold Dev.lgMembers at h
  dsimp only at h
  split at h
  · exact List.mem_singleton.1 h ▸ hn
  · exact List.mem_range.1 (List.mem_of_mem_filter h)

theorem Dev.lgMembers_nodup (d : Dev) (n : Nat) : (d.lgMembers n).Nodup := by
  unfold Dev.lgMembers
  dsimp only
  split
  · exact List.nodup_singleton n
  · exact List.nodup_range.filter _

theorem Dev.lgMembers_self {d : Dev} {n : Nat} (hn : n < 6) : n ∈ d.lgMembers n := by
  unfold Dev.lgMembers
  dsimp only
  split
  · exact List.mem_singleton_self n
  · exact List.mem_filter.2 ⟨List.mem_range.2 hn, beq_self_eq_true _⟩

/-- Every member is in the channel's group. -/
theorem Dev.lgMembers_group {d : Dev} {n c : Nat} (h : c ∈ d.lgMembers n) : d.g (Reg.LG_MAP_GRP c) = d.g (Reg.LG_MAP_GRP n) := by
  unfold Dev.lgMembers at h
  dsimp only at h
  split at h
  · rw [List.mem_singleton.1 h]
  · exact eq_of_beq (List.mem_filter.1 h).2

/-- The master is a member. -/
theorem headD_mem {l : List Nat} {n : Nat} (h : n ∈ l) (x : Nat) : l.headD x ∈ l := by
  cases l with
  | nil => exact absurd h List.not_mem_nil
  | cons a m => exact List.mem_cons_self

/-! ## COMMIT and ARM (R71, R158, R169) -/

/-- The commits of a group's members. -/
def commits (ms : List Nat) : List (RF × Nat) := ms.map fun c => (Reg.PWM_CH_CTL_COMMIT c, 1)

theorem commits_fits (ms : List Nat) : ∀ w ∈ commits ms, w.1.fits := by
  intro w hw
  obtain ⟨c, _, rfl⟩ := List.mem_map.1 hw
  exact RF.fits_of rfl

theorem commits_apart {ms : List Nat} (h : ms.Nodup) : apartInOrder (commits ms) :=
  List.pairwise_map.2 (h.imp fun {a b} hne => .inl (by
    show Reg.PWM_CH_CTL a ≠ Reg.PWM_CH_CTL b
    unfold Reg.PWM_CH_CTL
    omega))

theorem exec_chCommit (n : Nat) (s : State) : exec (.chCommit n) s = s.run fun d =>
    if n < 6 then d.each (d.lgMembers n) (fun d c => d.s (Reg.PWM_CH_CTL_COMMIT c) 1) else d := rfl

theorem groupCommits {s : State} (hl : s.dev.live = true) {n : Nat} (hn : n < 6) : Does s (.chCommit n) (fun t =>
    (∀ c ∈ s.dev.lgMembers n, t.on (Reg.PWM_CH_CTL_COMMIT c) = true) ∧
      s.dev.keeps t ((s.dev.lgMembers n).map Reg.PWM_CH_CTL_COMMIT) []) := by
  refine State.does_run (exec_chCommit n s) hl ?_
  have hwrites : (s.dev.each (s.dev.lgMembers n) fun d c => d.s (Reg.PWM_CH_CTL_COMMIT c) 1) = s.dev.writes (commits (s.dev.lgMembers n)) := by
    rw [Dev.each, Dev.writes, commits, List.foldl_map]
  have hkeeps := Dev.writes_keeps (d := s.dev) (commits_fits (s.dev.lgMembers n)) []
  rw [if_pos hn, hwrites]
  refine ⟨fun c hc => ?_, ?_⟩
  · rw [Dev.on, Dev.g_writes (commits_fits _) (commits_apart (s.dev.lgMembers_nodup n)) _ (Reg.PWM_CH_CTL_COMMIT c, 1) (List.mem_map_of_mem hc)]
    rfl
  · rwa [commits, List.map_map] at hkeeps

/-- The codes of ARM_WHY fit its field. -/
theorem Dev.armWhy_lt {d : Dev} {n w : Nat} (h : d.armWhy n = some w) : w < 8 := by
  unfold Dev.armWhy at h
  dsimp only at h
  split at h
  · injection h with h
    omega
  · have hw := List.mem_of_find?_eq_some h
    simp at hw
    omega

theorem exec_chArm (n : Nat) (s : State) : exec (.chArm n) s = s.run fun d =>
    if n < 6 then
      match d.armWhy n with
      | some w => d.armRefuse n w
      | none => (d.s (Reg.PWM_CH_CTL_ARM n) 1).updPch n (fun c => { c with armTrip := false })
    else d := rfl

theorem armStands {s : State} (hl : s.dev.live = true) {n : Nat} (hn : n < 6) (hwhy : s.dev.armWhy n = none) : Does s (.chArm n) (fun t =>
    t.on (Reg.PWM_CH_CTL_ARM n) = true ∧ (t.pch n).armTrip = false ∧
      (∀ k, k ≠ n → t.pch k = s.dev.pch k) ∧ t.pwm.conds = s.dev.pwm.conds ∧ s.dev.keeps t [Reg.PWM_CH_CTL_ARM n] [.pwm]) := by
  refine State.does_run (exec_chArm n s) hl ?_
  rw [if_pos hn, hwhy]
  refine ⟨?_, ?_, fun k hk => Dev.pch_updPch_other _ _ hk, rfl, ?_⟩
  · exact congrArg (· != 0) (s.dev.g_s_same (Reg.PWM_CH_CTL_ARM n) 1 (Nat.le_refl 0) (Nat.zero_le 31))
  · rw [Dev.pch_updPch_same _ n _ hn]
  · exact Dev.keeps_withPwm (by simp) (Dev.keeps_s (by simp) (Nat.le_refl 0) (Nat.zero_le 31) (s.dev.keeps_refl _ _))

/-- What a refusal writes. -/
def refuseSets (n w : Nat) : List (RF × Nat) :=
  [(Reg.PWM_CH_CTL_ARM n, 0), (Reg.PWM_CH_STAT_ARM_REF n, 1), (Reg.PWM_CH_STAT_ARM_WHY n, w)]

theorem Dev.armRefuse_eq (d : Dev) (n w : Nat) : d.armRefuse n w = (d.writes (refuseSets n w)).raise Err.PWM_ARM_REFUSED [n, w] := by
  unfold Dev.armRefuse Dev.writes refuseSets
  dsimp only [List.foldl_cons, List.foldl_nil]

theorem refuseSets_fits (n w : Nat) : ∀ x ∈ refuseSets n w, x.1.fits := by
  simp [refuseSets, RF.fits, Reg.PWM_CH_CTL_ARM, Reg.PWM_CH_STAT_ARM_REF, Reg.PWM_CH_STAT_ARM_WHY]

theorem refuseSets_apart (n w : Nat) : apartInOrder (refuseSets n w) := by
  simp [refuseSets, apartInOrder, RF.apart, Reg.PWM_CH_CTL_ARM, Reg.PWM_CH_STAT_ARM_REF, Reg.PWM_CH_STAT_ARM_WHY, Reg.PWM_CH_CTL,
    Reg.PWM_CH_STAT]

theorem Dev.armRefuse_spec (d : Dev) (n w : Nat) (hw : w < 8) : (d.armRefuse n w).on (Reg.PWM_CH_CTL_ARM n) = false ∧
    (d.armRefuse n w).on (Reg.PWM_CH_STAT_ARM_REF n) = true ∧ (d.armRefuse n w).g (Reg.PWM_CH_STAT_ARM_WHY n) = w ∧
    (d.armRefuse n w).raised = d.plusRecord Err.PWM_ARM_REFUSED [n, w] ∧ d.keeps (d.armRefuse n w) (refuseShown n) [.raised] := by
  have hset (f : RF) (v : Nat) (h : (f, v) ∈ refuseSets n w) : (d.armRefuse n w).g f = f.cut v := by
    rw [Dev.armRefuse_eq, Dev.raise_g]
    exact Dev.g_writes (refuseSets_fits n w) (refuseSets_apart n w) d (f, v) h
  refine ⟨?_, ?_, ?_, ?_, ?_⟩
  · rw [Dev.on, hset (Reg.PWM_CH_CTL_ARM n) 0 (by simp [refuseSets]), RF.cut, Nat.zero_mod]
    rfl
  · rw [Dev.on, hset (Reg.PWM_CH_STAT_ARM_REF n) 1 (by simp [refuseSets])]
    rfl
  · rw [hset (Reg.PWM_CH_STAT_ARM_WHY n) w (by simp [refuseSets])]
    exact Nat.mod_eq_of_lt hw
  · unfold Dev.armRefuse
    exact (Dev.raise_spec _ _ _).1
  · rw [Dev.armRefuse_eq]
    exact Dev.keeps_raise (by simp) (Dev.writes_keeps (refuseSets_fits n w) [.raised])

theorem armRefused {s : State} (hl : s.dev.live = true) {n w : Nat} (hn : n < 6) (hwhy : s.dev.armWhy n = some w) : Does s (.chArm n) (fun t =>
    t.on (Reg.PWM_CH_CTL_ARM n) = false ∧ t.on (Reg.PWM_CH_STAT_ARM_REF n) = true ∧
      t.g (Reg.PWM_CH_STAT_ARM_WHY n) = w ∧ t.raised = s.dev.plusRecord Err.PWM_ARM_REFUSED [n, w] ∧
      s.dev.keeps t [Reg.PWM_CH_CTL_ARM n, Reg.PWM_CH_STAT_ARM_REF n, Reg.PWM_CH_STAT_ARM_WHY n] [.raised]) := by
  refine State.does_run (exec_chArm n s) hl ?_
  rw [if_pos hn, hwhy]
  exact s.dev.armRefuse_spec n w (Dev.armWhy_lt hwhy)

end Sys2Proof.Machine
end

section
/-! PROOFS. The transfer of a channel's shadows (R158, R159). -/

namespace Sys2Proof.Machine

/-! ## The steps of a transfer -/

/-- The compare shadows of a leg move. -/
def Dev.cmpsMove (d : Dev) (c per m : Nat) : Dev :=
  (d.s (Reg.PWM_CMP_ACT_CMP c m) (d.shadowTicks (Reg.PWM_CMP_SH_FMT c m) (Reg.PWM_CMP_SH_CMP c m) per)).s (Reg.PWM_CMPL_ACT_CMP c m)
    (d.shadowTicks (Reg.PWM_CMPL_SH_FMT c m) (Reg.PWM_CMPL_SH_CMP c m) per)

/-- A trigger compare's shadow moves. -/
def Dev.trigMove (d : Dev) (c k : Nat) : Dev := d.setWord (Reg.PWM_TRIG_ACT c k) (d.word (Reg.PWM_TRIG_SH c k))

/-- The mask's shadow moves, where the mask is the channel's own. -/
def Dev.maskMove (d : Dev) (c : Nat) : Dev :=
  d.when (d.g (Reg.PWM_CH_CFG_MASK_SRC c) == 0) fun d => d.setWord (Reg.PWM_MASK_ACT c) (d.word (Reg.PWM_MASK_SH c))

/-- A commit is done. -/
def Dev.commitDone (d : Dev) (c : Nat) : Dev :=
  (((d.s (Reg.PWM_CH_CTL_COMMIT c) 0).s (Reg.PWM_CH_STAT_PAIR_HOLD c) 0).s (Reg.PWM_CH_STAT_HOLD_CNT c) 0).updPch c
    fun p => { p with cmpWr := false }

/-- What does not fit the new period is shown. -/
def Dev.rangesShow (d : Dev) (c per : Nat) : Dev :=
  (d.each (List.range 4) fun d k =>
    if per ≤ d.g (Reg.PWM_TRIG_ACT_VAL c k) then (d.s (Reg.PWM_CH_STAT_TRIG_RANGE c) 1).raise Err.PWM_TRIG_RANGE [c, k] else d).each
    (List.range 6) fun d m => if d.dtOver c m per then (d.s (Reg.PWM_CH_STAT_DT_RANGE c) 1).raise Err.PWM_DT_RANGE [c, m] else d

/-- A transfer that is not forced. -/
theorem Dev.transfer_none (d : Dev) (c per : Nat) : d.transfer c per none =
    (((((d.each (List.range 6) fun d m => d.cmpsMove c per m).s (Reg.PWM_PER_ACT_PER c) per).each (List.range 4)
      fun d k => d.trigMove c k).maskMove c).commitDone c).rangesShow c per := rfl

/-! ## What each step writes -/

/-- The compares of a channel. -/
def cmpsShown (c : Nat) : List RF :=
  (List.range 6).map (fun m => RF.whole (Reg.PWM_CMP_ACT c m)) ++ (List.range 6).map fun m => RF.whole (Reg.PWM_CMPL_ACT c m)

/-- The fields that show what does not fit. -/
def rangesShown (c : Nat) : List RF := [Reg.PWM_CH_STAT_TRIG_RANGE c, Reg.PWM_CH_STAT_DT_RANGE c]

/-- The fields from the end of a commit on. -/
def doneShown (c : Nat) : List RF := [Reg.PWM_CH_CTL_COMMIT c, Reg.PWM_CH_STAT_PAIR_HOLD c, Reg.PWM_CH_STAT_HOLD_CNT c] ++ rangesShown c

/-- The fields from the mask on. -/
def maskShown (c : Nat) : List RF := RF.whole (Reg.PWM_MASK_ACT c) :: doneShown c

/-- The fields from the trigger compares on. -/
def trigsShown (c : Nat) : List RF := (List.range 4).map (fun k => RF.whole (Reg.PWM_TRIG_ACT c k)) ++ maskShown c

/-- The fields from the period on. -/
def perShown (c : Nat) : List RF := Reg.PWM_PER_ACT_PER c :: trigsShown c

/-- The fields of a transfer. -/
def transferShown (c : Nat) : List RF := cmpsShown c ++ perShown c

section
variable (d : Dev) {c : Nat}

theorem Dev.cmpsMove_drives (per : Nat) {m : Nat} (hm : m ∈ List.range 6) : d.drives (d.cmpsMove c per m) c (cmpsShown c) :=
  ((drives.refl d c _).sIn (Reg.PWM_CMP_ACT_CMP c m) _
    (List.mem_append_left _ (List.mem_map_of_mem (f := fun m => RF.whole (Reg.PWM_CMP_ACT c m)) hm))).sIn (Reg.PWM_CMPL_ACT_CMP c m) _
    (List.mem_append_right _ (List.mem_map_of_mem (f := fun m => RF.whole (Reg.PWM_CMPL_ACT c m)) hm))

theorem Dev.trigMove_drives {k : Nat} (hk : k ∈ List.range 4) : d.drives (d.trigMove c k) c (trigsShown c) :=
  (drives.refl d c _).setWord _ (List.mem_append_left _ (List.mem_map_of_mem (f := fun k => RF.whole (Reg.PWM_TRIG_ACT c k)) hk))

theorem Dev.maskMove_drives : d.drives (d.maskMove c) c (maskShown c) :=
  (drives.refl d c _).when _ _ ((drives.refl d c _).setWord _ List.mem_cons_self)

theorem Dev.commitDone_drives (hc : c < 6) : d.drives (d.commitDone c) c (doneShown c) :=
  ((((drives.refl d c _).s _ (by simp [doneShown]) (RF.fits_of rfl)).s _ (by simp [doneShown]) (RF.fits_of rfl)).s _ (by simp [doneShown])
    (RF.fits_of rfl)).updPch hc _ fun _ => ⟨rfl, rfl⟩

theorem Dev.rangesShow_drives (per : Nat) : d.drives (d.rangesShow c per) c (rangesShown c) := by
  refine drives.each ?_ _ _ fun x m _ => drives.ite (fun _ => ?_) fun _ => drives.refl x c _
  · refine (drives.refl d c _).each _ _ fun x k _ => drives.ite (fun _ => ?_) fun _ => drives.refl x c _
    exact ((drives.refl x c _).s _ (by simp [rangesShown]) (RF.fits_of rfl)).raise _ _
  · exact ((drives.refl x c _).s _ (by simp [rangesShown]) (RF.fits_of rfl)).raise _ _

/-! ## What each step moves -/

/-- A word that no changed field belongs to. -/
theorem Dev.drives.word {d t : Dev} {c : Nat} {fs : List RF} (h : d.drives t c fs) {k : Nat} (hk : ∀ f ∈ fs, k ≠ f.key) : t.word k = d.word k :=
  Dev.word_of_keeps h.frame hk

theorem toInt_lt (n : Nat) : toInt 24 n < 2 ^ 23 := by
  unfold toInt
  dsimp only
  split <;> omega

/-- A duty is at most the whole period. -/
theorem dutyTicks_le (duty per : Nat) : dutyTicks duty per ≤ 32 * per := by
  unfold dutyTicks
  dsimp only
  split
  · exact Nat.zero_le _
  · split
    · exact Nat.le_refl _
    · have hmul : toInt 24 duty * 32 * per ≤ 2 ^ 23 * (32 * per) := by
        rw [mul_assoc]
        exact Int.mul_le_mul_of_nonneg_right (Int.le_of_lt (toInt_lt duty)) (by omega)
      generalize toInt 24 duty * 32 * (per : Int) = x at hmul ⊢
      omega

theorem Dev.shadowTicks_lt (fmt cmp : RF) {per : Nat} (hcmp : d.g cmp < 2 ^ 30) (hper : per < 2 ^ 25) : d.shadowTicks fmt cmp per < 2 ^ 30 := by
  unfold Dev.shadowTicks
  split
  · have := dutyTicks_le (d.g cmp % 2 ^ 24) per
    omega
  · exact hcmp

end

/-- Words at the keys given stay. -/
def Dev.wordsStay (P : Nat → Prop) (d t : Dev) : Prop := ∀ k, P k → t.word k = d.word k

theorem Dev.wordsStay_trans {P : Nat → Prop} {d t u : Dev} (h : Dev.wordsStay P d t) (g : Dev.wordsStay P t u) : Dev.wordsStay P d u :=
  fun k hk => (g k hk).trans (h k hk)

theorem Dev.wordsStay.field {P : Nat → Prop} {d t : Dev} (h : Dev.wordsStay P d t) {f : RF} (hf : P f.key) : t.g f = d.g f := by
  rw [Dev.g, h _ hf]
  rfl

/-- The compare of a leg and its shadow. -/
def cmpKey (c m k : Nat) : Prop := k = Reg.PWM_CMP_ACT c m ∨ k = Reg.PWM_CMP_SH c m

theorem Dev.cmpsMove_stay (d : Dev) (c per : Nat) {a m : Nat} (ha : a < 6) (hm : m < 6) (hne : a ≠ m) :
    Dev.wordsStay (cmpKey c m) d (d.cmpsMove c per a) := by
  intro k hk
  have hkeys : k ≠ Reg.PWM_CMP_ACT c a ∧ k ≠ Reg.PWM_CMPL_ACT c a := by
    unfold cmpKey Reg.PWM_CMP_ACT Reg.PWM_CMP_SH at hk
    unfold Reg.PWM_CMP_ACT Reg.PWM_CMPL_ACT
    omega
  exact (Dev.word_s_other _ (f := Reg.PWM_CMPL_ACT_CMP c a) _ hkeys.2).trans (d.word_s_other (f := Reg.PWM_CMP_ACT_CMP c a) _ hkeys.1)

theorem Dev.cmpsMove_same (d : Dev) {c per m : Nat} (hper : per < 2 ^ 25) :
    (d.cmpsMove c per m).g (Reg.PWM_CMP_ACT_CMP c m) = d.shadowTicks (Reg.PWM_CMP_SH_FMT c m) (Reg.PWM_CMP_SH_CMP c m) per := by
  have hother : (Reg.PWM_CMP_ACT_CMP c m).key ≠ (Reg.PWM_CMPL_ACT_CMP c m).key := by
    show Reg.PWM_CMP_ACT c m ≠ Reg.PWM_CMPL_ACT c m
    unfold Reg.PWM_CMP_ACT Reg.PWM_CMPL_ACT
    omega
  have hlt : d.shadowTicks (Reg.PWM_CMP_SH_FMT c m) (Reg.PWM_CMP_SH_CMP c m) per < 2 ^ 30 :=
    d.shadowTicks_lt _ _ (Nat.mod_lt _ (Nat.two_pow_pos _)) hper
  rw [Dev.cmpsMove, Dev.g_s_other _ _ _ _ hother, Dev.g_s_same _ _ _ (Nat.zero_le _) (Nat.le_of_ble_eq_true rfl)]
  exact Nat.mod_eq_of_lt hlt

/-- A shadow is read from its own register. -/
theorem Dev.shadowTicks_stay {d t : Dev} {c m per : Nat} (h : Dev.wordsStay (cmpKey c m) d t) :
    t.shadowTicks (Reg.PWM_CMP_SH_FMT c m) (Reg.PWM_CMP_SH_CMP c m) per = d.shadowTicks (Reg.PWM_CMP_SH_FMT c m) (Reg.PWM_CMP_SH_CMP c m) per := by
  rw [Dev.shadowTicks, Dev.on, h.field (f := Reg.PWM_CMP_SH_FMT c m) (.inr rfl), h.field (f := Reg.PWM_CMP_SH_CMP c m) (.inr rfl)]
  rfl

/-- Each leg's compare becomes what its shadow says. -/
theorem Dev.cmpsMove_all (d : Dev) {c per m : Nat} (hm : m < 6) (hper : per < 2 ^ 25) :
    (d.each (List.range 6) fun d m => d.cmpsMove c per m).g (Reg.PWM_CMP_ACT_CMP c m) =
      d.shadowTicks (Reg.PWM_CMP_SH_FMT c m) (Reg.PWM_CMP_SH_CMP c m) per := by
  obtain ⟨x, hbefore, hafter⟩ := Dev.each_at (S := Dev.wordsStay (cmpKey c m)) (fun _ _ _ => rfl) Dev.wordsStay_trans List.nodup_range
    (List.mem_range.2 hm) (fun d m => d.cmpsMove c per m) (fun x a ha hne => x.cmpsMove_stay c per (List.mem_range.1 ha) hm hne) d
  rw [hafter.field (f := Reg.PWM_CMP_ACT_CMP c m) (.inl rfl), ← Dev.shadowTicks_stay hbefore, ← x.cmpsMove_same hper]

/-- A trigger compare and its shadow. -/
def trigKey (c k j : Nat) : Prop := j = Reg.PWM_TRIG_ACT c k ∨ j = Reg.PWM_TRIG_SH c k

theorem Dev.trigMove_all (d : Dev) {c k : Nat} (hk : k < 4) :
    (d.each (List.range 4) fun d k => d.trigMove c k).word (Reg.PWM_TRIG_ACT c k) = d.word (Reg.PWM_TRIG_SH c k) := by
  have hstay (x : Dev) (a : Nat) (ha : a ∈ List.range 4) (hne : a ≠ k) : Dev.wordsStay (trigKey c k) x (x.trigMove c a) := by
    intro j hj
    have ha := List.mem_range.1 ha
    refine x.word_setWord_other _ ?_
    unfold trigKey Reg.PWM_TRIG_ACT Reg.PWM_TRIG_SH at hj
    unfold Reg.PWM_TRIG_ACT
    omega
  obtain ⟨x, hbefore, hafter⟩ := Dev.each_at (S := Dev.wordsStay (trigKey c k)) (fun _ _ _ => rfl) Dev.wordsStay_trans List.nodup_range
    (List.mem_range.2 hk) (fun d k => d.trigMove c k) hstay d
  rw [hafter _ (.inl rfl), ← hbefore _ (.inr rfl)]
  exact (x.word_setWord_same _ _).trans (Nat.mod_eq_of_lt (x.word_lt _))

end Sys2Proof.Machine
end

section
/-! PROOFS. A transfer as a whole, and the start of a channel's period (R149, R158, R160, R169). -/

namespace Sys2Proof.Machine

/-! ## A transfer as a whole -/

/-- The first register of a channel. -/
def chBase (c : Nat) : Nat := 0x30040000 + 0x1000 * c

theorem doneShown_key {c : Nat} {f : RF} (h : f ∈ doneShown c) : f.key = chBase c ∨ f.key = chBase c + 4 := by
  have hreg : f.key = Reg.PWM_CH_CTL c ∨ f.key = Reg.PWM_CH_STAT c := by
    simp only [doneShown, rangesShown, List.mem_append, List.mem_cons, List.not_mem_nil, or_false] at h
    rcases h with (rfl | rfl | rfl) | rfl | rfl
    · exact .inl rfl
    all_goals exact .inr rfl
  unfold Reg.PWM_CH_CTL Reg.PWM_CH_STAT at hreg
  unfold chBase
  omega

theorem maskShown_key {c : Nat} {f : RF} (h : f ∈ maskShown c) : f.key = chBase c ∨ f.key = chBase c + 4 ∨ f.key = chBase c + 0x104 := by
  rcases List.mem_cons.1 h with rfl | h
  · simp only [RF.whole, Reg.PWM_MASK_ACT, chBase]
    omega
  · have := doneShown_key h
    omega

theorem trigsShown_key {c : Nat} {f : RF} (h : f ∈ trigsShown c) : f.key = chBase c ∨ f.key = chBase c + 4 ∨ f.key = chBase c + 0x104 ∨
    (chBase c + 0xf0 ≤ f.key ∧ f.key < chBase c + 0x100) := by
  rcases List.mem_append.1 h with h | h
  · obtain ⟨k, hk, rfl⟩ := List.mem_map.1 h
    have := List.mem_range.1 hk
    simp only [RF.whole, Reg.PWM_TRIG_ACT, chBase]
    omega
  · have := maskShown_key h
    omega

theorem perShown_key {c : Nat} {f : RF} (h : f ∈ perShown c) : f.key = chBase c ∨ f.key = chBase c + 4 ∨ f.key = chBase c + 0x10 ∨
    f.key = chBase c + 0x104 ∨ (chBase c + 0xf0 ≤ f.key ∧ f.key < chBase c + 0x100) := by
  rcases List.mem_cons.1 h with rfl | h
  · simp only [Reg.PWM_PER_ACT_PER, Reg.PWM_PER_ACT, chBase]
    omega
  · have := trigsShown_key h
    omega

theorem transferShown_key {c : Nat} {f : RF} (h : f ∈ transferShown c) : f.key = chBase c ∨ f.key = chBase c + 4 ∨
    f.key = chBase c + 0x10 ∨ f.key = chBase c + 0x104 ∨ (chBase c + 0x60 ≤ f.key ∧ f.key < chBase c + 0xa0) ∨
    (chBase c + 0xf0 ≤ f.key ∧ f.key < chBase c + 0x100) := by
  rcases List.mem_append.1 h with h | h
  · rcases List.mem_append.1 h with h | h
    all_goals
      obtain ⟨m, hm, rfl⟩ := List.mem_map.1 h
      have := List.mem_range.1 hm
      simp only [RF.whole, Reg.PWM_CMP_ACT, Reg.PWM_CMPL_ACT, chBase]
      omega
  · have := perShown_key h
    omega

/-- What a transfer that is not forced leaves of a channel (R158, R159). -/
structure Dev.transfers (d t : Dev) (c p : Nat) : Prop where
  drives : d.drives t c (transferShown c)
  per : t.g (Reg.PWM_PER_ACT_PER c) = p
  commit : t.on (Reg.PWM_CH_CTL_COMMIT c) = false
  hold : t.g (Reg.PWM_CH_STAT_HOLD_CNT c) = 0
  trig : ∀ k < 4, t.word (Reg.PWM_TRIG_ACT c k) = d.word (Reg.PWM_TRIG_SH c k)
  cmp : ∀ m < 6, t.g (Reg.PWM_CMP_ACT_CMP c m) = d.shadowTicks (Reg.PWM_CMP_SH_FMT c m) (Reg.PWM_CMP_SH_CMP c m) p
  mask : d.g (Reg.PWM_CH_CFG_MASK_SRC c) = 0 → t.word (Reg.PWM_MASK_ACT c) = d.word (Reg.PWM_MASK_SH c)

theorem Dev.maskMove_word (d : Dev) {c : Nat} (h : d.g (Reg.PWM_CH_CFG_MASK_SRC c) = 0) :
    (d.maskMove c).word (Reg.PWM_MASK_ACT c) = d.word (Reg.PWM_MASK_SH c) := by
  rw [Dev.maskMove, Dev.when, h, if_pos (by rfl), Dev.word_setWord_same, Nat.mod_eq_of_lt (d.word_lt _)]

theorem Dev.commitDone_spec (d : Dev) (c : Nat) :
    (d.commitDone c).on (Reg.PWM_CH_CTL_COMMIT c) = false ∧ (d.commitDone c).g (Reg.PWM_CH_STAT_HOLD_CNT c) = 0 := by
  have hother : (Reg.PWM_CH_CTL_COMMIT c).key ≠ Reg.PWM_CH_STAT c := by
    show Reg.PWM_CH_CTL c ≠ Reg.PWM_CH_STAT c
    unfold Reg.PWM_CH_CTL Reg.PWM_CH_STAT
    omega
  unfold Dev.commitDone
  rw [Dev.on, Dev.updPch_g, Dev.updPch_g, Dev.g_s_other _ (Reg.PWM_CH_STAT_HOLD_CNT c) _ _ hother,
    Dev.g_s_other _ (Reg.PWM_CH_STAT_PAIR_HOLD c) _ _ hother, Dev.g_s_same _ _ _ (Nat.le_refl 4) (Nat.le_of_ble_eq_true rfl),
    Dev.g_s_same _ _ _ (Nat.le_of_ble_eq_true rfl) (Nat.le_of_ble_eq_true rfl), Nat.zero_mod, Nat.zero_mod]
  exact ⟨rfl, rfl⟩

theorem Dev.transfer_transfers (d : Dev) {c per : Nat} (hc : c < 6) (hper : per < 2 ^ 25) : d.transfers (d.transfer c per none) c per := by
  rw [d.transfer_none]
  have hcmp := fun m (hm : m < 6) => d.cmpsMove_all (c := c) hm hper
  have h1 : d.drives (d.each (List.range 6) fun d m => d.cmpsMove c per m) c (cmpsShown c) :=
    (drives.refl d c _).each _ _ fun x m hm => x.cmpsMove_drives per hm
  generalize (d.each (List.range 6) fun d m => d.cmpsMove c per m) = x1 at hcmp h1 ⊢
  have hperSet := x1.g_s_same (Reg.PWM_PER_ACT_PER c) per (Nat.zero_le _) (Nat.le_of_ble_eq_true rfl)
  have h2 : x1.drives (x1.s (Reg.PWM_PER_ACT_PER c) per) c (perShown c) := (drives.refl x1 c _).s _ List.mem_cons_self (RF.fits_of rfl)
  generalize x1.s (Reg.PWM_PER_ACT_PER c) per = x2 at hperSet h2 ⊢
  have htrig := fun k (hk : k < 4) => x2.trigMove_all (c := c) hk
  have h3 : x2.drives (x2.each (List.range 4) fun d k => d.trigMove c k) c (trigsShown c) :=
    (drives.refl x2 c _).each _ _ fun x k hk => x.trigMove_drives hk
  generalize (x2.each (List.range 4) fun d k => d.trigMove c k) = x3 at htrig h3 ⊢
  have hmask := x3.maskMove_word (c := c)
  have h4 := x3.maskMove_drives (c := c)
  generalize x3.maskMove c = x4 at hmask h4 ⊢
  obtain ⟨hcommit, hhold⟩ := x4.commitDone_spec c
  have h5 := x4.commitDone_drives hc
  generalize x4.commitDone c = x5 at hcommit hhold h5 ⊢
  have h6 := x5.rangesShow_drives (c := c) per
  generalize x5.rangesShow c per = t at h6 ⊢
  have h5t : x4.drives t c (doneShown c) := h5.trans (h6.mono (List.subset_append_right _ _))
  have h4t : x3.drives t c (maskShown c) := h4.trans (h5t.mono (List.subset_cons_self _ _))
  have h3t : x2.drives t c (trigsShown c) := h3.trans (h4t.mono (List.subset_append_right _ _))
  have h2t : x1.drives t c (perShown c) := h2.trans (h3t.mono (List.subset_cons_self _ _))
  have h13 : d.drives x3 c (transferShown c) := ((h1.mono (List.subset_append_left _ _)).trans (h2.mono (List.subset_append_right _ _))).trans
    (h3.mono fun f hf => List.mem_append_right _ (List.mem_cons_of_mem _ hf))
  have h12 : d.drives x2 c (transferShown c) := (h1.mono (List.subset_append_left _ _)).trans (h2.mono (List.subset_append_right _ _))
  refine ⟨(h1.mono (List.subset_append_left _ _)).trans (h2t.mono (List.subset_append_right _ _)), ?_, ?_, ?_, fun k hk => ?_, fun m hm => ?_,
    fun hsrc => ?_⟩
  · rw [h3t.field (Nat.zero_le _) fun f hf => .inl fun he => ?_, hperSet]
    · exact Nat.mod_eq_of_lt hper
    · have := trigsShown_key hf
      simp only [Reg.PWM_PER_ACT_PER, Reg.PWM_PER_ACT] at he
      unfold chBase at this
      omega
  · rw [Dev.on, h6.field (Nat.le_refl 4) (by simp [rangesShown, RF.apart, Reg.PWM_CH_CTL_COMMIT, Reg.PWM_CH_STAT_TRIG_RANGE, Reg.PWM_CH_STAT_DT_RANGE, Reg.PWM_CH_CTL, Reg.PWM_CH_STAT])]
    exact hcommit
  · rw [h6.field (Nat.le_of_ble_eq_true rfl) (by simp [rangesShown, RF.apart, Reg.PWM_CH_STAT_HOLD_CNT, Reg.PWM_CH_STAT_TRIG_RANGE, Reg.PWM_CH_STAT_DT_RANGE])]
    exact hhold
  · rw [h4t.word fun f hf he => ?_, htrig k hk, h12.word fun f hf he => ?_]
    · have := transferShown_key hf
      unfold Reg.PWM_TRIG_SH at he
      unfold chBase at this
      omega
    · have := maskShown_key hf
      unfold Reg.PWM_TRIG_ACT at he
      unfold chBase at this
      omega
  · rw [h2t.field (Nat.zero_le _) fun f hf => .inl fun he => ?_, hcmp m hm]
    have := perShown_key hf
    simp only [Reg.PWM_CMP_ACT_CMP, Reg.PWM_CMP_ACT] at he
    unfold chBase at this
    omega
  · have hsrc3 : x3.g (Reg.PWM_CH_CFG_MASK_SRC c) = 0 := by
      rw [h13.field (Nat.le_of_ble_eq_true rfl) fun f hf => .inl fun he => ?_]
      · exact hsrc
      · have := transferShown_key hf
        simp only [Reg.PWM_CH_CFG_MASK_SRC, Reg.PWM_CH_CFG] at he
        unfold chBase at this
        omega
    rw [h5t.word fun f hf he => ?_, hmask hsrc3, h13.word fun f hf he => ?_]
    · have := transferShown_key hf
      unfold Reg.PWM_MASK_SH at he
      unfold chBase at this
      omega
    · have := doneShown_key hf
      unfold Reg.PWM_MASK_ACT at he
      unfold chBase at this
      omega

end Sys2Proof.Machine
end

section
/-! PROOFS. The start of a channel's period, and the boundary of a group (R71, R149, R158, R160, R169). -/

namespace Sys2Proof.Machine

/-! ## The start of a channel's period -/

/-- The counter returns to 0, and the legs begin a period of the given length. -/
def Dev.chBegins (d : Dev) (c per len : Nat) : Dev :=
  ((d.s (Reg.PWM_CNT_COUNT c) 0).updPch c fun p => { p with len := len }).each (List.range 6) fun d m => d.legBegin c m per len

/-- The work of one channel at its group's boundary. -/
def Dev.chStep (d : Dev) (c per len : Nat) : Dev := ((d.chBegins c per len).armDecide c).legsApply c

theorem exec_periodBoundary (n : Nat) (s : State) : exec (.periodBoundary n) s = s.run fun d =>
    if n < 6 then
      ((d.boundaryCommit (d.lgMembers n)).align ((d.boundaryCommit (d.lgMembers n)).g (Reg.LG_MAP_GRP ((d.lgMembers n).headD n)))
        ((d.boundaryCommit (d.lgMembers n)).g (Reg.PWM_PER_ACT_PER ((d.lgMembers n).headD n)))).2.each (d.lgMembers n) fun x c =>
          x.chStep c ((d.boundaryCommit (d.lgMembers n)).g (Reg.PWM_PER_ACT_PER ((d.lgMembers n).headD n)))
            ((d.boundaryCommit (d.lgMembers n)).align ((d.boundaryCommit (d.lgMembers n)).g (Reg.LG_MAP_GRP ((d.lgMembers n).headD n)))
              ((d.boundaryCommit (d.lgMembers n)).g (Reg.PWM_PER_ACT_PER ((d.lgMembers n).headD n)))).1
    else d := rfl

section
variable (d : Dev) {c : Nat} (hc : c < 6)
include hc

/-- From the counter's return on, no length changes. -/
theorem Dev.chBegins_spec (per len : Nat) : (d.chBegins c per len).g (Reg.PWM_CNT_COUNT c) = 0 ∧ ((d.chBegins c per len).pch c).len = len ∧
    ((d.chBegins c per len).pch c).armTrip = (d.pch c).armTrip ∧ (d.chBegins c per len).pwm.conds = d.pwm.conds ∧
    (∀ j, j ≠ c → (d.chBegins c per len).pch j = d.pch j) ∧ d.keeps (d.chBegins c per len) [Reg.PWM_CNT_COUNT c] chParts := by
  have hcnt : (d.s (Reg.PWM_CNT_COUNT c) 0).g (Reg.PWM_CNT_COUNT c) = 0 := by
    rw [Dev.g_s_same _ _ _ (Nat.zero_le _) (Nat.le_of_ble_eq_true rfl), Nat.zero_mod]
  have hzero : d.drives (d.s (Reg.PWM_CNT_COUNT c) 0) c [Reg.PWM_CNT_COUNT c] := (drives.refl d c _).s _ List.mem_cons_self (RF.fits_of rfl)
  unfold Dev.chBegins
  generalize d.s (Reg.PWM_CNT_COUNT c) 0 = x at hcnt hzero ⊢
  have hlen : (x.updPch c fun p => { p with len := len }).pch c = { x.pch c with len := len } := x.pch_updPch_same c _ hc
  have hothers := fun j (hj : j ≠ c) => x.pch_updPch_other (fun p => { p with len := len }) hj
  have hset : x.keeps (x.updPch c fun p => { p with len := len }) [Reg.PWM_CNT_COUNT c] chParts := Dev.keeps_withPwm (by decide) (x.keeps_refl _ _)
  have hcount : (x.updPch c fun p => { p with len := len }).g (Reg.PWM_CNT_COUNT c) = 0 := (x.updPch_g c _ _).trans hcnt
  have hconds : (x.updPch c fun p => { p with len := len }).pwm.conds = x.pwm.conds := rfl
  generalize x.updPch c (fun p => { p with len := len }) = y at hlen hothers hset hcount hconds ⊢
  have hlegs : y.drives (y.each (List.range 6) fun d m => d.legBegin c m per len) c [] :=
    (drives.refl y c _).each _ _ fun z m _ => z.legBegin_drives hc m per len _
  refine ⟨?_, ?_, ?_, ?_, fun j hj => ?_, ?_⟩
  · rw [hlegs.field (Nat.zero_le _) (List.forall_mem_nil _), hcount]
  · rw [hlegs.len, hlen]
  · rw [hlegs.armTrip, hlen, hzero.armTrip]
  · rw [hlegs.conds, hconds, hzero.conds]
  · rw [hlegs.others j hj, hothers j hj, hzero.others j hj]
  · exact Dev.keeps_trans (Dev.keeps_trans hzero.frame hset) (Dev.keeps_mono hlegs.frame (List.nil_subset _) (List.Subset.refl _))

end

/-! ## Whose registers these are -/

theorem chKey_cnt (c : Nat) : chKey c (Reg.PWM_CNT c) := by
  unfold chKey ownKey Reg.PWM_CNT
  omega

theorem chKey_legs {c : Nat} {f : RF} (h : f ∈ legsShown c) : chKey c f.key := by
  have hreg : f.key = Reg.PWM_LEG_STAT c := by
    simp only [legsShown, List.mem_cons, List.not_mem_nil, or_false] at h
    rcases h with rfl | rfl <;> rfl
  unfold chKey ownKey
  rw [hreg, Reg.PWM_LEG_STAT]
  omega

/-- The registers that show the safe state. -/
theorem safeShown_key {c : Nat} {f : RF} (h : f ∈ safeShown c) : f.key = Reg.PWM_CH_STAT c ∨ f.key = Reg.PWM_MASK_ACT c ∨
    f.key = Reg.DCL_CH_STAT c ∨ (f.key = Reg.CMU_STAT 0 ∨ f.key = Reg.CMU_STAT 1) ∨ f.key = Reg.ASSIST_CFG 0 ∨ f.key = Reg.ASSIST_CFG 1 := by
  simp only [safeShown, List.mem_append, List.mem_cons, List.not_mem_nil, or_false, List.mem_map, List.mem_range] at h
  rcases h with ((rfl | rfl | rfl) | ⟨k, hk, rfl⟩) | ⟨k, hk, rfl⟩
  · exact .inl rfl
  · exact .inr (.inl rfl)
  · exact .inr (.inr (.inl rfl))
  · rcases Nat.le_one_iff_eq_zero_or_eq_one.1 (Nat.le_of_lt_succ hk) with rfl | rfl
    · exact .inr (.inr (.inr (.inl (.inl rfl))))
    · exact .inr (.inr (.inr (.inl (.inr rfl))))
  · rcases Nat.le_one_iff_eq_zero_or_eq_one.1 (Nat.le_of_lt_succ hk) with rfl | rfl
    · exact .inr (.inr (.inr (.inr (.inl rfl))))
    · exact .inr (.inr (.inr (.inr (.inr rfl))))

theorem chKey_safe {c : Nat} {f : RF} (h : f ∈ safeShown c) : chKey c f.key := by
  have hreg := safeShown_key h
  unfold chKey ownKey
  unfold Reg.PWM_CH_STAT Reg.PWM_MASK_ACT at hreg
  omega

theorem chKey_decide {c : Nat} {f : RF} (h : f ∈ decideShown c) : chKey c f.key := by
  have hreg : f ∈ safeShown c ∨ f.key = Reg.PWM_CH_CTL c ∨ f.key = Reg.PWM_CH_STAT c ∨ f.key = Reg.PWM_LEG_STAT c := by
    simp only [decideShown, refuseShown, armShown, List.mem_append, List.mem_cons, List.not_mem_nil, or_false] at h
    rcases h with (rfl | rfl | rfl) | rfl | rfl | h
    · exact .inr (.inl rfl)
    · exact .inr (.inr (.inl rfl))
    · exact .inr (.inr (.inl rfl))
    · exact .inr (.inl rfl)
    · exact .inr (.inr (.inr rfl))
    · exact .inl h
  rcases hreg with h | h
  · exact chKey_safe h
  · unfold chKey ownKey
    unfold Reg.PWM_CH_CTL Reg.PWM_CH_STAT Reg.PWM_LEG_STAT at h
    omega

theorem chKey_transfer {c : Nat} {f : RF} (h : f ∈ transferShown c) : chKey c f.key := by
  have := transferShown_key h
  unfold chBase at this
  unfold chKey ownKey
  omega

/-- The work of another channel at the boundary. -/
theorem Dev.chStep_besides (d : Dev) {a c : Nat} (ha : a < 6) (hne : a ≠ c) (per len : Nat) : Dev.besides c d (d.chStep a per len) := by
  obtain ⟨_, _, _, hconds, hothers, hkeeps⟩ := d.chBegins_spec ha per len
  have hbegins : Dev.besides c d (d.chBegins a per len) := by
    refine ⟨fun k hk => Dev.word_of_keeps hkeeps fun f hf he => hk a ha hne ?_, hkeeps.2, hconds, hothers c fun he => hne he.symm⟩
    rw [he, List.mem_singleton.1 hf]
    exact chKey_cnt a
  exact (hbegins.trans (Dev.besides.of_drives (Dev.armDecide_drives _ ha) ha hne fun _ => chKey_decide)).trans
    (Dev.besides.of_drives (Dev.legsApply_drives ha _) ha hne fun _ => chKey_legs)

/-- A transfer of another channel. -/
theorem Dev.transfers.besides {d t : Dev} {a c per : Nat} (h : d.transfers t a per) (ha : a < 6) (hne : a ≠ c) : Dev.besides c d t :=
  Dev.besides.of_drives h.drives ha hne fun _ => chKey_transfer

end Sys2Proof.Machine
end

section
/-! PROOFS. The boundary of a group (R71, R149, R158, R160, R169). -/

namespace Sys2Proof.Machine

/-! ## The legs that arming takes -/

/-- The sum of the bits below `k` that a predicate picks. -/
def bitsOf (p : Nat → Bool) (k : Nat) : Nat := ((List.range k).filter p).foldl (fun a m => a + 2 ^ m) 0

theorem bitsOf_succ (p : Nat → Bool) (k : Nat) : bitsOf p (k + 1) = if p k then bitsOf p k + 2 ^ k else bitsOf p k := by
  unfold bitsOf
  rw [List.range_succ, List.filter_append, List.foldl_append]
  by_cases h : p k = true
  · rw [List.filter_cons_of_pos h, if_pos h]
    rfl
  · rw [List.filter_cons_of_neg h, if_neg h]
    rfl

theorem bitsOf_lt (p : Nat → Bool) (k : Nat) : bitsOf p k < 2 ^ k := by
  induction k with
  | zero => exact Nat.one_pos
  | succ k ih =>
    rw [bitsOf_succ, pow_succ]
    split <;> omega

theorem testBit_bitsOf (p : Nat → Bool) {m k : Nat} (h : m < k) : (bitsOf p k).testBit m = p m := by
  induction k with
  | zero => exact absurd h (Nat.not_lt_zero m)
  | succ k ih =>
    rw [bitsOf_succ]
    rcases Nat.lt_succ_iff_lt_or_eq.1 h with hlt | rfl
    · split
      · rw [Nat.add_comm, Nat.testBit_two_pow_add_gt hlt, ih hlt]
      · exact ih hlt
    · split
      · next hp => rw [Nat.add_comm, Nat.testBit_two_pow_add_eq, Nat.testBit_lt_two_pow (bitsOf_lt p m), hp]; rfl
      · next hp => rw [Nat.testBit_lt_two_pow (bitsOf_lt p m)]; exact (Bool.not_eq_true _ ▸ hp).symm

theorem Dev.ownLegs_eq (d : Dev) (c : Nat) : d.ownLegs c = 2 ^ (6 * c) * bitsOf (fun m => !d.isChop c m) 6 := by
  have hscale (l : List Nat) : ∀ b, l.foldl (fun a m => a + 2 ^ (6 * c + m)) (2 ^ (6 * c) * b) = 2 ^ (6 * c) * l.foldl (fun a m => a + 2 ^ m) b := by
    induction l with
    | nil => exact fun _ => rfl
    | cons m l ih =>
      intro b
      rw [List.foldl_cons, List.foldl_cons, ← ih, Nat.pow_add, Nat.mul_add]
  exact hscale _ 0

/-- The legs that arming takes, by their number in the channel. -/
theorem Dev.ownLegs_div (d : Dev) (c : Nat) : d.ownLegs c / 2 ^ (6 * c) = bitsOf (fun m => !d.isChop c m) 6 := by
  rw [d.ownLegs_eq, Nat.mul_div_cancel_left _ (Nat.two_pow_pos _)]

/-- What the safe state shows is no part of ARM or ARMED. -/
theorem safeShown_apart (c : Nat) :
    (∀ f ∈ safeShown c, (Reg.PWM_CH_CTL_ARM c).apart f) ∧ ∀ f ∈ safeShown c, (Reg.PWM_LEG_STAT_ARMED c).apart f := by
  have hkey (f : RF) (hf : f ∈ safeShown c) : Reg.PWM_CH_CTL c ≠ f.key ∧ Reg.PWM_LEG_STAT c ≠ f.key := by
    have hreg := safeShown_key hf
    unfold Reg.PWM_CH_STAT Reg.PWM_MASK_ACT Reg.DCL_CH_STAT Reg.CMU_STAT Reg.ASSIST_CFG at hreg
    unfold Reg.PWM_CH_CTL Reg.PWM_LEG_STAT
    omega
  exact ⟨fun f hf => .inl (hkey f hf).1, fun f hf => .inl (hkey f hf).2⟩

/-- An armed channel: its request is met, and every leg but the chopper legs is armed (R169). -/
theorem Dev.armChannel_spec (d : Dev) {c : Nat} (hc : c < 6) : (d.armChannel c).on (Reg.PWM_CH_CTL_ARM c) = false ∧
    ∀ m < 6, d.isChop c m = false → (d.armChannel c).isArmed c m = true := by
  obtain ⟨harm, harmed⟩ := safeShown_apart c
  have hother : (Reg.PWM_CH_CTL_ARM c).key ≠ (Reg.PWM_LEG_STAT_ARMED c).key := by
    show Reg.PWM_CH_CTL c ≠ Reg.PWM_LEG_STAT c
    unfold Reg.PWM_CH_CTL Reg.PWM_LEG_STAT
    omega
  have hoff : (d.s (Reg.PWM_CH_CTL_ARM c) 0).g (Reg.PWM_CH_CTL_ARM c) = 0 := by
    rw [Dev.g_s_same _ _ _ (Nat.le_refl 0) (Nat.zero_le _), Nat.zero_mod]
  unfold Dev.armChannel
  rw [d.ownLegs_div]
  generalize d.s (Reg.PWM_CH_CTL_ARM c) 0 = x at hoff ⊢
  have hset : ∀ m < 6, d.isChop c m = false → ((x.s (Reg.PWM_LEG_STAT_ARMED c) (x.g (Reg.PWM_LEG_STAT_ARMED c) |||
      bitsOf (fun m => !d.isChop c m) 6)).g (Reg.PWM_LEG_STAT_ARMED c)).testBit m = true := fun m hm hchop => by
    rw [Dev.g_s_same _ _ _ (Nat.le_of_ble_eq_true rfl) (Nat.le_of_ble_eq_true rfl)]
    show (_ % 2 ^ 6).testBit m = true
    rw [Nat.testBit_mod_two_pow, Nat.testBit_or, testBit_bitsOf _ hm, hchop]
    simp [hm]
  have hkept : (x.s (Reg.PWM_LEG_STAT_ARMED c) (x.g (Reg.PWM_LEG_STAT_ARMED c) ||| bitsOf (fun m => !d.isChop c m) 6)).g
      (Reg.PWM_CH_CTL_ARM c) = 0 := by rw [x.g_s_other _ _ _ hother, hoff]
  dsimp only
  generalize x.s (Reg.PWM_LEG_STAT_ARMED c) (x.g (Reg.PWM_LEG_STAT_ARMED c) ||| bitsOf (fun m => !d.isChop c m) 6) = y at hset hkept ⊢
  have hshown : y.drives _ c (safeShown c) := (((drives.refl y c _).each (maskBits 6 (bitsOf (fun m => !d.isChop c m) 6))
    (fun d m => d.updLeg c m (fun g => { g with onH := false, onL := false })) fun z m _ => (drives.refl z c _).updLeg hc m _).each
    (List.range 3) (fun d p => d.updPhase c p (fun f => { f with stage := none, st := 0, tgt := 0, oUntil := none }))
    fun z p _ => (drives.refl z c _).updPhase hc p _).trans (Dev.refreshSafe_drives _ c)
  refine ⟨?_, fun m hm hchop => ?_⟩
  · rw [Dev.on, hshown.field (Nat.le_refl 0) harm, hkept]
    rfl
  · rw [Dev.isArmed, hshown.field (Nat.le_of_ble_eq_true rfl) harmed]
    exact hset m hm hchop

end Sys2Proof.Machine
end

section
/-! PROOFS. The boundary of a group, assembled (R71, R149, R158, R160, R169). -/

namespace Sys2Proof.Machine

/-! ## One channel at the boundary -/

theorem legsShown_apart_arm (c : Nat) : ∀ f ∈ legsShown c, (Reg.PWM_CH_CTL_ARM c).apart f := by
  simp [legsShown, RF.apart, Reg.PWM_CH_CTL_ARM, Reg.PWM_LEG_STAT_CONFLICT, Reg.PWM_LEG_STAT_NPC_ILL, Reg.PWM_CH_CTL, Reg.PWM_LEG_STAT]

theorem legsShown_apart_armed (c : Nat) : ∀ f ∈ legsShown c, (Reg.PWM_LEG_STAT_ARMED c).apart f := by
  simp [legsShown, RF.apart, Reg.PWM_LEG_STAT_ARMED, Reg.PWM_LEG_STAT_CONFLICT, Reg.PWM_LEG_STAT_NPC_ILL]

section
variable {d : Dev} {c : Nat} (hc : c < 6) (per len : Nat)
include hc

/-- Without a request the boundary sets the counter and the length, and the legs follow. -/
theorem Dev.chStep_idle (hoff : d.on (Reg.PWM_CH_CTL_ARM c) = false) : (d.chStep c per len).g (Reg.PWM_CNT_COUNT c) = 0 ∧
    ((d.chStep c per len).pch c).len = len ∧ d.keeps (d.chStep c per len) (Reg.PWM_CNT_COUNT c :: legsShown c) chParts := by
  obtain ⟨hcnt, hlen, _, _, _, hkeeps⟩ := d.chBegins_spec hc per len
  have hoff' : (d.chBegins c per len).on (Reg.PWM_CH_CTL_ARM c) = false := by
    rw [Dev.on, hkeeps.1 _ (Nat.le_refl 0) (by simp [RF.apart, Reg.PWM_CH_CTL_ARM, Reg.PWM_CNT_COUNT, Reg.PWM_CH_CTL, Reg.PWM_CNT])]
    exact hoff
  have hlegs := (d.chBegins c per len).legsApply_drives hc
  rw [Dev.chStep, Dev.armDecide_off hoff']
  refine ⟨?_, hlegs.len.trans hlen, ?_⟩
  · rw [hlegs.field (Nat.zero_le _), hcnt]
    simp [legsShown, RF.apart, Reg.PWM_CNT_COUNT, Reg.PWM_LEG_STAT_CONFLICT, Reg.PWM_LEG_STAT_NPC_ILL, Reg.PWM_CNT, Reg.PWM_LEG_STAT]
  · exact Dev.keeps_trans (Dev.keeps_mono hkeeps (List.cons_subset_cons _ (List.nil_subset _)) (List.Subset.refl _))
      (Dev.keeps_mono hlegs.frame (List.subset_cons_self _ _) (List.Subset.refl _))

/-- A request that nothing bars is met at the boundary. -/
theorem Dev.chStep_arms (hon : d.on (Reg.PWM_CH_CTL_ARM c) = true) (htrip : (d.pch c).armTrip = false) (hwhy : d.armWhy c = none) :
    (d.chStep c per len).on (Reg.PWM_CH_CTL_ARM c) = false ∧
      ∀ m < 6, d.isChop c m = false → (d.chStep c per len).isArmed c m = true := by
  obtain ⟨_, _, htrip', hconds, _, hkeeps⟩ := d.chBegins_spec hc per len
  have hon' : (d.chBegins c per len).on (Reg.PWM_CH_CTL_ARM c) = true := by
    rw [Dev.on, hkeeps.1 _ (Nat.le_refl 0) (by simp [RF.apart, Reg.PWM_CH_CTL_ARM, Reg.PWM_CNT_COUNT, Reg.PWM_CH_CTL, Reg.PWM_CNT])]
    exact hon
  have hown : ownKey c (Reg.PWM_CNT c) := by
    unfold ownKey Reg.PWM_CNT
    omega
  have hbar (k : Nat) (hk : barKey c k) : (d.chBegins c per len).word k = d.word k :=
    Dev.word_of_keeps hkeeps fun f hf he => by
      have hkey : k = Reg.PWM_CNT c := he.trans (congrArg RF.key (List.mem_singleton.1 hf))
      exact ownKey_not_bar hc hown (hkey ▸ hk)
  obtain ⟨harm, harmed⟩ := (d.chBegins c per len).armChannel_spec hc
  rw [Dev.chStep, Dev.armDecide_armed hon' (htrip'.trans htrip) ((Dev.armWhy_bar hbar hconds).trans hwhy)]
  have hlegs := ((d.chBegins c per len).armChannel c).legsApply_drives hc
  refine ⟨?_, fun m hm hchop => ?_⟩
  · rw [Dev.on, hlegs.field (Nat.le_refl 0) (legsShown_apart_arm c)]
    exact harm
  · rw [Dev.isArmed, hlegs.field (Nat.le_of_ble_eq_true rfl) (legsShown_apart_armed c)]
    exact harmed m hm ((Dev.isChop_bar hbar c m).trans hchop)

end

/-! ## A group's channels in turn -/

section
variable {ms : List Nat} {f : Dev → Nat → Dev} (hf : ∀ x, ∀ a ∈ ms, ∀ c, a ≠ c → Dev.besides c x (f x a))
include hf

/-- A channel outside the list. -/
theorem Dev.each_besides (d : Dev) {c : Nat} (hc : c ∉ ms) : Dev.besides c d (d.each ms f) :=
  Dev.each_mem (.refl c) .trans ms f (fun x a ha => hf x a ha c fun he => hc (he ▸ ha)) d

/-- A channel of the list: others work before it, and others after it. -/
theorem Dev.each_turn (hnd : ms.Nodup) (d : Dev) {c : Nat} (hc : c ∈ ms) :
    ∃ x, Dev.besides c d x ∧ Dev.besides c (f x c) (d.each ms f) :=
  Dev.each_at (.refl c) .trans hnd hc f (fun x a ha hne => hf x a ha c hne) d

end

theorem leftTo_low {c k : Nat} (h : k < 0x30040000) : leftTo c k := by
  intro a ha _
  unfold chKey ownKey Reg.DCL_CH_STAT Reg.CMU_STAT Reg.ASSIST_CFG
  omega

/-- Without alignment a period has its own length. -/
theorem Dev.align_off {d : Dev} {g per : Nat} (h : g = 0 ∨ d.on (Reg.LG_CTL_ALIGN_EN g) = false) : d.align g per = (per, d) := by
  rw [Dev.align, if_pos]
  rcases h with h | h
  · exact .inl h
  · exact .inr (by rw [h]; rfl)

theorem Dev.lgGroup_lt (d : Dev) (n : Nat) : d.g (Reg.LG_MAP_GRP n) < 8 := by
  have hw : (Reg.LG_MAP_GRP n).hi - (Reg.LG_MAP_GRP n).lo + 1 = 3 := by simp only [Reg.LG_MAP_GRP]; omega
  rw [Dev.g, bits, hw]
  exact Nat.mod_lt _ (by decide)

/-- The boundary of a group that is not being aligned: the commit, then each member's period. -/
theorem boundaryDoes {s : State} (hl : s.dev.live = true) {n : Nat} (hn : n < 6)
    (hoff : s.dev.g (Reg.LG_MAP_GRP n) = 0 ∨ s.dev.on (Reg.LG_CTL_ALIGN_EN (s.dev.g (Reg.LG_MAP_GRP n))) = false) {x : Dev}
    (hx : s.dev.boundaryCommit (s.dev.lgMembers n) = x) (hbes : Dev.besides 6 s.dev x) {P : Dev → Prop}
    (h : P (x.each (s.dev.lgMembers n) fun y c => y.chStep c (x.g (Reg.PWM_PER_ACT_PER ((s.dev.lgMembers n).headD n)))
      (x.g (Reg.PWM_PER_ACT_PER ((s.dev.lgMembers n).headD n))))) : Does s (.periodBoundary n) P := by
  refine State.does_run (exec_periodBoundary n s) hl ?_
  have hgrp : x.g (Reg.LG_MAP_GRP ((s.dev.lgMembers n).headD n)) = s.dev.g (Reg.LG_MAP_GRP n) :=
    (hbes.field (leftTo_low (show Reg.LG_MAP < 0x30040000 by unfold Reg.LG_MAP; omega))).trans
      (Dev.lgMembers_group (headD_mem (Dev.lgMembers_self hn) n))
  have hlt := s.dev.lgGroup_lt n
  have hen : x.on (Reg.LG_CTL_ALIGN_EN (s.dev.g (Reg.LG_MAP_GRP n))) = s.dev.on (Reg.LG_CTL_ALIGN_EN (s.dev.g (Reg.LG_MAP_GRP n))) :=
    congrArg (· != 0) (hbes.field (leftTo_low (show Reg.LG_CTL (s.dev.g (Reg.LG_MAP_GRP n)) < 0x30040000 by unfold Reg.LG_CTL; omega)))
  rw [if_pos hn, hx, hgrp, Dev.align_off (hen ▸ hoff)]
  exact h

/-! ## The commit at the boundary -/

section
variable {d : Dev} {ms : List Nat}

theorem any_on {p : Nat → Bool} (h : ∃ c ∈ ms, p c = true) : ms.any p = true := List.any_eq_true.2 h

theorem any_off {p : Nat → Bool} (h : ∀ c ∈ ms, p c = false) : ¬ ms.any p = true := by
  rw [List.any_eq_true]
  rintro ⟨c, hc, hp⟩
  rw [h c hc] at hp
  contradiction

theorem Dev.boundaryCommit_none (h : ∀ c ∈ ms, d.on (Reg.PWM_CH_CTL_COMMIT c) = false) : d.boundaryCommit ms = d := if_neg (any_off h)

theorem Dev.boundaryCommit_moves (h : ∃ c ∈ ms, d.on (Reg.PWM_CH_CTL_COMMIT c) = true)
    (hfree : ∀ c ∈ ms, d.guardHolds c (d.g (Reg.PWM_PER_SH_PER (ms.headD 0))) = false) :
    d.boundaryCommit ms = d.each ms fun d' c => d'.transfer c (d.g (Reg.PWM_PER_SH_PER (ms.headD 0))) none := by
  unfold Dev.boundaryCommit
  dsimp only
  rw [if_pos (any_on h), if_neg (any_off hfree)]

/-- A commit that the pair guard holds is counted (R160). -/
def Dev.commitHeld (d : Dev) (c : Nat) : Dev := (d.s (Reg.PWM_CH_STAT_PAIR_HOLD c) 1).inc (Reg.PWM_CH_STAT_HOLD_CNT c)

theorem Dev.boundaryCommit_holds (h : ∃ c ∈ ms, d.on (Reg.PWM_CH_CTL_COMMIT c) = true)
    (hheld : ∃ c ∈ ms, d.guardHolds c (d.g (Reg.PWM_PER_SH_PER (ms.headD 0))) = true)
    (hcnt : ∀ c ∈ ms, d.g (Reg.PWM_CH_STAT_HOLD_CNT c) < 16) : d.boundaryCommit ms = d.each ms Dev.commitHeld := by
  unfold Dev.boundaryCommit
  dsimp only
  rw [if_pos (any_on h), if_pos (any_on hheld), if_neg (any_off fun c hc => decide_eq_false (Nat.not_le.2 (hcnt c hc)))]
  rfl

end

/-- The fields that tell of a held commit. -/
def heldShown (c : Nat) : List RF := [Reg.PWM_CH_STAT_PAIR_HOLD c, Reg.PWM_CH_STAT_HOLD_CNT c]

theorem Dev.commitHeld_drives (d : Dev) (c : Nat) : d.drives (d.commitHeld c) c (heldShown c) :=
  ((drives.refl d c _).s _ (by simp [heldShown]) (RF.fits_of rfl)).s _ (by simp [heldShown]) (RF.fits_of rfl)

theorem Dev.commitHeld_spec (d : Dev) {c : Nat} (h : d.g (Reg.PWM_CH_STAT_HOLD_CNT c) < 16) :
    (d.commitHeld c).on (Reg.PWM_CH_STAT_PAIR_HOLD c) = true ∧
      (d.commitHeld c).g (Reg.PWM_CH_STAT_HOLD_CNT c) = d.g (Reg.PWM_CH_STAT_HOLD_CNT c) + 1 := by
  have hfits : (Reg.PWM_CH_STAT_HOLD_CNT c).fits := RF.fits_of rfl
  have hheld : (d.s (Reg.PWM_CH_STAT_PAIR_HOLD c) 1).g (Reg.PWM_CH_STAT_HOLD_CNT c) = d.g (Reg.PWM_CH_STAT_HOLD_CNT c) :=
    d.g_s_apart 1 (RF.fits_of rfl) hfits.1 (.inr (.inl (Nat.le_of_ble_eq_true rfl)))
  constructor
  · rw [Dev.commitHeld, Dev.inc, Dev.on, Dev.g_s_apart _ _ hfits (Nat.le_refl 17) (.inr (.inr (Nat.le_of_ble_eq_true rfl))),
      Dev.g_s_same _ _ _ (Nat.le_refl 17) (Nat.le_of_ble_eq_true rfl)]
    rfl
  · rw [Dev.commitHeld, Dev.g_inc _ _ hfits.1 hfits.2, hheld]
    show satInc 255 _ = _
    rw [satInc, if_pos (by omega)]

theorem chKey_held {c : Nat} {f : RF} (h : f ∈ heldShown c) : chKey c f.key := by
  have hreg : f.key = Reg.PWM_CH_STAT c := by
    simp only [heldShown, List.mem_cons, List.not_mem_nil, or_false] at h
    rcases h with rfl | rfl <;> rfl
  unfold chKey ownKey
  rw [hreg, Reg.PWM_CH_STAT]
  omega

end Sys2Proof.Machine
end

section
/-! PROOFS. Every clause of a boundary (R149, R158, R160, R169). -/

namespace Sys2Proof.Machine

/-! ## A member's period begins -/

theorem ownKey_of {c k o : Nat} (h : k = chBase c + o) (ho : o < 0x1000) : ownKey c k := by
  unfold chBase at h
  unfold ownKey
  omega

/-- What a member's turn leaves of its registers where no request stands. -/
structure Dev.idleTurn (d t : Dev) (c len : Nat) : Prop where
  cnt : t.g (Reg.PWM_CNT_COUNT c) = 0
  len : (t.pch c).len = len
  armed : t.g (Reg.PWM_LEG_STAT_ARMED c) = d.g (Reg.PWM_LEG_STAT_ARMED c)
  word : ∀ k, ownKey c k → k ≠ Reg.PWM_CNT c → k ≠ Reg.PWM_LEG_STAT c → t.word k = d.word k

theorem Dev.idleTurn.field {d t : Dev} {c len : Nat} (h : d.idleTurn t c len) {f : RF} (hown : ownKey c f.key)
    (hne : f.key ≠ Reg.PWM_CNT c ∧ f.key ≠ Reg.PWM_LEG_STAT c) : t.g f = d.g f := by
  rw [Dev.g, h.word _ hown hne.1 hne.2]
  rfl

theorem Dev.idleTurn_of {d x t : Dev} {c : Nat} (hc : c < 6) {per len : Nat} (hbefore : Dev.besides c d x)
    (hafter : Dev.besides c (x.chStep c per len) t) (hoff : d.on (Reg.PWM_CH_CTL_ARM c) = false) : d.idleTurn t c len := by
  have hctl : ownKey c (Reg.PWM_CH_CTL c) := ownKey_of (o := 0) rfl (by decide)
  have hcntKey : ownKey c (Reg.PWM_CNT c) := by unfold ownKey Reg.PWM_CNT; omega
  have hlegKey : ownKey c (Reg.PWM_LEG_STAT c) := by unfold ownKey Reg.PWM_LEG_STAT; omega
  have hoff' : x.on (Reg.PWM_CH_CTL_ARM c) = false := by
    rw [Dev.on, hbefore.field (leftTo_own hc hctl)]
    exact hoff
  obtain ⟨hcnt, hlen, hkeeps⟩ := Dev.chStep_idle hc per len hoff'
  refine ⟨?_, ?_, ?_, fun k hk hkc hkl => ?_⟩
  · rw [hafter.field (leftTo_own hc hcntKey), hcnt]
  · rw [hafter.pch, hlen]
  · rw [hafter.field (leftTo_own hc hlegKey), hkeeps.1 _ (Nat.le_of_ble_eq_true rfl), hbefore.field (leftTo_own hc hlegKey)]
    rw [List.forall_mem_cons]
    refine ⟨.inl ?_, legsShown_apart_armed c⟩
    show Reg.PWM_LEG_STAT c ≠ Reg.PWM_CNT c
    unfold Reg.PWM_LEG_STAT Reg.PWM_CNT
    omega
  · rw [hafter.word k (leftTo_own hc hk), Dev.word_of_keeps hkeeps, hbefore.word k (leftTo_own hc hk)]
    rw [List.forall_mem_cons]
    refine ⟨hkc, fun f hf => ?_⟩
    simp only [legsShown, List.mem_cons, List.not_mem_nil, or_false] at hf
    rcases hf with rfl | rfl
    · exact hkl
    · exact hkl

/-- A member's turn after a commit that left `y` of it. -/
theorem Dev.groupTurn {x y : Dev} {ms : List Nat} (hms : ∀ a ∈ ms, a < 6) (hnd : ms.Nodup) {c : Nat} (hc : c ∈ ms) (hyx : Dev.besides c y x)
    (hoff : y.on (Reg.PWM_CH_CTL_ARM c) = false) (per len : Nat) : y.idleTurn (x.each ms fun z c => z.chStep c per len) c len := by
  obtain ⟨z, hbefore, hafter⟩ := Dev.each_turn (f := fun z c => z.chStep c per len)
    (fun z a ha k hk => z.chStep_besides (hms a ha) hk per len) hnd x hc
  exact Dev.idleTurn_of (hms c hc) (hyx.trans hbefore) hafter hoff

/-! ## A commit that is held, and one that moves -/

/-- A channel's registers, by their place in its block. -/
theorem ownKey_regs (c : Nat) : ownKey c (Reg.PWM_CH_CTL c) ∧ ownKey c (Reg.PWM_CH_STAT c) ∧ ownKey c (Reg.PWM_PER_ACT c) ∧
    ownKey c (Reg.PWM_LEG_STAT c) := by
  unfold ownKey Reg.PWM_CH_CTL Reg.PWM_CH_STAT Reg.PWM_PER_ACT Reg.PWM_LEG_STAT
  omega

theorem ownKey_cmp (c : Nat) {m : Nat} (hm : m < 6) : ownKey c (Reg.PWM_CMP_ACT c m) ∧ ownKey c (Reg.PWM_CMP_SH c m) := by
  unfold ownKey Reg.PWM_CMP_ACT Reg.PWM_CMP_SH
  omega

/-- These registers are neither the counter nor the legs' status. -/
theorem quiet_regs (c : Nat) : (Reg.PWM_CH_CTL c ≠ Reg.PWM_CNT c ∧ Reg.PWM_CH_CTL c ≠ Reg.PWM_LEG_STAT c) ∧
    (Reg.PWM_CH_STAT c ≠ Reg.PWM_CNT c ∧ Reg.PWM_CH_STAT c ≠ Reg.PWM_LEG_STAT c) ∧
    (Reg.PWM_PER_ACT c ≠ Reg.PWM_CNT c ∧ Reg.PWM_PER_ACT c ≠ Reg.PWM_LEG_STAT c) := by
  unfold Reg.PWM_CH_CTL Reg.PWM_CH_STAT Reg.PWM_PER_ACT Reg.PWM_CNT Reg.PWM_LEG_STAT
  omega

theorem quiet_cmp (c : Nat) {m : Nat} (hm : m < 6) : Reg.PWM_CMP_ACT c m ≠ Reg.PWM_CNT c ∧ Reg.PWM_CMP_ACT c m ≠ Reg.PWM_LEG_STAT c := by
  unfold Reg.PWM_CMP_ACT Reg.PWM_CNT Reg.PWM_LEG_STAT
  omega

/-- What of a channel's registers a held commit leaves. -/
theorem heldShown_apart {c : Nat} {r : RF} (h : r.key ≠ Reg.PWM_CH_STAT c) : ∀ f ∈ heldShown c, r.apart f := by
  intro f hf
  simp only [heldShown, List.mem_cons, List.not_mem_nil, or_false] at hf
  rcases hf with rfl | rfl
  · exact .inl h
  · exact .inl h

/-- COMMIT is all that a transfer writes of its register. -/
theorem transferShown_ctl {c : Nat} {f : RF} (h : f ∈ transferShown c) (hk : f.key = Reg.PWM_CH_CTL c) : f = Reg.PWM_CH_CTL_COMMIT c := by
  have hper : f ∈ perShown c := by
    rcases List.mem_append.1 h with h | h
    · exfalso
      unfold Reg.PWM_CH_CTL at hk
      rcases List.mem_append.1 h with h | h
      all_goals
        obtain ⟨m, _, rfl⟩ := List.mem_map.1 h
        simp only [RF.whole, Reg.PWM_CMP_ACT, Reg.PWM_CMPL_ACT] at hk
        omega
    · exact h
  have hdone : f ∈ doneShown c := by
    unfold Reg.PWM_CH_CTL at hk
    rcases List.mem_cons.1 hper with rfl | h
    · simp only [Reg.PWM_PER_ACT_PER, Reg.PWM_PER_ACT] at hk
      omega
    · rcases List.mem_append.1 h with h | h
      · obtain ⟨k, _, rfl⟩ := List.mem_map.1 h
        simp only [RF.whole, Reg.PWM_TRIG_ACT] at hk
        omega
      · rcases List.mem_cons.1 h with rfl | h
        · simp only [RF.whole, Reg.PWM_MASK_ACT] at hk
          omega
        · exact h
  have hne : Reg.PWM_CH_STAT c ≠ Reg.PWM_CH_CTL c := by unfold Reg.PWM_CH_STAT Reg.PWM_CH_CTL; omega
  simp only [doneShown, rangesShown, List.mem_append, List.mem_cons, List.not_mem_nil, or_false] at hdone
  rcases hdone with (rfl | rfl | rfl) | rfl | rfl
  · rfl
  all_goals exact absurd hk hne

theorem transferShown_apart (c : Nat) : (∀ f ∈ transferShown c, (Reg.PWM_CH_CTL_ARM c).apart f) ∧
    ∀ f ∈ transferShown c, (Reg.PWM_LEG_STAT_ARMED c).apart f := by
  refine ⟨fun f hf => ?_, fun f hf => .inl fun he => ?_⟩
  · by_cases hkey : f.key = Reg.PWM_CH_CTL c
    · rw [transferShown_ctl hf hkey]
      exact .inr (.inr (Nat.zero_lt_succ 3))
    · exact .inl fun he => hkey he.symm
  · have := transferShown_key hf
    simp only [Reg.PWM_LEG_STAT_ARMED, Reg.PWM_LEG_STAT] at he
    unfold chBase at this
    omega

/-! ## The clauses -/

section
variable {s : State} (hl : s.dev.live = true) {n : Nat} (hn : n < 6)
  (hoff : s.dev.g (Reg.LG_MAP_GRP n) = 0 ∨ s.dev.on (Reg.LG_CTL_ALIGN_EN (s.dev.g (Reg.LG_MAP_GRP n))) = false)
include hl hn hoff

/-- A request that stands at the boundary. -/
theorem boundaryArms (hnone : ∀ c ∈ s.dev.lgMembers n, s.dev.on (Reg.PWM_CH_CTL_COMMIT c) = false) {c : Nat} (hc : c ∈ s.dev.lgMembers n)
    (hon : s.dev.on (Reg.PWM_CH_CTL_ARM c) = true) (htrip : (s.dev.pch c).armTrip = false) (hwhy : s.dev.armWhy c = none) :
    Does s (.periodBoundary n) (fun t => t.on (Reg.PWM_CH_CTL_ARM c) = false ∧
      ∀ m < 6, s.dev.isChop c m = false → t.isArmed c m = true) := by
  refine boundaryDoes hl hn hoff (Dev.boundaryCommit_none hnone) (.refl 6 _) ?_
  have h6 := Dev.lgMembers_lt hn hc
  obtain ⟨x, hbefore, hafter⟩ := Dev.each_turn (f := fun y c => y.chStep c (s.dev.g (Reg.PWM_PER_ACT_PER ((s.dev.lgMembers n).headD n)))
    (s.dev.g (Reg.PWM_PER_ACT_PER ((s.dev.lgMembers n).headD n)))) (fun y a ha k hk => y.chStep_besides (Dev.lgMembers_lt hn ha) hk _ _)
    (s.dev.lgMembers_nodup n) s.dev hc
  have hctl : leftTo c (Reg.PWM_CH_CTL c) := leftTo_own h6 (ownKey_of (o := 0) rfl (by decide))
  have hleg : leftTo c (Reg.PWM_LEG_STAT c) := leftTo_own h6 (by unfold ownKey Reg.PWM_LEG_STAT; omega)
  have hbar (k : Nat) (hk : barKey c k) : x.word k = s.dev.word k := hbefore.word k (leftTo_bar h6 hk)
  have hon' : x.on (Reg.PWM_CH_CTL_ARM c) = true := by
    rw [Dev.on, hbefore.field hctl]
    exact hon
  obtain ⟨hdone, harmed⟩ := Dev.chStep_arms h6 (s.dev.g (Reg.PWM_PER_ACT_PER ((s.dev.lgMembers n).headD n)))
    (s.dev.g (Reg.PWM_PER_ACT_PER ((s.dev.lgMembers n).headD n))) hon' (hbefore.pch ▸ htrip) ((Dev.armWhy_bar hbar hbefore.conds).trans hwhy)
  refine ⟨?_, fun m hm hchop => ?_⟩
  · rw [Dev.on, hafter.field hctl]
    exact hdone
  · rw [Dev.isArmed, hafter.field hleg]
    exact harmed m hm ((Dev.isChop_bar hbar c m).trans hchop)

/-- A commit that the pair guard holds. -/
theorem boundaryHolds (hcommit : ∃ c ∈ s.dev.lgMembers n, s.dev.on (Reg.PWM_CH_CTL_COMMIT c) = true)
    (hguard : ∃ c ∈ s.dev.lgMembers n, s.dev.guardHolds c (s.dev.g (Reg.PWM_PER_SH_PER ((s.dev.lgMembers n).headD 0))) = true)
    (hidle : ∀ c ∈ s.dev.lgMembers n, s.dev.g (Reg.PWM_CH_STAT_HOLD_CNT c) < 16 ∧ s.dev.on (Reg.PWM_CH_CTL_ARM c) = false) :
    Does s (.periodBoundary n) (fun t => ∀ c ∈ s.dev.lgMembers n,
      t.g (Reg.PWM_CNT_COUNT c) = 0 ∧ t.on (Reg.PWM_CH_STAT_PAIR_HOLD c) = true ∧ t.on (Reg.PWM_CH_CTL_COMMIT c) = s.dev.on (Reg.PWM_CH_CTL_COMMIT c) ∧
      t.g (Reg.PWM_CH_STAT_HOLD_CNT c) = s.dev.g (Reg.PWM_CH_STAT_HOLD_CNT c) + 1 ∧
      t.g (Reg.PWM_PER_ACT_PER c) = s.dev.g (Reg.PWM_PER_ACT_PER c) ∧
      ∀ m < 6, t.g (Reg.PWM_CMP_ACT_CMP c m) = s.dev.g (Reg.PWM_CMP_ACT_CMP c m)) := by
  have hlt (a : Nat) (ha : a ∈ s.dev.lgMembers n) : a < 6 := Dev.lgMembers_lt hn ha
  have hturn (x : Dev) (a : Nat) (ha : a ∈ s.dev.lgMembers n) (k : Nat) (hk : a ≠ k) : Dev.besides k x (x.commitHeld a) :=
    .of_drives (x.commitHeld_drives a) (hlt a ha) hk fun _ => chKey_held
  refine boundaryDoes hl hn hoff (Dev.boundaryCommit_holds hcommit hguard fun c hc => (hidle c hc).1)
    (Dev.each_besides hturn s.dev fun h => absurd (hlt 6 h) (by decide)) fun c hc => ?_
  obtain ⟨x, hbefore, hafter⟩ := Dev.each_turn hturn (s.dev.lgMembers_nodup n) s.dev hc
  obtain ⟨hcnt, hoff⟩ := hidle c hc
  obtain ⟨hctl, hstat, hper, _⟩ := ownKey_regs c
  obtain ⟨hctlQ, hstatQ, hperQ⟩ := quiet_regs c
  have hx {f : RF} (hf : ownKey c f.key) : x.g f = s.dev.g f := hbefore.field (leftTo_own (hlt c hc) hf)
  have hkept {f : RF} (hf : ownKey c f.key) (hle : f.lo ≤ f.hi) (hne : f.key ≠ Reg.PWM_CH_STAT c) : (x.commitHeld c).g f = s.dev.g f :=
    ((x.commitHeld_drives c).field hle (heldShown_apart hne)).trans (hx hf)
  have hctlNe : Reg.PWM_CH_CTL c ≠ Reg.PWM_CH_STAT c := by unfold Reg.PWM_CH_CTL Reg.PWM_CH_STAT; omega
  have hperNe : Reg.PWM_PER_ACT c ≠ Reg.PWM_CH_STAT c := by unfold Reg.PWM_PER_ACT Reg.PWM_CH_STAT; omega
  obtain ⟨hpair, hcount⟩ := x.commitHeld_spec (c := c) (by rw [hx (f := Reg.PWM_CH_STAT_HOLD_CNT c) hstat]; exact hcnt)
  have hidleT := Dev.groupTurn hlt (s.dev.lgMembers_nodup n) hc hafter
    ((congrArg (· != 0) (hkept (f := Reg.PWM_CH_CTL_ARM c) hctl (Nat.le_refl 0) hctlNe)).trans hoff)
  refine ⟨(hidleT _ _).cnt, ?_, ?_, ?_, ?_, fun m hm => ?_⟩
  · rw [Dev.on, (hidleT _ _).field (f := Reg.PWM_CH_STAT_PAIR_HOLD c) hstat hstatQ]
    exact hpair
  · rw [Dev.on, (hidleT _ _).field (f := Reg.PWM_CH_CTL_COMMIT c) hctl hctlQ, hkept (f := Reg.PWM_CH_CTL_COMMIT c) hctl (Nat.le_refl 4) hctlNe]
    rfl
  · rw [(hidleT _ _).field (f := Reg.PWM_CH_STAT_HOLD_CNT c) hstat hstatQ, hcount, hx (f := Reg.PWM_CH_STAT_HOLD_CNT c) hstat]
  · rw [(hidleT _ _).field (f := Reg.PWM_PER_ACT_PER c) hper hperQ, hkept (f := Reg.PWM_PER_ACT_PER c) hper (Nat.zero_le _) hperNe]
  · rw [(hidleT _ _).field (f := Reg.PWM_CMP_ACT_CMP c m) (ownKey_cmp c hm).1 (quiet_cmp c hm),
      hkept (f := Reg.PWM_CMP_ACT_CMP c m) (ownKey_cmp c hm).1 (Nat.zero_le _)]
    show Reg.PWM_CMP_ACT c m ≠ Reg.PWM_CH_STAT c
    unfold Reg.PWM_CMP_ACT Reg.PWM_CH_STAT
    omega

/-- A commit that moves the shadows. -/
theorem boundaryMoves (harm : ∀ c ∈ s.dev.lgMembers n, s.dev.on (Reg.PWM_CH_CTL_ARM c) = false)
    (hcommit : ∃ c ∈ s.dev.lgMembers n, s.dev.on (Reg.PWM_CH_CTL_COMMIT c) = true) {per : Nat}
    (hper : per = s.dev.g (Reg.PWM_PER_SH_PER ((s.dev.lgMembers n).headD 0)))
    (hfree : ∀ c ∈ s.dev.lgMembers n, s.dev.guardHolds c per = false) : Does s (.periodBoundary n) (fun t => (∀ c ∈ s.dev.lgMembers n,
      t.g (Reg.PWM_CNT_COUNT c) = 0 ∧ t.g (Reg.PWM_PER_ACT_PER c) = per ∧ (t.pch c).len = per ∧ t.on (Reg.PWM_CH_CTL_COMMIT c) = false ∧
      t.g (Reg.PWM_CH_STAT_HOLD_CNT c) = 0 ∧ (∀ k < 4, t.word (Reg.PWM_TRIG_ACT c k) = s.dev.word (Reg.PWM_TRIG_SH c k)) ∧
      (∀ m < 6, t.g (Reg.PWM_CMP_ACT_CMP c m) = (if s.dev.on (Reg.PWM_CMP_SH_FMT c m)
          then dutyTicks (s.dev.g (Reg.PWM_CMP_SH_CMP c m) % 2 ^ 24) per else s.dev.g (Reg.PWM_CMP_SH_CMP c m)) ∧
        t.isArmed c m = s.dev.isArmed c m) ∧
      (s.dev.g (Reg.PWM_CH_CFG_MASK_SRC c) = 0 → t.word (Reg.PWM_MASK_ACT c) = s.dev.word (Reg.PWM_MASK_SH c))) ∧
      (∀ c, c ∉ s.dev.lgMembers n → t.pch c = s.dev.pch c) ∧ t.tb = s.dev.tb ∧ t.ce = s.dev.ce ∧ ∀ a, t.byte a = s.dev.byte a) := by
  have hlt (a : Nat) (ha : a ∈ s.dev.lgMembers n) : a < 6 := Dev.lgMembers_lt hn ha
  have h25 : per < 2 ^ 25 := hper ▸ Nat.mod_lt _ (Nat.two_pow_pos _)
  have hturn (x : Dev) (a : Nat) (ha : a ∈ s.dev.lgMembers n) (k : Nat) (hk : a ≠ k) : Dev.besides k x (x.transfer a per none) :=
    (x.transfer_transfers (hlt a ha) h25).besides (hlt a ha) hk
  have hmoves : s.dev.boundaryCommit (s.dev.lgMembers n) = s.dev.each (s.dev.lgMembers n) fun x c => x.transfer c per none := by
    rw [hper]
    exact Dev.boundaryCommit_moves hcommit (hper ▸ hfree)
  have hbes := fun {c : Nat} (hc : c ∉ s.dev.lgMembers n) => Dev.each_besides hturn s.dev hc
  have hdone := fun {c : Nat} (hc : c ∈ s.dev.lgMembers n) => Dev.each_turn hturn (s.dev.lgMembers_nodup n) s.dev hc
  generalize (s.dev.each (s.dev.lgMembers n) fun x c => x.transfer c per none) = d at hmoves hbes hdone
  have hmaster : d.g (Reg.PWM_PER_ACT_PER ((s.dev.lgMembers n).headD n)) = per := by
    have hmem := headD_mem (Dev.lgMembers_self (d := s.dev) hn) n
    obtain ⟨x, _, hafter⟩ := hdone hmem
    obtain ⟨_, _, hact, _⟩ := ownKey_regs ((s.dev.lgMembers n).headD n)
    rw [hafter.field (f := Reg.PWM_PER_ACT_PER _) (leftTo_own (hlt _ hmem) hact)]
    exact (x.transfer_transfers (hlt _ hmem) h25).per
  have h6 : 6 ∉ s.dev.lgMembers n := fun h => absurd (hlt 6 h) (by decide)
  refine boundaryDoes hl hn hoff hmoves (hbes h6) ?_
  rw [hmaster]
  have hsteps := fun {c : Nat} (hc : c ∉ s.dev.lgMembers n) => (hbes hc).trans (Dev.each_besides
    (fun z a ha k hk => z.chStep_besides (hlt a ha) hk per per) d hc)
  refine ⟨fun c hc => ?_, fun c hc => (hsteps hc).pch, (hsteps h6).part .tb (by decide), (hsteps h6).part .ce (by decide),
    (hsteps h6).part .mem (by decide)⟩
  obtain ⟨x, hbefore, hafter⟩ := hdone hc
  have hmoved := x.transfer_transfers (c := c) (hlt c hc) h25
  obtain ⟨hctl, hstat, hact, hleg⟩ := ownKey_regs c
  obtain ⟨hctlQ, hstatQ, hactQ⟩ := quiet_regs c
  obtain ⟨harmA, harmedA⟩ := transferShown_apart c
  have hx {k : Nat} (hk : ownKey c k) : x.word k = s.dev.word k := hbefore.word k (leftTo_own (hlt c hc) hk)
  have hxg {f : RF} (hf : ownKey c f.key) : x.g f = s.dev.g f := hbefore.field (leftTo_own (hlt c hc) hf)
  have hoffY : (x.transfer c per none).on (Reg.PWM_CH_CTL_ARM c) = false := by
    rw [Dev.on, hmoved.drives.field (Nat.le_refl 0) harmA, hxg (f := Reg.PWM_CH_CTL_ARM c) hctl]
    exact harm c hc
  have hidle := Dev.groupTurn hlt (s.dev.lgMembers_nodup n) hc hafter hoffY per per
  refine ⟨hidle.cnt, (hidle.field hact hactQ).trans hmoved.per, hidle.len, ?_, (hidle.field hstat hstatQ).trans hmoved.hold, fun k hk => ?_,
    fun m hm => ⟨?_, ?_⟩, fun hsrc => ?_⟩
  · exact (congrArg (· != 0) (hidle.field (f := Reg.PWM_CH_CTL_COMMIT c) hctl hctlQ)).trans hmoved.commit
  · rw [hidle.word (Reg.PWM_TRIG_ACT c k), hmoved.trig k hk, hx]
    · unfold ownKey Reg.PWM_TRIG_SH
      omega
    · unfold ownKey Reg.PWM_TRIG_ACT
      omega
    · unfold Reg.PWM_TRIG_ACT Reg.PWM_CNT
      omega
    · unfold Reg.PWM_TRIG_ACT Reg.PWM_LEG_STAT
      omega
  · obtain ⟨hcmp, hsh⟩ := ownKey_cmp c hm
    rw [hidle.field (f := Reg.PWM_CMP_ACT_CMP c m) hcmp (quiet_cmp c hm), hmoved.cmp m hm,
      Dev.shadowTicks_stay (d := s.dev) fun k hk => hx (hk.elim (fun h => h ▸ hcmp) fun h => h ▸ hsh)]
    rfl
  · rw [Dev.isArmed, hidle.armed, hmoved.drives.field (Nat.le_of_ble_eq_true rfl) harmedA, hxg (f := Reg.PWM_LEG_STAT_ARMED c) hleg]
    rfl
  · have hsrc' : x.g (Reg.PWM_CH_CFG_MASK_SRC c) = 0 := by
      rw [hxg (f := Reg.PWM_CH_CFG_MASK_SRC c) (by show ownKey c (Reg.PWM_CH_CFG c); unfold ownKey Reg.PWM_CH_CFG; omega), hsrc]
    rw [hidle.word (Reg.PWM_MASK_ACT c), hmoved.mask hsrc', hx]
    · unfold ownKey Reg.PWM_MASK_SH
      omega
    · unfold ownKey Reg.PWM_MASK_ACT
      omega
    · unfold Reg.PWM_MASK_ACT Reg.PWM_CNT
      omega
    · unfold Reg.PWM_MASK_ACT Reg.PWM_LEG_STAT
      omega

end

end Sys2Proof.Machine
end

section
open Sys2Proof Sys2Proof.Machine

/-- Settles O28: each member's turn leaves the other members as they are, so the clauses hold of each turn alone. -/
theorem periodBoundaries : Obligations.PeriodBoundaries := by
  intro s hl n hn ms hms per hper
  subst hms
  refine ⟨groupCommits hl hn, armStands hl hn, fun w => armRefused hl hn, fun hoff => ⟨fun harm hcommit hfree => ?_, fun hcommit hguard => ?_,
    fun hnone c hc => boundaryArms hl hn hoff hnone hc⟩⟩
  · exact boundaryMoves hl hn hoff harm hcommit hper hfree
  · exact boundaryHolds hl hn hoff hcommit (hper ▸ hguard)

end

section
/-! PROOFS. Ring frames that are discarded, held or answered (R326, R330 to R332, R335, R338, R340). -/

namespace Sys2Proof.Machine

/-! ## The ring unit -/

theorem Dev.updDrg_keeps (d : Dev) (f : Drg → Drg) : d.keeps (d.updDrg f) [] [.drg] := Dev.keeps_withDrg (by simp) (d.keeps_refl _ _)

/-- A frame sent goes to the end of the train. -/
theorem Dev.ringSend_drg (d : Dev) (typ : Nat) (dirB : Bool) (payload : List Nat) :
    (d.ringSend typ dirB payload).drg = { d.drg with tx := d.drg.tx ++ [⟨typ, dirB, payload⟩] } := rfl

theorem Dev.ringSend_keeps (d : Dev) (typ : Nat) (dirB : Bool) (payload : List Nat) : d.keeps (d.ringSend typ dirB payload) [] [.drg] :=
  d.updDrg_keeps _

/-- A ring frame that is discarded is counted, and changes nothing else. -/
def Dev.countsBad (d t : Dev) : Prop :=
  t.g Reg.DRG_CNT_CRC_ERR = satInc 65535 (d.g Reg.DRG_CNT_CRC_ERR) ∧ d.keeps t [Reg.DRG_CNT_CRC_ERR] []

/-- A saturating count of 16 bits. -/
theorem Dev.g_inc16 (d : Dev) (f : RF) (h : f.lo ≤ f.hi) (h31 : f.hi ≤ 31) (h16 : f.hi - f.lo + 1 = 16) :
    (d.inc f).g f = satInc 65535 (d.g f) := by rw [d.g_inc f h h31, h16]; rfl

theorem Dev.ringBad_counts (d : Dev) : d.countsBad d.ringBad :=
  ⟨d.g_inc16 Reg.DRG_CNT_CRC_ERR (by decide) (by decide) rfl, d.inc_keeps Reg.DRG_CNT_CRC_ERR (by decide) (by decide) List.mem_cons_self⟩

/-- A discard of a bulk message is counted and recorded. -/
theorem Dev.bulkDrop_spec (d : Dev) (chan src : Nat) : (d.bulkDrop chan src).g Reg.DRG_CNT_BULK_DROP = satInc 65535 (d.g Reg.DRG_CNT_BULK_DROP) ∧
    (d.bulkDrop chan src).raised = d.plusRecord Err.DRG_BULK_DROP [chan, src] ∧ (d.bulkDrop chan src).drg = d.drg ∧
    d.keeps (d.bulkDrop chan src) [Reg.DRG_CNT_BULK_DROP] [.raised] := by
  have hcount := d.g_inc16 Reg.DRG_CNT_BULK_DROP (by decide) (by decide) rfl
  have hkeeps : d.keeps (d.inc Reg.DRG_CNT_BULK_DROP) [Reg.DRG_CNT_BULK_DROP] [.raised] :=
    d.inc_keeps Reg.DRG_CNT_BULK_DROP (by decide) (by decide) List.mem_cons_self
  obtain ⟨hraised, _⟩ := (d.inc Reg.DRG_CNT_BULK_DROP).raise_spec Err.DRG_BULK_DROP [chan, src]
  unfold Dev.bulkDrop
  refine ⟨by rw [Dev.raise_g, hcount], hraised.trans ?_, by rw [Dev.raise_drg, Dev.inc_drg], Dev.keeps_raise (by simp) hkeeps⟩
  rw [Dev.plusRecord, Dev.record, Dev.inc_raised, Dev.inc_tb, Dev.plusRecord, Dev.record]

/-! ## Frames -/

section
variable {s : State} (hl : s.dev.live = true)
include hl

theorem badCrier (b c : Bool) (i j : Nat) (p : List Nat) : Does s (.crierReceived b c false i j p) s.dev.countsBad := by
  have he : exec (.crierReceived b c false i j p) s = execCrierReceived b c false i j p s := rfl
  refine State.does_run (he.trans (by unfold execCrierReceived; rfl)) hl ?_
  dsimp only
  rw [if_pos (.inl rfl)]
  exact s.dev.ringBad_counts

theorem badShareFrame (i j : Nat) (p : List Nat) (w : List (List Nat)) (q : List Nat) :
    Does s (.shareFrameReceived i j false p w q) s.dev.countsBad :=
  State.does_run (f := Dev.ringBad) rfl hl s.dev.ringBad_counts

theorem badTelltale (i : Nat) (p : List Nat) : Does s (.telltaleFrameReceived i false p) s.dev.countsBad :=
  State.does_run (f := Dev.ringBad) rfl hl s.dev.ringBad_counts

theorem badDelay (b : Bool) (i j k l m : Nat) : Does s (.delayFrameReceived b false i j k l m) s.dev.countsBad :=
  State.does_run (f := Dev.ringBad) rfl hl s.dev.ringBad_counts

theorem badBulk (b : Bool) (i : Nat) (p : List Nat) (hadm : s.dev.on Reg.DRG_STAT_ADMITTED = true) :
    Does s (.bulkFrameReceived b i false p) s.dev.countsBad := by
  refine State.does_run (f := fun d => if !d.on Reg.DRG_STAT_ADMITTED then d else d.ringBad) rfl hl ?_
  rw [hadm]
  exact s.dev.ringBad_counts

theorem badFrames (b c : Bool) (i j k l m : Nat) (p q : List Nat) (w : List (List Nat)) :
    ∀ x ∈ ([.crierReceived b c false i j p, .shareFrameReceived i j false p w q, .telltaleFrameReceived i false p,
      .delayFrameReceived b false i j k l m] ++ (if s.dev.on Reg.DRG_STAT_ADMITTED then [.bulkFrameReceived b i false p] else []) : List Instr),
      Does s x s.dev.countsBad := by
  intro x hx
  rcases List.mem_append.1 hx with hx | hx
  · simp only [List.mem_cons, List.not_mem_nil, or_false] at hx
    rcases hx with rfl | rfl | rfl | rfl
    · exact badCrier hl b c i j p
    · exact badShareFrame hl i j p w q
    · exact badTelltale hl i p
    · exact badDelay hl b i j k l m
  · by_cases hadm : s.dev.on Reg.DRG_STAT_ADMITTED = true
    · rw [if_pos hadm, List.mem_singleton] at hx
      exact hx ▸ badBulk hl b i p hadm
    · rw [if_neg hadm] at hx
      exact absurd hx List.not_mem_nil

end

theorem exec_shareFrame (src cyc : Nat) (stat : List Nat) (whls : List (List Nat)) (words : List Nat) (s : State) :
    exec (.shareFrameReceived src cyc true stat whls words) s = s.run fun d =>
      if src = d.me then d.idClash
      else if d.drg.inbox.any (fun f => f.src == src && f.cyc == cyc) then d
      else d.updDrg (fun r => { r with inbox := r.inbox ++ [⟨src, cyc, stat, whls, words⟩] }) := rfl

section
variable {s : State} (hl : s.dev.live = true)
include hl

theorem shareHeld {src : Nat} (cyc : Nat) (stat : List Nat) (whls : List (List Nat)) (words : List Nat) (hsrc : src ≠ s.dev.me)
    (hnew : s.dev.drg.inbox.any (fun f => f.src == src && f.cyc == cyc) = false) :
    Does s (.shareFrameReceived src cyc true stat whls words) (fun t =>
      t.drg = { s.dev.drg with inbox := s.dev.drg.inbox ++ [⟨src, cyc, stat, whls, words⟩] } ∧ s.dev.keeps t [] [.drg]) := by
  refine State.does_run (exec_shareFrame src cyc stat whls words s) hl ?_
  rw [if_neg hsrc, hnew, if_neg Bool.false_ne_true]
  exact ⟨rfl, s.dev.updDrg_keeps _⟩

theorem idClashes (cyc : Nat) (stat : List Nat) (whls : List (List Nat)) (words : List Nat) (hjoin : s.dev.on Reg.DRG_CTL_JOIN = true)
    (hadm : s.dev.on Reg.DRG_STAT_ADMITTED = false) (hclash : s.dev.on Reg.DRG_STAT_ID_CLASH = false) :
    Does s (.shareFrameReceived s.dev.me cyc true stat whls words) (fun t => t.on Reg.DRG_STAT_ID_CLASH = true ∧
      t.raised = s.dev.plusRecord Err.DRG_ID_CLASH [s.dev.me] ∧ s.dev.keeps t [Reg.DRG_STAT_ID_CLASH] [.raised]) := by
  refine State.does_run (exec_shareFrame _ cyc stat whls words s) hl ?_
  rw [if_pos rfl, Dev.idClash, hjoin, hadm, hclash, if_pos (by rfl)]
  refine ⟨?_, rfl, Dev.keeps_raise (by simp) (Dev.keeps_s (by simp) (by decide) (by decide) (s.dev.keeps_refl _ _))⟩
  rw [Dev.raise_on, Dev.on, Dev.g_s_same _ _ _ (by decide) (by decide)]
  rfl

theorem delayAsked (fine : Nat) (hadm : s.dev.on Reg.DRG_STAT_ADMITTED = true) : Does s (.delayRequest fine) (fun t =>
    t.drg.askAt = some (s.dev.tb.rt + fine) ∧ t.drg.tx = s.dev.drg.tx ++ [⟨6, false, leBytes 8 (s.dev.tb.rt + fine)⟩] ∧
      s.dev.keeps t [] [.drg]) := by
  refine State.does_run (f := fun d => if d.on Reg.DRG_STAT_ADMITTED then
    (d.updDrg (fun r => { r with askAt := some (d.tb.rt + fine) })).ringSend 6 false (leBytes 8 (d.tb.rt + fine)) else d) rfl hl ?_
  rw [if_pos hadm]
  exact ⟨rfl, rfl, Dev.keeps_trans (s.dev.updDrg_keeps _) (Dev.ringSend_keeps _ _ _ _)⟩

theorem delayAnswered (t1 t2 t3 fine val : Nat) : Does s (.delayFrameReceived false true t1 t2 t3 fine val) (fun t =>
    t.g Reg.DRG_HOP_UP = val % 65536 ∧
      t.drg.tx = s.dev.drg.tx ++ [⟨6, true, leBytes 8 t1 ++ leBytes 8 (s.dev.tb.rt + fine) ++ leBytes 8 (s.dev.tb.rt + fine)⟩] ∧
      s.dev.keeps t [Reg.DRG_HOP_UP] [.drg]) := by
  refine State.does_run (f := fun d => (d.s Reg.DRG_HOP_UP val).ringSend 6 true
    (leBytes 8 t1 ++ leBytes 8 (d.tb.rt + fine) ++ leBytes 8 (d.tb.rt + fine))) rfl hl ⟨?_, rfl, ?_⟩
  · exact s.dev.g_s_same Reg.DRG_HOP_UP val (by decide) (by decide)
  · exact Dev.keeps_withDrg (by simp) (Dev.keeps_s (by simp) (by decide) (by decide) (s.dev.keeps_refl _ _))

end

end Sys2Proof.Machine
end

section
/-! PROOFS. The hop delay that an answer gives, the copy of a share frame that comes second, bulk messages that are sent and that time out
(R331, R333 to R336, R338). -/

namespace Sys2Proof.Machine

/-! ## The hop delay -/

/-- A division that leaves nothing takes no rounding choice. -/
theorem Dev.openDiv_exact (d : Dev) {b : Int} (hb : b ≠ 0) (q : Int) : d.openDiv (q * b) b = (q, d) := by
  rw [Dev.openDiv, if_neg hb, if_pos (Int.mul_emod_left q b), Int.mul_ediv_cancel q hb]

/-- The hop delays of the last answers, and their mean in its register. -/
def Dev.hopMean (d : Dev) (hops : List Int) : Dev :=
  let d := d.updDrg (fun x => { x with hops := hops, askAt := none })
  let m := d.openDiv (hops.foldl (· + ·) 0) hops.length
  m.2.s Reg.DRG_HOP_DN (clampInt 0 65535 m.1).toNat

/-- A hop delay beyond its limit shows. -/
def Dev.hopLimit (d : Dev) (z : Int) : Dev :=
  if (32 * d.g Reg.DRG_DLY_D_MAX : Int) < z then
    (d.s Reg.DRG_STAT_HOP_LONG 1).raise Err.DRG_HOP_LONG [hopNumber false, (clampInt 0 65535 z).toNat] else d

theorem exec_delayAnswer (t1 t2 t3 fine val : Nat) (s : State) : exec (.delayFrameReceived true true t1 t2 t3 fine val) s = s.run fun d =>
    match d.drg.askAt with
    | none => d
    | some t0 =>
      let r := d.openDiv (((d.tb.rt : Int) + fine - t0) - ((t3 : Int) - t2)) 2
      ((r.2.hopMean ((r.1 :: d.drg.hops).take 8)).hopLimit r.1).planRecheck r.1 := rfl

theorem clampInt_16 {n : Nat} (h : n ≤ 65535) : (clampInt 0 65535 (n : Int)).toNat = n := by
  rw [clampInt, if_neg (by omega), if_neg (by omega), Int.toNat_natCast]

/-- One hop delay is its own mean. -/
theorem Dev.hopMean_one (d : Dev) {dly : Nat} (h : dly ≤ 65535) : (d.hopMean [(dly : Int)]).g Reg.DRG_HOP_DN = dly ∧
    (d.hopMean [(dly : Int)]).drg = { d.drg with hops := [(dly : Int)], askAt := none } ∧
    d.keeps (d.hopMean [(dly : Int)]) [Reg.DRG_HOP_DN] [.drg] := by
  have hmean (x : Dev) : x.openDiv ([(dly : Int)].foldl (· + ·) 0) ([(dly : Int)].length : Nat) = ((dly : Int), x) := by
    simpa using x.openDiv_exact (b := 1) (by decide) dly
  unfold Dev.hopMean
  dsimp only
  rw [hmean]
  dsimp only
  rw [clampInt_16 h, Dev.s_drg]
  refine ⟨(Dev.g_s_same _ Reg.DRG_HOP_DN _ (by decide) (by decide)).trans (Nat.mod_eq_of_lt (Nat.lt_succ_of_le h)), rfl, ?_⟩
  exact Dev.keeps_s (by simp) (by decide) (by decide) (d.updDrg_keeps _ |> fun k => Dev.keeps_mono k (by simp) (by simp))

theorem Dev.hopLimit_within (d : Dev) {dly : Nat} (h : dly ≤ 32 * d.g Reg.DRG_DLY_D_MAX) : d.hopLimit dly = d := by
  rw [Dev.hopLimit, if_neg (by omega)]

theorem Dev.hopLimit_beyond (d : Dev) {dly : Nat} (h : 32 * d.g Reg.DRG_DLY_D_MAX < dly) (h16 : dly ≤ 65535) :
    (d.hopLimit dly).on Reg.DRG_STAT_HOP_LONG = true ∧ (d.hopLimit dly).raised = d.plusRecord Err.DRG_HOP_LONG [hopNumber false, dly] ∧
    (d.hopLimit dly).drg = d.drg ∧ d.keeps (d.hopLimit dly) [Reg.DRG_STAT_HOP_LONG] [.raised] := by
  obtain ⟨hraised, _⟩ := (d.s Reg.DRG_STAT_HOP_LONG 1).raise_spec Err.DRG_HOP_LONG [hopNumber false, dly]
  rw [Dev.hopLimit, if_pos (by omega), clampInt_16 h16]
  refine ⟨?_, hraised.trans ?_, ?_, Dev.keeps_raise (by simp) (Dev.keeps_s (by simp) (by decide) (by decide) (d.keeps_refl _ _))⟩
  · rw [Dev.raise_on, Dev.on, Dev.g_s_same _ Reg.DRG_STAT_HOP_LONG _ (by decide) (by decide)]
    rfl
  · rw [Dev.plusRecord, Dev.record, Dev.s_raised, Dev.s_tb, Dev.plusRecord, Dev.record]
  · rw [Dev.raise_drg, Dev.s_drg]

theorem Dev.planRecheck_idle (d : Dev) (z : Int) (h : d.drg.sending = false) : d.planRecheck z = d := by
  rw [Dev.planRecheck, h, if_neg fun h => Bool.false_ne_true h.1]

section
variable {s : State} (hl : s.dev.live = true)
include hl

theorem delayMeasured (t1 : Nat) {t0 t2 t3 fine : Nat} (val : Nat) {dly : Nat} (hask : s.dev.drg.askAt = some t0) (hhops : s.dev.drg.hops = [])
    (hdly : dly ≤ 65535) (hsend : s.dev.drg.sending = false)
    (htwice : ((s.dev.tb.rt + fine : Nat) : Int) - t0 - ((t3 : Int) - t2) = 2 * dly) :
    Does s (.delayFrameReceived true true t1 t2 t3 fine val) (fun t => t.g Reg.DRG_HOP_DN = dly ∧ t.drg.askAt = none ∧
      t.drg.hops = [(dly : Int)] ∧ (dly ≤ 32 * s.dev.g Reg.DRG_DLY_D_MAX → s.dev.keeps t [Reg.DRG_HOP_DN] [.drg]) ∧
      (32 * s.dev.g Reg.DRG_DLY_D_MAX < dly → t.on Reg.DRG_STAT_HOP_LONG = true ∧
        t.raised = s.dev.plusRecord Err.DRG_HOP_LONG [hopNumber false, dly] ∧
        s.dev.keeps t [Reg.DRG_HOP_DN, Reg.DRG_STAT_HOP_LONG] [.drg, .raised])) := by
  have hround : ((s.dev.tb.rt : Int) + fine - t0) - ((t3 : Int) - t2) = dly * 2 := by push_cast at htwice; omega
  obtain ⟨hdn, hdrg, hkeeps⟩ := s.dev.hopMean_one hdly
  have hmax : (s.dev.hopMean [(dly : Int)]).g Reg.DRG_DLY_D_MAX = s.dev.g Reg.DRG_DLY_D_MAX :=
    hkeeps.1 _ (by decide) (by simp only [List.mem_singleton, forall_eq]; exact .inl (by decide))
  refine State.does_run (exec_delayAnswer t1 t2 t3 fine val s) hl ?_
  rw [hask]
  dsimp only
  rw [hround, Dev.openDiv_exact _ (by decide), hhops]
  dsimp only [List.take]
  by_cases hlong : 32 * s.dev.g Reg.DRG_DLY_D_MAX < dly
  · obtain ⟨hon, hraised, hdrg', hkeeps'⟩ := (s.dev.hopMean [(dly : Int)]).hopLimit_beyond (hmax ▸ hlong) hdly
    rw [Dev.planRecheck_idle _ _ (by rw [hdrg', hdrg]; exact hsend), hdrg', hdrg]
    have hbase : s.dev.plusRecord = (s.dev.hopMean [(dly : Int)]).plusRecord := by
      have h1 : (s.dev.hopMean [(dly : Int)]).raised = s.dev.raised := hkeeps.2 .raised (by decide)
      have h2 : (s.dev.hopMean [(dly : Int)]).tb = s.dev.tb := hkeeps.2 .tb (by decide)
      funext c l
      rw [Dev.plusRecord, Dev.record, Dev.plusRecord, Dev.record, h1, h2]
    refine ⟨?_, rfl, rfl, fun h => absurd hlong (by omega), fun _ => ⟨hon, hbase ▸ hraised, ?_⟩⟩
    · refine (hkeeps'.1 _ (by decide) ?_).trans hdn
      simp only [List.mem_singleton, forall_eq]
      exact .inl (by decide)
    · exact Dev.keeps_trans (Dev.keeps_mono hkeeps (by simp) (by simp)) (Dev.keeps_mono hkeeps' (by simp) (by simp))
  · rw [Dev.hopLimit_within _ (by omega), Dev.planRecheck_idle _ _ (by rw [hdrg]; exact hsend), hdrg]
    exact ⟨hdn, rfl, rfl, fun _ => hkeeps, fun h => absurd h hlong⟩

/-! ## The second copy of a share frame -/

omit hl in
theorem shareCopyDropped {src cyc : Nat} (stat : List Nat) (whls : List (List Nat)) (words : List Nat) (hsrc : src ≠ s.dev.me)
    (hheld : s.dev.drg.inbox.any (fun f => f.src == src && f.cyc == cyc) = true) :
    exec (.shareFrameReceived src cyc true stat whls words) s = .next s := by
  rw [exec_shareFrame]
  refine State.run_self ?_
  rw [if_neg hsrc, if_pos hheld]

/-! ## Bulk messages out, and out of time -/

theorem bulkTimesOut {src ch : Nat} {m : BulkIn} (hm : m ∈ s.dev.drg.bulkIn) (hsrc : m.src = src) (hch : m.chan = ch)
    (hlate : m.cyc + 64 ≤ s.dev.drg.cycNow) : Does s (.bulkMessageTimeout src ch) (fun t =>
      m ∉ t.drg.bulkIn ∧ t.g Reg.DRG_CNT_BULK_DROP = satInc 65535 (s.dev.g Reg.DRG_CNT_BULK_DROP) ∧
      t.raised = s.dev.plusRecord Err.DRG_BULK_DROP [ch, src] ∧ s.dev.keeps t [Reg.DRG_CNT_BULK_DROP] [.drg, .raised]) := by
  have he : exec (.bulkMessageTimeout src ch) s = execBulkMessageTimeout src ch s := rfl
  refine State.does_run (he.trans (by unfold execBulkMessageTimeout; rfl)) hl ?_
  dsimp only
  have hsel : (m.src == src && m.chan == ch && decide (m.cyc + 64 ≤ s.dev.drg.cycNow)) = true := by simp [hsrc, hch, hlate]
  rw [if_pos (List.any_eq_true.2 ⟨m, hm, hsel⟩)]
  obtain ⟨hcount, hraised, hdrg, hkeeps⟩ := Dev.bulkDrop_spec (s.dev.updDrg (fun r =>
    { r with bulkIn := r.bulkIn.filter fun m => !(m.src == src && m.chan == ch && decide (m.cyc + 64 ≤ s.dev.drg.cycNow)) })) ch src
  refine ⟨?_, hcount, hraised, Dev.keeps_trans (Dev.keeps_mono (s.dev.updDrg_keeps _) (by simp) (by simp)) (Dev.keeps_mono hkeeps (by simp) (by simp))⟩
  rw [hdrg]
  intro hstays
  have := (List.mem_filter.1 hstays).2
  rw [hsel] at this
  exact Bool.false_ne_true this

theorem bulkSends {m : BulkOut} {rest : List BulkOut} (hout : s.dev.drg.bulkOut = m :: rest) (hadm : s.dev.on Reg.DRG_STAT_ADMITTED = true)
    (hfwd : s.dev.drg.fwd = [0, 0]) (hdue : 22 + ((m.data.drop m.ofs).take 1016).length + 64 ≤ s.dev.crierDue) :
    Does s .bulkFrameSend (fun t => t.drg = { s.dev.drg with
        bulkOut := if m.data.length ≤ m.ofs + 1016 then rest else { m with ofs := m.ofs + 1016 } :: rest
        tx := s.dev.drg.tx ++ [⟨5, s.dev.on Reg.DRG_STAT_WRAP_DN, [m.chan, m.dest + 16 * b2n m.bcast] ++ leBytes 2 m.msg ++ leBytes 2 m.ofs ++
          leBytes 2 m.data.length ++ (m.data.drop m.ofs).take 1016⟩] } ∧ s.dev.keeps t [] [.drg]) := by
  have he : exec .bulkFrameSend s = execBulkFrameSend s := rfl
  refine State.does_run (he.trans (by unfold execBulkFrameSend; rfl)) hl ?_
  rw [hout]
  dsimp only
  have hmay : (s.dev.on Reg.DRG_STAT_ADMITTED && s.dev.drg.fwd == [0, 0] &&
      decide (14 + 8 + ((m.data.drop m.ofs).take 1016).length + 64 ≤ s.dev.crierDue)) = true := by
    rw [hadm, hfwd, decide_eq_true hdue]
    rfl
  rw [if_pos hmay]
  refine ⟨?_, Dev.keeps_trans (s.dev.updDrg_keeps _) (Dev.ringSend_keeps _ _ _ _)⟩
  rw [Dev.ringSend_drg]
  by_cases hdone : m.data.length ≤ m.ofs + 1016
  · rw [decide_eq_true hdone, if_pos rfl, if_pos hdone]
    rfl
  · rw [decide_eq_false hdone, if_neg Bool.false_ne_true, if_neg hdone]
    rfl

end

end Sys2Proof.Machine
end

section
/-! PROOFS. A bulk frame of the ring: discarded at its source, passed on, and a message for firmware in the ring-message buffer (R333 to
R335). -/

namespace Sys2Proof.Machine

/-! ## Bytes and words -/

theorem leBytes_two (v : Nat) : leBytes 2 v = [v % 256, v / 256 % 256] := by simp [leBytes, List.range_succ]

theorem leVal_leBytes_two {v : Nat} (h : v < 65536) : leVal (leBytes 2 v) = v := by
  rw [leBytes_two]
  simp only [leVal]
  omega

theorem Dev.mem32_congr {d t : Dev} {k : Nat} (h : ∀ i < 4, t.byte (k + i) = d.byte (k + i)) : t.mem32 k = d.mem32 k := by
  rw [Dev.mem32, Dev.mem32, Dev.bytes, Dev.bytes, List.map_congr_left fun i hi => h i (List.mem_range.1 hi)]

/-- A word written reads as written. -/
theorem Dev.mem32_setMem32 (d : Dev) (k : Nat) {v : Nat} (hv : v < 2 ^ 32) : (d.setMem32 k v).mem32 k = v := by
  have hbyte : ∀ i ∈ List.range 4, (d.setMem32 k v).byte (k + i) = v / 256 ^ i % 256 := by
    intro i hi
    have hi' : i < 4 := List.mem_range.1 hi
    rw [Dev.setMem32, Dev.byte_setBytes_inside _ _ _ _ (by simpa using hi'), leBytes_getD v hi', Nat.mod_mod]
  rw [Dev.mem32, Dev.bytes, List.map_congr_left hbyte]
  simp only [List.range_succ, List.range_zero, List.nil_append, List.cons_append, List.map_cons, List.map_nil, leVal]
  omega

/-! ## The ring-message buffer -/

/-- The bytes of a message after its header word, filled to whole words. -/
def paddedTo (msg : List Nat) : List Nat := msg ++ List.replicate ((msg.length + 3) / 4 * 4 - msg.length) 0

theorem paddedTo_length (msg : List Nat) : (paddedTo msg).length = (msg.length + 3) / 4 * 4 := by
  rw [paddedTo, List.length_append, List.length_replicate]
  omega

theorem paddedTo_getD {msg : List Nat} {i : Nat} (h : i < msg.length) : (paddedTo msg).getD i 0 = msg.getD i 0 := by
  rw [paddedTo, List.getD_append _ _ _ _ h]

/-- The record of a message that fits before the end of the buffer (R335). -/
def Dev.rrxRecord (d : Dev) (src : Nat) (bcast : Bool) (msg : List Nat) : Dev :=
  (d.setMem32 (d.word Reg.RRX_ADDR + d.g Reg.RRX_PUT_PUT) (src + 16 * b2n bcast + msg.length * 65536)).setBytes
    (d.word Reg.RRX_ADDR + d.g Reg.RRX_PUT_PUT + 4) (paddedTo msg)

theorem Dev.rrxPut_fits (d : Dev) {src : Nat} {bcast : Bool} {msg : List Nat} {put get size need : Nat} (hput : put = d.g Reg.RRX_PUT_PUT)
    (hget : get = d.g Reg.RRX_GET_GET) (hsize : size = d.g Reg.RRX_CFG_SIZE) (hneed : need = 4 + (msg.length + 3) / 4 * 4)
    (hen : d.on Reg.RRX_CFG_EN = true) (horder : get ≤ put) (hend : put + need ≤ size) (hroom : need + 4 ≤ size - put + get) :
    d.rrxPut src bcast msg = (d.rrxRecord src bcast msg).s Reg.RRX_PUT_PUT (if put + need = size then 0 else put + need) := by
  unfold Dev.rrxPut
  dsimp only
  rw [hen, ← hput, ← hget, ← hsize, ← hneed, decide_eq_false (by omega : ¬ size < put + need), if_neg (by omega : ¬ put < get)]
  simp only [Bool.not_true, Bool.not_false, Bool.false_eq_true, if_false, Bool.true_or, Bool.and_true, Bool.false_or, decide_eq_true hroom]
  rw [Dev.rrxRecord, ← hput]
  rfl

theorem Dev.rrxRecord_keeps (d : Dev) (src : Nat) (bcast : Bool) (msg : List Nat) : d.keeps (d.rrxRecord src bcast msg) [] [.mem] :=
  Dev.keeps_trans (d.setBytes_keeps _ _) (Dev.setBytes_keeps _ _ _)

theorem Dev.rrxRecord_spec (d : Dev) {src : Nat} {msg : List Nat} (hsrc : src < 16) (hlen : msg.length < 65536) (hbytes : ∀ b ∈ msg, b < 256)
    {base put : Nat} (hbase : base = d.word Reg.RRX_ADDR) (hput : put = d.g Reg.RRX_PUT_PUT) :
    (d.rrxRecord src false msg).mem32 (base + put) = src + msg.length * 65536 ∧
    (∀ i < msg.length, (d.rrxRecord src false msg).byte (base + put + 4 + i) = msg.getD i 0) ∧
    ∀ a, (a < base + put ∨ base + put + (4 + (msg.length + 3) / 4 * 4) ≤ a) → (d.rrxRecord src false msg).byte a = d.byte a := by
  subst hbase hput
  refine ⟨?_, fun i hi => ?_, fun a ha => ?_⟩
  · refine (Dev.mem32_congr fun i hi => Dev.byte_setBytes_outside _ _ _ _ (by omega)).trans ((d.mem32_setMem32 _ ?_).trans ?_)
    · simp only [b2n]
      split <;> omega
    · simp [b2n]
  · rw [Dev.rrxRecord, Dev.byte_setBytes_inside _ _ _ _ (by rw [paddedTo_length]; omega), paddedTo_getD hi]
    refine Nat.mod_eq_of_lt (hbytes _ ?_)
    rw [List.getD_eq_getElem _ _ hi]
    exact List.getElem_mem hi
  · rw [Dev.rrxRecord, Dev.byte_setBytes_outside _ _ _ _ (by rw [paddedTo_length]; omega), Dev.setMem32,
      Dev.byte_setBytes_outside _ _ _ _ (by rw [leBytes_length]; omega)]

/-! ## A message in one fragment -/

/-- One step of the search for the bytes of a message: the fragment at their end is put to them. -/
def BulkIn.nextBytes (m : BulkIn) (r : List Nat) : List Nat :=
  match m.got.find? (fun g => g.1 == r.length) with
  | some g => if r.length < m.mlen then r ++ g.2 else r
  | none => r

theorem BulkIn.whole_eq (m : BulkIn) : m.whole =
    if ((List.range 5).foldl (fun a _ => m.nextBytes a) []).length = m.mlen then some ((List.range 5).foldl (fun a _ => m.nextBytes a) []) else none := rfl

theorem BulkIn.nextBytes_full (m : BulkIn) {r : List Nat} (h : r.length = m.mlen) : m.nextBytes r = r := by
  unfold BulkIn.nextBytes
  split
  · rw [if_neg (by omega)]
  · rfl

theorem BulkIn.bytes_full (m : BulkIn) {r : List Nat} (h : r.length = m.mlen) (l : List Nat) : l.foldl (fun a _ => m.nextBytes a) r = r := by
  induction l with
  | nil => rfl
  | cons _ l ih => rw [List.foldl_cons, m.nextBytes_full h, ih]

/-- A fragment that is the whole message. -/
theorem BulkIn.whole_one (src chan msg cyc : Nat) (bcast : Bool) (frag : List Nat) :
    (⟨src, chan, msg, frag.length, cyc, bcast, [(0, frag)]⟩ : BulkIn).whole = some frag := by
  have hfirst : (⟨src, chan, msg, frag.length, cyc, bcast, [(0, frag)]⟩ : BulkIn).nextBytes [] = frag := by
    cases frag <;> rfl
  rw [BulkIn.whole_eq, show List.range 5 = 0 :: [1, 2, 3, 4] by decide, List.foldl_cons, hfirst, BulkIn.bytes_full _ rfl, if_pos rfl]

theorem Dev.bulkTake_one (d : Dev) {src : Nat} {frag : List Nat} (msg : Nat)
    (hnone : d.drg.bulkIn.any (fun m => m.src == src && m.chan == 2) = false) :
    d.bulkTake src 2 msg 0 frag.length false frag = (some frag, d) := by
  have hfind : d.drg.bulkIn.find? (fun m => m.src == src && m.chan == 2) = none := by
    rw [List.find?_eq_none]
    intro m hm hmine
    exact Bool.false_ne_true (hnone.symm.trans (List.any_eq_true.2 ⟨m, hm, hmine⟩))
  have hrest : d.drg.bulkIn.filter (fun m => !(m.src == src && m.chan == 2)) = d.drg.bulkIn := by
    rw [List.filter_eq_self]
    intro m hm
    rw [Bool.not_eq_true', ← Bool.not_eq_true]
    exact fun hmine => Bool.false_ne_true (hnone.symm.trans (List.any_eq_true.2 ⟨m, hm, hmine⟩))
  unfold Dev.bulkTake
  simp only [hfind, Dev.when, Bool.false_eq_true, if_false, List.nil_append, BulkIn.whole_one, hrest]
  rfl

/-! ## A frame -/

/-- The payload of a bulk frame (R334). -/
def bulkPayload (ch flags msg fofs mlen : Nat) (frag : List Nat) : List Nat :=
  [ch, flags] ++ leBytes 2 msg ++ leBytes 2 fofs ++ leBytes 2 mlen ++ frag

theorem bulkPayload_parts (ch flags : Nat) {msg fofs mlen : Nat} (frag : List Nat) (hmsg : msg < 65536) (hfofs : fofs < 65536) (hmlen : mlen < 65536)
    {pl : List Nat} (hpl : pl = bulkPayload ch flags msg fofs mlen frag) : pl.getD 0 0 = ch ∧ pl.getD 1 0 = flags ∧
      leVal ((pl.drop 2).take 2) = msg ∧ leVal ((pl.drop 4).take 2) = fofs ∧ leVal ((pl.drop 6).take 2) = mlen ∧ pl.drop 8 = frag ∧
      pl.length = 8 + frag.length := by
  subst hpl
  refine ⟨rfl, rfl, leVal_leBytes_two hmsg, leVal_leBytes_two hfofs, leVal_leBytes_two hmlen, rfl, ?_⟩
  simp only [bulkPayload, List.length_append, leBytes_length, List.length_cons, List.length_nil]

/-- What an admitted node does with a good bulk frame of another node, of a known channel and within its message. -/
def Dev.bulkArrives (d : Dev) (dirB : Bool) (src ch flags msg fofs mlen : Nat) (frag : List Nat) : Dev :=
  let e := if flags.testBit 4 || flags % 16 != d.me then d.bulkForward dirB ch src (22 + frag.length) else d
  if flags.testBit 4 || flags % 16 == d.me then
    let r := e.bulkTake src ch msg fofs mlen (flags.testBit 4) frag
    match r.1 with
    | some m => r.2.bulkDeliver src ch (flags.testBit 4) m
    | none => r.2
  else e

theorem Dev.me_lt (d : Dev) : d.me < 16 := Nat.mod_lt _ (by decide)

section
variable {s : State} {src : Nat} (hadm : s.dev.on Reg.DRG_STAT_ADMITTED = true) (hsrc : src < 16)
include hadm hsrc

theorem exec_bulkFrame_own (dirB : Bool) (pl : List Nat) (hown : src = s.dev.me) : exec (.bulkFrameReceived dirB src true pl) s = .next s := by
  have he : exec (.bulkFrameReceived dirB src true pl) s = execBulkFrameReceived dirB src true pl s := rfl
  rw [he, execBulkFrameReceived]
  refine State.run_self ?_
  rw [hadm, if_neg (by decide), if_neg (by decide), if_pos (by rw [← hown, Nat.mod_eq_of_lt hsrc])]

theorem exec_bulkFrame_other (dirB : Bool) {ch flags msg fofs mlen : Nat} {frag pl : List Nat} (hother : src ≠ s.dev.me) (hch : ch = 1 ∨ ch = 2)
    (hmsg : msg < 65536) (hfofs : fofs < 65536) (hmlen : mlen < 65536) (hin : fofs + frag.length ≤ mlen)
    (hpl : pl = bulkPayload ch flags msg fofs mlen frag) : ∃ f, exec (.bulkFrameReceived dirB src true pl) s = s.run f ∧
      f s.dev = s.dev.bulkArrives dirB src ch flags msg fofs mlen frag := by
  obtain ⟨h0, h1, h2, h4, h6, h8, hlen⟩ := bulkPayload_parts ch flags frag hmsg hfofs hmlen hpl
  have he : exec (.bulkFrameReceived dirB src true pl) s = execBulkFrameReceived dirB src true pl s := rfl
  refine ⟨_, he.trans (by unfold execBulkFrameReceived; rfl), ?_⟩
  have hch' : ch % 16 = ch := by omega
  rw [hadm, if_neg (by decide), if_neg (by decide), Nat.mod_eq_of_lt hsrc, if_neg hother]
  dsimp only
  rw [h0, h1, h2, h4, h6, h8, hlen, hch', if_neg (by omega), show 14 + (8 + frag.length) = 22 + frag.length by omega]
  rfl

theorem bulkPasses (dirB : Bool) {ch flags msg fofs mlen : Nat} {frag pl : List Nat} (hother : src ≠ s.dev.me) (hch : ch = 1 ∨ ch = 2)
    (hmsg : msg < 65536) (hfofs : fofs < 65536) (hmlen : mlen < 65536) (hin : fofs + frag.length ≤ mlen)
    (hpl : pl = bulkPayload ch flags msg fofs mlen frag) (hflags : flags < 16) (hdest : flags ≠ s.dev.me)
    (hfree : s.dev.drg.fwd.getD (b2n dirB) 0 = 0) (hdue : 22 + frag.length + 64 ≤ s.dev.crierDue) :
    exec (.bulkFrameReceived dirB src true pl) s = .next s := by
  obtain ⟨f, he, hf⟩ := exec_bulkFrame_other hadm hsrc dirB hother hch hmsg hfofs hmlen hin hpl
  have hforward : s.dev.bulkForward dirB ch src (22 + frag.length) = s.dev := by
    rw [Dev.bulkForward, if_pos ⟨hdue, hfree⟩]
  have hne : (flags == s.dev.me) = false := beq_false_of_ne hdest
  rw [he]
  refine State.run_self (hf.trans ?_)
  unfold Dev.bulkArrives
  dsimp only
  rw [Nat.testBit_lt_two_pow (i := 4) hflags, Nat.mod_eq_of_lt hflags, bne, hne, if_neg (by decide), if_pos (by rfl), hforward]

theorem bulkTaken (hl : s.dev.live = true) (dirB : Bool) {flags msg mlen : Nat} {frag pl : List Nat} (hother : src ≠ s.dev.me) (hmsg : msg < 65536)
    (hmlen : mlen < 65536) (hpl : pl = bulkPayload 2 flags msg 0 mlen frag) (hdest : flags = s.dev.me) (hall : frag.length = mlen)
    (hbytes : ∀ b ∈ frag, b < 256) (hnone : s.dev.drg.bulkIn.any (fun m => m.src == src && m.chan == 2) = false) {put get size base need : Nat}
    (hput : put = s.dev.g Reg.RRX_PUT_PUT) (hget : get = s.dev.g Reg.RRX_GET_GET) (hsize : size = s.dev.g Reg.RRX_CFG_SIZE)
    (hbase : base = s.dev.word Reg.RRX_ADDR) (hneed : need = 4 + (mlen + 3) / 4 * 4) (hen : s.dev.on Reg.RRX_CFG_EN = true) (horder : get ≤ put)
    (hend : put + need ≤ size) (hroom : need + 4 ≤ size - put + get) :
    Does s (.bulkFrameReceived dirB src true pl) (fun t => t.mem32 (base + put) = src + mlen * 65536 ∧
      (∀ i < mlen, t.byte (base + put + 4 + i) = frag.getD i 0) ∧ t.g Reg.RRX_PUT_PUT = (if put + need = size then 0 else put + need) ∧
      (∀ a, (a < base + put ∨ base + put + need ≤ a) → t.byte a = s.dev.byte a) ∧ s.dev.keeps t [Reg.RRX_PUT_PUT] [.mem]) := by
  obtain ⟨f, he, hf⟩ := exec_bulkFrame_other hadm hsrc dirB hother (.inr rfl) hmsg (by decide) hmlen (by omega) hpl
  have hflags : flags < 16 := hdest ▸ s.dev.me_lt
  have hself : (flags == s.dev.me) = true := beq_iff_eq.2 hdest
  refine State.does_run he hl ?_
  subst hall
  obtain ⟨hword, hdata, hrest⟩ := s.dev.rrxRecord_spec hsrc hmlen hbytes hbase hput
  have hsize16 : size < 2 ^ 16 := hsize ▸ Nat.mod_lt _ (by decide)
  rw [hf]
  unfold Dev.bulkArrives
  dsimp only
  rw [Nat.testBit_lt_two_pow (i := 4) hflags, Nat.mod_eq_of_lt hflags, bne, hself, if_pos (by rfl), if_neg (by decide), s.dev.bulkTake_one msg hnone]
  dsimp only
  rw [Dev.bulkDeliver, if_neg (by decide), s.dev.rrxPut_fits hput hget hsize hneed hen horder hend hroom]
  refine ⟨?_, hdata, ?_, ?_, Dev.keeps_s (by simp) (by decide) (by decide) (Dev.keeps_mono (Dev.rrxRecord_keeps _ _ _ _) (by simp) (by simp))⟩
  · exact (Dev.mem32_congr fun _ _ => rfl).trans hword
  · rw [Dev.g_s_same _ Reg.RRX_PUT_PUT _ (by decide) (by decide)]
    refine Nat.mod_eq_of_lt ?_
    change _ < 2 ^ 16
    split <;> omega
  · exact fun a ha => hrest a (by omega)

end

end Sys2Proof.Machine
end

section
/-! PROOFS. A Crier received: passed on, and its discipline of RT64 (R46, R326, R328, R329, R339). -/

namespace Sys2Proof.Machine

/-! ## Fields beside those that change -/

/-- Whether a field is apart from all of a list, as a computation. -/
def RF.clear (r : RF) (fs : List RF) : Bool :=
  r.lo.ble r.hi && fs.all fun f => r.key != f.key || f.hi.blt r.lo || r.hi.blt f.lo

theorem Dev.g_of_keeps {d t : Dev} {fs : List RF} {ps : List Part} (h : d.keeps t fs ps) {r : RF} (hr : r.clear fs = true) : t.g r = d.g r := by
  unfold RF.clear at hr
  simp only [Bool.and_eq_true, Nat.ble_eq, List.all_eq_true, Bool.or_eq_true, bne_iff_ne, Nat.blt_eq] at hr
  exact h.1 r hr.1 fun f hf => or_assoc.1 (hr.2 f hf)

theorem Dev.on_of_keeps {d t : Dev} {fs : List RF} {ps : List Part} (h : d.keeps t fs ps) {r : RF} (hr : r.clear fs = true) : t.on r = d.on r := by
  rw [Dev.on, Dev.on, Dev.g_of_keeps h hr]

/-! ## The stages of a Crier -/

/-- A Crier passed on with its correction. -/
def Dev.crierPasses (d : Dev) (dirB : Bool) (res : Nat) (p : List Nat) : Dev :=
  d.when (d.on Reg.DRG_STAT_ADMITTED) (fun d' =>
    d'.ringSend 1 dirB (p.take 8 ++ leBytes 4 (crierField p 8 4 + d.hopIn dirB + res) ++ p.drop 12))

/-- The end of a gap of cycles without a Crier. -/
def Dev.gapEnds (d : Dev) : Dev :=
  d.when (decide (0 < d.drg.gap) && d.on Reg.DRG_STAT_ADMITTED) (fun d' =>
    (d'.updDrg (fun r => { r with gap := 0 })).raise Err.DRG_CRIER_MISS [d.drg.gap])

/-- The cycle, the error and the direction of a Crier. -/
def Drg.hears (r : Drg) (dirB : Bool) (k cyc : Nat) (err : Int) : Drg :=
  let r := { r with cyc := max 1 cyc }
  if dirB then { r with lastB := some k, errB := err } else { r with lastA := some k, errA := err }

/-- What a Crier says of the master and the plan. -/
def Dev.crierSays (d : Dev) (dirB : Bool) (p : List Nat) (err : Int) : Dev :=
  ((d.updDrg fun r => r.hears dirB (crierField p 12 4) (crierField p 16 2) err).s Reg.DRG_STAT_MASTER (crierField p 20 1 % 16)).crierPlan
    (crierField p 22 1) (crierField p 23 1) (crierField p 24 4) (crierField p 28 4) (crierField p 18 2)

/-- What an admitted node does at a Crier, and what one that waits for admission does. -/
def Dev.crierActs (d : Dev) (dirB first : Bool) (p : List Nat) (err : Int) : Dev :=
  if d.on Reg.DRG_STAT_ADMITTED then
    let d := (d.updDrg (fun r => { r with handoff := crierField p 21 1 / 32 % 2 == 1 })).crierSplit
    let useB := d.on Reg.DRG_STAT_UP_DOWN || decide (0 < d.drg.missA)
    if !d.drg.sending && (if dirB then first && useB else true) then d.discipline err else d
  else if d.on Reg.DRG_CTL_JOIN && !d.on Reg.DRG_STAT_ID_CLASH && crierField p 21 1 % 32 == d.me + 16 &&
      d.drg.next.all Option.isSome && planEn ((d.drg.next.getD d.me none).getD 0) then
    d.admitNode err
  else d

theorem exec_crier (dirB wrap : Bool) (fine res : Nat) (p : List Nat) (s : State) :
    exec (.crierReceived dirB wrap true fine res p) s = s.run fun d =>
      if !true ∨ p.length ≠ 32 then d.ringBad
      else if d.drg.sending ∧ crierField p 20 1 % 16 = d.me then d
      else
        let err := d.crierErr fine (crierField p 0 8) (crierField p 8 4) (d.hopIn dirB)
        let d := d.crierPasses dirB res p
        if wrap then d
        else
          let d := (d.roleClash (crierField p 20 1 % 16)).gapEnds
          let first := d.drg.lastA != some (crierField p 12 4) && d.drg.lastB != some (crierField p 12 4)
          (d.crierSays dirB p err).crierActs dirB first p err := by
  have he : exec (.crierReceived dirB wrap true fine res p) s = execCrierReceived dirB wrap true fine res p s := rfl
  rw [he]
  rfl

/-- A good Crier of another node, on a node that sends none. -/
theorem exec_crier_good {dirB wrap : Bool} {fine res : Nat} {p : List Nat} {s : State} (hlen : p.length = 32) (hsend : s.dev.drg.sending = false) :
    ∃ f, exec (.crierReceived dirB wrap true fine res p) s = s.run f ∧ f s.dev =
      let e := s.dev.crierPasses dirB res p
      let err := s.dev.crierErr fine (crierField p 0 8) (crierField p 8 4) (s.dev.hopIn dirB)
      if wrap then e
      else
        let d := (e.roleClash (crierField p 20 1 % 16)).gapEnds
        let first := d.drg.lastA != some (crierField p 12 4) && d.drg.lastB != some (crierField p 12 4)
        (d.crierSays dirB p err).crierActs dirB first p err := by
  refine ⟨_, exec_crier dirB wrap fine res p s, ?_⟩
  rw [if_neg (by simp [hlen]), if_neg (by rw [hsend]; exact fun h => Bool.false_ne_true h.1)]

theorem Dev.crierPasses_admitted (d : Dev) (dirB : Bool) (res : Nat) (p : List Nat) (h : d.on Reg.DRG_STAT_ADMITTED = true) :
    d.crierPasses dirB res p = d.ringSend 1 dirB (p.take 8 ++ leBytes 4 (crierField p 8 4 + d.hopIn dirB + res) ++ p.drop 12) := by
  rw [Dev.crierPasses, Dev.when, if_pos h]

theorem Dev.crierPasses_out (d : Dev) (dirB : Bool) (res : Nat) (p : List Nat) (h : d.on Reg.DRG_STAT_ADMITTED = false) :
    d.crierPasses dirB res p = d := by
  rw [Dev.crierPasses, Dev.when, h, if_neg Bool.false_ne_true]

theorem Dev.roleClash_idle (d : Dev) (n : Nat) (h : d.drg.sending = false) : d.roleClash n = d := by
  rw [Dev.roleClash, h, if_neg fun h => Bool.false_ne_true h.2.1]

theorem Dev.gapEnds_out (d : Dev) (h : d.on Reg.DRG_STAT_ADMITTED = false) : d.gapEnds = d := by
  rw [Dev.gapEnds, Dev.when, h, Bool.and_false, if_neg Bool.false_ne_true]

/-- The end of a gap on an admitted node. -/
theorem Dev.gapEnds_spec (d : Dev) (h : d.on Reg.DRG_STAT_ADMITTED = true) : d.gapEnds.drg = { d.drg with gap := 0 } ∧
    (0 < d.drg.gap → d.record Err.DRG_CRIER_MISS [d.drg.gap] ∈ d.gapEnds.raised) ∧ d.keeps d.gapEnds [] [.drg, .raised] := by
  by_cases hgap : 0 < d.drg.gap
  · have hends : d.gapEnds = (d.updDrg (fun r => { r with gap := 0 })).raise Err.DRG_CRIER_MISS [d.drg.gap] := by
      rw [Dev.gapEnds, Dev.when, h, decide_eq_true hgap, if_pos (by rfl)]
    rw [hends]
    exact ⟨rfl, fun _ => List.mem_append_right _ List.mem_cons_self,
      Dev.keeps_raise (by simp) (Dev.keeps_mono (d.updDrg_keeps _) (by simp) (by simp))⟩
  · have hnone : d.gapEnds = d := by rw [Dev.gapEnds, Dev.when, decide_eq_false hgap, Bool.false_and, if_neg Bool.false_ne_true]
    rw [hnone]
    refine ⟨?_, fun h => absurd h hgap, d.keeps_refl _ _⟩
    rw [← Nat.eq_zero_of_not_pos hgap]

/-- A Crier's plan entry leaves the ring unit but for the next plan. -/
theorem Dev.crierPlan_spec (d : Dev) (ver node entry planAt done : Nat) :
    (∃ next ver' at', (d.crierPlan ver node entry planAt done).drg = { d.drg with next := next, nextVer := ver', planAt := at' }) ∧
    d.keeps (d.crierPlan ver node entry planAt done) [Reg.DRG_TIMING_SHR_DONE] [.drg] := by
  unfold Dev.crierPlan
  dsimp only
  have hpre : ∀ e : Dev, e = (if ver = d.drg.nextVer then d else
      d.updDrg (fun r => { r with next := List.replicate 16 none, nextVer := ver, planAt := none })) →
      (∃ next ver' at', e.drg = { d.drg with next := next, nextVer := ver', planAt := at' }) ∧ d.keeps e [Reg.DRG_TIMING_SHR_DONE] [.drg] := by
    intro e he
    rw [he]
    split
    · exact ⟨⟨_, _, _, rfl⟩, d.keeps_refl _ _⟩
    · exact ⟨⟨_, _, _, rfl⟩, Dev.keeps_mono (d.updDrg_keeps _) (by simp) (by simp)⟩
  obtain ⟨⟨next, ver', at', hdrg⟩, hkeeps⟩ := hpre _ rfl
  generalize (if ver = d.drg.nextVer then d else
      d.updDrg (fun r => { r with next := List.replicate 16 none, nextVer := ver, planAt := none })) = e at hdrg hkeeps ⊢
  have hput : d.keeps (e.updDrg fun r => { r with next := updAt r.next (node % 16) (fun _ => some entry) }) [Reg.DRG_TIMING_SHR_DONE] [.drg] :=
    Dev.keeps_trans hkeeps (Dev.keeps_mono (e.updDrg_keeps _) (by simp) (by simp))
  split
  · exact ⟨⟨updAt next (node % 16) (fun _ => some entry), ver', at', by rw [Dev.updDrg, hdrg]⟩, hput⟩
  · refine ⟨⟨updAt next (node % 16) (fun _ => some entry), ver', some planAt, ?_⟩, Dev.keeps_withDrg (by simp) (Dev.keeps_s (by simp) (by decide) (by decide) hput)⟩
    rw [Dev.updDrg, Dev.s_drg, Dev.updDrg, hdrg]

theorem Drg.hears_A (r : Drg) (k cyc : Nat) (err : Int) : r.hears false k cyc err = { r with cyc := max 1 cyc, lastA := some k, errA := err } := rfl

/-- What a Crier of direction A says. -/
theorem Dev.crierSays_A (d : Dev) (p : List Nat) (err : Int) :
    (∃ next ver at', (d.crierSays false p err).drg = { d.drg with
      cyc := max 1 (crierField p 16 2), lastA := some (crierField p 12 4), errA := err, next := next, nextVer := ver, planAt := at' }) ∧
    (d.crierSays false p err).g Reg.DRG_STAT_MASTER = crierField p 20 1 % 16 ∧
    d.keeps (d.crierSays false p err) [Reg.DRG_STAT_MASTER, Reg.DRG_TIMING_SHR_DONE] [.drg] := by
  unfold Dev.crierSays
  set e := (d.updDrg fun r => r.hears false (crierField p 12 4) (crierField p 16 2) err).s Reg.DRG_STAT_MASTER (crierField p 20 1 % 16) with he
  have hkeeps : d.keeps e [Reg.DRG_STAT_MASTER, Reg.DRG_TIMING_SHR_DONE] [.drg] :=
    Dev.keeps_s (by simp) (by decide) (by decide) (Dev.keeps_mono (d.updDrg_keeps _) (by simp) (by simp))
  have hmaster : e.g Reg.DRG_STAT_MASTER = crierField p 20 1 % 16 :=
    (Dev.g_s_same _ Reg.DRG_STAT_MASTER _ (by decide) (by decide)).trans (Nat.mod_mod _ _)
  obtain ⟨⟨next, ver, at', hdrg⟩, hplan⟩ := e.crierPlan_spec (crierField p 22 1) (crierField p 23 1) (crierField p 24 4) (crierField p 28 4)
    (crierField p 18 2)
  refine ⟨⟨next, ver, at', ?_⟩, (Dev.g_of_keeps hplan (by decide)).trans hmaster, Dev.keeps_trans hkeeps (Dev.keeps_mono hplan (by simp) (by simp))⟩
  rw [hdrg, he, Dev.s_drg, Dev.updDrg, Drg.hears_A]

/-- The shown difference of the two directions. -/
theorem Dev.splitMark_spec (d : Dev) (b : Bool) (l : List Nat) :
    (d.when b fun d => (d.s Reg.DRG_STAT_SPLIT 1).raise Err.DRG_TIME_SPLIT l).drg = d.drg ∧
    d.raised <+: (d.when b fun d => (d.s Reg.DRG_STAT_SPLIT 1).raise Err.DRG_TIME_SPLIT l).raised ∧
    d.keeps (d.when b fun d => (d.s Reg.DRG_STAT_SPLIT 1).raise Err.DRG_TIME_SPLIT l) [Reg.DRG_STAT_SPLIT] [.raised] := by
  unfold Dev.when
  split
  · refine ⟨by rw [Dev.raise_drg, Dev.s_drg], ?_, Dev.keeps_raise (by simp) (Dev.keeps_s (by simp) (by decide) (by decide) (d.keeps_refl _ _))⟩
    rw [((d.s Reg.DRG_STAT_SPLIT 1).raise_spec _ _).1, Dev.plusRecord, Dev.s_raised]
    exact List.prefix_append _ _
  · exact ⟨rfl, List.prefix_refl _, d.keeps_refl _ _⟩

theorem Dev.splitCount_spec (d : Dev) (v n : Nat) : ((d.s Reg.DRG_TERR_AB v).updDrg (fun r => { r with splits := n })).drg = { d.drg with splits := n } ∧
    ((d.s Reg.DRG_TERR_AB v).updDrg (fun r => { r with splits := n })).raised = d.raised ∧
    d.keeps ((d.s Reg.DRG_TERR_AB v).updDrg (fun r => { r with splits := n })) [Reg.DRG_TERR_AB] [.drg] := by
  refine ⟨by rw [Dev.updDrg, Dev.s_drg], by rw [Dev.updDrg, Dev.s_raised], ?_⟩
  exact Dev.keeps_withDrg (by simp) (Dev.keeps_s (by simp) (by decide) (by decide) (d.keeps_refl _ _))

/-- The comparison of the two directions leaves the ring unit but for its count. -/
theorem Dev.crierSplit_spec (d : Dev) : (∃ n, d.crierSplit.drg = { d.drg with splits := n }) ∧ d.raised <+: d.crierSplit.raised ∧
    d.keeps d.crierSplit [Reg.DRG_TERR_AB, Reg.DRG_STAT_SPLIT] [.drg, .raised] := by
  unfold Dev.crierSplit
  split
  · dsimp only
    generalize (if decide (16 < (d.drg.errA - d.drg.errB).natAbs) = true then d.drg.splits + 1 else 0) = n
    obtain ⟨hdrg, hraised, hkeeps⟩ := d.splitCount_spec (ofInt 16 (satInt 16 (d.drg.errA - d.drg.errB))) n
    generalize (d.s Reg.DRG_TERR_AB (ofInt 16 (satInt 16 (d.drg.errA - d.drg.errB)))).updDrg (fun r => { r with splits := n }) = e
      at hdrg hraised hkeeps ⊢
    obtain ⟨hdrg', hraised', hkeeps'⟩ := e.splitMark_spec (decide (16 ≤ n) && !e.on Reg.DRG_STAT_SPLIT) [w32 (d.drg.errA - d.drg.errB)]
    exact ⟨⟨n, hdrg'.trans hdrg⟩, hraised ▸ hraised',
      Dev.keeps_trans (Dev.keeps_mono hkeeps (by simp) (by simp)) (Dev.keeps_mono hkeeps' (by simp) (by simp))⟩
  · exact ⟨⟨d.drg.splits, rfl⟩, List.prefix_refl _, d.keeps_refl _ _⟩

/-! ## The discipline of RT64 (R46, R339) -/

/-- The count of good cycles after a Crier with an error, in a state of RT64 and after a count of bad cycles. -/
def goodAfter (st bad good : Nat) (err : Int) : Nat :=
  if st = 3 ∨ (st = 2 ∧ 8 < err.natAbs ∧ 3 ≤ bad) then (if err.natAbs ≤ 8 then 1 else 0) else if err.natAbs ≤ 8 then good + 1 else 0

/-- The counts of cycles and the rate after a Crier with an error. -/
def Dev.slewed (d : Dev) (err : Int) : Dev :=
  ({ d with tb := { d.tb with slew := -err, goodCyc := if err.natAbs ≤ 8 then d.tb.goodCyc + 1 else 0, missCyc := 0 } } : Dev).updDrg
    fun r => { r with badCyc := if err.natAbs ≤ 8 then 0 else r.badCyc + 1 }

/-- The loss of the lock. -/
def Dev.unlocks (d : Dev) (err : Int) : Dev :=
  if d.g Reg.RT_STAT_STATE = 3 ∨ (d.g Reg.RT_STAT_STATE = 2 ∧ 4 ≤ d.drg.badCyc) then
    { d.s Reg.RT_STAT_STATE 1 with tb := { d.tb with goodCyc := if err.natAbs ≤ 8 then 1 else 0 } } else d

theorem Dev.discipline_eq (d : Dev) (err : Int) :
    d.discipline err = ((d.s Reg.DRG_TERR_ERR (ofInt 16 (satInt 16 err))).slewed err).unlocks err := by
  by_cases h : err.natAbs ≤ 8
  · simp only [Dev.discipline, Dev.slewed, Dev.unlocks, h, decide_true, if_true, b2n, Dev.updDrg]
  · simp only [Dev.discipline, Dev.slewed, Dev.unlocks, h, decide_false, if_false, b2n, Dev.updDrg, Bool.false_eq_true]

theorem Dev.slewed_keeps (d : Dev) (err : Int) : d.keeps (d.slewed err) [] [.tb, .drg] :=
  Dev.keeps_trans (Dev.keeps_withTb (by simp) (d.keeps_refl _ _)) (Dev.keeps_mono (Dev.updDrg_keeps _ _) (by simp) (by simp))

theorem Dev.unlocks_spec (d : Dev) (err : Int) : (d.unlocks err).tb = { d.tb with
      goodCyc := if d.g Reg.RT_STAT_STATE = 3 ∨ (d.g Reg.RT_STAT_STATE = 2 ∧ 4 ≤ d.drg.badCyc) then (if err.natAbs ≤ 8 then 1 else 0) else d.tb.goodCyc } ∧
    d.keeps (d.unlocks err) [Reg.RT_STAT_STATE] [.tb] := by
  unfold Dev.unlocks
  split
  · exact ⟨rfl, Dev.keeps_withTb (by simp) (Dev.keeps_s (by simp) (by decide) (by decide) (d.keeps_refl _ _))⟩
  · exact ⟨rfl, d.keeps_refl _ _⟩

theorem goodAfter_eq (st bad good : Nat) (err : Int) : goodAfter st bad good err =
    if st = 3 ∨ (st = 2 ∧ 4 ≤ if err.natAbs ≤ 8 then 0 else bad + 1) then (if err.natAbs ≤ 8 then 1 else 0)
    else if err.natAbs ≤ 8 then good + 1 else 0 := by
  unfold goodAfter
  by_cases h : err.natAbs ≤ 8
  · simp [h, Nat.not_lt.2 h]
  · simp [h, Nat.not_le.1 h]

theorem Dev.discipline_spec (d : Dev) (err : Int) : (d.discipline err).tb = { d.tb with
      slew := -err, goodCyc := goodAfter (d.g Reg.RT_STAT_STATE) d.drg.badCyc d.tb.goodCyc err, missCyc := 0 } ∧
    (d.discipline err).g Reg.DRG_TERR_ERR = ofInt 16 (satInt 16 err) ∧ (∃ n, (d.discipline err).drg = { d.drg with badCyc := n }) ∧
    d.keeps (d.discipline err) [Reg.DRG_TERR_ERR, Reg.RT_STAT_STATE] [.tb, .drg] := by
  rw [Dev.discipline_eq]
  have hterr : (d.s Reg.DRG_TERR_ERR (ofInt 16 (satInt 16 err))).g Reg.DRG_TERR_ERR = ofInt 16 (satInt 16 err) :=
    (d.g_s_same Reg.DRG_TERR_ERR _ (by decide) (by decide)).trans (Nat.mod_eq_of_lt (ofInt_lt 16 _))
  have hkeeps : d.keeps (d.s Reg.DRG_TERR_ERR (ofInt 16 (satInt 16 err))) [Reg.DRG_TERR_ERR] [] :=
    Dev.keeps_s (by simp) (by decide) (by decide) (d.keeps_refl _ _)
  generalize d.s Reg.DRG_TERR_ERR (ofInt 16 (satInt 16 err)) = e at hterr hkeeps ⊢
  have htb : e.tb = d.tb := hkeeps.2 .tb (by decide)
  have hdrg : e.drg = d.drg := hkeeps.2 .drg (by decide)
  have hslew := e.slewed_keeps err
  obtain ⟨hlocks, hunlock⟩ := (e.slewed err).unlocks_spec err
  have hst : (e.slewed err).g Reg.RT_STAT_STATE = d.g Reg.RT_STAT_STATE :=
    (Dev.g_of_keeps hslew (by decide)).trans (Dev.g_of_keeps hkeeps (by decide))
  refine ⟨?_, ?_, ⟨if err.natAbs ≤ 8 then 0 else d.drg.badCyc + 1, (hunlock.2 .drg (by decide)).trans ?_⟩, ?_⟩
  · rw [hlocks, hst, goodAfter_eq, Dev.slewed, Dev.updDrg, htb, hdrg]
  · rw [Dev.g_of_keeps hunlock (by decide), Dev.g_of_keeps hslew (by decide), hterr]
  · rw [Dev.slewed, Dev.updDrg, hdrg]
  · exact Dev.keeps_trans (Dev.keeps_trans (Dev.keeps_mono hkeeps (by simp) (by simp)) (Dev.keeps_mono hslew (by simp) (by simp)))
      (Dev.keeps_mono hunlock (by simp) (by simp))

end Sys2Proof.Machine
end

section
/-! PROOFS. A Crier on an admitted node: passed on, and the discipline of RT64 (R46, R329, R339). -/

namespace Sys2Proof.Machine

/-- A Crier as a node passes it on. -/
def Dev.passedOn (d : Dev) (dirB : Bool) (res : Nat) (p : List Nat) : RingTx :=
  ⟨1, dirB, p.take 8 ++ leBytes 4 (crierField p 8 4 + d.hopIn dirB + res) ++ p.drop 12⟩

section
variable {s : State} (hl : s.dev.live = true) {p : List Nat} (hlen : p.length = 32) (hsend : s.dev.drg.sending = false)
include hl hlen hsend

theorem crierPassesOn (hadm : s.dev.on Reg.DRG_STAT_ADMITTED = true) (dirB : Bool) (fine res : Nat) :
    Does s (.crierReceived dirB true true fine res p) (fun t =>
      t.drg = { s.dev.drg with tx := s.dev.drg.tx ++ [s.dev.passedOn dirB res p] } ∧ s.dev.keeps t [] [.drg]) := by
  obtain ⟨f, he, hf⟩ := exec_crier_good (dirB := dirB) (wrap := true) (fine := fine) (res := res) hlen hsend
  refine State.does_run he hl ?_
  rw [hf]
  dsimp only
  rw [if_pos rfl, s.dev.crierPasses_admitted dirB res p hadm]
  exact ⟨rfl, s.dev.ringSend_keeps _ _ _⟩

end

theorem Dev.crierActs_admitted (d : Dev) (first : Bool) (p : List Nat) (err : Int) (hadm : d.on Reg.DRG_STAT_ADMITTED = true)
    (hsend : d.drg.sending = false) : d.crierActs false first p err =
      ((d.updDrg (fun r => { r with handoff := crierField p 21 1 / 32 % 2 == 1 })).crierSplit).discipline err := by
  obtain ⟨⟨n, hdrg⟩, _, _⟩ := (d.updDrg (fun r => { r with handoff := crierField p 21 1 / 32 % 2 == 1 })).crierSplit_spec
  have hquiet : ((d.updDrg (fun r => { r with handoff := crierField p 21 1 / 32 % 2 == 1 })).crierSplit).drg.sending = false := by
    rw [hdrg]
    exact hsend
  unfold Dev.crierActs
  dsimp only
  rw [if_pos hadm, hquiet, if_pos (by rfl)]

/-- What an admitted node has done before the discipline of a Crier of direction A. -/
def Dev.crierBefore (d : Dev) (p : List Nat) (err : Int) : Dev :=
  ((d.gapEnds.crierSays false p err).updDrg (fun r => { r with handoff := crierField p 21 1 / 32 % 2 == 1 })).crierSplit

theorem Dev.crierBefore_spec (d : Dev) (p : List Nat) (err : Int) (hadm : d.on Reg.DRG_STAT_ADMITTED = true) :
    (d.crierBefore p err).drg.tx = d.drg.tx ∧ (d.crierBefore p err).drg.badCyc = d.drg.badCyc ∧
    (d.crierBefore p err).drg.lastA = some (crierField p 12 4) ∧ (d.crierBefore p err).drg.gap = 0 ∧
    (d.crierBefore p err).g Reg.DRG_STAT_MASTER = crierField p 20 1 % 16 ∧
    (0 < d.drg.gap → d.record Err.DRG_CRIER_MISS [d.drg.gap] ∈ (d.crierBefore p err).raised) ∧
    d.keeps (d.crierBefore p err) [Reg.DRG_STAT_MASTER, Reg.DRG_TIMING_SHR_DONE, Reg.DRG_TERR_AB, Reg.DRG_STAT_SPLIT] [.drg, .raised] := by
  obtain ⟨hgapDrg, hgapRec, hgap⟩ := d.gapEnds_spec hadm
  obtain ⟨⟨next, ver, at', hsaysDrg⟩, hmaster, hsays⟩ := d.gapEnds.crierSays_A p err
  set e := d.gapEnds.crierSays false p err
  obtain ⟨⟨n, hsplitDrg⟩, hsplitRec, hsplit⟩ := (e.updDrg (fun r => { r with handoff := crierField p 21 1 / 32 % 2 == 1 })).crierSplit_spec
  have hhand := e.updDrg_keeps (fun r => { r with handoff := crierField p 21 1 / 32 % 2 == 1 })
  have hdrg : (d.crierBefore p err).drg = { d.drg with
      gap := 0, cyc := max 1 (crierField p 16 2), lastA := some (crierField p 12 4), errA := err, next := next, nextVer := ver, planAt := at',
      handoff := crierField p 21 1 / 32 % 2 == 1, splits := n } := by
    rw [Dev.crierBefore, hsplitDrg, Dev.updDrg, hsaysDrg, hgapDrg]
  refine ⟨by rw [hdrg], by rw [hdrg], by rw [hdrg], by rw [hdrg], ?_, fun h => ?_, ?_⟩
  · exact (Dev.g_of_keeps hsplit (by decide)).trans ((Dev.g_of_keeps hhand (by decide)).trans hmaster)
  · refine hsplitRec.subset ?_
    have hsame : e.raised = d.gapEnds.raised := hsays.2 .raised (by decide)
    exact hsame ▸ hgapRec h
  · exact Dev.keeps_trans (Dev.keeps_trans (Dev.keeps_mono hgap (by simp) (by simp)) (Dev.keeps_mono hsays (by simp) (by simp)))
      (Dev.keeps_trans (Dev.keeps_mono hhand (by simp) (by simp)) (Dev.keeps_mono hsplit (by simp) (by simp)))

theorem Dev.crierActs_before (d : Dev) (first : Bool) (p : List Nat) (err : Int) (hadm : d.on Reg.DRG_STAT_ADMITTED = true)
    (hsend : d.drg.sending = false) : (d.gapEnds.crierSays false p err).crierActs false first p err = (d.crierBefore p err).discipline err := by
  obtain ⟨hgapDrg, _, hgap⟩ := d.gapEnds_spec hadm
  obtain ⟨⟨_, _, _, hsaysDrg⟩, _, hsays⟩ := d.gapEnds.crierSays_A p err
  refine Dev.crierActs_admitted _ first p err ?_ ?_
  · rw [Dev.on_of_keeps hsays (by decide), Dev.on_of_keeps hgap (by decide), hadm]
  · rw [hsaysDrg, hgapDrg]
    exact hsend

section
variable {s : State} (hl : s.dev.live = true) {p : List Nat} (hlen : p.length = 32) (hsend : s.dev.drg.sending = false)
include hl hlen hsend

theorem crierDisciplines (hadm : s.dev.on Reg.DRG_STAT_ADMITTED = true) (fine res : Nat) {err : Int}
    (herr : err = s.dev.crierErr fine (crierField p 0 8) (crierField p 8 4) (s.dev.hopIn false)) :
    Does s (.crierReceived false false true fine res p) (fun t => t.drg.tx = s.dev.drg.tx ++ [s.dev.passedOn false res p] ∧ t.tb.slew = -err ∧
      t.tb.rt = s.dev.tb.rt ∧ t.tb.missCyc = 0 ∧ t.tb.goodCyc = goodAfter (s.dev.g Reg.RT_STAT_STATE) s.dev.drg.badCyc s.dev.tb.goodCyc err ∧
      t.g Reg.DRG_TERR_ERR = ofInt 16 (satInt 16 err) ∧ t.g Reg.DRG_STAT_MASTER = crierField p 20 1 % 16 ∧
      t.drg.lastA = some (crierField p 12 4) ∧ t.drg.gap = 0 ∧
      (0 < s.dev.drg.gap → s.dev.record Err.DRG_CRIER_MISS [s.dev.drg.gap] ∈ t.raised) ∧ t.pwm = s.dev.pwm ∧ ∀ a, t.byte a = s.dev.byte a) := by
  obtain ⟨f, he, hf⟩ := exec_crier_good (dirB := false) (wrap := false) (fine := fine) (res := res) hlen hsend
  refine State.does_run he hl ?_
  rw [hf]
  dsimp only
  rw [if_neg Bool.false_ne_true, s.dev.crierPasses_admitted false res p hadm, ← herr]
  set e := s.dev.ringSend 1 false (p.take 8 ++ leBytes 4 (crierField p 8 4 + s.dev.hopIn false + res) ++ p.drop 12) with he'
  have hkeeps : s.dev.keeps e [] [.drg] := s.dev.ringSend_keeps _ _ _
  have hdrg : e.drg = { s.dev.drg with tx := s.dev.drg.tx ++ [s.dev.passedOn false res p] } := rfl
  have hadm' : e.on Reg.DRG_STAT_ADMITTED = true := hadm
  clear_value e
  have hquiet : e.drg.sending = false := by rw [hdrg]; exact hsend
  rw [e.roleClash_idle _ hquiet, e.crierActs_before _ p err hadm' hquiet]
  obtain ⟨htx, hbad, hlast, hgap, hmaster, hrec, hbefore⟩ := e.crierBefore_spec p err hadm'
  obtain ⟨htb, hterr, ⟨n, hdiscDrg⟩, hdisc⟩ := (e.crierBefore p err).discipline_spec err
  have htb' : (e.crierBefore p err).tb = s.dev.tb := (hbefore.2 .tb (by decide)).trans (hkeeps.2 .tb (by decide))
  have hst : (e.crierBefore p err).g Reg.RT_STAT_STATE = s.dev.g Reg.RT_STAT_STATE :=
    (Dev.g_of_keeps hbefore (by decide)).trans (Dev.g_of_keeps hkeeps (by decide))
  rw [hst, hbad, htb', hdrg] at htb
  rw [hdiscDrg, htb]
  refine ⟨?_, rfl, rfl, rfl, rfl, hterr, (Dev.g_of_keeps hdisc (by decide)).trans hmaster, hlast, hgap, fun h => ?_, ?_, fun a => ?_⟩
  · exact htx.trans (by rw [hdrg])
  · rw [show ((e.crierBefore p err).discipline err).raised = (e.crierBefore p err).raised from hdisc.2 .raised (by decide)]
    have hgapSame : e.drg.gap = s.dev.drg.gap := by rw [hdrg]
    have htbSame : e.tb = s.dev.tb := hkeeps.2 .tb (by decide)
    rw [hgapSame, Dev.record, htbSame] at hrec
    exact hrec h
  · exact (hdisc.2 .pwm (by decide)).trans ((hbefore.2 .pwm (by decide)).trans (hkeeps.2 .pwm (by decide)))
  · exact (hdisc.2 .mem (by decide) a).trans ((hbefore.2 .mem (by decide) a).trans (hkeeps.2 .mem (by decide) a))

end

end Sys2Proof.Machine
end

section
/-! PROOFS. Admission to the ring (R47, R336, R337, R340). -/

namespace Sys2Proof.Machine

/-- What the plan in force shows. -/
def planShown : List RF := [Reg.DRG_PRESENT_PLANNED, Reg.DRG_TIMING_L, Reg.DRG_TIMING_SHR_DONE, Reg.DRG_SLOT_ADM_WHEELS, Reg.DRG_SLOT_ADM_TT,
  Reg.DRG_SLOT_ADM_BELL, Reg.DRG_SLOT_ADM_NW]

theorem Dev.planShow_keeps (d : Dev) (done : Nat) : d.keeps (d.planShow done) planShown [.raised] := by
  unfold Dev.planShow
  dsimp only
  refine Dev.keeps_when (fun x => Dev.keeps_raise (by simp) (x.keeps_refl _ _)) ?_
  have hset {e : Dev} {f : RF} (v : Nat) (hf : f ∈ planShown) (h : f.fits) (k : d.keeps e planShown [.raised]) :
      d.keeps (e.s f v) planShown [.raised] := Dev.keeps_s hf h.1 h.2 k
  refine hset _ (by simp [planShown]) (RF.fits_of rfl) (hset _ (by simp [planShown]) (RF.fits_of rfl) (hset _ (by simp [planShown]) (RF.fits_of rfl)
    (hset _ (by simp [planShown]) (RF.fits_of rfl) ?_)))
  exact hset _ (by simp [planShown]) (RF.fits_of rfl) (hset _ (by simp [planShown]) (RF.fits_of rfl)
    (hset _ (by simp [planShown]) (RF.fits_of rfl) (d.keeps_refl _ _)))

/-! ## The step to ring time -/

/-- RT64 steps to ring time. -/
def Dev.stepsTo (d : Dev) (rt : Nat) : Dev := { d with tb := { d.tb with rt := rt, slew := 0, goodCyc := 0, missCyc := 0, admitted := true } }

/-- The ring unit of a node that is admitted with a plan at a time. -/
def Drg.admits (r : Drg) (es : List Nat) (rt : Nat) : Drg :=
  { r with plan := es, planAt := none, cycNow := rt / (32 * r.cyc), gap := 0, missA := 0, missB := 0 }

/-- The fields that admission sets. -/
def admitSets (ver : Nat) : List (RF × Nat) :=
  [(Reg.DRG_STAT_ADMITTED, 1), (Reg.RT_STAT_STATE, 1), (Reg.RT_STAT_STEPPED, 1), (Reg.DRG_STAT_PLAN_VER, ver)]

theorem admitSets_fits (ver : Nat) : ∀ w ∈ admitSets ver, w.1.fits := by
  simp [admitSets, RF.fits, Reg.DRG_STAT_ADMITTED, Reg.RT_STAT_STATE, Reg.RT_STAT_STEPPED, Reg.DRG_STAT_PLAN_VER]

theorem admitSets_apart (ver : Nat) : apartInOrder (admitSets ver) := by
  simp [admitSets, apartInOrder, RF.apart, Reg.DRG_STAT_ADMITTED, Reg.RT_STAT_STATE, Reg.RT_STAT_STEPPED, Reg.DRG_STAT_PLAN_VER, Reg.DRG_STAT,
    Reg.RT_STAT]

theorem Dev.updDrg_s (d : Dev) (f : RF) (v : Nat) (h : Drg → Drg) : (d.s f v).updDrg h = (d.updDrg h).s f v := rfl

/-- A node that is admitted, before its plan shows. -/
def Dev.admitted (d : Dev) (err : Int) : Dev :=
  ((d.stepsTo (ofInt 64 ((d.tb.rt : Int) - err))).updDrg fun r =>
    r.admits (d.drg.next.map (fun e => e.getD 0)) (ofInt 64 ((d.tb.rt : Int) - err))).writes (admitSets d.drg.nextVer)

theorem Dev.admitNode_eq (d : Dev) (err : Int) : ∃ done, d.admitNode err = (d.admitted err).planShow done := by
  unfold Dev.admitNode Dev.admitted Dev.writes admitSets
  dsimp only [List.foldl_cons, List.foldl_nil]
  rw [Dev.updDrg_s, Dev.updDrg_s, Dev.updDrg_s]
  exact ⟨_, rfl⟩

theorem Dev.stepsTo_keeps (d : Dev) (rt : Nat) : d.keeps (d.stepsTo rt) [] [.tb] := Dev.keeps_withTb (by simp) (d.keeps_refl _ _)

theorem Dev.admitNode_spec (d : Dev) (err : Int) : (d.admitNode err).on Reg.DRG_STAT_ADMITTED = true ∧ (d.admitNode err).g Reg.RT_STAT_STATE = 1 ∧
    (d.admitNode err).on Reg.RT_STAT_STEPPED = true ∧ (d.admitNode err).g Reg.DRG_STAT_PLAN_VER = d.drg.nextVer % 256 ∧
    (d.admitNode err).tb.rt = ofInt 64 ((d.tb.rt : Int) - err) ∧ (d.admitNode err).tb.admitted = true ∧ (d.admitNode err).drg.tx = d.drg.tx ∧
    d.keeps (d.admitNode err) ((admitSets d.drg.nextVer).map Prod.fst ++ planShown) [.tb, .drg, .raised] := by
  obtain ⟨done, heq⟩ := d.admitNode_eq err
  set x := (d.stepsTo (ofInt 64 ((d.tb.rt : Int) - err))).updDrg fun r =>
    r.admits (d.drg.next.map (fun e => e.getD 0)) (ofInt 64 ((d.tb.rt : Int) - err)) with hx
  have hstep : d.keeps x [] [.tb, .drg, .raised] :=
    Dev.keeps_trans (Dev.keeps_mono (d.stepsTo_keeps _) (by simp) (by simp)) (Dev.keeps_mono (Dev.updDrg_keeps _ _) (by simp) (by simp))
  have hwrites : x.keeps (d.admitted err) ((admitSets d.drg.nextVer).map Prod.fst) [] := Dev.writes_keeps (admitSets_fits _) []
  have hset (f : RF) (v : Nat) (h : (f, v) ∈ admitSets d.drg.nextVer) : (d.admitted err).g f = f.cut v :=
    Dev.g_writes (admitSets_fits _) (admitSets_apart _) x (f, v) h
  have hshow := (d.admitted err).planShow_keeps done
  have htb : (d.admitNode err).tb = x.tb := heq ▸ (hshow.2 .tb (by decide)).trans (hwrites.2 .tb (by decide))
  have hdrg : (d.admitNode err).drg = x.drg := heq ▸ (hshow.2 .drg (by decide)).trans (hwrites.2 .drg (by decide))
  refine ⟨?_, ?_, ?_, ?_, by rw [htb]; rfl, by rw [htb]; rfl, by rw [hdrg]; rfl, ?_⟩
  · rw [heq, Dev.on_of_keeps hshow (by decide), Dev.on, hset Reg.DRG_STAT_ADMITTED 1 (by simp [admitSets])]
    rfl
  · rw [heq, Dev.g_of_keeps hshow (by decide), hset Reg.RT_STAT_STATE 1 (by simp [admitSets])]
    rfl
  · rw [heq, Dev.on_of_keeps hshow (by decide), Dev.on, hset Reg.RT_STAT_STEPPED 1 (by simp [admitSets])]
    rfl
  · rw [heq, Dev.g_of_keeps hshow (by decide), hset Reg.DRG_STAT_PLAN_VER d.drg.nextVer (by simp [admitSets])]
    rfl
  · rw [heq]
    exact Dev.keeps_trans (Dev.keeps_trans (Dev.keeps_mono hstep (by simp) (by simp)) (Dev.keeps_mono hwrites (by simp) (by simp)))
      (Dev.keeps_mono hshow (by simp) (by simp))

/-! ## The Crier that names the node -/

/-- A list whose places are all filled stays so. -/
theorem updAt_all {α : Type} {l : List α} {q : α → Bool} (h : l.all q = true) (n : Nat) {f : α → α} (hf : ∀ a, q (f a) = true) :
    (updAt l n f).all q = true := by
  induction l generalizing n with
  | nil => rfl
  | cons a l ih =>
    rw [List.all_cons, Bool.and_eq_true] at h
    cases n with
    | zero => rw [updAt, List.all_cons, hf a, h.2]; rfl
    | succ n => rw [updAt, List.all_cons, h.1, ih h.2 n]; rfl

/-- An entry of the plan that is being received. -/
theorem Dev.crierPlan_entry (d : Dev) {ver : Nat} (hver : ver = d.drg.nextVer) (node entry planAt done : Nat) :
    ∃ at', (d.crierPlan ver node entry planAt done).drg =
      { d.drg with next := updAt d.drg.next (node % 16) (fun _ => some entry), planAt := at' } := by
  unfold Dev.crierPlan
  dsimp only
  rw [if_pos hver]
  split
  · exact ⟨d.drg.planAt, rfl⟩
  · refine ⟨some planAt, ?_⟩
    rw [Dev.updDrg, Dev.s_drg, Dev.updDrg]

theorem Drg.hears_next (r : Drg) (dirB : Bool) (k cyc : Nat) (err : Int) : (r.hears dirB k cyc err).next = r.next ∧
    (r.hears dirB k cyc err).nextVer = r.nextVer ∧ (r.hears dirB k cyc err).tx = r.tx := by
  cases dirB <;> exact ⟨rfl, rfl, rfl⟩

/-- What a Crier of the plan's version says. -/
theorem Dev.crierSays_entry (d : Dev) (dirB : Bool) (p : List Nat) (err : Int) (hver : crierField p 22 1 = d.drg.nextVer) :
    (d.crierSays dirB p err).drg.next = updAt d.drg.next (crierField p 23 1 % 16) (fun _ => some (crierField p 24 4)) ∧
    (d.crierSays dirB p err).drg.nextVer = d.drg.nextVer ∧ (d.crierSays dirB p err).drg.tx = d.drg.tx ∧
    d.keeps (d.crierSays dirB p err) [Reg.DRG_STAT_MASTER, Reg.DRG_TIMING_SHR_DONE] [.drg] := by
  unfold Dev.crierSays
  obtain ⟨hnext, hnextVer, htx⟩ := d.drg.hears_next dirB (crierField p 12 4) (crierField p 16 2) err
  have hkeeps : d.keeps ((d.updDrg fun r => r.hears dirB (crierField p 12 4) (crierField p 16 2) err).s Reg.DRG_STAT_MASTER (crierField p 20 1 % 16))
      [Reg.DRG_STAT_MASTER, Reg.DRG_TIMING_SHR_DONE] [.drg] :=
    Dev.keeps_s (by simp) (by decide) (by decide) (Dev.keeps_mono (d.updDrg_keeps _) (by simp) (by simp))
  have hdrg : ((d.updDrg fun r => r.hears dirB (crierField p 12 4) (crierField p 16 2) err).s Reg.DRG_STAT_MASTER (crierField p 20 1 % 16)).drg =
      d.drg.hears dirB (crierField p 12 4) (crierField p 16 2) err := by rw [Dev.s_drg, Dev.updDrg]
  generalize (d.updDrg fun r => r.hears dirB (crierField p 12 4) (crierField p 16 2) err).s Reg.DRG_STAT_MASTER (crierField p 20 1 % 16) = e
    at hkeeps hdrg ⊢
  obtain ⟨at', hplan⟩ := e.crierPlan_entry (hver.trans (by rw [hdrg, hnextVer])) (crierField p 23 1) (crierField p 24 4) (crierField p 28 4)
    (crierField p 18 2)
  obtain ⟨_, hplanKeeps⟩ := e.crierPlan_spec (crierField p 22 1) (crierField p 23 1) (crierField p 24 4) (crierField p 28 4) (crierField p 18 2)
  rw [hplan, hdrg]
  exact ⟨by rw [← hnext], hnextVer, htx, Dev.keeps_trans hkeeps (Dev.keeps_mono hplanKeeps (by simp) (by simp))⟩

theorem crierAdmits {s : State} (hl : s.dev.live = true) {p : List Nat} (hlen : p.length = 32) (hsend : s.dev.drg.sending = false)
    (hadm : s.dev.on Reg.DRG_STAT_ADMITTED = false) (hjoin : s.dev.on Reg.DRG_CTL_JOIN = true) (hclash : s.dev.on Reg.DRG_STAT_ID_CLASH = false)
    (hnamed : crierField p 21 1 % 32 = s.dev.me + 16) (hver : crierField p 22 1 = s.dev.drg.nextVer)
    (hall : s.dev.drg.next.all Option.isSome = true) (hnode : crierField p 23 1 % 16 ≠ s.dev.me)
    (hplan : planEn ((s.dev.drg.next.getD s.dev.me none).getD 0) = true) (dirB : Bool) (fine res : Nat) :
    Does s (.crierReceived dirB false true fine res p) (fun t => t.on Reg.DRG_STAT_ADMITTED = true ∧ t.tb.admitted = true ∧
      t.g Reg.RT_STAT_STATE = 1 ∧ t.on Reg.RT_STAT_STEPPED = true ∧
      t.tb.rt = ofInt 64 ((s.dev.tb.rt : Int) - s.dev.crierErr fine (crierField p 0 8) (crierField p 8 4) (s.dev.hopIn dirB)) ∧
      t.drg.tx = s.dev.drg.tx ∧ t.g Reg.DRG_STAT_PLAN_VER = s.dev.drg.nextVer % 256 ∧ t.pwm = s.dev.pwm ∧ ∀ a, t.byte a = s.dev.byte a) := by
  obtain ⟨f, he, hf⟩ := exec_crier_good (dirB := dirB) (wrap := false) (fine := fine) (res := res) hlen hsend
  refine State.does_run he hl ?_
  rw [hf]
  dsimp only
  rw [if_neg Bool.false_ne_true, s.dev.crierPasses_out dirB res p hadm, s.dev.roleClash_idle _ hsend, s.dev.gapEnds_out hadm]
  set err := s.dev.crierErr fine (crierField p 0 8) (crierField p 8 4) (s.dev.hopIn dirB)
  clear_value err
  obtain ⟨hnext, hnextVer, htx, hsays⟩ := s.dev.crierSays_entry dirB p err hver
  set e := s.dev.crierSays dirB p err
  clear_value e
  have hme : e.me = s.dev.me := Dev.g_of_keeps hsays (by decide)
  have hadm' : e.on Reg.DRG_STAT_ADMITTED = false := (Dev.on_of_keeps hsays (by decide)).trans hadm
  have hjoin' : e.on Reg.DRG_CTL_JOIN = true := (Dev.on_of_keeps hsays (by decide)).trans hjoin
  have hclash' : e.on Reg.DRG_STAT_ID_CLASH = false := (Dev.on_of_keeps hsays (by decide)).trans hclash
  have hall' : e.drg.next.all Option.isSome = true := hnext ▸ updAt_all hall _ fun _ => rfl
  have hplan' : planEn ((e.drg.next.getD e.me none).getD 0) = true := by
    rw [hnext, hme, updAt_getD_other _ _ _ hnode.symm, hplan]
  have hacts : ∀ first, e.crierActs dirB first p err = e.admitNode err := by
    intro first
    rw [Dev.crierActs, hadm', if_neg Bool.false_ne_true, hjoin', hclash', hall', hplan', hme, hnamed, if_pos (by simp)]
  rw [hacts]
  obtain ⟨hon, hstate, hstep, hshown, hrt, hin, htx', hkeeps⟩ := e.admitNode_spec err
  have htb : e.tb = s.dev.tb := hsays.2 .tb (by decide)
  refine ⟨hon, hin, hstate, hstep, by rw [hrt, htb], htx'.trans htx, by rw [hshown, hnextVer], ?_, fun a => ?_⟩
  · exact (hkeeps.2 .pwm (by decide)).trans (hsays.2 .pwm (by decide))
  · exact (hkeeps.2 .mem (by decide) a).trans (hsays.2 .mem (by decide) a)

end Sys2Proof.Machine
end

section
/-! PROOFS. The frames of the ring (R326, R328 to R335, R338 to R340). -/

namespace Sys2Proof.Machine

theorem ringFrames_hold : ringFrames := by
  intro s hl
  refine ⟨fun b c i j k l m p q w => badFrames hl b c i j k l m p q w, ?_, ?_, ?_, ?_, ?_, ?_, ?_, ?_, ?_, ?_⟩
  · rintro dirB fine res p hlen hsend hadm fwd rfl
    refine ⟨crierPassesOn hl hlen hsend hadm dirB fine res, ?_⟩
    rintro rfl err herr
    exact crierDisciplines hl hlen hsend hadm fine res herr
  · intro dirB fine res p hlen hsend hadm hjoin hclash hnamed hver hall hnode hplan
    exact crierAdmits hl hlen hsend hadm hjoin hclash hnamed hver hall hnode hplan dirB fine res
  · exact fun src cyc stat whls words hsrc => ⟨shareHeld hl cyc stat whls words hsrc, shareCopyDropped stat whls words hsrc⟩
  · exact fun cyc stat whls words => idClashes hl cyc stat whls words
  · exact fun fine => delayAsked hl fine
  · exact fun t1 t2 t3 fine val => delayAnswered hl t1 t2 t3 fine val
  · exact fun t0 t1 t2 t3 fine val dly => delayMeasured hl t1 val
  · intro dirB src ch fofs msg mlen flags frag pl hadm hsrc hch _ hpl hmsg hfofs hmlen hin
    refine ⟨exec_bulkFrame_own hadm hsrc dirB pl, ?_, ?_⟩
    · intro hother hflags hdest hfree hdue
      exact bulkPasses hadm hsrc dirB hother hch hmsg hfofs hmlen hin hpl hflags hdest hfree hdue
    · rintro hother hdest rfl rfl hall hbytes hnone put get size base need hput hget hsize hbase hneed hen horder hend hroom
      exact bulkTaken hadm hsrc hl dirB hother hmsg hmlen hpl hdest hall hbytes hnone hput hget hsize hbase hneed hen horder hend hroom
  · exact fun src ch m hm hsrc hch hlate => bulkTimesOut hl hm hsrc hch hlate
  · exact fun m rest hout hadm hfwd hdue => bulkSends hl hout hadm hfwd hdue

end Sys2Proof.Machine
end

section
/-! PROOFS. The start of a ring cycle (R329 to R331, R336, R337, R342, R352). -/

namespace Sys2Proof.Machine

/-! ## The stages of the start -/

/-- The train of a cycle begins empty. -/
def Drg.begins (r : Drg) (k : Nat) : Drg := { r with cycNow := k, tx := [], bellWas := r.bellNow, bellNow := none, fwd := [0, 0] }

/-- What a node in the ring does at the start of a cycle. -/
def Dev.cycleParts (d : Dev) : Dev := d.planTake.freeze.sendCriers.sendRegion

theorem exec_ringCycleStart (s : State) : exec .ringCycleStart s = s.run fun d =>
    let e := d.crierGap.updDrg fun r => r.begins d.cycNo
    let e := match e.drg.leaveAt with
      | some t => if t ≤ d.cycNo then e.ringOut else e
      | none => e
    if e.on Reg.DRG_STAT_ADMITTED then e.cycleParts else e := by
  have he : exec .ringCycleStart s = execRingCycleStart s := rfl
  rw [he]
  rfl

/-- The gap between Criers leaves the train's contents, the plan and RT64. -/
theorem Dev.crierGap_spec (d : Dev) : (∃ a b g, d.crierGap.drg = { d.drg with missA := a, missB := b, gap := g }) ∧
    d.crierGap.tb.rt = d.tb.rt ∧ d.keeps d.crierGap [] [.drg, .tb] := by
  unfold Dev.crierGap
  split
  · exact ⟨⟨d.drg.missA, d.drg.missB, d.drg.gap, rfl⟩, rfl, d.keeps_refl _ _⟩
  · dsimp only
    have hcount (f : Drg → Drg) : d.keeps (d.updDrg f) [] [.drg, .tb] := Dev.keeps_mono (d.updDrg_keeps _) (by simp) (by simp)
    split
    · exact ⟨⟨_, _, _, rfl⟩, rfl, Dev.keeps_withTb (by simp) (hcount _)⟩
    · exact ⟨⟨_, _, _, rfl⟩, rfl, hcount _⟩

/-! ## The plan -/

/-- What a plan that takes effect writes. -/
def planTaken : List RF := Reg.DRG_STAT_PLAN_VER :: planShown

theorem Dev.planTake_none (d : Dev) (h : d.drg.planAt = none) : d.planTake = d := by
  unfold Dev.planTake
  rw [h]

/-- A complete plan in its cycle. -/
theorem Dev.planTake_due (d : Dev) {k : Nat} (hat : d.drg.planAt = some k) (hk : k ≤ d.drg.cycNow) (hall : d.drg.next.all Option.isSome = true) :
    d.planTake.drg = { d.drg with plan := d.drg.next.map (fun e => e.getD 0), planAt := none } ∧
    d.planTake.g Reg.DRG_STAT_PLAN_VER = d.drg.nextVer % 256 ∧ d.keeps d.planTake planTaken [.drg, .raised] := by
  unfold Dev.planTake
  rw [hat]
  dsimp only
  rw [if_pos ⟨hk, hall⟩]
  set e := (d.updDrg (fun r => { r with plan := d.drg.next.map (fun e => e.getD 0), planAt := none })).s Reg.DRG_STAT_PLAN_VER d.drg.nextVer with he
  have hver : e.g Reg.DRG_STAT_PLAN_VER = d.drg.nextVer % 256 := Dev.g_s_same _ Reg.DRG_STAT_PLAN_VER _ (by decide) (by decide)
  have hdrg : e.drg = { d.drg with plan := d.drg.next.map (fun e => e.getD 0), planAt := none } := by rw [he, Dev.s_drg, Dev.updDrg]
  have hkeeps : d.keeps e planTaken [.drg, .raised] :=
    Dev.keeps_s (by simp [planTaken]) (by decide) (by decide) (Dev.keeps_mono (d.updDrg_keeps _) (by simp) (by simp))
  clear_value e
  have hshow (done : Nat) := e.planShow_keeps done
  refine ⟨((hshow _).2 .drg (by decide)).trans hdrg, (Dev.g_of_keeps (hshow _) (by decide)).trans hver, ?_⟩
  exact Dev.keeps_trans hkeeps (Dev.keeps_mono (hshow _) (by simp [planTaken]) (by simp))

theorem Dev.planTake_spec (d : Dev) : (∃ es at', d.planTake.drg = { d.drg with plan := es, planAt := at' }) ∧
    d.keeps d.planTake planTaken [.drg, .raised] := by
  cases hat : d.drg.planAt with
  | none =>
    rw [d.planTake_none hat]
    exact ⟨⟨d.drg.plan, d.drg.planAt, rfl⟩, d.keeps_refl _ _⟩
  | some k =>
    by_cases hdue : k ≤ d.drg.cycNow ∧ d.drg.next.all Option.isSome = true
    · obtain ⟨hdrg, _, hkeeps⟩ := d.planTake_due hat hdue.1 hdue.2
      exact ⟨⟨_, _, hdrg⟩, hkeeps⟩
    · have hstays : d.planTake = d := by
        unfold Dev.planTake
        rw [hat]
        dsimp only
        rw [if_neg hdue]
      rw [hstays]
      exact ⟨⟨d.drg.plan, d.drg.planAt, rfl⟩, d.keeps_refl _ _⟩

/-! ## The words that freeze, and the train -/

theorem Dev.lsScale_keeps (d : Dev) : d.keeps d.lsScale.2 [] [.free] := by
  unfold Dev.lsScale
  dsimp only
  split
  · exact d.keeps_refl _ _
  · exact d.openDiv_keeps _ _

/-- The words of this node freeze, with its status and its wheels. -/
def Drg.freezes (r : Drg) (me : Nat) (own stat : List Nat) (whls : List (List Nat)) : Drg :=
  { r with own := own, froz := own, ackIn := 0, nakIn := 0, nodes := updAt r.nodes me (fun n => { n with stat := stat, whls := whls }) }

theorem Dev.freeze_spec (d : Dev) : (∃ own stat whls, d.freeze.drg = d.drg.freezes d.me own stat whls ∧ (d.lsLeads = false → own = d.drg.own)) ∧
    d.keeps d.freeze [] [.drg, .free] := by
  have hscale : d.keeps (if d.lsLeads then d.lsScale else (0, d)).2 [] [.free] := by
    split
    · exact d.lsScale_keeps
    · exact d.keeps_refl _ _
  unfold Dev.freeze
  dsimp only
  generalize (if d.lsLeads then d.lsScale else (0, d)) = sc at hscale ⊢
  obtain ⟨n, e⟩ := sc
  have hleads : e.lsLeads = d.lsLeads := by
    unfold Dev.lsLeads Dev.me
    rw [Dev.on_of_keeps hscale (by decide), Dev.g_of_keeps hscale (by decide), Dev.g_of_keeps hscale (by decide)]
  have hme : e.me = d.me := Dev.g_of_keeps hscale (by decide)
  have hdrg : e.drg = d.drg := hscale.2 .drg (by decide)
  dsimp only
  refine ⟨⟨if e.lsLeads = true then updAt e.drg.own (e.g Reg.LS_CFG_TWORD + 1) (fun _ => n) else e.drg.own, e.ownStat,
    (maskBits 16 (e.g Reg.DRG_SLOT_ADM_WHEELS)).map e.wheelBlock, ?_, fun hl => ?_⟩,
    Dev.keeps_trans (Dev.keeps_mono hscale (by simp) (by simp)) (Dev.keeps_mono (e.updDrg_keeps _) (by simp) (by simp))⟩
  · rw [Dev.updDrg, hme, hdrg]
    rfl
  · rw [hleads, hl, if_neg Bool.false_ne_true, hdrg]

/-- The Criers of the master, one in each direction. -/
theorem Dev.sendCriers_master (d : Dev) (h : d.drg.sending = true) : ∃ at', d.sendCriers.drg =
    { d.drg with admitAt := at', lastA := some d.drg.cycNow, lastB := some d.drg.cycNow,
                 tx := d.drg.tx ++ [⟨1, false, d.crierPayload⟩, ⟨1, true, d.crierPayload⟩] } := by
  unfold Dev.sendCriers
  rw [if_pos h]
  refine ⟨if d.crierPayload.getD 21 0 / 16 % 2 = 1 then d.crierPayload.getD 21 0 % 16 + 1 else 0, ?_⟩
  rw [Dev.ringSend_drg, Dev.ringSend_drg, Dev.updDrg]
  dsimp only
  rw [List.append_assoc]
  rfl

theorem Dev.sendCriers_other (d : Dev) (h : d.drg.sending = false) : d.sendCriers = d := by
  rw [Dev.sendCriers, h, if_neg Bool.false_ne_true]

theorem Dev.sendCriers_keeps (d : Dev) : d.keeps d.sendCriers [] [.drg] := by
  unfold Dev.sendCriers
  split
  · exact Dev.keeps_trans (d.updDrg_keeps _) (Dev.keeps_trans (Dev.ringSend_keeps _ _ _ _) (Dev.ringSend_keeps _ _ _ _))
  · exact d.keeps_refl _ _

/-- The first three of several lists, by their length. -/
theorem take_three {α : Type} {a b c r : List α} {n : Nat} (h : a.length + (b.length + c.length) = n) :
    (a ++ (b ++ (c ++ r))).take n = a ++ (b ++ c) := by
  rw [← List.append_assoc b, ← List.append_assoc a]
  exact List.take_left' (by rw [List.length_append, List.length_append, h])

/-- A Crier begins with RT64, no correction, and the cycle's number (R328). -/
theorem Dev.crierPayload_head (d : Dev) : d.crierPayload.take 16 = leBytes 8 d.tb.rt ++ leBytes 4 0 ++ leBytes 4 d.drg.cycNow := by
  unfold Dev.crierPayload
  dsimp only
  simp only [List.append_assoc]
  exact take_three (by simp only [leBytes_length])

/-- Frames sent one after another. -/
theorem Dev.each_ringSend (l : List (List Nat)) (typ : Nat) (dirB : Bool) (d : Dev) :
    (d.each l fun d a => d.ringSend typ dirB a) = d.updDrg fun r => { r with tx := r.tx ++ l.map fun a => ⟨typ, dirB, a⟩ } := by
  induction l generalizing d with
  | nil =>
    rw [Dev.each, List.foldl_nil, List.map_nil]
    simp only [List.append_nil]
    rfl
  | cons a l ih =>
    have hstep : d.each (a :: l) (fun d a => d.ringSend typ dirB a) = (d.ringSend typ dirB a).each l fun d a => d.ringSend typ dirB a := rfl
    rw [hstep, ih, Dev.ringSend, Dev.updDrg, Dev.updDrg, Dev.updDrg, List.map_cons]
    simp only [List.append_assoc, List.singleton_append]

/-- The Bell frame of the region. -/
def Dev.sendBell (d : Dev) : Dev :=
  match (if d.on Reg.DRG_SLOT_ADM_BELL then d.ringBell else none) with
  | some b => (d.updDrg (fun r => { r with bellNow := some (b.idx, b.gen) })).ringSend 2 false
      (leBytes 4 b.w0 ++ leBytes 4 b.w1 ++ leBytes 4 b.w2 ++ leBytes 4 b.w3 ++ leBytes 4 b.w4 ++ [b.idx, b.gen, 0, 0])
  | none => d

theorem Dev.sendBell_spec (d : Dev) : (∃ rest bell, d.sendBell.drg = { d.drg with tx := d.drg.tx ++ rest, bellNow := bell }) ∧
    d.keeps d.sendBell [] [.drg] := by
  unfold Dev.sendBell
  split
  · exact ⟨⟨_, _, rfl⟩, Dev.keeps_trans (d.updDrg_keeps _) (Dev.ringSend_keeps _ _ _ _)⟩
  · refine ⟨⟨[], d.drg.bellNow, ?_⟩, d.keeps_refl _ _⟩
    rw [List.append_nil]

/-- The Telltale frames of the region. -/
def Dev.sendTelltales (d : Dev) : Dev :=
  let tts := d.drg.tts.take (d.g Reg.DRG_SLOT_ADM_TT)
  (d.each tts fun d t => d.ringSend 4 false t).updDrg fun r => { r with tts := r.tts.drop tts.length }

theorem Dev.sendTelltales_spec (d : Dev) : (∃ rest tts, d.sendTelltales.drg = { d.drg with tx := d.drg.tx ++ rest, tts := tts }) ∧
    d.keeps d.sendTelltales [] [.drg] := by
  unfold Dev.sendTelltales
  dsimp only
  rw [Dev.each_ringSend]
  exact ⟨⟨_, _, rfl⟩, Dev.keeps_trans (d.updDrg_keeps _) (Dev.updDrg_keeps _ _)⟩

theorem Dev.sendRegion_eq (d : Dev) : d.sendRegion = (d.ringSend 3 false d.sharePayload).sendBell.sendTelltales := rfl

/-- This node's region of the train. -/
theorem Dev.sendRegion_spec (d : Dev) : (∃ rest bell tts, d.sendRegion.drg =
    { d.drg with tx := d.drg.tx ++ ⟨3, false, d.sharePayload⟩ :: rest, bellNow := bell, tts := tts }) ∧ d.keeps d.sendRegion [] [.drg] := by
  rw [Dev.sendRegion_eq]
  obtain ⟨⟨rest, bell, hbell⟩, hbellKeeps⟩ := (d.ringSend 3 false d.sharePayload).sendBell_spec
  obtain ⟨⟨rest', tts, htts⟩, httsKeeps⟩ := (d.ringSend 3 false d.sharePayload).sendBell.sendTelltales_spec
  refine ⟨⟨rest ++ rest', bell, tts, ?_⟩, Dev.keeps_trans (Dev.keeps_trans (d.ringSend_keeps _ _ _) hbellKeeps) httsKeeps⟩
  rw [htts, hbell, Dev.ringSend_drg]
  simp only [List.append_assoc, List.singleton_append]
  rfl

theorem Dev.sharePayload_congr {d t : Dev} (h : d.keeps t [] [.drg]) (hnodes : t.drg.nodes = d.drg.nodes) (hfroz : t.drg.froz = d.drg.froz) :
    t.sharePayload = d.sharePayload := by
  unfold Dev.sharePayload Dev.rnode Dev.me
  rw [hnodes, hfroz, Dev.g_of_keeps h (by decide), Dev.g_of_keeps h (by decide)]

theorem Dev.sendRegion_payload (d : Dev) : d.sendRegion.sharePayload = d.sharePayload := by
  obtain ⟨⟨_, _, _, hdrg⟩, hkeeps⟩ := d.sendRegion_spec
  exact Dev.sharePayload_congr hkeeps (by rw [hdrg]) (by rw [hdrg])

/-- The train of this node, from its Criers on. -/
def Dev.sendTrain (d : Dev) : Dev := d.sendCriers.sendRegion

theorem Dev.sendTrain_keeps (d : Dev) : d.keeps d.sendTrain [] [.drg] := Dev.keeps_trans d.sendCriers_keeps (Dev.sendRegion_spec _).2

/-- The train of the master begins with its Criers, and then its share frame. -/
theorem Dev.sendTrain_master (d : Dev) (htx : d.drg.tx = []) (hsend : d.drg.sending = true) : ∃ rest at' bell tts, d.sendTrain.drg =
    { d.drg with admitAt := at', lastA := some d.drg.cycNow, lastB := some d.drg.cycNow, bellNow := bell, tts := tts,
                 tx := ⟨1, false, d.crierPayload⟩ :: ⟨1, true, d.crierPayload⟩ :: ⟨3, false, d.sendTrain.sharePayload⟩ :: rest } := by
  obtain ⟨at', hsent⟩ := d.sendCriers_master hsend
  obtain ⟨⟨rest, bell, tts, hregion⟩, _⟩ := d.sendCriers.sendRegion_spec
  refine ⟨rest, at', bell, tts, ?_⟩
  rw [Dev.sendTrain, hregion, Dev.sendRegion_payload, hsent, htx]
  rfl

theorem Dev.sendTrain_other (d : Dev) (htx : d.drg.tx = []) (hsend : d.drg.sending = false) : ∃ rest bell tts, d.sendTrain.drg =
    { d.drg with bellNow := bell, tts := tts, tx := ⟨3, false, d.sendTrain.sharePayload⟩ :: rest } := by
  obtain ⟨⟨rest, bell, tts, hregion⟩, _⟩ := d.sendRegion_spec
  refine ⟨rest, bell, tts, ?_⟩
  rw [Dev.sendTrain, d.sendCriers_other hsend, hregion, Dev.sendRegion_payload, htx]
  rfl

/-- What the train leaves as it is. -/
theorem Dev.sendTrain_stays (d : Dev) (htx : d.drg.tx = []) : d.sendTrain.drg.cycNow = d.drg.cycNow ∧ d.sendTrain.drg.froz = d.drg.froz ∧
    d.sendTrain.drg.plan = d.drg.plan ∧ d.sendTrain.drg.planAt = d.drg.planAt := by
  cases hsend : d.drg.sending with
  | true =>
    obtain ⟨_, _, _, _, h⟩ := d.sendTrain_master htx hsend
    rw [h]
    exact ⟨rfl, rfl, rfl, rfl⟩
  | false =>
    obtain ⟨_, _, _, h⟩ := d.sendTrain_other htx hsend
    rw [h]
    exact ⟨rfl, rfl, rfl, rfl⟩

/-! ## An admitted node -/

theorem Dev.cycleParts_eq (d : Dev) : d.cycleParts = d.planTake.freeze.sendTrain := rfl

/-- The parts of a cycle's start on an admitted node. -/
theorem Dev.cycleParts_spec (d : Dev) (htx : d.drg.tx = []) : d.cycleParts.drg.cycNow = d.drg.cycNow ∧
    (d.drg.sending = true → ∃ p, d.cycleParts.drg.tx.take 3 = [⟨1, false, p⟩, ⟨1, true, p⟩, ⟨3, false, d.cycleParts.sharePayload⟩] ∧
      p.take 16 = leBytes 8 d.tb.rt ++ leBytes 4 0 ++ leBytes 4 d.drg.cycNow) ∧
    (d.drg.sending = false → d.cycleParts.drg.tx.head? = some ⟨3, false, d.cycleParts.sharePayload⟩) ∧
    (d.lsLeads = false → d.cycleParts.drg.froz = d.drg.own) ∧
    d.cycleParts.drg.plan = d.planTake.drg.plan ∧ d.cycleParts.drg.planAt = d.planTake.drg.planAt ∧
    d.planTake.keeps d.cycleParts [] [.drg, .free] := by
  obtain ⟨⟨es, at', hplan⟩, hplanKeeps⟩ := d.planTake_spec
  obtain ⟨⟨own, stat, whls, hfreeze, hown⟩, hfreezeKeeps⟩ := d.planTake.freeze_spec
  have hleads : d.planTake.lsLeads = d.lsLeads := by
    unfold Dev.lsLeads Dev.me
    rw [Dev.on_of_keeps hplanKeeps (by decide), Dev.g_of_keeps hplanKeeps (by decide), Dev.g_of_keeps hplanKeeps (by decide)]
  have hpre : d.planTake.freeze.drg = Drg.freezes { d.drg with plan := es, planAt := at' } d.planTake.me own stat whls := by rw [hfreeze, hplan]
  have htb : d.planTake.freeze.tb = d.tb := (hfreezeKeeps.2 .tb (by decide)).trans (hplanKeeps.2 .tb (by decide))
  have htx' : d.planTake.freeze.drg.tx = [] := by rw [hpre]; exact htx
  obtain ⟨hcyc, hfroz, hplan', hat⟩ := d.planTake.freeze.sendTrain_stays htx'
  rw [Dev.cycleParts_eq]
  refine ⟨?_, fun hsend => ?_, fun hsend => ?_, fun h => ?_, ?_, ?_, ?_⟩
  · rw [hcyc, hpre]
    rfl
  · obtain ⟨rest, _, _, _, h⟩ := d.planTake.freeze.sendTrain_master htx' (by rw [hpre]; exact hsend)
    refine ⟨d.planTake.freeze.crierPayload, by rw [h]; rfl, ?_⟩
    rw [Dev.crierPayload_head, htb, hpre]
    rfl
  · obtain ⟨rest, _, _, h⟩ := d.planTake.freeze.sendTrain_other htx' (by rw [hpre]; exact hsend)
    rw [h]
    rfl
  · rw [hfroz, hpre]
    exact (hown (hleads.trans h)).trans (by rw [hplan])
  · rw [hplan', hpre, hplan]
    rfl
  · rw [hat, hpre, hplan]
    rfl
  · exact Dev.keeps_trans hfreezeKeeps (Dev.keeps_mono (Dev.sendTrain_keeps _) (by simp) (by simp))

end Sys2Proof.Machine
end

section
/-! PROOFS. The start of a ring cycle, on a node in the ring and on one that leaves (R329 to R331, R336, R337, R342). -/

namespace Sys2Proof.Machine

/-- The device at the start of a cycle, its train empty. -/
def Dev.cycleBegins (d : Dev) : Dev := d.crierGap.updDrg fun r => r.begins d.cycNo

theorem Dev.cycleBegins_spec (d : Dev) :
    (∃ a b g, d.cycleBegins.drg = Drg.begins { d.drg with missA := a, missB := b, gap := g } d.cycNo) ∧ d.cycleBegins.tb.rt = d.tb.rt ∧
      d.keeps d.cycleBegins [] [.drg, .tb] := by
  obtain ⟨⟨a, b, g, hdrg⟩, hrt, hkeeps⟩ := d.crierGap_spec
  refine ⟨⟨a, b, g, ?_⟩, hrt, Dev.keeps_trans hkeeps (Dev.keeps_mono (Dev.updDrg_keeps _ _) (by simp) (by simp))⟩
  rw [Dev.cycleBegins, Dev.updDrg, hdrg]

theorem Dev.ringOut_drg (d : Dev) : d.ringOut.drg = { d.drg with sending := false, leaveAt := none } := by
  rw [Dev.ringOut, Dev.s_drg, Dev.s_drg, Dev.updDrg, Dev.s_drg, Dev.s_drg]

theorem Dev.ringOut_out (d : Dev) : d.ringOut.on Reg.DRG_STAT_ADMITTED = false ∧ d.ringOut.on Reg.RT_STAT_MASTER = false := by
  unfold Dev.ringOut
  constructor
  · rw [Dev.on, Dev.g_s_other _ _ _ _ (by decide), Dev.g_s_other _ _ _ _ (by decide)]
    change ((d.s Reg.DRG_STAT_ADMITTED 0).s Reg.DRG_STAT_ACTING 0).on Reg.DRG_STAT_ADMITTED = false
    rw [Dev.on, Dev.g_s_beside _ _ _ _ (by decide) (by decide) (by decide) (by decide), Dev.g_s_same _ Reg.DRG_STAT_ADMITTED _ (by decide) (by decide)]
    rfl
  · rw [Dev.on, Dev.g_s_same _ Reg.RT_STAT_MASTER _ (by decide) (by decide)]
    rfl

section
variable {s : State} (hl : s.dev.live = true)
include hl

theorem cycleStarts (hadm : s.dev.on Reg.DRG_STAT_ADMITTED = true) (hleave : s.dev.drg.leaveAt = none) : Does s .ringCycleStart (fun t =>
    t.drg.cycNow = s.dev.cycNo ∧
    (s.dev.drg.sending = true → ∃ p, t.drg.tx.take 3 = [⟨1, false, p⟩, ⟨1, true, p⟩, ⟨3, false, t.sharePayload⟩] ∧
      p.take 16 = leBytes 8 s.dev.tb.rt ++ leBytes 4 0 ++ leBytes 4 s.dev.cycNo) ∧
    (s.dev.drg.sending = false → t.drg.tx.head? = some ⟨3, false, t.sharePayload⟩) ∧
    (s.dev.lsLeads = false → t.drg.froz = s.dev.drg.own) ∧
    (∀ k, s.dev.drg.planAt = some k → k ≤ s.dev.cycNo → s.dev.drg.next.all Option.isSome = true →
      t.drg.plan = s.dev.drg.next.map (fun e => e.getD 0) ∧ t.drg.planAt = none ∧ t.g Reg.DRG_STAT_PLAN_VER = s.dev.drg.nextVer % 256) ∧
    (s.dev.drg.planAt = none → t.drg.plan = s.dev.drg.plan) ∧
    t.tb.rt = s.dev.tb.rt ∧ t.pwm = s.dev.pwm ∧ t.ce = s.dev.ce ∧ ∀ a, t.byte a = s.dev.byte a) := by
  obtain ⟨⟨a, b, g, hdrg⟩, hrt, hbegins⟩ := s.dev.cycleBegins_spec
  refine State.does_run (exec_ringCycleStart s) hl ?_
  dsimp only
  rw [show (s.dev.crierGap.updDrg fun r => r.begins s.dev.cycNo) = s.dev.cycleBegins from rfl]
  set e := s.dev.cycleBegins
  clear_value e
  have hleave' : e.drg.leaveAt = none := by rw [hdrg]; exact hleave
  have hadm' : e.on Reg.DRG_STAT_ADMITTED = true := (Dev.on_of_keeps hbegins (by decide)).trans hadm
  have hleads : e.lsLeads = s.dev.lsLeads := by
    unfold Dev.lsLeads Dev.me
    rw [Dev.on_of_keeps hbegins (by decide), Dev.g_of_keeps hbegins (by decide), Dev.g_of_keeps hbegins (by decide)]
  rw [hleave']
  dsimp only
  rw [if_pos hadm']
  obtain ⟨hcyc, hmaster, hother, hfroz, hplan, hat, hparts⟩ := e.cycleParts_spec (by rw [hdrg]; rfl)
  obtain ⟨_, htake⟩ := e.planTake_spec
  have hcycNow : e.drg.cycNow = s.dev.cycNo := by rw [hdrg]; rfl
  have hsend : e.drg.sending = s.dev.drg.sending := by rw [hdrg]; rfl
  have hown : e.drg.own = s.dev.drg.own := by rw [hdrg]; rfl
  have hplanAt : e.drg.planAt = s.dev.drg.planAt := by rw [hdrg]; rfl
  have hplanNow : e.drg.plan = s.dev.drg.plan := by rw [hdrg]; rfl
  have hnext : e.drg.next = s.dev.drg.next ∧ e.drg.nextVer = s.dev.drg.nextVer := by rw [hdrg]; exact ⟨rfl, rfl⟩
  have hsame {q : Part} (hq : q ∉ [Part.drg, .free] ∧ q ∉ [Part.drg, .raised] ∧ q ∉ [Part.drg, .tb] := by decide) : q.same s.dev e.cycleParts :=
    Part.same_trans (Part.same_trans (hbegins.2 q hq.2.2) (htake.2 q hq.2.1)) (hparts.2 q hq.1)
  rw [hcycNow, hsend, hrt] at hmaster
  refine ⟨hcyc.trans hcycNow, hmaster, hsend ▸ hother, fun h => (hfroz (hleads.trans h)).trans hown, fun k hk hdue hall => ?_, fun h => ?_, ?_,
    hsame (q := .pwm), hsame (q := .ce), hsame (q := .mem)⟩
  · obtain ⟨htaken, hver, _⟩ := e.planTake_due (hplanAt.trans hk) (hcycNow ▸ hdue) (hnext.1 ▸ hall)
    refine ⟨?_, ?_, ?_⟩
    · rw [hplan, htaken, hnext.1]
    · rw [hat, htaken]
    · rw [Dev.g_of_keeps hparts (by decide), hver, hnext.2]
  · rw [hplan, e.planTake_none (hplanAt.trans h), hplanNow]
  · rw [show e.cycleParts.tb = e.planTake.tb from hparts.2 .tb (by decide), show e.planTake.tb = e.tb from htake.2 .tb (by decide), hrt]

theorem cycleLeaves {k : Nat} (hleave : s.dev.drg.leaveAt = some k) (hk : k ≤ s.dev.cycNo) : Does s .ringCycleStart (fun t =>
    t.on Reg.DRG_STAT_ADMITTED = false ∧ t.drg.sending = false ∧ t.drg.leaveAt = none ∧ t.drg.tx = [] ∧ t.g Reg.RT_STAT_STATE = 0 ∧
      t.on Reg.RT_STAT_MASTER = false ∧ t.tb.rt = s.dev.tb.rt ∧ t.pwm = s.dev.pwm ∧ ∀ a, t.byte a = s.dev.byte a) := by
  obtain ⟨⟨a, b, g, hdrg⟩, hrt, hbegins⟩ := s.dev.cycleBegins_spec
  refine State.does_run (exec_ringCycleStart s) hl ?_
  dsimp only
  rw [show (s.dev.crierGap.updDrg fun r => r.begins s.dev.cycNo) = s.dev.cycleBegins from rfl]
  set e := s.dev.cycleBegins
  clear_value e
  have hleave' : e.drg.leaveAt = some k := by rw [hdrg]; exact hleave
  obtain ⟨hadm, hmaster⟩ := e.ringOut_out
  have hout := e.ringOut_keeps
  rw [hleave']
  dsimp only
  simp only [hk, if_true]
  rw [hadm, if_neg Bool.false_ne_true, e.ringOut_drg]
  refine ⟨hadm, rfl, rfl, by rw [hdrg]; rfl, e.ringOut_state, hmaster, ?_, ?_, fun a => ?_⟩
  · rw [show e.ringOut.tb = e.tb from hout.2 .tb (by decide), hrt]
  · exact (hout.2 .pwm (by decide)).trans (hbegins.2 .pwm (by decide))
  · exact (hout.2 .mem (by decide) a).trans (hbegins.2 .mem (by decide) a)

end

end Sys2Proof.Machine
end

section
/-! PROOFS. What follows the ring's share buffer leaves the buffer: remote wheels, Bell answers and load sharing (R348, R351 to R354). -/

namespace Sys2Proof.Machine

/-! ## What stays -/

/-- The registers that show the nodes of the ring. -/
def shareKey (k : Nat) : Prop := (0x300E00C0 ≤ k ∧ k < 0x300E0100) ∨ k = Reg.DRG_PRESENT

/-- From `d` to `t` the share words, the frames that wait, what shows the nodes, RT64, the drives and the memories are the same. -/
structure Dev.shareStays (d t : Dev) : Prop where
  word : ∀ k, shareKey k → t.word k = d.word k
  words : t.drg.words = d.drg.words
  inbox : t.drg.inbox = d.drg.inbox
  rt : t.tb.rt = d.tb.rt
  pwm : t.pwm = d.pwm
  byte : ∀ a, t.byte a = d.byte a

namespace Dev.shareStays

variable {d t u : Dev}

theorem refl (d : Dev) : d.shareStays d := ⟨fun _ _ => rfl, rfl, rfl, rfl, rfl, fun _ => rfl⟩

theorem trans (h : d.shareStays t) (g : t.shareStays u) : d.shareStays u :=
  ⟨fun k hk => (g.word k hk).trans (h.word k hk), g.words.trans h.words, g.inbox.trans h.inbox, g.rt.trans h.rt, g.pwm.trans h.pwm,
    fun a => (g.byte a).trans (h.byte a)⟩

/-- A field that shows a node. -/
theorem field (h : d.shareStays t) {f : RF} (hf : shareKey f.key) : t.g f = d.g f := by
  rw [Dev.g, Dev.g, h.word _ hf]

/-- What keeps the buffer's parts and writes none of its registers. -/
theorem ofKeeps (h : d.shareStays t) {fs : List RF} {ps : List Part} (k : t.keeps u fs ps) (hfs : ∀ f ∈ fs, ¬ shareKey f.key)
    (hps : Part.drg ∉ ps ∧ Part.tb ∉ ps ∧ Part.pwm ∉ ps ∧ Part.mem ∉ ps := by decide) : d.shareStays u := by
  obtain ⟨hdrg, htb, hpwm, hmem⟩ := hps
  have hdrg' : u.drg = t.drg := k.2 .drg hdrg
  refine h.trans ⟨fun j hj => Dev.word_of_keeps k fun f hf he => hfs f hf (he ▸ hj), by rw [hdrg'], by rw [hdrg'], ?_, k.2 .pwm hpwm, k.2 .mem hmem⟩
  rw [show u.tb = t.tb from k.2 .tb htb]

theorem s (h : d.shareStays t) (f : RF) (v : Nat) (hf : ¬ shareKey f.key) : d.shareStays (t.s f v) :=
  h.trans ⟨fun _ hk => t.word_s_other f v fun he => hf (he ▸ hk), rfl, rfl, rfl, rfl, fun _ => rfl⟩

theorem raise (h : d.shareStays t) (code : Nat) (ctx : List Nat) : d.shareStays (t.raise code ctx) :=
  h.trans ⟨fun _ _ => rfl, rfl, rfl, rfl, rfl, fun _ => rfl⟩

theorem openDiv (h : d.shareStays t) (a b : Int) : d.shareStays (t.openDiv a b).2 := h.ofKeeps (t.openDiv_keeps a b) (by simp)

theorem withHst (h : d.shareStays t) (x : Hst) : d.shareStays { t with hst := x } := h.trans ⟨fun _ _ => rfl, rfl, rfl, rfl, rfl, fun _ => rfl⟩

theorem withCe (h : d.shareStays t) (x : Ce) : d.shareStays { t with ce := x } := h.trans ⟨fun _ _ => rfl, rfl, rfl, rfl, rfl, fun _ => rfl⟩

theorem withBells (h : d.shareStays t) (l : List Bell) : d.shareStays { t with tb := { t.tb with bells := l } } :=
  h.trans ⟨fun _ _ => rfl, rfl, rfl, rfl, rfl, fun _ => rfl⟩

theorem updDrg (h : d.shareStays t) (f : Drg → Drg) (hf : ∀ r, (f r).words = r.words ∧ (f r).inbox = r.inbox := by exact fun _ => ⟨rfl, rfl⟩) :
    d.shareStays (t.updDrg f) := h.trans ⟨fun _ _ => rfl, (hf _).1, (hf _).2, rfl, rfl, fun _ => rfl⟩

theorem ite {P : Prop} [Decidable P] (ht : P → d.shareStays t) (hu : ¬ P → d.shareStays u) : d.shareStays (if P then t else u) := by
  split
  · next h => exact ht h
  · next h => exact hu h

theorem when (h : d.shareStays t) (b : Bool) (f : Dev → Dev) (hf : t.shareStays (f t)) : d.shareStays (t.when b f) :=
  ite (fun _ => h.trans hf) fun _ => h

theorem each {α : Type} (h : d.shareStays t) (l : List α) (f : Dev → α → Dev) (hf : ∀ x, ∀ a ∈ l, Dev.shareStays x (f x a)) :
    d.shareStays (t.each l f) := h.trans (Dev.each_mem refl trans l f hf t)

end Dev.shareStays

/-! ## Remote wheels (R351) -/

theorem Dev.wheelSample_stays (d : Dev) {n : Nat} (hn : n < 16) (p t span : Int) (spd : Option Int) : d.shareStays (d.wheelSample n p t span spd) := by
  by_cases hen : d.on (Reg.WHL_CFG_EN n) = true
  · have h := (d.wheelSample_samples hn hen p t span spd).frame
    have hdrg : (d.wheelSample n p t span spd).drg = d.drg := h.2 .drg (by decide)
    refine ⟨fun k hk => Dev.word_of_keeps h ?_, by rw [hdrg], by rw [hdrg], (d.wheelSample_keepsTime n p t span spd).rt, h.2 .pwm (by decide),
      h.2 .mem (by decide)⟩
    intro f hf he
    simp only [whlTold, List.mem_cons, List.not_mem_nil, or_false] at hf
    rw [he] at hk
    unfold shareKey Reg.DRG_PRESENT at hk
    rcases hf with rfl | rfl | rfl <;>
      simp only [Reg.WHL_STAT_STALE, Reg.WHL_UPD_CNT_COUNT, Reg.WHL_STAT_JUMP, Reg.WHL_STAT, Reg.WHL_UPD_CNT] at hk <;> omega
  · rw [Dev.wheelSample, if_neg hen]
    exact .refl d

theorem Dev.remoteWheels_stays (d : Dev) : d.shareStays d.remoteWheels := by
  refine (Dev.shareStays.refl d).each _ _ fun x n hn => .ite (fun _ => ?_) fun _ => .refl x
  dsimp only
  split
  · exact .ite (fun _ => .refl x) fun _ => x.wheelSample_stays (List.mem_range.1 hn) _ _ _ _
  · exact .refl x

/-! ## Bell answers (R348) -/

theorem rbell_notShare : ¬ shareKey Reg.RBELL_ACK := by
  unfold shareKey
  decide

theorem Dev.bellAnswers_stays (d : Dev) : d.shareStays d.bellAnswers := by
  unfold Dev.bellAnswers
  split
  · exact .refl d
  · dsimp only
    split
    · exact .refl d
    · refine .when (.when ((Dev.shareStays.refl d).withBells _) _ _ ?_) _ _ ?_
      · exact ((Dev.shareStays.refl _).s _ _ rbell_notShare).s _ _ rbell_notShare
      · exact (Dev.shareStays.refl _).raise _ _

/-! ## Load sharing (R352 to R354) -/

theorem lsStat_notShare : ¬ shareKey Reg.LS_STAT := by
  unfold shareKey
  decide

theorem lsScale_notShare : ¬ shareKey Reg.LS_SCALE := by
  unfold shareKey
  decide

theorem assist3_notShare : ¬ shareKey (Reg.ASSIST_CFG 3) := by
  unfold shareKey
  decide

theorem Dev.propose3_stays (d : Dev) (unit code : Nat) : d.shareStays (d.propose 3 unit code) := by
  unfold Dev.propose Dev.showPending
  exact (((Dev.shareStays.refl d).withHst _).s _ _ assist3_notShare).raise _ _

theorem Dev.lsMember_stays (d : Dev) (n : Nat) : d.shareStays (d.lsMember n) := by
  unfold Dev.lsMember
  dsimp only
  refine .ite (fun _ => (Dev.shareStays.refl d).updDrg _) fun _ => .ite (fun _ => ?_) fun _ => .refl d
  refine .ite (fun _ => (((Dev.shareStays.refl d).updDrg _).raise _ _).updDrg _) fun _ => ?_
  refine .ite (fun _ => ?_) fun _ => ?_
  · exact (((((((Dev.shareStays.refl d).updDrg _).raise _ _).updDrg _).s Reg.LS_STAT_PEND _ lsStat_notShare).raise _ _)).trans
      (Dev.propose3_stays _ _ _)
  · exact ((((Dev.shareStays.refl d).updDrg _).raise _ _).updDrg _).s Reg.LS_STAT_PEND _ lsStat_notShare

theorem Dev.lsPort_stays (d : Dev) (en ctx port : RF) (v : Int) : d.shareStays (d.lsPort en ctx port v) :=
  .ite (fun _ => (Dev.shareStays.refl d).withCe _) fun _ => .refl d

theorem Dev.lsApply_stays (d : Dev) : d.shareStays d.lsApply := by
  unfold Dev.lsApply
  dsimp only
  refine .ite (fun _ => (Dev.shareStays.refl d).when _ _ ?_) fun _ => ?_
  · exact ((Dev.shareStays.refl d).s Reg.LS_STAT_LEADER_LOST _ lsStat_notShare).raise _ _
  have hfound := (Dev.shareStays.refl d).when ((d.rnode (d.g Reg.LS_CFG_LEADER)).miss == 0) (fun d => d.s Reg.LS_STAT_LEADER_LOST 0)
    ((Dev.shareStays.refl d).s _ _ lsStat_notShare)
  generalize (d.when ((d.rnode (d.g Reg.LS_CFG_LEADER)).miss == 0) fun d => d.s Reg.LS_STAT_LEADER_LOST 0) = e at hfound ⊢
  have hshown (sc incl : Nat) := (hfound.s Reg.LS_SCALE_SCALE sc lsScale_notShare).s Reg.LS_STAT_INCL incl lsStat_notShare
  have hshare (b : Bool) (z : Int) (x : Dev) (hx : d.shareStays x) : d.shareStays (if b then x.openDiv z (2 ^ 20) else (0, x)).2 := by
    split
    · exact hx.openDiv _ _
    · exact hx
  have hport (x : Dev) (hx : d.shareStays x) (b : Bool) (z v : Int) :=
    ((hshare b z x hx).updDrg (fun r => { r with lsT := v })).trans (Dev.lsPort_stays _ Reg.LS_TGT_EN Reg.LS_TGT_CTX Reg.LS_TGT_PORT v)
  refine .ite (fun _ => ?_) fun _ => hport _ (hshown _ _) _ _ _
  exact (((hport _ (hshown _ _) _ _ _).openDiv _ _).openDiv _ _).trans (Dev.lsPort_stays _ _ _ _ _)

/-! ## All that follows (R331, R344) -/

/-- What follows the received words of a cycle. -/
def Dev.shareFollows (d : Dev) : Dev :=
  let d := d.remoteWheels.bellAnswers
  let d := d.when d.lsLeads (fun d => d.each (maskBits 16 (d.g Reg.LS_MEMBERS_MASK)) Dev.lsMember)
  let d := d.when (d.on Reg.LS_CFG_EN) Dev.lsApply
  let locked := (d.g Reg.DRG_PRESENT_PRESENT).testBit d.drg.former && d.nstat d.drg.former 0 % 4 == 2
  d.updDrg (fun r => { r with lockRun := if d.on Reg.DRG_STAT_ACTING && locked then r.lockRun + 1 else 0 })

theorem Dev.shareFollows_stays (d : Dev) : d.shareStays d.shareFollows := by
  unfold Dev.shareFollows
  dsimp only
  have hanswers : d.shareStays d.remoteWheels.bellAnswers := d.remoteWheels_stays.trans (Dev.bellAnswers_stays _)
  exact ((hanswers.when _ _ ((Dev.shareStays.refl _).each _ _ fun x n _ => x.lsMember_stays n)).when _ _ (Dev.lsApply_stays _)).updDrg _

end Sys2Proof.Machine
end

section
/-! PROOFS. The share buffer of one node of the ring (R331, R332). -/

namespace Sys2Proof.Machine

/-! ## The stages for one node -/

/-- The words of a node, in order. -/
def Dev.putWords (d : Dev) (n : Nat) (ws : List Nat) : Dev := d.each ws.zipIdx fun d p => d.setShareWord n p.2 p.1

/-- The mask of present nodes with a node shown present or not. -/
def presentMask (p n : Nat) (here : Bool) : Nat := if here then p ||| 2 ^ n else p &&& (65535 - 2 ^ n)

/-- The status of a node that is present. -/
def Dev.showStat (d : Dev) (n : Nat) : Dev :=
  let d := (d.s (Reg.NODE_STAT_AVAIL n) (d.nstat n 2)).s (Reg.NODE_STAT_STATE n) (d.nstat n 0)
  (d.s (Reg.NODE_STAT_NEXT n) (d.nstat n 1)).s (Reg.NODE_STAT_W n) (d.nstat n 3)

/-- A node shown present or not. -/
def Dev.showNode (d : Dev) (n : Nat) (here : Bool) : Dev :=
  let d := d.s (Reg.NODE_STAT_PRESENT n) (b2n here)
  let d := d.s Reg.DRG_PRESENT_PRESENT (presentMask (d.g Reg.DRG_PRESENT_PRESENT) n here)
  if here then d.showStat n else d

/-- A planned frame that is missing is counted. -/
def Dev.missNode (d : Dev) (n : Nat) : Dev :=
  (d.inc (Reg.NODE_STAT_MISS n)).updDrg fun r => { r with nodes := updAt r.nodes n (fun x => { x with miss := x.miss + 1 }) }

/-- The frame of a node for the present cycle. -/
def Drg.heldFrom (r : Drg) (n : Nat) : Option ShareIn := r.inbox.find? (fun f => f.src == n && f.cyc == r.cycNow % 65536)

theorem Dev.takeShare_eq (d : Dev) (carried : Bool) (n : Nat) : d.takeShare carried n =
    if n == d.me && d.on Reg.DRG_STAT_ADMITTED then (d.putWords n (d.drg.froz.take (d.g Reg.DRG_SLOT_ADM_NW))).showNode n true
    else match d.drg.heldFrom n with
      | some f => ((d.updDrg fun r => { r with nodes := updAt r.nodes n (fun _ => ⟨f.stat, f.whls, 0⟩) }).putWords n f.words).showNode n true
      | none => (d.when (carried && planEn (d.drg.plan.getD n 0)) fun d => d.missNode n).showNode n false := rfl

/-! ## Bits and words -/

theorem testBit_presentMask (p : Nat) {n i : Nat} (hi : i < 16) (hn : n < 16) (here : Bool) :
    (presentMask p n here % 65536).testBit i = if i = n then here else p.testBit i := by
  rw [show (65536 : Nat) = 2 ^ 16 from rfl, Nat.testBit_mod_two_pow, decide_eq_true hi, Bool.true_and]
  cases here with
  | true =>
    rw [presentMask, if_pos rfl, Nat.testBit_or, Nat.testBit_two_pow]
    by_cases h : i = n
    · simp [h]
    · simp [h, Ne.symm h]
  | false =>
    have hlt : 2 ^ n < 2 ^ 16 := Nat.pow_lt_pow_right (by decide) hn
    rw [presentMask, if_neg Bool.false_ne_true, Nat.testBit_and, show 65535 - 2 ^ n = 2 ^ 16 - (2 ^ n + 1) by omega,
      Nat.testBit_two_pow_sub_succ hlt, Nat.testBit_two_pow]
    by_cases h : i = n
    · simp [h]
    · simp [h, Ne.symm h, hi]

theorem Dev.shareWord_of_words {d t : Dev} (h : t.drg.words = d.drg.words) (n w : Nat) : t.shareWord n w = d.shareWord n w := by
  rw [Dev.shareWord, Dev.shareWord, h]

theorem Dev.shareWord_set_same (d : Dev) (n w v : Nat) : (d.setShareWord n w v).shareWord n w = v % 2 ^ 24 := storeGet_set_same _ _ _ _

theorem Dev.shareWord_set_other (d : Dev) {n w m j : Nat} (v : Nat) (h : 64 * (m % 16) + j % 64 ≠ 64 * (n % 16) + w % 64) :
    (d.setShareWord n w v).shareWord m j = d.shareWord m j := storeGet_set_other _ _ _ h

theorem Dev.putWords_other (d : Dev) {n m : Nat} (hn : n < 16) (hm : m < 16) (hne : m ≠ n) (ws : List Nat) (j : Nat) :
    (d.putWords n ws).shareWord m j = d.shareWord m j :=
  Dev.each_rel (R := fun x y => y.shareWord m j = x.shareWord m j) (fun _ => rfl) (fun h g => g.trans h) _ _
    (fun x p => x.shareWord_set_other _ (by omega)) d

/-- The words of a node stand in their places. -/
theorem Dev.putWords_words (n : Nat) (ws : List Nat) : ∀ (d : Dev) (k : Nat), k + ws.length ≤ 64 →
    (∀ i < ws.length, ((ws.zipIdx k).foldl (fun d p => d.setShareWord n p.2 p.1) d).shareWord n (k + i) = ws.getD i 0 % 2 ^ 24) ∧
    ∀ j < k, ((ws.zipIdx k).foldl (fun d p => d.setShareWord n p.2 p.1) d).shareWord n j = d.shareWord n j := by
  induction ws with
  | nil => exact fun d k _ => ⟨fun i hi => absurd hi (Nat.not_lt_zero i), fun _ _ => rfl⟩
  | cons v ws ih =>
    intro d k hk
    rw [List.length_cons] at hk
    obtain ⟨hwords, hbefore⟩ := ih (d.setShareWord n k v) (k + 1) (by omega)
    rw [List.zipIdx_cons, List.foldl_cons]
    refine ⟨fun i hi => ?_, fun j hj => ?_⟩
    · cases i with
      | zero => exact (hbefore k (by omega)).trans (d.shareWord_set_same n k v)
      | succ i =>
        rw [show k + (i + 1) = k + 1 + i by omega]
        exact hwords i (by simpa using hi)
    · exact (hbefore j (by omega)).trans (d.shareWord_set_other v (by omega))

theorem Dev.putWords_same (d : Dev) (n : Nat) {ws : List Nat} (h : ws.length ≤ 64) {i : Nat} (hi : i < ws.length) :
    (d.putWords n ws).shareWord n i = ws.getD i 0 % 2 ^ 24 := by
  have := (Dev.putWords_words n ws d 0 (by omega)).1 i hi
  rwa [Nat.zero_add] at this

theorem Dev.putWords_keeps (d : Dev) (n : Nat) (ws : List Nat) : d.keeps (d.putWords n ws) [] [.drg] :=
  Dev.keeps_each _ _ (fun x _ _ => Dev.keeps_withDrg (by simp) (x.keeps_refl _ _)) (d.keeps_refl _ _)

theorem Dev.putWords_drg (d : Dev) (n : Nat) (ws : List Nat) : ∃ words, (d.putWords n ws).drg = { d.drg with words := words } :=
  Dev.each_rel (R := fun x y => ∃ words, y.drg = { x.drg with words := words }) (f := fun d p => d.setShareWord n p.2 p.1)
    (fun x => ⟨x.drg.words, rfl⟩) (by rintro x y z ⟨a, ha⟩ ⟨b, hb⟩; exact ⟨b, by rw [hb, ha]⟩) ws.zipIdx (fun x p => ⟨_, rfl⟩) d

/-! ## What changes at one node -/

/-- From `d` to `t` the share buffer changes at node `m` alone. -/
structure Dev.sharesAt (m : Nat) (d t : Dev) : Prop where
  word : ∀ k, k ≠ Reg.NODE_STAT m → k ≠ Reg.DRG_PRESENT → t.word k = d.word k
  bits : ∀ i < 16, i ≠ m → (t.g Reg.DRG_PRESENT_PRESENT).testBit i = (d.g Reg.DRG_PRESENT_PRESENT).testBit i
  words : ∀ i < 16, i ≠ m → ∀ w, t.shareWord i w = d.shareWord i w
  drg : ∃ words nodes, t.drg = { d.drg with words := words, nodes := nodes }
  part : ∀ p, p ≠ Part.drg → p.same d t

namespace Dev.sharesAt

variable {m : Nat} {d t u : Dev}

theorem refl (m : Nat) (d : Dev) : Dev.sharesAt m d d :=
  ⟨fun _ _ _ => rfl, fun _ _ _ => rfl, fun _ _ _ _ => rfl, ⟨d.drg.words, d.drg.nodes, rfl⟩, fun p _ => p.same_refl d⟩

theorem trans (h : Dev.sharesAt m d t) (g : Dev.sharesAt m t u) : Dev.sharesAt m d u := by
  refine ⟨fun k hk hp => (g.word k hk hp).trans (h.word k hk hp), fun i hi hm => (g.bits i hi hm).trans (h.bits i hi hm),
    fun i hi hm w => (g.words i hi hm w).trans (h.words i hi hm w), ?_, fun p hp => Part.same_trans (h.part p hp) (g.part p hp)⟩
  obtain ⟨a, b, hab⟩ := h.drg
  obtain ⟨a', b', hab'⟩ := g.drg
  exact ⟨a', b', by rw [hab', hab]⟩

/-- A field of the node's own status. -/
theorem s (h : Dev.sharesAt m d t) (f : RF) (v : Nat) (hf : f.key = Reg.NODE_STAT m) : Dev.sharesAt m d (t.s f v) := by
  refine h.trans ⟨fun k hk _ => t.word_s_other f v (hf ▸ hk), fun i _ _ => ?_, fun _ _ _ _ => rfl, ⟨t.drg.words, t.drg.nodes, rfl⟩, ?_⟩
  · rw [t.g_s_other f _ v (by rw [hf]; simp only [Reg.DRG_PRESENT_PRESENT, Reg.DRG_PRESENT, Reg.NODE_STAT]; omega)]
  · exact fun p hp => (Dev.keeps_setWord (fs := [RF.whole f.key]) (ps := []) List.mem_cons_self (t.keeps_refl _ _)).2 p List.not_mem_nil

theorem updNodes (h : Dev.sharesAt m d t) (f : List RingNode → List RingNode) :
    Dev.sharesAt m d (t.updDrg fun r => { r with nodes := f r.nodes }) :=
  h.trans ⟨fun _ _ _ => rfl, fun _ _ _ => rfl, fun _ _ _ _ => rfl, ⟨t.drg.words, f t.drg.nodes, rfl⟩,
    fun p hp => (t.updDrg_keeps _).2 p (by simpa using hp)⟩

theorem putWords (h : Dev.sharesAt m d t) (hm : m < 16) (ws : List Nat) : Dev.sharesAt m d (t.putWords m ws) := by
  obtain ⟨words, hdrg⟩ := t.putWords_drg m ws
  have hkeeps := t.putWords_keeps m ws
  refine h.trans ⟨fun k _ _ => Dev.word_of_keeps hkeeps (by simp), fun i _ _ => ?_, fun i hi hne w => t.putWords_other hm hi hne ws w,
    ⟨words, t.drg.nodes, hdrg⟩, fun p hp => hkeeps.2 p (by simpa using hp)⟩
  rw [hkeeps.1 _ (by decide) (by simp)]

/-- The mask of present nodes with the node's bit changed. -/
theorem present (h : Dev.sharesAt m d t) (hm : m < 16) (here : Bool) :
    Dev.sharesAt m d (t.s Reg.DRG_PRESENT_PRESENT (presentMask (t.g Reg.DRG_PRESENT_PRESENT) m here)) := by
  refine h.trans ⟨fun k _ hk => t.word_s_other Reg.DRG_PRESENT_PRESENT _ hk, fun i hi hne => ?_, fun _ _ _ _ => rfl,
    ⟨t.drg.words, t.drg.nodes, rfl⟩, ?_⟩
  · rw [t.g_s_same Reg.DRG_PRESENT_PRESENT _ (by decide) (by decide)]
    exact (testBit_presentMask _ hi hm here).trans (if_neg hne)
  · exact fun p hp => (Dev.keeps_setWord (fs := [RF.whole Reg.DRG_PRESENT]) (ps := []) List.mem_cons_self (t.keeps_refl _ _)).2 p List.not_mem_nil

theorem ite {P : Prop} [Decidable P] (ht : Dev.sharesAt m d t) (hu : Dev.sharesAt m d u) : Dev.sharesAt m d (if P then t else u) := by
  split
  · exact ht
  · exact hu

end Dev.sharesAt

theorem Dev.showStat_at (d : Dev) (m : Nat) : Dev.sharesAt m d (d.showStat m) := by
  unfold Dev.showStat
  dsimp only
  exact ((((Dev.sharesAt.refl m d).s _ _ rfl).s _ _ rfl).s _ _ rfl).s _ _ rfl

theorem Dev.showNode_at (d : Dev) {m : Nat} (hm : m < 16) (here : Bool) : Dev.sharesAt m d (d.showNode m here) := by
  unfold Dev.showNode
  dsimp only
  have hpresent := ((Dev.sharesAt.refl m d).s (Reg.NODE_STAT_PRESENT m) (b2n here) rfl).present hm here
  exact .ite (hpresent.trans (Dev.showStat_at _ m)) hpresent

theorem Dev.missNode_at (d : Dev) (m : Nat) : Dev.sharesAt m d (d.missNode m) := by
  unfold Dev.missNode Dev.inc
  exact ((Dev.sharesAt.refl m d).s (Reg.NODE_STAT_MISS m) _ rfl).updNodes fun l => updAt l m fun x => { x with miss := x.miss + 1 }

theorem Dev.takeShare_at (d : Dev) (carried : Bool) {m : Nat} (hm : m < 16) : Dev.sharesAt m d (d.takeShare carried m) := by
  rw [Dev.takeShare_eq]
  refine .ite (((Dev.sharesAt.refl m d).putWords hm _).trans (Dev.showNode_at _ hm true)) ?_
  split
  · next f _ =>
    have hnodes := (Dev.sharesAt.refl m d).updNodes fun l => updAt l m fun _ => ⟨f.stat, f.whls, 0⟩
    exact (hnodes.putWords hm f.words).trans (Dev.showNode_at _ hm true)
  · exact Dev.sharesAt.trans (.ite (d.missNode_at m) (.refl m d)) (Dev.showNode_at _ hm false)

end Sys2Proof.Machine
end

section
/-! PROOFS. What the end of the share region shows of a node (R331, R332, R350). -/

namespace Sys2Proof.Machine

/-! ## A node shown -/

/-- The status fields of a node that is present. -/
def statShown (n : Nat) : List RF := [Reg.NODE_STAT_AVAIL n, Reg.NODE_STAT_STATE n, Reg.NODE_STAT_NEXT n, Reg.NODE_STAT_W n]

theorem Dev.showStat_keeps (d : Dev) (n : Nat) : d.keeps (d.showStat n) (statShown n) [] := by
  unfold Dev.showStat
  dsimp only
  have hset {e : Dev} {f : RF} (v : Nat) (hf : f ∈ statShown n) (h : f.fits) (k : d.keeps e (statShown n) []) : d.keeps (e.s f v) (statShown n) [] :=
    Dev.keeps_s hf h.1 h.2 k
  exact hset _ (by simp [statShown]) (RF.fits_of rfl) (hset _ (by simp [statShown]) (RF.fits_of rfl)
    (hset _ (by simp [statShown]) (RF.fits_of rfl) (hset _ (by simp [statShown]) (RF.fits_of rfl) (d.keeps_refl _ _))))

theorem statShown_apart (n : Nat) : (∀ f ∈ statShown n, (Reg.NODE_STAT_PRESENT n).apart f) ∧ (∀ f ∈ statShown n, (Reg.NODE_STAT_MISS n).apart f) := by
  simp [statShown, RF.apart, Reg.NODE_STAT_AVAIL, Reg.NODE_STAT_STATE, Reg.NODE_STAT_NEXT, Reg.NODE_STAT_W, Reg.NODE_STAT_PRESENT,
    Reg.NODE_STAT_MISS]

theorem nodeStat_ne (n : Nat) : Reg.NODE_STAT n ≠ Reg.DRG_PRESENT := by
  unfold Reg.NODE_STAT Reg.DRG_PRESENT
  omega

theorem Dev.showNode_spec (d : Dev) {n : Nat} (hn : n < 16) (here : Bool) : (d.showNode n here).on (Reg.NODE_STAT_PRESENT n) = here ∧
    ((d.showNode n here).g Reg.DRG_PRESENT_PRESENT).testBit n = here ∧ (d.showNode n here).g (Reg.NODE_STAT_MISS n) = d.g (Reg.NODE_STAT_MISS n) ∧
    (d.showNode n here).drg = d.drg := by
  set e := d.s (Reg.NODE_STAT_PRESENT n) (b2n here) with he
  have hpresent : e.on (Reg.NODE_STAT_PRESENT n) = here := by
    rw [he, Dev.on, d.g_s_same (Reg.NODE_STAT_PRESENT n) _ (RF.fits_of rfl).1 (RF.fits_of rfl).2]
    cases here <;> rfl
  have hmiss : e.g (Reg.NODE_STAT_MISS n) = d.g (Reg.NODE_STAT_MISS n) :=
    d.g_s_apart (f := Reg.NODE_STAT_PRESENT n) _ (RF.fits_of rfl) (RF.fits_of rfl).1 (.inr (.inl (show 15 < 16 by decide)))
  have hdrg : e.drg = d.drg := Dev.s_drg _ _ _
  have hshow : d.showNode n here = (let x := e.s Reg.DRG_PRESENT_PRESENT (presentMask (e.g Reg.DRG_PRESENT_PRESENT) n here)
      if here then x.showStat n else x) := rfl
  clear_value e
  set x := e.s Reg.DRG_PRESENT_PRESENT (presentMask (e.g Reg.DRG_PRESENT_PRESENT) n here) with hx
  have hkey (f : RF) (hf : f.key = Reg.NODE_STAT n) : x.g f = e.g f :=
    e.g_s_other Reg.DRG_PRESENT_PRESENT f _ (hf ▸ nodeStat_ne n)
  have hbit : (x.g Reg.DRG_PRESENT_PRESENT).testBit n = here := by
    rw [hx, e.g_s_same Reg.DRG_PRESENT_PRESENT _ (by decide) (by decide)]
    exact (testBit_presentMask _ hn hn here).trans (if_pos rfl)
  have hdrg' : x.drg = d.drg := (Dev.s_drg _ _ _).trans hdrg
  have hx1 : x.on (Reg.NODE_STAT_PRESENT n) = here := by rw [Dev.on, hkey _ rfl, ← Dev.on, hpresent]
  have hx2 : x.g (Reg.NODE_STAT_MISS n) = d.g (Reg.NODE_STAT_MISS n) := (hkey _ rfl).trans hmiss
  clear_value x
  rw [hshow]
  dsimp only
  split
  · have hstat := x.showStat_keeps n
    obtain ⟨hp, hm⟩ := statShown_apart n
    refine ⟨?_, ?_, (hstat.1 _ (RF.fits_of rfl).1 hm).trans hx2, (hstat.2 .drg (by decide)).trans hdrg'⟩
    · rw [Dev.on, hstat.1 _ (RF.fits_of rfl).1 hp, ← Dev.on, hx1]
    · rw [hstat.1 _ (by decide) (fun f hf => .inl ?_), hbit]
      simp only [statShown, List.mem_cons, List.not_mem_nil, or_false] at hf
      rcases hf with rfl | rfl | rfl | rfl <;> exact (nodeStat_ne n).symm
  · exact ⟨hx1, hbit, hx2, hdrg'⟩

/-! ## A node taken -/

theorem Dev.takeShare_own (d : Dev) (carried : Bool) (hadm : d.on Reg.DRG_STAT_ADMITTED = true) (hfroz : d.drg.froz.length = 64) {w : Nat}
    (hw : w < 64) (hnw : w < d.g Reg.DRG_SLOT_ADM_NW) : (d.takeShare carried d.me).shareWord d.me w = d.drg.froz.getD w 0 % 2 ^ 24 := by
  have hlen : (d.drg.froz.take (d.g Reg.DRG_SLOT_ADM_NW)).length = min (d.g Reg.DRG_SLOT_ADM_NW) 64 := by rw [List.length_take, hfroz]
  obtain ⟨_, _, _, hdrg⟩ := (d.putWords d.me (d.drg.froz.take (d.g Reg.DRG_SLOT_ADM_NW))).showNode_spec d.me_lt true
  rw [Dev.takeShare_eq, hadm, Bool.and_true, if_pos (beq_self_eq_true _)]
  refine (Dev.shareWord_of_words (by rw [hdrg]) _ _).trans ((Dev.putWords_same _ _ (by omega) (by omega)).trans ?_)
  rw [List.getD_eq_getElem?_getD, List.getElem?_take, if_pos hnw, ← List.getD_eq_getElem?_getD]

theorem Dev.takeShare_here (d : Dev) (carried : Bool) {n : Nat} (hn : n < 16) (hne : n ≠ d.me) {f : ShareIn} (hf : d.drg.heldFrom n = some f) :
    (d.takeShare carried n).on (Reg.NODE_STAT_PRESENT n) = true ∧ ((d.takeShare carried n).g Reg.DRG_PRESENT_PRESENT).testBit n = true ∧
    (f.words.length ≤ 64 → ∀ w < f.words.length, (d.takeShare carried n).shareWord n w = f.words.getD w 0 % 2 ^ 24) := by
  have hother : (n == d.me && d.on Reg.DRG_STAT_ADMITTED) = false := by rw [beq_false_of_ne hne, Bool.false_and]
  rw [Dev.takeShare_eq, hother, if_neg Bool.false_ne_true, hf]
  dsimp only
  generalize (d.updDrg fun r => { r with nodes := updAt r.nodes n (fun _ => ⟨f.stat, f.whls, 0⟩) }) = e
  obtain ⟨hon, hbit, _, hdrg⟩ := (e.putWords n f.words).showNode_spec hn true
  exact ⟨hon, hbit, fun hlen w hw => (Dev.shareWord_of_words (by rw [hdrg]) n w).trans (e.putWords_same n hlen hw)⟩

theorem Dev.missNode_spec (d : Dev) (n : Nat) : (d.missNode n).g (Reg.NODE_STAT_MISS n) = satInc 65535 (d.g (Reg.NODE_STAT_MISS n)) ∧
    (d.missNode n).drg.words = d.drg.words := by
  have hcount := d.g_inc16 (Reg.NODE_STAT_MISS n) (RF.fits_of rfl).1 (Nat.le_refl _) rfl
  refine ⟨(((d.inc (Reg.NODE_STAT_MISS n)).updDrg_keeps _).1 _ (RF.fits_of rfl).1 (List.forall_mem_nil _)).trans hcount, ?_⟩
  rw [Dev.missNode, Dev.updDrg, Dev.inc_drg]

theorem Dev.takeShare_missing (d : Dev) (carried : Bool) {n : Nat} (hn : n < 16) (hne : n ≠ d.me) (hf : d.drg.heldFrom n = none) :
    (d.takeShare carried n).on (Reg.NODE_STAT_PRESENT n) = false ∧ ((d.takeShare carried n).g Reg.DRG_PRESENT_PRESENT).testBit n = false ∧
    (planEn (d.drg.plan.getD n 0) = true → carried = true →
      (d.takeShare carried n).g (Reg.NODE_STAT_MISS n) = satInc 65535 (d.g (Reg.NODE_STAT_MISS n))) ∧
    ∀ w, (d.takeShare carried n).shareWord n w = d.shareWord n w := by
  have hother : (n == d.me && d.on Reg.DRG_STAT_ADMITTED) = false := by rw [beq_false_of_ne hne, Bool.false_and]
  obtain ⟨hcount, hwords⟩ := d.missNode_spec n
  rw [Dev.takeShare_eq, hother, if_neg Bool.false_ne_true, hf]
  dsimp only
  unfold Dev.when
  obtain ⟨hon, hbit, hmiss, hdrg⟩ :=
    (if (carried && planEn (d.drg.plan.getD n 0)) = true then d.missNode n else d).showNode_spec hn false
  refine ⟨hon, hbit, fun hplan hcarried => ?_, fun w => Dev.shareWord_of_words ?_ n w⟩
  · rw [hmiss, hplan, hcarried, if_pos (by rfl), hcount]
  · rw [hdrg]
    split
    · exact hwords
    · rfl

end Sys2Proof.Machine
end

section
/-! PROOFS. The end of the share region (R331, R332), and the cycles of the ring. -/

namespace Sys2Proof.Machine

/-! ## The work for the other nodes -/

/-- From `d` to `t` other nodes than `n` were taken. -/
structure Dev.nodeStays (n : Nat) (d t : Dev) : Prop where
  word : ∀ k, k ≠ Reg.DRG_PRESENT → (∀ m < 16, m ≠ n → k ≠ Reg.NODE_STAT m) → t.word k = d.word k
  bit : (t.g Reg.DRG_PRESENT_PRESENT).testBit n = (d.g Reg.DRG_PRESENT_PRESENT).testBit n
  words : ∀ w, t.shareWord n w = d.shareWord n w
  drg : ∃ words nodes, t.drg = { d.drg with words := words, nodes := nodes }

namespace Dev.nodeStays

variable {n : Nat} {d t u : Dev}

theorem refl (n : Nat) (d : Dev) : Dev.nodeStays n d d := ⟨fun _ _ _ => rfl, rfl, fun _ => rfl, ⟨d.drg.words, d.drg.nodes, rfl⟩⟩

theorem trans (h : Dev.nodeStays n d t) (g : Dev.nodeStays n t u) : Dev.nodeStays n d u := by
  refine ⟨fun k hk hm => (g.word k hk hm).trans (h.word k hk hm), g.bit.trans h.bit, fun w => (g.words w).trans (h.words w), ?_⟩
  obtain ⟨a, b, hab⟩ := h.drg
  obtain ⟨a', b', hab'⟩ := g.drg
  exact ⟨a', b', by rw [hab', hab]⟩

theorem of_at {m : Nat} (h : Dev.sharesAt m d t) (hm : m < 16) (hn : n < 16) (hne : m ≠ n) : Dev.nodeStays n d t :=
  ⟨fun k hk hother => h.word k (hother m hm hne) hk, h.bits n hn hne.symm, h.words n hn hne.symm, h.drg⟩

/-- A field of the node itself. -/
theorem field (h : Dev.nodeStays n d t) {f : RF} (hf : f.key = Reg.NODE_STAT n) : t.g f = d.g f := by
  rw [Dev.g, Dev.g, hf, h.word _ (nodeStat_ne n) fun m _ hne => ?_]
  unfold Reg.NODE_STAT
  omega

/-- A field of a register that shows no node. -/
theorem beside (h : Dev.nodeStays n d t) {f : RF} (hf : ¬ shareKey f.key) : t.g f = d.g f := by
  rw [Dev.g, Dev.g, h.word _ (fun he => hf (.inr he)) fun m hm _ he => hf (.inl ?_)]
  rw [he]
  unfold Reg.NODE_STAT
  omega

theorem held (h : Dev.nodeStays n d t) (m : Nat) : t.drg.heldFrom m = d.drg.heldFrom m := by
  obtain ⟨_, _, hdrg⟩ := h.drg
  rw [hdrg]
  rfl

end Dev.nodeStays

theorem nodeKey_share {n : Nat} (hn : n < 16) : shareKey (Reg.NODE_STAT n) := by
  refine .inl ?_
  unfold Reg.NODE_STAT
  omega

theorem notShare_node : ¬ shareKey Reg.DRG_NODE_NODE.key := by
  unfold shareKey
  decide

theorem notShare_stat : ¬ shareKey Reg.DRG_STAT_ADMITTED.key := by
  unfold shareKey
  decide

theorem notShare_slotAdm : ¬ shareKey Reg.DRG_SLOT_ADM_NW.key := by
  unfold shareKey
  decide

/-! ## All nodes -/

/-- The buffer of every node taken. -/
def Dev.takeShares (d : Dev) (carried : Bool) : Dev := d.each (List.range 16) fun d n => d.takeShare carried n

theorem Dev.takeShares_node (d : Dev) (carried : Bool) {n : Nat} (hn : n < 16) :
    ∃ x, Dev.nodeStays n d x ∧ Dev.nodeStays n (x.takeShare carried n) (d.takeShares carried) :=
  Dev.each_at (Dev.nodeStays.refl n) Dev.nodeStays.trans List.nodup_range (List.mem_range.2 hn) (fun d n => d.takeShare carried n)
    (fun x _ hm hne => .of_at (x.takeShare_at carried (List.mem_range.1 hm)) (List.mem_range.1 hm) hn hne) d

theorem Dev.takeShares_part (d : Dev) (carried : Bool) : ∀ p, p ≠ Part.drg → p.same d (d.takeShares carried) :=
  Dev.each_mem (S := fun x y => ∀ p, p ≠ Part.drg → p.same x y) (fun x p _ => p.same_refl x)
    (fun h g p hp => Part.same_trans (h p hp) (g p hp)) _ _ (fun x _ hm => (x.takeShare_at carried (List.mem_range.1 hm)).part) d

theorem exec_shareBufferComplete (s : State) : exec .shareBufferComplete s = s.run fun d =>
    if d.on Reg.DRG_STAT_ADMITTED then
      ((d.takeShares (d.drg.sending || d.drg.lastA == some d.drg.cycNow || d.drg.lastB == some d.drg.cycNow)).updDrg
        fun r => { r with inbox := [] }).shareFollows
    else d := rfl

/-- The buffer once it is taken, with all that follows. -/
structure Dev.bufferTaken (d t : Dev) (carried : Bool) : Prop where
  inbox : t.drg.inbox = []
  field : ∀ n < 16, ∀ f : RF, f.key = Reg.NODE_STAT n → t.g f = (d.takeShares carried).g f
  mask : t.g Reg.DRG_PRESENT_PRESENT = (d.takeShares carried).g Reg.DRG_PRESENT_PRESENT
  words : ∀ n w, t.shareWord n w = (d.takeShares carried).shareWord n w
  rt : t.tb.rt = d.tb.rt
  pwm : t.pwm = d.pwm
  byte : ∀ a, t.byte a = d.byte a

theorem Dev.bufferTaken_follows (d : Dev) (carried : Bool) :
    d.bufferTaken ((d.takeShares carried).updDrg fun r => { r with inbox := [] }).shareFollows carried := by
  set x := (d.takeShares carried).updDrg fun r => { r with inbox := [] } with hx
  have hkeeps : (d.takeShares carried).keeps x [] [.drg] := Dev.updDrg_keeps _ _
  have hwords : x.drg.words = (d.takeShares carried).drg.words := rfl
  have hinbox : x.drg.inbox = [] := rfl
  have hpart (p : Part) (hp : p ≠ .drg) : p.same d x := Part.same_trans (d.takeShares_part carried p hp) (hkeeps.2 p (by simpa using hp))
  clear_value x
  have h := x.shareFollows_stays
  refine ⟨h.inbox.trans hinbox, fun n hn f hf => ?_, ?_, fun n w => Dev.shareWord_of_words (h.words.trans hwords) n w, ?_, ?_, fun a => ?_⟩
  · rw [h.field (hf ▸ nodeKey_share hn), Dev.g, Dev.g, Dev.word_of_keeps hkeeps (by simp)]
  · rw [h.field (.inr rfl), Dev.g, Dev.g, Dev.word_of_keeps hkeeps (by simp)]
  · rw [h.rt, show x.tb = d.tb from hpart .tb (by decide)]
  · rw [h.pwm, show x.pwm = d.pwm from hpart .pwm (by decide)]
  · exact (h.byte a).trans (hpart .mem (by decide) a)

theorem bufferCompletes {s : State} (hl : s.dev.live = true) (hadm : s.dev.on Reg.DRG_STAT_ADMITTED = true) (hfroz : s.dev.drg.froz.length = 64) :
    Does s .shareBufferComplete (fun t => t.drg.inbox = [] ∧
      (∀ n < 16, n ≠ s.dev.me → ∀ f, s.dev.drg.heldFrom n = some f →
        t.on (Reg.NODE_STAT_PRESENT n) = true ∧ (t.g Reg.DRG_PRESENT_PRESENT).testBit n = true ∧
        (f.words.length ≤ 64 → ∀ w < f.words.length, t.shareWord n w = f.words.getD w 0 % 2 ^ 24)) ∧
      (∀ n < 16, n ≠ s.dev.me → s.dev.drg.heldFrom n = none →
        t.on (Reg.NODE_STAT_PRESENT n) = false ∧ (t.g Reg.DRG_PRESENT_PRESENT).testBit n = false ∧
        (planEn (s.dev.drg.plan.getD n 0) = true →
          (s.dev.drg.sending = true ∨ s.dev.drg.lastA = some s.dev.drg.cycNow ∨ s.dev.drg.lastB = some s.dev.drg.cycNow) →
          t.g (Reg.NODE_STAT_MISS n) = satInc 65535 (s.dev.g (Reg.NODE_STAT_MISS n))) ∧
        ∀ w < 64, t.shareWord n w = s.dev.shareWord n w) ∧
      (∀ w < 64, w < s.dev.g Reg.DRG_SLOT_ADM_NW → t.shareWord s.dev.me w = s.dev.drg.froz.getD w 0 % 2 ^ 24) ∧
      t.tb.rt = s.dev.tb.rt ∧ t.pwm = s.dev.pwm ∧ ∀ a, t.byte a = s.dev.byte a) := by
  refine State.does_run (exec_shareBufferComplete s) hl ?_
  rw [if_pos hadm]
  set carried := s.dev.drg.sending || s.dev.drg.lastA == some s.dev.drg.cycNow || s.dev.drg.lastB == some s.dev.drg.cycNow with hcarried
  have htaken := s.dev.bufferTaken_follows carried
  generalize ((s.dev.takeShares carried).updDrg fun r => { r with inbox := [] }).shareFollows = t at htaken ⊢
  refine ⟨htaken.inbox, fun n hn hne f hf => ?_, fun n hn hne hf => ?_, fun w hw hnw => ?_, htaken.rt, htaken.pwm, htaken.byte⟩
  · obtain ⟨x, hbefore, hafter⟩ := s.dev.takeShares_node carried hn
    have hme : x.me = s.dev.me := hbefore.beside notShare_node
    obtain ⟨hon, hbit, hwords⟩ := x.takeShare_here carried hn (hme ▸ hne) ((hbefore.held n).trans hf)
    refine ⟨?_, ?_, fun hlen w hw => ?_⟩
    · rw [Dev.on, htaken.field n hn _ rfl, hafter.field rfl, ← Dev.on, hon]
    · rw [htaken.mask, hafter.bit, hbit]
    · rw [htaken.words, hafter.words, hwords hlen w hw]
  · obtain ⟨x, hbefore, hafter⟩ := s.dev.takeShares_node carried hn
    have hme : x.me = s.dev.me := hbefore.beside notShare_node
    have hplan : x.drg.plan = s.dev.drg.plan := by
      obtain ⟨_, _, hdrg⟩ := hbefore.drg
      rw [hdrg]
    obtain ⟨hon, hbit, hmiss, hwords⟩ := x.takeShare_missing carried hn (hme ▸ hne) ((hbefore.held n).trans hf)
    refine ⟨?_, ?_, fun hen hc => ?_, fun w _ => ?_⟩
    · rw [Dev.on, htaken.field n hn _ rfl, hafter.field rfl, ← Dev.on, hon]
    · rw [htaken.mask, hafter.bit, hbit]
    · have hcar : carried = true := by
        rw [hcarried]
        rcases hc with h | h | h <;> simp [h]
      rw [htaken.field n hn _ rfl, hafter.field rfl, hmiss (hplan ▸ hen) hcar, hbefore.field rfl]
    · rw [htaken.words, hafter.words, hwords, hbefore.words]
  · obtain ⟨x, hbefore, hafter⟩ := s.dev.takeShares_node carried s.dev.me_lt
    have hme : x.me = s.dev.me := hbefore.beside notShare_node
    have hfroz' : x.drg.froz = s.dev.drg.froz := by
      obtain ⟨_, _, hdrg⟩ := hbefore.drg
      rw [hdrg]
    have hadm' : x.on Reg.DRG_STAT_ADMITTED = true := by rw [Dev.on, hbefore.beside notShare_stat, ← Dev.on, hadm]
    have hown := x.takeShare_own carried hadm' (hfroz' ▸ hfroz) hw (by rw [hbefore.beside notShare_slotAdm]; exact hnw)
    rw [hme, hfroz'] at hown
    rw [htaken.words, hafter.words, hown]

theorem ringCycles_hold : ringCycles := by
  intro s hl
  exact ⟨cycleStarts hl, fun k => cycleLeaves hl, bufferCompletes hl⟩

end Sys2Proof.Machine
end

section
open Sys2Proof Sys2Proof.Machine

/-- Settles O41: the stages of a cycle and of each frame, put together. -/
theorem ringTraffic : Obligations.RingTraffic := ⟨ringCycles_hold, ringFrames_hold⟩

end

section
/-! PROOFS. A setpoint conditioner with a host value: its scaled, offset, clamped and deadbanded output (R103). -/

namespace Sys2Proof.Machine

/-! ## How far the conditioners reach -/

/-- The registers in which a conditioner shows its result. -/
def spcShown (j k : Nat) : Prop := k = Reg.SPC_OUT j ∨ k = Reg.SPC_STAT j

/-- From `d` to `t` a conditioner has shown its result, and nothing else but a free value and a record is new. -/
abbrev Dev.SpcShows (j : Nat) (d t : Dev) : Prop := Dev.Within (spcShown j) [.free, .raised] True d t

/-- A division takes a free value at most. -/
theorem Dev.Within.openDiv {K : Nat → Prop} {ps : List Part} {c : Prop} {d t : Dev} (h : Dev.Within K ps c d t) (a b : Int)
    (hm : Part.free ∈ ps) : Dev.Within K ps c d (t.openDiv a b).2 := by
  unfold Dev.openDiv
  split
  · exact h
  · split
    · exact h
    · exact h.tookFree hm

theorem Dev.spcUpdate_shows (d : Dev) (j : Nat) : d.SpcShows j (d.spcUpdate j) := by
  have hout : spcShown j (Reg.SPC_OUT j) := .inl rfl
  have hstat : spcShown j (Reg.SPC_STAT j) := .inr rfl
  unfold Dev.spcUpdate
  split
  · exact Within.refl d
  · refine Within.ite (fun _ => ?_) fun _ => Within.ite (fun _ => Within.refl d) fun _ => ?_
    · exact (((((Within.refl d).openDiv _ _ (by simp)).s _ _ hout).s _ _ hstat).s _ _ hstat).s _ _ hstat
    · exact ((Within.refl d).s _ _ hstat).raise _ _ (by simp)

/-! ## The result -/

/-- The value less the deadband. -/
def deadbanded (y db : Int) : Int := if (y.natAbs : Int) ≤ db then 0 else if 0 < y then y - db else y + db

/-- What a conditioner shows of a value `y` that passes its deadband unlimited. -/
def Dev.spcShow (d : Dev) (j : Nat) (y : Int) : Dev :=
  let db : Int := d.g (Reg.SPC_DB_DB j)
  (((d.s (Reg.SPC_OUT_VALUE j) (ofInt 24 (deadbanded y db))).s (Reg.SPC_STAT_INVALID j) 0).s (Reg.SPC_STAT_LIMITING j) 0).s
    (Reg.SPC_STAT_IN_DB j) (b2n (decide ((y.natAbs : Int) ≤ db)))

/-- Where the scaled value is a whole number of LSB, its rounding takes no free value. -/
theorem Dev.spcUpdate_host (d : Dev) {j : Nat} (hkind : d.g (Reg.SPC_CFG_KIND j) = 4) (hrate : d.g (Reg.SPC_RATE_VALUE j) = 0) {q : Int}
    (hq : d.sg (Reg.SPC_SCALE_SCALE j) * d.sg (Reg.SPC_HOST_VALUE j) = q * 2 ^ 24) :
    d.spcUpdate j = d.spcShow j (satInt 24 (q + d.sg (Reg.SPC_OFS_VALUE j))) := by
  have hsource : d.spcSource j = some (d.sg (Reg.SPC_HOST_VALUE j), true) := by
    rw [Dev.spcSource, hkind]
    rfl
  have hnorate : d.sg (Reg.SPC_RATE_VALUE j) = 0 := by
    rw [Dev.sg, hrate]
    rfl
  have hdiv : d.openDiv (d.sg (Reg.SPC_SCALE_SCALE j) * d.sg (Reg.SPC_HOST_VALUE j)) (2 ^ 24) = (q, d) := by
    rw [hq, d.openDiv_exact (by decide)]
  rw [Dev.spcUpdate, hsource]
  dsimp only
  rw [if_pos rfl, hdiv]
  simp only [hnorate, if_true, bne_self_eq_false, b2n, Bool.false_eq_true, if_false, decide_eq_true_eq, Dev.spcShow, deadbanded]

theorem Dev.spcShow_spec (d : Dev) (j : Nat) (y : Int) : let t := d.spcShow j y
    t.g (Reg.SPC_OUT_VALUE j) = ofInt 24 (deadbanded y (d.g (Reg.SPC_DB_DB j))) ∧ t.on (Reg.SPC_STAT_LIMITING j) = false ∧
    t.on (Reg.SPC_STAT_INVALID j) = false ∧ (t.on (Reg.SPC_STAT_IN_DB j) = true ↔ (y.natAbs : Int) ≤ d.g (Reg.SPC_DB_DB j)) := by
  have hout : (Reg.SPC_OUT_VALUE j).fits := RF.fits_of rfl
  have hinv : (Reg.SPC_STAT_INVALID j).fits := RF.fits_of rfl
  have hlim : (Reg.SPC_STAT_LIMITING j).fits := RF.fits_of rfl
  have hin : (Reg.SPC_STAT_IN_DB j).fits := RF.fits_of rfl
  have hkey : Reg.SPC_OUT j ≠ Reg.SPC_STAT j := by unfold Reg.SPC_OUT Reg.SPC_STAT; omega
  have hbelow (lo hi : Nat) (h : lo < hi) : RF.apart ⟨Reg.SPC_STAT j, hi, hi⟩ ⟨Reg.SPC_STAT j, lo, lo⟩ := .inr (.inl h)
  simp only [Dev.spcShow, Dev.on]
  refine ⟨?_, ?_, ?_, ?_⟩
  · rw [Dev.g_s_other _ _ _ _ hkey, Dev.g_s_other _ _ _ _ hkey, Dev.g_s_other _ _ _ _ hkey, Dev.g_s_same _ _ _ hout.1 hout.2]
    exact Nat.mod_eq_of_lt (ofInt_lt 24 _)
  · rw [Dev.g_s_apart _ _ hin hlim.1 (hbelow 0 1 (by decide)), Dev.g_s_same _ _ _ hlim.1 hlim.2]
    simp
  · rw [Dev.g_s_apart _ _ hin hinv.1 (hbelow 0 2 (by decide)), Dev.g_s_apart _ _ hlim hinv.1 (hbelow 1 2 (by decide)),
      Dev.g_s_same _ _ _ hinv.1 hinv.2]
    simp
  · rw [Dev.g_s_same _ _ _ hin.1 hin.2]
    by_cases h : (y.natAbs : Int) ≤ d.g (Reg.SPC_DB_DB j)
    · rw [decide_eq_true h]
      exact iff_of_true rfl h
    · rw [decide_eq_false h]
      exact iff_of_false Bool.false_ne_true h

/-! ## One conditioner among the sixteen -/

/-- The registers that conditioner `j` reads and shows itself in. -/
def spcOwn (j k : Nat) : Prop := Reg.SPC_CFG j ≤ k ∧ k < Reg.SPC_CFG j + 0x20

theorem spcShown_other {i j k : Nat} (h : i ≠ j) (hk : spcOwn j k) : ¬ spcShown i k := by
  unfold spcOwn Reg.SPC_CFG at hk
  unfold spcShown Reg.SPC_OUT Reg.SPC_STAT
  omega

theorem spcOwn_regs (j : Nat) : spcOwn j (Reg.SPC_CFG j) ∧ spcOwn j (Reg.SPC_SCALE j) ∧ spcOwn j (Reg.SPC_OFS j) ∧ spcOwn j (Reg.SPC_DB j) ∧
    spcOwn j (Reg.SPC_RATE j) ∧ spcOwn j (Reg.SPC_HOST j) ∧ spcOwn j (Reg.SPC_OUT j) ∧ spcOwn j (Reg.SPC_STAT j) := by
  unfold spcOwn Reg.SPC_CFG Reg.SPC_SCALE Reg.SPC_OFS Reg.SPC_DB Reg.SPC_RATE Reg.SPC_HOST Reg.SPC_OUT Reg.SPC_STAT
  omega

theorem Dev.g_of_word {d t : Dev} {f : RF} (h : t.word f.key = d.word f.key) : t.g f = d.g f := by
  rw [Dev.g, h]
  rfl

theorem Dev.sg_of_word {d t : Dev} {f : RF} (h : t.word f.key = d.word f.key) : t.sg f = d.sg f := by
  rw [Dev.sg, Dev.g_of_word h]
  rfl

end Sys2Proof.Machine
end

section
open Sys2Proof Sys2Proof.Machine

/-- Settles O19: the other conditioners leave this one's registers, and its own update shows the value less the deadband. -/
theorem setpointConditioners : Obligations.SetpointConditioners := by
  intro s hl j hj hkind hrate q y hq hy
  refine State.does_run (f := fun d => d.each (List.range 16) Dev.spcUpdate) rfl hl ?_
  have hreach := (Dev.Within.refl (K := fun k => ∃ i, spcShown i k) (ps := [.free, .raised]) (c := True) s.dev).each (List.range 16) Dev.spcUpdate
    fun x i _ => (x.spcUpdate_shows i).mono (fun k hk => ⟨i, hk⟩) (List.Subset.refl _) id
  obtain ⟨x, hbefore, hafter⟩ := Dev.each_at (S := fun d t => ∀ k, spcOwn j k → t.word k = d.word k) (fun _ _ _ => rfl)
    (fun h g k hk => (g k hk).trans (h k hk)) List.nodup_range (List.mem_range.2 hj) Dev.spcUpdate
    (fun d i _ hi k hk => (d.spcUpdate_shows i).word k (spcShown_other hi hk)) s.dev
  obtain ⟨hcfg, hscale, hofs, hdb, hratek, hhost, hout, hstat⟩ := spcOwn_regs j
  rw [x.spcUpdate_host ((Dev.g_of_word (hbefore _ hcfg)).trans hkind) ((Dev.g_of_word (hbefore _ hratek)).trans hrate)
    (q := q) (by rw [Dev.sg_of_word (hbefore _ hscale), Dev.sg_of_word (hbefore _ hhost), hq]),
    Dev.sg_of_word (hbefore _ hofs), ← hy] at hafter
  obtain ⟨hvalue, hlimiting, hinvalid, hindb⟩ := x.spcShow_spec j y
  rw [show x.g (Reg.SPC_DB_DB j) = s.dev.g (Reg.SPC_DB_DB j) from Dev.g_of_word (hbefore _ hdb)] at hvalue hindb
  refine ⟨(Dev.g_of_word (hafter _ hout)).trans hvalue, ?_, ?_, ?_, hreach.part .ce (by decide), hreach.part .pwm (by decide),
    hreach.part .tb (by decide), hreach.part .mem (by decide)⟩
  · rw [Dev.on, Dev.g_of_word (hafter _ hstat)]
    exact hlimiting
  · rw [Dev.on, Dev.g_of_word (hafter _ hstat)]
    exact hinvalid
  · rw [Dev.on, Dev.g_of_word (hafter _ hstat)]
    exact hindb

end

section
/-! PROOFS. The engine array: contexts and their engines, the registers that a forcing condition leaves, and engines that lose queued runs
(R76, R77, R173). -/

namespace Sys2Proof.Machine

/-! ## Contexts and their engines -/

theorem mem_ctxNumbers {c : Nat} : c ∈ ctxNumbers ↔ 0 < c ∧ c < 256 := by
  simp only [ctxNumbers, List.mem_map, List.mem_range]
  constructor
  · rintro ⟨n, hn, rfl⟩
    omega
  · rintro ⟨h0, h1⟩
    exact ⟨c - 1, by omega, by omega⟩

theorem ctxNumbers_nodup : ctxNumbers.Nodup := List.nodup_range.map fun _ _ h => Nat.succ.inj h

theorem Dev.mem_engCtxs {d : Dev} {e c : Nat} : c ∈ d.engCtxs e ↔ (0 < c ∧ c < 256) ∧ d.ctxState c ≠ 0 ∧ d.ctxEng c = e := by
  simp [Dev.engCtxs, mem_ctxNumbers]

theorem Dev.engCtxs_nodup (d : Dev) (e : Nat) : (d.engCtxs e).Nodup := ctxNumbers_nodup.filter _

theorem Dev.mem_shadowsOf {d : Dev} {c x : Nat} (h : x ∈ d.shadowsOf c) : x < 256 ∧ d.ctxState x = 3 := by
  simp only [Dev.shadowsOf, List.mem_filter, mem_ctxNumbers, Bool.and_eq_true, beq_iff_eq] at h
  exact ⟨h.1.2, h.2.1⟩

theorem ctxState_fits (c : Nat) : (Reg.CTX_W0_STATE c).fits := RF.fits_of rfl

theorem ctxEng_fits (c : Nat) : (Reg.CTX_W0_ENG c).fits := RF.fits_of rfl

theorem Dev.on_of_word {d t : Dev} {f : RF} (h : t.word f.key = d.word f.key) : t.on f = d.on f := by
  rw [Dev.on, Dev.on, Dev.g_of_word h]

/-- The state, the engine and the channels of a context stand in its entry. -/
theorem Dev.ctxState_of_word {d t : Dev} {c : Nat} (h : t.word (Reg.CTX_W0 c) = d.word (Reg.CTX_W0 c)) : t.ctxState c = d.ctxState c :=
  Dev.g_of_word h

theorem Dev.ctxEng_of_word {d t : Dev} {c : Nat} (h : t.word (Reg.CTX_W0 c) = d.word (Reg.CTX_W0 c)) : t.ctxEng c = d.ctxEng c :=
  Dev.g_of_word h

theorem Dev.ctxBind_of_word {d t : Dev} {c : Nat} (h : t.word (Reg.CTX_W1 c) = d.word (Reg.CTX_W1 c)) : t.ctxBind c = d.ctxBind c :=
  Dev.g_of_word h

/-! ## Forcing conditions, and the registers that they leave -/

/-- The compare shadows of the legs. -/
def cmpShadow (k : Nat) : Prop := ∃ n < 6, ∃ m < 6, k = Reg.PWM_CMP_SH n m

/-- The registers that a forcing condition may write. -/
def forceKey (k : Nat) : Prop := driveKey k ∧ ¬ cmpShadow k

/-- What shows the safe state of a channel is no compare shadow. -/
theorem cmpShadow_beside {k c : Nat} (h : cmpShadow k) (hc : c < 6) : k ≠ Reg.PWM_LEG_STAT c ∧ ∀ f ∈ safeShown c, k ≠ f.key := by
  obtain ⟨n, hn, m, hm, rfl⟩ := h
  refine ⟨by unfold Reg.PWM_CMP_SH Reg.PWM_LEG_STAT; omega, fun f hf => ?_⟩
  have hkey := safeShown_key hf
  unfold Reg.PWM_CH_STAT Reg.PWM_MASK_ACT Reg.DCL_CH_STAT Reg.CMU_STAT Reg.ASSIST_CFG at hkey
  unfold Reg.PWM_CMP_SH
  omega

theorem Dev.disarmLeg_word (d : Dev) (n m : Nat) {k : Nat} (h : k ≠ Reg.PWM_LEG_STAT n) : (d.disarmLeg n m).word k = d.word k := by
  have harmed (v : Nat) : (d.s (Reg.PWM_LEG_STAT_ARMED n) v).word k = d.word k := d.word_s_other _ v h
  unfold Dev.disarmLeg Dev.when
  dsimp only
  split
  · split
    · rw [Dev.updPhase_word, harmed]
    · split
      · rw [Dev.updPhase_word, Dev.updLeg_word, harmed]
      · rw [Dev.updLeg_word, harmed]
  · rfl

theorem Dev.disarmMask_word (d : Dev) (mask : Nat) {k : Nat} (h : cmpShadow k) : (d.disarmMask mask).word k = d.word k := by
  have hlegs := Dev.each_mem (S := fun x y => y.word k = x.word k) (fun _ => rfl) (fun h g => g.trans h) (maskBits 36 mask)
    (fun d i => d.disarmLeg (i / 6) (i % 6)) (fun x i hi => x.disarmLeg_word _ _ (cmpShadow_beside h (by
      have : i < 36 := List.mem_range.1 (List.mem_of_mem_filter hi)
      omega)).1) d
  refine (Dev.each_mem (S := fun x y => y.word k = x.word k) (fun _ => rfl) (fun h g => g.trans h) (List.range 6) Dev.refreshSafe
    (fun x n hn => ?_) _).trans hlegs
  exact Dev.word_of_keeps (x.refreshSafe_drives n).frame (cmpShadow_beside h (List.mem_range.1 hn)).2

theorem Dev.raiseWhen_word (d : Dev) (b : Bool) (code : Nat) (ctx : List Nat) (k : Nat) :
    (d.when b fun d => d.raise code ctx).word k = d.word k := by
  cases b
  · rfl
  · rfl

theorem Dev.word_withPwm (d : Dev) (x : Pwm) (k : Nat) : ({ d with pwm := x } : Dev).word k = d.word k := rfl

theorem Dev.forceOn_word (d : Dev) (n why inst : Nat) {k : Nat} (h : cmpShadow k) : (d.forceOn n why inst).word k = d.word k := by
  have hsafe : (d.makeSafe n).word k = d.word k := by rw [Dev.makeSafe, d.disarmMask_word _ h]
  unfold Dev.forceOn
  rw [Dev.raiseWhen_word]
  split
  · exact hsafe
  · rw [Dev.word_withPwm]
    exact hsafe

/-- What forces a channel reaches its drive blocks and no compare shadow. -/
abbrev Dev.ForcesOn (d t : Dev) : Prop := Dev.Within forceKey driveParts False d t

theorem Dev.forcesOn_of {d t : Dev} (h : d.Forces t) (hcmp : ∀ k, cmpShadow k → t.word k = d.word k) : d.ForcesOn t where
  word k hk := by
    by_cases hs : cmpShadow k
    · exact hcmp k hs
    · exact h.word k fun hd => hk ⟨hd, hs⟩
  part := h.part
  records := h.records
  conds := h.conds

theorem Dev.makeSafe_forcesOn (d : Dev) (n : Nat) : d.ForcesOn (d.makeSafe n) :=
  Dev.forcesOn_of (d.makeSafe_disarms n).forces fun _ h => d.disarmMask_word _ h

theorem Dev.forceMask_forcesOn (d : Dev) (mask why inst : Nat) : d.ForcesOn (d.forceMask mask why inst) :=
  Dev.forcesOn_of (d.forceMask_forces mask why inst) fun k h =>
    Dev.each_mem (S := fun x y => y.word k = x.word k) (fun _ => rfl) (fun h g => g.trans h) _ _ (fun x n _ => x.forceOn_word n why inst h) d

theorem ctxWord_notForce {c w : Nat} (hc : c < 256) (hw : w < 8) : ¬ forceKey (Reg.CTX_W0 c + 4 * w) := by
  rintro ⟨h, -⟩
  unfold driveKey Reg.CTX_W0 at h
  omega

/-! ## Engines that lose queued runs -/

/-- The engine with no more than the queued runs that pass a test. -/
def Eng.keepsRuns (g : Eng) (p : QRun → Bool) : Eng := { g with queue := g.queue.filter p }

/-- One engine is another but for queued runs that are taken from it. -/
def Eng.thins (g h : Eng) : Prop := ∃ p, h = g.keepsRuns p

theorem Eng.thins_refl (g : Eng) : g.thins g := ⟨fun _ => true, by simp [Eng.keepsRuns]⟩

theorem Eng.thins_trans {g h k : Eng} (hgh : g.thins h) (hhk : h.thins k) : g.thins k := by
  obtain ⟨p, rfl⟩ := hgh
  obtain ⟨q, rfl⟩ := hhk
  exact ⟨fun r => q r && p r, by simp [Eng.keepsRuns, List.filter_filter]⟩

theorem Eng.thins.run {g h : Eng} (hgh : g.thins h) : h.run = g.run := by
  obtain ⟨p, rfl⟩ := hgh
  rfl

theorem Eng.thins.queue {g h : Eng} (hgh : g.thins h) : h.queue ⊆ g.queue := by
  obtain ⟨p, rfl⟩ := hgh
  exact List.filter_subset_self _

/-- A change of an engine reaches that engine alone, where there is one. -/
theorem Dev.eng_updEng_cases (d : Dev) (e k : Nat) (f : Eng → Eng) : (d.updEng e f).eng k = d.eng k ∨ (d.updEng e f).eng k = f (d.eng k) := by
  by_cases hk : k = e
  · subst hk
    by_cases hlt : k < (bank 12 {} d.ce.engs).length
    · right
      show (updAt (bank 12 {} d.ce.engs) k f).getD k {} = _
      rw [updAt_getD_same _ _ _ _ hlt, bank_getD]
      rfl
    · left
      have hlen : (updAt (bank 12 {} d.ce.engs) k f).length ≤ k := by
        rw [updAt_length]
        omega
      have hout : d.eng k = {} := by
        rw [Dev.eng, ← bank_getD 12]
        exact List.getD_eq_default _ _ (Nat.le_of_not_lt hlt)
      show (updAt (bank 12 {} d.ce.engs) k f).getD k {} = _
      rw [List.getD_eq_default _ _ hlen, hout]
  · exact .inl (d.eng_updEng_other _ hk)

theorem Dev.updEng_thins (d : Dev) (e : Nat) (p : QRun → Bool) (k : Nat) : (d.eng k).thins ((d.updEng e fun g => g.keepsRuns p).eng k) := by
  rcases d.eng_updEng_cases e k fun g => g.keepsRuns p with h | h
  · rw [h]
    exact Eng.thins_refl _
  · exact ⟨p, h⟩

theorem Dev.unqueue_eng (d : Dev) (c k : Nat) : (d.unqueue c).eng k = (d.eng k).keepsRuns fun q => q.ctx != c :=
  List.getD_map (f := fun g : Eng => g.keepsRuns fun q => q.ctx != c) (l := d.ce.engs) (d := {}) (n := k)

end Sys2Proof.Machine
end

section
/-! PROOFS. What a context that is dropped, faults or is emptied leaves of the engines, the other contexts and the registers (R76, R77, R173,
R522). -/

namespace Sys2Proof.Machine

/-! ## What a step leaves where it takes no more than queued runs from the engines -/

/-- What keeps fields of the keys of `K` and parts of `ps` aside stays within them. -/
theorem Dev.Within.ofKeeps {K : Nat → Prop} {ps qs : List Part} {c : Prop} {d t u : Dev} {fs : List RF} (h : Dev.Within K ps c d t)
    (k : t.keeps u fs qs) (hf : ∀ f ∈ fs, K f.key) (hq : qs ⊆ ps) (hr : t.raised <+: u.raised) (hx : c → u.pwm.conds = t.pwm.conds) :
    Dev.Within K ps c d u :=
  h.trans ⟨fun _ hk => Dev.word_of_keeps k fun f hm he => hk (he ▸ hf f hm), fun p hp => k.2 p fun hm => hp (hq hm), hr, hx⟩

/-- The array replaced. -/
theorem Dev.Within.withCe {K : Nat → Prop} {ps : List Part} {c : Prop} {d t : Dev} (h : Dev.Within K ps c d t) (x : Ce) (hm : Part.ce ∈ ps) :
    Dev.Within K ps c d { t with ce := x } :=
  h.ofPart (Dev.keeps_withCe List.mem_cons_self (t.keeps_refl _ _)) hm (List.prefix_refl _) fun _ => rfl

/-- From `d` to `t` a step stays within the registers of `K` and the parts of `ps`, and takes no more than queued runs from the engines. -/
structure Dev.Thins (K : Nat → Prop) (ps : List Part) (d t : Dev) : Prop where
  within : Dev.Within K ps False d t
  engs : ∀ k, (d.eng k).thins (t.eng k)

namespace Dev.Thins

variable {K L : Nat → Prop} {ps qs : List Part} {d t u : Dev}

theorem refl (d : Dev) : Thins K ps d d := ⟨Within.refl d, fun _ => Eng.thins_refl _⟩

theorem trans (h : Thins K ps d t) (g : Thins K ps t u) : Thins K ps d u :=
  ⟨h.within.trans g.within, fun k => Eng.thins_trans (h.engs k) (g.engs k)⟩

theorem mono (h : Thins K ps d t) (hK : ∀ k, K k → L k) (hp : ps ⊆ qs) : Thins L qs d t := ⟨h.within.mono hK hp id, h.engs⟩

/-- A step that leaves the engines. -/
theorem ofWithin (h : Thins K ps d t) (w : Within K ps False t u) (he : u.ce.engs = t.ce.engs) : Thins K ps d u :=
  h.trans ⟨w, fun k => by rw [Dev.eng_of_ce he]; exact Eng.thins_refl _⟩

/-- A step that leaves the array. -/
theorem outside (h : Thins K ps d t) (w : Within L qs False t u) (hL : ∀ k, L k → K k) (hq : qs ⊆ ps) (hce : Part.ce ∉ qs) : Thins K ps d u :=
  h.ofWithin (w.mono hL hq id) (congrArg Ce.engs (w.part .ce hce))

theorem s (h : Thins K ps d t) (f : RF) (v : Nat) (hf : K f.key) : Thins K ps d (t.s f v) :=
  h.ofWithin ((Within.refl t).s f v hf) (by rw [Dev.s_ce])

theorem raise (h : Thins K ps d t) (code : Nat) (ctx : List Nat) (hm : Part.raised ∈ ps) : Thins K ps d (t.raise code ctx) :=
  h.ofWithin ((Within.refl t).raise code ctx hm) rfl

theorem updCtx (h : Thins K ps d t) (c : Nat) (f : Ctx → Ctx) (hm : Part.ce ∈ ps) : Thins K ps d (t.updCtx c f) :=
  h.ofWithin ((Within.refl t).withCe _ hm) rfl

theorem updEng (h : Thins K ps d t) (e : Nat) (p : QRun → Bool) (hm : Part.ce ∈ ps) :
    Thins K ps d (t.updEng e fun g => g.keepsRuns p) :=
  h.trans ⟨(Within.refl t).withCe _ hm, t.updEng_thins e p⟩

theorem each {α : Type} (h : Thins K ps d t) (l : List α) (f : Dev → α → Dev) (hf : ∀ x, ∀ a ∈ l, Thins K ps x (f x a)) :
    Thins K ps d (t.each l f) :=
  h.trans (Dev.each_mem (S := Thins K ps) refl trans l f hf t)

theorem ite {P : Prop} [Decidable P] (ht : P → Thins K ps d t) (hu : ¬ P → Thins K ps d u) : Thins K ps d (if P then t else u) := by
  split
  · next h => exact ht h
  · next h => exact hu h

end Dev.Thins

/-! ## A context that is dropped, or enters FAULT -/

/-- The parts that the array and the forcing of channels reach. -/
def arrayParts : List Part := .ce :: driveParts

theorem arrayParts_ce : Part.ce ∈ arrayParts := by decide
theorem arrayParts_drive : driveParts ⊆ arrayParts := List.subset_cons_self _ _
theorem arrayParts_raised : Part.raised ∈ arrayParts := by decide

/-- Whatever a context has under way, dropped. -/
def Ctx.dropped (x : Ctx) : Ctx :=
  { x with phase := .idle, role := .discard, outDue := none, cmpOwn := none, cmpLive := none, stopReq := false, holdStop := false, handover := none }

theorem Dev.ctxDrop_eq (d : Dev) (c : Nat) : d.ctxDrop c = (d.unqueue c).updCtx c Ctx.dropped := rfl

theorem Dev.ctxDrop_ctx_same (d : Dev) {c : Nat} (hc : c < 256) : (d.ctxDrop c).ctx c = (d.ctx c).dropped := by
  rw [Dev.ctxDrop_eq, Dev.ctx_updCtx_same _ _ _ hc]
  rfl

theorem Dev.ctxDrop_eng (d : Dev) (c k : Nat) : (d.ctxDrop c).eng k = (d.eng k).keepsRuns fun q => q.ctx != c :=
  d.unqueue_eng c k

theorem Dev.ctxDrop_thins {K : Nat → Prop} {ps : List Part} (d : Dev) (c : Nat) (hm : Part.ce ∈ ps) : Dev.Thins K ps d (d.ctxDrop c) :=
  ⟨((Within.refl d).withCe _ hm).withCe _ hm, fun k => ⟨_, d.ctxDrop_eng c k⟩⟩

/-- A context that stands in FAULT, before its channels are forced. -/
def Dev.ctxFaulted (d : Dev) (c : Nat) : Dev := (d.ctxDrop c).s (Reg.CTX_W0_STATE c) 4

/-- The registers that a context's fault writes. -/
def faultKey (c k : Nat) : Prop := k = Reg.CTX_W0 c ∨ forceKey k

theorem Dev.ctxFaulted_thins (d : Dev) (c : Nat) : Dev.Thins (faultKey c) arrayParts d (d.ctxFaulted c) :=
  (d.ctxDrop_thins c arrayParts_ce).s _ _ (.inl rfl)

theorem Dev.ctxFaulted_state (d : Dev) (c : Nat) : (d.ctxFaulted c).ctxState c = 4 :=
  Dev.g_s_same _ _ _ (ctxState_fits c).1 (ctxState_fits c).2

/-- A context that has nothing to lose by a fault: EMPTY, or in FAULT. -/
theorem Dev.ctxFault_self {d : Dev} {c : Nat} (h : d.ctxState c = 0 ∨ d.ctxState c = 4) (cause : Nat) : d.ctxFault c cause = d := if_pos h

/-- What follows the record of a fault: the note for a restart, and the channels bound to the context forced (R438, R522). -/
def Dev.faultForces (d : Dev) (c cause : Nat) : Dev :=
  let armed := (maskBits 6 (d.ctxBind c)).foldl (fun a n => if d.on (Reg.PWM_CH_STAT_SAFE n) then a else a + 2 ^ n) 0
  let d := d.when (cause == 1) fun d => d.noteFault (0x300 + c) armed
  d.forceMask (d.ctxBind c) 5 (1000 + c)

theorem Dev.ctxFault_eq {d : Dev} {c : Nat} (h : ¬ (d.ctxState c = 0 ∨ d.ctxState c = 4)) (cause : Nat) : d.ctxFault c cause =
    ((d.ctxFaulted c).raise Err.CE_CTX_FAULT [c, cause, (d.ctxFaulted c).ctxBind c]).faultForces c cause := if_neg h

theorem Dev.faultForces_spec (d : Dev) (c cause : Nat) : d.ForcesOn (d.faultForces c cause) ∧
    ∀ n < 6, (d.ctxBind c).testBit n = true → (⟨n, 5, 1000 + c⟩ : ForceCond) ∈ (d.faultForces c cause).pwm.conds := by
  unfold Dev.faultForces
  dsimp only
  generalize (maskBits 6 (d.ctxBind c)).foldl (fun a n => if d.on (Reg.PWM_CH_STAT_SAFE n) then a else a + 2 ^ n) 0 = armed
  have hnote : d.ForcesOn (d.when (cause == 1) fun d => d.noteFault (0x300 + c) armed) :=
    (Within.refl d).when _ _ fun _ => (Within.refl d).withHst _ driveParts_hst
  have hbind : (d.when (cause == 1) fun d => d.noteFault (0x300 + c) armed).ctxBind c = d.ctxBind c := by
    unfold Dev.when
    split
    · rfl
    · rfl
  generalize (d.when (cause == 1) fun d => d.noteFault (0x300 + c) armed) = x at hnote hbind
  refine ⟨hnote.trans (x.forceMask_forcesOn _ _ _), fun n hn hbit => (x.mem_forceMask _ _ _ hn).2 (.inr ?_)⟩
  rw [hbind]
  exact hbit

theorem Dev.ctxFault_thins (d : Dev) (c cause : Nat) : Dev.Thins (faultKey c) arrayParts d (d.ctxFault c cause) := by
  by_cases h : d.ctxState c = 0 ∨ d.ctxState c = 4
  · rw [Dev.ctxFault_self h]
    exact Thins.refl d
  · rw [Dev.ctxFault_eq h]
    exact ((d.ctxFaulted_thins c).raise _ _ arrayParts_raised).outside (Dev.faultForces_spec _ c cause).1 (fun _ => .inr) arrayParts_drive
      (by decide)

theorem Dev.ctxFaulted_bind (d : Dev) (c : Nat) : (d.ctxFaulted c).ctxBind c = d.ctxBind c := by
  have hkey : Reg.CTX_W1 c ≠ Reg.CTX_W0 c := by unfold Reg.CTX_W1 Reg.CTX_W0; omega
  exact Dev.g_s_other (d.ctxDrop c) _ _ _ hkey

theorem Dev.ctxFaulted_eng (d : Dev) (c : Nat) : (d.ctxFaulted c).ctxEng c = d.ctxEng c :=
  Dev.g_s_apart (d.ctxDrop c) _ (ctxState_fits c) (ctxEng_fits c).1 (.inr (.inr (by show 28 < 29; decide)))

/-- A context that runs, stands or waits enters FAULT: its record, the force on its channels, and its entry but for the state. -/
theorem Dev.ctxFault_spec (d : Dev) {c : Nat} (hc : c < 256) (h0 : d.ctxState c ≠ 0) (h4 : d.ctxState c ≠ 4) (cause : Nat) :
    (d.ctxFault c cause).ctxState c = 4 ∧ (d.ctxFault c cause).ctxEng c = d.ctxEng c ∧
    d.record Err.CE_CTX_FAULT [c, cause, d.ctxBind c] ∈ (d.ctxFault c cause).raised ∧
    ∀ n < 6, (d.ctxBind c).testBit n = true → (⟨n, 5, 1000 + c⟩ : ForceCond) ∈ (d.ctxFault c cause).pwm.conds := by
  rw [Dev.ctxFault_eq (not_or.2 ⟨h0, h4⟩), d.ctxFaulted_bind]
  have hstate := d.ctxFaulted_state c
  have heng := d.ctxFaulted_eng c
  have hbind := d.ctxFaulted_bind c
  have htb : (d.ctxFaulted c).tb = d.tb := (d.ctxFaulted_thins c).within.part .tb (by decide)
  generalize d.ctxFaulted c = x at hstate heng hbind htb
  obtain ⟨hforces, hconds⟩ := Dev.faultForces_spec (x.raise Err.CE_CTX_FAULT [c, cause, d.ctxBind c]) c cause
  have hword := hforces.word (Reg.CTX_W0 c) (ctxWord_notForce (w := 0) hc (by decide))
  refine ⟨(Dev.ctxState_of_word hword).trans hstate, (Dev.ctxEng_of_word hword).trans heng, hforces.records.subset ?_, fun n hn hbit => hconds n hn ?_⟩
  · rw [Dev.record, ← htb]
    exact List.mem_append_right _ List.mem_cons_self
  · rw [show (x.raise Err.CE_CTX_FAULT [c, cause, d.ctxBind c]).ctxBind c = d.ctxBind c from hbind]
    exact hbit

/-- A fault of a context that is in FAULT at its end, whatever it was before, unless the entry is EMPTY. -/
theorem Dev.ctxFault_state (d : Dev) {c : Nat} (hc : c < 256) (h0 : d.ctxState c ≠ 0) (cause : Nat) :
    (d.ctxFault c cause).ctxState c = 4 ∧ (d.ctxFault c cause).ctxEng c = d.ctxEng c := by
  by_cases h4 : d.ctxState c = 4
  · rw [Dev.ctxFault_self (.inr h4)]
    exact ⟨h4, rfl⟩
  · obtain ⟨hstate, heng, _⟩ := d.ctxFault_spec hc h0 h4 cause
    exact ⟨hstate, heng⟩

theorem Dev.ctxFault_ctx (d : Dev) (c cause k : Nat) : (d.ctxFault c cause).ctx k = d.ctx k ∨
    (d.ctxFault c cause).ctx k = (d.ctxDrop c).ctx k := by
  by_cases h : d.ctxState c = 0 ∨ d.ctxState c = 4
  · rw [Dev.ctxFault_self h]
    exact .inl rfl
  · right
    rw [Dev.ctxFault_eq h, ← Dev.ctx_s (d.ctxDrop c) (Reg.CTX_W0_STATE c) 4 k, ← Dev.ctxFaulted]
    generalize d.ctxFaulted c = x
    generalize [c, cause, x.ctxBind c] = ctx
    have hce := ((x.raise Err.CE_CTX_FAULT ctx).faultForces_spec c cause).1.part .ce (by decide)
    generalize (x.raise Err.CE_CTX_FAULT ctx).faultForces c cause = t at hce
    exact Dev.ctx_of_ce (d := x) (congrArg Ce.ctxs hce) k

/-! ## An entry that is emptied (R77, R85) -/

/-- The registers that an emptied entry puts back. -/
def emptyKey (c k : Nat) : Prop := (Reg.CTX_W0 c ≤ k ∧ k < Reg.CTX_W0 c + 0x20) ∨ k = Reg.CE_MIG_STAT

theorem entryFields_key {c : Nat} : ∀ f ∈ entryFields c, emptyKey c f.key := by
  intro f hf
  simp only [entryFields, List.mem_cons, List.mem_map, List.mem_range] at hf
  rcases hf with rfl | ⟨w, hw, rfl⟩
  · exact .inr rfl
  · left
    simp only [RF.whole]
    omega

theorem Dev.entryReset_ce (d : Dev) (c : Nat) : (d.entryReset c).ce = d.ce := (d.entryReset_keeps c []).2 .ce List.not_mem_nil

theorem Dev.eng_whenAbsorbed (d : Dev) (b : Bool) (k : Nat) : (d.when b fun d => d.s Reg.CE_MIG_STAT_ABSORBED 0).eng k = d.eng k := by
  cases b
  · rfl
  · exact d.eng_s _ _ k

theorem Dev.ctxEmpty_eng (d : Dev) (c k : Nat) : (d.ctxEmpty c).eng k = (d.eng k).keepsRuns fun q => q.ctx != c := by
  rw [Dev.ctxEmpty_eq, ← d.ctxDrop_eng c k]
  generalize d.ctxDrop c = x
  have hce : ((x.ctxUnfault c).entryReset c).ce = x.ce := (x.ctxUnfault c).entryReset_ce c
  generalize (x.ctxUnfault c).entryReset c = y at hce
  dsimp only
  rw [Dev.eng_whenAbsorbed, Dev.eng_updCtx]
  exact Dev.eng_of_ce (congrArg Ce.engs hce) k

theorem Dev.ctxEmpty_thins (d : Dev) {c : Nat} (hc : c < 256) : Dev.Thins (emptyKey c) [.ce, .pwm] d (d.ctxEmpty c) := by
  obtain ⟨_, _, _, hkeeps⟩ := d.ctxEmpty_spec hc
  have hraised : (d.ctxEmpty c).raised = d.raised := hkeeps.2 .raised (by decide)
  exact ⟨(Within.refl d).ofKeeps hkeeps entryFields_key (List.Subset.refl _) (hraised ▸ List.prefix_refl _) False.elim,
    fun k => ⟨_, d.ctxEmpty_eng c k⟩⟩

end Sys2Proof.Machine
end

section
/-! PROOFS. Engine failures and migration: what they reach, and the contexts that they leave (R93 to R97). -/

namespace Sys2Proof.Machine

/-! ## What migration reaches -/

/-- The registers that the failure of an engine may write besides its own status: the context table, but for the states of the contexts
`X`, the migration's status, and what the force on a channel writes. -/
def moveKey (X : Nat → Prop) (k : Nat) : Prop :=
  ((0x30032000 ≤ k ∧ k < 0x30034000) ∨ k = Reg.CE_MIG_STAT ∨ forceKey k) ∧ ∀ c < 256, X c → k ≠ Reg.CTX_W0 c

/-- What a failure does, and leaves the contexts `X` as they stand in the table. -/
abbrev Dev.MovesBeside (X : Nat → Prop) (d t : Dev) : Prop := Dev.Thins (moveKey X) arrayParts d t

section
variable {X : Nat → Prop} {x k : Nat}

theorem moveKey_force (h : forceKey k) : moveKey X k := by
  refine ⟨.inr (.inr h), fun c hc _ he => ?_⟩
  exact ctxWord_notForce (w := 0) hc (by decide) (he ▸ h)

theorem moveKey_migStat : moveKey X Reg.CE_MIG_STAT :=
  ⟨.inr (.inl rfl), fun c _ _ => by unfold Reg.CE_MIG_STAT Reg.CTX_W0; omega⟩

theorem moveKey_entry (hx : x < 256) (hX : ¬ X x) (h : Reg.CTX_W0 x ≤ k ∧ k < Reg.CTX_W0 x + 0x20) : moveKey X k := by
  unfold Reg.CTX_W0 at h
  refine ⟨.inl (by omega), fun c _ hc he => hX ?_⟩
  have : c = x := by unfold Reg.CTX_W0 at he; omega
  exact this ▸ hc

theorem moveKey_state (hx : x < 256) (hX : ¬ X x) : moveKey X (Reg.CTX_W0 x) := moveKey_entry hx hX (by omega)

theorem moveKey_fault (hx : x < 256) (hX : ¬ X x) (h : faultKey x k) : moveKey X k :=
  h.elim (fun he => he ▸ moveKey_state hx hX) moveKey_force

theorem moveKey_empty (hx : x < 256) (hX : ¬ X x) (h : emptyKey x k) : moveKey X k :=
  h.elim (moveKey_entry hx hX) fun he => he ▸ moveKey_migStat

theorem Dev.ctxFault_moves (d : Dev) (hx : x < 256) (hX : ¬ X x) (cause : Nat) : d.MovesBeside X (d.ctxFault x cause) :=
  (d.ctxFault_thins x cause).mono (fun _ => moveKey_fault hx hX) (List.Subset.refl _)

theorem Dev.ctxEmpty_moves (d : Dev) (hx : x < 256) (hX : ¬ X x) : d.MovesBeside X (d.ctxEmpty x) :=
  (d.ctxEmpty_thins hx).mono (fun _ => moveKey_empty hx hX) (by decide)

/-- A context on the spare: its place and state are written, and its own state says so. -/
theorem Dev.ctxMoved_moves (d : Dev) (hx : x < 256) (hX : ¬ X x) : d.MovesBeside X (d.ctxMoved x) :=
  (((Thins.refl d).s _ _ (moveKey_state hx hX)).s _ _ (moveKey_state hx hX)).updCtx _ _ arrayParts_ce

theorem Dev.MovesBeside.word {d t : Dev} (h : d.MovesBeside X t) {c : Nat} (hc : c < 256) (hX : X c) :
    t.word (Reg.CTX_W0 c) = d.word (Reg.CTX_W0 c) := h.within.word _ fun hk => hk.2 c hc hX rfl

/-- The configuration and the engines' status are outside. -/
theorem Dev.MovesBeside.spare {d t : Dev} (h : d.MovesBeside X t) : t.spare = d.spare := by
  refine Dev.g_of_word (h.within.word _ fun hk => ?_)
  rcases hk.1 with hk | hk | ⟨hk, -⟩
  · exact absurd hk.1 (by decide)
  · exact absurd hk (by decide)
  · exact absurd hk.1 (by decide)

theorem moveKey_notStat {e : Nat} (he : e < 12) : ¬ moveKey X (Reg.ENG_STAT e) := by
  rintro ⟨hk | hk | ⟨hk, -⟩, -⟩
  · unfold Reg.ENG_STAT at hk; omega
  · unfold Reg.ENG_STAT Reg.CE_MIG_STAT at hk; omega
  · unfold driveKey Reg.ENG_STAT at hk; omega

end

/-! ## Migration proceeds (R94 to R96) -/

/-- The spare without what it held, but for warm copies of an engine's contexts. -/
def Dev.spareFreed (d : Dev) (e : Nat) : Dev :=
  let sp := d.spare
  let d := d.each (d.engCtxs sp) Dev.ctxEmpty
  let d := d.each ctxNumbers fun d c => if (d.ctx c).warm ∧ d.ctxEng c ≠ e then d.updCtx c fun x => { x with warm := false } else d
  d.updEng sp fun g => g.keepsRuns fun q => d.ctxEng q.ctx == e

/-- The contexts of an engine that migrate, in rank order. -/
def Dev.migrating (d : Dev) (e : Nat) : List Nat := d.byRank ((d.engCtxs e).filter fun c => d.ctxState c == 5)

/-- The warm copies of an engine's contexts in their place. -/
def Dev.warmMoved (d : Dev) (e : Nat) : Dev := d.each ((d.migrating e).filter fun c => (d.ctx c).warm) Dev.ctxMoved

/-- A migration under way, and shown. -/
def Dev.migStarted (d : Dev) (m : Migration) : Dev := ((d.withCe { d.ce with mig := some m }).s Reg.CE_MIG_STAT_ACTIVE 1).migShow

/-- What migration does once it proceeds: of the migration that waits its engine stays. -/
theorem Dev.migProceed_eq {d : Dev} {m : Migration} (hm : d.ce.mig = some m) (e : Nat) : ∃ m' : Migration, m'.waiting = false ∧
    m'.eng = m.eng ∧ d.migProceed e = ((d.spareFreed e).warmMoved e).migStarted m' := by
  unfold Dev.migProceed Dev.spareFreed Dev.warmMoved Dev.migStarted Dev.migrating Dev.withCe Eng.keepsRuns
  rw [hm]
  refine ⟨_, ?_, ?_, rfl⟩
  · rfl
  · rfl

end Sys2Proof.Machine
end

section
/-! PROOFS. What migration leaves: the contexts that neither migrate nor stand on the spare (R94 to R97). -/

namespace Sys2Proof.Machine

/-- The contexts of `X` do not migrate and do not stand on the spare. -/
def Dev.stay (d : Dev) (X : Nat → Prop) : Prop := ∀ c < 256, X c → d.ctxState c ≠ 5 ∧ d.ctxEng c ≠ d.spare

section
variable {X : Nat → Prop}

theorem Dev.MovesBeside.stay {d t : Dev} (h : d.MovesBeside X t) (hX : d.stay X) : t.stay X := by
  intro c hc hcX
  have hword := h.word hc hcX
  rw [Dev.ctxState_of_word hword, Dev.ctxEng_of_word hword, h.spare]
  exact hX c hc hcX

theorem Dev.spareFreed_moves {d : Dev} (hX : d.stay X) (e : Nat) : d.MovesBeside X (d.spareFreed e) := by
  have hempty : d.MovesBeside X (d.each (d.engCtxs d.spare) Dev.ctxEmpty) := (Thins.refl d).each _ _ fun y x hx => by
    obtain ⟨⟨_, hlt⟩, _, heng⟩ := Dev.mem_engCtxs.1 hx
    exact y.ctxEmpty_moves hlt fun hxX => (hX x hlt hxX).2 heng
  exact (hempty.each _ _ fun y c _ => Thins.ite (fun _ => (Thins.refl y).updCtx _ _ arrayParts_ce) fun _ => Thins.refl y).updEng _ _ arrayParts_ce

theorem Dev.byRank_subset (d : Dev) (l : List Nat) : d.byRank l ⊆ l := by
  intro c hc
  obtain ⟨p, _, hp⟩ := List.mem_flatMap.1 hc
  exact List.mem_of_mem_filter hp

theorem Dev.mem_migrating {d : Dev} {e c : Nat} (h : c ∈ d.migrating e) : c < 256 ∧ d.ctxState c = 5 := by
  have hmem := List.mem_filter.1 (d.byRank_subset _ h)
  exact ⟨(Dev.mem_engCtxs.1 hmem.1).1.2, of_decide_eq_true hmem.2⟩

theorem Dev.warmMoved_moves {d : Dev} (hX : d.stay X) (e : Nat) : d.MovesBeside X (d.warmMoved e) :=
  (Thins.refl d).each _ _ fun y x hx => by
    obtain ⟨hlt, hstate⟩ := Dev.mem_migrating (List.mem_of_mem_filter hx)
    exact y.ctxMoved_moves hlt fun hxX => (hX x hlt hxX).1 hstate

/-- What the migration's status shows of the migration under way. -/
theorem Dev.migShow_eq {d : Dev} {m : Migration} (hm : d.ce.mig = some m) : d.migShow =
    ((d.s Reg.CE_MIG_STAT_SRC_ENG m.eng).s Reg.CE_MIG_STAT_MOVED m.moved).s Reg.CE_MIG_STAT_LOST m.lost := by
  unfold Dev.migShow
  rw [hm]

theorem Dev.migShow_none {d : Dev} (hm : d.ce.mig = none) : d.migShow = d := by
  unfold Dev.migShow
  rw [hm]

theorem Dev.migShow_ce (d : Dev) : d.migShow.ce = d.ce := by
  rcases hm : d.ce.mig with _ | m
  · rw [Dev.migShow_none hm]
  · rw [Dev.migShow_eq hm, Dev.s_ce, Dev.s_ce, Dev.s_ce]

/-- The shown counts are the status alone. -/
theorem Dev.migShow_within {K : Nat → Prop} (d : Dev) (hK : K Reg.CE_MIG_STAT) : Within K [] True d d.migShow := by
  rcases hm : d.ce.mig with _ | m
  · rw [Dev.migShow_none hm]
    exact Within.refl d
  · rw [Dev.migShow_eq hm]
    exact (((Within.refl d).s _ m.eng hK).s _ m.moved hK).s _ m.lost hK

theorem Dev.migShow_active (d : Dev) : d.migShow.on Reg.CE_MIG_STAT_ACTIVE = d.on Reg.CE_MIG_STAT_ACTIVE := by
  have hactive (x : Dev) {f : RF} (v : Nat) (hf : f.fits) (ha : Reg.CE_MIG_STAT_ACTIVE.apart f) :
      (x.s f v).g Reg.CE_MIG_STAT_ACTIVE = x.g Reg.CE_MIG_STAT_ACTIVE := x.g_s_apart v hf (Nat.le_refl 3) ha
  rcases hm : d.ce.mig with _ | m
  · rw [Dev.migShow_none hm]
  · rw [Dev.migShow_eq hm, Dev.on, Dev.on, hactive _ _ (RF.fits_of rfl) (.inr (.inr (by decide))), hactive _ _ (RF.fits_of rfl) (.inr (.inr (by decide))),
      hactive _ _ (RF.fits_of rfl) (.inr (.inr (by decide)))]

theorem Dev.migShow_srcEng {d : Dev} {m : Migration} (hm : d.ce.mig = some m) : d.migShow.g Reg.CE_MIG_STAT_SRC_ENG = m.eng % 16 := by
  have hsrc (x : Dev) {f : RF} (v : Nat) (hf : f.fits) (ha : Reg.CE_MIG_STAT_SRC_ENG.apart f) :
      (x.s f v).g Reg.CE_MIG_STAT_SRC_ENG = x.g Reg.CE_MIG_STAT_SRC_ENG := x.g_s_apart v hf (by decide) ha
  rw [Dev.migShow_eq hm, hsrc _ _ (RF.fits_of rfl) (.inr (.inl (by decide))), hsrc _ _ (RF.fits_of rfl) (.inr (.inl (by decide)))]
  exact d.g_s_same _ _ (by decide) (by decide)

theorem Dev.migStarted_spec (d : Dev) (m : Migration) : (d.migStarted m).on Reg.CE_MIG_STAT_ACTIVE = true ∧
    (d.migStarted m).g Reg.CE_MIG_STAT_SRC_ENG = m.eng % 16 ∧ (d.migStarted m).ce.mig = some m := by
  have hmig : ((d.withCe { d.ce with mig := some m }).s Reg.CE_MIG_STAT_ACTIVE 1).ce.mig = some m := by rw [Dev.s_ce]; rfl
  have hactive : ((d.withCe { d.ce with mig := some m }).s Reg.CE_MIG_STAT_ACTIVE 1).g Reg.CE_MIG_STAT_ACTIVE = 1 :=
    Dev.g_s_same _ _ _ (Nat.le_refl 3) (by decide)
  unfold Dev.migStarted
  rw [Dev.migShow_active, Dev.migShow_srcEng hmig, Dev.migShow_ce, Dev.on, hactive]
  exact ⟨rfl, rfl, hmig⟩

theorem Dev.migStarted_moves (d : Dev) (m : Migration) : d.MovesBeside X (d.migStarted m) := by
  have hstart : d.MovesBeside X ((d.withCe { d.ce with mig := some m }).s Reg.CE_MIG_STAT_ACTIVE 1) :=
    ((Thins.refl d).ofWithin ((Within.refl d).withCe { d.ce with mig := some m } arrayParts_ce) rfl).s _ _ moveKey_migStat
  exact hstart.ofWithin ((Dev.migShow_within _ moveKey_migStat).mono (fun _ => id) (List.nil_subset _) False.elim)
    (congrArg Ce.engs (Dev.migShow_ce _))

theorem Dev.migProceed_moves {d : Dev} (hX : d.stay X) (e : Nat) : d.MovesBeside X (d.migProceed e) := by
  rcases hm : d.ce.mig with _ | m
  · have hnone : d.migProceed e = d := by unfold Dev.migProceed; rw [hm]
    rw [hnone]
    exact Thins.refl d
  · obtain ⟨m', _, _, heq⟩ := Dev.migProceed_eq hm e
    have hfreed := Dev.spareFreed_moves hX e
    rw [heq]
    exact (hfreed.trans (Dev.warmMoved_moves (hfreed.stay hX) e)).trans (Dev.migStarted_moves _ m')

/-! ## Whether an engine's contexts migrate (R94, R97) -/

theorem Dev.migrates_moves (d : Dev) {x : Nat} (hx : x < 256) (hX : ¬ X x) (f : Ctx → Ctx) :
    d.MovesBeside X ((d.updCtx x f).s (Reg.CTX_W0_STATE x) 5) :=
  ((Thins.refl d).updCtx _ _ arrayParts_ce).s _ _ (moveKey_state hx hX)

theorem Dev.propose_moves (d : Dev) (f unit code : Nat) (hf : f < 64) : d.MovesBeside X (d.propose f unit code) := by
  have hkey : moveKey X (Reg.ASSIST_CFG f) := moveKey_force ⟨by unfold driveKey Reg.ASSIST_CFG; omega, fun ⟨n, hn, m, hm, he⟩ => by
    unfold Reg.ASSIST_CFG Reg.PWM_CMP_SH at he; omega⟩
  unfold Dev.propose Dev.showPending
  refine Thins.raise (Thins.s ?_ (Reg.ASSIST_CFG_PEND f) _ hkey) _ _ arrayParts_raised
  exact (Thins.refl d).ofWithin ((Within.refl d).withHst _ (by decide)) rfl

theorem Dev.makeSafe_moves (d : Dev) (n : Nat) : d.MovesBeside X (d.makeSafe n) :=
  (Thins.refl d).outside (d.makeSafe_forcesOn n) (fun _ => moveKey_force) arrayParts_drive (by decide)

/-- The engine's contexts that are not in FAULT fault or migrate, and no others beside the spare's. -/
theorem Dev.migDecide_moves {d : Dev} (hX : d.stay X) {e : Nat} (hin : ∀ c < 256, X c → d.ctxState c = 4) :
    d.MovesBeside X (d.migDecide e) := by
  have hbeside (x : Nat) (hx : x ∈ (d.engCtxs e).filter fun c => d.ctxState c != 4) : x < 256 ∧ ¬ X x := by
    obtain ⟨hmem, hstate⟩ := List.mem_filter.1 hx
    have hlt := (Dev.mem_engCtxs.1 hmem).1.2
    exact ⟨hlt, fun hxX => by simp [hin x hlt hxX] at hstate⟩
  unfold Dev.migDecide
  refine Thins.ite (fun _ => Thins.refl d) fun _ => ?_
  refine Thins.ite (fun _ => ?_) fun _ => ?_
  · exact ((Thins.refl d).each _ _ fun y x hx => y.ctxFault_moves (hbeside x hx).1 (hbeside x hx).2 3).raise _ _ arrayParts_raised
  · have hmark := (Thins.refl d).each ((d.engCtxs e).filter fun c => d.ctxState c != 4) (K := moveKey X) (ps := arrayParts)
      (fun d c => (d.updCtx c (fun x => { x with migFrom := d.ctxState c })).s (Reg.CTX_W0_STATE c) 5)
      fun y x hx => y.migrates_moves (hbeside x hx).1 (hbeside x hx).2 _
    generalize (d.each ((d.engCtxs e).filter fun c => d.ctxState c != 4)
      fun d c => (d.updCtx c (fun x => { x with migFrom := d.ctxState c })).s (Reg.CTX_W0_STATE c) 5) = y at hmark
    have hwait : d.MovesBeside X (y.withCe { y.ce with mig := some ⟨e, true, [], 0, 0, []⟩ }) :=
      hmark.ofWithin ((Within.refl y).withCe _ arrayParts_ce) rfl
    refine Thins.ite (fun _ => hwait.trans (Dev.migProceed_moves (hwait.stay hX) e)) fun _ => ?_
    exact (hwait.each _ _ fun z n _ => z.makeSafe_moves n).trans (Dev.propose_moves _ 9 e 1 (by decide))

/-- A spare that fails loses what it holds (R97). -/
theorem Dev.spareFailed_moves (d : Dev) : d.MovesBeside (fun _ => False) d.spareFailed := by
  unfold Dev.spareFailed
  refine Thins.raise ?_ _ _ arrayParts_raised
  refine ((Thins.refl d).each _ _ fun y x hx => ?_).each _ _ fun y c _ =>
    Thins.ite (fun _ => (Thins.refl y).updCtx _ _ arrayParts_ce) fun _ => Thins.refl y
  have hlt := (Dev.mem_engCtxs.1 hx).1.2
  exact Thins.ite (fun _ => y.ctxEmpty_moves hlt id) fun _ => y.ctxFault_moves hlt id 3

end

end Sys2Proof.Machine
end

section
/-! PROOFS. The failure of an engine, step by step: it is latched and recorded, its run is lost, its contexts fault or migrate (R93, R94, R97). -/

namespace Sys2Proof.Machine

/-! ## An engine that fails -/

/-- The failure latched and recorded. -/
def Dev.failShown (d : Dev) (e src : Nat) : Dev :=
  ((d.s (Reg.ENG_STAT_FAULT e) 1).s (Reg.ENG_STAT_FAULT_SRC e) src).raise Err.CE_ENG_FAULT [e, src]

/-- The run of the failed engine, and what waits for it, lost. -/
def Dev.runsLost (d : Dev) (e : Nat) : Dev :=
  (d.each (d.engCtxs e) fun d c => d.updCtx c fun x => { x with outDue := none, phase := .idle, evac := false }).updEng e fun g =>
    { g with run := none, ended := none, flight := [], queue := [] }

/-- An evacuation of the failed engine ends. -/
def Dev.evacStops (d : Dev) (e : Nat) : Dev :=
  match d.ce.busy with
  | some b => if b.op = 10 ∧ b.eng = e then
      { (d.s Reg.CE_CMD_RESULT_BUSY 0) with ce := { d.ce with busy := none, resultRead := false } } else d
  | none => d

/-- The contexts of the failed engine that do not migrate. -/
def Dev.stayersFault (d : Dev) (e : Nat) : Dev :=
  d.each (d.engCtxs e) fun d c => if d.g (Reg.CTX_W0_MIG c) = 0 then d.ctxFault c 3 else d

/-- The contexts of the failed engine fault or migrate; those of the spare are lost. -/
def Dev.failsOver (d : Dev) (e : Nat) : Dev := if e = d.spare then d.spareFailed else (d.stayersFault e).migDecide e

theorem Dev.engFail_self {d : Dev} {e : Nat} (h : d.on (Reg.ENG_STAT_FAULT e) = true) (src : Nat) : d.engFail e src = d := if_pos h

theorem Dev.engFail_eq {d : Dev} {e : Nat} (h : d.on (Reg.ENG_STAT_FAULT e) = false) (src : Nat) :
    d.engFail e src = (((d.failShown e src).runsLost e).evacStops e).failsOver e := if_neg (by rw [h]; exact Bool.false_ne_true)

/-- Outside the engine's own status. -/
theorem Dev.failShown_within (d : Dev) (e src : Nat) : Within (· = Reg.ENG_STAT e) [.raised] True d (d.failShown e src) := by
  have hself : Within (· = Reg.ENG_STAT e) [.raised] True d d := Within.refl d
  exact ((hself.s (Reg.ENG_STAT_FAULT e) _ rfl).s (Reg.ENG_STAT_FAULT_SRC e) _ rfl).raise _ _ List.mem_cons_self

theorem Dev.failShown_spec (d : Dev) (e : Nat) {src : Nat} (hs : src < 16) : (d.failShown e src).on (Reg.ENG_STAT_FAULT e) = true ∧
    (d.failShown e src).g (Reg.ENG_STAT_FAULT_SRC e) = src ∧ (d.failShown e src).raised = d.plusRecord Err.CE_ENG_FAULT [e, src] := by
  have hfault : (d.s (Reg.ENG_STAT_FAULT e) 1).g (Reg.ENG_STAT_FAULT e) = 1 := d.g_s_same _ _ (Nat.le_refl 1) (by show 1 ≤ 31; decide)
  have hkept := (d.s (Reg.ENG_STAT_FAULT e) 1).g_s_beside (Reg.ENG_STAT_FAULT_SRC e) (Reg.ENG_STAT_FAULT e) src (by show 4 ≤ 7; decide)
    (by show 7 ≤ 31; decide) (Nat.le_refl 1) (.inr (by show 1 < 4; decide))
  have hsrc : ((d.s (Reg.ENG_STAT_FAULT e) 1).s (Reg.ENG_STAT_FAULT_SRC e) src).g (Reg.ENG_STAT_FAULT_SRC e) = src % 16 :=
    Dev.g_s_same _ _ _ (by show 4 ≤ 7; decide) (by show 7 ≤ 31; decide)
  refine ⟨?_, hsrc.trans (Nat.mod_eq_of_lt hs), rfl⟩
  show (((d.s (Reg.ENG_STAT_FAULT e) 1).s (Reg.ENG_STAT_FAULT_SRC e) src).g (Reg.ENG_STAT_FAULT e) != 0) = true
  rw [hkept, hfault]
  rfl

theorem Dev.runsLost_keeps (d : Dev) (e : Nat) : d.keeps (d.runsLost e) [] [.ce] :=
  Dev.keeps_withCe List.mem_cons_self (Dev.keeps_each _ _ (fun x _ _ => Dev.keeps_updCtx (x.keeps_refl _ _) _ _ List.mem_cons_self)
    (d.keeps_refl _ _))

theorem Dev.runsLost_run (d : Dev) {e : Nat} (he : e < 12) : ((d.runsLost e).eng e).run = none := by
  rw [Dev.runsLost, Dev.eng_updEng_same _ _ _ he]

theorem Dev.evacStops_thins (d : Dev) (e : Nat) : Dev.Thins (· = Reg.CE_CMD_RESULT) [.ce] d (d.evacStops e) := by
  unfold Dev.evacStops
  split
  · next b _ =>
    refine Thins.ite (fun _ => ?_) fun _ => Thins.refl d
    have hself : Dev.Thins (· = Reg.CE_CMD_RESULT) [.ce] d d := Thins.refl d
    exact (hself.s Reg.CE_CMD_RESULT_BUSY 0 rfl).ofWithin
      ((Within.refl _).withCe { d.ce with busy := none, resultRead := false } List.mem_cons_self) rfl
  · exact Thins.refl d

/-- Up to the contexts' turn the table and the configuration stand. -/
theorem Dev.failed_within (d : Dev) (e src : Nat) :
    Within (fun k => k = Reg.ENG_STAT e ∨ k = Reg.CE_CMD_RESULT) [.ce, .raised] False d (((d.failShown e src).runsLost e).evacStops e) := by
  have hshown := (d.failShown_within e src).mono (L := fun k => k = Reg.ENG_STAT e ∨ k = Reg.CE_CMD_RESULT) (qs := [.ce, .raised])
    (fun _ => .inl) (by simp) False.elim
  generalize d.failShown e src = x at hshown
  have hraised : (x.runsLost e).raised = x.raised := (x.runsLost_keeps e).2 .raised (by decide)
  have hlost := hshown.ofKeeps (x.runsLost_keeps e) (by simp) (by simp) (hraised ▸ List.prefix_refl _) False.elim
  generalize x.runsLost e = y at hlost
  exact hlost.trans ((y.evacStops_thins e).within.mono (fun _ => .inr) (by simp) id)

theorem Dev.stayersFault_moves (d : Dev) (e : Nat) : d.MovesBeside (fun _ => False) (d.stayersFault e) :=
  (Thins.refl d).each _ _ fun y _ hx => Thins.ite (fun _ => y.ctxFault_moves (Dev.mem_engCtxs.1 hx).1.2 id 3) fun _ => Thins.refl y

/-- A context of the engine with MIG 0 faults in its turn. -/
theorem Dev.stayersFault_state (d : Dev) {e c : Nat} (hc : c ∈ d.engCtxs e) (hmig : d.g (Reg.CTX_W0_MIG c) = 0) :
    (d.stayersFault e).ctxState c = 4 ∧ (d.stayersFault e).ctxEng c = e := by
  obtain ⟨⟨_, hlt⟩, hstate, heng⟩ := Dev.mem_engCtxs.1 hc
  obtain ⟨x, hbefore, hafter⟩ := Dev.each_at (S := fun d t => t.word (Reg.CTX_W0 c) = d.word (Reg.CTX_W0 c)) (fun _ => rfl)
    (fun h g => g.trans h) (d.engCtxs_nodup e) hc (fun d c => if d.g (Reg.CTX_W0_MIG c) = 0 then d.ctxFault c 3 else d)
    (fun y a ha hne => by
      split
      · exact (y.ctxFault_moves (X := (· = c)) (Dev.mem_engCtxs.1 ha).1.2 hne 3).word hlt rfl
      · rfl) d
  have hmigX : x.g (Reg.CTX_W0_MIG c) = 0 := (Dev.g_of_word (f := Reg.CTX_W0_MIG c) hbefore).trans hmig
  rw [if_pos hmigX] at hafter
  obtain ⟨h4, heng'⟩ := x.ctxFault_state hlt (by rwa [Dev.ctxState_of_word hbefore]) 3
  exact ⟨(Dev.ctxState_of_word hafter).trans h4, ((Dev.ctxEng_of_word hafter).trans heng').trans ((Dev.ctxEng_of_word hbefore).trans heng)⟩

theorem Dev.failsOver_moves (d : Dev) (e : Nat) : d.MovesBeside (fun _ => False) (d.failsOver e) := by
  unfold Dev.failsOver
  exact Thins.ite (fun _ => d.spareFailed_moves) fun _ =>
    (d.stayersFault_moves e).trans (Dev.migDecide_moves (fun _ _ => False.elim) fun _ _ => False.elim)

theorem Dev.failsOver_state (d : Dev) {e c : Nat} (hne : e ≠ d.spare) (hc : c ∈ d.engCtxs e) (hmig : d.g (Reg.CTX_W0_MIG c) = 0) :
    (d.failsOver e).ctxState c = 4 := by
  have hlt := (Dev.mem_engCtxs.1 hc).1.2
  obtain ⟨hstate, heng⟩ := d.stayersFault_state hc hmig
  have hspare := (d.stayersFault_moves e).spare
  rw [Dev.failsOver, if_neg hne]
  generalize d.stayersFault e = x at hstate heng hspare
  have hstay : x.stay (· = c) := by
    rintro _ _ rfl
    rw [hstate, heng, hspare]
    exact ⟨by decide, hne⟩
  have hmoves : x.MovesBeside (· = c) (x.migDecide e) := Dev.migDecide_moves hstay fun _ _ he => he ▸ hstate
  exact (Dev.ctxState_of_word (hmoves.word hlt rfl)).trans hstate

/-- An engine that has not failed fails: latched, recorded, its run lost, and its contexts with MIG 0 in FAULT. -/
theorem Dev.engFail_spec {d : Dev} {e src : Nat} (he : e < 12) (hs : src < 16) (hf : d.on (Reg.ENG_STAT_FAULT e) = false) :
    (d.engFail e src).on (Reg.ENG_STAT_FAULT e) = true ∧ (d.engFail e src).g (Reg.ENG_STAT_FAULT_SRC e) = src ∧
    d.record Err.CE_ENG_FAULT [e, src] ∈ (d.engFail e src).raised ∧ ((d.engFail e src).eng e).run = none ∧
    (e ≠ d.spare → ∀ c ∈ d.engCtxs e, d.g (Reg.CTX_W0_MIG c) = 0 → (d.engFail e src).ctxState c = 4) ∧
    ∀ a, (d.engFail e src).byte a = d.byte a := by
  rw [Dev.engFail_eq hf]
  obtain ⟨hfault, hsrc, hrecord⟩ := d.failShown_spec e hs
  have htable := d.failed_within e src
  generalize hx : d.failShown e src = x at hfault hsrc hrecord htable
  have hrun := x.runsLost_run he
  have hlost := x.runsLost_keeps e
  have hlostStat : (x.runsLost e).word (Reg.ENG_STAT e) = x.word (Reg.ENG_STAT e) := Dev.word_of_keeps hlost (by simp)
  have hlostRaised : (x.runsLost e).raised = x.raised := hlost.2 .raised (by decide)
  generalize x.runsLost e = y at hrun htable hlostStat hlostRaised
  have hstops := y.evacStops_thins e
  generalize y.evacStops e = z at hstops htable
  have hover := z.failsOver_moves e
  have hstat : (z.failsOver e).word (Reg.ENG_STAT e) = x.word (Reg.ENG_STAT e) := by
    rw [hover.within.word _ (moveKey_notStat he), hstops.within.word _ (by unfold Reg.ENG_STAT Reg.CE_CMD_RESULT; omega), hlostStat]
  refine ⟨(Dev.on_of_word hstat).trans hfault, (Dev.g_of_word (f := Reg.ENG_STAT_FAULT_SRC e) hstat).trans hsrc, ?_, ?_,
    fun hne c hc hmig => ?_, fun a => ?_⟩
  · refine hover.within.records.subset (hstops.within.records.subset ?_)
    rw [hlostRaised, hrecord]
    exact List.mem_append_right _ List.mem_cons_self
  · rw [(hover.engs e).run, (hstops.engs e).run, hrun]
  · have hword (x : Nat) : z.word (Reg.CTX_W0 x) = d.word (Reg.CTX_W0 x) := htable.word _ (by
      unfold Reg.ENG_STAT Reg.CE_CMD_RESULT Reg.CTX_W0
      omega)
    have hspare : z.spare = d.spare := Dev.g_of_word (htable.word _ (by
      show ¬ (Reg.CE_CFG = Reg.ENG_STAT e ∨ Reg.CE_CFG = Reg.CE_CMD_RESULT)
      unfold Reg.ENG_STAT Reg.CE_CMD_RESULT Reg.CE_CFG
      omega))
    refine z.failsOver_state (hspare ▸ hne) (Dev.mem_engCtxs.2 ?_) ((Dev.g_of_word (f := Reg.CTX_W0_MIG c) (hword c)).trans hmig)
    rw [Dev.ctxState_of_word (hword c), Dev.ctxEng_of_word (hword c)]
    exact Dev.mem_engCtxs.1 hc
  · exact (hover.within.part .mem (by decide) a).trans (htable.part .mem (by decide) a)

end Sys2Proof.Machine
end

section
/-! PROOFS. Engine failures, their tests and migration (R93 to R97): each command in its own case. -/

namespace Sys2Proof.Machine

/-! ## Engines that pass or miss their test (R93) -/

theorem exec_ceEngFault_latched {s : State} {e : Nat} (hl : s.dev.on (Reg.ENG_STAT_FAULT e) = true) {src : Nat} (hs : src ≠ 0) (a : Nat) :
    exec (.ceEngFault e src a) s = .next s := by
  have he : exec (.ceEngFault e src a) s = execCeEngFault e src a s := rfl
  rw [he, execCeEngFault]
  refine State.run_self ?_
  rw [if_neg hs, Dev.engFail_self hl, ite_self]

theorem Dev.engTested_spec (d : Dev) {e : Nat} (he : e < 12) :
    (d.updEng e fun g => { g with sigDue := d.tick }).eng e = { d.eng e with sigDue := d.tick } ∧
    (∀ k, k ≠ e → (d.updEng e fun g => { g with sigDue := d.tick }).eng k = d.eng k) ∧
    d.keeps (d.updEng e fun g => { g with sigDue := d.tick }) [] [.ce] :=
  ⟨d.eng_updEng_same _ _ he, fun _ hk => d.eng_updEng_other _ hk, Dev.keeps_withCe List.mem_cons_self (d.keeps_refl _ _)⟩

/-! ## A migration that proceeds (R94) -/

theorem Dev.decided_within (d : Dev) (f n code who : Nat) : Within (· = Reg.ASSIST_CFG f) [.hst] True d (d.decided f n code who) := by
  have hself : Within (· = Reg.ASSIST_CFG f) [.hst] True d d := Within.refl d
  unfold Dev.decided
  split
  · exact hself
  · exact (hself.withdraw f n List.mem_cons_self rfl).withHst
      { (d.withdraw f n).hst with decided := (d.withdraw f n).hst.decided.filter (fun q => !(q.func == f && q.unit == n)) ++ [⟨f, n, code, who⟩] }
      List.mem_cons_self

theorem Dev.migDecision_proceeds {d : Dev} {m : Migration} (hm : d.ce.mig = some m) (hw : m.waiting = true) :
    d.migDecision m.eng 1 = d.migProceed m.eng := by
  unfold Dev.migDecision
  rw [hm, if_pos (by simp [hw]), if_pos rfl]

/-! ## A cold copy (R96) -/

/-- One device is another but for the words of the engines' memories. -/
def Dev.reprograms (d t : Dev) : Prop := ∃ pm dm, t = d.withCe { d.ce with pm := pm, dm := dm }

theorem Dev.reprograms_refl (d : Dev) : d.reprograms d := ⟨d.ce.pm, d.ce.dm, rfl⟩

theorem Dev.reprograms_trans {d t u : Dev} (h : d.reprograms t) (g : t.reprograms u) : d.reprograms u := by
  obtain ⟨_, _, rfl⟩ := h
  obtain ⟨pm, dm, rfl⟩ := g
  exact ⟨pm, dm, rfl⟩

theorem Dev.reprograms_each {α : Type} {d t : Dev} (h : d.reprograms t) (l : List α) (f : Dev → α → Dev) (hf : ∀ (x : Dev) a, x.reprograms (f x a)) :
    d.reprograms (t.each l f) := Dev.reprograms_trans h (Dev.each_rel Dev.reprograms_refl Dev.reprograms_trans l f hf t)

theorem Dev.copyCtx_reprograms (d : Dev) (c src dst : Nat) : d.reprograms (d.copyCtx c src dst) := by
  have hpm (x : Dev) (a v : Nat) : x.reprograms (x.setPm dst a v) := ⟨_, x.ce.dm, rfl⟩
  have hdm (x : Dev) (a v : Nat) : x.reprograms (x.setDm dst a v) := ⟨x.ce.pm, _, rfl⟩
  unfold Dev.copyCtx
  exact Dev.reprograms_each (Dev.reprograms_each (Dev.reprograms_each (Dev.reprograms_each d.reprograms_refl
    _ _ fun x _ => hpm x _ _) _ _ fun x _ => hdm x _ _) _ _ fun x _ => hdm x _ _) _ _ fun x _ => hdm x _ _

theorem Dev.migShow_keeps (d : Dev) : d.keeps d.migShow [RF.whole Reg.CE_MIG_STAT] [] := by
  rcases hm : d.ce.mig with _ | m
  · rw [Dev.migShow_none hm]
    exact d.keeps_refl _ _
  · rw [Dev.migShow_eq hm]
    exact Dev.keeps_setWord List.mem_cons_self (Dev.keeps_setWord List.mem_cons_self (Dev.keeps_setWord List.mem_cons_self (d.keeps_refl _ _)))

/-- The counts of the migration as the copies go on. -/
def Dev.migCounts (d : Dev) (m : Migration) : Dev := (d.withCe { d.ce with mig := some m }).migShow

theorem Dev.migCounts_spec (d : Dev) (m : Migration) : (d.migCounts m).ce.mig = some m ∧ (d.migCounts m).ce.ctxs = d.ce.ctxs ∧
    d.keeps (d.migCounts m) [RF.whole Reg.CE_MIG_STAT] [.ce] :=
  ⟨by rw [Dev.migCounts, Dev.migShow_ce]; rfl, by rw [Dev.migCounts, Dev.migShow_ce]; rfl, Dev.keeps_trans (Dev.keeps_withCe List.mem_cons_self (d.keeps_refl _ _))
    (Dev.keeps_mono (Dev.migShow_keeps _) (List.Subset.refl _) (List.nil_subset _))⟩

theorem ctxWord_ne_migStat (c : Nat) : Reg.CTX_W0 c ≠ Reg.CE_MIG_STAT := by
  unfold Reg.CTX_W0 Reg.CE_MIG_STAT
  omega

theorem Dev.migCounts_word (d : Dev) (m : Migration) (c : Nat) : (d.migCounts m).word (Reg.CTX_W0 c) = d.word (Reg.CTX_W0 c) :=
  Dev.word_of_keeps (d.migCounts_spec m).2.2 (by simpa [RF.whole] using ctxWord_ne_migStat c)

theorem Dev.spare_lt (d : Dev) : d.spare < 16 := Nat.mod_lt _ (by decide)

theorem Dev.ctxMoved_eq (d : Dev) (c : Nat) : d.ctxMoved c = ((d.s (Reg.CTX_W0_ENG c) d.spare).s (Reg.CTX_W0_STATE c) (d.ctx c).migFrom).updCtx c
    fun x => { x with warm := false, moved := true, evac := false } := rfl

/-- A context on the spare. -/
theorem Dev.ctxMoved_spec (d : Dev) {c : Nat} (hc : c < 256) : (d.ctxMoved c).ctxEng c = d.spare ∧
    (d.ctxMoved c).ctxState c = (Reg.CTX_W0_STATE c).cut (d.ctx c).migFrom ∧ ((d.ctxMoved c).ctx c).moved = true ∧
    d.keeps (d.ctxMoved c) [Reg.CTX_W0_ENG c, Reg.CTX_W0_STATE c] [.ce] := by
  have hheld : (Reg.CTX_W0_ENG c).apart (Reg.CTX_W0_STATE c) := .inr (.inr (by show 28 < 29; decide))
  rw [Dev.ctxMoved_eq, Dev.ctxEng, Dev.ctxState, Dev.g_updCtx, Dev.g_updCtx, Dev.ctx_updCtx_same _ _ _ hc]
  refine ⟨?_, ?_, rfl, ?_⟩
  · rw [Dev.g_s_apart _ _ (ctxState_fits c) (ctxEng_fits c).1 hheld, Dev.g_s_same _ _ _ (ctxEng_fits c).1 (ctxEng_fits c).2]
    exact Nat.mod_eq_of_lt d.spare_lt
  · exact Dev.g_s_same _ _ _ (ctxState_fits c).1 (ctxState_fits c).2
  · exact Dev.keeps_updCtx (Dev.keeps_s (by simp) (ctxState_fits c).1 (ctxState_fits c).2
      (Dev.keeps_s (by simp) (ctxEng_fits c).1 (ctxEng_fits c).2 (d.keeps_refl _ _))) _ _ (by simp)

/-- A cold copy that completes. -/
theorem Dev.coldCopied_spec (d : Dev) {c : Nat} (hc : c < 256) (src : Nat) (m : Migration) :
    (((d.copyCtx c src d.spare).ctxMoved c).migCounts m).ctxEng c = d.spare ∧
    (((d.copyCtx c src d.spare).ctxMoved c).migCounts m).ctxState c = (Reg.CTX_W0_STATE c).cut (d.ctx c).migFrom ∧
    ((((d.copyCtx c src d.spare).ctxMoved c).migCounts m).ctx c).moved = true ∧
    (((d.copyCtx c src d.spare).ctxMoved c).migCounts m).ce.mig = some m ∧
    d.keeps (((d.copyCtx c src d.spare).ctxMoved c).migCounts m) [Reg.CTX_W0_ENG c, Reg.CTX_W0_STATE c, RF.whole Reg.CE_MIG_STAT] [.ce] := by
  obtain ⟨pm, dm, hcopy⟩ := d.copyCtx_reprograms c src d.spare
  have hcopied : d.keeps (d.copyCtx c src d.spare) [] [.ce] := hcopy ▸ Dev.keeps_withCe List.mem_cons_self (d.keeps_refl _ _)
  have hspare : (d.copyCtx c src d.spare).spare = d.spare := Dev.g_of_word (Dev.word_of_keeps hcopied (by simp))
  have hctx : (d.copyCtx c src d.spare).ctx c = d.ctx c := Dev.ctx_of_ce (by rw [hcopy]; rfl) c
  generalize d.copyCtx c src d.spare = x at hcopied hspare hctx
  obtain ⟨heng, hstate, hmoved, hkeeps⟩ := x.ctxMoved_spec hc
  generalize x.ctxMoved c = y at heng hstate hmoved hkeeps
  obtain ⟨hmig, hctxs, hcounts⟩ := y.migCounts_spec m
  have hword := y.migCounts_word m c
  refine ⟨(Dev.ctxEng_of_word hword).trans (heng.trans hspare), (Dev.ctxState_of_word hword).trans (hctx ▸ hstate), ?_, hmig, ?_⟩
  · rw [Dev.ctx_of_ce hctxs]
    exact hmoved
  · exact Dev.keeps_trans (Dev.keeps_mono hcopied (by simp) (by simp))
      (Dev.keeps_trans (Dev.keeps_mono hkeeps (by simp) (by simp)) (Dev.keeps_mono hcounts (by simp) (by simp)))

/-- A cold copy that is lost: its context enters FAULT. -/
theorem Dev.copyLost_spec (d : Dev) {c : Nat} (hc : c < 256) (h5 : d.ctxState c = 5) (m : Migration) :
    ((d.ctxFault c 4).migCounts m).ctxState c = 4 ∧
    d.record Err.CE_CTX_FAULT [c, 4, d.ctxBind c] ∈ ((d.ctxFault c 4).migCounts m).raised ∧
    ((d.ctxFault c 4).migCounts m).ce.mig = some m := by
  obtain ⟨hstate, _, hrecord, _⟩ := d.ctxFault_spec hc (by rw [h5]; decide) (by rw [h5]; decide) 4
  generalize d.ctxFault c 4 = x at hstate hrecord
  obtain ⟨hmig, _, hcounts⟩ := x.migCounts_spec m
  refine ⟨(Dev.ctxState_of_word (x.migCounts_word m c)).trans hstate, ?_, hmig⟩
  have hraised : (x.migCounts m).raised = x.raised := hcounts.2 .raised (by decide)
  rw [hraised]
  exact hrecord

/-! ## The end of a migration (R97) -/

/-- The words of one record of a migration's end. -/
def migWords (m : Migration) (i : Nat) : List Nat :=
  [m.eng, m.moved, m.lost, m.dropped.length] ++ (packBytes ((m.dropped.drop (16 * i)).take 16) ++ [0, 0, 0, 0]).take 4

theorem Dev.migRecords_eq (d : Dev) (m : Migration) : d.migRecords m =
    d.each (List.range (max 1 ((m.dropped.length + 15) / 16))) fun d i => d.raise Err.CE_MIG_DONE (migWords m i) := rfl

theorem Dev.migRecords_spec (d : Dev) (m : Migration) : (∃ r ∈ (d.migRecords m).raised, r.code = Err.CE_MIG_DONE) ∧
    d.keeps (d.migRecords m) [] [.raised] := by
  rw [Dev.migRecords_eq]
  refine ⟨?_, Dev.keeps_each _ _ (fun x _ _ => Dev.keeps_raise List.mem_cons_self (x.keeps_refl _ _)) (d.keeps_refl _ _)⟩
  refine Dev.each_all (Q := fun _ x => ∃ r ∈ x.raised, r.code = Err.CE_MIG_DONE)
    (f := fun d i => d.raise Err.CE_MIG_DONE (migWords m i)) (List.range (max 1 ((m.dropped.length + 15) / 16)))
    (fun x i _ => ⟨x.record Err.CE_MIG_DONE (migWords m i), List.mem_append_right _ List.mem_cons_self, rfl⟩)
    (fun x i _ _ h => ?_) d 0 (List.mem_range.2 (by omega))
  obtain ⟨r, hr, hcode⟩ := h
  exact ⟨r, List.mem_append_left _ hr, hcode⟩

/-- The migration ends: the failed engine reset, ABSORBED set. -/
def Dev.migEnds (d : Dev) (e : Nat) : Dev := ((d.migShow.engReset e).s Reg.CE_MIG_STAT_ACTIVE 0).s Reg.CE_MIG_STAT_ABSORBED 1

theorem Dev.migEnds_spec (d : Dev) {e : Nat} (he : e < 12) : (d.migEnds e).on Reg.CE_MIG_STAT_ACTIVE = false ∧
    (d.migEnds e).on Reg.CE_MIG_STAT_ABSORBED = true ∧ (d.migEnds e).eng e = { ({} : Eng) with sigDue := (d.eng e).sigDue } ∧
    d.keeps (d.migEnds e) [RF.whole Reg.CE_MIG_STAT] [.ce] := by
  have hshow := d.migShow_keeps
  have hsame : d.migShow.eng e = d.eng e := Dev.eng_of_ce (congrArg Ce.engs d.migShow_ce) e
  obtain ⟨heng, _, hreset⟩ := d.migShow.engReset_spec he
  unfold Dev.migEnds
  generalize d.migShow.engReset e = x at heng hreset
  have hoff : (x.s Reg.CE_MIG_STAT_ACTIVE 0).g Reg.CE_MIG_STAT_ACTIVE = 0 := x.g_s_same _ _ (Nat.le_refl 3) (by decide)
  have hbeside := (x.s Reg.CE_MIG_STAT_ACTIVE 0).g_s_beside Reg.CE_MIG_STAT_ABSORBED Reg.CE_MIG_STAT_ACTIVE 1 (Nat.le_refl 2) (by decide)
    (Nat.le_refl 3) (.inl (by decide))
  have hon : ((x.s Reg.CE_MIG_STAT_ACTIVE 0).s Reg.CE_MIG_STAT_ABSORBED 1).g Reg.CE_MIG_STAT_ABSORBED = 1 :=
    Dev.g_s_same _ _ _ (Nat.le_refl 2) (by decide)
  refine ⟨?_, ?_, ?_, ?_⟩
  · rw [Dev.on, hbeside, hoff]
    rfl
  · rw [Dev.on, hon]
    rfl
  · rw [Dev.eng_s, Dev.eng_s, heng, hsame]
  · exact Dev.keeps_setWord List.mem_cons_self (Dev.keeps_setWord List.mem_cons_self (Dev.keeps_trans
      (Dev.keeps_mono hshow (List.Subset.refl _) (by simp)) (Dev.keeps_mono hreset (by simp) (by simp))))

end Sys2Proof.Machine
end

section
/-! PROOFS. The commands of engine failures, tests and migration (R93 to R97). -/

namespace Sys2Proof.Machine

variable {s : State} {e : Nat}

/-- A failure that is detected. -/
theorem ceEngFault_fails (hl : s.dev.live = true) (he : e < 12) (hf : s.dev.on (Reg.ENG_STAT_FAULT e) = false) {src : Nat} (h0 : 0 < src)
    (h6 : src < 6) (a : Nat) : Does s (.ceEngFault e src a) (fun t => t.on (Reg.ENG_STAT_FAULT e) = true ∧
      t.g (Reg.ENG_STAT_FAULT_SRC e) = src ∧ s.dev.record Err.CE_ENG_FAULT [e, src] ∈ t.raised ∧ (t.eng e).run = none ∧
      (e ≠ s.dev.spare → ∀ c ∈ s.dev.engCtxs e, s.dev.g (Reg.CTX_W0_MIG c) = 0 → t.ctxState c = 4) ∧ ∀ a, t.byte a = s.dev.byte a) := by
  have hexec : exec (.ceEngFault e src a) s = execCeEngFault e src a s := rfl
  refine State.does_run (hexec.trans rfl) hl ?_
  rw [if_neg (by omega), if_neg (by omega)]
  exact Dev.engFail_spec he (by omega) hf

/-- A correctable error is recorded. -/
theorem ceEngFault_corrects (hl : s.dev.live = true) (he : e < 12) (a : Nat) : Does s (.ceEngFault e 0 a) (fun t =>
    t.raised = s.dev.plusRecord Err.CE_ECC_CORR [e, a] ∧ s.dev.keeps t [] [.raised]) := by
  have hexec : exec (.ceEngFault e 0 a) s = execCeEngFault e 0 a s := rfl
  refine State.does_run (hexec.trans rfl) hl ?_
  rw [if_neg (by omega), if_pos rfl]
  exact s.dev.raise_spec _ _

/-- An engine that may be tested. -/
theorem testable (he : e < 12) (hh : s.dev.on (Reg.ENG_STAT_HALT e) = false) (hf : s.dev.on (Reg.ENG_STAT_FAULT e) = false)
    (hr : (s.dev.eng e).run = none) :
    e < 12 ∧ (!s.dev.on (Reg.ENG_STAT_HALT e)) = true ∧ (!s.dev.on (Reg.ENG_STAT_FAULT e)) = true ∧ (s.dev.eng e).run.isNone = true := by
  rw [hh, hf, hr]
  exact ⟨he, rfl, rfl, rfl⟩

theorem signatureTest_passes (hl : s.dev.live = true) (he : e < 12) (hh : s.dev.on (Reg.ENG_STAT_HALT e) = false)
    (hf : s.dev.on (Reg.ENG_STAT_FAULT e) = false) (hr : (s.dev.eng e).run = none) :
    Does s (.signatureTest e true) (fun t => t.eng e = { s.dev.eng e with sigDue := s.dev.tick } ∧ (∀ k, k ≠ e → t.eng k = s.dev.eng k) ∧
      s.dev.keeps t [] [.ce]) := by
  refine State.does_run (i := .signatureTest e true) rfl hl ?_
  rw [if_pos (testable he hh hf hr), if_pos rfl]
  exact s.dev.engTested_spec he

theorem signatureTest_fails (hl : s.dev.live = true) (he : e < 12) (hh : s.dev.on (Reg.ENG_STAT_HALT e) = false)
    (hf : s.dev.on (Reg.ENG_STAT_FAULT e) = false) (hr : (s.dev.eng e).run = none) :
    Does s (.signatureTest e false) (fun t => t.on (Reg.ENG_STAT_FAULT e) = true ∧ t.g (Reg.ENG_STAT_FAULT_SRC e) = 4) := by
  refine State.does_run (i := .signatureTest e false) rfl hl ?_
  rw [if_pos (testable he hh hf hr), if_neg Bool.false_ne_true]
  obtain ⟨hfault, hsrc, _⟩ := Dev.engFail_spec (src := 4) he (by decide) hf
  exact ⟨hfault, hsrc⟩

theorem sigStarved (hl : s.dev.live = true) (he : e < 12) (hh : s.dev.on (Reg.ENG_STAT_HALT e) = false)
    (hdue : 10 * s.dev.g Reg.CE_CFG_SIG_PERIOD ≤ msBetween (s.dev.eng e).sigDue s.dev.tick) :
    Does s (.ceSigStarved e) (fun t => t.eng e = { s.dev.eng e with sigDue := s.dev.tick } ∧
      t.raised = s.dev.plusRecord Err.CE_SIG_STARVED [e] ∧ s.dev.keeps t [] [.ce, .raised]) := by
  refine State.does_run (i := .ceSigStarved e) rfl hl ?_
  rw [if_pos ⟨he, by rw [hh]; rfl, hdue⟩]
  obtain ⟨heng, _, hkeeps⟩ := s.dev.engTested_spec he
  exact ⟨heng, rfl, Dev.keeps_raise (by simp) (Dev.keeps_mono hkeeps (List.Subset.refl _) (by simp))⟩

variable {m : Migration}

/-- A migration that waits proceeds on its decision. -/
theorem migrationProceeds (hl : s.dev.live = true) (hm : s.dev.ce.mig = some m) (hw : m.waiting = true) :
    Does s (.migrationProceed m.eng) (fun t => t.on Reg.CE_MIG_STAT_ACTIVE = true ∧
      t.g Reg.CE_MIG_STAT_SRC_ENG = m.eng % 16 ∧ (∃ m', t.ce.mig = some m' ∧ m'.waiting = false ∧ m'.eng = m.eng) ∧
      ∀ a, t.byte a = s.dev.byte a) := by
  refine State.does_run (i := .migrationProceed m.eng) rfl hl ?_
  have hdec := s.dev.decided_within 9 m.eng 1 0
  rw [hm, if_pos (by simp [hw])]
  generalize s.dev.decided 9 m.eng 1 0 = d at hdec
  have hmig : d.ce.mig = some m := (congrArg Ce.mig (hdec.part .ce (by decide))).trans hm
  rw [Dev.migDecision_proceeds hmig hw]
  have hmem := (Dev.migProceed_moves (X := fun _ => False) (fun _ _ => False.elim) m.eng : d.MovesBeside _ _).within.part .mem (by decide)
  obtain ⟨m', hw', heng, heq⟩ := Dev.migProceed_eq hmig m.eng
  obtain ⟨hactive, hsrc, hmig'⟩ := Dev.migStarted_spec ((d.spareFreed m.eng).warmMoved m.eng) m'
  rw [← heq] at hactive hsrc hmig'
  exact ⟨hactive, hsrc.trans (by rw [heng]), ⟨m', hmig', hw', heng⟩, fun a => (hmem a).trans (hdec.part .mem (by decide) a)⟩

section
variable {c : Nat} {rest : List Nat}

/-- The copy of the first context that waits. -/
theorem copyDue (hw : m.waiting = false) (ht : m.todo = c :: rest) : ¬ (m.waiting = true ∨ m.todo.head? ≠ some c) := by
  rw [hw, ht]
  simp

theorem coldCopyCompletes (hl : s.dev.live = true) (hm : s.dev.ce.mig = some m) (hw : m.waiting = false) (hc : c < 256)
    (ht : m.todo = c :: rest) : Does s (.coldCopyComplete c true) (fun t => t.ctxEng c = s.dev.spare ∧
      t.ctxState c = (Reg.CTX_W0_STATE c).cut (s.dev.ctx c).migFrom ∧ (t.ctx c).moved = true ∧
      t.ce.mig = some { m with todo := rest, moved := m.moved + 1 } ∧
      s.dev.keeps t [Reg.CTX_W0_ENG c, Reg.CTX_W0_STATE c, RF.whole Reg.CE_MIG_STAT] [.ce]) := by
  have hspec := s.dev.coldCopied_spec hc m.eng { m with todo := m.todo.tail, moved := m.moved + 1 }
  have hexec : exec (.coldCopyComplete c true) s = execColdCopyComplete c true s := rfl
  refine State.does_run (hexec.trans rfl) hl ?_
  dsimp only
  rw [hm]
  dsimp only
  rw [if_neg (copyDue hw ht), if_pos rfl]
  rw [ht] at hspec ⊢
  exact hspec

theorem coldCopyFails (hl : s.dev.live = true) (hm : s.dev.ce.mig = some m) (hw : m.waiting = false) (hc : c < 256)
    (ht : m.todo = c :: rest) (h5 : s.dev.ctxState c = 5) : Does s (.coldCopyComplete c false) (fun t => t.ctxState c = 4 ∧
      s.dev.record Err.CE_CTX_FAULT [c, 4, s.dev.ctxBind c] ∈ t.raised ∧ t.ce.mig = some { m with todo := rest, lost := m.lost + 1 }) := by
  have hspec := s.dev.copyLost_spec hc h5 { m with todo := m.todo.tail, lost := m.lost + 1 }
  have hexec : exec (.coldCopyComplete c false) s = execColdCopyComplete c false s := rfl
  refine State.does_run (hexec.trans rfl) hl ?_
  dsimp only
  rw [hm]
  dsimp only
  rw [if_neg (copyDue hw ht), if_neg Bool.false_ne_true]
  rw [ht] at hspec ⊢
  exact hspec

end

/-- When all copies have finished. -/
theorem migrationDone (hl : s.dev.live = true) (hm : s.dev.ce.mig = some m) (hw : m.waiting = false) (ht : m.todo = []) (he : m.eng < 12) :
    Does s .ceMigDone (fun t => t.ce.mig = none ∧ t.on Reg.CE_MIG_STAT_ACTIVE = false ∧
      t.on Reg.CE_MIG_STAT_ABSORBED = true ∧ t.eng m.eng = { ({} : Eng) with sigDue := (s.dev.eng m.eng).sigDue } ∧
      (∃ r ∈ t.raised, r.code = Err.CE_MIG_DONE) ∧ s.dev.keeps t [RF.whole Reg.CE_MIG_STAT] [.ce, .raised]) := by
  obtain ⟨hactive, habsorbed, heng, hends⟩ := s.dev.migEnds_spec he
  have hexec : exec .ceMigDone s = execCeMigDone s := rfl
  refine State.does_run (hexec.trans rfl) hl ?_
  dsimp only
  rw [hm]
  dsimp only
  rw [if_neg (by rw [hw, ht]; simp)]
  show _ ∧ _
  rw [← Dev.migEnds]
  generalize s.dev.migEnds m.eng = x at hactive habsorbed heng hends
  obtain ⟨hrecords, hraised⟩ := x.migRecords_spec m
  generalize x.migRecords m = y at hrecords hraised
  have hstat : (y.withCe { y.ce with mig := none }).word Reg.CE_MIG_STAT = x.word Reg.CE_MIG_STAT := Dev.word_of_keeps hraised (by simp)
  have hce : y.ce = x.ce := hraised.2 .ce (by decide)
  refine ⟨rfl, (Dev.on_of_word hstat).trans hactive, (Dev.on_of_word hstat).trans habsorbed, ?_, hrecords, ?_⟩
  · rw [← heng]
    exact Dev.eng_of_ce (d := x) (congrArg Ce.engs hce) m.eng
  · exact Dev.keeps_trans (Dev.keeps_mono hends (List.Subset.refl _) (by simp))
      (Dev.keeps_withCe (by simp) (Dev.keeps_mono hraised (by simp) (by simp)))

/-- Engine failures, their tests and migration. -/
theorem engineFailures_hold : engineFailures := by
  intro s hl
  refine ⟨fun e he hf src a h0 h6 => ceEngFault_fails hl he hf h0 h6 a, fun e _ hf src a h0 => exec_ceEngFault_latched hf h0 a,
    fun e he a => ceEngFault_corrects hl he a,
    fun e he hh hf hr => ⟨signatureTest_passes hl he hh hf hr, signatureTest_fails hl he hh hf hr⟩,
    fun e he hh hdue => sigStarved hl he hh hdue, fun m hm hw => migrationProceeds hl hm hw, fun m hm hw => ⟨fun c rest _ hc ht => ⟨?_, ?_⟩, ?_⟩⟩
  · exact coldCopyCompletes hl hm hw hc ht
  · exact coldCopyFails hl hm hw hc ht
  · exact migrationDone hl hm hw

end Sys2Proof.Machine
end

section
/-! PROOFS. The debug of an engine: its halt, its resume, and a step (R99, R100). -/

namespace Sys2Proof.Machine

/-! ## An engine that halts -/

theorem Dev.engBind_updEng (d : Dev) (k e : Nat) (f : Eng → Eng) : (d.updEng k f).engBind e = d.engBind e := rfl

/-- The halt of an engine, without the force on its channels. -/
def Dev.halted (d : Dev) (e : Nat) : Dev := (d.updEng e fun g => if g.run.isSome then g.settled else g).s (Reg.ENG_STAT_HALT e) 1

theorem halt_fits (e : Nat) : (Reg.ENG_STAT_HALT e).fits := RF.fits_of rfl

theorem Dev.on_s {f : RF} (d : Dev) (h : f.lo = f.hi) (h31 : f.hi ≤ 31) (b : Bool) : (d.s f (b2n b)).on f = b := by
  rw [Dev.on, d.g_s_same f _ (Nat.le_of_eq h) h31, h, Nat.sub_self]
  cases b
  · rfl
  · rfl

theorem Dev.halted_spec (d : Dev) {e : Nat} (he : e < 12) : (d.halted e).on (Reg.ENG_STAT_HALT e) = true ∧
    (d.halted e).eng e = (if (d.eng e).run.isSome then (d.eng e).settled else d.eng e) ∧ (∀ k, k ≠ e → (d.halted e).eng k = d.eng k) ∧
    ∀ a, (d.halted e).byte a = d.byte a := by
  refine ⟨Dev.on_s _ rfl (halt_fits e).2 true, ?_, fun k hk => ?_, fun _ => rfl⟩
  · rw [Dev.halted, Dev.eng_s, Dev.eng_updEng_same _ _ _ he]
  · rw [Dev.halted, Dev.eng_s, Dev.eng_updEng_other _ _ hk]

/-- A halted engine with the channels bound to its contexts forced. -/
theorem Dev.haltForced_spec (d : Dev) {e : Nat} (he : e < 12) (mask : Nat) :
    ((d.halted e).forceMask mask 2 (e + 1)).on (Reg.ENG_STAT_HALT e) = true ∧
    ((d.halted e).forceMask mask 2 (e + 1)).eng e = (if (d.eng e).run.isSome then (d.eng e).settled else d.eng e) ∧
    (∀ k, k ≠ e → ((d.halted e).forceMask mask 2 (e + 1)).eng k = d.eng k) ∧
    (∀ n < 6, mask.testBit n = true → (⟨n, 2, e + 1⟩ : ForceCond) ∈ ((d.halted e).forceMask mask 2 (e + 1)).pwm.conds) ∧
    ∀ a, ((d.halted e).forceMask mask 2 (e + 1)).byte a = d.byte a := by
  obtain ⟨hon, heng, hothers, hmem⟩ := d.halted_spec he
  generalize d.halted e = x at hon heng hothers hmem
  have hforce := x.forceMask_forcesOn mask 2 (e + 1)
  have hengs (k : Nat) : (x.forceMask mask 2 (e + 1)).eng k = x.eng k := Dev.eng_of_ce (congrArg Ce.engs (hforce.part .ce (by decide))) k
  have hstat : (x.forceMask mask 2 (e + 1)).word (Reg.ENG_STAT e) = x.word (Reg.ENG_STAT e) := hforce.word _ fun ⟨hdrive, _⟩ => by
    unfold driveKey Reg.ENG_STAT at hdrive
    omega
  exact ⟨(Dev.on_of_word hstat).trans hon, (hengs e).trans heng, fun k hk => (hengs k).trans (hothers k hk),
    fun n hn hbit => (x.mem_forceMask _ _ _ hn).2 (.inr hbit), fun a => (hforce.part .mem (by decide) a).trans (hmem a)⟩

/-- A halt needs the debug lock OPEN and an engine that is not halted. -/
theorem engineHalts {s : State} {e : Nat} (hl : s.dev.live = true) (he : e < 12) (ho : s.dev.debugOpen = true)
    (hh : s.dev.on (Reg.ENG_STAT_HALT e) = false) : Does s (.engineHalt e) (fun t => t.on (Reg.ENG_STAT_HALT e) = true ∧
      t.eng e = (if (s.dev.eng e).run.isSome then (s.dev.eng e).settled else s.dev.eng e) ∧ (∀ k, k ≠ e → t.eng k = s.dev.eng k) ∧
      (∀ n < 6, (s.dev.engBind e).testBit n = true → (⟨n, 2, e + 1⟩ : ForceCond) ∈ t.pwm.conds) ∧ ∀ a, t.byte a = s.dev.byte a) := by
  have hspec := s.dev.haltForced_spec he (s.dev.engBind e)
  refine State.does_run (i := .engineHalt e) rfl hl ?_
  rw [if_pos ⟨he, ho, by rw [hh]; rfl⟩]
  dsimp only
  rw [Dev.engBind_updEng]
  exact hspec

theorem engineHalt_locked {s : State} (e : Nat) (ho : s.dev.debugOpen = false) :
    exec (.engineHalt e) s = .next s ∧ exec (.engineSingleStep e) s = .next s := by
  have hhalt : exec (.engineHalt e) s = execEngineHalt e s := rfl
  have hstep : exec (.engineSingleStep e) s = execEngineSingleStep e s := rfl
  rw [hhalt, hstep, execEngineHalt, execEngineSingleStep]
  refine ⟨State.run_self (if_neg ?_), State.run_self (if_neg ?_)⟩
  · rw [ho]
    simp
  · rw [ho]
    simp

/-! ## An engine that resumes -/

/-- The queued runs of an engine dropped, each counted as missed. -/
def Dev.runsDropped (d : Dev) (e : Nat) : Dev :=
  d.each (((d.eng e).queue.map (·.ctx)).filter fun c => d.ctxEng c == e) fun d c =>
    (d.inc (Reg.CTX_MISS_CNT_COUNT c)).updCtx c fun x => { x with phase := .idle }

/-- The interrupted run of an engine abandoned. -/
def Dev.runAbandoned (d : Dev) : Option Nat → Dev
  | some c => d.updCtx c fun x => { x with phase := .idle }
  | none => d

/-- The dropping of the runs reaches counts and contexts alone. -/
theorem Dev.runsDropped_spec (d : Dev) (e : Nat) : Within (fun _ => True) [.ce] True d (d.runsDropped e) ∧
    ∀ k, (d.runsDropped e).eng k = d.eng k :=
  ⟨(Within.refl d).each _ _ fun x c _ => ((Within.refl x).s (Reg.CTX_MISS_CNT_COUNT c) _ trivial).withCe _ List.mem_cons_self,
    fun k => Dev.each_rel (R := fun x y => y.eng k = x.eng k) (fun _ => rfl) (fun h g => g.trans h) _ _
      (fun x c => by rw [Dev.eng_updCtx, Dev.inc, Dev.eng_s]) d⟩

theorem Dev.runAbandoned_spec (d : Dev) (r : Option Nat) : Within (fun _ => True) [.ce] True d (d.runAbandoned r) ∧
    ∀ k, (d.runAbandoned r).eng k = d.eng k := by
  cases r with
  | none => exact ⟨Within.refl d, fun _ => rfl⟩
  | some c => exact ⟨(Within.refl d).withCe _ List.mem_cons_self, fun _ => rfl⟩

/-- A resumed engine, its channels not yet released. -/
def Dev.resumed (d : Dev) (e : Nat) : Dev :=
  ((d.runsDropped e).runAbandoned (d.eng e).run).updEng e fun _ =>
    { ({} : Eng) with lastEnd := some ((d.runsDropped e).runAbandoned (d.eng e).run).tick
                      sigDue := ((d.runsDropped e).runAbandoned (d.eng e).run).tick }

theorem Dev.resumed_spec (d : Dev) {e : Nat} (he : e < 12) : Within (fun _ => True) [.ce] True d (d.resumed e) ∧
    (d.resumed e).eng e = { ({} : Eng) with lastEnd := some d.tick, sigDue := d.tick } ∧ ∀ k, k ≠ e → (d.resumed e).eng k = d.eng k := by
  obtain ⟨hdropped, hengs⟩ := d.runsDropped_spec e
  unfold Dev.resumed
  generalize d.runsDropped e = x at hdropped hengs
  obtain ⟨habandoned, hengs'⟩ := x.runAbandoned_spec (d.eng e).run
  generalize x.runAbandoned (d.eng e).run = y at habandoned hengs'
  have hwithin := hdropped.trans habandoned
  have htick : y.tick = d.tick := hwithin.part .tick (by decide)
  refine ⟨hwithin.withCe _ List.mem_cons_self, ?_, fun k hk => ?_⟩
  · rw [Dev.eng_updEng_same _ _ _ he, htick]
  · rw [Dev.eng_updEng_other _ _ hk, hengs', hengs]

/-- A resumed engine with the force on its channels ended. -/
theorem Dev.resumeFreed_spec (d : Dev) {e : Nat} (he : e < 12) :
    (((d.resumed e).s (Reg.ENG_STAT_HALT e) 0).forceOff 2 (e + 1)).on (Reg.ENG_STAT_HALT e) = false ∧
    (((d.resumed e).s (Reg.ENG_STAT_HALT e) 0).forceOff 2 (e + 1)).eng e = { ({} : Eng) with lastEnd := some d.tick, sigDue := d.tick } ∧
    (∀ k, k ≠ e → (((d.resumed e).s (Reg.ENG_STAT_HALT e) 0).forceOff 2 (e + 1)).eng k = d.eng k) ∧
    (∀ x ∈ (((d.resumed e).s (Reg.ENG_STAT_HALT e) 0).forceOff 2 (e + 1)).pwm.conds, ¬ (x.why = 2 ∧ x.inst = e + 1)) ∧
    (∀ x ∈ (((d.resumed e).s (Reg.ENG_STAT_HALT e) 0).forceOff 2 (e + 1)).pwm.conds, x ∈ d.pwm.conds) ∧
    ∀ a, (((d.resumed e).s (Reg.ENG_STAT_HALT e) 0).forceOff 2 (e + 1)).byte a = d.byte a := by
  obtain ⟨hwithin, heng, hothers⟩ := d.resumed_spec he
  generalize d.resumed e = x at hwithin heng hothers
  have hconds : (x.s (Reg.ENG_STAT_HALT e) 0).pwm.conds = d.pwm.conds := hwithin.conds trivial
  have hoff : (x.s (Reg.ENG_STAT_HALT e) 0).on (Reg.ENG_STAT_HALT e) = false := x.on_s rfl (halt_fits e).2 false
  refine ⟨hoff, (x.eng_s (Reg.ENG_STAT_HALT e) 0 e).trans heng, fun k hk => (x.eng_s (Reg.ENG_STAT_HALT e) 0 k).trans (hothers k hk),
    fun c hc => ?_, fun c hc => hconds ▸ List.mem_of_mem_filter hc, hwithin.part .mem (by decide)⟩
  have hkept := (List.mem_filter.1 hc).2
  simpa [-not_and, not_and_or] using hkept

theorem exec_engineResume (e : Nat) (s : State) : exec (.engineResume e) s = s.run fun d =>
    if e < 12 ∧ d.on (Reg.ENG_STAT_HALT e) then ((d.resumed e).s (Reg.ENG_STAT_HALT e) 0).forceOff 2 (e + 1) else d := rfl

/-- An engine that resumes. -/
theorem engineResumes {s : State} {e : Nat} (hl : s.dev.live = true) (he : e < 12) (hh : s.dev.on (Reg.ENG_STAT_HALT e) = true) :
    Does s (.engineResume e) (fun t => t.on (Reg.ENG_STAT_HALT e) = false ∧
      t.eng e = { ({} : Eng) with lastEnd := some s.dev.tick, sigDue := s.dev.tick } ∧ (∀ k, k ≠ e → t.eng k = s.dev.eng k) ∧
      (∀ x ∈ t.pwm.conds, ¬ (x.why = 2 ∧ x.inst = e + 1)) ∧ (∀ x ∈ t.pwm.conds, x ∈ s.dev.pwm.conds) ∧ ∀ a, t.byte a = s.dev.byte a) := by
  refine State.does_run (exec_engineResume e s) hl ?_
  rw [if_pos ⟨he, hh⟩]
  exact s.dev.resumeFreed_spec he

/-! ## A step of a halted engine -/

/-- The effect of the instruction that a word stands for is the command's own. -/
theorem conathExec_fields (w e : Nat) (s : State) : conathExec w e s = exec (conathFields w e) s := by
  unfold conathExec conathFields
  dsimp only
  generalize cwOp w = o
  split
  all_goals rfl

theorem conathFields_of {w e : Nat} {i : Instr} (h : conathInstr w e = some i) : conathFields w e = i := by
  unfold conathInstr at h
  split at h
  · exact Option.some.inj h
  · contradiction

theorem Dev.conathStep_eq {d u : Dev} {w e : Nat} (h : exec (conathFields w e) ⟨d, []⟩ = .next ⟨u, []⟩) : d.conathStep w e = u := by
  rw [Dev.conathStep, conathExec_fields, h]

/-- A step carries out the one instruction at the program counter, as an engine that is not halted would. -/
theorem engineSteps {s : State} {e : Nat} (hl : s.dev.live = true) (he : e < 12) (ho : s.dev.debugOpen = true)
    (hh : s.dev.on (Reg.ENG_STAT_HALT e) = true) (hr : (s.dev.eng e).run.isSome = true) (hend : (s.dev.eng e).ended = none)
    {i : Instr} (hok : conathOk (s.dev.pmWord e (s.dev.eng e).pc) = true)
    (hi : conathInstr (s.dev.pmWord e (s.dev.eng e).pc) e = some i) :
    ∃ u, exec i ⟨s.dev.s (Reg.ENG_STAT_HALT e) 0, s.pending⟩ = .next ⟨u, s.pending⟩ ∧
      exec (.engineSingleStep e) s = .next ⟨u.s (Reg.ENG_STAT_HALT e) 1, s.pending⟩ := by
  obtain ⟨u, hu⟩ := exec_queue i (s.dev.s (Reg.ENG_STAT_HALT e) 0)
  refine ⟨u, hu _, ?_⟩
  have hstep : (s.dev.s (Reg.ENG_STAT_HALT e) 0).conathStep (s.dev.pmWord e (s.dev.eng e).pc) e = u :=
    Dev.conathStep_eq (conathFields_of hi ▸ hu [])
  have hexec : exec (.engineSingleStep e) s = execEngineSingleStep e s := rfl
  rw [hexec, execEngineSingleStep, State.run, if_pos hl, if_pos ⟨he, ho, hh, hr⟩]
  dsimp only
  rw [hend, if_neg (by decide), if_pos hok, hstep]

/-- The debug of an engine. -/
theorem engineDebug_hold : engineDebug := fun _ hl e he =>
  ⟨fun ho hh => engineHalts hl he ho hh, fun ho => engineHalt_locked e ho, fun hh => engineResumes hl he hh,
    fun ho hh hr hend _ hok hi => engineSteps hl he ho hh hr hend hok hi⟩

end Sys2Proof.Machine
end

section
open Sys2Proof Sys2Proof.Machine

/-- Settles O18: the failures of an engine, and its debug. -/
theorem engineFailuresAndDebug : Obligations.EngineFailuresAndDebug := ⟨engineFailures_hold, engineDebug_hold⟩

end

section
/-! PROOFS. What the shadows of a context and the generators leave of the context: its entry, its status, its own state and its queued runs
(R80, R89, R90, R101, R147). -/

namespace Sys2Proof.Machine

/-- The registers of the generators, and those of the contexts but `c`. -/
def besideCtx (c k : Nat) : Prop :=
  (0x30034000 ≤ k ∧ k < 0x30034100) ∨ (0x100000000 ≤ k ∧ ¬ (0x100000000 + 0x1000 * c ≤ k ∧ k < 0x100001000 + 0x1000 * c))

/-- From `d` to `t` a context stands: its registers, its own state and its queued runs, the runs on the engines and every part outside the
array but the free values. -/
structure Dev.LeavesCtx (c : Nat) (d t : Dev) : Prop where
  within : Within (besideCtx c) [.ce, .free] True d t
  ctx : t.ctx c = d.ctx c
  run : ∀ k, (t.eng k).run = (d.eng k).run
  queued : ∀ k, ∀ q ∈ (d.eng k).queue, q.ctx = c → q ∈ (t.eng k).queue

namespace Dev.LeavesCtx

variable {c x : Nat} {d t u : Dev}

theorem refl (d : Dev) : LeavesCtx c d d := ⟨Within.refl d, rfl, fun _ => rfl, fun _ _ hq _ => hq⟩

theorem trans (h : LeavesCtx c d t) (g : LeavesCtx c t u) : LeavesCtx c d u :=
  ⟨h.within.trans g.within, g.ctx.trans h.ctx, fun k => (g.run k).trans (h.run k), fun k q hq hc => g.queued k q (h.queued k q hq hc) hc⟩

/-- A step that leaves the contexts and the engines. -/
theorem ofWithin (h : LeavesCtx c d t) (w : Within (besideCtx c) [.ce, .free] True t u) (hc : u.ce.ctxs = t.ce.ctxs)
    (he : u.ce.engs = t.ce.engs) : LeavesCtx c d u :=
  h.trans ⟨w, Dev.ctx_of_ce hc c, fun k => by rw [Dev.eng_of_ce he], fun k q hq _ => by rwa [Dev.eng_of_ce he]⟩

theorem s (h : LeavesCtx c d t) (f : RF) (v : Nat) (hf : besideCtx c f.key) : LeavesCtx c d (t.s f v) :=
  h.ofWithin ((Within.refl t).s f v hf) (by rw [Dev.s_ce]) (by rw [Dev.s_ce])

theorem tookFree (h : LeavesCtx c d t) : LeavesCtx c d t.tookFree := h.ofWithin ((Within.refl t).tookFree (by decide)) rfl rfl

theorem updGen (h : LeavesCtx c d t) (k : Nat) (f : Gen → Gen) : LeavesCtx c d (t.updGen k f) :=
  h.ofWithin ((Within.refl t).withCe _ (by decide)) rfl rfl

theorem openDiv (h : LeavesCtx c d t) (a b : Int) : LeavesCtx c d (t.openDiv a b).2 := by
  unfold Dev.openDiv
  split
  · exact h
  · split
    · exact h
    · exact h.tookFree

theorem updCtx (h : LeavesCtx c d t) (f : Ctx → Ctx) (hx : x ≠ c) : LeavesCtx c d (t.updCtx x f) :=
  h.trans ⟨(Within.refl t).withCe _ (by decide), t.ctx_updCtx_other f hx.symm, fun _ => rfl, fun _ _ hq _ => hq⟩

/-- An engine whose run stays and whose queue keeps the runs of the context. -/
theorem updEng (h : LeavesCtx c d t) (e : Nat) (f : Eng → Eng) (hr : ∀ g, (f g).run = g.run)
    (hq : ∀ g, ∀ q ∈ g.queue, q.ctx = c → q ∈ (f g).queue) : LeavesCtx c d (t.updEng e f) := by
  refine h.trans ⟨(Within.refl t).withCe _ (by decide), rfl, fun k => ?_, fun k q hm hc => ?_⟩
  · rcases t.eng_updEng_cases e k f with hk | hk
    · rw [hk]
    · rw [hk, hr]
  · rcases t.eng_updEng_cases e k f with hk | hk
    · rwa [hk]
    · rw [hk]
      exact hq _ q hm hc

theorem each {α : Type} (h : LeavesCtx c d t) (l : List α) (f : Dev → α → Dev) (hf : ∀ x, ∀ a ∈ l, LeavesCtx c x (f x a)) :
    LeavesCtx c d (t.each l f) :=
  h.trans (Dev.each_mem (S := LeavesCtx c) refl trans l f hf t)

theorem ite {P : Prop} [Decidable P] (ht : P → LeavesCtx c d t) (hu : ¬ P → LeavesCtx c d u) : LeavesCtx c d (if P then t else u) := by
  split
  · next h => exact ht h
  · next h => exact hu h

/-- The registers of the context's own block, its entry, and the configuration. -/
theorem word (h : LeavesCtx c d t) {k : Nat} (hk : k < 0x30034000 ∨ (0x100000000 + 0x1000 * c ≤ k ∧ k < 0x100001000 + 0x1000 * c)) :
    t.word k = d.word k := h.within.word k fun hb => by
  unfold besideCtx at hb
  omega

end Dev.LeavesCtx

/-! ## The generators (R101, R147) -/

theorem genKey_beside {k : Nat} (c : Nat) (hk : k < 4) : besideCtx c (Reg.GEN_CFG k) ∧ besideCtx c (Reg.GEN_OUT k) := by
  unfold besideCtx Reg.GEN_CFG Reg.GEN_OUT
  omega

section
variable {c k : Nat}

theorem Dev.genSine_leaves (d : Dev) (hk : k < 4) (phase : Nat) : d.LeavesCtx c (d.genSine k phase) :=
  (LeavesCtx.refl d).tookFree.s _ _ (genKey_beside c hk).2

theorem Dev.genShow_leaves (d : Dev) (hk : k < 4) : d.LeavesCtx c (d.genShow k) := by
  obtain ⟨hcfg, hout⟩ := genKey_beside c hk
  unfold Dev.genShow
  dsimp only
  split
  · exact (LeavesCtx.ite (fun _ => (LeavesCtx.refl d).tookFree.updGen k _) fun _ => LeavesCtx.refl d).s _ _ hout
  · exact LeavesCtx.ite (fun _ => ((LeavesCtx.refl d).s (Reg.GEN_CFG_RUN k) 0 hcfg).s (Reg.GEN_OUT_VALUE k) 0 hout) fun _ => d.genSine_leaves hk _
  · exact (LeavesCtx.refl d).s _ _ hout
  · exact d.genSine_leaves hk _
  · exact (LeavesCtx.refl d).s _ _ hout

theorem Dev.genStart_leaves (d : Dev) (x : Nat) : d.LeavesCtx c (d.genStart x) :=
  (LeavesCtx.refl d).each _ _ fun y _ hk => LeavesCtx.ite
    (fun _ => ((LeavesCtx.refl y).updGen _ _).trans (Dev.genShow_leaves _ (List.mem_range.1 hk))) fun _ => LeavesCtx.refl y

theorem Dev.genAdvance_leaves (d : Dev) (x : Nat) : d.LeavesCtx c (d.genAdvance x) :=
  (LeavesCtx.refl d).each _ _ fun y k hk => LeavesCtx.ite (fun _ => by
    refine LeavesCtx.trans (LeavesCtx.updGen ?_ k _) (Dev.genShow_leaves _ (List.mem_range.1 hk))
    split
    · exact (LeavesCtx.refl y).openDiv _ _
    · exact LeavesCtx.refl y) fun _ => LeavesCtx.refl y

end

/-! ## The comparisons of shadows (R90) -/

section
variable {c x : Nat}

theorem statKey_beside (hx : x ≠ c) : besideCtx c (Reg.CTX_STAT x) ∧ besideCtx c (Reg.CTX_SHD_DIFF x) ∧ besideCtx c (Reg.CTX_MISS_CNT x) := by
  unfold besideCtx Reg.CTX_STAT Reg.CTX_SHD_DIFF Reg.CTX_MISS_CNT
  omega

theorem Dev.shadowCompare_leaves (d : Dev) (hx : x ≠ c) : d.LeavesCtx c (d.shadowCompare x) := by
  obtain ⟨hstat, hdiff, _⟩ := statKey_beside hx
  unfold Dev.shadowCompare
  split
  · next a b _ _ =>
    have hshown : d.LeavesCtx c ((d.s (Reg.CTX_SHD_DIFF_DIFF x) (outDiff (d.word (Reg.CTX_SHD_MASK x)) a b).1).s (Reg.CTX_SHD_DIFF_PORT x)
        (outDiff (d.word (Reg.CTX_SHD_MASK x)) a b).2) := ((LeavesCtx.refl d).s _ _ hdiff).s _ _ hdiff
    exact (LeavesCtx.ite (fun _ => hshown.s (Reg.CTX_STAT_SHD_MATCH x) _ hstat) fun _ => hshown.s _ _ hstat).updCtx _ hx
  · exact LeavesCtx.refl d

/-- A shadow of a context in RUN is another context. -/
theorem Dev.shadow_ne {d : Dev} (h2 : d.ctxState c = 2) (hx : x ∈ d.shadowsOf c) : x ≠ c := by
  rintro rfl
  have hstate := (Dev.mem_shadowsOf hx).2
  omega

theorem Dev.shadowOuts_leaves {d : Dev} (h2 : d.ctxState c = 2) (outs : List (Option Nat)) : d.LeavesCtx c (d.shadowOuts c outs) := by
  unfold Dev.shadowOuts
  rw [if_neg (by omega)]
  exact (LeavesCtx.refl d).each _ _ fun y x hx =>
    ((LeavesCtx.refl y).updCtx _ (Dev.shadow_ne h2 hx)).trans (Dev.shadowCompare_leaves _ (Dev.shadow_ne h2 hx))

end

end Sys2Proof.Machine
end

section
/-! PROOFS. A run on an engine: its start, the landing of results, and its end (R81, R83, R107, R111, R132). -/

namespace Sys2Proof.Machine

/-! ## What results that land leave -/

/-- Two engines stand at the same place of a run: the cycle, the end, and whether it went beyond its memory. -/
def Eng.sameRun (g u : Eng) : Prop := u.cyc = g.cyc ∧ u.ended = g.ended ∧ u.viol = g.viol

theorem Eng.sameRun_refl (g : Eng) : g.sameRun g := ⟨rfl, rfl, rfl⟩

theorem Eng.sameRun_trans {g u v : Eng} (h : g.sameRun u) (k : u.sameRun v) : g.sameRun v :=
  ⟨k.1.trans h.1, k.2.1.trans h.2.1, k.2.2.trans h.2.2⟩

theorem Eng.sameRun_foldl {α : Type} {f : Eng → α → Eng} (hf : ∀ (g : Eng) a, g.sameRun (f g a)) (l : List α) (g : Eng) : g.sameRun (l.foldl f g) := by
  induction l generalizing g with
  | nil => exact g.sameRun_refl
  | cons a l ih => exact Eng.sameRun_trans (hf g a) (ih _)

theorem Eng.landReg_sameRun (g : Eng) (w : Dest × Nat) : g.sameRun (g.landReg w) := by
  unfold Eng.landReg
  cases w.1 with
  | g => exact ⟨rfl, rfl, rfl⟩
  | a => exact ⟨rfl, rfl, rfl⟩
  | x => exact ⟨rfl, rfl, rfl⟩
  | m => exact ⟨rfl, rfl, rfl⟩

theorem Eng.landOne_sameRun (acc : List Int) (g : Eng) (f : Flight) : g.sameRun (g.landOne acc f) := by
  have hplain := Eng.sameRun_foldl Eng.landReg_sameRun f.regs g
  have haccs := Eng.sameRun_foldl (f := Eng.landAcc acc) (fun _ _ => ⟨rfl, rfl, rfl⟩) f.accs (f.regs.foldl Eng.landReg g)
  refine Eng.sameRun_trans (Eng.sameRun_trans hplain haccs) ?_
  unfold Eng.landOne
  dsimp only
  cases f.out with
  | none => exact ⟨rfl, rfl, rfl⟩
  | some o => exact ⟨rfl, rfl, rfl⟩

theorem Eng.landAt_sameRun (g : Eng) (k : Nat) : g.sameRun (g.landAt k) := by
  have hdue := Eng.sameRun_foldl (Eng.landOne_sameRun g.a) (g.flight.filter fun f => f.land = k) g
  exact hdue

theorem Eng.landFrom_sameRun (n : Nat) : ∀ (g : Eng) (k : Nat), g.sameRun (g.landFrom k n) := by
  induction n with
  | zero => exact fun g _ => g.sameRun_refl
  | succ n ih => exact fun g k => Eng.sameRun_trans (g.landAt_sameRun k) (ih _ _)

/-! ## The end of a run in time (R132) -/

/-- The flags and the count of late runs of a context after a run. -/
def Dev.runFlags (d : Dev) (c : Nat) (g : Eng) : Dev :=
  (d.setWord (Reg.CTX_FLAGS c) ((d.word (Reg.CTX_FLAGS c) % 8 &&& (7 ^^^ (g.clrd % 8))) ||| (g.setd % 8))).s (Reg.CTX_STAT_CONSEC_LATE c) 0

theorem Dev.runFlags_spec (d : Dev) (c : Nat) (g : Eng) :
    (d.runFlags c g).word (Reg.CTX_FLAGS c) = ((d.word (Reg.CTX_FLAGS c) % 8 &&& (7 ^^^ (g.clrd % 8))) ||| (g.setd % 8)) ∧
    (d.runFlags c g).g (Reg.CTX_STAT_CONSEC_LATE c) = 0 ∧ d.keeps (d.runFlags c g) [RF.whole (Reg.CTX_FLAGS c), Reg.CTX_STAT_CONSEC_LATE c] [] := by
  have hne : Reg.CTX_FLAGS c ≠ (Reg.CTX_STAT_CONSEC_LATE c).key := by
    show Reg.CTX_FLAGS c ≠ Reg.CTX_STAT c
    unfold Reg.CTX_FLAGS Reg.CTX_STAT
    omega
  have hfits : (Reg.CTX_STAT_CONSEC_LATE c).fits := RF.fits_of rfl
  have hbits : (d.word (Reg.CTX_FLAGS c) % 8 &&& (7 ^^^ (g.clrd % 8))) ||| (g.setd % 8) < 2 ^ 3 :=
    Nat.or_lt_two_pow (Nat.lt_of_le_of_lt Nat.and_le_left (Nat.mod_lt _ (by decide))) (Nat.mod_lt _ (by decide))
  unfold Dev.runFlags
  refine ⟨?_, Dev.g_s_same _ _ _ hfits.1 hfits.2, Dev.keeps_s (by simp) hfits.1 hfits.2 (Dev.keeps_setWord (by simp) (d.keeps_refl _ _))⟩
  rw [Dev.word_s_other _ _ _ hne, Dev.word_setWord_same, Nat.mod_eq_of_lt (Nat.lt_trans hbits (by decide))]

/-- A context whose run has ended: its output write waits. -/
def Ctx.ended (x : Ctx) (outs : List (Option Nat)) : Ctx := { x with phase := .idle, outDue := some x.t0, latch := outs }

/-- A run that ends in time without a violation. -/
theorem Dev.runEnded_eq (d : Dev) (c : Nat) {g : Eng} (hv : g.viol = false) : d.runEnded c g =
    (((d.runFlags c g).updCtx c fun x => x.ended g.outs).shadowOuts c g.outs).genAdvance c := by
  rw [Dev.runEnded, hv]
  rfl

theorem ctxW0_beside (c : Nat) : ∀ f ∈ [RF.whole (Reg.CTX_FLAGS c), Reg.CTX_STAT_CONSEC_LATE c], Reg.CTX_W0 c ≠ f.key := by
  simp only [RF.whole, Reg.CTX_STAT_CONSEC_LATE, List.forall_mem_cons]
  unfold Reg.CTX_W0 Reg.CTX_FLAGS Reg.CTX_STAT
  simp only [List.not_mem_nil, false_imp_iff, implies_true, and_true]
  omega

theorem Dev.runEnded_spec {d : Dev} {c : Nat} (hc : c < 256) (h2 : d.ctxState c = 2) {g : Eng} (hv : g.viol = false) :
    (∀ k, ((d.runEnded c g).eng k).run = (d.eng k).run) ∧ (d.runEnded c g).ctx c = (d.ctx c).ended g.outs ∧
    (d.runEnded c g).word (Reg.CTX_FLAGS c) = ((d.word (Reg.CTX_FLAGS c) % 8 &&& (7 ^^^ (g.clrd % 8))) ||| (g.setd % 8)) ∧
    (d.runEnded c g).g (Reg.CTX_STAT_CONSEC_LATE c) = 0 ∧ ∀ p : Part, p ∉ [Part.ce, Part.free] → p.same d (d.runEnded c g) := by
  obtain ⟨hflags, hlate, hkeeps⟩ := d.runFlags_spec c g
  rw [Dev.runEnded_eq d c hv]
  generalize d.runFlags c g = x at hflags hlate hkeeps
  have hce : x.ce = d.ce := hkeeps.2 .ce (by simp)
  have hdone : d.keeps (x.updCtx c fun x => x.ended g.outs) [RF.whole (Reg.CTX_FLAGS c), Reg.CTX_STAT_CONSEC_LATE c] [.ce] :=
    Dev.keeps_updCtx (Dev.keeps_mono hkeeps (List.Subset.refl _) (by simp)) _ _ (by simp)
  have hctx : (x.updCtx c fun x => x.ended g.outs).ctx c = (d.ctx c).ended g.outs := by
    rw [Dev.ctx_updCtx_same _ _ _ hc, Dev.ctx_of_ce (congrArg Ce.ctxs hce)]
  have hrun (k : Nat) : (x.updCtx c fun x => x.ended g.outs).eng k = d.eng k := Dev.eng_of_ce (d := d) (congrArg Ce.engs hce) k
  have hstate : (x.updCtx c fun x => x.ended g.outs).ctxState c = 2 :=
    (Dev.ctxState_of_word (Dev.word_of_keeps hdone (ctxW0_beside c))).trans h2
  rw [← Dev.g_updCtx x c fun x => x.ended g.outs] at hlate
  have hflags' : (x.updCtx c fun x => x.ended g.outs).word (Reg.CTX_FLAGS c) = _ := hflags
  generalize (x.updCtx c fun x => x.ended g.outs) = y at hdone hctx hrun hstate hlate hflags'
  have hleaves := (Dev.shadowOuts_leaves hstate g.outs).trans (Dev.genAdvance_leaves (y.shadowOuts c g.outs) c)
  generalize (y.shadowOuts c g.outs).genAdvance c = t at hleaves
  refine ⟨fun k => (hleaves.run k).trans (congrArg Eng.run (hrun k)), hleaves.ctx.trans hctx, ?_, ?_, fun p hp => ?_⟩
  · exact (hleaves.word (by unfold Reg.CTX_FLAGS; omega)).trans hflags'
  · exact (Dev.g_of_word (f := Reg.CTX_STAT_CONSEC_LATE c) (hleaves.word (k := Reg.CTX_STAT c) (by unfold Reg.CTX_STAT; omega))).trans hlate
  · exact Part.same_trans (hdone.2 p fun hm => hp (by simp_all)) (hleaves.within.part p hp)

/-! ## The commands of a run -/

variable {s : State} {e : Nat}

/-- The registers of R107 at the start of a run. -/
def Eng.loaded (g : Eng) (d : Dev) (c : Nat) (rest : List QRun) : Eng :=
  { ({} : Eng) with
    x := [0, 0, 0, 0, 0, 0, (d.ctx c).snap.x6, (d.ctx c).snap.x7], sticky := d.word (Reg.CTX_FLAGS c) % 8,
    pc := d.g (Reg.CTX_W5_PROG_BASE c), run := some c, queue := rest, lastEnd := g.lastEnd, sigDue := g.sigDue }

/-- The context of a run that starts. -/
def Dev.runStarted (d : Dev) (e c : Nat) : Dev := if d.ctxEng c = e then d.updCtx c (fun x => { x with phase := .running }) else d

theorem Dev.runStarted_spec (d : Dev) (e : Nat) {c : Nat} (hc : c < 256) : (d.ctxEng c = e → ((d.runStarted e c).ctx c).phase = .running) ∧
    (∀ k, (d.runStarted e c).eng k = d.eng k) ∧ (∀ k, k ≠ c → (d.runStarted e c).ctx k = d.ctx k) ∧ d.keeps (d.runStarted e c) [] [.ce] := by
  unfold Dev.runStarted
  by_cases he : d.ctxEng c = e
  · rw [if_pos he]
    refine ⟨fun _ => ?_, fun _ => rfl, fun k hk => d.ctx_updCtx_other _ hk, Dev.keeps_updCtx (d.keeps_refl _ _) _ _ (by simp)⟩
    rw [Dev.ctx_updCtx_same _ _ _ hc]
  · rw [if_neg he]
    exact ⟨fun h => absurd h he, fun _ => rfl, fun _ _ => rfl, d.keeps_refl _ _⟩

/-- The head of the queue starts where it can still end in time. -/
theorem programStarts (hl : s.dev.live = true) (he : e < 12) (hh : s.dev.on (Reg.ENG_STAT_HALT e) = false)
    (hf : s.dev.on (Reg.ENG_STAT_FAULT e) = false) (hr : (s.dev.eng e).run = none) {q : QRun} {rest : List QRun}
    (hq : (s.dev.eng e).queue = q :: rest) (hc : q.ctx < 256)
    (hdue : s.dev.tick + s.dev.g (Reg.CTX_W4_N q.ctx) ≤ (s.dev.ctx q.ctx).t0 + s.dev.g (Reg.CTX_W3_OUTPHASE q.ctx)) :
    Does s (.programStart e) (fun t => t.eng e = (s.dev.eng e).loaded s.dev q.ctx rest ∧
      (s.dev.ctxEng q.ctx = e → (t.ctx q.ctx).phase = .running) ∧ (∀ k, k ≠ e → t.eng k = s.dev.eng k) ∧
      (∀ k, k ≠ q.ctx → t.ctx k = s.dev.ctx k) ∧ s.dev.keeps t [] [.ce]) := by
  have hload : s.dev.keeps (s.dev.updEng e fun g => g.loaded s.dev q.ctx rest) [] [.ce] :=
    Dev.keeps_withCe List.mem_cons_self (s.dev.keeps_refl _ _)
  obtain ⟨hphase, hengs, hctxs, hkeeps⟩ := (s.dev.updEng e fun g => g.loaded s.dev q.ctx rest).runStarted_spec e hc
  have hexec : exec (.programStart e) s = execProgramStart e s := rfl
  refine State.does_run (hexec.trans rfl) hl ?_
  dsimp only
  rw [if_neg (by rw [hr, hh, hf]; simpa using he), hq]
  dsimp only
  rw [if_neg (Nat.not_lt.2 hdue)]
  exact ⟨(hengs e).trans (s.dev.eng_updEng_same _ _ he), hphase, fun k hk => (hengs k).trans (s.dev.eng_updEng_other _ hk), hctxs,
    Dev.keeps_trans hload hkeeps⟩

/-- After END the cycle passes with the results that land in it. -/
def Eng.passes (g : Eng) : Eng := if g.ended.isSome then { g with cyc := g.cyc + 1 } else g

theorem Eng.landAt_passes (g : Eng) (k : Nat) :
    (g.landAt k).passes = if g.ended.isSome then { g.landAt k with cyc := g.cyc + 1 } else g.landAt k := by
  obtain ⟨hcyc, hended, _⟩ := g.landAt_sameRun k
  rw [Eng.passes, ← hcyc, ← hended]

theorem Dev.resultsLand_spec (d : Dev) {e : Nat} (he : e < 12) : ((d.landed e).updEng e Eng.passes).eng e = (if (d.eng e).ended.isSome
      then { (d.eng e).landAt (d.eng e).cyc with cyc := (d.eng e).cyc + 1 } else (d.eng e).landAt (d.eng e).cyc) ∧
    (∀ k, k ≠ e → ((d.landed e).updEng e Eng.passes).eng k = d.eng k) ∧ (∀ k, ((d.landed e).updEng e Eng.passes).ctx k = d.ctx k) ∧
    d.keeps ((d.landed e).updEng e Eng.passes) [] [.ce] := by
  refine ⟨?_, fun k hk => ?_, fun _ => rfl, Dev.keeps_withCe List.mem_cons_self (Dev.keeps_withCe List.mem_cons_self (d.keeps_refl _ _))⟩
  · rw [Dev.eng_updEng_same _ _ _ he, Dev.landed, Dev.eng_updEng_same _ _ _ he, Eng.landAt_passes]
  · rw [Dev.eng_updEng_other _ _ hk, Dev.landed, Dev.eng_updEng_other _ _ hk]

/-! ## The end of a program -/

/-- The engine of a run that has ended. -/
def Eng.freed (g : Eng) (d : Dev) : Eng := { g with run := none, ended := none, flight := [], lastEnd := some d.tick }

section
variable {c k : Nat}

/-- An engine that runs and is neither halted nor failed. -/
theorem mayEnd (he : e < 12) (hh : s.dev.on (Reg.ENG_STAT_HALT e) = false) (hf : s.dev.on (Reg.ENG_STAT_FAULT e) = false) :
    ¬ (12 ≤ e ∨ s.dev.on (Reg.ENG_STAT_HALT e) = true ∨ s.dev.on (Reg.ENG_STAT_FAULT e) = true) := by
  rw [hh, hf]
  simpa using he

/-- An end at N. -/
theorem programEnds (hl : s.dev.live = true) (he : e < 12) (hh : s.dev.on (Reg.ENG_STAT_HALT e) = false)
    (hf : s.dev.on (Reg.ENG_STAT_FAULT e) = false) (hv : (s.dev.eng e).viol = false) (hc : c < 256) (hr : (s.dev.eng e).run = some c)
    (hend : (s.dev.eng e).ended = some k) (hn : k + 3 = s.dev.g (Reg.CTX_W4_N c)) (heng : s.dev.ctxEng c = e)
    (hp : (s.dev.ctx c).phase = .running) (h2 : s.dev.ctxState c = 2) {g : Eng}
    (hg : g = (s.dev.eng e).landFrom (s.dev.eng e).cyc (k + 4 - (s.dev.eng e).cyc)) : Does s (.programEnd e) (fun t =>
      (t.eng e).run = none ∧ (t.ctx c).phase = .idle ∧ (t.ctx c).outDue = some (s.dev.ctx c).t0 ∧ (t.ctx c).latch = g.outs ∧
      t.word (Reg.CTX_FLAGS c) = ((s.dev.word (Reg.CTX_FLAGS c) % 8 &&& (7 ^^^ (g.clrd % 8))) ||| (g.setd % 8)) ∧
      t.g (Reg.CTX_STAT_CONSEC_LATE c) = 0 ∧ t.tb = s.dev.tb ∧ t.pwm = s.dev.pwm ∧ t.raised = s.dev.raised ∧
      ∀ a, t.byte a = s.dev.byte a) := by
  have hviol : g.viol = false := by rw [hg, (Eng.landFrom_sameRun _ _ _).2.2, hv]
  obtain ⟨hrun, hctx, hflags, hlate, hparts⟩ := Dev.runEnded_spec (d := s.dev.updEng e fun x => x.freed s.dev) hc h2 hviol
  have hexec : exec (.programEnd e) s = execProgramEnd e s := rfl
  refine State.does_run (hexec.trans rfl) hl ?_
  dsimp only
  rw [if_neg (mayEnd he hh hf), hr, hend]
  dsimp only
  rw [if_neg (not_not.2 hn), ← hg, if_neg (by
    show ¬ (s.dev.ctxEng c ≠ e ∨ (s.dev.ctx c).phase ≠ .running)
    simp [heng, hp])]
  refine ⟨(hrun e).trans ?_, ?_, ?_, ?_, hflags, hlate, hparts .tb (by decide), hparts .pwm (by decide), hparts .raised (by decide),
    hparts .mem (by decide)⟩
  · rw [Dev.eng_updEng_same _ _ _ he]
    rfl
  · exact (congrArg Ctx.phase hctx).trans rfl
  · exact (congrArg Ctx.outDue hctx).trans rfl
  · exact (congrArg Ctx.latch hctx).trans rfl

/-- An end at another cycle. -/
theorem programEnd_misses (hl : s.dev.live = true) (he : e < 12) (hh : s.dev.on (Reg.ENG_STAT_HALT e) = false)
    (hf : s.dev.on (Reg.ENG_STAT_FAULT e) = false) (hr : (s.dev.eng e).run = some c) (hend : (s.dev.eng e).ended = some k)
    (hn : k + 3 ≠ s.dev.g (Reg.CTX_W4_N c)) : Does s (.programEnd e) (fun t => t.on (Reg.ENG_STAT_FAULT e) = true ∧
      t.g (Reg.ENG_STAT_FAULT_SRC e) = 3 ∧ s.dev.record Err.CE_ENG_FAULT [e, 3] ∈ t.raised) := by
  obtain ⟨hfault, hsrc, hrecord, _⟩ := Dev.engFail_spec (src := 3) he (by decide) hf
  have hexec : exec (.programEnd e) s = execProgramEnd e s := rfl
  refine State.does_run (hexec.trans rfl) hl ?_
  dsimp only
  rw [if_neg (mayEnd he hh hf), hr, hend]
  dsimp only
  rw [if_pos hn]
  exact ⟨hfault, hsrc, hrecord⟩

end

end Sys2Proof.Machine
end

section
open Sys2Proof Sys2Proof.Machine

/-- Settles O14: a run's start, its results, and its end at N or at another cycle. -/
theorem contextRuns : Obligations.ContextRuns := by
  intro s hl e he
  refine ⟨fun hh hf hr q rest hq hc hdue => programStarts hl he hh hf hr hq hc hdue, ?_, ?_, ?_⟩
  · exact State.does_run (i := .resultLands e) (f := fun d => (d.landed e).updEng e Eng.passes) rfl hl (s.dev.resultsLand_spec he)
  · exact fun hh hf hv c _ hc k hr hend hn heng hp h2 g hg => programEnds hl he hh hf hv hc hr hend hn heng hp h2 hg
  · exact fun hh hf c k hr hend hn => programEnd_misses hl he hh hf hr hend hn

end

section
/-! PROOFS. The triggers of contexts: accepted, dropped within T_MIN, or counted as missed (R79, R80, R89, R91). -/

namespace Sys2Proof.Machine

/-! ## A run that is queued (R80, R81) -/

theorem mem_enqueueRun {q r : QRun} : ∀ {l : List QRun}, r ∈ enqueueRun q l ↔ r = q ∨ r ∈ l
  | [] => by simp [enqueueRun]
  | h :: t => by
    unfold enqueueRun
    split
    · simp
    · rw [List.mem_cons, mem_enqueueRun, List.mem_cons]
      exact or_left_comm

/-- A context's run in the queue of an engine, once. -/
def Eng.queuesRun (g : Eng) (q : QRun) : Eng := { g with queue := enqueueRun q (g.queue.filter fun x => x.ctx != q.ctx) }

/-- A run of a context leaves the queued runs of the others. -/
theorem Dev.LeavesCtx.queuesRun {c : Nat} {d t : Dev} (h : d.LeavesCtx c t) (e : Nat) {q : QRun} (hq : q.ctx ≠ c) :
    d.LeavesCtx c (t.updEng e fun g => g.queuesRun q) :=
  h.updEng e _ (fun _ => rfl) fun _ r hr hc => mem_enqueueRun.2 (.inr (List.mem_filter.2 ⟨hr, by simpa [hc] using hq.symm⟩))

/-- The own state of a context whose run is queued. -/
def Dev.turnStarted (d : Dev) (c : Nat) (x : Ctx) : Ctx :=
  { x with t0 := d.tick, t0rt := d.tb.rt, phase := .queued, role := .normal, late := false, snap := d.snapshot c, cmpOwn := none }

/-- The run in its engine's queue, and that of a warm copy in the spare's. -/
def Dev.queued (d : Dev) (q : QRun) : Dev :=
  let d := d.updEng (d.ctxEng q.ctx) fun g => g.queuesRun q
  if (d.ctx q.ctx).warm ∧ d.spare < 12 ∧ d.spare ≠ d.ctxEng q.ctx then d.updEng d.spare fun g => g.queuesRun q else d

theorem Dev.ctxRun_eq (d : Dev) (c : Nat) : d.ctxRun c =
    ((d.genStart c).updCtx c ((d.genStart c).turnStarted c)).queued ⟨(d.genStart c).g (Reg.CTX_W0_PRIO c), c⟩ := rfl

theorem Dev.queued_within {K : Nat → Prop} {ps : List Part} (d : Dev) (q : QRun) (hm : Part.ce ∈ ps) : Within K ps True d (d.queued q) := by
  unfold Dev.queued
  exact Within.ite (fun _ => ((Within.refl d).withCe _ hm).withCe _ hm) fun _ => (Within.refl d).withCe _ hm

theorem Dev.queued_ctx (d : Dev) (q : QRun) (k : Nat) : (d.queued q).ctx k = d.ctx k := by
  unfold Dev.queued
  dsimp only
  split
  · rfl
  · rfl

theorem Dev.queued_mem (d : Dev) {q : QRun} (he : d.ctxEng q.ctx < 12) : q ∈ ((d.queued q).eng (d.ctxEng q.ctx)).queue := by
  have hput : q ∈ ((d.updEng (d.ctxEng q.ctx) fun g => g.queuesRun q).eng (d.ctxEng q.ctx)).queue := by
    rw [Dev.eng_updEng_same _ _ _ he]
    exact mem_enqueueRun.2 (.inl rfl)
  unfold Dev.queued
  dsimp only
  split
  · next h =>
    have hne : d.spare ≠ d.ctxEng q.ctx := h.2.2
    rwa [← Dev.eng_updEng_other (k := d.spare) (d.updEng (d.ctxEng q.ctx) fun g => g.queuesRun q) (fun g => g.queuesRun q) hne.symm] at hput
  · exact hput

theorem Dev.queued_leaves {c : Nat} (d : Dev) {q : QRun} (hq : q.ctx ≠ c) : d.LeavesCtx c (d.queued q) := by
  unfold Dev.queued
  exact LeavesCtx.ite (fun _ => ((LeavesCtx.refl d).queuesRun _ hq).queuesRun _ hq) fun _ => (LeavesCtx.refl d).queuesRun _ hq

theorem Dev.ctxRun_leaves {c x : Nat} (d : Dev) (hx : x ≠ c) : d.LeavesCtx c (d.ctxRun x) := by
  rw [Dev.ctxRun_eq]
  exact ((d.genStart_leaves x).updCtx _ hx).trans (Dev.queued_leaves _ hx)

/-- A context whose trigger runs. -/
theorem Dev.ctxRun_spec (d : Dev) {c : Nat} (hc : c < 256) (he : d.ctxEng c < 12) :
    ((d.ctxRun c).ctx c).lastTrig = (d.ctx c).lastTrig ∧ ((d.ctxRun c).ctx c).phase = .queued ∧ ((d.ctxRun c).ctx c).t0 = d.tick ∧
    ((d.ctxRun c).ctx c).snap.t0 = d.tb.rt / 32 % 2 ^ 24 ∧ (∃ q ∈ ((d.ctxRun c).eng (d.ctxEng c)).queue, q.ctx = c) ∧
    Within (besideCtx c) [.ce, .free] True d (d.ctxRun c) := by
  have hgen := d.genStart_leaves (c := c) c
  rw [Dev.ctxRun_eq]
  generalize d.genStart c = x at hgen
  have htick : x.tick = d.tick := hgen.within.part .tick (by decide)
  have htb : x.tb = d.tb := hgen.within.part .tb (by decide)
  have heng : (x.updCtx c (x.turnStarted c)).ctxEng c = d.ctxEng c := Dev.ctxEng_of_word (hgen.word (k := Reg.CTX_W0 c) (by
    unfold Reg.CTX_W0
    omega))
  have hmem := Dev.queued_mem (x.updCtx c (x.turnStarted c)) (q := ⟨x.g (Reg.CTX_W0_PRIO c), c⟩) (heng ▸ he)
  rw [Dev.queued_ctx, Dev.ctx_updCtx_same _ _ _ hc, hgen.ctx]
  refine ⟨rfl, rfl, htick, ?_, ⟨_, heng ▸ hmem, rfl⟩, (hgen.within.withCe _ (by decide)).trans (Dev.queued_within _ _ (by decide))⟩
  rw [← htb]
  rfl

/-! ## An accepted trigger (R79, R80) -/

/-- What an accepted trigger of a context does to it. -/
def Dev.takesTrigger (d t : Dev) (c : Nat) : Prop :=
  (t.ctx c).lastTrig = some d.tick ∧
  (d.g (Reg.CTX_STAT_DIV_CNT c) + 1 < d.ctxDiv c → t.g (Reg.CTX_STAT_DIV_CNT c) = d.g (Reg.CTX_STAT_DIV_CNT c) + 1 ∧
    (t.ctx c).phase = (d.ctx c).phase) ∧
  (d.ctxDiv c ≤ d.g (Reg.CTX_STAT_DIV_CNT c) + 1 → t.g (Reg.CTX_STAT_DIV_CNT c) = 0 ∧ (t.ctx c).phase = .queued ∧
    (t.ctx c).t0 = d.tick ∧ (t.ctx c).snap.t0 = d.tb.rt / 32 % 2 ^ 24 ∧ ∃ q ∈ (t.eng (d.ctxEng c)).queue, q.ctx = c)

/-- Two states of a context are at the same turn: its last trigger, and its run with its snapshot. -/
def Ctx.sameTurn (x y : Ctx) : Prop := y.lastTrig = x.lastTrig ∧ y.phase = x.phase ∧ y.t0 = x.t0 ∧ y.snap = x.snap

/-- What follows an accepted trigger and leaves the context's turn, its status and its queued runs. -/
theorem Dev.takesTrigger.mono {d t u : Dev} {c : Nat} (h : d.takesTrigger t c) (hturn : (t.ctx c).sameTurn (u.ctx c))
    (hstat : u.word (Reg.CTX_STAT c) = t.word (Reg.CTX_STAT c))
    (hq : ∀ k, ∀ q ∈ (t.eng k).queue, q.ctx = c → q ∈ (u.eng k).queue) : d.takesTrigger u c := by
  obtain ⟨htrig, hcounts, hruns⟩ := h
  obtain ⟨hlast, hphase, ht0, hsnap⟩ := hturn
  have hcnt : u.g (Reg.CTX_STAT_DIV_CNT c) = t.g (Reg.CTX_STAT_DIV_CNT c) := Dev.g_of_word hstat
  refine ⟨hlast.trans htrig, fun hlt => ?_, fun hle => ?_⟩
  · rw [hcnt, hphase]
    exact hcounts hlt
  · rw [hcnt, hphase, ht0, hsnap]
    obtain ⟨hzero, hqueued, htick, hrt, q, hmem, hctx⟩ := hruns hle
    exact ⟨hzero, hqueued, htick, hrt, q, hq _ q hmem hctx, hctx⟩

theorem Dev.takesTrigger.leaves {d t u : Dev} {c : Nat} (h : d.takesTrigger t c) (g : t.LeavesCtx c u) : d.takesTrigger u c :=
  h.mono ⟨by rw [g.ctx], by rw [g.ctx], by rw [g.ctx], by rw [g.ctx]⟩ (g.word (by unfold Reg.CTX_STAT; omega)) g.queued

theorem divCnt_fits (c : Nat) : (Reg.CTX_STAT_DIV_CNT c).fits := RF.fits_of rfl

/-- The trigger noted. -/
def Dev.trigNoted (d : Dev) (c : Nat) : Dev := d.updCtx c fun x => { x with lastTrig := some d.tick }

theorem Dev.ctxAccept_eq (d : Dev) (c : Nat) : d.ctxAccept c =
    if d.ctxDiv c ≤ d.g (Reg.CTX_STAT_DIV_CNT c) + 1 then (true, ((d.trigNoted c).s (Reg.CTX_STAT_DIV_CNT c) 0).ctxRun c)
    else (false, (d.trigNoted c).s (Reg.CTX_STAT_DIV_CNT c) (d.g (Reg.CTX_STAT_DIV_CNT c) + 1)) := rfl

theorem Dev.ctxAccept_leaves {c x : Nat} (d : Dev) (hx : x ≠ c) : d.LeavesCtx c (d.ctxAccept x).2 := by
  have hnoted : d.LeavesCtx c (d.trigNoted x) := (LeavesCtx.refl d).updCtx _ hx
  obtain ⟨hstat, _⟩ := statKey_beside hx
  rw [Dev.ctxAccept_eq]
  split
  · exact (hnoted.s _ _ hstat).trans (Dev.ctxRun_leaves _ hx)
  · exact hnoted.s _ _ hstat

/-- The registers that a trigger of a context writes: its count, and what stands beside it. -/
def ctxTurnKey (c k : Nat) : Prop := k = Reg.CTX_STAT c ∨ besideCtx c k

theorem Dev.ctxDiv_le (d : Dev) (c : Nat) : d.ctxDiv c ≤ 255 := by
  have hlt : d.g (Reg.CTX_W1_DIV c) < 2 ^ 8 := Nat.mod_lt _ (Nat.two_pow_pos _)
  unfold Dev.ctxDiv
  omega

theorem Dev.ctxAccept_spec (d : Dev) {c : Nat} (hc : c < 256) (he : d.ctxEng c < 12) : d.takesTrigger (d.ctxAccept c).2 c ∧
    Within (ctxTurnKey c) [.ce, .free] True d (d.ctxAccept c).2 := by
  have hnoted : Within (ctxTurnKey c) [.ce, .free] True d (d.trigNoted c) := (Within.refl d).withCe _ (by decide)
  have hlast : ((d.trigNoted c).ctx c) = { d.ctx c with lastTrig := some d.tick } := d.ctx_updCtx_same _ _ hc
  have heng : (d.trigNoted c).ctxEng c = d.ctxEng c := rfl
  have htick : (d.trigNoted c).tick = d.tick := rfl
  have htb : (d.trigNoted c).tb = d.tb := rfl
  have hcnt := d.ctxDiv_le c
  rw [Dev.ctxAccept_eq]
  generalize d.trigNoted c = x at hnoted hlast heng htick htb
  have hset (v : Nat) : (x.s (Reg.CTX_STAT_DIV_CNT c) v).g (Reg.CTX_STAT_DIV_CNT c) = v % 2 ^ 8 :=
    x.g_s_same _ v (divCnt_fits c).1 (divCnt_fits c).2
  have hstatCtx (v : Nat) : (x.s (Reg.CTX_STAT_DIV_CNT c) v).ctx c = { d.ctx c with lastTrig := some d.tick } := (x.ctx_s _ _ c).trans hlast
  have hstatEng (v : Nat) : (x.s (Reg.CTX_STAT_DIV_CNT c) v).ctxEng c = d.ctxEng c :=
    (x.g_s_other (Reg.CTX_STAT_DIV_CNT c) (Reg.CTX_W0_ENG c) v (by
      show Reg.CTX_W0 c ≠ Reg.CTX_STAT c
      unfold Reg.CTX_W0 Reg.CTX_STAT
      omega)).trans heng
  by_cases hrun : d.ctxDiv c ≤ d.g (Reg.CTX_STAT_DIV_CNT c) + 1
  · rw [if_pos hrun]
    have hzero := hset 0
    have hctx := hstatCtx 0
    have hengs := hstatEng 0
    have hwithin := hnoted.s (Reg.CTX_STAT_DIV_CNT c) 0 (.inl rfl)
    have htick' : (x.s (Reg.CTX_STAT_DIV_CNT c) 0).tick = d.tick := htick
    have htb' : (x.s (Reg.CTX_STAT_DIV_CNT c) 0).tb = d.tb := htb
    generalize x.s (Reg.CTX_STAT_DIV_CNT c) 0 = y at hzero hctx hengs hwithin htick' htb'
    obtain ⟨htrig, hphase, ht0, hsnap, hqueue, hbeside⟩ := y.ctxRun_spec hc (hengs ▸ he)
    refine ⟨⟨by rw [htrig, hctx], fun hlt => absurd hlt (Nat.not_lt.2 hrun), fun _ => ⟨?_, hphase, ht0.trans htick', ?_, hengs ▸ hqueue⟩⟩,
      hwithin.trans (hbeside.mono (fun _ => .inr) (List.Subset.refl _) id)⟩
    · refine (Dev.g_of_word (f := Reg.CTX_STAT_DIV_CNT c) (hbeside.word (Reg.CTX_STAT c) ?_)).trans hzero
      unfold besideCtx Reg.CTX_STAT
      omega
    · rw [hsnap, htb']
  · rw [if_neg hrun]
    refine ⟨⟨by rw [hstatCtx], fun hlt => ⟨?_, by rw [hstatCtx]⟩, fun hle => absurd hle hrun⟩, hnoted.s _ _ (.inl rfl)⟩
    rw [hset, Nat.mod_eq_of_lt (by omega)]

end Sys2Proof.Machine
end

section
/-! PROOFS. The commands of a trigger: the shadows that run with a context, the handover, and what drops or misses a trigger (R79, R89, R91,
R94, R99). -/

namespace Sys2Proof.Machine

/-! ## A handover armed for a run (R91) -/

theorem Ctx.sameTurn_refl (x : Ctx) : x.sameTurn x := ⟨rfl, rfl, rfl, rfl⟩

theorem Ctx.sameTurn_trans {x y z : Ctx} (h : x.sameTurn y) (g : y.sameTurn z) : x.sameTurn z :=
  ⟨g.1.trans h.1, g.2.1.trans h.2.1, g.2.2.1.trans h.2.2.1, g.2.2.2.trans h.2.2.2⟩

/-- A change of any context that leaves its turn leaves that of each. -/
theorem Dev.updCtx_sameTurn (d : Dev) {c : Nat} (hc : c < 256) (k : Nat) {f : Ctx → Ctx} (hf : ∀ x : Ctx, x.sameTurn (f x)) :
    (d.ctx c).sameTurn ((d.updCtx k f).ctx c) := by
  by_cases hk : c = k
  · subst hk
    rw [Dev.ctx_updCtx_same _ _ _ hc]
    exact hf _
  · rw [Dev.ctx_updCtx_other _ _ hk]
    exact Ctx.sameTurn_refl _

/-- The roles of a handover, or its refusal, and nothing else. -/
theorem Dev.handoverRun_spec (d : Dev) {c : Nat} (hc : c < 256) (o : Nat) : (d.ctx c).sameTurn ((d.handoverRun o).ctx c) ∧
    (∀ k, (d.handoverRun o).eng k = d.eng k) ∧ Within (fun _ => False) [.ce, .raised] True d (d.handoverRun o) := by
  unfold Dev.handoverRun
  split
  · exact ⟨Ctx.sameTurn_refl _, fun _ => rfl, Within.refl d⟩
  · split
    · split
      · exact ⟨Ctx.sameTurn_trans (d.updCtx_sameTurn hc o (f := fun x => { x with role := .discard }) fun _ => ⟨rfl, rfl, rfl, rfl⟩)
          (Dev.updCtx_sameTurn _ hc _ (f := fun x => { x with role := .incoming o }) fun _ => ⟨rfl, rfl, rfl, rfl⟩), fun _ => rfl,
          ((Within.refl d).withCe _ (by decide)).withCe _ (by decide)⟩
      · exact ⟨Ctx.sameTurn_refl _, fun _ => rfl, Within.refl d⟩
    · exact ⟨d.updCtx_sameTurn hc o fun _ => ⟨rfl, rfl, rfl, rfl⟩, fun _ => rfl,
        ((Within.refl d).withCe _ (by decide)).raise _ _ (by decide)⟩

/-! ## The shadows of a trigger (R89) -/

/-- The turn of a shadow on an accepted trigger. -/
def Dev.shadowTurn (d : Dev) (x : Nat) : Dev :=
  if d.ctxBlocked x then d.inc (Reg.CTX_MISS_CNT_COUNT x) else ((d.ctxAccept x).2).updCtx x fun y => { y with cmpLive := none }

theorem Dev.shadowTurn_leaves {c x : Nat} (d : Dev) (hx : x ≠ c) : d.LeavesCtx c (d.shadowTurn x) := by
  obtain ⟨_, _, hmiss⟩ := statKey_beside hx
  exact LeavesCtx.ite (fun _ => (LeavesCtx.refl d).s _ _ hmiss) fun _ => (d.ctxAccept_leaves hx).updCtx _ hx

/-- An accepted trigger with the turns of the shadows. -/
def Dev.accepted (d : Dev) (c : Nat) : Dev := (d.ctxAccept c).2.each ((d.ctxAccept c).2.shadowsOf c) Dev.shadowTurn

theorem Dev.accepted_spec (d : Dev) {c : Nat} (hc : c < 256) (he : d.ctxEng c < 12) (h2 : d.ctxState c = 2) :
    d.takesTrigger (d.accepted c) c ∧ ∀ p : Part, p ∉ [Part.ce, Part.free] → p.same d (d.accepted c) := by
  obtain ⟨htakes, hwithin⟩ := d.ctxAccept_spec hc he
  have hstate : (d.ctxAccept c).2.ctxState c = 2 := (Dev.ctxState_of_word (hwithin.word _ (by
    unfold ctxTurnKey besideCtx Reg.CTX_W0 Reg.CTX_STAT
    omega))).trans h2
  unfold Dev.accepted
  generalize (d.ctxAccept c).2 = x at htakes hwithin hstate
  have hleaves : x.LeavesCtx c (x.each (x.shadowsOf c) Dev.shadowTurn) :=
    (LeavesCtx.refl x).each _ _ fun y _ hx => y.shadowTurn_leaves (Dev.shadow_ne hstate hx)
  exact ⟨htakes.leaves hleaves, fun p hp => Part.same_trans (hwithin.part p hp) (hleaves.within.part p hp)⟩

/-! ## A trigger at a context (R79, R94, R99) -/

/-- A trigger past T_MIN at an engine that works. -/
theorem Dev.trigger_go {d : Dev} {c : Nat} (hf : d.on (Reg.ENG_STAT_FAULT (d.ctxEng c)) = false) :
    Dev.ctxTrigger.go c d = if (d.ctxAccept c).1 then (d.accepted c).handoverRun c else d.accepted c := by
  unfold Dev.ctxTrigger.go
  rw [if_neg (by rw [hf]; exact Bool.false_ne_true)]
  rfl

theorem Dev.triggered_spec (d : Dev) {c : Nat} (hc : c < 256) (he : d.ctxEng c < 12) (h2 : d.ctxState c = 2)
    (hf : d.on (Reg.ENG_STAT_FAULT (d.ctxEng c)) = false) : d.takesTrigger (Dev.ctxTrigger.go c d) c ∧
    ∀ p : Part, p ∉ [Part.ce, Part.free, Part.raised] → p.same d (Dev.ctxTrigger.go c d) := by
  obtain ⟨htakes, hparts⟩ := d.accepted_spec hc he h2
  have hparts' (p : Part) (hp : p ∉ [Part.ce, Part.free, Part.raised]) : p.same d (d.accepted c) := hparts p fun hm => hp (by
    simp only [List.mem_cons] at hm ⊢
    tauto)
  rw [Dev.trigger_go hf]
  split
  · obtain ⟨hturn, hengs, hwithin⟩ := (d.accepted c).handoverRun_spec hc c
    refine ⟨htakes.mono hturn (hwithin.word _ id) fun k q hq _ => hengs k ▸ hq, fun p hp => Part.same_trans (hparts' p hp) (hwithin.part p ?_)⟩
    simp only [List.mem_cons, not_or] at hp ⊢
    tauto
  · exact ⟨htakes, hparts'⟩

variable {s : State} {c : Nat}

/-- A trigger at a context in RUN on an engine that is not halted. -/
theorem Dev.ctxTrigger_run {d : Dev} (h2 : d.ctxState c = 2) (hh : d.on (Reg.ENG_STAT_HALT (d.ctxEng c)) = false) : d.ctxTrigger c =
    match (d.ctx c).lastTrig with
    | some u => if d.tick - u < d.g (Reg.CTX_W2_T_MIN c) then (d.inc (Reg.CTX_MISS_CNT_COUNT c)).raise Err.CE_TRIG_FAST [c, d.tick - u]
        else Dev.ctxTrigger.go c d
    | none => Dev.ctxTrigger.go c d := by
  rw [Dev.ctxTrigger, h2, hh]
  cases (d.ctx c).lastTrig with
  | none => rfl
  | some u => rfl

theorem exec_contextTrigger (c : Nat) (s : State) :
    exec (.contextTrigger c) s = s.run fun d => if 0 < c ∧ c < 256 then d.ctxTrigger c else d := rfl

theorem triggerAccepted (hl : s.dev.live = true) (h0 : 0 < c) (hc : c < 256) (h2 : s.dev.ctxState c = 2)
    (hh : s.dev.on (Reg.ENG_STAT_HALT (s.dev.ctxEng c)) = false) (hf : s.dev.on (Reg.ENG_STAT_FAULT (s.dev.ctxEng c)) = false)
    (he : s.dev.ctxEng c < 12) (hmin : ∀ u, (s.dev.ctx c).lastTrig = some u → s.dev.g (Reg.CTX_W2_T_MIN c) ≤ s.dev.tick - u) :
    Does s (.contextTrigger c) (fun t => s.dev.takesTrigger t c ∧
      t.tb = s.dev.tb ∧ t.mea = s.dev.mea ∧ t.aux = s.dev.aux ∧ ∀ a, t.byte a = s.dev.byte a) := by
  have hgo : s.dev.ctxTrigger c = Dev.ctxTrigger.go c s.dev := by
    rw [Dev.ctxTrigger_run h2 hh]
    rcases hu : (s.dev.ctx c).lastTrig with _ | u
    · rfl
    · exact if_neg (Nat.not_lt.2 (hmin u hu))
  obtain ⟨htakes, hparts⟩ := s.dev.triggered_spec hc he h2 hf
  refine State.does_run (exec_contextTrigger c s) hl ?_
  rw [if_pos ⟨h0, hc⟩, hgo]
  exact ⟨htakes, hparts .tb (by decide), hparts .mea (by decide), hparts .aux (by decide), hparts .mem (by decide)⟩

theorem Dev.g_inc32 (d : Dev) (f : RF) (hf : f.fits) (h32 : f.hi - f.lo + 1 = 32) : (d.inc f).g f = satInc (2 ^ 32 - 1) (d.g f) := by
  rw [d.g_inc f hf.1 hf.2, h32]

theorem missCnt_fits (c : Nat) : (Reg.CTX_MISS_CNT_COUNT c).fits := RF.fits_of rfl

/-- A trigger that is counted as missed. -/
theorem Dev.missed_spec (d : Dev) (c : Nat) : (d.inc (Reg.CTX_MISS_CNT_COUNT c)).g (Reg.CTX_MISS_CNT_COUNT c) =
    satInc (2 ^ 32 - 1) (d.g (Reg.CTX_MISS_CNT_COUNT c)) ∧ ∀ ps, d.keeps (d.inc (Reg.CTX_MISS_CNT_COUNT c)) [Reg.CTX_MISS_CNT_COUNT c] ps :=
  ⟨d.g_inc32 _ (missCnt_fits c) (by show 31 - 0 + 1 = 32; rfl), fun _ => d.inc_keeps _ (missCnt_fits c).1 (missCnt_fits c).2 List.mem_cons_self⟩

/-- A count that is kept stands with a record. -/
theorem Dev.g_raise (d : Dev) (code : Nat) (ctx : List Nat) (r : RF) : (d.raise code ctx).g r = d.g r := rfl

theorem Dev.plusRecord_inc (d : Dev) (f : RF) (code : Nat) (ctx : List Nat) : ((d.inc f).raise code ctx).raised = d.plusRecord code ctx := by
  rw [((d.inc f).raise_spec code ctx).1, Dev.plusRecord, Dev.plusRecord, Dev.record, Dev.record, Dev.inc_raised, Dev.inc_tb]

theorem triggerFast (hl : s.dev.live = true) (h0 : 0 < c) (hc : c < 256) (h2 : s.dev.ctxState c = 2)
    (hh : s.dev.on (Reg.ENG_STAT_HALT (s.dev.ctxEng c)) = false) {u : Nat} (hu : (s.dev.ctx c).lastTrig = some u)
    (hmin : s.dev.tick - u < s.dev.g (Reg.CTX_W2_T_MIN c)) : Does s (.contextTrigger c) (fun t =>
      t.g (Reg.CTX_MISS_CNT_COUNT c) = satInc (2 ^ 32 - 1) (s.dev.g (Reg.CTX_MISS_CNT_COUNT c)) ∧
      t.raised = s.dev.plusRecord Err.CE_TRIG_FAST [c, s.dev.tick - u] ∧ s.dev.keeps t [Reg.CTX_MISS_CNT_COUNT c] [.raised]) := by
  obtain ⟨hcount, hkeeps⟩ := s.dev.missed_spec c
  refine State.does_run (exec_contextTrigger c s) hl ?_
  rw [if_pos ⟨h0, hc⟩, Dev.ctxTrigger_run h2 hh, hu]
  dsimp only
  rw [if_pos hmin, Dev.g_raise, Dev.plusRecord_inc]
  exact ⟨hcount, rfl, Dev.keeps_raise List.mem_cons_self (hkeeps _)⟩

theorem triggerMissed (hl : s.dev.live = true) (h0 : 0 < c) (hc : c < 256)
    (hstate : s.dev.ctxState c = 5 ∨ (s.dev.ctxState c = 2 ∧ s.dev.on (Reg.ENG_STAT_HALT (s.dev.ctxEng c)) = true)) :
    Does s (.contextTrigger c) (fun t => t.g (Reg.CTX_MISS_CNT_COUNT c) = satInc (2 ^ 32 - 1) (s.dev.g (Reg.CTX_MISS_CNT_COUNT c)) ∧
      s.dev.keeps t [Reg.CTX_MISS_CNT_COUNT c] []) := by
  obtain ⟨hcount, hkeeps⟩ := s.dev.missed_spec c
  have hmiss : s.dev.ctxTrigger c = s.dev.inc (Reg.CTX_MISS_CNT_COUNT c) := by
    unfold Dev.ctxTrigger
    dsimp only
    rcases hstate with h5 | ⟨h2, hh⟩
    · rw [if_neg (by omega), if_pos (.inl h5)]
    · rw [if_neg (by omega), if_pos (.inr hh)]
  refine State.does_run (exec_contextTrigger c s) hl ?_
  rw [if_pos ⟨h0, hc⟩, hmiss]
  exact ⟨hcount, hkeeps _⟩

theorem exec_contextTrigger_off (h2 : s.dev.ctxState c ≠ 2) (h5 : s.dev.ctxState c ≠ 5) : exec (.contextTrigger c) s = .next s := by
  have hoff : s.dev.ctxTrigger c = s.dev := if_pos ⟨h2, h5⟩
  rw [exec_contextTrigger]
  refine State.run_self ?_
  rw [hoff, ite_self]

/-- The triggers of contexts. -/
theorem contextTriggers_hold : contextTriggers := fun _ hl c h0 hc =>
  ⟨fun h2 hh hf he hmin => by
    obtain ⟨t, hexec, hpending, ⟨hlast, hcounts, hruns⟩, hparts⟩ := triggerAccepted hl h0 hc h2 hh hf he hmin
    exact ⟨t, hexec, hpending, hlast, hcounts, hruns, hparts⟩,
    fun h2 hh u hu hmin => triggerFast hl h0 hc h2 hh hu hmin, triggerMissed hl h0 hc, exec_contextTrigger_off⟩

end Sys2Proof.Machine
end

section
/-! PROOFS. The output write of a context: its marked ports, and what follows them (R82, R85, R91, R102, R129, R148). -/

namespace Sys2Proof.Machine

/-! ## What follows the ports of an output write -/

/-- From `d` to `t` the compare shadows of the legs and the byte memories stand, and an output write of a context that is done stays done. -/
structure Dev.afterOuts (c : Nat) (d t : Dev) : Prop where
  word : ∀ k, cmpShadow k → t.word k = d.word k
  done : (d.ctx c).outDue = none → (t.ctx c).outDue = none
  byte : ∀ a, t.byte a = d.byte a

namespace Dev.afterOuts

variable {c : Nat} {d t u : Dev}

theorem refl (d : Dev) : afterOuts c d d := ⟨fun _ _ => rfl, id, fun _ => rfl⟩

theorem trans (h : afterOuts c d t) (g : afterOuts c t u) : afterOuts c d u :=
  ⟨fun k hk => (g.word k hk).trans (h.word k hk), fun hd => g.done (h.done hd), fun a => (g.byte a).trans (h.byte a)⟩

/-- What leaves the contexts and the compare shadows. -/
theorem ofKeeps (h : afterOuts c d t) {fs : List RF} {ps : List Part} (k : t.keeps u fs ps) (hf : ∀ f ∈ fs, ¬ cmpShadow f.key)
    (hc : u.ce.ctxs = t.ce.ctxs) (hm : Part.mem ∉ ps) : afterOuts c d u :=
  h.trans ⟨fun _ hk => Dev.word_of_keeps k fun f hm he => hf f hm (he ▸ hk), fun hd => by rwa [Dev.ctx_of_ce hc], k.2 .mem hm⟩

theorem s (h : afterOuts c d t) (f : RF) (v : Nat) (hf : ¬ cmpShadow f.key) : afterOuts c d (t.s f v) :=
  h.trans ⟨fun _ hk => t.word_s_other f v fun he => hf (he ▸ hk), fun hd => by rwa [Dev.ctx_s], fun _ => rfl⟩

theorem raise (h : afterOuts c d t) (code : Nat) (ctx : List Nat) : afterOuts c d (t.raise code ctx) :=
  h.trans ⟨fun _ _ => rfl, id, fun _ => rfl⟩

/-- Another state of any context that makes no output write due. -/
theorem updCtx (h : afterOuts c d t) (hc : c < 256) (k : Nat) (f : Ctx → Ctx) (hf : ∀ x, x.outDue = none → (f x).outDue = none) :
    afterOuts c d (t.updCtx k f) := by
  refine h.trans ⟨fun _ _ => rfl, fun hd => ?_, fun _ => rfl⟩
  by_cases hk : c = k
  · subst hk
    rw [Dev.ctx_updCtx_same _ _ _ hc]
    exact hf _ hd
  · rwa [Dev.ctx_updCtx_other _ _ hk]

theorem each {α : Type} (h : afterOuts c d t) (l : List α) (f : Dev → α → Dev) (hf : ∀ x, ∀ a ∈ l, afterOuts c x (f x a)) :
    afterOuts c d (t.each l f) := h.trans (Dev.each_mem (S := afterOuts c) refl trans l f hf t)

theorem ite {P : Prop} [Decidable P] (ht : P → afterOuts c d t) (hu : ¬ P → afterOuts c d u) : afterOuts c d (if P then t else u) := by
  split
  · next h => exact ht h
  · next h => exact hu h

end Dev.afterOuts

/-- The registers below the drive blocks are no compare shadows. -/
theorem not_cmpShadow_low {k : Nat} (h : k < 0x30040000) : ¬ cmpShadow k := by
  rintro ⟨n, _, m, _, rfl⟩
  unfold Reg.PWM_CMP_SH at h
  omega

theorem ctxW0_low {c : Nat} (hc : c < 256) : ¬ cmpShadow (Reg.CTX_W0 c) := not_cmpShadow_low (by unfold Reg.CTX_W0; omega)

section
variable {c : Nat}

/-! ## Wheels, residual checkers and faults after the ports -/

theorem whlTold_low {n : Nat} (hn : n < 16) : ∀ f ∈ whlTold n, ¬ cmpShadow f.key := by
  intro f hf
  refine not_cmpShadow_low ?_
  have hkey : f.key = Reg.WHL_STAT n ∨ f.key = Reg.WHL_UPD_CNT n := by
    simp only [whlTold, List.mem_cons, List.not_mem_nil, or_false] at hf
    rcases hf with rfl | rfl | rfl
    · exact .inl rfl
    · exact .inr rfl
    · exact .inl rfl
  unfold Reg.WHL_STAT Reg.WHL_UPD_CNT at hkey
  omega

theorem Dev.wheelSample_after (d : Dev) {n : Nat} (hn : n < 16) (p t span : Int) (spd : Option Int) :
    d.afterOuts c (d.wheelSample n p t span spd) := by
  by_cases hen : d.on (Reg.WHL_CFG_EN n) = true
  · have hframe := (d.wheelSample_samples hn hen p t span spd).frame
    exact (afterOuts.refl d).ofKeeps hframe (whlTold_low hn) (congrArg Ce.ctxs (hframe.2 .ce (by decide))) (by decide)
  · rw [Dev.wheelSample, if_neg hen]
    exact afterOuts.refl d

theorem Dev.wheelOuts_after (d : Dev) (o : Nat) (outs : List (Option Nat)) : d.afterOuts c (d.wheelOuts o outs) :=
  (afterOuts.refl d).each _ _ fun x n hn => afterOuts.ite (fun _ => by
    dsimp only
    split
    · exact afterOuts.refl x
    · exact x.wheelSample_after (List.mem_range.1 hn) _ _ _ _) fun _ => afterOuts.refl x

theorem Dev.ctxFault_after (d : Dev) (hc : c < 256) {x : Nat} (hx : x < 256) (cause : Nat) : d.afterOuts c (d.ctxFault x cause) := by
  have hreach := (d.ctxFault_thins x cause).within
  refine ⟨fun k hk => hreach.word k ?_, fun hd => ?_, hreach.part .mem (by decide)⟩
  · rintro (rfl | hforce)
    · exact ctxW0_low hx hk
    · exact hforce.2 hk
  · rcases d.ctxFault_ctx x cause c with h | h
    · rwa [h]
    · rw [h]
      by_cases hcx : c = x
      · subst hcx
        rw [Dev.ctxDrop_ctx_same _ hc]
        rfl
      · rwa [Dev.ctxDrop_ctx _ hcx]

theorem resStat_low {k : Nat} (hk : k < 32) : ¬ cmpShadow (Reg.RES_STAT k) := not_cmpShadow_low (by unfold Reg.RES_STAT; omega)

/-- A residual checker replaced. -/
theorem Dev.afterOuts.withRes {d t : Dev} (h : d.afterOuts c t) (r : List ResChk) : d.afterOuts c { t with ce := { t.ce with res := r } } :=
  h.trans ⟨fun _ _ => rfl, id, fun _ => rfl⟩

theorem Dev.resTgt_lt (d : Dev) (k : Nat) : d.g (Reg.RES_CFG_TGT k) < 256 := Nat.mod_lt _ (Nat.two_pow_pos 8)

theorem Dev.resCheck_after (d : Dev) (hc : c < 256) {k : Nat} (hk : k < 32) (v : Nat) : d.afterOuts c (d.resCheck k v) := by
  have hstat := resStat_low hk
  unfold Dev.resCheck
  extract_lets r put next
  split
  · exact (afterOuts.refl d).withRes _
  · extract_lets _ _ x y z
    have hx : d.afterOuts c x := (afterOuts.refl d).withRes (updAt d.ce.res k fun _ => ⟨some next, _⟩)
    clear_value x
    have hy : d.afterOuts c y := hx.s _ _ hstat
    clear_value y
    have hz : d.afterOuts c z := (hy.s (Reg.RES_STAT_EXCEED k) 1 hstat).raise _ _
    clear_value z
    exact afterOuts.ite (fun _ => afterOuts.ite (fun _ => hz.trans (z.ctxFault_after hc (z.resTgt_lt k) 5)) fun _ => hz) fun _ => hy

/-! ## What waited for an output write (R85, R98) -/

theorem Dev.copyCtx_after (d : Dev) (x src dst : Nat) : d.afterOuts c (d.copyCtx x src dst) := by
  obtain ⟨pm, dm, h⟩ := d.copyCtx_reprograms x src dst
  rw [h]
  exact ⟨fun _ _ => rfl, id, fun _ => rfl⟩

theorem Dev.ctxMoved_after (d : Dev) (hc : c < 256) : d.afterOuts c (d.ctxMoved c) :=
  ((((afterOuts.refl d).s _ _ (ctxW0_low hc)).s _ _ (ctxW0_low hc)).updCtx hc _ _ fun _ => id)

/-- A context that moves to the spare at its output write (R98). -/
def Dev.evacMoves (d : Dev) (c : Nat) : Dev :=
  if (d.ctx c).evac then
    let t := d.updCtx c fun x => { x with migFrom := d.ctxState c }
    (t.copyCtx c (d.ctxEng c) t.spare).ctxMoved c
  else d

/-- Whether the suspended-load channels bound to a context are all HELD. -/
def Dev.boundHeld (d : Dev) (c : Nat) : Bool :=
  (maskBits 6 (d.ctxBind c)).all fun n => !d.on (Reg.DCL_CH_CFG_SL n) || d.g (Reg.DCL_CH_STAT_SLSTATE n) == 3

/-- A STOP that waited takes effect (R85). -/
def Dev.waitedStop (d : Dev) (c : Nat) (x : Ctx) : Dev :=
  if x.stopReq ∨ (x.holdStop ∧ d.boundHeld c) then
    (d.s (Reg.CTX_W0_STATE c) 1).updCtx c fun x => { x with stopReq := false, holdStop := false, phase := .idle }
  else d

theorem Dev.afterWrite_eq (d : Dev) (c : Nat) : d.afterWrite c = (d.evacMoves c).waitedStop c (d.ctx c) := rfl

theorem Dev.evacMoves_after (d : Dev) (hc : c < 256) : d.afterOuts c (d.evacMoves c) := by
  refine afterOuts.ite (fun _ => ?_) fun _ => afterOuts.refl d
  have hmarked : d.afterOuts c (d.updCtx c fun x => { x with migFrom := d.ctxState c }) :=
    (afterOuts.refl d).updCtx hc c (fun x => { x with migFrom := d.ctxState c }) fun _ => id
  exact (hmarked.trans (Dev.copyCtx_after _ c _ _)).trans (Dev.ctxMoved_after _ hc)

theorem Dev.waitedStop_after (d : Dev) (hc : c < 256) (x : Ctx) : d.afterOuts c (d.waitedStop c x) := by
  refine afterOuts.ite (fun _ => ?_) fun _ => afterOuts.refl d
  exact ((afterOuts.refl d).s (Reg.CTX_W0_STATE c) 1 (ctxW0_low hc)).updCtx hc c
    (fun x => { x with stopReq := false, holdStop := false, phase := .idle }) fun _ => id

theorem Dev.afterWrite_after (d : Dev) (hc : c < 256) : d.afterOuts c (d.afterWrite c) := by
  rw [Dev.afterWrite_eq]
  exact (d.evacMoves_after hc).trans (Dev.waitedStop_after _ hc _)

/-! ## A latch with one marked port (R82, R177) -/

/-- The latched ports written to their targets. -/
def Dev.portOuts (d : Dev) (c : Nat) (outs : List (Option Nat)) : Dev :=
  d.each (List.range 32) fun d o => match outs.getD o none with
    | some v => d.outTarget (d.word (Reg.CTX_OUT c o)) v
    | none => d

/-- The residual checkers of a context's output write. -/
def Dev.resOuts (d : Dev) (c : Nat) (outs : List (Option Nat)) : Dev :=
  d.each (List.range 32) fun d k =>
    if d.on (Reg.RES_CFG_EN k) ∧ d.g (Reg.RES_CFG_CTX k) = c then
      match outs.getD (d.g (Reg.RES_CFG_PORT k)) none with
      | some v => d.resCheck k v
      | none => d
    else d

theorem Dev.writeOuts_eq (d : Dev) (c : Nat) (outs : List (Option Nat)) :
    d.writeOuts c outs = ((d.portOuts c outs).wheelOuts c outs).resOuts c outs := rfl

theorem Dev.resOuts_after (d : Dev) (hc : c < 256) (o : Nat) (outs : List (Option Nat)) : d.afterOuts c (d.resOuts o outs) :=
  (afterOuts.refl d).each _ _ fun x k hk => afterOuts.ite (fun _ => by
    split
    · exact x.resCheck_after hc (List.mem_range.1 hk) _
    · exact afterOuts.refl x) fun _ => afterOuts.refl x

theorem Dev.portOuts_one (d : Dev) {o v : Nat} (ho : o < 32) {outs : List (Option Nat)}
    (honly : ∀ p, outs.getD p none = if p = o then some v else none) : d.portOuts c outs = d.outTarget (d.word (Reg.CTX_OUT c o)) v := by
  obtain ⟨x, hx, hlast⟩ := Dev.each_at (S := fun x y => y = x) (fun _ => rfl) (fun h g => g.trans h) (List.nodup_range (n := 32))
    (List.mem_range.2 ho) (fun d o => match outs.getD o none with
      | some v => d.outTarget (d.word (Reg.CTX_OUT c o)) v
      | none => d) (fun x a _ hne => by
      rw [honly a, if_neg hne]) d
  subst hx
  refine hlast.trans ?_
  rw [honly o, if_pos rfl]

/-- A compare of a leg as the target of a port. -/
theorem Dev.outTarget_cmp (d : Dev) {n m : Nat} (hn : n < 6) (hm : m < 6) (v : Nat) : d.outTarget (0x10000000 + 256 * n + m + 1) v =
    (d.setWord (Reg.PWM_CMP_SH n m) (2 ^ 31 + v % 2 ^ 24)).updPch n fun p => { p with cmpWr := true } := by
  have hclass : (0x10000000 + 256 * n + m + 1) / 2 ^ 28 = 1 := by omega
  have hindex : (0x10000000 + 256 * n + m + 1) % 65536 = 256 * n + (m + 1) := by omega
  have hchannel : (256 * n + (m + 1)) / 256 % 8 = n := by omega
  have hcode : (256 * n + (m + 1)) % 256 = m + 1 := by omega
  have hleg : (m + 1) % 8 - 1 = m := by omega
  unfold Dev.outTarget
  rw [hclass, hindex]
  show d.pwmTarget (256 * n + (m + 1)) v = _
  unfold Dev.pwmTarget
  dsimp only
  rw [hchannel, hcode, hleg, if_neg (by omega), if_neg (by omega), if_pos (by omega)]

/-- The output write of a latch with one port on a compare of a leg. -/
theorem Dev.writeOuts_cmp (d : Dev) (hc : c < 256) {o v n m : Nat} (ho : o < 32) (hn : n < 6) (hm : m < 6) {outs : List (Option Nat)}
    (honly : ∀ p, outs.getD p none = if p = o then some v else none) (htarget : d.word (Reg.CTX_OUT c o) = 0x10000000 + 256 * n + m + 1)
    (hdone : (d.ctx c).outDue = none) : (d.writeOuts c outs).word (Reg.PWM_CMP_SH n m) = 2 ^ 31 + v % 2 ^ 24 ∧
      ((d.writeOuts c outs).ctx c).outDue = none ∧ ∀ a, (d.writeOuts c outs).byte a = d.byte a := by
  rw [Dev.writeOuts_eq, d.portOuts_one ho honly, htarget, d.outTarget_cmp hn hm]
  have hvalue : (d.setWord (Reg.PWM_CMP_SH n m) (2 ^ 31 + v % 2 ^ 24)).word (Reg.PWM_CMP_SH n m) = 2 ^ 31 + v % 2 ^ 24 := by
    rw [Dev.word_setWord_same, Nat.mod_eq_of_lt]
    have : v % 2 ^ 24 < 2 ^ 24 := Nat.mod_lt _ (by decide)
    omega
  have hctx : ((d.setWord (Reg.PWM_CMP_SH n m) (2 ^ 31 + v % 2 ^ 24)).ctx c).outDue = none := by
    rwa [Dev.ctx_of_ce (congrArg Ce.ctxs (Dev.setWord_ce _ _ _))]
  have hbyte (a : Nat) : (d.setWord (Reg.PWM_CMP_SH n m) (2 ^ 31 + v % 2 ^ 24)).byte a = d.byte a := rfl
  generalize d.setWord (Reg.PWM_CMP_SH n m) (2 ^ 31 + v % 2 ^ 24) = x at hvalue hctx hbyte
  have hafter := ((x.updPch n fun p => { p with cmpWr := true }).wheelOuts_after (c := c) c outs).trans (Dev.resOuts_after _ hc c outs)
  exact ⟨(hafter.word _ ⟨n, hn, m, hm, rfl⟩).trans hvalue, hafter.done hctx, fun a => (hafter.byte a).trans (hbyte a)⟩

end

end Sys2Proof.Machine
end

section
/-! PROOFS. The commands of output writes and LATE runs (R82 to R85, R89, R91). -/

namespace Sys2Proof.Machine

variable {s : State} {c : Nat}

/-! ## Output writes -/

/-- A context whose output write is made. -/
def Dev.outTaken (d : Dev) (c : Nat) : Dev := d.updCtx c fun x => { x with outDue := none }

theorem Dev.outTaken_ctx (d : Dev) (hc : c < 256) : (d.outTaken c).ctx c = { d.ctx c with outDue := none } := d.ctx_updCtx_same _ _ hc

theorem Dev.outTaken_keeps (d : Dev) (fs : List RF) : d.keeps (d.outTaken c) fs [.ce] := Dev.keeps_updCtx (d.keeps_refl _ _) _ _ (by simp)

/-- What the role of a context lets its output write do. -/
def Dev.roleOuts (d : Dev) (c : Nat) (x : Ctx) : Dev :=
  match x.role with
  | .normal => if d.ctxState c = 2 then d.writeOuts c x.latch else d
  | .discard => d
  | .incoming o => (d.writeOuts c x.latch).handoverDone o c

theorem exec_outputWrite {u : Nat} (hu : (s.dev.ctx c).outDue = some u) (hl : s.dev.live = true) {P : Dev → Prop}
    (hP : P (((s.dev.outTaken c).roleOuts c (s.dev.ctx c)).afterWrite c)) : Does s (.outputWrite c) P := by
  have hexec : exec (.outputWrite c) s = execOutputWrite c s := rfl
  refine State.does_run (hexec.trans rfl) hl ?_
  dsimp only
  rw [hu]
  exact hP

/-- A context in RUN with one marked port, on a compare of a leg. -/
theorem outputs_cmp (hl : s.dev.live = true) (hc : c < 256) {u : Nat} (hu : (s.dev.ctx c).outDue = some u) (hr : (s.dev.ctx c).role = .normal)
    (h2 : s.dev.ctxState c = 2) {o n m v : Nat} (ho : o < 32) (hn : n < 6) (hm : m < 6)
    (honly : ∀ p, (s.dev.ctx c).latch.getD p none = if p = o then some v else none)
    (htarget : s.dev.word (Reg.CTX_OUT c o) = 0x10000000 + 256 * n + m + 1) : Does s (.outputWrite c) (fun t =>
      t.word (Reg.PWM_CMP_SH n m) = 2 ^ 31 + v % 2 ^ 24 ∧ (t.ctx c).outDue = none ∧ ∀ a, t.byte a = s.dev.byte a) := by
  refine exec_outputWrite hu hl ?_
  have htaken := s.dev.outTaken_ctx hc
  have hstate : (s.dev.outTaken c).ctxState c = 2 := h2
  have hbyte (a : Nat) : (s.dev.outTaken c).byte a = s.dev.byte a := rfl
  have hword : (s.dev.outTaken c).word (Reg.CTX_OUT c o) = 0x10000000 + 256 * n + m + 1 := htarget
  generalize s.dev.outTaken c = x at htaken hstate hbyte hword
  obtain ⟨hvalue, hdone, hsame⟩ := x.writeOuts_cmp hc ho hn hm honly hword (by rw [htaken])
  rw [Dev.roleOuts, hr]
  dsimp only
  rw [if_pos hstate]
  generalize x.writeOuts c (s.dev.ctx c).latch = y at hvalue hdone hsame
  have hafter := y.afterWrite_after hc
  exact ⟨(hafter.word _ ⟨n, hn, m, hm, rfl⟩).trans hvalue, hafter.done hdone, fun a => (hafter.byte a).trans ((hsame a).trans (hbyte a))⟩

/-- A context that does not move to the spare. -/
theorem Dev.evacMoves_self {d : Dev} (h : (d.ctx c).evac = false) : d.evacMoves c = d := if_neg (by rw [h]; exact Bool.false_ne_true)

theorem Dev.afterWrite_stop {d : Dev} (h : (d.ctx c).evac = false) : d.afterWrite c = d.waitedStop c (d.ctx c) := by
  rw [Dev.afterWrite_eq, Dev.evacMoves_self h]

/-- A context that discards its outputs, or a shadow, writes nothing. -/
theorem Dev.roleOuts_none {d : Dev} {x : Ctx} (h : x.role = .discard ∨ (x.role = .normal ∧ d.ctxState c = 3)) : d.roleOuts c x = d := by
  rcases h with hr | ⟨hr, h3⟩
  · rw [Dev.roleOuts, hr]
  · rw [Dev.roleOuts, hr]
    exact if_neg (by omega)

theorem outputs_none (hl : s.dev.live = true) (hc : c < 256) {u : Nat} (hu : (s.dev.ctx c).outDue = some u) (hev : (s.dev.ctx c).evac = false)
    (hr : (s.dev.ctx c).role = .discard ∨ ((s.dev.ctx c).role = .normal ∧ s.dev.ctxState c = 3)) (hstop : (s.dev.ctx c).stopReq = false)
    (hhold : (s.dev.ctx c).holdStop = false) : Does s (.outputWrite c) (fun t => t.ctx c = { s.dev.ctx c with outDue := none } ∧
      (∀ k, k ≠ c → t.ctx k = s.dev.ctx k) ∧ (∀ k, t.eng k = s.dev.eng k) ∧ s.dev.keeps t [] [.ce]) := by
  refine exec_outputWrite hu hl ?_
  have htaken := s.dev.outTaken_ctx hc
  have hkept : (s.dev.outTaken c).afterWrite c = s.dev.outTaken c := by
    rw [Dev.afterWrite_stop (by rw [htaken]; exact hev), htaken]
    exact if_neg (by simp [hstop, hhold])
  rw [Dev.roleOuts_none (d := s.dev.outTaken c) hr, hkept]
  exact ⟨htaken, fun k hk => s.dev.ctx_updCtx_other _ hk, fun _ => rfl, s.dev.outTaken_keeps _⟩

/-- A STOP that waited takes effect. -/
theorem outputs_stop (hl : s.dev.live = true) (hc : c < 256) {u : Nat} (hu : (s.dev.ctx c).outDue = some u) (hev : (s.dev.ctx c).evac = false)
    (hr : (s.dev.ctx c).role = .discard) (hstop : (s.dev.ctx c).stopReq = true) : Does s (.outputWrite c) (fun t => t.ctxState c = 1 ∧
      (t.ctx c).stopReq = false ∧ s.dev.keeps t [Reg.CTX_W0_STATE c] [.ce]) := by
  refine exec_outputWrite hu hl ?_
  have htaken := s.dev.outTaken_ctx hc
  have hkeeps := s.dev.outTaken_keeps (c := c) [Reg.CTX_W0_STATE c]
  rw [Dev.roleOuts_none (d := s.dev.outTaken c) (.inl hr)]
  generalize s.dev.outTaken c = x at htaken hkeeps
  rw [Dev.afterWrite_stop (by rw [htaken]; exact hev), Dev.waitedStop, if_pos (.inl (by rw [htaken]; exact hstop)), Dev.ctxState, Dev.g_updCtx,
    Dev.ctx_updCtx_same _ _ _ hc]
  exact ⟨Dev.g_s_same _ _ _ (ctxState_fits c).1 (ctxState_fits c).2, rfl,
    Dev.keeps_updCtx (Dev.keeps_s (by simp) (ctxState_fits c).1 (ctxState_fits c).2 hkeeps) _ _ (by simp)⟩

/-! ## LATE runs (R83, R84) -/

/-- A LATE run out of its queue. -/
def Dev.lateDropped (d : Dev) (c : Nat) : Dev :=
  (d.updEng (d.ctxEng c) fun g => g.keepsRuns fun q => q.ctx != c).updCtx c fun x =>
    { x with phase := .idle, late := true, cmpOwn := none, cmpLive := none }

/-- A LATE run counted. -/
def Dev.lateCounted (d : Dev) (c : Nat) : Dev := (d.inc (Reg.CTX_LATE_CNT_COUNT c)).inc (Reg.CTX_STAT_CONSEC_LATE c)

/-- The comparisons of a context's shadows end with its LATE run. -/
def Dev.lateShadows (d : Dev) (c : Nat) : Dev :=
  d.each (d.shadowsOf c) fun d y => (d.s (Reg.CTX_STAT_SHD_MATCH y) 0).updCtx y fun z => { z with cmpOwn := none, cmpLive := none }

/-- A LATE run noted: taken from its queue, counted and recorded. -/
def Dev.lateNoted (d : Dev) (c delay : Nat) : Dev :=
  ((d.lateDropped c).lateCounted c).raise Err.CE_CTX_LATE ([c, d.ctxEng c] ++ rtWords (d.ctx c).t0rt ++ [delay])

/-- At LATE_MAX LATE runs in a row a context faults. -/
def Dev.lateFaults (d : Dev) (c : Nat) : Dev :=
  if d.g (Reg.CTX_W1_LATE_MAX c) ≤ d.g (Reg.CTX_STAT_CONSEC_LATE c) then d.ctxFault c 1 else d

theorem Dev.lateDropped_keeps (d : Dev) (fs : List RF) : d.keeps (d.lateDropped c) fs [.ce] :=
  Dev.keeps_updCtx (Dev.keeps_withCe (by simp) (d.keeps_refl _ _)) _ _ (by simp)

theorem lateCnt_fits (c : Nat) : (Reg.CTX_LATE_CNT_COUNT c).fits := RF.fits_of rfl
theorem consecLate_fits (c : Nat) : (Reg.CTX_STAT_CONSEC_LATE c).fits := RF.fits_of rfl

theorem lateKeys_ne (c : Nat) : Reg.CTX_LATE_CNT c ≠ Reg.CTX_STAT c := by
  unfold Reg.CTX_LATE_CNT Reg.CTX_STAT
  omega

theorem Dev.lateCounted_spec (d : Dev) (c : Nat) :
    (d.lateCounted c).g (Reg.CTX_LATE_CNT_COUNT c) = satInc (2 ^ 32 - 1) (d.g (Reg.CTX_LATE_CNT_COUNT c)) ∧
    (d.lateCounted c).g (Reg.CTX_STAT_CONSEC_LATE c) = satInc 255 (d.g (Reg.CTX_STAT_CONSEC_LATE c)) ∧
    d.keeps (d.lateCounted c) [Reg.CTX_LATE_CNT_COUNT c, Reg.CTX_STAT_CONSEC_LATE c] [] := by
  have hcount := d.g_inc32 _ (lateCnt_fits c) (by show 31 - 0 + 1 = 32; rfl)
  have hkept := d.inc_keeps (Reg.CTX_LATE_CNT_COUNT c) (lateCnt_fits c).1 (lateCnt_fits c).2
    (fs := [Reg.CTX_LATE_CNT_COUNT c, Reg.CTX_STAT_CONSEC_LATE c]) (ps := []) List.mem_cons_self
  have hbefore : (d.inc (Reg.CTX_LATE_CNT_COUNT c)).g (Reg.CTX_STAT_CONSEC_LATE c) = d.g (Reg.CTX_STAT_CONSEC_LATE c) :=
    d.g_s_other _ _ _ (lateKeys_ne c).symm
  unfold Dev.lateCounted
  generalize d.inc (Reg.CTX_LATE_CNT_COUNT c) = x at hcount hkept hbefore
  refine ⟨(x.g_s_other _ _ _ (lateKeys_ne c)).trans hcount, ?_,
    Dev.keeps_trans hkept (x.inc_keeps _ (consecLate_fits c).1 (consecLate_fits c).2 (by simp))⟩
  rw [x.g_inc _ (consecLate_fits c).1 (consecLate_fits c).2, hbefore]
  rfl

/-- The fields that count a LATE run. -/
def lateFields (c : Nat) : List RF := [Reg.CTX_LATE_CNT_COUNT c, Reg.CTX_STAT_CONSEC_LATE c]

/-- The words of a context's entry. -/
def entryKey (c k : Nat) : Prop := Reg.CTX_W0 c ≤ k ∧ k < Reg.CTX_W0 c + 0x20

theorem entryKey_w0 (c : Nat) : entryKey c (Reg.CTX_W0 c) := ⟨Nat.le_refl _, by omega⟩

theorem entryKey_w1 (c : Nat) : entryKey c (Reg.CTX_W1 c) := by
  unfold entryKey Reg.CTX_W0 Reg.CTX_W1
  omega

theorem entryKey_low {c k : Nat} (hc : c < 256) (hk : entryKey c k) : k < 0x30034000 := by
  unfold entryKey Reg.CTX_W0 at hk
  omega

theorem entryKey_apart {c k : Nat} (hc : c < 256) (hk : entryKey c k) : ∀ f ∈ lateFields c, k ≠ f.key := by
  have hlow := entryKey_low hc hk
  simp only [lateFields, Reg.CTX_LATE_CNT_COUNT, Reg.CTX_STAT_CONSEC_LATE, List.forall_mem_cons]
  unfold Reg.CTX_LATE_CNT Reg.CTX_STAT
  simp only [List.not_mem_nil, false_imp_iff, implies_true, and_true]
  omega

theorem Dev.lateDropped_g (d : Dev) (c : Nat) (r : RF) : (d.lateDropped c).g r = d.g r := rfl

theorem Dev.lateDropped_queue (d : Dev) (he : d.ctxEng c < 12) : ∀ q ∈ ((d.lateDropped c).eng (d.ctxEng c)).queue, q.ctx ≠ c := by
  intro q hq
  rw [Dev.lateDropped, Dev.eng_updCtx, Dev.eng_updEng_same _ _ _ he] at hq
  simpa using (List.mem_filter.1 hq).2

/-- What a LATE run shows up to its fault. -/
structure Dev.isLate (d t : Dev) (c delay : Nat) : Prop where
  phase : (t.ctx c).phase = .idle
  queue : ∀ q ∈ (t.eng (d.ctxEng c)).queue, q.ctx ≠ c
  count : t.g (Reg.CTX_LATE_CNT_COUNT c) = satInc (2 ^ 32 - 1) (d.g (Reg.CTX_LATE_CNT_COUNT c))
  consec : t.g (Reg.CTX_STAT_CONSEC_LATE c) = satInc 255 (d.g (Reg.CTX_STAT_CONSEC_LATE c))
  record : d.record Err.CE_CTX_LATE ([c, d.ctxEng c] ++ rtWords (d.ctx c).t0rt ++ [delay]) ∈ t.raised
  entry : ∀ k, entryKey c k → t.word k = d.word k
  tb : t.tb = d.tb
  pwm : t.pwm = d.pwm

theorem Dev.lateNoted_isLate (d : Dev) (hc : c < 256) (he : d.ctxEng c < 12) (delay : Nat) : d.isLate (d.lateNoted c delay) c delay := by
  have hkeeps := d.lateDropped_keeps (c := c) (lateFields c)
  have hphase : ((d.lateDropped c).ctx c).phase = .idle := by rw [Dev.lateDropped, Dev.ctx_updCtx_same _ _ _ hc]
  have hqueue := d.lateDropped_queue he
  have hcnt := d.lateDropped_g c (Reg.CTX_LATE_CNT_COUNT c)
  have hcon := d.lateDropped_g c (Reg.CTX_STAT_CONSEC_LATE c)
  unfold Dev.lateNoted
  generalize d.lateDropped c = x at hkeeps hphase hqueue hcnt hcon
  obtain ⟨hcount, hconsec, hcounted⟩ := x.lateCounted_spec c
  generalize x.lateCounted c = y at hcount hconsec hcounted
  rw [hcnt] at hcount
  rw [hcon] at hconsec
  obtain ⟨hrecord, hnoted⟩ := y.raise_spec Err.CE_CTX_LATE ([c, d.ctxEng c] ++ rtWords (d.ctx c).t0rt ++ [delay])
  generalize y.raise Err.CE_CTX_LATE ([c, d.ctxEng c] ++ rtWords (d.ctx c).t0rt ++ [delay]) = z at hrecord hnoted
  have hce : z.ce = x.ce := (hnoted.2 .ce (by decide)).trans (hcounted.2 .ce (by simp))
  have hword (k : Nat) : z.word k = y.word k := Dev.word_of_keeps hnoted (by simp)
  have hall : d.keeps z (lateFields c) [.ce, .raised] := Dev.keeps_trans (Dev.keeps_mono hkeeps (List.Subset.refl _) (by simp))
    (Dev.keeps_trans (Dev.keeps_mono hcounted (List.Subset.refl _) (by simp)) (Dev.keeps_mono hnoted (by simp) (by simp)))
  have htb : y.tb = d.tb := (hcounted.2 .tb (by simp)).trans (hkeeps.2 .tb (by decide))
  refine ⟨?_, ?_, (Dev.g_of_word (hword _)).trans hcount, (Dev.g_of_word (hword _)).trans hconsec, ?_,
    fun k hk => Dev.word_of_keeps hall (entryKey_apart hc hk), hall.2 .tb (by decide), hall.2 .pwm (by decide)⟩
  · rw [Dev.ctx_of_ce (d := x) (congrArg Ce.ctxs hce), hphase]
  · rwa [Dev.eng_of_ce (d := x) (congrArg Ce.engs hce)]
  · rw [hrecord, Dev.plusRecord, Dev.record, Dev.record, htb]
    exact List.mem_append_right _ List.mem_cons_self

/-- The turns of the shadows leave what a LATE run shows. -/
theorem Dev.isLate.shadows {d t : Dev} {delay : Nat} (h : d.isLate t c delay) (hc : c < 256) (h2 : t.ctxState c = 2) :
    d.isLate (t.lateShadows c) c delay := by
  have hturn (x : Dev) (y : Nat) (hy : y ≠ c) :
      x.LeavesCtx c ((x.s (Reg.CTX_STAT_SHD_MATCH y) 0).updCtx y fun z => { z with cmpOwn := none, cmpLive := none }) :=
    ((LeavesCtx.refl x).s (Reg.CTX_STAT_SHD_MATCH y) 0 (statKey_beside hy).1).updCtx _ hy
  have hleaves : t.LeavesCtx c (t.lateShadows c) := (LeavesCtx.refl t).each _ _ fun x y hy => hturn x y (Dev.shadow_ne h2 hy)
  have hengs : (t.lateShadows c).eng (d.ctxEng c) = t.eng (d.ctxEng c) :=
    Dev.each_rel (R := fun x y => y.eng (d.ctxEng c) = x.eng (d.ctxEng c)) (fun _ => rfl) (fun h g => g.trans h) _ _
      (fun x y => by rw [Dev.eng_updCtx, Dev.eng_s]) t
  generalize t.lateShadows c = u at hleaves hengs
  have hraised : u.raised = t.raised := hleaves.within.part .raised (by decide)
  have hpwm : u.pwm = t.pwm := hleaves.within.part .pwm (by decide)
  have htb : u.tb = t.tb := hleaves.within.part .tb (by decide)
  refine ⟨by rw [hleaves.ctx, h.phase], by rw [hengs]; exact h.queue, ?_, ?_, hraised ▸ h.record, fun k hk => ?_, htb.trans h.tb, hpwm.trans h.pwm⟩
  · exact (Dev.g_of_word (f := Reg.CTX_LATE_CNT_COUNT c) (hleaves.word (k := Reg.CTX_LATE_CNT c) (by unfold Reg.CTX_LATE_CNT; omega))).trans h.count
  · exact (Dev.g_of_word (f := Reg.CTX_STAT_CONSEC_LATE c) (hleaves.word (k := Reg.CTX_STAT c) (by unfold Reg.CTX_STAT; omega))).trans h.consec
  · exact (hleaves.word (.inl (entryKey_low hc hk))).trans (h.entry k hk)

/-- A fault of the context itself leaves its counts and puts none of its runs back. -/
theorem Dev.ctxFault_late {d : Dev} (hc : c < 256) (cause : Nat) :
    ((d.ctx c).phase = .idle → ((d.ctxFault c cause).ctx c).phase = .idle) ∧
    (d.ctxFault c cause).word (Reg.CTX_LATE_CNT c) = d.word (Reg.CTX_LATE_CNT c) ∧
    (d.ctxFault c cause).word (Reg.CTX_STAT c) = d.word (Reg.CTX_STAT c) ∧ d.raised <+: (d.ctxFault c cause).raised ∧
    ∀ k, ((d.ctxFault c cause).eng k).queue ⊆ (d.eng k).queue := by
  have hthins := d.ctxFault_thins c cause
  refine ⟨fun hi => ?_, hthins.within.word _ ?_, hthins.within.word _ ?_, hthins.within.records, fun k => (hthins.engs k).queue⟩
  · rcases d.ctxFault_ctx c cause c with h | h
    · rwa [h]
    · rw [h, Dev.ctxDrop_ctx_same _ hc]
      rfl
  · rintro (hk | ⟨hk, _⟩)
    · unfold Reg.CTX_LATE_CNT Reg.CTX_W0 at hk
      omega
    · unfold driveKey Reg.CTX_LATE_CNT at hk
      omega
  · rintro (hk | ⟨hk, _⟩)
    · unfold Reg.CTX_STAT Reg.CTX_W0 at hk
      omega
    · unfold driveKey Reg.CTX_STAT at hk
      omega

/-- A LATE run with its fault at LATE_MAX. -/
theorem Dev.lateFaults_spec {d t : Dev} {delay : Nat} (h : d.isLate t c delay) (hc : c < 256) (h2 : d.ctxState c = 2) :
    ((t.lateFaults c).ctx c).phase = .idle ∧ (∀ q ∈ ((t.lateFaults c).eng (d.ctxEng c)).queue, q.ctx ≠ c) ∧
    (t.lateFaults c).g (Reg.CTX_LATE_CNT_COUNT c) = satInc (2 ^ 32 - 1) (d.g (Reg.CTX_LATE_CNT_COUNT c)) ∧
    (t.lateFaults c).g (Reg.CTX_STAT_CONSEC_LATE c) = satInc 255 (d.g (Reg.CTX_STAT_CONSEC_LATE c)) ∧
    d.record Err.CE_CTX_LATE ([c, d.ctxEng c] ++ rtWords (d.ctx c).t0rt ++ [delay]) ∈ (t.lateFaults c).raised ∧
    (d.g (Reg.CTX_W1_LATE_MAX c) ≤ satInc 255 (d.g (Reg.CTX_STAT_CONSEC_LATE c)) → (t.lateFaults c).ctxState c = 4 ∧
      d.record Err.CE_CTX_FAULT [c, 1, d.ctxBind c] ∈ (t.lateFaults c).raised ∧
      ∀ n < 6, (d.ctxBind c).testBit n = true → (⟨n, 5, 1000 + c⟩ : ForceCond) ∈ (t.lateFaults c).pwm.conds) ∧
    (satInc 255 (d.g (Reg.CTX_STAT_CONSEC_LATE c)) < d.g (Reg.CTX_W1_LATE_MAX c) → (t.lateFaults c).ctxState c = 2 ∧
      (t.lateFaults c).pwm = d.pwm) := by
  have hstate : t.ctxState c = 2 := (Dev.ctxState_of_word (h.entry _ (entryKey_w0 c))).trans h2
  have hbind : t.ctxBind c = d.ctxBind c := Dev.ctxBind_of_word (h.entry _ (entryKey_w1 c))
  have hmax : t.g (Reg.CTX_W1_LATE_MAX c) = d.g (Reg.CTX_W1_LATE_MAX c) := Dev.g_of_word (h.entry _ (entryKey_w1 c))
  have hrec : t.record Err.CE_CTX_FAULT [c, 1, t.ctxBind c] = d.record Err.CE_CTX_FAULT [c, 1, d.ctxBind c] := by
    rw [Dev.record, Dev.record, h.tb, hbind]
  unfold Dev.lateFaults
  rw [hmax, h.consec]
  by_cases hlate : d.g (Reg.CTX_W1_LATE_MAX c) ≤ satInc 255 (d.g (Reg.CTX_STAT_CONSEC_LATE c))
  · rw [if_pos hlate]
    obtain ⟨h4, _, hrecord, hconds⟩ := t.ctxFault_spec hc (by omega) (by omega) 1
    obtain ⟨hphase, hcnt, hstat, hraised, hqueue⟩ := t.ctxFault_late hc 1
    refine ⟨hphase h.phase, fun q hq => h.queue q (hqueue _ hq), ?_, ?_, hraised.subset h.record, fun _ => ⟨h4, hrec ▸ hrecord, hbind ▸ hconds⟩,
      fun hlt => absurd hlate (Nat.not_le.2 hlt)⟩
    · exact (Dev.g_of_word (f := Reg.CTX_LATE_CNT_COUNT c) hcnt).trans h.count
    · exact (Dev.g_of_word (f := Reg.CTX_STAT_CONSEC_LATE c) hstat).trans h.consec
  · rw [if_neg hlate]
    exact ⟨h.phase, h.queue, h.count, h.consec, h.record, fun hle => absurd hle hlate, fun _ => ⟨hstate, h.pwm⟩⟩

/-- A LATE run of a shadow ends its matches. -/
def Dev.lateMatch (d : Dev) (c : Nat) : Dev := if d.ctxState c = 3 then d.s (Reg.CTX_STAT_SHD_MATCH c) 0 else d

/-- What a LATE run does to a handover (R92). -/
def Dev.lateHandover (d : Dev) (c : Nat) (x : Ctx) : Dev :=
  match x.role with
  | .incoming o =>
    let d := d.updCtx o fun y => { y with role := .normal }
    d.when (d.ctx o).late fun d => d.raise Err.CE_HO_BAD [o, c]
  | _ => match x.handover with
    | some i => d.when (x.role == .discard && (d.ctx i).late) fun d => d.raise Err.CE_HO_BAD [c, i]
    | none => d

theorem exec_ceCtxLate (c delay : Nat) (s : State) : exec (.ceCtxLate c delay) s = s.run fun d =>
    if (d.ctx c).phase ≠ .queued then d
    else ((((d.lateNoted c delay).lateMatch c).lateShadows c).lateHandover c (d.ctx c)).lateFaults c := rfl

/-- A LATE run of a context in RUN that hands over nothing. -/
theorem ceCtxLate_runs (hl : s.dev.live = true) (hp : (s.dev.ctx c).phase = .queued) (hr : (s.dev.ctx c).role = .normal)
    (hh : (s.dev.ctx c).handover = none) {delay : Nat} (h2 : (s.dev.lateNoted c delay).ctxState c = 2) {P : Dev → Prop}
    (hP : P (((s.dev.lateNoted c delay).lateShadows c).lateFaults c)) : Does s (.ceCtxLate c delay) P := by
  refine State.does_run (exec_ceCtxLate c delay s) hl ?_
  rw [if_neg (not_not.2 hp), Dev.lateMatch, if_neg (by omega), Dev.lateHandover, hr, hh]
  exact hP

/-- Output writes and LATE runs. -/
theorem outputsAndLate_hold : outputsAndLate := fun s hl c _ hc =>
  ⟨fun u hu hev => ⟨fun hr h2 o ho n hn m hm v honly htarget => outputs_cmp hl hc hu hr h2 ho hn hm honly htarget,
      fun hr hstop hhold => outputs_none hl hc hu hev hr hstop hhold, fun hr hstop => outputs_stop hl hc hu hev hr hstop⟩,
    fun hp hr hh h2 he delay => by
      have hlate := s.dev.lateNoted_isLate hc he delay
      have hstate : (s.dev.lateNoted c delay).ctxState c = 2 := (Dev.ctxState_of_word (hlate.entry _ (entryKey_w0 c))).trans h2
      exact ceCtxLate_runs hl hp hr hh hstate (Dev.lateFaults_spec (hlate.shadows hc hstate) hc h2)⟩

end Sys2Proof.Machine
end

section
open Sys2Proof Sys2Proof.Machine

/-- Settles O15: the triggers of contexts, their output writes and their LATE runs. -/
theorem contextScheduling : Obligations.ContextScheduling := ⟨contextTriggers_hold, outputsAndLate_hold⟩

end
